-- ==== Sys2Proof/Word.lean ====
section
/-!
DEFINITION. The words of the machine: registers are 32 bits wide (R2's chapter 00), the memory map is addressed by
bytes (R20).
-/

namespace Sys2Proof

/-- A register word. -/
abbrev Word := BitVec 32

/-- A byte of memory. -/
abbrev Byte := BitVec 8

end Sys2Proof
end

