-- ==== Sys2Proof/Syntax.lean ====
section
/-!
DEFINITION. The commands of the block: one constructor for every row of the spec's table of operations and events, with
the row's operands. Indices that the spec bounds are `Fin`; data that come from outside the block (words written, bytes of
a message, what a converter, a comparator or a link partner delivered) are operands.
-/

namespace Sys2Proof

/-- A site, S0 to S63. -/
abbrev Site := Fin 64
/-- A cluster, CL0 to CL31. -/
abbrev Cluster := Fin 32
/-- A channel, CH0 to CH511. -/
abbrev Channel := Fin 512
/-- A channel within a cluster. -/
abbrev Chan16 := Fin 16
/-- An express lane. -/
abbrev Lane := Fin 128
/-- An Ulten port. -/
abbrev Port := Fin 4
/-- A lane of an Ulten port. -/
abbrev PLane := Fin 2
/-- A target of the interrupt controller. -/
abbrev Target := Fin 17
/-- A mailbox. -/
abbrev Mailbox := Fin 32
/-- A site core. -/
abbrev Core := Fin 16
/-- A DMA engine. -/
abbrev Engine8 := Fin 8
/-- An eight-bit tag or set number. -/
abbrev Set8 := Fin 256
/-- A drawer ID. -/
abbrev DrawerId := Fin 1048576

/-- A requester (R17, R22): a site core, the management core, the host, a DMA engine, Ulten management traffic, or the
device's own stream engine and sequencer. -/
inductive Req where
  | core (n : Core)
  | mgmt
  | host
  | dma (e : Engine8)
  | ulten
  | device
  deriving DecidableEq, Repr

/-- What the comparator of one channel detected for one vector (R216, R217): channel, the states (A, B) of the strobe, of
the window or of the first half of a DUAL vector, and those of the second half. -/
structure Obs where
  ch : Nat
  first : List (Bool × Bool)
  second : List (Bool × Bool)
  deriving DecidableEq, Repr

/-- The operations of AMO instructions (RV64A, R328). -/
inductive AmoOp where
  | swap | add | xor | and | or | min | max | minu | maxu
  deriving DecidableEq, Repr


/-- What an express lane has done when a command reaches it: bits compared and bits in error since the lane's previous command
(R310), bits sent since START (R322), the latest received word at the word boundary (R318), the signal detector (R311). -/
structure XlSeen where
  bits : Nat
  errs : Nat
  sent : Nat
  rx : BitVec 64
  sig : Bool
  deriving DecidableEq, Repr

/-- The commands, in the order of the table. -/
inductive Instr where
  /-- REGISTER_WRITE (R2): A 32-bit write to a register field that has no row of its own takes effect under its access type, subject to the refusal and drop rules. -/
  | registerWrite (r:Req) (off size v:Nat)
  /-- RC_READ (R4): A read of a read-clear counter returns its value and clears it, keeping an event of the same cycle. -/
  | rcRead (r:Req) (off:Nat)
  /-- PAIR_LO_READ (R17): A read of the _LO half of a pair returns the low word and captures the high word in the requester's snapshot. -/
  | pairLoRead (r:Req) (off:Nat)
  /-- PAIR_HI_READ (R18): A read of the _HI half of a pair returns the requester's snapshot, or 0 if no _LO read was made since reset. -/
  | pairHiRead (r:Req) (off:Nat)
  /-- PAIR_HI_WRITE (R19): A write of the _HI half of a pair stages the high word in the requester's staging register. -/
  | pairHiWrite (r:Req) (off:Nat) (v:Word)
  /-- PAIR_LO_WRITE (R19): A write of the _LO half of a pair commits the low word and the staged high word in one update, then clears the staging register. -/
  | pairLoWrite (r:Req) (off:Nat) (v:Word)
  /-- MEMORY_WRITE (R51): A requester write to the memory map is divided into 64-byte beats, checked against the guard, logged and performed. -/
  | memoryWrite (r:Req) (addr:Nat) (data:List Byte)
  /-- MEMORY_READ (R99): A read of HBM3E completes, with its ECC checked and handled according to the reader. -/
  | memoryRead (r:Req) (addr n:Nat) (ce ue:List Nat)
  /-- ECC_WRITEBACK (R98): The corrected burst is written back once the bank is idle. -/
  | eccWriteback (burst:Nat)
  /-- REFCLK_LOST (R23): No REFCLK edge has arrived for 40 ns, so the device declares loss and enters holdover or starts the fallback. -/
  | refclkLost
  /-- REFCLK_FREQ_ERR (R23): The measured REFCLK frequency leaves the ±200 ppm window. -/
  | refclkFreqErr (ppm:Int)
  /-- REFCLK_IN_WINDOW (R23): REFCLK has been within ±200 ppm continuously for 10 ms and is declared in window again. -/
  | refclkInWindow
  /-- SWITCH_TO_RECOVERED (R24): After holdover, the reference switches to the clock recovered from the up-port. -/
  | switchToRecovered
  /-- REFCLK_RETURN (R26): With REFCLK in window and no site armed, the device returns to REFCLK through a 50 µs holdover. -/
  | refclkReturn
  /-- CLUSTER_PLL_UNLOCK (R29): A cluster PLL loses lock, and sites using the cluster count as running without a valid reference. -/
  | clusterPllUnlock (k:Cluster)
  /-- CLUSTER_PLL_RELOCK (R29): A cluster PLL regains lock, and the reference counts as valid again for its sites. -/
  | clusterPllRelock (k:Cluster)
  /-- DRW_NOP (R43): The DRW NOP command is accepted and completes with DONE. -/
  | drwNop (tag:Set8)
  /-- COMMIT (R45): The DRW COMMIT command reads and write-protects the directory entry and starts the checks. -/
  | commit (tag:Set8) (id:DrawerId)
  /-- RETIRE (R47): The DRW RETIRE command starts the retirement of a committed drawer. -/
  | retire (tag:Set8) (id:DrawerId)
  /-- PIN (R56): The DRW PIN command starts setting PINNED on a committed drawer. -/
  | pin (tag:Set8) (id:DrawerId)
  /-- UNPIN (R56): The DRW UNPIN command starts clearing PINNED, unless an express lane uses the drawer. -/
  | unpin (tag:Set8) (id:DrawerId)
  /-- SHELF_ALLOC (R54): The DRW SHELF_ALLOC command allocates the lowest-addressed free run of the requested number of shelf pages. -/
  | shelfAlloc (tag:Set8)
  /-- SHELF_FREE (R54): The DRW SHELF_FREE command frees the allocation that starts at the given base. -/
  | shelfFree (tag:Set8)
  /-- DRW_CMD_DONE (R43): A DRW command completes, writes RESULT, clears BUSY and sets CMD_DONE. -/
  | drwCmdDone
  /-- ART_INSERT (R50): An active-range entry for a drawer selected in run-ahead is inserted into the table. -/
  | artInsert (n:Site) (id:DrawerId)
  /-- STRM_FETCH_ISSUE (R65): A fetch request for a site is issued once the FIFO has room and the credit suffices. -/
  | strmFetchIssue (n:Site) (st:Nat)
  /-- STRM_FETCH_COMPLETE (R64): Fetched pattern data arrives in the site's FIFO, or is discarded if it is late or stale. -/
  | strmFetchComplete (n:Site) (i:Nat) (ce ue:List Nat)
  /-- READINESS_POINT (R60): At 20 ns before a frame boundary, the next frame is judged ready or starved. -/
  | readinessPoint (n:Site)
  /-- FRAME_BOUNDARY (R58): A site's frame boundary passes and the next frame, or its starvation substitute, is released to the pins. -/
  | frameBoundary (n:Site)
  /-- LEDGER_PCT_WRITE (R75): A write of STRM_LEDGER_CTRL.PCT changes the guarantee and may set LEDGER_OVER. -/
  | ledgerPctWrite (v:Word)
  /-- MEMC_ENQUEUE (R90): A request is split into bank-queue entries, and the requester is held until there is room. -/
  | memcEnqueue (r:Req) (wr:Bool) (addr len level:Nat)
  /-- INORDER_EXIT (R93): The bank leaves in-order mode once the earlier writes have drained. -/
  | inorderExit (p:Cluster) (b:Fin 48)
  /-- REFRESH_INTERVAL (R95): A refresh interval expires, and each bank either refreshes or adds to its refresh debt. -/
  | refreshInterval
  /-- REFRESH_ISSUE (R95): A postponed per-bank refresh is issued once the bank is idle, and the debt decreases. -/
  | refreshIssue (p:Cluster) (b:Fin 48)
  /-- REFRESH_ALL_BANK (R96): A bank debt of 8 triggers an all-bank refresh of the pseudo-channel. -/
  | refreshAllBank (p:Cluster)
  /-- STACK_TEMP_CHANGE (R95): The stack temperature crosses 85 °C, which changes the refresh interval and TEMP_HIGH. -/
  | stackTempChange (t:Int)
  /-- RETRAIN_SESSION_START (R101): A retraining session starts on the next pseudo-channel in turn when INTERVAL expires. -/
  | retrainSessionStart
  /-- RETRAIN_SLICE (R101): Every 4 µs during a session, the pseudo-channel is withdrawn for one training slice. -/
  | retrainSlice (start:Bool)
  /-- RETRAIN_SESSION_END (R104): A retraining session ends and succeeds or fails. -/
  | retrainSessionEnd (ok:Bool)
  /-- MEMC_RETRAIN_START (R103): The retraining START command requests a session on a chosen pseudo-channel. -/
  | memcRetrainStart (p:Cluster)
  /-- MEMC_RETRAIN_ENABLE_WRITE (R102): A write of MEMC_RETRAIN_CTRL.ENABLE changes the retraining reservation and may set LEDGER_OVER. -/
  | memcRetrainEnableWrite (v:Word)
  /-- PC_POWER_ENTER (R106): An idle pseudo-channel enters the deepest allowed power state once its idle time expires. -/
  | pcPowerEnter (p:Cluster)
  /-- PC_WAKE (R107): A request or a lowered STRM_TOL_MIN wakes a sleeping pseudo-channel. -/
  | pcWake (p:Cluster)
  /-- PC_WAKE_DONE (R107): A pseudo-channel completes its exit latency and returns to ACTIVE. -/
  | pcWakeDone (p:Cluster)
  /-- ENGINE_CONTEXT_SWITCH (R112): A context's slice ends and the engine moves to the next active context. -/
  | engineContextSwitch (e:Core)
  /-- RUNAHEAD_RESUME (R494): A stopped run-ahead resumes once play frees room, a slot or an active-range entry. -/
  | runaheadResume (n:Site) (p:Option Nat)
  /-- DIRECTORY_READ_DONE (R113): A directory entry read for run-ahead or prefetch arrives and the context becomes active again. -/
  | directoryReadDone (n:Site) (p:Option Nat)
  /-- ILIST_FETCH_DONE (R113): An instruction fetch arrives, possibly poisoned, and the context becomes active again. -/
  | ilistFetchDone (n:Site) (p:Option Nat) (i cnt:Nat) (ce ue:List Nat)
  /-- VEC (R121): The VEC instruction resolves granules from the cursor for play. -/
  | vec (n:Site) (p:Option Nat) (parity:Bool)
  /-- RPT (R121): The RPT instruction resolves a block of granules TIMES times. -/
  | rpt (n:Site) (p:Option Nat) (parity:Bool)
  /-- LOOP (R122): The LOOP instruction opens a loop entry. -/
  | loop (n:Site) (p:Option Nat) (parity:Bool)
  /-- ENDL (R123): The ENDL instruction closes a loop iteration, or counts ENDL_EMPTY when no loop is open. -/
  | endl (n:Site) (p:Option Nat) (parity:Bool)
  /-- JMP (R122): The JMP instruction enters a target drawer. -/
  | jmp (n:Site) (p:Option Nat) (parity:Bool)
  /-- JMPC (R138): The JMPC instruction continues on the fall-through path and prefetches the target. -/
  | jmpc (n:Site) (p:Option Nat) (parity:Bool)
  /-- CALL (R122): The CALL instruction pushes a return point and enters the target. -/
  | call (n:Site) (p:Option Nat) (parity:Bool)
  /-- RET (R120): The RET instruction pops the return point and restores the cursor and loop depth. -/
  | ret (n:Site) (p:Option Nat) (parity:Bool)
  /-- MATCHWAIT (R134): The MATCHWAIT instruction clears MATCH and loops a shelf drawer until a match or a timeout. -/
  | matchwait (n:Site) (p:Option Nat) (parity:Bool)
  /-- TSET (R110): The TSET instruction selects the timing set for the following granules. -/
  | tset (n:Site) (p:Option Nat) (parity:Bool)
  /-- LEVELS (R126): The LEVELS instruction selects the level set and starts a settling window. -/
  | levels (n:Site) (p:Option Nat) (parity:Bool)
  /-- CAPT_MARK (R243): The CAPT instruction with action MARK writes a MARK capture record with its tag. -/
  | captMark (n:Site) (p:Option Nat) (parity:Bool)
  /-- CAPT_ENABLE (R240): The CAPT instruction with action ENABLE sets the capture enable from its granule. -/
  | captEnable (n:Site) (p:Option Nat) (parity:Bool)
  /-- CAPT_DISABLE (R240): The CAPT instruction with action DISABLE clears the capture enable from its granule. -/
  | captDisable (n:Site) (p:Option Nat) (parity:Bool)
  /-- CAPT_TRIG (R233): The CAPT instruction with action TRIG makes the CAPT_TRIG trigger event true at its vector. -/
  | captTrig (n:Site) (p:Option Nat) (parity:Bool)
  /-- SIGNAL_SCHED (R125): The SIGNAL instruction with DEST SCHED enqueues a work-item template in play order. -/
  | signalSched (n:Site) (p:Option Nat) (parity:Bool)
  /-- SIGNAL_DOORBELL (R125): The SIGNAL instruction with DEST DOORBELL sets a device-to-host doorbell bit. -/
  | signalDoorbell (n:Site) (p:Option Nat) (parity:Bool)
  /-- TRANSIT_SPAN (R137): The TRANSIT instruction with SCOPE 0 fills the frame and waits at the span barrier. -/
  | transitSpan (n:Site) (p:Option Nat) (parity:Bool)
  /-- TRANSIT_DOMAIN (R277): The TRANSIT instruction with SCOPE 1 waits at the domain-wide barrier and sends DT_ARRIVE. -/
  | transitDomain (n:Site) (p:Option Nat) (parity:Bool)
  /-- FLAG (R124): The FLAG instruction clears the selected sticky site flags at its boundary. -/
  | flag (n:Site) (p:Option Nat) (parity:Bool)
  /-- HALT (R127): The HALT instruction stops the site with its halt code. -/
  | halt (n:Site) (p:Option Nat) (parity:Bool)
  /-- KEEP (R120): The KEEP instruction resolves hold granules. -/
  | keep (n:Site) (p:Option Nat) (parity:Bool)
  /-- XLMARK_START (R322): The XLMARK instruction with action START starts the lanes of a lane group. -/
  | xlmarkStart (n:Site) (p:Option Nat) (parity:Bool)
  /-- XLMARK_STOP (R322): The XLMARK instruction with action STOP stops the lanes or checkers of a lane group. -/
  | xlmarkStop (n:Site) (p:Option Nat) (parity:Bool)
  /-- XLMARK_MARK (R322): The XLMARK instruction with action MARK marks the lanes of a lane group with a tag. -/
  | xlmarkMark (n:Site) (p:Option Nat) (parity:Bool)
  /-- WAITCORE (R136): The WAITCORE instruction plays hold granules until a CORE flag is set or a timeout. -/
  | waitcore (n:Site) (p:Option Nat) (parity:Bool)
  /-- UNDEFINED_OPCODE (R115): A word with an undefined opcode, or a position past the list, halts the site with ILLEGAL_OP when it takes effect. -/
  | undefinedOpcode (n:Site) (p:Option Nat)
  /-- GRANULE_BOUNDARY (R110): A granule boundary passes in play, where instructions take effect and halts occur. -/
  | granuleBoundary (n:Site)
  /-- BRANCH_DECISION (R128): A JMPC or MATCHWAIT decision is taken on its flag value, and the branch is taken or the prefetch discarded. -/
  | branchDecision (n:Site)
  /-- MATCHWAIT_TIMEOUT (R134): The last pass of a MATCHWAIT ends without a match, and play continues at TIDX after the shadow. -/
  | matchwaitTimeout (n:Site)
  /-- WAITCORE_TIMEOUT (R136): A WAITCORE reaches its timeout without the flag set and continues at TIDX after the shadow. -/
  | waitcoreTimeout (n:Site)
  /-- SEQ_ABORT (R143): A write of SEQ_CTX_n_CMD.ABORT halts the site with HOST_ABORT. -/
  | seqAbort (n:Site)
  /-- CORE_FLAG_SET (R124): A write of 1 to SEQ_CTX_n_CORE_SET sets CORE flags of the context. -/
  | coreFlagSet (n:Site) (m:Fin 16)
  /-- CORE_FLAG_CLEAR (R124): A write of 1 to SEQ_CTX_n_CORE_CLR clears CORE flags, and a coincident set wins. -/
  | coreFlagClear (n:Site) (m:Fin 16)
  /-- UCS_WORD_WRITE (R146): A write of SEQ_UCS_DATA3 writes a 128-bit control-store word and increments SEQ_UCS_ADDR. -/
  | ucsWordWrite (v:Word)
  /-- TSET_ENTRY_WRITE (R172): A write to a master-table word marks the entry dirty, or is dropped while a commit of its set runs. -/
  | tsetEntryWrite (c:Channel) (t:Set8) (w:Fin 8) (v:Word)
  /-- TSET_NOP (R173): The TSET NOP command is accepted and completes with DONE. -/
  | tsetNop (tag:Set8)
  /-- TSET_COMMIT (R174): The TSET COMMIT command checks a timing set and protects it until completion. -/
  | tsetCommit (tag:Set8) (t:Set8)
  /-- TSET_CMD_DONE (R175): A TSET command completes; a successful commit clears the dirty marks, bumps the generation and stages copies. -/
  | tsetCmdDone
  /-- EC_LOAD_DONE (R169): An edge-cache set load completes into a slot. -/
  | ecLoadDone (k:Cluster)
  /-- BANK_VNOM_WRITE (R182): A write of CLU_k_BANK_CFG.VNOM changes the bank's declared voltage and window state. -/
  | bankVnomWrite (k:Cluster) (v:Word)
  /-- BANK_OUT_OF_WINDOW (R183): The bank voltage has been outside its window for 1 µs, so the cluster is disabled and sites are invalidated. -/
  | bankOutOfWindow (k:Cluster) (mv:Fin 4096)
  /-- BANK_IN_WINDOW (R183): The bank voltage has been in window for 100 µs, so the cluster resumes with a settling window. -/
  | bankInWindow (k:Cluster) (mv:Fin 4096)
  /-- LEVEL_WRITE (R188): A write to a level-set word applies to channels where that set is in force and starts settling. -/
  | levelWrite (k:Cluster) (j:Chan16) (t:Fin 8) (w:Fin 5) (v:Word)
  /-- SETTLE_END (R191): A channel's 2 µs settling window expires. -/
  | settleEnd (c:Channel)
  /-- OCP_DETECT (R195): The driver current limit has been active for 1 µs, and OCP is set. -/
  | ocpDetect (c:Channel)
  /-- PPMU_CTRL_WRITE (R200): A write of CLU_k_PP_j_CTRL changes the PPMU mode or range, or is dropped or refused. -/
  | ppmuCtrlWrite (k:Cluster) (j:Chan16) (v:Word)
  /-- PPMU_FORCE_WRITE (R201): A write of CLU_k_PP_j_FORCE is checked against MODE and sets the forced value. -/
  | ppmuForceWrite (k:Cluster) (j:Chan16) (v:Word)
  /-- PPMU_VCLAMP_WRITE (R202): A write of CLU_k_PP_j_VCLAMP is checked per field and as a combination. -/
  | ppmuVclampWrite (k:Cluster) (j:Chan16) (v:Word)
  /-- PPMU_LIMIT (R202): A PPMU current or voltage limit becomes active, and PPMU_CLAMP is set. -/
  | ppmuLimit (k:Cluster) (j:Chan16)
  /-- MC_SLICE_END (R204): A measurement-converter slice ends, its result is written and the rotation moves on. -/
  | mcSliceEnd (k:Cluster) (conv:List Int)
  /-- VECTOR_RESULT (R221): The compares of a played vector are judged, and flags, counters and records follow from them. -/
  | vectorResult (n:Site) (obs:List Obs)
  /-- FAIL_RECORD_WRITE (R227): A staged fail record is written into the site buffer at the shared record rate. -/
  | failRecordWrite (n:Site)
  /-- TRIGGER_EVALUATE (R237): The trigger sequencer evaluates one vector and takes at most one transition with its actions. -/
  | triggerEvaluate (n:Site)
  /-- TRIGGER_TIMER_EXPIRE (R235): A trigger timer expires at a vector. -/
  | triggerTimerExpire (n:Site) (k:Fin 4)
  /-- TRIGGER_COUNTER_DONE (R234): A trigger counter reaches its limit and holds there. -/
  | triggerCounterDone (n:Site) (k:Fin 4)
  /-- HOLDOFF_END (R238): A trigger state's hold-off ends by time or by event count. -/
  | holdoffEnd (n:Site)
  /-- CAPT_RECORD_WRITE (R244): A staged capture record is written into the capture area at the shared record rate. -/
  | captRecordWrite (n:Site)
  /-- SPILL_BLOCK_COPY (R245): A full 4 KiB capture block is copied to the spill region, and SPILL_OFF advances. -/
  | spillBlockCopy (n:Site)
  /-- SPILL_FLUSH (R245): At halt, the partial spill block is padded and copied, and FLUSHED is set. -/
  | spillFlush (n:Site)
  /-- SITE_DONE (R230): Once every record of the halted run is readable, DONE is set in the FAIL_DONE bits and FAIL_EVENT. -/
  | siteDone (n:Site)
  /-- TDC_ARM (R258): The TDC ARM command samples the configuration, clears the results and enters WAIT_START, or is refused. -/
  | tdcArm (k:Cluster) (u:Fin 4)
  /-- TDC_ABORT (R261): The TDC ABORT command ends a measurement in ABORTED with cause HOST. -/
  | tdcAbort (k:Cluster) (u:Fin 4)
  /-- TDC_START_EDGE (R258): A qualifying start edge starts the measurement and records START_TIME. -/
  | tdcStartEdge (k:Cluster) (u:Fin 4) (c:Nat) (p:Fin 384) (fall:Bool)
  /-- TDC_STOP_EDGE (R259): A qualifying stop edge is classified and recorded, counted as early or extra, or missed in dead time. -/
  | tdcStopEdge (k:Cluster) (u:Fin 4) (c:Nat) (p:Fin 384) (fall:Bool)
  /-- TDC_WINDOW_CLOSE (R260): The interval reaches CLOSE, and the measurement ends in DONE. -/
  | tdcWindowClose (k:Cluster) (u:Fin 4)
  /-- TDC_HIST_REARM (R263): In HIST mode the unit bins STOP_0 and re-arms itself after a measurement. -/
  | tdcHistRearm (k:Cluster) (u:Fin 4)
  /-- SITE_NOP (R267): The SITE NOP command does nothing. -/
  | siteNop (n:Site)
  /-- SITE_ARM (R267): The SITE ARM command runs the ordered arm checks across blocks. -/
  | siteArm (n:Site)
  /-- SITE_ARM_DONE (R267): An arm completes, the site becomes ARMED or stays IDLE, and per-site registers clear. -/
  | siteArmDone (n:Site)
  /-- SITE_DISARM (R268): The SITE DISARM command halts a running site and releases its resources. -/
  | siteDisarm (n:Site)
  /-- SITE_DISARM_DONE (R268): A disarm completes, and the site becomes IDLE. -/
  | siteDisarmDone (n:Site)
  /-- SITE_GO (R272): The SITE GO command moves an armed site to STARTING, or sends GO_REQ on a span primary. -/
  | siteGo (n:Site)
  /-- GO_SCHEDULE (R272): Once PRIMED and admission both hold, T_go is set, or a span member answers GO_READY. -/
  | goSchedule (n:Site)
  /-- SITE_START (R272): T_go is reached, the first vector starts and the site becomes RUNNING. -/
  | siteStart (n:Site)
  /-- GO_TIMEOUT (R274): Not every GO_READY has arrived within TMO, so the primary sends GO_CANCEL. -/
  | goTimeout (n:Site)
  /-- GO_REQ (R273): A member receives GO_REQ and asks for admission. -/
  | goReq (k:Port) (ttl sp src:Nat)
  /-- GO_READY (R273): The primary receives an answer and sends GO with T_go or GO_CANCEL once it holds all of them. -/
  | goReady (dest src sp idx lat chips:Nat)
  /-- GO (R274): A member receives GO with T_go, or halts with GO_LATE if it is late. -/
  | go (k:Port) (ttl sp src t:Nat)
  /-- GO_CANCEL (R274): A member receives GO_CANCEL and stays ARMED. -/
  | goCancel (k:Port) (ttl sp src:Nat)
  /-- ARRIVE (R275): The primary counts an arrival and sends RELEASE with T_rel once it holds all of them. -/
  | arrive (dest src sp idx:Nat)
  /-- RELEASE (R276): A member receives RELEASE and schedules its resume, late or on time. -/
  | release (k:Port) (ttl sp src t:Nat)
  /-- DT_ARRIVE (R277): The root counts a domain Transit arrival and broadcasts DT_RELEASE at ULT_DT_EXPECT. -/
  | dtArrive (src:Nat) (site:Site)
  /-- DT_RELEASE (R277): A chip receives DT_RELEASE, forwards it and schedules its waiting sites' resume. -/
  | dtRelease (src t:Nat)
  /-- TRANSIT_RESUME (R275): T_rel is reached, the site resumes at the aligned frame boundary and the accumulator restarts. -/
  | transitResume (n:Site)
  /-- TRANSIT_TIMEOUT (R137): The barrier does not release within TIMEOUT, and the site halts with TRANSIT_TIMEOUT. -/
  | transitTimeout (n:Site)
  /-- FLAGS (R279): A FLAGS span message is received, forwarded and stored for its decision, or discarded if late. -/
  | flags (k:Port) (ttl sp src idx q bits:Nat) (notice:Option Nat)
  /-- SPAN_FLAG_DEADLINE (R283): A span decision deadline passes, and the member decides, on local knowledge if values are missing. -/
  | spanFlagDeadline (n:Site)
  /-- HEARTBEAT_TIMER (R284): Every 100 µs an armed span member sends HEARTBEAT. -/
  | heartbeatTimer (n:Site)
  /-- HEARTBEAT (R284): A HEARTBEAT span message is received and forwarded. -/
  | heartbeat (k:Port) (ttl sp src idx:Nat)
  /-- MEMBER_LOST (R284): No message from a member has arrived for 1 ms, so it is lost and the site halts with SPAN_LOST. -/
  | memberLost (n:Site) (idx:Set8)
  /-- HALTED (R285): A HALTED span message is received, combined at the primary and halts a running member. -/
  | halted (k:Port) (ttl sp src idx:Nat) (word:Word)
  /-- SPAN_RESULT_TIMEOUT (R286): One ms after its own halt, the primary writes the combined span result with missing members. -/
  | spanResultTimeout (n:Site)
  /-- ENUM_WAIT_EXPIRE (R288): ENUM_WAIT ms after READY, the root starts enumeration. -/
  | enumWaitExpire
  /-- ULT_ENUM_START (R288): The ULT_ENUM_CMD START command on the root starts enumeration. -/
  | ultEnumStart
  /-- ENUM_REPORT (R288): A subtree size report is received and passed up once all down-ports have reported. -/
  | enumReport (k:Port) (size:Nat)
  /-- ENUM_ASSIGN (R288): A chip receives its base ID, takes it and assigns IDs to its down-ports. -/
  | enumAssign (k:Port) (base:Nat)
  /-- ULT_RMT_READ (R294): The remote READ command sends a MGMT RD_REQ to the target chip. -/
  | ultRmtRead
  /-- ULT_RMT_WRITE (R294): The remote WRITE command sends a MGMT WR_REQ to the target chip. -/
  | ultRmtWrite
  /-- RD_REQ (R294): A MGMT read request is routed or performed at the target and answered. -/
  | rdReq (dest src tag off:Nat)
  /-- RD_RSP (R294): A MGMT read response completes the remote access. -/
  | rdRsp (dest src tag status:Nat) (data:Word)
  /-- WR_REQ (R294): A MGMT write request is routed or performed at the target and answered. -/
  | wrReq (dest src tag off:Nat) (data:Word)
  /-- WR_RSP (R294): A MGMT write response completes the remote access. -/
  | wrRsp (dest src tag status:Nat)
  /-- MGMT_TIMEOUT (R294): No MGMT response arrives within ULT_MGMT_TMO, and the access completes with TIMEOUT. -/
  | mgmtTimeout
  /-- WRITE (R295): A BULK WRITE is written under the guard and forwarded if broadcast, or acknowledged if unicast. -/
  | write (mcast:Bool) (dest src addr:Nat) (data:List Byte)
  /-- WRITE_ACK (R295): A BULK WRITE_ACK is received by the sender. -/
  | writeAck (dest src addr status block:Nat)
  /-- ULT_BAD_MESSAGE (R292): A message with a CRC error or a reserved class, type or length is dropped and counted. -/
  | ultBadMessage (k:Port) (crc:Bool) (beats:Nat)
  /-- ULT_PORT_CTRL_WRITE (R296): A write of ULT_Pk_CTRL enables or disables the port or changes its mode. -/
  | ultPortCtrlWrite (k:Port) (v:Word)
  /-- ULT_PORT_RETRAIN (R296): The port RETRAIN command sends both lanes to DETECT. -/
  | ultPortRetrain (k:Port)
  /-- ULT_BITSLIP (R299): The port BITSLIP command shifts a raw lane's word boundary by one bit. -/
  | ultBitslip (k:Port) (m:PLane) (bits:BitVec 66)
  /-- ULT_LANE_PARTNER_DETECT (R296): The partner has been active for 10 µs, and the lane moves to BASE. -/
  | ultLanePartnerDetect (k:Port) (m:PLane)
  /-- ULT_LANE_BLOCK_LOCK (R296): The lane acquires block lock in BASE or RECOVER. -/
  | ultLaneBlockLock (k:Port) (m:PLane)
  /-- ULT_LANE_STATE_TIMEOUT (R296): A bring-up state exceeds its limit, and the lane falls back to DETECT or DISABLED. -/
  | ultLaneStateTimeout (k:Port) (m:PLane)
  /-- ULT_LANE_CAPS_DONE (R296): The capability exchange ends, and the lane moves to RATE_STEP or ACTIVE. -/
  | ultLaneCapsDone (k:Port) (m:PLane) (id depth:Option Nat) (port top:Nat)
  /-- ULT_LANE_RATE_STEP_DONE (R296): The lane reaches its next rate and moves to EQ. -/
  | ultLaneRateStepDone (k:Port) (m:PLane)
  /-- ULT_EQ_REQUEST (R297): A training control word is received and applied to the transmitter, with its status reported. -/
  | ultEqRequest (k:Port) (m:PLane) (w:BitVec 16)
  /-- ULT_EQ_DONE (R296): EQ ends by receiver DONE or after 2 ms, and the lane moves to BER_CHECK. -/
  | ultEqDone (k:Port) (m:PLane)
  /-- ULT_BER_CHECK_DONE (R298): BER_CHECK ends, and the lane steps up, goes ACTIVE or falls back a rate. -/
  | ultBerCheckDone (k:Port) (m:PLane) (ok:Bool)
  /-- ULT_LANE_LOCK_LOST (R296): An active lane has lost block lock for 1 µs and moves to RECOVER. -/
  | ultLaneLockLost (k:Port) (m:PLane)
  /-- XL_CTRL_WRITE (R304): A write of XL_n_CTRL enables or disables the lane, starting training when TRAIN is 1. -/
  | xlCtrlWrite (n:Lane) (v:Word) (g:XlSeen)
  /-- XL_START (R317): The lane START command moves the lane to RUNNING and restarts its sources and counters. -/
  | xlStart (n:Lane) (g:XlSeen)
  /-- XL_STOP (R317): The lane STOP command moves the lane to IDLE. -/
  | xlStop (n:Lane) (g:XlSeen)
  /-- XL_ERR_CLR (R310): The lane ERR_CLR command clears XL_n_BITS and XL_n_BERR. -/
  | xlErrClr (n:Lane) (g:XlSeen)
  /-- XL_BITSLIP (R318): The lane BITSLIP command moves the receive word boundary one bit later. -/
  | xlBitslip (n:Lane) (g:XlSeen)
  /-- XL_MARK (R324): The host MARK command marks the lane with the time counter at acceptance. -/
  | xlMark (n:Lane) (g:XlSeen)
  /-- XL_RETRAIN (R315): The lane RETRAIN command starts partner training, or is refused with NO_TRAIN. -/
  | xlRetrain (n:Lane) (g:XlSeen)
  /-- XL_EYE_START (R319): The lane EYE_START command starts an eye scan. -/
  | xlEyeStart (n:Lane) (g:XlSeen)
  /-- XL_EYE_ABORT (R320): The lane EYE_ABORT command ends the eye scan with ABORTED. -/
  | xlEyeAbort (n:Lane) (g:XlSeen)
  /-- XL_EYE_POINT_DONE (R320): An eye-scan point finishes and its count is written, with EYE_DONE after the last point. -/
  | xlEyePointDone (n:Lane) (cnt:Nat)
  /-- XL_PLL_LOCK (R303): The lane's transmit PLL locks at the new rate, and transmission begins. -/
  | xlPllLock (n:Lane)
  /-- XL_TRAIN_DONE (R315): Lane training ends when both ends have sent DONE, and the lane enters IDLE. -/
  | xlTrainDone (n:Lane) (pre post:Nat)
  /-- XL_TRAIN_TIMEOUT (R315): Lane training reaches 2 ms, so TRAIN_FAIL is set and the lane enters IDLE. -/
  | xlTrainTimeout (n:Lane)
  /-- XL_PRBS_LOCK (R308): The PRBS checker predicts 64 consecutive bits and locks. -/
  | xlPrbsLock (n:Lane) (g:XlSeen)
  /-- XL_LOCK_LOSS (R308): The PRBS checker sees 256 errors in 1024 bits, loses lock and reseeds. -/
  | xlLockLoss (n:Lane) (g:XlSeen)
  /-- XL_SIG_LOSS (R311): SIG_DET has stayed 0 for 1 µs while running, and SIG_LOSS is set. -/
  | xlSigLoss (n:Lane) (g:XlSeen)
  /-- XL_ERR_THRESH (R310): XL_n_BERR reaches XL_n_ERR_THRESH, and ERR_THRESH is set. -/
  | xlErrThresh (n:Lane) (g:XlSeen)
  /-- XL_PAYLOAD_END (R307): A drawer payload ends and repeats, or switches to the fixed word and sets DRW_END. -/
  | xlPayloadEnd (n:Lane) (g:XlSeen)
  /-- XLMARK_LANE_ACT (R321): A matching lane performs an XLMARK action at its first word boundary after t_b + 40 ns. -/
  | xlmarkLaneAct (n:Lane) (g:XlSeen)
  /-- XL_HALT_STOP (R325): Lanes with HALT_STOP 1 stop after their owning site halts or is disarmed. -/
  | xlHaltStop (n:Lane) (g:XlSeen)
  /-- XL_EVENT_FLAG_SET (R326): An enabled lane event sets the owning site's XL_EVENT flag. -/
  | xlEventFlagSet (n:Lane)
  /-- CORE_RUN_WRITE (R332): A write of SCHED_CORE_n_CTRL.RUN starts or holds a site core. -/
  | coreRunWrite (n:Core) (v:Word)
  /-- STORE_BUFFER_DRAIN (R333): A core store leaves the store buffer and becomes visible to every other requester. -/
  | storeBufferDrain (n:Core)
  /-- CORE_FENCE (R333): A FENCE with w before and r after waits until the store buffer is empty. -/
  | coreFence (n:Core) (pred succ:Fin 16)
  /-- CORE_FENCE_I (R331): FENCE.I invalidates the core's instruction cache and fetched instructions. -/
  | coreFenceI (n:Core)
  /-- CORE_AMO (R334): An AMO performs atomically at memory with its ordering bits. -/
  | coreAmo (n:Core) (op:AmoOp) (dbl aq rl:Bool) (rd rs1 rs2:Fin 32)
  /-- CORE_LR (R334): LR loads and sets the core's reservation on its 64-byte granule. -/
  | coreLr (n:Core) (dbl aq rl:Bool) (rd rs1:Fin 32)
  /-- CORE_SC (R334): SC stores if the reservation holds and clears the reservation. -/
  | coreSc (n:Core) (dbl aq rl:Bool) (rd rs1 rs2:Fin 32)
  /-- CORE_WFI (R329): WFI waits until an enabled interrupt is pending or the scheduler slot is full. -/
  | coreWfi (n:Core)
  /-- CORE_FAST_TRAP (R350): In compatibility mode, a FAST interrupt trap swaps x16 to x31 with the shadow bank, and its mret swaps them back. -/
  | coreFastTrap (n:Core) (mret:Bool)
  /-- MTIMECMP_MATCH (R329): The time counter reaches SCHED_CORE_n_MTIMECMP, and MTIP becomes 1. -/
  | mtimecmpMatch (n:Core)
  /-- SCHED_ENQUEUE (R338): A write of SCHED_ITEM_W7 submits the staged work item, which is checked and accepted or refused. -/
  | schedEnqueue (r:Req) (v:Word)
  /-- SCHED_TAKE (R342): A read of SCHED_CORE_n_TAKE completes the item in service and moves the slot item into service. -/
  | schedTake (r:Req) (n:Core)
  /-- SCHED_DONE (R342): A write of SCHED_CORE_n_DONE completes the item in service and releases its flow. -/
  | schedDone (n:Core) (v:Word)
  /-- SCHED_CORE_CFG_WRITE (R343): A write of SCHED_CORE_n_CFG changes SCHED_EN or PRIO_MASK and may return a slot item to its list. -/
  | schedCoreCfgWrite (n:Core) (v:Word)
  /-- INTC_SOURCE_RISE (R345): An INTC source level rises and the source becomes pending and is assigned to a target. -/
  | intcSourceRise (i:Set8)
  /-- INTC_SOURCE_FALL (R346): A class A source stops being pending, and its assignment ends. -/
  | intcSourceFall (i:Set8)
  /-- INTC_SETPEND (R345): A write of 1 to INTC_SETPEND_w sets a source pending or soft-pending. -/
  | intcSetpend (w:Fin 8) (v:Word)
  /-- INTC_PEND_CLEAR (R345): A write of 1 to INTC_PEND_w clears soft-pending or pending. -/
  | intcPendClear (w:Fin 8) (v:Word)
  /-- INTC_SRC_CFG_WRITE (R346): A write of a source's CFG or TGT reassigns the source. -/
  | intcSrcCfgWrite (i:Set8) (tgt:Bool) (v:Word)
  /-- INTC_CLAIM (R348): A read of CLAIM takes the best class B source, marks it active and pushes its priority. -/
  | intcClaim (r:Req) (t:Target)
  /-- INTC_EOI (R349): A write of EOI pops the stack and ends the recorded source's active state. -/
  | intcEoi (t:Target) (v:Word)
  /-- INTC_PUSH (R349): A write of PUSH places a priority on the target's stack. -/
  | intcPush (t:Target) (v:Word)
  /-- PCIE_CONFIG_REQUEST (R354): A PCIe configuration request is retried before READY and served by hardware afterwards. -/
  | pcieConfigRequest (reg:Nat) (wr:Option Word)
  /-- PCIE_RESET (R356): A hot reset, link-down or function-level reset disables DMA and resets MSI-X. -/
  | pcieReset (linkDown:Bool)
  /-- PCIE_PERST (R481): PCIE_PERST_N low holds the endpoint in reset with the effects of R356. -/
  | pciePerst (low:Bool)
  /-- DMA_ENABLE_WRITE (R357): A write of HOSTIF_DMA_e_CTRL sets ENABLE and samples the ring configuration. -/
  | dmaEnableWrite (e:Engine8) (v:Word)
  /-- DMA_ABORT (R361): The DMA ABORT command clears ENABLE and abandons the descriptor in progress. -/
  | dmaAbort (e:Engine8)
  /-- DMA_TAIL_WRITE (R361): A write of TAIL produces descriptors for the engine. -/
  | dmaTailWrite (e:Engine8) (v:Word)
  /-- DMA_DESCRIPTOR_FETCH (R357): The engine fetches the descriptor at HEAD and starts it, waiting for ORDER if set. -/
  | dmaDescriptorFetch (e:Engine8) (d:List Byte) (ok:Bool)
  /-- DMA_H2D (R359): The H2D descriptor moves host memory to a device address on this chip. -/
  | dmaH2d (e:Engine8) (d:List Byte) (ok:Bool)
  /-- DMA_D2H (R359): The D2H descriptor moves a device address on this chip to host memory. -/
  | dmaD2h (e:Engine8) (ce ue:List Nat)
  /-- DMA_BCAST (R359): The BCAST descriptor writes host data locally and broadcasts it over Ulten BULK. -/
  | dmaBcast (e:Engine8) (d:List Byte) (ok:Bool)
  /-- DMA_REMOTE (R359): The REMOTE descriptor sends host data to chip DEST as BULK unicast writes. -/
  | dmaRemote (e:Engine8) (d:List Byte) (ok:Bool)
  /-- DMA_REMOTE_ACK_TIMEOUT (R359): Acknowledgements of a REMOTE descriptor have not all arrived after ULT_MGMT_TMO. -/
  | dmaRemoteAckTimeout (e:Engine8)
  /-- DMA_DESCRIPTOR_DONE (R360): A descriptor completes, its STATUS is written back and HEAD advances. -/
  | dmaDescriptorDone (e:Engine8)
  /-- MSIX_SEND (R362): A pending, unmasked MSI-X vector is sent and its pending bit clears. -/
  | msixSend (v:Fin 64)
  /-- MBX_POST (R363): A write of MBX_m_NOTICE_LO posts a notice, colliding if the mailbox is full. -/
  | mbxPost (r:Req) (m:Mailbox) (v:Word)
  /-- MBX_TAKE (R364): The receiver's read of MBX_m_NOTICE_LO takes the notice and sets ACK_PEND. -/
  | mbxTake (r:Req) (m:Mailbox)
  /-- MBX_TIMEOUT (R365): The mailbox timer reaches TMO while FULL, and TIMEOUT is raised for the sender. -/
  | mbxTimeout (m:Mailbox)
  /-- MBX_ACK (R366): A write of MBX_m_ACK by the receiver stores the code and sets ACKED for the sender. -/
  | mbxAck (r:Req) (m:Mailbox) (v:Word)
  /-- DB_H2D_SET (R369): A write of 1 to MBX_DB_H2D_SET_w sets host-to-device doorbell bits. -/
  | dbH2dSet (w:Fin 2) (v:Word)
  /-- DB_H2D_CLR (R369): A write of 1 to MBX_DB_H2D_CLR_w clears host-to-device doorbell bits. -/
  | dbH2dClr (w:Fin 2) (v:Word)
  /-- DB_D2H_SET (R369): A write of 1 to MBX_DB_D2H_SET_w sets device-to-host doorbell bits. -/
  | dbD2hSet (w:Fin 2) (v:Word)
  /-- DB_D2H_CLR (R369): A write of 1 to MBX_DB_D2H_CLR_w clears device-to-host doorbell bits. -/
  | dbD2hClr (w:Fin 2) (v:Word)
  /-- TIME_RATE_WRITE (R374): A write of TIME_TB_i_RATE folds the accumulated correction and sets the new rate. -/
  | timeRateWrite (i:Fin 4) (v:Word)
  /-- TIME_OFFSET_WRITE (R374): A committed write of the TIME_TB_i_OFFSET pair sets the offset and the anchor. -/
  | timeOffsetWrite (r:Req) (i:Fin 4) (v:Word)
  /-- TIME_ADJ_WRITE (R374): A committed write of the TIME_TB_i_ADJ pair adds to the offset. -/
  | timeAdjWrite (r:Req) (i:Fin 4) (v:Word)
  /-- TIME_TB_NS_READ (R375): A read of TIME_TB_i_NS evaluates the base and snapshots its seconds for the requester. -/
  | timeTbNsRead (r:Req) (i:Fin 4)
  /-- TSQ_FIND (R384): A write of TIME_TSQ_FIND removes the oldest or matching queue entry and latches it. -/
  | tsqFind (r:Req) (v:Word)
  /-- SYNC_SEND_TIMER (R380): Every INTERVAL the root sends SYNC on its trained down-ports. -/
  | syncSendTimer
  /-- SYNC (R381): A chip receives SYNC on its up-port, steps TB0 to the root and forwards SYNC. -/
  | sync (k:Port) (t corr res:Nat)
  /-- ECHO_TIMER (R380): Every second, each trained port sends ECHO_REQ. -/
  | echoTimer
  /-- ECHO_REQ (R379): A chip answers an ECHO_REQ with ECHO_RSP and its residence time. -/
  | echoReq (k:Port) (t res:Nat)
  /-- ECHO_RSP (R380): An ECHO_RSP sets ULT_Pk_LAT from the round trip. -/
  | echoRsp (k:Port) (t res:Nat)
  /-- SYNC_MISSED (R382): HOLD_CNT SYNC intervals pass without SYNC, and the chip enters holdover. -/
  | syncMissed
  /-- FALLBACK_STEP (R382): Every INTERVAL, TB0 steps toward the fallback base on the 10 ns grid. -/
  | fallbackStep
  /-- ETH_FRAME_TRANSMIT (R383): A PTP event message is transmitted, timestamped and queued, or stamped one-step. -/
  | ethFrameTransmit (d:List Byte)
  /-- ETH_FRAME_RECEIVE (R469): A received Ethernet frame is stored with its header and receive timestamp. -/
  | ethFrameReceive (d:List Byte) (ok:Bool)
  /-- GOV_EVALUATION (R387): Every 10 µs the governor updates power, the thermal model, thresholds, waiting admissions and SCHED_ALLOW. -/
  | govEvaluation
  /-- ADMISSION_REQUEST (R394): A start or resume asks for admission and is admitted, admitted as a burst, or waits. -/
  | admissionRequest (n:Site)
  /-- XCHK_BAD (R388): Model and sensed power have disagreed for 100 evaluations, and XCHK is set. -/
  | xchkBad
  /-- DUR_OVER (R396): A burst-admitted site is still running when DUR has elapsed. -/
  | durOver (n:Site)
  /-- CAL_REQUEST_TDC_CD (R406): CAL_CMD requests a TDC code-density calibration of a cluster, which the arbiter decides. -/
  | calRequestTdcCd (k:Cluster) (noqueue:Bool)
  /-- CAL_REQUEST_LEVEL_DAC (R406): CAL_CMD requests a LEVEL_DAC calibration of a cluster, which the arbiter decides. -/
  | calRequestLevelDac (k:Cluster) (noqueue:Bool)
  /-- CAL_REQUEST_CLUSTER_FULL (R406): CAL_CMD requests a CLUSTER_FULL calibration of a cluster, which the arbiter decides. -/
  | calRequestClusterFull (k:Cluster) (noqueue:Bool)
  /-- CAL_CANCEL (R407): A CAL_CMD write with CANCEL removes the named activities from DEFERRED. -/
  | calCancel (k:Cluster) (acts:Fin 8)
  /-- CAL_ACTIVITY_END (R409): A calibration activity ends with results applied or discarded, and the next deferred one starts. -/
  | calActivityEnd (k:Cluster) (bad:Bool) (hits:List (List Nat)) (vals:List Int)
  /-- CAL_SLEW_TICK (R410): At each frame boundary or 160 ns tick, every pending correction moves one step. -/
  | calSlewTick (k:Cluster) (site:Option Nat)
  /-- CAL_SPAN_START (R412): The CAL_SPAN_CMD START command requests SPAN_SKEW on the primary, or is refused. -/
  | calSpanStart (n:Site) (noqueue:Bool)
  /-- SPAN_SKEW_HOLD (R413): SPAN_SKEW takes every cluster of the site on a member once they are free. -/
  | spanSkewHold (n:Site)
  /-- SPAN_SKEW_BUSY_TIMEOUT (R413): A cluster is still busy 20 ms after the request, and SPAN_SKEW ends with ABORTED_BUSY. -/
  | spanSkewBusyTimeout
  /-- SPAN_SKEW_END (R415): SPAN_SKEW ends with its correction written or with an abort or failure. -/
  | spanSkewEnd (up:Int) (bad:Bool)
  /-- EPH_READ (R416): Every 10 minutes the ageing oscillators are counted, and drift, scaling and RECAL_DUE are updated. -/
  | ephRead (counts:List (Nat × Nat))
  /-- EPH_RECORD (R419): Every 30 days an Ephemeris record is written and the margins are re-planned. -/
  | ephRecord
  /-- PWRGOOD_RISE (R423): PWRGOOD rises, and the device holds internal reset if RST_N is already high. -/
  | pwrgoodRise
  /-- PWRGOOD_FALL (R424): PWRGOOD falls, and the device enters the safe state and reset. -/
  | pwrgoodFall
  /-- RST_N_RISE (R423): RST_N rises, the straps are sampled and the boot starts. -/
  | rstNRise (compatN root:Bool) (bootsel:Fin 4)
  /-- RST_N_PULSE (R425): A low pulse on RST_N causes a PIN reset. -/
  | rstNPulse (compatN root:Bool) (bootsel:Fin 4)
  /-- BOOT_RESET_WRITE (R425): A write of BOOT_RESET with the right KEY causes a SOFTWARE reset, and otherwise it is rejected. -/
  | bootResetWrite (v:Word)
  /-- SOFTWARE_RESET (R425): A SOFTWARE reset requested by REBOOT takes place and restarts the boot. -/
  | softwareReset
  /-- BOOT_ROM_DONE (R427): Stage ROM ends after the fuse read and self-check, and the boot counter increments. -/
  | bootRomDone
  /-- BOOT_FLASH_DISCOVERY (R429): SFDP discovery of the flash ends, or fails with FLASH_NONE. -/
  | bootFlashDiscovery (found:Bool) (sizeLog2 mhz:Nat) (quad:Bool)
  /-- BOOT_SELECT (R431): The ledger is read and a slot is chosen, applying the trial counter. -/
  | bootSelect
  /-- BOOT_HEADER (R435): The slot header is read and checked for format, keys, signature and rollback. -/
  | bootHeader
  /-- BOOT_MGMT_FW (R436): The management firmware is loaded, checked and started. -/
  | bootMgmtFw
  /-- BOOT_CLOCKS (R427): REFCLK is checked and every PLL locks. -/
  | bootClocks
  /-- BOOT_NO_REFCLK (R428): REFCLK is absent or out of window for 50 ms in CLOCKS, and the boot fails. -/
  | bootNoRefclk
  /-- BOOT_PLL_LOCK_TIMEOUT (R428): A PLL does not lock within 10 ms, and the boot fails. -/
  | bootPllLockTimeout
  /-- BOOT_LOAD (R435): Each remaining section is read, checked and applied. -/
  | bootLoad
  /-- BOOT_HBM_TRAIN (R427): HBM3E training ends, and TRAINED is set or the boot fails. -/
  | bootHbmTrain (ok:Bool)
  /-- CONFIG_REG (R442): A REG configuration record performs one register write. -/
  | configReg
  /-- CONFIG_MEM (R442): A MEM configuration record writes bytes to memory. -/
  | configMem
  /-- CONFIG_POLL (R441): A POLL configuration record waits until the masked register equals the expected value. -/
  | configPoll
  /-- CONFIG_POLL_TIMEOUT (R428): A POLL record reaches its limit, and the boot fails with CONFIG_POLL. -/
  | configPollTimeout
  /-- CONFIG_FILL (R442): A FILL configuration record fills memory with a repeated value. -/
  | configFill
  /-- CONFIG_END (R441): The END record ends CONFIG. -/
  | configEnd
  /-- BOOT_FINAL (R445): FINAL checks the device, seeds time, locks RWL fields and sets READY. -/
  | bootFinal
  /-- UPDATE_STAGE (R448): A STAGE request checks an image and writes it to the slot not booted. -/
  | updateStage (ce ue:List Nat) (bad:Option (List Byte))
  /-- UPDATE_ACTIVATE (R448): An ACTIVATE request checks the slot not booted and records it as active on trial. -/
  | updateActivate
  /-- UPDATE_CONFIRM (R448): A CONFIRM request ends the trial and raises the rollback counter. -/
  | updateConfirm
  /-- UPDATE_REBOOT (R448): A REBOOT request is refused while sites are armed, or is acknowledged and a reset follows. -/
  | updateReboot
  /-- UPDATE_BAD_REQUEST (R448): A request with a reserved OP or bad fields completes with BAD_REQUEST. -/
  | updateBadRequest
  /-- UPDATE_DONE (R448): An update request ends, and the result is acknowledged on mailbox 0 with UPD_DONE set. -/
  | updateDone
  /-- PE_SAFE_N_ASSERT (R450): PE_SAFE_N is low for 20 ns, and the device enters the safe state. -/
  | peSafeNAssert
  /-- PE_SAFE_N_RELEASE (R450): PE_SAFE_N returns high, and the PIN source ends. -/
  | peSafeNRelease
  /-- THERMAL_TRIP (R450): Tj reaches 125 °C on the trip comparator, and THERMTRIP_N and the safe state are latched. -/
  | thermalTrip
  /-- SAFE_FORCE_WRITE (R450): A write of MGS_SAFE_CTRL.FORCE activates or ends the SW source. -/
  | safeForceWrite (v:Word)
  /-- SAFE_EXIT (R452): Ten µs after the last source ends, the safe state is left and the pins and lanes restore. -/
  | safeExit
  /-- WDT_ENABLE (R454): A write of MGS_WDT_CTRL.EN enables the watchdog until reset. -/
  | wdtEnable (v:Word)
  /-- WDT_KICK (R454): A write of MGS_WDT_KICK reloads the watchdog, expires it on a wrong KEY, or is dropped from other requesters. -/
  | wdtKick (r:Req) (v:Word)
  /-- WDT_EXPIRE (R455): The watchdog expires, and the WDT safe-state source becomes active. -/
  | wdtExpire
  /-- WDT_RESET (R455): RESET_DLY after expiry, the device performs a WATCHDOG reset. -/
  | wdtReset
  /-- SENSOR_REFRESH (R456): Every 100 µs the diodes and voltage monitors are refreshed, and limits are checked. -/
  | sensorRefresh (diodes:List Int) (mv:List Nat)
  /-- RAIL_CURRENT_SENSE (R456): Every 10 µs the rail currents are sensed into MGS_RAIL_r_I. -/
  | railCurrentSense (cur:List Nat)
  /-- VBAT_LOSS (R457): VBAT falls below 1.7 V without the switched rails, clearing the keep-alive island and setting the tamper latch. -/
  | vbatLoss
  /-- KA_RTC_WRITE (R457): A committed write of MGS_KA_RTC by the management core sets the RTC and RTC_VALID. -/
  | kaRtcWrite (r:Req) (v:Word)
  /-- KA_CLR (R457): A write of MGS_KA_CLR with the right KEY clears the tamper latch. -/
  | kaClr (r:Req) (v:Word)
  /-- LOG_APPEND (R460): A write of MGS_LOG_APP_CODE queues a log record from the requester's staging words. -/
  | logAppend (r:Req) (v:Word)
  /-- LOG_RD_IDX_WRITE (R460): A write of MGS_LOG_RD_IDX copies the named record from flash into MGS_LOG_RD_Dw. -/
  | logRdIdxWrite (v:Word)
  /-- LOG_RECORD_WRITE (R459): A queued log record is written to the flash ring, erasing the next sector first if needed. -/
  | logRecordWrite
  /-- LEDGER_COMMIT (R462): A ledger commit erases, programs and verifies the bank that is not in force. -/
  | ledgerCommit (got:Option (List Byte))
  /-- LEDGER_HOURS_TIMER (R464): Every 168 powered hours a ledger commit is requested. -/
  | ledgerHoursTimer
  /-- UART_RX_BYTE (R466): A UART frame is received into the FIFO, or counted as a frame error, overrun or break. -/
  | uartRxByte (b:Byte) (stop:Bool)
  /-- UART_DATA_WRITE (R465): A write of MGS_UART_DATA queues a byte for transmission. -/
  | uartDataWrite (v:Word)
  /-- UART_DATA_READ (R465): A read of MGS_UART_DATA takes a byte from the receive FIFO. -/
  | uartDataRead (r:Req)
  /-- SMB_READ_SAFE_STATUS (R467): SMBus command 0x01 returns MGS_SAFE_STATUS bits [7:0]. -/
  | smbReadSafeStatus
  /-- SMB_READ_TEMP (R467): SMBus command 0x02 returns the hottest diode reading. -/
  | smbReadTemp
  /-- SMB_READ_BOOT_STAGE (R467): SMBus command 0x03 returns the boot stage and error. -/
  | smbReadBootStage
  /-- SMB_READ_ID (R467): SMBus command 0x04 returns GLB_ID. -/
  | smbReadId
  /-- SMB_READ_CHIP_ID (R467): SMBus command 0x05 returns the chip ID and its VALID bit. -/
  | smbReadChipId
  /-- SMB_ALERT_RESPONSE (R467): A read of the Alert Response Address returns the device's address while an alert persists. -/
  | smbAlertResponse
  /-- JTAG_TAP_RESET (R468): TRST_N low, or five TCK cycles with TMS high, resets the TAP. -/
  | jtagTapReset
  /-- JTAG_BYPASS (R468): The BYPASS instruction selects the bypass register. -/
  | jtagBypass (tdi:List Bool)
  /-- JTAG_IDCODE (R468): The IDCODE instruction returns the device identification code. -/
  | jtagIdcode
  /-- JTAG_SAMPLE_PRELOAD (R468): The SAMPLE/PRELOAD instruction samples or preloads the boundary-scan chain. -/
  | jtagSamplePreload (cells load:List Bool)
  /-- JTAG_EXTEST (R468): The EXTEST instruction drives the boundary-scan cells, with armed sites handled as in the safe state. -/
  | jtagExtest (cells load:List Bool)
  /-- JTAG_CLAMP (R468): The CLAMP instruction holds the preloaded outputs and bypasses the chain. -/
  | jtagClamp (tdi:List Bool)
  /-- JTAG_HIGHZ (R468): The HIGHZ instruction places the outputs in high impedance. -/
  | jtagHighz (tdi:List Bool)
  /-- JTAG_REG_ACCESS (R468): The REG_ACCESS instruction performs one register access as requester 0x10 when it is permitted. -/
  | jtagRegAccess (wr:Option Word) (off:Nat)
  /-- VID_STEP (R482): After READY, VCORE_VID moves one code toward the fused target, at most once per ms. -/
  | vidStep
  /-- INTERNAL_RESET_RELEASE (R423): When RST_N is already high as PWRGOOD rises, the device releases its internal reset 1 ms after PWRGOOD rises, samples the straps and starts the boot. -/
  | internalResetRelease (compatN root:Bool) (bootsel:Fin 4)
  /-- PCIE_LINK_UP (R426): PCIe link training, which runs from reset, completes and HOSTIF_LINK.UP, WIDTH and SPEED take their values. -/
  | pcieLinkUp (width:Fin 16) (speed:Fin 16)
  /-- UART_TX_BYTE_SENT (R465): The UART transmitter finishes sending one queued byte on UART_TX at the programmed baud rate, and TX_FILL decreases. -/
  | uartTxByteSent
  /-- CORE_TRAP (R330): A site core takes a trap, either an exception such as a misaligned or faulting access or an enabled pending interrupt, and the trap clears its LR reservation. -/
  | coreTrap (n:Core) (intr:Bool) (code:Nat) (tval:BitVec 64)
  /-- SPAN_SKEW_BARRIER (R414): Every 10 µs during SPAN_SKEW, the primary runs one Transit barrier of the span, and each hop times the RELEASE departure and arrival on the calibration TDC. -/
  | spanSkewBarrier (off:Int)
  deriving DecidableEq, Repr

end Sys2Proof
end

