-- ==== Sys2Proof/Decode.lean ====
section
/-!
DEFINITION. The decoder of the table's words. Every row of the table is a step of a block, given by its name and its
operands; no row gives bits, so no word spells a command.
-/

namespace Sys2Proof

/-- The command that a word spells by the table's bits: none, since no row of the table gives bits. -/
def decodeTableWord (_nbits _w : Nat) : Option Instr := none

end Sys2Proof
end

