-- ==== Sys2Proof/Machine/RegNames.lean ====
section
/-!
DEFINITION. The names of the spec for its registers and fields: `R.<register>` is the BAR0 offset of a register and
`F.<register>_<field>` the field in it, with the index letters of the register tables as arguments in the order in
which they stand in the name (tables of chapters 01 to 18, placed by R20 and R490).
-/

namespace Sys2Proof.Machine

/-- A field: the BAR0 offset of its register and its bits [hi:lo]. -/
structure Fld where
  off : Nat
  hi : Nat
  lo : Nat
  deriving DecidableEq, Repr

def R.GLB_ID : Nat := 0x0
def F.GLB_ID_ID : Fld := ⟨R.GLB_ID, 31, 0⟩
def R.GLB_STEP : Nat := 0x4
def F.GLB_STEP_MAJOR : Fld := ⟨R.GLB_STEP, 15, 8⟩
def F.GLB_STEP_MINOR : Fld := ⟨R.GLB_STEP, 7, 0⟩
def R.GLB_STATUS : Nat := 0x8
def F.GLB_STATUS_SAFE : Fld := ⟨R.GLB_STATUS, 2, 2⟩
def F.GLB_STATUS_COMPAT_STRAP : Fld := ⟨R.GLB_STATUS, 1, 1⟩
def F.GLB_STATUS_READY : Fld := ⟨R.GLB_STATUS, 0, 0⟩
def R.GLB_COMPAT : Nat := 0xc
def F.GLB_COMPAT_MODE : Fld := ⟨R.GLB_COMPAT, 5, 0⟩
def R.GLB_IMAGE_VER : Nat := 0x10
def F.GLB_IMAGE_VER_VER : Fld := ⟨R.GLB_IMAGE_VER, 31, 0⟩
def R.GLB_CHIP_ID : Nat := 0x14
def F.GLB_CHIP_ID_VALID : Fld := ⟨R.GLB_CHIP_ID, 16, 16⟩
def F.GLB_CHIP_ID_CHIP_ID : Fld := ⟨R.GLB_CHIP_ID, 15, 0⟩
def R.GLB_ERR_ENUM : Nat := 0x20
def F.GLB_ERR_ENUM_COUNT : Fld := ⟨R.GLB_ERR_ENUM, 31, 0⟩
def R.GLB_ERR_UNMAPPED : Nat := 0x24
def F.GLB_ERR_UNMAPPED_COUNT : Fld := ⟨R.GLB_ERR_UNMAPPED, 31, 0⟩
def R.GLB_ERR_SIZE : Nat := 0x28
def F.GLB_ERR_SIZE_COUNT : Fld := ⟨R.GLB_ERR_SIZE, 31, 0⟩
def R.GLB_ERR_FIFO_WR : Nat := 0x2c
def F.GLB_ERR_FIFO_WR_COUNT : Fld := ⟨R.GLB_ERR_FIFO_WR, 31, 0⟩
def R.GLB_ERR_ADDR_LO : Nat := 0x30
def F.GLB_ERR_ADDR_LO_ADDR : Fld := ⟨R.GLB_ERR_ADDR_LO, 31, 0⟩
def R.GLB_ERR_ADDR_HI : Nat := 0x34
def F.GLB_ERR_ADDR_HI_ADDR : Fld := ⟨R.GLB_ERR_ADDR_HI, 7, 0⟩
def R.GLB_ERR_SRC : Nat := 0x38
def F.GLB_ERR_SRC_REQ : Fld := ⟨R.GLB_ERR_SRC, 4, 0⟩
def R.GLB_SCRATCHk (k : Nat) : Nat := 0x40 + 0x4 * k
def F.GLB_SCRATCHk_DATA (k : Nat) : Fld := ⟨R.GLB_SCRATCHk k, 31, 0⟩
def R.CLK_REF_CTRL : Nat := 0x100000
def F.CLK_REF_CTRL_RETURN_EN : Fld := ⟨R.CLK_REF_CTRL, 8, 8⟩
def F.CLK_REF_CTRL_SRC_SEL : Fld := ⟨R.CLK_REF_CTRL, 1, 0⟩
def R.CLK_REF_STATUS : Nat := 0x100004
def F.CLK_REF_STATUS_UP_PORT : Fld := ⟨R.CLK_REF_STATUS, 10, 8⟩
def F.CLK_REF_STATUS_FALLBACK_FAIL : Fld := ⟨R.CLK_REF_STATUS, 7, 7⟩
def F.CLK_REF_STATUS_REF_BACK : Fld := ⟨R.CLK_REF_STATUS, 6, 6⟩
def F.CLK_REF_STATUS_FREQ_ERR : Fld := ⟨R.CLK_REF_STATUS, 5, 5⟩
def F.CLK_REF_STATUS_LOST : Fld := ⟨R.CLK_REF_STATUS, 4, 4⟩
def F.CLK_REF_STATUS_HOLDOVER : Fld := ⟨R.CLK_REF_STATUS, 3, 3⟩
def F.CLK_REF_STATUS_USING_RECOVERED : Fld := ⟨R.CLK_REF_STATUS, 2, 2⟩
def F.CLK_REF_STATUS_FREQ_OK : Fld := ⟨R.CLK_REF_STATUS, 1, 1⟩
def F.CLK_REF_STATUS_PRESENT : Fld := ⟨R.CLK_REF_STATUS, 0, 0⟩
def R.CLK_REF_PPM : Nat := 0x100008
def F.CLK_REF_PPM_OFFSET : Fld := ⟨R.CLK_REF_PPM, 31, 0⟩
def R.CLK_REF_LOSS_CNT : Nat := 0x10000c
def F.CLK_REF_LOSS_CNT_COUNT : Fld := ⟨R.CLK_REF_LOSS_CNT, 31, 0⟩
def R.CLK_SWITCH_CNT : Nat := 0x100010
def F.CLK_SWITCH_CNT_COUNT : Fld := ⟨R.CLK_SWITCH_CNT, 31, 0⟩
def R.CLK_PLL_LOCK : Nat := 0x100014
def F.CLK_PLL_LOCK_LOCK : Fld := ⟨R.CLK_PLL_LOCK, 31, 0⟩
def R.CLK_PLL_UNLOCK : Nat := 0x100018
def F.CLK_PLL_UNLOCK_UNLOCK : Fld := ⟨R.CLK_PLL_UNLOCK, 31, 0⟩
def R.CLK_SYS_LOCK : Nat := 0x10001c
def F.CLK_SYS_LOCK_SERDES : Fld := ⟨R.CLK_SYS_LOCK, 3, 3⟩
def F.CLK_SYS_LOCK_HBM : Fld := ⟨R.CLK_SYS_LOCK, 2, 2⟩
def F.CLK_SYS_LOCK_CORE : Fld := ⟨R.CLK_SYS_LOCK, 1, 1⟩
def F.CLK_SYS_LOCK_SEQ : Fld := ⟨R.CLK_SYS_LOCK, 0, 0⟩
def R.CLK_INT_EN : Nat := 0x100020
def F.CLK_INT_EN_PLL_UNLOCK : Fld := ⟨R.CLK_INT_EN, 4, 4⟩
def F.CLK_INT_EN_FALLBACK_FAIL : Fld := ⟨R.CLK_INT_EN, 3, 3⟩
def F.CLK_INT_EN_REF_BACK : Fld := ⟨R.CLK_INT_EN, 2, 2⟩
def F.CLK_INT_EN_FREQ_ERR : Fld := ⟨R.CLK_INT_EN, 1, 1⟩
def F.CLK_INT_EN_LOST : Fld := ⟨R.CLK_INT_EN, 0, 0⟩
def R.DRW_CMD : Nat := 0x200000
def F.DRW_CMD_TAG : Fld := ⟨R.DRW_CMD, 31, 24⟩
def F.DRW_CMD_OP : Fld := ⟨R.DRW_CMD, 23, 20⟩
def F.DRW_CMD_ID : Fld := ⟨R.DRW_CMD, 19, 0⟩
def R.DRW_CMD_ARG_LO : Nat := 0x200004
def F.DRW_CMD_ARG_LO_ARG : Fld := ⟨R.DRW_CMD_ARG_LO, 31, 0⟩
def R.DRW_CMD_ARG_HI : Nat := 0x200008
def F.DRW_CMD_ARG_HI_ARG : Fld := ⟨R.DRW_CMD_ARG_HI, 7, 0⟩
def R.DRW_CMD_STATUS : Nat := 0x20000c
def F.DRW_CMD_STATUS_BUSY : Fld := ⟨R.DRW_CMD_STATUS, 31, 31⟩
def F.DRW_CMD_STATUS_TAG : Fld := ⟨R.DRW_CMD_STATUS, 23, 16⟩
def F.DRW_CMD_STATUS_OP : Fld := ⟨R.DRW_CMD_STATUS, 15, 12⟩
def F.DRW_CMD_STATUS_RESULT : Fld := ⟨R.DRW_CMD_STATUS, 7, 0⟩
def R.DRW_CMD_RESULT_LO : Nat := 0x200010
def F.DRW_CMD_RESULT_LO_ADDR : Fld := ⟨R.DRW_CMD_RESULT_LO, 31, 0⟩
def R.DRW_CMD_RESULT_HI : Nat := 0x200014
def F.DRW_CMD_RESULT_HI_ADDR : Fld := ⟨R.DRW_CMD_RESULT_HI, 7, 0⟩
def R.DRW_CMD_REFUSED : Nat := 0x200018
def F.DRW_CMD_REFUSED_COUNT : Fld := ⟨R.DRW_CMD_REFUSED, 31, 0⟩
def R.DRW_COMMITTED_CNT : Nat := 0x200020
def F.DRW_COMMITTED_CNT_COUNT : Fld := ⟨R.DRW_COMMITTED_CNT, 20, 0⟩
def R.DRW_GEN : Nat := 0x200024
def F.DRW_GEN_GEN : Fld := ⟨R.DRW_GEN, 31, 0⟩
def R.DRW_GUARD_DROP : Nat := 0x200028
def F.DRW_GUARD_DROP_COUNT : Fld := ⟨R.DRW_GUARD_DROP, 31, 0⟩
def R.DRW_GUARD_LAST_LO : Nat := 0x20002c
def F.DRW_GUARD_LAST_LO_ADDR : Fld := ⟨R.DRW_GUARD_LAST_LO, 31, 0⟩
def R.DRW_GUARD_LAST_HI : Nat := 0x200030
def F.DRW_GUARD_LAST_HI_ADDR : Fld := ⟨R.DRW_GUARD_LAST_HI, 7, 0⟩
def R.DRW_GUARD_LAST_SRC : Nat := 0x200034
def F.DRW_GUARD_LAST_SRC_REQ : Fld := ⟨R.DRW_GUARD_LAST_SRC, 28, 24⟩
def F.DRW_GUARD_LAST_SRC_ID : Fld := ⟨R.DRW_GUARD_LAST_SRC, 19, 0⟩
def R.DRW_DIR_WP_DROP : Nat := 0x200038
def F.DRW_DIR_WP_DROP_COUNT : Fld := ⟨R.DRW_DIR_WP_DROP, 31, 0⟩
def R.DRW_EVENT : Nat := 0x20003c
def F.DRW_EVENT_CMD_REFUSED : Fld := ⟨R.DRW_EVENT, 4, 4⟩
def F.DRW_EVENT_CMD_DONE : Fld := ⟨R.DRW_EVENT, 3, 3⟩
def F.DRW_EVENT_GUARD_RACE : Fld := ⟨R.DRW_EVENT, 2, 2⟩
def F.DRW_EVENT_DIR_WP_DROP : Fld := ⟨R.DRW_EVENT, 1, 1⟩
def F.DRW_EVENT_GUARD_DROP : Fld := ⟨R.DRW_EVENT, 0, 0⟩
def R.DRW_INT_EN : Nat := 0x200040
def F.DRW_INT_EN_EN : Fld := ⟨R.DRW_INT_EN, 4, 0⟩
def R.DRW_SHELF_FREE_PAGES : Nat := 0x200044
def F.DRW_SHELF_FREE_PAGES_PAGES : Fld := ⟨R.DRW_SHELF_FREE_PAGES, 13, 0⟩
def R.DRW_SHELF_LARGEST : Nat := 0x200048
def F.DRW_SHELF_LARGEST_PAGES : Fld := ⟨R.DRW_SHELF_LARGEST, 13, 0⟩
def R.DRW_GUARD_RACE_CNT : Nat := 0x20004c
def F.DRW_GUARD_RACE_CNT_COUNT : Fld := ⟨R.DRW_GUARD_RACE_CNT, 31, 0⟩
def R.DRW_ART_n (n : Nat) : Nat := 0x201000 + 0x4 * n
def F.DRW_ART_n_VALID (n : Nat) : Fld := ⟨R.DRW_ART_n n, 31, 31⟩
def F.DRW_ART_n_PLAYING (n : Nat) : Fld := ⟨R.DRW_ART_n n, 30, 30⟩
def F.DRW_ART_n_SITE (n : Nat) : Fld := ⟨R.DRW_ART_n n, 29, 24⟩
def F.DRW_ART_n_RACED (n : Nat) : Fld := ⟨R.DRW_ART_n n, 23, 23⟩
def F.DRW_ART_n_ID (n : Nat) : Fld := ⟨R.DRW_ART_n n, 19, 0⟩
def R.DRW_SHELF_MAP_w (w : Nat) : Nat := 0x202000 + 0x4 * w
def F.DRW_SHELF_MAP_w_ALLOC (w : Nat) : Fld := ⟨R.DRW_SHELF_MAP_w w, 31, 0⟩
def R.DRW_COMMIT_MAP_w (w : Nat) : Nat := 0x220000 + 0x4 * w
def F.DRW_COMMIT_MAP_w_COMMITTED (w : Nat) : Fld := ⟨R.DRW_COMMIT_MAP_w w, 31, 0⟩
def R.STRM_CTRL : Nat := 0x300000
def F.STRM_CTRL_BURST : Fld := ⟨R.STRM_CTRL, 4, 0⟩
def R.STRM_LEDGER_CTRL : Nat := 0x300004
def F.STRM_LEDGER_CTRL_PCT : Fld := ⟨R.STRM_LEDGER_CTRL, 6, 0⟩
def R.STRM_LEDGER_GUAR : Nat := 0x300008
def F.STRM_LEDGER_GUAR_GUAR : Fld := ⟨R.STRM_LEDGER_GUAR, 15, 0⟩
def R.STRM_LEDGER_SUM : Nat := 0x30000c
def F.STRM_LEDGER_SUM_SUM : Fld := ⟨R.STRM_LEDGER_SUM, 15, 0⟩
def R.STRM_LEDGER_RSV : Nat := 0x300010
def F.STRM_LEDGER_RSV_RETRAIN : Fld := ⟨R.STRM_LEDGER_RSV, 31, 16⟩
def F.STRM_LEDGER_RSV_REFRESH : Fld := ⟨R.STRM_LEDGER_RSV, 15, 0⟩
def R.STRM_FIFO_FREE : Nat := 0x300014
def F.STRM_FIFO_FREE_UNITS : Fld := ⟨R.STRM_FIFO_FREE, 9, 0⟩
def R.STRM_STATUS : Nat := 0x300018
def F.STRM_STATUS_LEDGER_OVER : Fld := ⟨R.STRM_STATUS, 0, 0⟩
def R.STRM_EVENT : Nat := 0x30001c
def F.STRM_EVENT_LEDGER_OVER : Fld := ⟨R.STRM_EVENT, 3, 3⟩
def F.STRM_EVENT_ARM_REFUSED : Fld := ⟨R.STRM_EVENT, 2, 2⟩
def F.STRM_EVENT_SLIP_REPEAT : Fld := ⟨R.STRM_EVENT, 1, 1⟩
def F.STRM_EVENT_STARVE : Fld := ⟨R.STRM_EVENT, 0, 0⟩
def R.STRM_INT_EN : Nat := 0x300020
def F.STRM_INT_EN_EN : Fld := ⟨R.STRM_INT_EN, 3, 0⟩
def R.STRM_STARVE_TOTAL : Nat := 0x300024
def F.STRM_STARVE_TOTAL_COUNT : Fld := ⟨R.STRM_STARVE_TOTAL, 31, 0⟩
def R.STRM_TOL_MIN : Nat := 0x300028
def F.STRM_TOL_MIN_TOL : Fld := ⟨R.STRM_TOL_MIN, 31, 0⟩
def R.STRM_SITE_n_CFG (n : Nat) : Nat := 0x301000 + 0x40 * n
def F.STRM_SITE_n_CFG_FIFO_UNITS (n : Nat) : Fld := ⟨R.STRM_SITE_n_CFG n, 22, 16⟩
def F.STRM_SITE_n_CFG_ADMIT_BEST_EFFORT (n : Nat) : Fld := ⟨R.STRM_SITE_n_CFG n, 4, 4⟩
def F.STRM_SITE_n_CFG_POLICY (n : Nat) : Fld := ⟨R.STRM_SITE_n_CFG n, 1, 0⟩
def R.STRM_SITE_n_RATE (n : Nat) : Nat := 0x301004 + 0x40 * n
def F.STRM_SITE_n_RATE_RATE (n : Nat) : Fld := ⟨R.STRM_SITE_n_RATE n, 15, 0⟩
def R.STRM_SITE_n_TOL_OVR (n : Nat) : Nat := 0x301008 + 0x40 * n
def F.STRM_SITE_n_TOL_OVR_TOL (n : Nat) : Fld := ⟨R.STRM_SITE_n_TOL_OVR n, 31, 0⟩
def R.STRM_SITE_n_STATUS (n : Nat) : Nat := 0x30100c + 0x40 * n
def F.STRM_SITE_n_STATUS_ARM_RESULT (n : Nat) : Fld := ⟨R.STRM_SITE_n_STATUS n, 23, 16⟩
def F.STRM_SITE_n_STATUS_UNITS (n : Nat) : Fld := ⟨R.STRM_SITE_n_STATUS n, 6, 0⟩
def R.STRM_SITE_n_REQ (n : Nat) : Nat := 0x301010 + 0x40 * n
def F.STRM_SITE_n_REQ_BYTES (n : Nat) : Fld := ⟨R.STRM_SITE_n_REQ n, 14, 0⟩
def R.STRM_SITE_n_FRAME_BYTES (n : Nat) : Nat := 0x301014 + 0x40 * n
def F.STRM_SITE_n_FRAME_BYTES_BYTES (n : Nat) : Fld := ⟨R.STRM_SITE_n_FRAME_BYTES n, 16, 0⟩
def R.STRM_SITE_n_TOL (n : Nat) : Nat := 0x301018 + 0x40 * n
def F.STRM_SITE_n_TOL_TOL (n : Nat) : Fld := ⟨R.STRM_SITE_n_TOL n, 31, 0⟩
def R.STRM_SITE_n_STARVE_CNT (n : Nat) : Nat := 0x30101c + 0x40 * n
def F.STRM_SITE_n_STARVE_CNT_COUNT (n : Nat) : Fld := ⟨R.STRM_SITE_n_STARVE_CNT n, 31, 0⟩
def R.STRM_SITE_n_LATE_DROP (n : Nat) : Nat := 0x301020 + 0x40 * n
def F.STRM_SITE_n_LATE_DROP_COUNT (n : Nat) : Fld := ⟨R.STRM_SITE_n_LATE_DROP n, 31, 0⟩
def R.STRM_SITE_n_REPEAT_CNT (n : Nat) : Nat := 0x301024 + 0x40 * n
def F.STRM_SITE_n_REPEAT_CNT_COUNT (n : Nat) : Fld := ⟨R.STRM_SITE_n_REPEAT_CNT n, 31, 0⟩
def R.STRM_SITE_n_SLIP_CNT (n : Nat) : Nat := 0x301028 + 0x40 * n
def F.STRM_SITE_n_SLIP_CNT_COUNT (n : Nat) : Fld := ⟨R.STRM_SITE_n_SLIP_CNT n, 31, 0⟩
def R.STRM_SITE_n_FILL (n : Nat) : Nat := 0x30102c + 0x40 * n
def F.STRM_SITE_n_FILL_BYTES (n : Nat) : Fld := ⟨R.STRM_SITE_n_FILL n, 22, 0⟩
def R.STRM_SITE_n_FRAME (n : Nat) : Nat := 0x301030 + 0x40 * n
def F.STRM_SITE_n_FRAME_COUNT (n : Nat) : Fld := ⟨R.STRM_SITE_n_FRAME n, 31, 0⟩
def R.STRM_SITE_n_FIRST_STARVE (n : Nat) : Nat := 0x301034 + 0x40 * n
def F.STRM_SITE_n_FIRST_STARVE_FRAME (n : Nat) : Fld := ⟨R.STRM_SITE_n_FIRST_STARVE n, 31, 0⟩
def R.STRM_SITE_n_FLAGS (n : Nat) : Nat := 0x301038 + 0x40 * n
def F.STRM_SITE_n_FLAGS_CLAMPED (n : Nat) : Fld := ⟨R.STRM_SITE_n_FLAGS n, 3, 3⟩
def F.STRM_SITE_n_FLAGS_BEST_EFFORT (n : Nat) : Fld := ⟨R.STRM_SITE_n_FLAGS n, 2, 2⟩
def F.STRM_SITE_n_FLAGS_PRIMED (n : Nat) : Fld := ⟨R.STRM_SITE_n_FLAGS n, 1, 1⟩
def F.STRM_SITE_n_FLAGS_ARMED (n : Nat) : Fld := ⟨R.STRM_SITE_n_FLAGS n, 0, 0⟩
def R.MEMC_STATUS : Nat := 0x400000
def F.MEMC_STATUS_TEMP_HIGH : Fld := ⟨R.MEMC_STATUS, 7, 7⟩
def F.MEMC_STATUS_RETRAIN_PC : Fld := ⟨R.MEMC_STATUS, 6, 2⟩
def F.MEMC_STATUS_RETRAINING : Fld := ⟨R.MEMC_STATUS, 1, 1⟩
def F.MEMC_STATUS_TRAINED : Fld := ⟨R.MEMC_STATUS, 0, 0⟩
def R.MEMC_RETRAIN_CTRL : Nat := 0x400004
def F.MEMC_RETRAIN_CTRL_INTERVAL : Fld := ⟨R.MEMC_RETRAIN_CTRL, 31, 16⟩
def F.MEMC_RETRAIN_CTRL_ENABLE : Fld := ⟨R.MEMC_RETRAIN_CTRL, 0, 0⟩
def R.MEMC_RETRAIN_CMD : Nat := 0x400008
def F.MEMC_RETRAIN_CMD_START : Fld := ⟨R.MEMC_RETRAIN_CMD, 31, 31⟩
def F.MEMC_RETRAIN_CMD_PC : Fld := ⟨R.MEMC_RETRAIN_CMD, 4, 0⟩
def R.MEMC_RETRAIN_CNT : Nat := 0x40000c
def F.MEMC_RETRAIN_CNT_COUNT : Fld := ⟨R.MEMC_RETRAIN_CNT, 31, 0⟩
def R.MEMC_RETRAIN_FAIL : Nat := 0x400010
def F.MEMC_RETRAIN_FAIL_COUNT : Fld := ⟨R.MEMC_RETRAIN_FAIL, 31, 0⟩
def R.MEMC_PWR_CTRL : Nat := 0x400014
def F.MEMC_PWR_CTRL_ALLOW : Fld := ⟨R.MEMC_PWR_CTRL, 18, 16⟩
def F.MEMC_PWR_CTRL_IDLE : Fld := ⟨R.MEMC_PWR_CTRL, 15, 0⟩
def R.MEMC_REFAB_CNT : Nat := 0x400018
def F.MEMC_REFAB_CNT_COUNT : Fld := ⟨R.MEMC_REFAB_CNT, 31, 0⟩
def R.MEMC_REF_DEBT_MAX : Nat := 0x40001c
def F.MEMC_REF_DEBT_MAX_DEBT : Fld := ⟨R.MEMC_REF_DEBT_MAX, 3, 0⟩
def R.MEMC_INORDER_CNT : Nat := 0x400020
def F.MEMC_INORDER_CNT_COUNT : Fld := ⟨R.MEMC_INORDER_CNT, 31, 0⟩
def R.MEMC_ECC_CE : Nat := 0x400024
def F.MEMC_ECC_CE_COUNT : Fld := ⟨R.MEMC_ECC_CE, 31, 0⟩
def R.MEMC_ECC_UE : Nat := 0x400028
def F.MEMC_ECC_UE_COUNT : Fld := ⟨R.MEMC_ECC_UE, 31, 0⟩
def R.MEMC_ECC_UE_PLAYED : Nat := 0x40002c
def F.MEMC_ECC_UE_PLAYED_COUNT : Fld := ⟨R.MEMC_ECC_UE_PLAYED, 31, 0⟩
def R.MEMC_ECC_UE_ADDR_LO : Nat := 0x400030
def F.MEMC_ECC_UE_ADDR_LO_ADDR : Fld := ⟨R.MEMC_ECC_UE_ADDR_LO, 31, 0⟩
def R.MEMC_ECC_UE_ADDR_HI : Nat := 0x400034
def F.MEMC_ECC_UE_ADDR_HI_ADDR : Fld := ⟨R.MEMC_ECC_UE_ADDR_HI, 7, 0⟩
def R.MEMC_ECC_UE_SRC : Nat := 0x400038
def F.MEMC_ECC_UE_SRC_SITE_VALID : Fld := ⟨R.MEMC_ECC_UE_SRC, 31, 31⟩
def F.MEMC_ECC_UE_SRC_REQ : Fld := ⟨R.MEMC_ECC_UE_SRC, 30, 26⟩
def F.MEMC_ECC_UE_SRC_SITE : Fld := ⟨R.MEMC_ECC_UE_SRC, 25, 20⟩
def F.MEMC_ECC_UE_SRC_ID : Fld := ⟨R.MEMC_ECC_UE_SRC, 19, 0⟩
def R.MEMC_CE_THRESH : Nat := 0x40003c
def F.MEMC_CE_THRESH_COUNT : Fld := ⟨R.MEMC_CE_THRESH, 31, 0⟩
def R.MEMC_EVENT : Nat := 0x400040
def F.MEMC_EVENT_TEMP_HIGH : Fld := ⟨R.MEMC_EVENT, 4, 4⟩
def F.MEMC_EVENT_REFAB : Fld := ⟨R.MEMC_EVENT, 3, 3⟩
def F.MEMC_EVENT_RETRAIN_FAIL : Fld := ⟨R.MEMC_EVENT, 2, 2⟩
def F.MEMC_EVENT_CE_THRESH : Fld := ⟨R.MEMC_EVENT, 1, 1⟩
def F.MEMC_EVENT_UE : Fld := ⟨R.MEMC_EVENT, 0, 0⟩
def R.MEMC_INT_EN : Nat := 0x400044
def F.MEMC_INT_EN_EN : Fld := ⟨R.MEMC_INT_EN, 4, 0⟩
def R.MEMC_TEMP : Nat := 0x400048
def F.MEMC_TEMP_TEMP : Fld := ⟨R.MEMC_TEMP, 7, 0⟩
def R.MEMC_PC_p_STATE (p : Nat) : Nat := 0x400100 + 0x4 * p
def F.MEMC_PC_p_STATE_INORDER (p : Nat) : Fld := ⟨R.MEMC_PC_p_STATE p, 3, 3⟩
def F.MEMC_PC_p_STATE_TRAINING (p : Nat) : Fld := ⟨R.MEMC_PC_p_STATE p, 2, 2⟩
def F.MEMC_PC_p_STATE_STATE (p : Nat) : Fld := ⟨R.MEMC_PC_p_STATE p, 1, 0⟩
def R.MEMC_PC_p_CE (p : Nat) : Nat := 0x400200 + 0x4 * p
def F.MEMC_PC_p_CE_COUNT (p : Nat) : Fld := ⟨R.MEMC_PC_p_CE p, 31, 0⟩
def R.SEQ_UCODE_VER : Nat := 0x500000
def F.SEQ_UCODE_VER_VER : Fld := ⟨R.SEQ_UCODE_VER, 31, 0⟩
def R.SEQ_UCODE_CRC : Nat := 0x500004
def F.SEQ_UCODE_CRC_CRC : Fld := ⟨R.SEQ_UCODE_CRC, 31, 0⟩
def R.SEQ_UCS_ADDR : Nat := 0x500008
def F.SEQ_UCS_ADDR_ADDR : Fld := ⟨R.SEQ_UCS_ADDR, 12, 0⟩
def R.SEQ_UCS_DATAk (k : Nat) : Nat := 0x50000c + 0x4 * k
def F.SEQ_UCS_DATAk_DATA (k : Nat) : Fld := ⟨R.SEQ_UCS_DATAk k, 31, 0⟩
def R.SEQ_UCS_STATUS : Nat := 0x50001c
def F.SEQ_UCS_STATUS_LOADED : Fld := ⟨R.SEQ_UCS_STATUS, 0, 0⟩
def R.SEQ_UCS_PARITY : Nat := 0x500020
def F.SEQ_UCS_PARITY_COUNT : Fld := ⟨R.SEQ_UCS_PARITY, 31, 0⟩
def R.SEQ_SLICE : Nat := 0x500024
def F.SEQ_SLICE_MIN_RUN : Fld := ⟨R.SEQ_SLICE, 9, 0⟩
def R.SEQ_SIG_BASE_LO : Nat := 0x500028
def F.SEQ_SIG_BASE_LO_ADDR : Fld := ⟨R.SEQ_SIG_BASE_LO, 31, 0⟩
def R.SEQ_SIG_BASE_HI : Nat := 0x50002c
def F.SEQ_SIG_BASE_HI_ADDR : Fld := ⟨R.SEQ_SIG_BASE_HI, 7, 0⟩
def R.SEQ_ENG_ACTIVE : Nat := 0x500030
def F.SEQ_ENG_ACTIVE_ACTIVE : Fld := ⟨R.SEQ_ENG_ACTIVE, 15, 0⟩
def R.SEQ_HALTED_LO : Nat := 0x500034
def F.SEQ_HALTED_LO_SITES : Fld := ⟨R.SEQ_HALTED_LO, 31, 0⟩
def R.SEQ_HALTED_HI : Nat := 0x500038
def F.SEQ_HALTED_HI_SITES : Fld := ⟨R.SEQ_HALTED_HI, 31, 0⟩
def R.SEQ_EVENT : Nat := 0x50003c
def F.SEQ_EVENT_UCS_PARITY : Fld := ⟨R.SEQ_EVENT, 0, 0⟩
def R.SEQ_INT_EN : Nat := 0x500040
def F.SEQ_INT_EN_UCS_PARITY : Fld := ⟨R.SEQ_INT_EN, 0, 0⟩
def R.SEQ_CTX_n_ENTRY_DRW (n : Nat) : Nat := 0x510000 + 0x400 * n
def F.SEQ_CTX_n_ENTRY_DRW_ID (n : Nat) : Fld := ⟨R.SEQ_CTX_n_ENTRY_DRW n, 19, 0⟩
def R.SEQ_CTX_n_ENTRY_GOFF (n : Nat) : Nat := 0x510004 + 0x400 * n
def F.SEQ_CTX_n_ENTRY_GOFF_GOFF (n : Nat) : Fld := ⟨R.SEQ_CTX_n_ENTRY_GOFF n, 23, 0⟩
def R.SEQ_CTX_n_CFG (n : Nat) : Nat := 0x510008 + 0x400 * n
def F.SEQ_CTX_n_CFG_SPEC_FRAMES (n : Nat) : Fld := ⟨R.SEQ_CTX_n_CFG n, 21, 16⟩
def F.SEQ_CTX_n_CFG_INIT_LEVELS (n : Nat) : Fld := ⟨R.SEQ_CTX_n_CFG n, 10, 8⟩
def F.SEQ_CTX_n_CFG_INIT_TSET (n : Nat) : Fld := ⟨R.SEQ_CTX_n_CFG n, 7, 0⟩
def R.SEQ_CTX_n_CMD (n : Nat) : Nat := 0x51000c + 0x400 * n
def F.SEQ_CTX_n_CMD_ABORT (n : Nat) : Fld := ⟨R.SEQ_CTX_n_CMD n, 0, 0⟩
def R.SEQ_CTX_n_STATE (n : Nat) : Nat := 0x510010 + 0x400 * n
def F.SEQ_CTX_n_STATE_HALT_CODE (n : Nat) : Fld := ⟨R.SEQ_CTX_n_STATE n, 31, 24⟩
def F.SEQ_CTX_n_STATE_SPAN_ROLE (n : Nat) : Fld := ⟨R.SEQ_CTX_n_STATE n, 23, 22⟩
def F.SEQ_CTX_n_STATE_CALL_DEPTH (n : Nat) : Fld := ⟨R.SEQ_CTX_n_STATE n, 20, 16⟩
def F.SEQ_CTX_n_STATE_LOOP_DEPTH (n : Nat) : Fld := ⟨R.SEQ_CTX_n_STATE n, 15, 12⟩
def F.SEQ_CTX_n_STATE_STATE (n : Nat) : Fld := ⟨R.SEQ_CTX_n_STATE n, 2, 0⟩
def R.SEQ_CTX_n_PC_DRW (n : Nat) : Nat := 0x510014 + 0x400 * n
def F.SEQ_CTX_n_PC_DRW_ID (n : Nat) : Fld := ⟨R.SEQ_CTX_n_PC_DRW n, 19, 0⟩
def R.SEQ_CTX_n_PC_IDX (n : Nat) : Nat := 0x510018 + 0x400 * n
def F.SEQ_CTX_n_PC_IDX_IDX (n : Nat) : Fld := ⟨R.SEQ_CTX_n_PC_IDX n, 15, 0⟩
def R.SEQ_CTX_n_CURSOR (n : Nat) : Nat := 0x51001c + 0x400 * n
def F.SEQ_CTX_n_CURSOR_GRAN (n : Nat) : Fld := ⟨R.SEQ_CTX_n_CURSOR n, 31, 0⟩
def R.SEQ_CTX_n_PLAY_DRW (n : Nat) : Nat := 0x510020 + 0x400 * n
def F.SEQ_CTX_n_PLAY_DRW_ID (n : Nat) : Fld := ⟨R.SEQ_CTX_n_PLAY_DRW n, 19, 0⟩
def R.SEQ_CTX_n_PLAY_GRAN (n : Nat) : Nat := 0x510024 + 0x400 * n
def F.SEQ_CTX_n_PLAY_GRAN_GRAN (n : Nat) : Fld := ⟨R.SEQ_CTX_n_PLAY_GRAN n, 31, 0⟩
def R.SEQ_CTX_n_HALT_DRW (n : Nat) : Nat := 0x510028 + 0x400 * n
def F.SEQ_CTX_n_HALT_DRW_ID (n : Nat) : Fld := ⟨R.SEQ_CTX_n_HALT_DRW n, 19, 0⟩
def R.SEQ_CTX_n_HALT_IDX (n : Nat) : Nat := 0x51002c + 0x400 * n
def F.SEQ_CTX_n_HALT_IDX_IDX (n : Nat) : Fld := ⟨R.SEQ_CTX_n_HALT_IDX n, 15, 0⟩
def R.SEQ_CTX_n_FLAGS (n : Nat) : Nat := 0x510030 + 0x400 * n
def F.SEQ_CTX_n_FLAGS_FLAGS (n : Nat) : Fld := ⟨R.SEQ_CTX_n_FLAGS n, 8, 0⟩
def R.SEQ_CTX_n_CORE_SET (n : Nat) : Nat := 0x510034 + 0x400 * n
def F.SEQ_CTX_n_CORE_SET_CORE (n : Nat) : Fld := ⟨R.SEQ_CTX_n_CORE_SET n, 3, 0⟩
def R.SEQ_CTX_n_CORE_CLR (n : Nat) : Nat := 0x510038 + 0x400 * n
def F.SEQ_CTX_n_CORE_CLR_CORE (n : Nat) : Fld := ⟨R.SEQ_CTX_n_CORE_CLR n, 3, 0⟩
def R.SEQ_CTX_n_SETS (n : Nat) : Nat := 0x51003c + 0x400 * n
def F.SEQ_CTX_n_SETS_LEVELS (n : Nat) : Fld := ⟨R.SEQ_CTX_n_SETS n, 10, 8⟩
def F.SEQ_CTX_n_SETS_TSET (n : Nat) : Fld := ⟨R.SEQ_CTX_n_SETS n, 7, 0⟩
def R.SEQ_CTX_n_SHADOW (n : Nat) : Nat := 0x510040 + 0x400 * n
def F.SEQ_CTX_n_SHADOW_SPAN (n : Nat) : Fld := ⟨R.SEQ_CTX_n_SHADOW n, 31, 16⟩
def F.SEQ_CTX_n_SHADOW_LOCAL (n : Nat) : Fld := ⟨R.SEQ_CTX_n_SHADOW n, 15, 0⟩
def R.SEQ_CTX_n_SPAN_LAT (n : Nat) : Nat := 0x510044 + 0x400 * n
def F.SEQ_CTX_n_SPAN_LAT_NS (n : Nat) : Fld := ⟨R.SEQ_CTX_n_SPAN_LAT n, 15, 0⟩
def R.SEQ_CTX_n_SHADOW_PAD (n : Nat) : Nat := 0x510048 + 0x400 * n
def F.SEQ_CTX_n_SHADOW_PAD_COUNT (n : Nat) : Fld := ⟨R.SEQ_CTX_n_SHADOW_PAD n, 31, 0⟩
def R.SEQ_CTX_n_VEC_SHORT (n : Nat) : Nat := 0x51004c + 0x400 * n
def F.SEQ_CTX_n_VEC_SHORT_COUNT (n : Nat) : Fld := ⟨R.SEQ_CTX_n_VEC_SHORT n, 31, 0⟩
def R.SEQ_CTX_n_ENDL_EMPTY (n : Nat) : Nat := 0x510050 + 0x400 * n
def F.SEQ_CTX_n_ENDL_EMPTY_COUNT (n : Nat) : Fld := ⟨R.SEQ_CTX_n_ENDL_EMPTY n, 31, 0⟩
def R.SEQ_CTX_n_SIG_REFUSED (n : Nat) : Nat := 0x510054 + 0x400 * n
def F.SEQ_CTX_n_SIG_REFUSED_COUNT (n : Nat) : Fld := ⟨R.SEQ_CTX_n_SIG_REFUSED n, 31, 0⟩
def R.SEQ_CTX_n_TAKEN (n : Nat) : Nat := 0x510058 + 0x400 * n
def F.SEQ_CTX_n_TAKEN_COUNT (n : Nat) : Fld := ⟨R.SEQ_CTX_n_TAKEN n, 31, 0⟩
def R.SEQ_CTX_n_EVENT (n : Nat) : Nat := 0x51005c + 0x400 * n
def F.SEQ_CTX_n_EVENT_SHADOW_PAD (n : Nat) : Fld := ⟨R.SEQ_CTX_n_EVENT n, 6, 6⟩
def F.SEQ_CTX_n_EVENT_TIMEOUT (n : Nat) : Fld := ⟨R.SEQ_CTX_n_EVENT n, 5, 5⟩
def F.SEQ_CTX_n_EVENT_POISON (n : Nat) : Fld := ⟨R.SEQ_CTX_n_EVENT n, 4, 4⟩
def F.SEQ_CTX_n_EVENT_SIG_REFUSED (n : Nat) : Fld := ⟨R.SEQ_CTX_n_EVENT n, 3, 3⟩
def F.SEQ_CTX_n_EVENT_ENDL_EMPTY (n : Nat) : Fld := ⟨R.SEQ_CTX_n_EVENT n, 2, 2⟩
def F.SEQ_CTX_n_EVENT_VEC_SHORT (n : Nat) : Fld := ⟨R.SEQ_CTX_n_EVENT n, 1, 1⟩
def F.SEQ_CTX_n_EVENT_HALT (n : Nat) : Fld := ⟨R.SEQ_CTX_n_EVENT n, 0, 0⟩
def R.SEQ_CTX_n_INT_EN (n : Nat) : Nat := 0x510060 + 0x400 * n
def F.SEQ_CTX_n_INT_EN_EN (n : Nat) : Fld := ⟨R.SEQ_CTX_n_INT_EN n, 6, 0⟩
def R.SEQ_CTX_n_ART_STALL (n : Nat) : Nat := 0x510064 + 0x400 * n
def F.SEQ_CTX_n_ART_STALL_COUNT (n : Nat) : Fld := ⟨R.SEQ_CTX_n_ART_STALL n, 31, 0⟩
def R.SEQ_CTX_n_LOOP_k (n k : Nat) : Nat := 0x510080 + 0x400 * n + 0x4 * k
def F.SEQ_CTX_n_LOOP_k_COUNT (n k : Nat) : Fld := ⟨R.SEQ_CTX_n_LOOP_k n k, 31, 0⟩
def R.SEQ_CTX_n_STK_j_DRW (n j : Nat) : Nat := 0x510100 + 0x400 * n + 0x10 * j
def F.SEQ_CTX_n_STK_j_DRW_ID (n j : Nat) : Fld := ⟨R.SEQ_CTX_n_STK_j_DRW n j, 19, 0⟩
def R.SEQ_CTX_n_STK_j_IDX (n j : Nat) : Nat := 0x510104 + 0x400 * n + 0x10 * j
def F.SEQ_CTX_n_STK_j_IDX_IDX (n j : Nat) : Fld := ⟨R.SEQ_CTX_n_STK_j_IDX n j, 15, 0⟩
def R.SEQ_CTX_n_STK_j_CUR (n j : Nat) : Nat := 0x510108 + 0x400 * n + 0x10 * j
def F.SEQ_CTX_n_STK_j_CUR_GRAN (n j : Nat) : Fld := ⟨R.SEQ_CTX_n_STK_j_CUR n j, 31, 0⟩
def R.TSET_CMD : Nat := 0x600000
def F.TSET_CMD_TAG : Fld := ⟨R.TSET_CMD, 31, 24⟩
def F.TSET_CMD_OP : Fld := ⟨R.TSET_CMD, 23, 20⟩
def F.TSET_CMD_SET : Fld := ⟨R.TSET_CMD, 7, 0⟩
def R.TSET_CMD_STATUS : Nat := 0x600004
def F.TSET_CMD_STATUS_BUSY : Fld := ⟨R.TSET_CMD_STATUS, 31, 31⟩
def F.TSET_CMD_STATUS_TAG : Fld := ⟨R.TSET_CMD_STATUS, 23, 16⟩
def F.TSET_CMD_STATUS_OP : Fld := ⟨R.TSET_CMD_STATUS, 15, 12⟩
def F.TSET_CMD_STATUS_RESULT : Fld := ⟨R.TSET_CMD_STATUS, 7, 0⟩
def R.TSET_CMD_REFUSED : Nat := 0x600008
def F.TSET_CMD_REFUSED_COUNT : Fld := ⟨R.TSET_CMD_REFUSED, 31, 0⟩
def R.TSET_ERR_LOC : Nat := 0x60000c
def F.TSET_ERR_LOC_PERIOD : Fld := ⟨R.TSET_ERR_LOC, 31, 31⟩
def F.TSET_ERR_LOC_SITE : Fld := ⟨R.TSET_ERR_LOC, 30, 25⟩
def F.TSET_ERR_LOC_EDGE : Fld := ⟨R.TSET_ERR_LOC, 24, 22⟩
def F.TSET_ERR_LOC_CHANNEL : Fld := ⟨R.TSET_ERR_LOC, 8, 0⟩
def R.TSET_EVENT : Nat := 0x600010
def F.TSET_EVENT_WP_DROP : Fld := ⟨R.TSET_EVENT, 4, 4⟩
def F.TSET_EVENT_CMD_REFUSED : Fld := ⟨R.TSET_EVENT, 3, 3⟩
def F.TSET_EVENT_CMD_DONE : Fld := ⟨R.TSET_EVENT, 2, 2⟩
def F.TSET_EVENT_COLLIDE_OVER : Fld := ⟨R.TSET_EVENT, 1, 1⟩
def F.TSET_EVENT_DIRTY_USE : Fld := ⟨R.TSET_EVENT, 0, 0⟩
def R.TSET_INT_EN : Nat := 0x600014
def F.TSET_INT_EN_EN : Fld := ⟨R.TSET_INT_EN, 4, 0⟩
def R.TSET_DIRTY_USE_CNT : Nat := 0x600018
def F.TSET_DIRTY_USE_CNT_COUNT : Fld := ⟨R.TSET_DIRTY_USE_CNT, 31, 0⟩
def R.TSET_WP_DROP : Nat := 0x60001c
def F.TSET_WP_DROP_COUNT : Fld := ⟨R.TSET_WP_DROP, 31, 0⟩
def R.TSET_DIRTY_MAP_w (w : Nat) : Nat := 0x600100 + 0x4 * w
def F.TSET_DIRTY_MAP_w_DIRTY (w : Nat) : Fld := ⟨R.TSET_DIRTY_MAP_w w, 31, 0⟩
def R.TSET_GEN_s (s : Nat) : Nat := 0x600200 + 0x4 * s
def F.TSET_GEN_s_GEN (s : Nat) : Fld := ⟨R.TSET_GEN_s s, 15, 0⟩
def R.TSET_SITE_n_COLL_LIMIT (n : Nat) : Nat := 0x601000 + 0x20 * n
def F.TSET_SITE_n_COLL_LIMIT_LIMIT (n : Nat) : Fld := ⟨R.TSET_SITE_n_COLL_LIMIT n, 31, 0⟩
def R.TSET_SITE_n_COLL_CNT (n : Nat) : Nat := 0x601004 + 0x20 * n
def F.TSET_SITE_n_COLL_CNT_COUNT (n : Nat) : Fld := ⟨R.TSET_SITE_n_COLL_CNT n, 31, 0⟩
def R.TSET_SITE_n_STATUS (n : Nat) : Nat := 0x601008 + 0x20 * n
def F.TSET_SITE_n_STATUS_COLLIDE_OVER (n : Nat) : Fld := ⟨R.TSET_SITE_n_STATUS n, 1, 1⟩
def F.TSET_SITE_n_STATUS_DIRTY_USE (n : Nat) : Fld := ⟨R.TSET_SITE_n_STATUS n, 0, 0⟩
def R.TSET_SITE_n_CACHE_MISS (n : Nat) : Nat := 0x60100c + 0x20 * n
def F.TSET_SITE_n_CACHE_MISS_COUNT (n : Nat) : Fld := ⟨R.TSET_SITE_n_CACHE_MISS n, 31, 0⟩
def R.TSET_SITE_n_LOCK_STALL (n : Nat) : Nat := 0x601010 + 0x20 * n
def F.TSET_SITE_n_LOCK_STALL_COUNT (n : Nat) : Fld := ⟨R.TSET_SITE_n_LOCK_STALL n, 31, 0⟩
def R.TSET_PER_n_s_LO (n s : Nat) : Nat := 0x620000 + 0x800 * n + 0x8 * s
def F.TSET_PER_n_s_LO_PERIOD (n s : Nat) : Fld := ⟨R.TSET_PER_n_s_LO n s, 31, 0⟩
def R.TSET_PER_n_s_HI (n s : Nat) : Nat := 0x620004 + 0x800 * n + 0x8 * s
def F.TSET_PER_n_s_HI_PERIOD (n s : Nat) : Fld := ⟨R.TSET_PER_n_s_HI n s, 7, 0⟩
def R.TSET_ENT_c_s_W0 (c s : Nat) : Nat := 0xa00000 + 0x2000 * c + 0x20 * s
def F.TSET_ENT_c_s_W0_CMP_MODE (c s : Nat) : Fld := ⟨R.TSET_ENT_c_s_W0 c s, 16, 16⟩
def F.TSET_ENT_c_s_W0_EN (c s : Nat) : Fld := ⟨R.TSET_ENT_c_s_W0 c s, 13, 8⟩
def F.TSET_ENT_c_s_W0_FORMAT (c s : Nat) : Fld := ⟨R.TSET_ENT_c_s_W0 c s, 7, 0⟩
def R.TSET_ENT_c_s_Wi (c s i : Nat) : Nat := 0xa00004 + 0x2000 * c + 0x20 * s + 0x4 * i
def F.TSET_ENT_c_s_Wi_OFFSET (c s i : Nat) : Fld := ⟨R.TSET_ENT_c_s_Wi c s i, 31, 0⟩
def R.TSET_ENT_c_s_W7 (c s : Nat) : Nat := 0xa0001c + 0x2000 * c + 0x20 * s
def R.CLU_k_EC_CFG (k : Nat) : Nat := 0x1030000 + 0x40000 * k
def F.CLU_k_EC_CFG_SPLIT (k : Nat) : Fld := ⟨R.CLU_k_EC_CFG k, 15, 15⟩
def F.CLU_k_EC_CFG_SITE1 (k : Nat) : Fld := ⟨R.CLU_k_EC_CFG k, 13, 8⟩
def F.CLU_k_EC_CFG_SITE0 (k : Nat) : Fld := ⟨R.CLU_k_EC_CFG k, 5, 0⟩
def R.CLU_k_EC_LOADS (k : Nat) : Nat := 0x1030004 + 0x40000 * k
def F.CLU_k_EC_LOADS_COUNT (k : Nat) : Fld := ⟨R.CLU_k_EC_LOADS k, 31, 0⟩
def R.CLU_k_EC_EVICT (k : Nat) : Nat := 0x1030008 + 0x40000 * k
def F.CLU_k_EC_EVICT_COUNT (k : Nat) : Fld := ⟨R.CLU_k_EC_EVICT k, 31, 0⟩
def R.CLU_k_EC_SLOT_i (k i : Nat) : Nat := 0x1030100 + 0x40000 * k + 0x4 * i
def F.CLU_k_EC_SLOT_i_VALID (k i : Nat) : Fld := ⟨R.CLU_k_EC_SLOT_i k i, 31, 31⟩
def F.CLU_k_EC_SLOT_i_DIRTY_COPY (k i : Nat) : Fld := ⟨R.CLU_k_EC_SLOT_i k i, 30, 30⟩
def F.CLU_k_EC_SLOT_i_LOCKED (k i : Nat) : Fld := ⟨R.CLU_k_EC_SLOT_i k i, 29, 29⟩
def F.CLU_k_EC_SLOT_i_STAGED (k i : Nat) : Fld := ⟨R.CLU_k_EC_SLOT_i k i, 28, 28⟩
def F.CLU_k_EC_SLOT_i_SITE (k i : Nat) : Fld := ⟨R.CLU_k_EC_SLOT_i k i, 27, 22⟩
def F.CLU_k_EC_SLOT_i_GEN (k i : Nat) : Fld := ⟨R.CLU_k_EC_SLOT_i k i, 15, 8⟩
def F.CLU_k_EC_SLOT_i_SET (k i : Nat) : Fld := ⟨R.CLU_k_EC_SLOT_i k i, 7, 0⟩
def R.CLU_k_EC_COLL_j (k j : Nat) : Nat := 0x1030200 + 0x40000 * k + 0x4 * j
def F.CLU_k_EC_COLL_j_COUNT (k j : Nat) : Fld := ⟨R.CLU_k_EC_COLL_j k j, 31, 0⟩
def R.CLU_k_BANK_CFG (k : Nat) : Nat := 0x1000000 + 0x40000 * k
def F.CLU_k_BANK_CFG_VNOM (k : Nat) : Fld := ⟨R.CLU_k_BANK_CFG k, 11, 0⟩
def R.CLU_k_BANK_STATUS (k : Nat) : Nat := 0x1000004 + 0x40000 * k
def F.CLU_k_BANK_STATUS_VMEAS (k : Nat) : Fld := ⟨R.CLU_k_BANK_STATUS k, 27, 16⟩
def F.CLU_k_BANK_STATUS_IN_WINDOW (k : Nat) : Fld := ⟨R.CLU_k_BANK_STATUS k, 1, 1⟩
def F.CLU_k_BANK_STATUS_POWERED (k : Nat) : Fld := ⟨R.CLU_k_BANK_STATUS k, 0, 0⟩
def R.CLU_k_EVENT (k : Nat) : Nat := 0x1000008 + 0x40000 * k
def F.CLU_k_EVENT_WR_DROP (k : Nat) : Fld := ⟨R.CLU_k_EVENT k, 5, 5⟩
def F.CLU_k_EVENT_OCP (k : Nat) : Fld := ⟨R.CLU_k_EVENT k, 4, 4⟩
def F.CLU_k_EVENT_PPMU_CLAMP (k : Nat) : Fld := ⟨R.CLU_k_EVENT k, 3, 3⟩
def F.CLU_k_EVENT_UNSETTLED (k : Nat) : Fld := ⟨R.CLU_k_EVENT k, 2, 2⟩
def F.CLU_k_EVENT_CLAMP (k : Nat) : Fld := ⟨R.CLU_k_EVENT k, 1, 1⟩
def F.CLU_k_EVENT_BANK_FAULT (k : Nat) : Fld := ⟨R.CLU_k_EVENT k, 0, 0⟩
def R.CLU_k_INT_EN (k : Nat) : Nat := 0x100000c + 0x40000 * k
def F.CLU_k_INT_EN_EN (k : Nat) : Fld := ⟨R.CLU_k_INT_EN k, 5, 0⟩
def R.CLU_k_UNSETTLED_CNT (k : Nat) : Nat := 0x1000010 + 0x40000 * k
def F.CLU_k_UNSETTLED_CNT_COUNT (k : Nat) : Fld := ⟨R.CLU_k_UNSETTLED_CNT k, 31, 0⟩
def R.CLU_k_CLAMP_CNT (k : Nat) : Nat := 0x1000014 + 0x40000 * k
def F.CLU_k_CLAMP_CNT_COUNT (k : Nat) : Fld := ⟨R.CLU_k_CLAMP_CNT k, 31, 0⟩
def R.CLU_k_WR_DROP (k : Nat) : Nat := 0x1000018 + 0x40000 * k
def F.CLU_k_WR_DROP_COUNT (k : Nat) : Fld := ⟨R.CLU_k_WR_DROP k, 31, 0⟩
def R.CLU_k_BANK_FAULT_CNT (k : Nat) : Nat := 0x100001c + 0x40000 * k
def F.CLU_k_BANK_FAULT_CNT_COUNT (k : Nat) : Fld := ⟨R.CLU_k_BANK_FAULT_CNT k, 31, 0⟩
def R.CLU_k_CH_j_CFG (k j : Nat) : Nat := 0x1001000 + 0x40000 * k + 0x400 * j
def F.CLU_k_CH_j_CFG_TERM_EN (k j : Nat) : Fld := ⟨R.CLU_k_CH_j_CFG k j, 8, 8⟩
def F.CLU_k_CH_j_CFG_ZOUT (k j : Nat) : Fld := ⟨R.CLU_k_CH_j_CFG k j, 6, 0⟩
def R.CLU_k_CH_j_EO_STROBE (k j : Nat) : Nat := 0x1001004 + 0x40000 * k + 0x400 * j
def F.CLU_k_CH_j_EO_STROBE_WIDTH (k j : Nat) : Fld := ⟨R.CLU_k_CH_j_EO_STROBE k j, 15, 0⟩
def R.CLU_k_CH_j_EO_RESULT (k j : Nat) : Nat := 0x1001008 + 0x40000 * k + 0x400 * j
def F.CLU_k_CH_j_EO_RESULT_DLY (k j : Nat) : Fld := ⟨R.CLU_k_CH_j_EO_RESULT k j, 16, 0⟩
def R.CLU_k_CH_j_STATUS (k j : Nat) : Nat := 0x100100c + 0x40000 * k + 0x400 * j
def F.CLU_k_CH_j_STATUS_SAFE (k j : Nat) : Fld := ⟨R.CLU_k_CH_j_STATUS k j, 6, 6⟩
def F.CLU_k_CH_j_STATUS_OCP (k j : Nat) : Fld := ⟨R.CLU_k_CH_j_STATUS k j, 5, 5⟩
def F.CLU_k_CH_j_STATUS_PPMU_ON (k j : Nat) : Fld := ⟨R.CLU_k_CH_j_STATUS k j, 4, 4⟩
def F.CLU_k_CH_j_STATUS_CLAMPED (k j : Nat) : Fld := ⟨R.CLU_k_CH_j_STATUS k j, 3, 3⟩
def F.CLU_k_CH_j_STATUS_TERM_ON (k j : Nat) : Fld := ⟨R.CLU_k_CH_j_STATUS k j, 2, 2⟩
def F.CLU_k_CH_j_STATUS_DRV_ON (k j : Nat) : Fld := ⟨R.CLU_k_CH_j_STATUS k j, 1, 1⟩
def F.CLU_k_CH_j_STATUS_BOUND (k j : Nat) : Fld := ⟨R.CLU_k_CH_j_STATUS k j, 0, 0⟩
def R.CLU_k_CH_j_EO_BADSYM (k j : Nat) : Nat := 0x1001010 + 0x40000 * k + 0x400 * j
def F.CLU_k_CH_j_EO_BADSYM_COUNT (k j : Nat) : Fld := ⟨R.CLU_k_CH_j_EO_BADSYM k j, 31, 0⟩
def R.CLU_k_LS_j_s_VIH (k j s : Nat) : Nat := 0x1010000 + 0x40000 * k + 0x100 * j + 0x20 * s
def F.CLU_k_LS_j_s_VIH_CODE (k j s : Nat) : Fld := ⟨R.CLU_k_LS_j_s_VIH k j s, 15, 0⟩
def R.CLU_k_LS_j_s_VIL (k j s : Nat) : Nat := 0x1010004 + 0x40000 * k + 0x100 * j + 0x20 * s
def F.CLU_k_LS_j_s_VIL_CODE (k j s : Nat) : Fld := ⟨R.CLU_k_LS_j_s_VIL k j s, 15, 0⟩
def R.CLU_k_LS_j_s_VOH (k j s : Nat) : Nat := 0x1010008 + 0x40000 * k + 0x100 * j + 0x20 * s
def F.CLU_k_LS_j_s_VOH_CODE (k j s : Nat) : Fld := ⟨R.CLU_k_LS_j_s_VOH k j s, 15, 0⟩
def R.CLU_k_LS_j_s_VOL (k j s : Nat) : Nat := 0x101000c + 0x40000 * k + 0x100 * j + 0x20 * s
def F.CLU_k_LS_j_s_VOL_CODE (k j s : Nat) : Fld := ⟨R.CLU_k_LS_j_s_VOL k j s, 15, 0⟩
def R.CLU_k_LS_j_s_VTT (k j s : Nat) : Nat := 0x1010010 + 0x40000 * k + 0x100 * j + 0x20 * s
def F.CLU_k_LS_j_s_VTT_CODE (k j s : Nat) : Fld := ⟨R.CLU_k_LS_j_s_VTT k j s, 15, 0⟩
def R.CLU_k_MC_CTRL (k : Nat) : Nat := 0x1020000 + 0x40000 * k
def F.CLU_k_MC_CTRL_MASK (k : Nat) : Fld := ⟨R.CLU_k_MC_CTRL k, 15, 0⟩
def R.CLU_k_MC_TIMING (k : Nat) : Nat := 0x1020004 + 0x40000 * k
def F.CLU_k_MC_TIMING_AVG (k : Nat) : Fld := ⟨R.CLU_k_MC_TIMING k, 11, 8⟩
def F.CLU_k_MC_TIMING_SETTLE (k : Nat) : Fld := ⟨R.CLU_k_MC_TIMING k, 7, 0⟩
def R.CLU_k_MC_STATUS (k : Nat) : Nat := 0x1020008 + 0x40000 * k
def F.CLU_k_MC_STATUS_ROUND (k : Nat) : Fld := ⟨R.CLU_k_MC_STATUS k, 31, 16⟩
def F.CLU_k_MC_STATUS_CAL (k : Nat) : Fld := ⟨R.CLU_k_MC_STATUS k, 7, 7⟩
def F.CLU_k_MC_STATUS_RUNNING (k : Nat) : Fld := ⟨R.CLU_k_MC_STATUS k, 6, 6⟩
def F.CLU_k_MC_STATUS_CUR_CH (k : Nat) : Fld := ⟨R.CLU_k_MC_STATUS k, 3, 0⟩
def R.CLU_k_PP_j_CTRL (k j : Nat) : Nat := 0x1020100 + 0x40000 * k + 0x10 * j
def F.CLU_k_PP_j_CTRL_RANGE (k j : Nat) : Fld := ⟨R.CLU_k_PP_j_CTRL k j, 3, 2⟩
def F.CLU_k_PP_j_CTRL_MODE (k j : Nat) : Fld := ⟨R.CLU_k_PP_j_CTRL k j, 1, 0⟩
def R.CLU_k_PP_j_FORCE (k j : Nat) : Nat := 0x1020104 + 0x40000 * k + 0x10 * j
def F.CLU_k_PP_j_FORCE_VALUE (k j : Nat) : Fld := ⟨R.CLU_k_PP_j_FORCE k j, 17, 0⟩
def R.CLU_k_PP_j_VCLAMP (k j : Nat) : Nat := 0x1020108 + 0x40000 * k + 0x10 * j
def F.CLU_k_PP_j_VCLAMP_HI (k j : Nat) : Fld := ⟨R.CLU_k_PP_j_VCLAMP k j, 31, 16⟩
def F.CLU_k_PP_j_VCLAMP_LO (k j : Nat) : Fld := ⟨R.CLU_k_PP_j_VCLAMP k j, 15, 0⟩
def R.CLU_k_PP_j_RESULT (k j : Nat) : Nat := 0x102010c + 0x40000 * k + 0x10 * j
def F.CLU_k_PP_j_RESULT_SEQ (k j : Nat) : Fld := ⟨R.CLU_k_PP_j_RESULT k j, 31, 24⟩
def F.CLU_k_PP_j_RESULT_CLAMP (k j : Nat) : Fld := ⟨R.CLU_k_PP_j_RESULT k j, 23, 23⟩
def F.CLU_k_PP_j_RESULT_CODE (k j : Nat) : Fld := ⟨R.CLU_k_PP_j_RESULT k j, 17, 0⟩
def R.CLU_k_TDC_u_CFG (k u : Nat) : Nat := 0x1028000 + 0x40000 * k + 0x1000 * u
def F.CLU_k_TDC_u_CFG_MODE (k u : Nat) : Fld := ⟨R.CLU_k_TDC_u_CFG k u, 31, 30⟩
def F.CLU_k_TDC_u_CFG_END_FULL (k u : Nat) : Fld := ⟨R.CLU_k_TDC_u_CFG k u, 29, 29⟩
def F.CLU_k_TDC_u_CFG_STOP_MAX (k u : Nat) : Fld := ⟨R.CLU_k_TDC_u_CFG k u, 28, 24⟩
def F.CLU_k_TDC_u_CFG_TAG (k u : Nat) : Fld := ⟨R.CLU_k_TDC_u_CFG k u, 23, 16⟩
def F.CLU_k_TDC_u_CFG_STOP_THR (k u : Nat) : Fld := ⟨R.CLU_k_TDC_u_CFG k u, 15, 15⟩
def F.CLU_k_TDC_u_CFG_STOP_POL (k u : Nat) : Fld := ⟨R.CLU_k_TDC_u_CFG k u, 14, 13⟩
def F.CLU_k_TDC_u_CFG_STOP_SRC (k u : Nat) : Fld := ⟨R.CLU_k_TDC_u_CFG k u, 12, 8⟩
def F.CLU_k_TDC_u_CFG_START_THR (k u : Nat) : Fld := ⟨R.CLU_k_TDC_u_CFG k u, 7, 7⟩
def F.CLU_k_TDC_u_CFG_START_POL (k u : Nat) : Fld := ⟨R.CLU_k_TDC_u_CFG k u, 6, 5⟩
def F.CLU_k_TDC_u_CFG_START_SRC (k u : Nat) : Fld := ⟨R.CLU_k_TDC_u_CFG k u, 4, 0⟩
def R.CLU_k_TDC_u_OPEN (k u : Nat) : Nat := 0x1028004 + 0x40000 * k + 0x1000 * u
def F.CLU_k_TDC_u_OPEN_NS (k u : Nat) : Fld := ⟨R.CLU_k_TDC_u_OPEN k u, 31, 0⟩
def R.CLU_k_TDC_u_CLOSE (k u : Nat) : Nat := 0x1028008 + 0x40000 * k + 0x1000 * u
def F.CLU_k_TDC_u_CLOSE_NS (k u : Nat) : Fld := ⟨R.CLU_k_TDC_u_CLOSE k u, 31, 0⟩
def R.CLU_k_TDC_u_CMD (k u : Nat) : Nat := 0x102800c + 0x40000 * k + 0x1000 * u
def F.CLU_k_TDC_u_CMD_ABORT (k u : Nat) : Fld := ⟨R.CLU_k_TDC_u_CMD k u, 1, 1⟩
def F.CLU_k_TDC_u_CMD_ARM (k u : Nat) : Fld := ⟨R.CLU_k_TDC_u_CMD k u, 0, 0⟩
def R.CLU_k_TDC_u_STATUS (k u : Nat) : Nat := 0x1028010 + 0x40000 * k + 0x1000 * u
def F.CLU_k_TDC_u_STATUS_BANK (k u : Nat) : Fld := ⟨R.CLU_k_TDC_u_STATUS k u, 20, 20⟩
def F.CLU_k_TDC_u_STATUS_UNCAL (k u : Nat) : Fld := ⟨R.CLU_k_TDC_u_STATUS k u, 19, 19⟩
def F.CLU_k_TDC_u_STATUS_REF_LOST (k u : Nat) : Fld := ⟨R.CLU_k_TDC_u_STATUS k u, 18, 18⟩
def F.CLU_k_TDC_u_STATUS_MORE (k u : Nat) : Fld := ⟨R.CLU_k_TDC_u_STATUS k u, 17, 17⟩
def F.CLU_k_TDC_u_STATUS_COUNT (k u : Nat) : Fld := ⟨R.CLU_k_TDC_u_STATUS k u, 16, 12⟩
def F.CLU_k_TDC_u_STATUS_ABORT_CAUSE (k u : Nat) : Fld := ⟨R.CLU_k_TDC_u_STATUS k u, 9, 8⟩
def F.CLU_k_TDC_u_STATUS_ARM_ERR (k u : Nat) : Fld := ⟨R.CLU_k_TDC_u_STATUS k u, 7, 4⟩
def F.CLU_k_TDC_u_STATUS_STATE (k u : Nat) : Fld := ⟨R.CLU_k_TDC_u_STATUS k u, 2, 0⟩
def R.CLU_k_TDC_u_EARLY (k u : Nat) : Nat := 0x1028014 + 0x40000 * k + 0x1000 * u
def F.CLU_k_TDC_u_EARLY_COUNT (k u : Nat) : Fld := ⟨R.CLU_k_TDC_u_EARLY k u, 31, 0⟩
def R.CLU_k_TDC_u_EXTRA (k u : Nat) : Nat := 0x1028018 + 0x40000 * k + 0x1000 * u
def F.CLU_k_TDC_u_EXTRA_COUNT (k u : Nat) : Fld := ⟨R.CLU_k_TDC_u_EXTRA k u, 31, 0⟩
def R.CLU_k_TDC_u_MISSED (k u : Nat) : Nat := 0x102801c + 0x40000 * k + 0x1000 * u
def F.CLU_k_TDC_u_MISSED_COUNT (k u : Nat) : Fld := ⟨R.CLU_k_TDC_u_MISSED k u, 31, 0⟩
def R.CLU_k_TDC_u_START_TIME_LO (k u : Nat) : Nat := 0x1028020 + 0x40000 * k + 0x1000 * u
def F.CLU_k_TDC_u_START_TIME_LO_TIME (k u : Nat) : Fld := ⟨R.CLU_k_TDC_u_START_TIME_LO k u, 31, 0⟩
def R.CLU_k_TDC_u_START_TIME_HI (k u : Nat) : Nat := 0x1028024 + 0x40000 * k + 0x1000 * u
def F.CLU_k_TDC_u_START_TIME_HI_TIME (k u : Nat) : Fld := ⟨R.CLU_k_TDC_u_START_TIME_HI k u, 31, 0⟩
def R.CLU_k_TDC_u_CAL (k u : Nat) : Nat := 0x1028030 + 0x40000 * k + 0x1000 * u
def F.CLU_k_TDC_u_CAL_VALID (k u : Nat) : Fld := ⟨R.CLU_k_TDC_u_CAL k u, 17, 17⟩
def F.CLU_k_TDC_u_CAL_FAIL (k u : Nat) : Fld := ⟨R.CLU_k_TDC_u_CAL k u, 16, 16⟩
def F.CLU_k_TDC_u_CAL_SPAN (k u : Nat) : Fld := ⟨R.CLU_k_TDC_u_CAL k u, 8, 0⟩
def R.CLU_k_TDC_u_HIST_BASE_LO (k u : Nat) : Nat := 0x1028040 + 0x40000 * k + 0x1000 * u
def F.CLU_k_TDC_u_HIST_BASE_LO_BASE (k u : Nat) : Fld := ⟨R.CLU_k_TDC_u_HIST_BASE_LO k u, 31, 0⟩
def R.CLU_k_TDC_u_HIST_BASE_HI (k u : Nat) : Nat := 0x1028044 + 0x40000 * k + 0x1000 * u
def F.CLU_k_TDC_u_HIST_BASE_HI_BASE (k u : Nat) : Fld := ⟨R.CLU_k_TDC_u_HIST_BASE_HI k u, 11, 0⟩
def R.CLU_k_TDC_u_HIST_CFG (k u : Nat) : Nat := 0x1028048 + 0x40000 * k + 0x1000 * u
def F.CLU_k_TDC_u_HIST_CFG_BINW (k u : Nat) : Fld := ⟨R.CLU_k_TDC_u_HIST_CFG k u, 3, 0⟩
def R.CLU_k_TDC_u_HIST_N (k u : Nat) : Nat := 0x102804c + 0x40000 * k + 0x1000 * u
def F.CLU_k_TDC_u_HIST_N_COUNT (k u : Nat) : Fld := ⟨R.CLU_k_TDC_u_HIST_N k u, 31, 0⟩
def R.CLU_k_TDC_u_HIST_CNT (k u : Nat) : Nat := 0x1028050 + 0x40000 * k + 0x1000 * u
def F.CLU_k_TDC_u_HIST_CNT_COUNT (k u : Nat) : Fld := ⟨R.CLU_k_TDC_u_HIST_CNT k u, 31, 0⟩
def R.CLU_k_TDC_u_HIST_UNDER (k u : Nat) : Nat := 0x1028054 + 0x40000 * k + 0x1000 * u
def F.CLU_k_TDC_u_HIST_UNDER_COUNT (k u : Nat) : Fld := ⟨R.CLU_k_TDC_u_HIST_UNDER k u, 31, 0⟩
def R.CLU_k_TDC_u_HIST_OVER (k u : Nat) : Nat := 0x1028058 + 0x40000 * k + 0x1000 * u
def F.CLU_k_TDC_u_HIST_OVER_COUNT (k u : Nat) : Fld := ⟨R.CLU_k_TDC_u_HIST_OVER k u, 31, 0⟩
def R.CLU_k_TDC_u_HIST_NOSTOP (k u : Nat) : Nat := 0x102805c + 0x40000 * k + 0x1000 * u
def F.CLU_k_TDC_u_HIST_NOSTOP_COUNT (k u : Nat) : Fld := ⟨R.CLU_k_TDC_u_HIST_NOSTOP k u, 31, 0⟩
def R.CLU_k_TDC_u_STOP_i_LO (k u i : Nat) : Nat := 0x1028100 + 0x40000 * k + 0x1000 * u + 0x8 * i
def F.CLU_k_TDC_u_STOP_i_LO_INTERVAL (k u i : Nat) : Fld := ⟨R.CLU_k_TDC_u_STOP_i_LO k u i, 31, 0⟩
def R.CLU_k_TDC_u_STOP_i_HI (k u i : Nat) : Nat := 0x1028104 + 0x40000 * k + 0x1000 * u + 0x8 * i
def F.CLU_k_TDC_u_STOP_i_HI_EDGE (k u i : Nat) : Fld := ⟨R.CLU_k_TDC_u_STOP_i_HI k u i, 16, 16⟩
def F.CLU_k_TDC_u_STOP_i_HI_INTERVAL (k u i : Nat) : Fld := ⟨R.CLU_k_TDC_u_STOP_i_HI k u i, 11, 0⟩
def R.CLU_k_TDC_u_HBIN_b (k u b : Nat) : Nat := 0x1028400 + 0x40000 * k + 0x1000 * u + 0x4 * b
def F.CLU_k_TDC_u_HBIN_b_COUNT (k u b : Nat) : Fld := ⟨R.CLU_k_TDC_u_HBIN_b k u b, 31, 0⟩
def R.CLU_k_TDC_u_BIN_i (k u i : Nat) : Nat := 0x1028800 + 0x40000 * k + 0x1000 * u + 0x4 * i
def F.CLU_k_TDC_u_BIN_i_W (k u i : Nat) : Fld := ⟨R.CLU_k_TDC_u_BIN_i k u i, 15, 0⟩
def R.CLU_k_TDC_EVENT (k : Nat) : Nat := 0x102c000 + 0x40000 * k
def F.CLU_k_TDC_EVENT_CAL_FAIL (k : Nat) : Fld := ⟨R.CLU_k_TDC_EVENT k, 8, 8⟩
def F.CLU_k_TDC_EVENT_ABORT (k : Nat) : Fld := ⟨R.CLU_k_TDC_EVENT k, 7, 4⟩
def F.CLU_k_TDC_EVENT_DONE (k : Nat) : Fld := ⟨R.CLU_k_TDC_EVENT k, 3, 0⟩
def R.CLU_k_TDC_INT_EN (k : Nat) : Nat := 0x102c004 + 0x40000 * k
def F.CLU_k_TDC_INT_EN_EN (k : Nat) : Fld := ⟨R.CLU_k_TDC_INT_EN k, 8, 0⟩
def R.CLU_k_TDC_CAL_CNT (k : Nat) : Nat := 0x102c008 + 0x40000 * k
def F.CLU_k_TDC_CAL_CNT_COUNT (k : Nat) : Fld := ⟨R.CLU_k_TDC_CAL_CNT k, 31, 0⟩
def R.FAIL_EVENT : Nat := 0x2000000
def F.FAIL_EVENT_FIRST_FAIL : Fld := ⟨R.FAIL_EVENT, 3, 3⟩
def F.FAIL_EVENT_REC_LOST : Fld := ⟨R.FAIL_EVENT, 2, 2⟩
def F.FAIL_EVENT_REC_FULL : Fld := ⟨R.FAIL_EVENT, 1, 1⟩
def F.FAIL_EVENT_DONE : Fld := ⟨R.FAIL_EVENT, 0, 0⟩
def R.FAIL_INT_EN : Nat := 0x2000004
def F.FAIL_INT_EN_EN : Fld := ⟨R.FAIL_INT_EN, 3, 0⟩
def R.FAIL_DONE_LO : Nat := 0x2000008
def F.FAIL_DONE_LO_SITES : Fld := ⟨R.FAIL_DONE_LO, 31, 0⟩
def R.FAIL_DONE_HI : Nat := 0x200000c
def F.FAIL_DONE_HI_SITES : Fld := ⟨R.FAIL_DONE_HI, 31, 0⟩
def R.FAIL_SITE_n_RESULT (n : Nat) : Nat := 0x2001000 + 0x40 * n
def F.FAIL_SITE_n_RESULT_RESULT (n : Nat) : Fld := ⟨R.FAIL_SITE_n_RESULT n, 31, 0⟩
def R.FAIL_SITE_n_CFG (n : Nat) : Nat := 0x2001004 + 0x40 * n
def F.FAIL_SITE_n_CFG_MATCH_MODE (n : Nat) : Fld := ⟨R.FAIL_SITE_n_CFG n, 17, 16⟩
def F.FAIL_SITE_n_CFG_REC_MAX (n : Nat) : Fld := ⟨R.FAIL_SITE_n_CFG n, 12, 0⟩
def R.FAIL_SITE_n_REC_CNT (n : Nat) : Nat := 0x2001008 + 0x40 * n
def F.FAIL_SITE_n_REC_CNT_COUNT (n : Nat) : Fld := ⟨R.FAIL_SITE_n_REC_CNT n, 12, 0⟩
def R.FAIL_SITE_n_REC_LOST (n : Nat) : Nat := 0x200100c + 0x40 * n
def F.FAIL_SITE_n_REC_LOST_COUNT (n : Nat) : Fld := ⟨R.FAIL_SITE_n_REC_LOST n, 31, 0⟩
def R.FAIL_SITE_n_FVEC_CNT (n : Nat) : Nat := 0x2001010 + 0x40 * n
def F.FAIL_SITE_n_FVEC_CNT_COUNT (n : Nat) : Fld := ⟨R.FAIL_SITE_n_FVEC_CNT n, 31, 0⟩
def R.FAIL_SITE_n_FIRST_VEC_LO (n : Nat) : Nat := 0x2001014 + 0x40 * n
def F.FAIL_SITE_n_FIRST_VEC_LO_VNUM (n : Nat) : Fld := ⟨R.FAIL_SITE_n_FIRST_VEC_LO n, 31, 0⟩
def R.FAIL_SITE_n_FIRST_VEC_HI (n : Nat) : Nat := 0x2001018 + 0x40 * n
def F.FAIL_SITE_n_FIRST_VEC_HI_VNUM (n : Nat) : Fld := ⟨R.FAIL_SITE_n_FIRST_VEC_HI n, 31, 0⟩
def R.FAIL_SITE_n_MASKED (n : Nat) : Nat := 0x200101c + 0x40 * n
def F.FAIL_SITE_n_MASKED_COUNT (n : Nat) : Fld := ⟨R.FAIL_SITE_n_MASKED n, 31, 0⟩
def R.FAIL_SITE_n_STATUS (n : Nat) : Nat := 0x2001020 + 0x40 * n
def F.FAIL_SITE_n_STATUS_REC_FULL (n : Nat) : Fld := ⟨R.FAIL_SITE_n_STATUS n, 0, 0⟩
def R.FAIL_CH_c_CNT (c : Nat) : Nat := 0x2002000 + 0x4 * c
def F.FAIL_CH_c_CNT_COUNT (c : Nat) : Fld := ⟨R.FAIL_CH_c_CNT c, 31, 0⟩
def R.CAPT_EVENT : Nat := 0x2100000
def F.CAPT_EVENT_TRIG_OUT : Fld := ⟨R.CAPT_EVENT, 1, 1⟩
def F.CAPT_EVENT_OVERFLOW : Fld := ⟨R.CAPT_EVENT, 0, 0⟩
def R.CAPT_INT_EN : Nat := 0x2100004
def F.CAPT_INT_EN_EN : Fld := ⟨R.CAPT_INT_EN, 1, 0⟩
def R.CAPT_SITE_n_CFG (n : Nat) : Nat := 0x2101000 + 0x100 * n
def F.CAPT_SITE_n_CFG_EN_INIT (n : Nat) : Fld := ⟨R.CAPT_SITE_n_CFG n, 31, 31⟩
def F.CAPT_SITE_n_CFG_GATE_INIT (n : Nat) : Fld := ⟨R.CAPT_SITE_n_CFG n, 30, 30⟩
def F.CAPT_SITE_n_CFG_MODE (n : Nat) : Fld := ⟨R.CAPT_SITE_n_CFG n, 1, 0⟩
def R.CAPT_SITE_n_BUF (n : Nat) : Nat := 0x2101004 + 0x100 * n
def F.CAPT_SITE_n_BUF_PAGES (n : Nat) : Fld := ⟨R.CAPT_SITE_n_BUF n, 28, 16⟩
def F.CAPT_SITE_n_BUF_BASE (n : Nat) : Fld := ⟨R.CAPT_SITE_n_BUF n, 11, 0⟩
def R.CAPT_SITE_n_CHMASK_LO (n : Nat) : Nat := 0x2101008 + 0x100 * n
def F.CAPT_SITE_n_CHMASK_LO_MASK (n : Nat) : Fld := ⟨R.CAPT_SITE_n_CHMASK_LO n, 31, 0⟩
def R.CAPT_SITE_n_CHMASK_HI (n : Nat) : Nat := 0x210100c + 0x100 * n
def F.CAPT_SITE_n_CHMASK_HI_MASK (n : Nat) : Fld := ⟨R.CAPT_SITE_n_CHMASK_HI n, 31, 0⟩
def R.CAPT_SITE_n_SPILL_BASE_LO (n : Nat) : Nat := 0x2101010 + 0x100 * n
def F.CAPT_SITE_n_SPILL_BASE_LO_ADDR (n : Nat) : Fld := ⟨R.CAPT_SITE_n_SPILL_BASE_LO n, 31, 0⟩
def R.CAPT_SITE_n_SPILL_BASE_HI (n : Nat) : Nat := 0x2101014 + 0x100 * n
def F.CAPT_SITE_n_SPILL_BASE_HI_ADDR (n : Nat) : Fld := ⟨R.CAPT_SITE_n_SPILL_BASE_HI n, 7, 0⟩
def R.CAPT_SITE_n_SPILL_SIZE (n : Nat) : Nat := 0x2101018 + 0x100 * n
def F.CAPT_SITE_n_SPILL_SIZE_PAGES (n : Nat) : Fld := ⟨R.CAPT_SITE_n_SPILL_SIZE n, 19, 0⟩
def R.CAPT_SITE_n_STATUS (n : Nat) : Nat := 0x210101c + 0x100 * n
def F.CAPT_SITE_n_STATUS_ARM_RESULT (n : Nat) : Fld := ⟨R.CAPT_SITE_n_STATUS n, 23, 16⟩
def F.CAPT_SITE_n_STATUS_TMR_RUN (n : Nat) : Fld := ⟨R.CAPT_SITE_n_STATUS n, 15, 12⟩
def F.CAPT_SITE_n_STATUS_TSTATE (n : Nat) : Fld := ⟨R.CAPT_SITE_n_STATUS n, 10, 8⟩
def F.CAPT_SITE_n_STATUS_FLUSHED (n : Nat) : Fld := ⟨R.CAPT_SITE_n_STATUS n, 4, 4⟩
def F.CAPT_SITE_n_STATUS_OVERFLOW (n : Nat) : Fld := ⟨R.CAPT_SITE_n_STATUS n, 3, 3⟩
def F.CAPT_SITE_n_STATUS_GATE (n : Nat) : Fld := ⟨R.CAPT_SITE_n_STATUS n, 2, 2⟩
def F.CAPT_SITE_n_STATUS_ENABLE (n : Nat) : Fld := ⟨R.CAPT_SITE_n_STATUS n, 1, 1⟩
def F.CAPT_SITE_n_STATUS_CAPTURING (n : Nat) : Fld := ⟨R.CAPT_SITE_n_STATUS n, 0, 0⟩
def R.CAPT_SITE_n_REC_CNT (n : Nat) : Nat := 0x2101020 + 0x100 * n
def F.CAPT_SITE_n_REC_CNT_COUNT (n : Nat) : Fld := ⟨R.CAPT_SITE_n_REC_CNT n, 31, 0⟩
def R.CAPT_SITE_n_WR_OFF (n : Nat) : Nat := 0x2101024 + 0x100 * n
def F.CAPT_SITE_n_WR_OFF_OFF (n : Nat) : Fld := ⟨R.CAPT_SITE_n_WR_OFF n, 23, 0⟩
def R.CAPT_SITE_n_SPILL_OFF (n : Nat) : Nat := 0x2101028 + 0x100 * n
def F.CAPT_SITE_n_SPILL_OFF_OFF (n : Nat) : Fld := ⟨R.CAPT_SITE_n_SPILL_OFF n, 31, 0⟩
def R.CAPT_SITE_n_LOST (n : Nat) : Nat := 0x210102c + 0x100 * n
def F.CAPT_SITE_n_LOST_COUNT (n : Nat) : Fld := ⟨R.CAPT_SITE_n_LOST n, 31, 0⟩
def R.CAPT_SITE_n_CNT_k (n k : Nat) : Nat := 0x2101030 + 0x100 * n + 0x4 * k
def F.CAPT_SITE_n_CNT_k_COUNT (n k : Nat) : Fld := ⟨R.CAPT_SITE_n_CNT_k n k, 31, 0⟩
def R.CAPT_SITE_n_CNT_k_CFG (n k : Nat) : Nat := 0x2101040 + 0x100 * n + 0x4 * k
def F.CAPT_SITE_n_CNT_k_CFG_EV (n k : Nat) : Fld := ⟨R.CAPT_SITE_n_CNT_k_CFG n k, 4, 0⟩
def R.CAPT_SITE_n_CNT_k_LIMIT (n k : Nat) : Nat := 0x2101050 + 0x100 * n + 0x4 * k
def F.CAPT_SITE_n_CNT_k_LIMIT_LIMIT (n k : Nat) : Fld := ⟨R.CAPT_SITE_n_CNT_k_LIMIT n k, 31, 0⟩
def R.CAPT_SITE_n_TMR_k_LIMIT (n k : Nat) : Nat := 0x2101060 + 0x100 * n + 0x4 * k
def F.CAPT_SITE_n_TMR_k_LIMIT_NS (n k : Nat) : Fld := ⟨R.CAPT_SITE_n_TMR_k_LIMIT n k, 31, 0⟩
def R.CAPT_SITE_n_TRIG_ST_s_TRANS (n s : Nat) : Nat := 0x2101080 + 0x100 * n + 0x8 * s
def F.CAPT_SITE_n_TRIG_ST_s_TRANS_NEXT_B (n s : Nat) : Fld := ⟨R.CAPT_SITE_n_TRIG_ST_s_TRANS n s, 15, 13⟩
def F.CAPT_SITE_n_TRIG_ST_s_TRANS_EV_B (n s : Nat) : Fld := ⟨R.CAPT_SITE_n_TRIG_ST_s_TRANS n s, 12, 8⟩
def F.CAPT_SITE_n_TRIG_ST_s_TRANS_NEXT_A (n s : Nat) : Fld := ⟨R.CAPT_SITE_n_TRIG_ST_s_TRANS n s, 7, 5⟩
def F.CAPT_SITE_n_TRIG_ST_s_TRANS_EV_A (n s : Nat) : Fld := ⟨R.CAPT_SITE_n_TRIG_ST_s_TRANS n s, 4, 0⟩
def R.CAPT_SITE_n_TRIG_ST_s_ACT (n s : Nat) : Nat := 0x2101084 + 0x100 * n + 0x8 * s
def F.CAPT_SITE_n_TRIG_ST_s_ACT_ACT_B (n s : Nat) : Fld := ⟨R.CAPT_SITE_n_TRIG_ST_s_ACT n s, 31, 16⟩
def F.CAPT_SITE_n_TRIG_ST_s_ACT_ACT_A (n s : Nat) : Fld := ⟨R.CAPT_SITE_n_TRIG_ST_s_ACT n s, 15, 0⟩
def R.CAPT_SITE_n_TRIG_ST_s_HOLD (n s : Nat) : Nat := 0x21010c0 + 0x100 * n + 0x4 * s
def F.CAPT_SITE_n_TRIG_ST_s_HOLD_MODE (n s : Nat) : Fld := ⟨R.CAPT_SITE_n_TRIG_ST_s_HOLD n s, 31, 30⟩
def F.CAPT_SITE_n_TRIG_ST_s_HOLD_EV (n s : Nat) : Fld := ⟨R.CAPT_SITE_n_TRIG_ST_s_HOLD n s, 28, 24⟩
def F.CAPT_SITE_n_TRIG_ST_s_HOLD_COUNT (n s : Nat) : Fld := ⟨R.CAPT_SITE_n_TRIG_ST_s_HOLD n s, 23, 0⟩
def R.ULT_CFG : Nat := 0x3000000
def F.ULT_CFG_ENUM_WAIT : Fld := ⟨R.ULT_CFG, 31, 20⟩
def F.ULT_CFG_ID_MODE : Fld := ⟨R.ULT_CFG, 17, 16⟩
def F.ULT_CFG_FIXED_ID : Fld := ⟨R.ULT_CFG, 15, 0⟩
def R.ULT_STATUS : Nat := 0x3000004
def F.ULT_STATUS_ID_VALID : Fld := ⟨R.ULT_STATUS, 31, 31⟩
def F.ULT_STATUS_ROOT : Fld := ⟨R.ULT_STATUS, 30, 30⟩
def F.ULT_STATUS_TOO_DEEP : Fld := ⟨R.ULT_STATUS, 29, 29⟩
def F.ULT_STATUS_DEPTH : Fld := ⟨R.ULT_STATUS, 23, 20⟩
def F.ULT_STATUS_UP_PORT : Fld := ⟨R.ULT_STATUS, 18, 16⟩
def F.ULT_STATUS_CHIP_ID : Fld := ⟨R.ULT_STATUS, 15, 0⟩
def R.ULT_ENUM_CMD : Nat := 0x3000008
def F.ULT_ENUM_CMD_START : Fld := ⟨R.ULT_ENUM_CMD, 0, 0⟩
def R.ULT_ROUTE_EN : Nat := 0x300000c
def F.ULT_ROUTE_EN_EN : Fld := ⟨R.ULT_ROUTE_EN, 3, 0⟩
def R.ULT_ROUTE_k (k : Nat) : Nat := 0x3000010 + 0x4 * k
def F.ULT_ROUTE_k_HI (k : Nat) : Fld := ⟨R.ULT_ROUTE_k k, 31, 16⟩
def F.ULT_ROUTE_k_LO (k : Nat) : Fld := ⟨R.ULT_ROUTE_k k, 15, 0⟩
def R.ULT_DT_EXPECT : Nat := 0x3000020
def F.ULT_DT_EXPECT_COUNT : Fld := ⟨R.ULT_DT_EXPECT, 22, 0⟩
def R.ULT_DT_ARRIVED : Nat := 0x3000024
def F.ULT_DT_ARRIVED_COUNT : Fld := ⟨R.ULT_DT_ARRIVED, 22, 0⟩
def R.ULT_DT_LEAD : Nat := 0x3000028
def F.ULT_DT_LEAD_LEAD : Fld := ⟨R.ULT_DT_LEAD, 11, 0⟩
def R.ULT_MGMT_TMO : Nat := 0x300002c
def F.ULT_MGMT_TMO_US : Fld := ⟨R.ULT_MGMT_TMO, 15, 0⟩
def R.ULT_RMT_ID : Nat := 0x3000030
def F.ULT_RMT_ID_ID : Fld := ⟨R.ULT_RMT_ID, 15, 0⟩
def R.ULT_RMT_ADDR : Nat := 0x3000034
def F.ULT_RMT_ADDR_OFF : Fld := ⟨R.ULT_RMT_ADDR, 26, 0⟩
def R.ULT_RMT_DATA : Nat := 0x3000038
def F.ULT_RMT_DATA_DATA : Fld := ⟨R.ULT_RMT_DATA, 31, 0⟩
def R.ULT_RMT_CMD : Nat := 0x300003c
def F.ULT_RMT_CMD_OP : Fld := ⟨R.ULT_RMT_CMD, 1, 0⟩
def R.ULT_RMT_STATUS : Nat := 0x3000040
def F.ULT_RMT_STATUS_BUSY : Fld := ⟨R.ULT_RMT_STATUS, 31, 31⟩
def F.ULT_RMT_STATUS_STATUS : Fld := ⟨R.ULT_RMT_STATUS, 3, 0⟩
def R.ULT_UNROUTABLE : Nat := 0x3000044
def F.ULT_UNROUTABLE_COUNT : Fld := ⟨R.ULT_UNROUTABLE, 31, 0⟩
def R.ULT_BULK_DROP : Nat := 0x3000048
def F.ULT_BULK_DROP_COUNT : Fld := ⟨R.ULT_BULK_DROP, 31, 0⟩
def R.ULT_EVENT : Nat := 0x300004c
def F.ULT_EVENT_ENUM_DONE : Fld := ⟨R.ULT_EVENT, 2, 2⟩
def F.ULT_EVENT_RMT_DONE : Fld := ⟨R.ULT_EVENT, 1, 1⟩
def F.ULT_EVENT_LINK_DOWN : Fld := ⟨R.ULT_EVENT, 0, 0⟩
def R.ULT_INT_EN : Nat := 0x3000050
def F.ULT_INT_EN_EN : Fld := ⟨R.ULT_INT_EN, 2, 0⟩
def R.ULT_Pk_CTRL (k : Nat) : Nat := 0x3001000 + 0x100 * k
def F.ULT_Pk_CTRL_ENABLE (k : Nat) : Fld := ⟨R.ULT_Pk_CTRL k, 31, 31⟩
def F.ULT_Pk_CTRL_AUTO_RETRAIN (k : Nat) : Fld := ⟨R.ULT_Pk_CTRL k, 30, 30⟩
def F.ULT_Pk_CTRL_MODE (k : Nat) : Fld := ⟨R.ULT_Pk_CTRL k, 29, 28⟩
def F.ULT_Pk_CTRL_MAX_RATE (k : Nat) : Fld := ⟨R.ULT_Pk_CTRL k, 26, 24⟩
def F.ULT_Pk_CTRL_RAW_RATE (k : Nat) : Fld := ⟨R.ULT_Pk_CTRL k, 22, 20⟩
def R.ULT_Pk_CMD (k : Nat) : Nat := 0x3001004 + 0x100 * k
def F.ULT_Pk_CMD_LANE (k : Nat) : Fld := ⟨R.ULT_Pk_CMD k, 5, 4⟩
def F.ULT_Pk_CMD_BITSLIP (k : Nat) : Fld := ⟨R.ULT_Pk_CMD k, 1, 1⟩
def F.ULT_Pk_CMD_RETRAIN (k : Nat) : Fld := ⟨R.ULT_Pk_CMD k, 0, 0⟩
def R.ULT_Pk_STATUS (k : Nat) : Nat := 0x3001008 + 0x100 * k
def F.ULT_Pk_STATUS_LONG (k : Nat) : Fld := ⟨R.ULT_Pk_STATUS k, 31, 31⟩
def F.ULT_Pk_STATUS_LOOP (k : Nat) : Fld := ⟨R.ULT_Pk_STATUS k, 30, 30⟩
def F.ULT_Pk_STATUS_UP (k : Nat) : Fld := ⟨R.ULT_Pk_STATUS k, 29, 29⟩
def F.ULT_Pk_STATUS_PARTNER_VALID (k : Nat) : Fld := ⟨R.ULT_Pk_STATUS k, 28, 28⟩
def F.ULT_Pk_STATUS_RATE (k : Nat) : Fld := ⟨R.ULT_Pk_STATUS k, 26, 24⟩
def F.ULT_Pk_STATUS_WIDTH (k : Nat) : Fld := ⟨R.ULT_Pk_STATUS k, 21, 20⟩
def F.ULT_Pk_STATUS_PARTNER_ID (k : Nat) : Fld := ⟨R.ULT_Pk_STATUS k, 15, 0⟩
def R.ULT_Pk_LAT (k : Nat) : Nat := 0x300100c + 0x100 * k
def F.ULT_Pk_LAT_PS (k : Nat) : Fld := ⟨R.ULT_Pk_LAT k, 19, 0⟩
def R.ULT_Pk_CRC_ERR (k : Nat) : Nat := 0x3001010 + 0x100 * k
def F.ULT_Pk_CRC_ERR_COUNT (k : Nat) : Fld := ⟨R.ULT_Pk_CRC_ERR k, 31, 0⟩
def R.ULT_Pk_BAD_MSG (k : Nat) : Nat := 0x3001014 + 0x100 * k
def F.ULT_Pk_BAD_MSG_COUNT (k : Nat) : Fld := ⟨R.ULT_Pk_BAD_MSG k, 31, 0⟩
def R.ULT_Pk_LINK_DOWN_CNT (k : Nat) : Nat := 0x3001018 + 0x100 * k
def F.ULT_Pk_LINK_DOWN_CNT_COUNT (k : Nat) : Fld := ⟨R.ULT_Pk_LINK_DOWN_CNT k, 31, 0⟩
def R.ULT_Pk_LINK_DROP (k : Nat) : Nat := 0x300101c + 0x100 * k
def F.ULT_Pk_LINK_DROP_COUNT (k : Nat) : Fld := ⟨R.ULT_Pk_LINK_DROP k, 31, 0⟩
def R.ULT_Pk_BER_FALLBACK (k : Nat) : Nat := 0x3001020 + 0x100 * k
def F.ULT_Pk_BER_FALLBACK_COUNT (k : Nat) : Fld := ⟨R.ULT_Pk_BER_FALLBACK k, 31, 0⟩
def R.ULT_Pk_RAW_TX_LO (k : Nat) : Nat := 0x3001024 + 0x100 * k
def F.ULT_Pk_RAW_TX_LO_DATA (k : Nat) : Fld := ⟨R.ULT_Pk_RAW_TX_LO k, 31, 0⟩
def R.ULT_Pk_RAW_TX_HI (k : Nat) : Nat := 0x3001028 + 0x100 * k
def F.ULT_Pk_RAW_TX_HI_DATA (k : Nat) : Fld := ⟨R.ULT_Pk_RAW_TX_HI k, 31, 0⟩
def R.ULT_Pk_Lm_STATE (k m : Nat) : Nat := 0x3001080 + 0x100 * k + 0x20 * m
def F.ULT_Pk_Lm_STATE_STATE (k m : Nat) : Fld := ⟨R.ULT_Pk_Lm_STATE k m, 3, 0⟩
def R.ULT_Pk_Lm_FFE (k m : Nat) : Nat := 0x3001084 + 0x100 * k + 0x20 * m
def F.ULT_Pk_Lm_FFE_POST (k m : Nat) : Fld := ⟨R.ULT_Pk_Lm_FFE k m, 12, 8⟩
def F.ULT_Pk_Lm_FFE_PRE (k m : Nat) : Fld := ⟨R.ULT_Pk_Lm_FFE k m, 3, 0⟩
def R.ULT_Pk_Lm_RAW_RX_LO (k m : Nat) : Nat := 0x3001088 + 0x100 * k + 0x20 * m
def F.ULT_Pk_Lm_RAW_RX_LO_DATA (k m : Nat) : Fld := ⟨R.ULT_Pk_Lm_RAW_RX_LO k m, 31, 0⟩
def R.ULT_Pk_Lm_RAW_RX_HI (k m : Nat) : Nat := 0x300108c + 0x100 * k + 0x20 * m
def F.ULT_Pk_Lm_RAW_RX_HI_DATA (k m : Nat) : Fld := ⟨R.ULT_Pk_Lm_RAW_RX_HI k m, 31, 0⟩
def R.ULT_Pk_Lm_RAW_SYNC (k m : Nat) : Nat := 0x3001090 + 0x100 * k + 0x20 * m
def F.ULT_Pk_Lm_RAW_SYNC_SYNC (k m : Nat) : Fld := ⟨R.ULT_Pk_Lm_RAW_SYNC k m, 1, 0⟩
def R.XL_n_CTRL (n : Nat) : Nat := 0x3100000 + 0x1000 * n
def F.XL_n_CTRL_ENABLE (n : Nat) : Fld := ⟨R.XL_n_CTRL n, 31, 31⟩
def F.XL_n_CTRL_TRAIN (n : Nat) : Fld := ⟨R.XL_n_CTRL n, 30, 30⟩
def F.XL_n_CTRL_HALT_STOP (n : Nat) : Fld := ⟨R.XL_n_CTRL n, 29, 29⟩
def F.XL_n_CTRL_LOOP (n : Nat) : Fld := ⟨R.XL_n_CTRL n, 25, 24⟩
def F.XL_n_CTRL_RATE (n : Nat) : Fld := ⟨R.XL_n_CTRL n, 11, 0⟩
def R.XL_n_BIND (n : Nat) : Nat := 0x3100004 + 0x1000 * n
def F.XL_n_BIND_OWNED (n : Nat) : Fld := ⟨R.XL_n_BIND n, 31, 31⟩
def F.XL_n_BIND_SITE (n : Nat) : Fld := ⟨R.XL_n_BIND n, 29, 24⟩
def F.XL_n_BIND_GROUP (n : Nat) : Fld := ⟨R.XL_n_BIND n, 4, 0⟩
def R.XL_n_SRC (n : Nat) : Nat := 0x3100008 + 0x1000 * n
def F.XL_n_SRC_TX_INV (n : Nat) : Fld := ⟨R.XL_n_SRC n, 15, 15⟩
def F.XL_n_SRC_TX_SRC (n : Nat) : Fld := ⟨R.XL_n_SRC n, 11, 8⟩
def F.XL_n_SRC_RX_INV (n : Nat) : Fld := ⟨R.XL_n_SRC n, 7, 7⟩
def F.XL_n_SRC_RX_SRC (n : Nat) : Fld := ⟨R.XL_n_SRC n, 3, 0⟩
def R.XL_n_RX_DLY (n : Nat) : Nat := 0x310000c + 0x1000 * n
def F.XL_n_RX_DLY_WORDS (n : Nat) : Fld := ⟨R.XL_n_RX_DLY n, 11, 0⟩
def R.XL_n_FIXED_LO (n : Nat) : Nat := 0x3100010 + 0x1000 * n
def F.XL_n_FIXED_LO_WORD (n : Nat) : Fld := ⟨R.XL_n_FIXED_LO n, 31, 0⟩
def R.XL_n_FIXED_HI (n : Nat) : Nat := 0x3100014 + 0x1000 * n
def F.XL_n_FIXED_HI_WORD (n : Nat) : Fld := ⟨R.XL_n_FIXED_HI n, 31, 0⟩
def R.XL_n_DRW (n : Nat) : Nat := 0x3100018 + 0x1000 * n
def F.XL_n_DRW_REPEAT (n : Nat) : Fld := ⟨R.XL_n_DRW n, 31, 31⟩
def F.XL_n_DRW_ID (n : Nat) : Fld := ⟨R.XL_n_DRW n, 19, 0⟩
def R.XL_n_CMD (n : Nat) : Nat := 0x310001c + 0x1000 * n
def F.XL_n_CMD_EYE_ABORT (n : Nat) : Fld := ⟨R.XL_n_CMD n, 7, 7⟩
def F.XL_n_CMD_EYE_START (n : Nat) : Fld := ⟨R.XL_n_CMD n, 6, 6⟩
def F.XL_n_CMD_RETRAIN (n : Nat) : Fld := ⟨R.XL_n_CMD n, 5, 5⟩
def F.XL_n_CMD_ERR_CLR (n : Nat) : Fld := ⟨R.XL_n_CMD n, 4, 4⟩
def F.XL_n_CMD_BITSLIP (n : Nat) : Fld := ⟨R.XL_n_CMD n, 3, 3⟩
def F.XL_n_CMD_MARK (n : Nat) : Fld := ⟨R.XL_n_CMD n, 2, 2⟩
def F.XL_n_CMD_STOP (n : Nat) : Fld := ⟨R.XL_n_CMD n, 1, 1⟩
def F.XL_n_CMD_START (n : Nat) : Fld := ⟨R.XL_n_CMD n, 0, 0⟩
def R.XL_n_STATUS (n : Nat) : Nat := 0x3100020 + 0x1000 * n
def F.XL_n_STATUS_CMD_RESULT (n : Nat) : Fld := ⟨R.XL_n_STATUS n, 31, 24⟩
def F.XL_n_STATUS_SLIP (n : Nat) : Fld := ⟨R.XL_n_STATUS n, 23, 18⟩
def F.XL_n_STATUS_EYE_BUSY (n : Nat) : Fld := ⟨R.XL_n_STATUS n, 12, 12⟩
def F.XL_n_STATUS_TRAIN_DONE (n : Nat) : Fld := ⟨R.XL_n_STATUS n, 11, 11⟩
def F.XL_n_STATUS_LOCK (n : Nat) : Fld := ⟨R.XL_n_STATUS n, 10, 10⟩
def F.XL_n_STATUS_PLL_LOCK (n : Nat) : Fld := ⟨R.XL_n_STATUS n, 9, 9⟩
def F.XL_n_STATUS_SIG_DET (n : Nat) : Fld := ⟨R.XL_n_STATUS n, 8, 8⟩
def F.XL_n_STATUS_STATE (n : Nat) : Fld := ⟨R.XL_n_STATUS n, 2, 0⟩
def R.XL_n_FFE (n : Nat) : Nat := 0x3100024 + 0x1000 * n
def F.XL_n_FFE_USE_PRESET (n : Nat) : Fld := ⟨R.XL_n_FFE n, 31, 31⟩
def F.XL_n_FFE_PIDX (n : Nat) : Fld := ⟨R.XL_n_FFE n, 30, 28⟩
def F.XL_n_FFE_POST (n : Nat) : Fld := ⟨R.XL_n_FFE n, 12, 8⟩
def F.XL_n_FFE_PRE (n : Nat) : Fld := ⟨R.XL_n_FFE n, 3, 0⟩
def R.XL_n_RXEQ (n : Nat) : Nat := 0x3100028 + 0x1000 * n
def F.XL_n_RXEQ_DFE_FREEZE (n : Nat) : Fld := ⟨R.XL_n_RXEQ n, 31, 31⟩
def F.XL_n_RXEQ_CTLE (n : Nat) : Fld := ⟨R.XL_n_RXEQ n, 3, 0⟩
def R.XL_n_DFE (n : Nat) : Nat := 0x310002c + 0x1000 * n
def F.XL_n_DFE_TAPS (n : Nat) : Fld := ⟨R.XL_n_DFE n, 29, 0⟩
def R.XL_n_BERR_LO (n : Nat) : Nat := 0x3100030 + 0x1000 * n
def F.XL_n_BERR_LO_COUNT (n : Nat) : Fld := ⟨R.XL_n_BERR_LO n, 31, 0⟩
def R.XL_n_BERR_HI (n : Nat) : Nat := 0x3100034 + 0x1000 * n
def F.XL_n_BERR_HI_COUNT (n : Nat) : Fld := ⟨R.XL_n_BERR_HI n, 15, 0⟩
def R.XL_n_BITS_LO (n : Nat) : Nat := 0x3100038 + 0x1000 * n
def F.XL_n_BITS_LO_COUNT (n : Nat) : Fld := ⟨R.XL_n_BITS_LO n, 31, 0⟩
def R.XL_n_BITS_HI (n : Nat) : Nat := 0x310003c + 0x1000 * n
def F.XL_n_BITS_HI_COUNT (n : Nat) : Fld := ⟨R.XL_n_BITS_HI n, 15, 0⟩
def R.XL_n_ERR_THRESH (n : Nat) : Nat := 0x3100040 + 0x1000 * n
def F.XL_n_ERR_THRESH_COUNT (n : Nat) : Fld := ⟨R.XL_n_ERR_THRESH n, 31, 0⟩
def R.XL_n_LOCK_LOSS (n : Nat) : Nat := 0x3100044 + 0x1000 * n
def F.XL_n_LOCK_LOSS_COUNT (n : Nat) : Fld := ⟨R.XL_n_LOCK_LOSS n, 31, 0⟩
def R.XL_n_RX_WORD_LO (n : Nat) : Nat := 0x3100048 + 0x1000 * n
def F.XL_n_RX_WORD_LO_DATA (n : Nat) : Fld := ⟨R.XL_n_RX_WORD_LO n, 31, 0⟩
def R.XL_n_RX_WORD_HI (n : Nat) : Nat := 0x310004c + 0x1000 * n
def F.XL_n_RX_WORD_HI_DATA (n : Nat) : Fld := ⟨R.XL_n_RX_WORD_HI n, 31, 0⟩
def R.XL_n_MARK_TAG (n : Nat) : Nat := 0x3100050 + 0x1000 * n
def F.XL_n_MARK_TAG_COUNT (n : Nat) : Fld := ⟨R.XL_n_MARK_TAG n, 31, 16⟩
def F.XL_n_MARK_TAG_TAG (n : Nat) : Fld := ⟨R.XL_n_MARK_TAG n, 15, 0⟩
def R.XL_n_MARK_TX_LO (n : Nat) : Nat := 0x3100054 + 0x1000 * n
def F.XL_n_MARK_TX_LO_BITS (n : Nat) : Fld := ⟨R.XL_n_MARK_TX_LO n, 31, 0⟩
def R.XL_n_MARK_TX_HI (n : Nat) : Nat := 0x3100058 + 0x1000 * n
def F.XL_n_MARK_TX_HI_BITS (n : Nat) : Fld := ⟨R.XL_n_MARK_TX_HI n, 15, 0⟩
def R.XL_n_MARK_TIME_LO (n : Nat) : Nat := 0x310005c + 0x1000 * n
def F.XL_n_MARK_TIME_LO_TIME (n : Nat) : Fld := ⟨R.XL_n_MARK_TIME_LO n, 31, 0⟩
def R.XL_n_MARK_TIME_HI (n : Nat) : Nat := 0x3100060 + 0x1000 * n
def F.XL_n_MARK_TIME_HI_TIME (n : Nat) : Fld := ⟨R.XL_n_MARK_TIME_HI n, 31, 0⟩
def R.XL_n_EYE_CFG (n : Nat) : Nat := 0x3100064 + 0x1000 * n
def F.XL_n_EYE_CFG_DWELL (n : Nat) : Fld := ⟨R.XL_n_EYE_CFG n, 4, 0⟩
def R.XL_n_EYE_BASE_LO (n : Nat) : Nat := 0x3100068 + 0x1000 * n
def F.XL_n_EYE_BASE_LO_ADDR (n : Nat) : Fld := ⟨R.XL_n_EYE_BASE_LO n, 31, 0⟩
def R.XL_n_EYE_BASE_HI (n : Nat) : Nat := 0x310006c + 0x1000 * n
def F.XL_n_EYE_BASE_HI_ADDR (n : Nat) : Fld := ⟨R.XL_n_EYE_BASE_HI n, 7, 0⟩
def R.XL_n_EYE_STATUS (n : Nat) : Nat := 0x3100070 + 0x1000 * n
def F.XL_n_EYE_STATUS_ABORTED (n : Nat) : Fld := ⟨R.XL_n_EYE_STATUS n, 31, 31⟩
def F.XL_n_EYE_STATUS_POINTS (n : Nat) : Fld := ⟨R.XL_n_EYE_STATUS n, 13, 0⟩
def R.XL_n_EVENT (n : Nat) : Nat := 0x3100074 + 0x1000 * n
def F.XL_n_EVENT_CMD_REFUSED (n : Nat) : Fld := ⟨R.XL_n_EVENT n, 7, 7⟩
def F.XL_n_EVENT_EYE_DONE (n : Nat) : Fld := ⟨R.XL_n_EVENT n, 6, 6⟩
def F.XL_n_EVENT_TRAIN_FAIL (n : Nat) : Fld := ⟨R.XL_n_EVENT n, 5, 5⟩
def F.XL_n_EVENT_DRW_END (n : Nat) : Fld := ⟨R.XL_n_EVENT n, 4, 4⟩
def F.XL_n_EVENT_MARK (n : Nat) : Fld := ⟨R.XL_n_EVENT n, 3, 3⟩
def F.XL_n_EVENT_SIG_LOSS (n : Nat) : Fld := ⟨R.XL_n_EVENT n, 2, 2⟩
def F.XL_n_EVENT_LOCK_LOSS (n : Nat) : Fld := ⟨R.XL_n_EVENT n, 1, 1⟩
def F.XL_n_EVENT_ERR_THRESH (n : Nat) : Fld := ⟨R.XL_n_EVENT n, 0, 0⟩
def R.XL_n_INT_EN (n : Nat) : Nat := 0x3100078 + 0x1000 * n
def F.XL_n_INT_EN_EN (n : Nat) : Fld := ⟨R.XL_n_INT_EN n, 7, 0⟩
def R.XL_n_FLAG_EN (n : Nat) : Nat := 0x310007c + 0x1000 * n
def F.XL_n_FLAG_EN_EN (n : Nat) : Fld := ⟨R.XL_n_FLAG_EN n, 7, 0⟩
def R.XL_n_CMD_REFUSED (n : Nat) : Nat := 0x3100080 + 0x1000 * n
def F.XL_n_CMD_REFUSED_COUNT (n : Nat) : Fld := ⟨R.XL_n_CMD_REFUSED n, 31, 0⟩
def R.TIME_CTRL : Nat := 0x4000000
def F.TIME_CTRL_FALLBACK : Fld := ⟨R.TIME_CTRL, 5, 4⟩
def F.TIME_CTRL_FORMAT : Fld := ⟨R.TIME_CTRL, 0, 0⟩
def R.TIME_STATUS : Nat := 0x4000004
def F.TIME_STATUS_FALLBACK_ACTIVE : Fld := ⟨R.TIME_STATUS, 4, 4⟩
def F.TIME_STATUS_HOLDOVER : Fld := ⟨R.TIME_STATUS, 3, 3⟩
def F.TIME_STATUS_LOCKED : Fld := ⟨R.TIME_STATUS, 2, 2⟩
def F.TIME_STATUS_RTC_INVALID : Fld := ⟨R.TIME_STATUS, 1, 1⟩
def F.TIME_STATUS_SEEDED : Fld := ⟨R.TIME_STATUS, 0, 0⟩
def R.TIME_CNT_LO : Nat := 0x4000008
def F.TIME_CNT_LO_COUNT : Fld := ⟨R.TIME_CNT_LO, 31, 0⟩
def R.TIME_CNT_HI : Nat := 0x400000c
def F.TIME_CNT_HI_COUNT : Fld := ⟨R.TIME_CNT_HI, 31, 0⟩
def R.TIME_EVENT : Nat := 0x4000010
def F.TIME_EVENT_TSQ_AVAIL : Fld := ⟨R.TIME_EVENT, 3, 3⟩
def F.TIME_EVENT_TSQ_OVF : Fld := ⟨R.TIME_EVENT, 2, 2⟩
def F.TIME_EVENT_HOLDOVER : Fld := ⟨R.TIME_EVENT, 1, 1⟩
def F.TIME_EVENT_STEP : Fld := ⟨R.TIME_EVENT, 0, 0⟩
def R.TIME_INT_EN : Nat := 0x4000014
def F.TIME_INT_EN_EN : Fld := ⟨R.TIME_INT_EN, 3, 0⟩
def R.TIME_SYNC_CFG : Nat := 0x4000018
def F.TIME_SYNC_CFG_HOLD_CNT : Fld := ⟨R.TIME_SYNC_CFG, 19, 16⟩
def F.TIME_SYNC_CFG_INTERVAL : Fld := ⟨R.TIME_SYNC_CFG, 15, 0⟩
def R.TIME_TB0_ERR : Nat := 0x400001c
def F.TIME_TB0_ERR_NS : Fld := ⟨R.TIME_TB0_ERR, 31, 0⟩
def R.TIME_STEP_CNT : Nat := 0x4000020
def F.TIME_STEP_CNT_COUNT : Fld := ⟨R.TIME_STEP_CNT, 31, 0⟩
def R.TIME_SYNC_MISS : Nat := 0x4000024
def F.TIME_SYNC_MISS_COUNT : Fld := ⟨R.TIME_SYNC_MISS, 31, 0⟩
def R.TIME_WR_DROP : Nat := 0x4000028
def F.TIME_WR_DROP_COUNT : Fld := ⟨R.TIME_WR_DROP, 31, 0⟩
def R.TIME_TB_i_OFFSET_LO (i : Nat) : Nat := 0x4000100 + 0x40 * i
def F.TIME_TB_i_OFFSET_LO_NS (i : Nat) : Fld := ⟨R.TIME_TB_i_OFFSET_LO i, 31, 0⟩
def R.TIME_TB_i_OFFSET_HI (i : Nat) : Nat := 0x4000104 + 0x40 * i
def F.TIME_TB_i_OFFSET_HI_NS (i : Nat) : Fld := ⟨R.TIME_TB_i_OFFSET_HI i, 31, 0⟩
def R.TIME_TB_i_RATE (i : Nat) : Nat := 0x4000108 + 0x40 * i
def F.TIME_TB_i_RATE_RATE (i : Nat) : Fld := ⟨R.TIME_TB_i_RATE i, 31, 0⟩
def R.TIME_TB_i_ADJ_LO (i : Nat) : Nat := 0x400010c + 0x40 * i
def F.TIME_TB_i_ADJ_LO_NS (i : Nat) : Fld := ⟨R.TIME_TB_i_ADJ_LO i, 31, 0⟩
def R.TIME_TB_i_ADJ_HI (i : Nat) : Nat := 0x4000110 + 0x40 * i
def F.TIME_TB_i_ADJ_HI_NS (i : Nat) : Fld := ⟨R.TIME_TB_i_ADJ_HI i, 31, 0⟩
def R.TIME_TB_i_NS (i : Nat) : Nat := 0x4000114 + 0x40 * i
def F.TIME_TB_i_NS_NS (i : Nat) : Fld := ⟨R.TIME_TB_i_NS i, 31, 0⟩
def R.TIME_TB_i_SECL (i : Nat) : Nat := 0x4000118 + 0x40 * i
def F.TIME_TB_i_SECL_SEC (i : Nat) : Fld := ⟨R.TIME_TB_i_SECL i, 31, 0⟩
def R.TIME_TB_i_SECH (i : Nat) : Nat := 0x400011c + 0x40 * i
def F.TIME_TB_i_SECH_SEC (i : Nat) : Fld := ⟨R.TIME_TB_i_SECH i, 15, 0⟩
def R.TIME_PTP_CFG : Nat := 0x4000200
def F.TIME_PTP_CFG_EN : Fld := ⟨R.TIME_PTP_CFG, 31, 31⟩
def F.TIME_PTP_CFG_TRANSPORT : Fld := ⟨R.TIME_PTP_CFG, 5, 4⟩
def F.TIME_PTP_CFG_ONE_STEP : Fld := ⟨R.TIME_PTP_CFG, 2, 2⟩
def F.TIME_PTP_CFG_TB : Fld := ⟨R.TIME_PTP_CFG, 1, 0⟩
def R.TIME_TSQ_STATUS : Nat := 0x4000204
def F.TIME_TSQ_STATUS_OVF : Fld := ⟨R.TIME_TSQ_STATUS, 31, 31⟩
def F.TIME_TSQ_STATUS_COUNT : Fld := ⟨R.TIME_TSQ_STATUS, 4, 0⟩
def R.TIME_TSQ_DROP : Nat := 0x4000208
def F.TIME_TSQ_DROP_COUNT : Fld := ⟨R.TIME_TSQ_DROP, 31, 0⟩
def R.TIME_TSQ_FIND : Nat := 0x400020c
def F.TIME_TSQ_FIND_ANY : Fld := ⟨R.TIME_TSQ_FIND, 31, 31⟩
def F.TIME_TSQ_FIND_MSGTYPE : Fld := ⟨R.TIME_TSQ_FIND, 19, 16⟩
def F.TIME_TSQ_FIND_SEQID : Fld := ⟨R.TIME_TSQ_FIND, 15, 0⟩
def R.TIME_TSQ_ENT : Nat := 0x4000210
def F.TIME_TSQ_ENT_VALID : Fld := ⟨R.TIME_TSQ_ENT, 31, 31⟩
def F.TIME_TSQ_ENT_MSGTYPE : Fld := ⟨R.TIME_TSQ_ENT, 19, 16⟩
def F.TIME_TSQ_ENT_SEQID : Fld := ⟨R.TIME_TSQ_ENT, 15, 0⟩
def R.TIME_TSQ_NS : Nat := 0x4000214
def F.TIME_TSQ_NS_NS : Fld := ⟨R.TIME_TSQ_NS, 31, 0⟩
def R.TIME_TSQ_SECL : Nat := 0x4000218
def F.TIME_TSQ_SECL_SEC : Fld := ⟨R.TIME_TSQ_SECL, 31, 0⟩
def R.TIME_TSQ_SECH : Nat := 0x400021c
def F.TIME_TSQ_SECH_SEC : Fld := ⟨R.TIME_TSQ_SECH, 15, 0⟩
def R.SCHED_CTRL : Nat := 0x4100000
def F.SCHED_CTRL_EN : Fld := ⟨R.SCHED_CTRL, 0, 0⟩
def R.SCHED_ALLOW : Nat := 0x4100004
def F.SCHED_ALLOW_ECLASS : Fld := ⟨R.SCHED_ALLOW, 3, 0⟩
def R.SCHED_FLOW_MAX : Nat := 0x4100008
def F.SCHED_FLOW_MAX_COUNT : Fld := ⟨R.SCHED_FLOW_MAX, 12, 0⟩
def R.SCHED_FILL : Nat := 0x410000c
def F.SCHED_FILL_COUNT : Fld := ⟨R.SCHED_FILL, 12, 0⟩
def R.SCHED_FILL_Pp (p : Nat) : Nat := 0x4100010 + 0x4 * p
def F.SCHED_FILL_Pp_COUNT (p : Nat) : Fld := ⟨R.SCHED_FILL_Pp p, 12, 0⟩
def R.SCHED_ENQ_RESULT : Nat := 0x4100020
def F.SCHED_ENQ_RESULT_SEQ : Fld := ⟨R.SCHED_ENQ_RESULT, 31, 24⟩
def F.SCHED_ENQ_RESULT_RESULT : Fld := ⟨R.SCHED_ENQ_RESULT, 2, 0⟩
def R.SCHED_REFUSED_FULL : Nat := 0x4100024
def F.SCHED_REFUSED_FULL_COUNT : Fld := ⟨R.SCHED_REFUSED_FULL, 31, 0⟩
def R.SCHED_REFUSED_FLOW : Nat := 0x4100028
def F.SCHED_REFUSED_FLOW_COUNT : Fld := ⟨R.SCHED_REFUSED_FLOW, 31, 0⟩
def R.SCHED_ESKIP : Nat := 0x410002c
def F.SCHED_ESKIP_COUNT : Fld := ⟨R.SCHED_ESKIP, 31, 0⟩
def R.SCHED_EVENT : Nat := 0x4100030
def F.SCHED_EVENT_HWEV_REFUSED : Fld := ⟨R.SCHED_EVENT, 1, 1⟩
def F.SCHED_EVENT_REFUSED : Fld := ⟨R.SCHED_EVENT, 0, 0⟩
def R.SCHED_INT_EN : Nat := 0x4100034
def F.SCHED_INT_EN_EN : Fld := ⟨R.SCHED_INT_EN, 1, 0⟩
def R.SCHED_HWEV_BASE_LO : Nat := 0x4100038
def F.SCHED_HWEV_BASE_LO_ADDR : Fld := ⟨R.SCHED_HWEV_BASE_LO, 31, 0⟩
def R.SCHED_HWEV_BASE_HI : Nat := 0x410003c
def F.SCHED_HWEV_BASE_HI_ADDR : Fld := ⟨R.SCHED_HWEV_BASE_HI, 7, 0⟩
def R.SCHED_HWEV_REFUSED : Nat := 0x4100040
def F.SCHED_HWEV_REFUSED_COUNT : Fld := ⟨R.SCHED_HWEV_REFUSED, 31, 0⟩
def R.SCHED_ITEM_Wi (i : Nat) : Nat := 0x4100100 + 0x4 * i
def F.SCHED_ITEM_Wi_DATA (i : Nat) : Fld := ⟨R.SCHED_ITEM_Wi i, 31, 0⟩
def R.SCHED_HWEV_k_CFG (k : Nat) : Nat := 0x4100200 + 0x4 * k
def F.SCHED_HWEV_k_CFG_EN (k : Nat) : Fld := ⟨R.SCHED_HWEV_k_CFG k, 31, 31⟩
def F.SCHED_HWEV_k_CFG_SRC (k : Nat) : Fld := ⟨R.SCHED_HWEV_k_CFG k, 7, 0⟩
def R.SCHED_CORE_n_CTRL (n : Nat) : Nat := 0x4101000 + 0x100 * n
def F.SCHED_CORE_n_CTRL_RUN (n : Nat) : Fld := ⟨R.SCHED_CORE_n_CTRL n, 0, 0⟩
def R.SCHED_CORE_n_CFG (n : Nat) : Nat := 0x4101004 + 0x100 * n
def F.SCHED_CORE_n_CFG_SCHED_EN (n : Nat) : Fld := ⟨R.SCHED_CORE_n_CFG n, 31, 31⟩
def F.SCHED_CORE_n_CFG_PRIO_MASK (n : Nat) : Fld := ⟨R.SCHED_CORE_n_CFG n, 23, 20⟩
def F.SCHED_CORE_n_CFG_SLOT_OFF (n : Nat) : Fld := ⟨R.SCHED_CORE_n_CFG n, 16, 0⟩
def R.SCHED_CORE_n_RESET_PC_LO (n : Nat) : Nat := 0x4101008 + 0x100 * n
def F.SCHED_CORE_n_RESET_PC_LO_ADDR (n : Nat) : Fld := ⟨R.SCHED_CORE_n_RESET_PC_LO n, 31, 0⟩
def R.SCHED_CORE_n_RESET_PC_HI (n : Nat) : Nat := 0x410100c + 0x100 * n
def F.SCHED_CORE_n_RESET_PC_HI_ADDR (n : Nat) : Fld := ⟨R.SCHED_CORE_n_RESET_PC_HI n, 7, 0⟩
def R.SCHED_CORE_n_MTIMECMP_LO (n : Nat) : Nat := 0x4101010 + 0x100 * n
def F.SCHED_CORE_n_MTIMECMP_LO_TIME (n : Nat) : Fld := ⟨R.SCHED_CORE_n_MTIMECMP_LO n, 31, 0⟩
def R.SCHED_CORE_n_MTIMECMP_HI (n : Nat) : Nat := 0x4101014 + 0x100 * n
def F.SCHED_CORE_n_MTIMECMP_HI_TIME (n : Nat) : Fld := ⟨R.SCHED_CORE_n_MTIMECMP_HI n, 31, 0⟩
def R.SCHED_CORE_n_TAKE (n : Nat) : Nat := 0x4101018 + 0x100 * n
def F.SCHED_CORE_n_TAKE_VALID (n : Nat) : Fld := ⟨R.SCHED_CORE_n_TAKE n, 31, 31⟩
def F.SCHED_CORE_n_TAKE_BUF (n : Nat) : Fld := ⟨R.SCHED_CORE_n_TAKE n, 30, 30⟩
def F.SCHED_CORE_n_TAKE_FLOW (n : Nat) : Fld := ⟨R.SCHED_CORE_n_TAKE n, 15, 0⟩
def R.SCHED_CORE_n_DONE (n : Nat) : Nat := 0x410101c + 0x100 * n
def F.SCHED_CORE_n_DONE_DONE (n : Nat) : Fld := ⟨R.SCHED_CORE_n_DONE n, 0, 0⟩
def R.SCHED_CORE_n_STATUS (n : Nat) : Nat := 0x4101020 + 0x100 * n
def F.SCHED_CORE_n_STATUS_RUNNING (n : Nat) : Fld := ⟨R.SCHED_CORE_n_STATUS n, 31, 31⟩
def F.SCHED_CORE_n_STATUS_WFI (n : Nat) : Fld := ⟨R.SCHED_CORE_n_STATUS n, 30, 30⟩
def F.SCHED_CORE_n_STATUS_IN_SERVICE (n : Nat) : Fld := ⟨R.SCHED_CORE_n_STATUS n, 29, 29⟩
def F.SCHED_CORE_n_STATUS_SLOT_FULL (n : Nat) : Fld := ⟨R.SCHED_CORE_n_STATUS n, 28, 28⟩
def F.SCHED_CORE_n_STATUS_CUR_FLOW (n : Nat) : Fld := ⟨R.SCHED_CORE_n_STATUS n, 15, 0⟩
def R.SCHED_CORE_n_ITEMS (n : Nat) : Nat := 0x4101024 + 0x100 * n
def F.SCHED_CORE_n_ITEMS_COUNT (n : Nat) : Fld := ⟨R.SCHED_CORE_n_ITEMS n, 31, 0⟩
def R.INTC_MODE : Nat := 0x4200000
def F.INTC_MODE_COMPAT : Fld := ⟨R.INTC_MODE, 0, 0⟩
def R.INTC_PEND_w (w : Nat) : Nat := 0x4200100 + 0x4 * w
def F.INTC_PEND_w_PEND (w : Nat) : Fld := ⟨R.INTC_PEND_w w, 31, 0⟩
def R.INTC_SETPEND_w (w : Nat) : Nat := 0x4200120 + 0x4 * w
def F.INTC_SETPEND_w_PEND (w : Nat) : Fld := ⟨R.INTC_SETPEND_w w, 31, 0⟩
def R.INTC_ACTIVE_w (w : Nat) : Nat := 0x4200140 + 0x4 * w
def F.INTC_ACTIVE_w_ACTIVE (w : Nat) : Fld := ⟨R.INTC_ACTIVE_w w, 31, 0⟩
def R.INTC_SRC_s_CFG (s : Nat) : Nat := 0x4201000 + 0x10 * s
def F.INTC_SRC_s_CFG_CLASS (s : Nat) : Fld := ⟨R.INTC_SRC_s_CFG s, 31, 31⟩
def F.INTC_SRC_s_CFG_PRIO (s : Nat) : Fld := ⟨R.INTC_SRC_s_CFG s, 3, 0⟩
def R.INTC_SRC_s_TGT (s : Nat) : Nat := 0x4201004 + 0x10 * s
def F.INTC_SRC_s_TGT_MASK (s : Nat) : Fld := ⟨R.INTC_SRC_s_TGT s, 16, 0⟩
def R.INTC_SRC_s_CNT (s : Nat) : Nat := 0x4201008 + 0x10 * s
def F.INTC_SRC_s_CNT_COUNT (s : Nat) : Fld := ⟨R.INTC_SRC_s_CNT s, 7, 0⟩
def R.INTC_SRC_s_ROUTE (s : Nat) : Nat := 0x420100c + 0x10 * s
def F.INTC_SRC_s_ROUTE_ASSIGNED (s : Nat) : Fld := ⟨R.INTC_SRC_s_ROUTE s, 31, 31⟩
def F.INTC_SRC_s_ROUTE_TARGET (s : Nat) : Fld := ⟨R.INTC_SRC_s_ROUTE s, 4, 0⟩
def R.INTC_TGT_t_HPEND (t : Nat) : Nat := 0x4204000 + 0x100 * t
def F.INTC_TGT_t_HPEND_PRIO (t : Nat) : Fld := ⟨R.INTC_TGT_t_HPEND t, 11, 8⟩
def F.INTC_TGT_t_HPEND_NUM (t : Nat) : Fld := ⟨R.INTC_TGT_t_HPEND t, 7, 0⟩
def R.INTC_TGT_t_CLAIM (t : Nat) : Nat := 0x4204004 + 0x100 * t
def F.INTC_TGT_t_CLAIM_NUM (t : Nat) : Fld := ⟨R.INTC_TGT_t_CLAIM t, 7, 0⟩
def R.INTC_TGT_t_EOI (t : Nat) : Nat := 0x4204008 + 0x100 * t
def F.INTC_TGT_t_EOI_EOI (t : Nat) : Fld := ⟨R.INTC_TGT_t_EOI t, 0, 0⟩
def R.INTC_TGT_t_PUSH (t : Nat) : Nat := 0x420400c + 0x100 * t
def F.INTC_TGT_t_PUSH_PRIO (t : Nat) : Fld := ⟨R.INTC_TGT_t_PUSH t, 3, 0⟩
def R.INTC_TGT_t_RUN (t : Nat) : Nat := 0x4204010 + 0x100 * t
def F.INTC_TGT_t_RUN_DEPTH (t : Nat) : Fld := ⟨R.INTC_TGT_t_RUN t, 20, 16⟩
def F.INTC_TGT_t_RUN_PRIO (t : Nat) : Fld := ⟨R.INTC_TGT_t_RUN t, 3, 0⟩
def R.INTC_TGT_t_STK_ERR (t : Nat) : Nat := 0x4204014 + 0x100 * t
def F.INTC_TGT_t_STK_ERR_COUNT (t : Nat) : Fld := ⟨R.INTC_TGT_t_STK_ERR t, 31, 0⟩
def R.MBX_DB_H2D_SET_w (w : Nat) : Nat := 0x4300000 + 0x4 * w
def F.MBX_DB_H2D_SET_w_DB (w : Nat) : Fld := ⟨R.MBX_DB_H2D_SET_w w, 31, 0⟩
def R.MBX_DB_H2D_CLR_w (w : Nat) : Nat := 0x4300008 + 0x4 * w
def F.MBX_DB_H2D_CLR_w_DB (w : Nat) : Fld := ⟨R.MBX_DB_H2D_CLR_w w, 31, 0⟩
def R.MBX_DB_D2H_SET_w (w : Nat) : Nat := 0x4300010 + 0x4 * w
def F.MBX_DB_D2H_SET_w_DB (w : Nat) : Fld := ⟨R.MBX_DB_D2H_SET_w w, 31, 0⟩
def R.MBX_DB_D2H_CLR_w (w : Nat) : Nat := 0x4300018 + 0x4 * w
def F.MBX_DB_D2H_CLR_w_DB (w : Nat) : Fld := ⟨R.MBX_DB_D2H_CLR_w w, 31, 0⟩
def R.MBX_ACK_DROP : Nat := 0x4300020
def F.MBX_ACK_DROP_COUNT : Fld := ⟨R.MBX_ACK_DROP, 31, 0⟩
def R.MBX_m_CFG (m : Nat) : Nat := 0x4301000 + 0x40 * m
def F.MBX_m_CFG_RX (m : Nat) : Fld := ⟨R.MBX_m_CFG m, 31, 27⟩
def F.MBX_m_CFG_TMO (m : Nat) : Fld := ⟨R.MBX_m_CFG m, 15, 0⟩
def R.MBX_m_NOTICE_LO (m : Nat) : Nat := 0x4301004 + 0x40 * m
def F.MBX_m_NOTICE_LO_PTR (m : Nat) : Fld := ⟨R.MBX_m_NOTICE_LO m, 31, 0⟩
def R.MBX_m_NOTICE_HI (m : Nat) : Nat := 0x4301008 + 0x40 * m
def F.MBX_m_NOTICE_HI_PTR (m : Nat) : Fld := ⟨R.MBX_m_NOTICE_HI m, 31, 0⟩
def R.MBX_m_STATUS (m : Nat) : Nat := 0x430100c + 0x40 * m
def F.MBX_m_STATUS_FULL (m : Nat) : Fld := ⟨R.MBX_m_STATUS m, 31, 31⟩
def F.MBX_m_STATUS_SRC (m : Nat) : Fld := ⟨R.MBX_m_STATUS m, 30, 26⟩
def F.MBX_m_STATUS_TAKEN_SRC (m : Nat) : Fld := ⟨R.MBX_m_STATUS m, 25, 21⟩
def F.MBX_m_STATUS_ACK_PEND (m : Nat) : Fld := ⟨R.MBX_m_STATUS m, 20, 20⟩
def F.MBX_m_STATUS_ACK_CODE (m : Nat) : Fld := ⟨R.MBX_m_STATUS m, 15, 0⟩
def R.MBX_m_ACK (m : Nat) : Nat := 0x4301010 + 0x40 * m
def F.MBX_m_ACK_CODE (m : Nat) : Fld := ⟨R.MBX_m_ACK m, 15, 0⟩
def R.MBX_m_RX_EVENT (m : Nat) : Nat := 0x4301014 + 0x40 * m
def F.MBX_m_RX_EVENT_COLLISION (m : Nat) : Fld := ⟨R.MBX_m_RX_EVENT m, 1, 1⟩
def F.MBX_m_RX_EVENT_NOTICE (m : Nat) : Fld := ⟨R.MBX_m_RX_EVENT m, 0, 0⟩
def R.MBX_m_TX_EVENT (m : Nat) : Nat := 0x4301018 + 0x40 * m
def F.MBX_m_TX_EVENT_ACKED (m : Nat) : Fld := ⟨R.MBX_m_TX_EVENT m, 1, 1⟩
def F.MBX_m_TX_EVENT_TIMEOUT (m : Nat) : Fld := ⟨R.MBX_m_TX_EVENT m, 0, 0⟩
def R.MBX_m_COLL_CNT (m : Nat) : Nat := 0x430101c + 0x40 * m
def F.MBX_m_COLL_CNT_COUNT (m : Nat) : Fld := ⟨R.MBX_m_COLL_CNT m, 31, 0⟩
def R.MBX_m_TMO_CNT (m : Nat) : Nat := 0x4301020 + 0x40 * m
def F.MBX_m_TMO_CNT_COUNT (m : Nat) : Fld := ⟨R.MBX_m_TMO_CNT m, 31, 0⟩
def R.HOSTIF_ID : Nat := 0x4400000
def F.HOSTIF_ID_DEVICE : Fld := ⟨R.HOSTIF_ID, 31, 16⟩
def F.HOSTIF_ID_VENDOR : Fld := ⟨R.HOSTIF_ID, 15, 0⟩
def R.HOSTIF_LINK : Nat := 0x4400004
def F.HOSTIF_LINK_UP : Fld := ⟨R.HOSTIF_LINK, 8, 8⟩
def F.HOSTIF_LINK_WIDTH : Fld := ⟨R.HOSTIF_LINK, 7, 4⟩
def F.HOSTIF_LINK_SPEED : Fld := ⟨R.HOSTIF_LINK, 3, 0⟩
def R.HOSTIF_EVENT : Nat := 0x4400008
def F.HOSTIF_EVENT_HOST_ERR : Fld := ⟨R.HOSTIF_EVENT, 2, 2⟩
def F.HOSTIF_EVENT_LINK_DOWN : Fld := ⟨R.HOSTIF_EVENT, 1, 1⟩
def F.HOSTIF_EVENT_DMA_ERR : Fld := ⟨R.HOSTIF_EVENT, 0, 0⟩
def R.HOSTIF_INT_EN : Nat := 0x440000c
def F.HOSTIF_INT_EN_EN : Fld := ⟨R.HOSTIF_INT_EN, 2, 0⟩
def R.HOSTIF_CPL_ERR : Nat := 0x4400010
def F.HOSTIF_CPL_ERR_COUNT : Fld := ⟨R.HOSTIF_CPL_ERR, 31, 0⟩
def R.HOSTIF_EP_SENT : Nat := 0x4400014
def F.HOSTIF_EP_SENT_COUNT : Fld := ⟨R.HOSTIF_EP_SENT, 31, 0⟩
def R.HOSTIF_MSIX_v_SEL (v : Nat) : Nat := 0x4400100 + 0x4 * v
def F.HOSTIF_MSIX_v_SEL_EN (v : Nat) : Fld := ⟨R.HOSTIF_MSIX_v_SEL v, 31, 31⟩
def F.HOSTIF_MSIX_v_SEL_EVT (v : Nat) : Fld := ⟨R.HOSTIF_MSIX_v_SEL v, 8, 0⟩
def R.HOSTIF_DMA_e_CTRL (e : Nat) : Nat := 0x4401000 + 0x100 * e
def F.HOSTIF_DMA_e_CTRL_ENABLE (e : Nat) : Fld := ⟨R.HOSTIF_DMA_e_CTRL e, 31, 31⟩
def F.HOSTIF_DMA_e_CTRL_ABORT (e : Nat) : Fld := ⟨R.HOSTIF_DMA_e_CTRL e, 30, 30⟩
def F.HOSTIF_DMA_e_CTRL_HALT_ON_ERR (e : Nat) : Fld := ⟨R.HOSTIF_DMA_e_CTRL e, 29, 29⟩
def F.HOSTIF_DMA_e_CTRL_RING_LOG2 (e : Nat) : Fld := ⟨R.HOSTIF_DMA_e_CTRL e, 4, 0⟩
def R.HOSTIF_DMA_e_RING_LO (e : Nat) : Nat := 0x4401004 + 0x100 * e
def F.HOSTIF_DMA_e_RING_LO_ADDR (e : Nat) : Fld := ⟨R.HOSTIF_DMA_e_RING_LO e, 31, 12⟩
def R.HOSTIF_DMA_e_RING_HI (e : Nat) : Nat := 0x4401008 + 0x100 * e
def F.HOSTIF_DMA_e_RING_HI_ADDR (e : Nat) : Fld := ⟨R.HOSTIF_DMA_e_RING_HI e, 31, 0⟩
def R.HOSTIF_DMA_e_TAIL (e : Nat) : Nat := 0x440100c + 0x100 * e
def F.HOSTIF_DMA_e_TAIL_IDX (e : Nat) : Fld := ⟨R.HOSTIF_DMA_e_TAIL e, 15, 0⟩
def R.HOSTIF_DMA_e_HEAD (e : Nat) : Nat := 0x4401010 + 0x100 * e
def F.HOSTIF_DMA_e_HEAD_IDX (e : Nat) : Fld := ⟨R.HOSTIF_DMA_e_HEAD e, 15, 0⟩
def R.HOSTIF_DMA_e_STATUS (e : Nat) : Nat := 0x4401014 + 0x100 * e
def F.HOSTIF_DMA_e_STATUS_BUSY (e : Nat) : Fld := ⟨R.HOSTIF_DMA_e_STATUS e, 31, 31⟩
def F.HOSTIF_DMA_e_STATUS_LAST_CODE (e : Nat) : Fld := ⟨R.HOSTIF_DMA_e_STATUS e, 3, 0⟩
def R.HOSTIF_DMA_e_EVENT (e : Nat) : Nat := 0x4401018 + 0x100 * e
def F.HOSTIF_DMA_e_EVENT_ERR (e : Nat) : Fld := ⟨R.HOSTIF_DMA_e_EVENT e, 1, 1⟩
def F.HOSTIF_DMA_e_EVENT_DONE (e : Nat) : Fld := ⟨R.HOSTIF_DMA_e_EVENT e, 0, 0⟩
def R.HOSTIF_DMA_e_DONE_CNT (e : Nat) : Nat := 0x440101c + 0x100 * e
def F.HOSTIF_DMA_e_DONE_CNT_COUNT (e : Nat) : Fld := ⟨R.HOSTIF_DMA_e_DONE_CNT e, 31, 0⟩
def R.HOSTIF_DMA_e_ERR_CNT (e : Nat) : Nat := 0x4401020 + 0x100 * e
def F.HOSTIF_DMA_e_ERR_CNT_COUNT (e : Nat) : Fld := ⟨R.HOSTIF_DMA_e_ERR_CNT e, 31, 0⟩
def R.HOSTIF_MSIX_TABLE_v_i (v i : Nat) : Nat := 0x4408000 + 0x10 * v + 0x4 * i
def F.HOSTIF_MSIX_TABLE_v_i_DATA (v i : Nat) : Fld := ⟨R.HOSTIF_MSIX_TABLE_v_i v i, 31, 0⟩
def R.HOSTIF_MSIX_PBA_w (w : Nat) : Nat := 0x4409000 + 0x4 * w
def F.HOSTIF_MSIX_PBA_w_PEND (w : Nat) : Fld := ⟨R.HOSTIF_MSIX_PBA_w w, 31, 0⟩
def R.GOV_BUDGET : Nat := 0x4500000
def F.GOV_BUDGET_BUDGET : Fld := ⟨R.GOV_BUDGET, 15, 0⟩
def R.GOV_PEAK : Nat := 0x4500004
def F.GOV_PEAK_PEAK : Fld := ⟨R.GOV_PEAK, 15, 0⟩
def R.GOV_THERM_RTH : Nat := 0x4500008
def F.GOV_THERM_RTH_RTH : Fld := ⟨R.GOV_THERM_RTH, 15, 0⟩
def R.GOV_THERM_ENV : Nat := 0x450000c
def F.GOV_THERM_ENV_TAU : Fld := ⟨R.GOV_THERM_ENV, 31, 16⟩
def F.GOV_THERM_ENV_TCOOL : Fld := ⟨R.GOV_THERM_ENV, 7, 0⟩
def R.GOV_TJ_CFG : Nat := 0x4500010
def F.GOV_TJ_CFG_HALT : Fld := ⟨R.GOV_TJ_CFG, 15, 8⟩
def F.GOV_TJ_CFG_ADMIT : Fld := ⟨R.GOV_TJ_CFG, 7, 0⟩
def R.GOV_XCHK_CFG : Nat := 0x4500014
def F.GOV_XCHK_CFG_TOL : Fld := ⟨R.GOV_XCHK_CFG, 7, 0⟩
def R.GOV_ECLASS_STEP : Nat := 0x4500018
def F.GOV_ECLASS_STEP_MW : Fld := ⟨R.GOV_ECLASS_STEP, 15, 0⟩
def R.GOV_OCT_FIX : Nat := 0x450001c
def F.GOV_OCT_FIX_MW : Fld := ⟨R.GOV_OCT_FIX, 15, 0⟩
def R.GOV_PWR_MODEL : Nat := 0x4500020
def F.GOV_PWR_MODEL_P : Fld := ⟨R.GOV_PWR_MODEL, 15, 0⟩
def R.GOV_PWR_SENSE : Nat := 0x4500024
def F.GOV_PWR_SENSE_P : Fld := ⟨R.GOV_PWR_SENSE, 15, 0⟩
def R.GOV_PWR_CHARGED : Nat := 0x4500028
def F.GOV_PWR_CHARGED_P : Fld := ⟨R.GOV_PWR_CHARGED, 15, 0⟩
def R.GOV_BASE_PWR : Nat := 0x450002c
def F.GOV_BASE_PWR_P : Fld := ⟨R.GOV_BASE_PWR, 15, 0⟩
def R.GOV_TJ : Nat := 0x4500030
def F.GOV_TJ_MODEL : Fld := ⟨R.GOV_TJ, 15, 8⟩
def F.GOV_TJ_MEAS : Fld := ⟨R.GOV_TJ, 7, 0⟩
def R.GOV_STATUS : Nat := 0x4500034
def F.GOV_STATUS_OVER : Fld := ⟨R.GOV_STATUS, 3, 3⟩
def F.GOV_STATUS_XCHK_BAD : Fld := ⟨R.GOV_STATUS, 2, 2⟩
def F.GOV_STATUS_THERM_HALT : Fld := ⟨R.GOV_STATUS, 1, 1⟩
def F.GOV_STATUS_ADMIT_HOLD : Fld := ⟨R.GOV_STATUS, 0, 0⟩
def R.GOV_EVENT : Nat := 0x4500038
def F.GOV_EVENT_DUR_OVER : Fld := ⟨R.GOV_EVENT, 3, 3⟩
def F.GOV_EVENT_XCHK : Fld := ⟨R.GOV_EVENT, 2, 2⟩
def F.GOV_EVENT_THERM_HALT : Fld := ⟨R.GOV_EVENT, 1, 1⟩
def F.GOV_EVENT_ADMIT_HOLD : Fld := ⟨R.GOV_EVENT, 0, 0⟩
def R.GOV_INT_EN : Nat := 0x450003c
def F.GOV_INT_EN_EN : Fld := ⟨R.GOV_INT_EN, 3, 0⟩
def R.GOV_XCHK_CNT : Nat := 0x4500040
def F.GOV_XCHK_CNT_COUNT : Fld := ⟨R.GOV_XCHK_CNT, 31, 0⟩
def R.GOV_ADMIT_WAIT_CNT : Nat := 0x4500044
def F.GOV_ADMIT_WAIT_CNT_COUNT : Fld := ⟨R.GOV_ADMIT_WAIT_CNT, 31, 0⟩
def R.GOV_THERM_HALT_CNT : Nat := 0x4500048
def F.GOV_THERM_HALT_CNT_COUNT : Fld := ⟨R.GOV_THERM_HALT_CNT, 31, 0⟩
def R.GOV_SITE_n_EMAX (n : Nat) : Nat := 0x4501000 + 0x20 * n
def F.GOV_SITE_n_EMAX_PJ (n : Nat) : Fld := ⟨R.GOV_SITE_n_EMAX n, 31, 0⟩
def R.GOV_SITE_n_DUR (n : Nat) : Nat := 0x4501004 + 0x20 * n
def F.GOV_SITE_n_DUR_MS (n : Nat) : Fld := ⟨R.GOV_SITE_n_DUR n, 31, 0⟩
def R.GOV_SITE_n_CHARGE (n : Nat) : Nat := 0x4501008 + 0x20 * n
def F.GOV_SITE_n_CHARGE_P (n : Nat) : Fld := ⟨R.GOV_SITE_n_CHARGE n, 15, 0⟩
def R.GOV_SITE_n_STATUS (n : Nat) : Nat := 0x450100c + 0x20 * n
def F.GOV_SITE_n_STATUS_DUR_OVER (n : Nat) : Fld := ⟨R.GOV_SITE_n_STATUS n, 4, 4⟩
def F.GOV_SITE_n_STATUS_RAISED (n : Nat) : Fld := ⟨R.GOV_SITE_n_STATUS n, 3, 3⟩
def F.GOV_SITE_n_STATUS_BURST (n : Nat) : Fld := ⟨R.GOV_SITE_n_STATUS n, 2, 2⟩
def F.GOV_SITE_n_STATUS_STATE (n : Nat) : Fld := ⟨R.GOV_SITE_n_STATUS n, 1, 0⟩
def R.GOV_SITE_n_WAIT (n : Nat) : Nat := 0x4501010 + 0x20 * n
def F.GOV_SITE_n_WAIT_US (n : Nat) : Fld := ⟨R.GOV_SITE_n_WAIT n, 31, 0⟩
def R.CAL_CMD : Nat := 0x4600000
def F.CAL_CMD_NOQUEUE : Fld := ⟨R.CAL_CMD, 20, 20⟩
def F.CAL_CMD_CANCEL : Fld := ⟨R.CAL_CMD, 19, 19⟩
def F.CAL_CMD_ACT : Fld := ⟨R.CAL_CMD, 18, 16⟩
def F.CAL_CMD_CLUSTER : Fld := ⟨R.CAL_CMD, 4, 0⟩
def R.CAL_EVENT : Nat := 0x4600004
def F.CAL_EVENT_EPH_DERATE_SOON : Fld := ⟨R.CAL_EVENT, 4, 4⟩
def F.CAL_EVENT_EPH_RECORD : Fld := ⟨R.CAL_EVENT, 3, 3⟩
def F.CAL_EVENT_SPAN_DONE : Fld := ⟨R.CAL_EVENT, 2, 2⟩
def F.CAL_EVENT_FAIL : Fld := ⟨R.CAL_EVENT, 1, 1⟩
def F.CAL_EVENT_DONE : Fld := ⟨R.CAL_EVENT, 0, 0⟩
def R.CAL_INT_EN : Nat := 0x4600008
def F.CAL_INT_EN_EN : Fld := ⟨R.CAL_INT_EN, 4, 0⟩
def R.CAL_DUP_CNT : Nat := 0x460000c
def F.CAL_DUP_CNT_COUNT : Fld := ⟨R.CAL_DUP_CNT, 31, 0⟩
def R.CAL_REFUSED_CNT : Nat := 0x4600010
def F.CAL_REFUSED_CNT_COUNT : Fld := ⟨R.CAL_REFUSED_CNT, 31, 0⟩
def R.CAL_FAIL_CNT : Nat := 0x4600014
def F.CAL_FAIL_CNT_COUNT : Fld := ⟨R.CAL_FAIL_CNT, 31, 0⟩
def R.CAL_SPAN_CMD : Nat := 0x4600020
def F.CAL_SPAN_CMD_START : Fld := ⟨R.CAL_SPAN_CMD, 31, 31⟩
def F.CAL_SPAN_CMD_NOQUEUE : Fld := ⟨R.CAL_SPAN_CMD, 30, 30⟩
def F.CAL_SPAN_CMD_SITE : Fld := ⟨R.CAL_SPAN_CMD, 5, 0⟩
def R.CAL_SPAN_STATUS : Nat := 0x4600024
def F.CAL_SPAN_STATUS_BUSY : Fld := ⟨R.CAL_SPAN_STATUS, 31, 31⟩
def F.CAL_SPAN_STATUS_SITE : Fld := ⟨R.CAL_SPAN_STATUS, 21, 16⟩
def F.CAL_SPAN_STATUS_RESULT : Fld := ⟨R.CAL_SPAN_STATUS, 3, 0⟩
def R.CAL_EPH_CFG : Nat := 0x4600030
def F.CAL_EPH_CFG_LIMIT : Fld := ⟨R.CAL_EPH_CFG, 31, 16⟩
def F.CAL_EPH_CFG_RECAL_PPM : Fld := ⟨R.CAL_EPH_CFG, 15, 0⟩
def R.CAL_EPH_RATED : Nat := 0x4600034
def F.CAL_EPH_RATED_MVEC : Fld := ⟨R.CAL_EPH_RATED, 11, 0⟩
def R.CAL_EPH_GUARD : Nat := 0x4600038
def F.CAL_EPH_GUARD_GUARD : Fld := ⟨R.CAL_EPH_GUARD, 7, 0⟩
def R.CAL_EPH_STATUS : Nat := 0x460003c
def F.CAL_EPH_STATUS_DERATE_SOON : Fld := ⟨R.CAL_EPH_STATUS, 31, 31⟩
def F.CAL_EPH_STATUS_DERATED : Fld := ⟨R.CAL_EPH_STATUS, 30, 30⟩
def F.CAL_EPH_STATUS_WORST : Fld := ⟨R.CAL_EPH_STATUS, 20, 16⟩
def F.CAL_EPH_STATUS_DAYS_TO_ZERO : Fld := ⟨R.CAL_EPH_STATUS, 15, 0⟩
def R.CAL_EPH_DMAX : Nat := 0x4600040
def F.CAL_EPH_DMAX_PPM : Fld := ⟨R.CAL_EPH_DMAX, 15, 0⟩
def R.CAL_EPH_SLOPE : Nat := 0x4600044
def F.CAL_EPH_SLOPE_PPM : Fld := ⟨R.CAL_EPH_SLOPE, 15, 0⟩
def R.CAL_EPH_SKIP : Nat := 0x4600048
def F.CAL_EPH_SKIP_COUNT : Fld := ⟨R.CAL_EPH_SKIP, 31, 0⟩
def R.CAL_EPH_RECORDS : Nat := 0x460004c
def F.CAL_EPH_RECORDS_COUNT : Fld := ⟨R.CAL_EPH_RECORDS, 31, 0⟩
def R.CAL_CL_k_ACT (k : Nat) : Nat := 0x4601000 + 0x40 * k
def F.CAL_CL_k_ACT_FULL (k : Nat) : Fld := ⟨R.CAL_CL_k_ACT k, 15, 12⟩
def F.CAL_CL_k_ACT_LEVEL (k : Nat) : Fld := ⟨R.CAL_CL_k_ACT k, 11, 8⟩
def F.CAL_CL_k_ACT_TDC (k : Nat) : Fld := ⟨R.CAL_CL_k_ACT k, 7, 4⟩
def R.CAL_CL_k_STATE (k : Nat) : Nat := 0x4601004 + 0x40 * k
def F.CAL_CL_k_STATE_REMAIN (k : Nat) : Fld := ⟨R.CAL_CL_k_STATE k, 31, 16⟩
def F.CAL_CL_k_STATE_RECAL_DUE (k : Nat) : Fld := ⟨R.CAL_CL_k_STATE k, 9, 9⟩
def F.CAL_CL_k_STATE_SLEWING (k : Nat) : Fld := ⟨R.CAL_CL_k_STATE k, 8, 8⟩
def F.CAL_CL_k_STATE_ACTIVE (k : Nat) : Fld := ⟨R.CAL_CL_k_STATE k, 2, 0⟩
def R.CAL_CL_k_DRIFT (k : Nat) : Nat := 0x4601008 + 0x40 * k
def F.CAL_CL_k_DRIFT_D_FULL (k : Nat) : Fld := ⟨R.CAL_CL_k_DRIFT k, 31, 16⟩
def F.CAL_CL_k_DRIFT_D_NOW (k : Nat) : Fld := ⟨R.CAL_CL_k_DRIFT k, 15, 0⟩
def R.CAL_CL_k_LAST_FULL_LO (k : Nat) : Nat := 0x460100c + 0x40 * k
def F.CAL_CL_k_LAST_FULL_LO_TIME (k : Nat) : Fld := ⟨R.CAL_CL_k_LAST_FULL_LO k, 31, 0⟩
def R.CAL_CL_k_LAST_FULL_HI (k : Nat) : Nat := 0x4601010 + 0x40 * k
def F.CAL_CL_k_LAST_FULL_HI_TIME (k : Nat) : Fld := ⟨R.CAL_CL_k_LAST_FULL_HI k, 31, 0⟩
def R.CAL_SITE_n_SKEW (n : Nat) : Nat := 0x4602000 + 0x4 * n
def F.CAL_SITE_n_SKEW_VALID (n : Nat) : Fld := ⟨R.CAL_SITE_n_SKEW n, 31, 31⟩
def F.CAL_SITE_n_SKEW_SKEW (n : Nat) : Fld := ⟨R.CAL_SITE_n_SKEW n, 15, 0⟩
def R.CAL_CL_k_CH_j_TRIM (k j : Nat) : Nat := 0x4604000 + 0x100 * k + 0x4 * j
def F.CAL_CL_k_CH_j_TRIM_ZTRIM (k j : Nat) : Fld := ⟨R.CAL_CL_k_CH_j_TRIM k j, 31, 24⟩
def F.CAL_CL_k_CH_j_TRIM_CMP_OFS (k j : Nat) : Fld := ⟨R.CAL_CL_k_CH_j_TRIM k j, 21, 12⟩
def F.CAL_CL_k_CH_j_TRIM_DESKEW (k j : Nat) : Fld := ⟨R.CAL_CL_k_CH_j_TRIM k j, 11, 0⟩
def R.BOOT_STAGE : Nat := 0x4700000
def F.BOOT_STAGE_FIRST_ERR : Fld := ⟨R.BOOT_STAGE, 23, 16⟩
def F.BOOT_STAGE_ERR : Fld := ⟨R.BOOT_STAGE, 15, 8⟩
def F.BOOT_STAGE_STAGE : Fld := ⟨R.BOOT_STAGE, 7, 0⟩
def R.BOOT_STATUS : Nat := 0x4700004
def F.BOOT_STATUS_LEDGER_EMPTY : Fld := ⟨R.BOOT_STATUS, 8, 8⟩
def F.BOOT_STATUS_OWNER_BLANK : Fld := ⟨R.BOOT_STATUS, 7, 7⟩
def F.BOOT_STATUS_TRIAL_FAILED : Fld := ⟨R.BOOT_STATUS, 6, 6⟩
def F.BOOT_STATUS_TRIAL : Fld := ⟨R.BOOT_STATUS, 5, 5⟩
def F.BOOT_STATUS_FALLBACK : Fld := ⟨R.BOOT_STATUS, 4, 4⟩
def F.BOOT_STATUS_FAILED : Fld := ⟨R.BOOT_STATUS, 3, 3⟩
def F.BOOT_STATUS_HOLD : Fld := ⟨R.BOOT_STATUS, 2, 2⟩
def F.BOOT_STATUS_SLOT : Fld := ⟨R.BOOT_STATUS, 1, 0⟩
def R.BOOT_STRAP : Nat := 0x4700008
def F.BOOT_STRAP_ULT_ROOT : Fld := ⟨R.BOOT_STRAP, 4, 4⟩
def F.BOOT_STRAP_COMPAT_N : Fld := ⟨R.BOOT_STRAP, 3, 3⟩
def F.BOOT_STRAP_BOOTSEL : Fld := ⟨R.BOOT_STRAP, 1, 0⟩
def R.BOOT_ERR_LOC : Nat := 0x470000c
def F.BOOT_ERR_LOC_TYPE : Fld := ⟨R.BOOT_ERR_LOC, 31, 24⟩
def F.BOOT_ERR_LOC_INDEX : Fld := ⟨R.BOOT_ERR_LOC, 23, 0⟩
def R.BOOT_RESET_CAUSE : Nat := 0x4700010
def F.BOOT_RESET_CAUSE_CAUSE : Fld := ⟨R.BOOT_RESET_CAUSE, 2, 0⟩
def R.BOOT_ROLLBACK : Nat := 0x4700014
def F.BOOT_ROLLBACK_VER : Fld := ⟨R.BOOT_ROLLBACK, 31, 0⟩
def R.BOOT_RB_COUNTER : Nat := 0x4700018
def F.BOOT_RB_COUNTER_VER : Fld := ⟨R.BOOT_RB_COUNTER, 31, 0⟩
def R.BOOT_RB_FLOOR : Nat := 0x470001c
def F.BOOT_RB_FLOOR_VER : Fld := ⟨R.BOOT_RB_FLOOR, 31, 0⟩
def R.BOOT_TRIAL_CNT : Nat := 0x4700020
def F.BOOT_TRIAL_CNT_VBAT_RESET : Fld := ⟨R.BOOT_TRIAL_CNT, 31, 31⟩
def F.BOOT_TRIAL_CNT_COUNT : Fld := ⟨R.BOOT_TRIAL_CNT, 7, 0⟩
def R.BOOT_FLASH : Nat := 0x4700024
def F.BOOT_FLASH_SIZE_LOG2 : Fld := ⟨R.BOOT_FLASH, 31, 24⟩
def F.BOOT_FLASH_MHZ : Fld := ⟨R.BOOT_FLASH, 15, 8⟩
def F.BOOT_FLASH_WIDTH : Fld := ⟨R.BOOT_FLASH, 1, 0⟩
def R.BOOT_MGMT_VER : Nat := 0x4700028
def F.BOOT_MGMT_VER_VER : Fld := ⟨R.BOOT_MGMT_VER, 31, 0⟩
def R.BOOT_SITEFW_VER : Nat := 0x470002c
def F.BOOT_SITEFW_VER_VER : Fld := ⟨R.BOOT_SITEFW_VER, 31, 0⟩
def R.BOOT_SLOT_A_VER : Nat := 0x4700030
def F.BOOT_SLOT_A_VER_VER : Fld := ⟨R.BOOT_SLOT_A_VER, 31, 0⟩
def R.BOOT_SLOT_B_VER : Nat := 0x4700034
def F.BOOT_SLOT_B_VER_VER : Fld := ⟨R.BOOT_SLOT_B_VER, 31, 0⟩
def R.BOOT_TIME_HBM : Nat := 0x4700038
def F.BOOT_TIME_HBM_US : Fld := ⟨R.BOOT_TIME_HBM, 31, 0⟩
def R.BOOT_TIME_READY : Nat := 0x470003c
def F.BOOT_TIME_READY_US : Fld := ⟨R.BOOT_TIME_READY, 31, 0⟩
def R.BOOT_RESET : Nat := 0x4700040
def F.BOOT_RESET_KEY : Fld := ⟨R.BOOT_RESET, 31, 16⟩
def F.BOOT_RESET_RESET : Fld := ⟨R.BOOT_RESET, 0, 0⟩
def R.BOOT_RESET_REJ : Nat := 0x4700044
def F.BOOT_RESET_REJ_COUNT : Fld := ⟨R.BOOT_RESET_REJ, 31, 0⟩
def R.BOOT_UPD_STATUS : Nat := 0x4700048
def F.BOOT_UPD_STATUS_ACK_CODE : Fld := ⟨R.BOOT_UPD_STATUS, 31, 16⟩
def F.BOOT_UPD_STATUS_BUSY : Fld := ⟨R.BOOT_UPD_STATUS, 8, 8⟩
def F.BOOT_UPD_STATUS_OP : Fld := ⟨R.BOOT_UPD_STATUS, 7, 0⟩
def R.BOOT_EVENT : Nat := 0x470004c
def F.BOOT_EVENT_TRIAL_FAILED : Fld := ⟨R.BOOT_EVENT, 2, 2⟩
def F.BOOT_EVENT_UPD_DONE : Fld := ⟨R.BOOT_EVENT, 1, 1⟩
def F.BOOT_EVENT_READY : Fld := ⟨R.BOOT_EVENT, 0, 0⟩
def R.BOOT_INT_EN : Nat := 0x4700050
def F.BOOT_INT_EN_EN : Fld := ⟨R.BOOT_INT_EN, 2, 0⟩
def R.MGS_SAFE_STATUS : Nat := 0x5000000
def F.MGS_SAFE_STATUS_SRC : Fld := ⟨R.MGS_SAFE_STATUS, 5, 1⟩
def F.MGS_SAFE_STATUS_ACTIVE : Fld := ⟨R.MGS_SAFE_STATUS, 0, 0⟩
def R.MGS_SAFE_CTRL : Nat := 0x5000004
def F.MGS_SAFE_CTRL_FORCE : Fld := ⟨R.MGS_SAFE_CTRL, 0, 0⟩
def R.MGS_SAFE_CNT : Nat := 0x5000008
def F.MGS_SAFE_CNT_COUNT : Fld := ⟨R.MGS_SAFE_CNT, 31, 0⟩
def R.MGS_WDT_CTRL : Nat := 0x5000010
def F.MGS_WDT_CTRL_EN : Fld := ⟨R.MGS_WDT_CTRL, 31, 31⟩
def F.MGS_WDT_CTRL_RESET_DLY : Fld := ⟨R.MGS_WDT_CTRL, 23, 16⟩
def F.MGS_WDT_CTRL_TIMEOUT : Fld := ⟨R.MGS_WDT_CTRL, 15, 0⟩
def R.MGS_WDT_KICK : Nat := 0x5000014
def F.MGS_WDT_KICK_KEY : Fld := ⟨R.MGS_WDT_KICK, 15, 0⟩
def R.MGS_WDT_REMAIN : Nat := 0x5000018
def F.MGS_WDT_REMAIN_MS : Fld := ⟨R.MGS_WDT_REMAIN, 31, 0⟩
def R.MGS_WDT_REJ : Nat := 0x500001c
def F.MGS_WDT_REJ_COUNT : Fld := ⟨R.MGS_WDT_REJ, 31, 0⟩
def R.MGS_TEMP : Nat := 0x5000020
def F.MGS_TEMP_DIODE : Fld := ⟨R.MGS_TEMP, 13, 8⟩
def F.MGS_TEMP_MAX : Fld := ⟨R.MGS_TEMP, 7, 0⟩
def R.MGS_EVENT : Nat := 0x5000024
def F.MGS_EVENT_LOG_LOST : Fld := ⟨R.MGS_EVENT, 4, 4⟩
def F.MGS_EVENT_LEDGER_FAIL : Fld := ⟨R.MGS_EVENT, 3, 3⟩
def F.MGS_EVENT_VMON : Fld := ⟨R.MGS_EVENT, 2, 2⟩
def F.MGS_EVENT_WDT : Fld := ⟨R.MGS_EVENT, 1, 1⟩
def F.MGS_EVENT_SAFE_EXIT : Fld := ⟨R.MGS_EVENT, 0, 0⟩
def R.MGS_INT_EN : Nat := 0x5000028
def F.MGS_INT_EN_EN : Fld := ⟨R.MGS_INT_EN, 4, 0⟩
def R.MGS_DIODE_i (i : Nat) : Nat := 0x5000100 + 0x4 * i
def F.MGS_DIODE_i_TEMP (i : Nat) : Fld := ⟨R.MGS_DIODE_i i, 11, 0⟩
def R.MGS_VMON_v (v : Nat) : Nat := 0x5000200 + 0x4 * v
def F.MGS_VMON_v_OUT (v : Nat) : Fld := ⟨R.MGS_VMON_v v, 16, 16⟩
def F.MGS_VMON_v_MV (v : Nat) : Fld := ⟨R.MGS_VMON_v v, 15, 0⟩
def R.MGS_VMON_v_LIM (v : Nat) : Nat := 0x5000300 + 0x4 * v
def F.MGS_VMON_v_LIM_HI (v : Nat) : Fld := ⟨R.MGS_VMON_v_LIM v, 31, 16⟩
def F.MGS_VMON_v_LIM_LO (v : Nat) : Fld := ⟨R.MGS_VMON_v_LIM v, 15, 0⟩
def R.MGS_RAIL_r_I (r : Nat) : Nat := 0x5000400 + 0x4 * r
def F.MGS_RAIL_r_I_CURRENT (r : Nat) : Fld := ⟨R.MGS_RAIL_r_I r, 15, 0⟩
def R.MGS_KA_RTC_LO : Nat := 0x5000500
def F.MGS_KA_RTC_LO_SEC : Fld := ⟨R.MGS_KA_RTC_LO, 31, 0⟩
def R.MGS_KA_RTC_HI : Nat := 0x5000504
def F.MGS_KA_RTC_HI_SEC : Fld := ⟨R.MGS_KA_RTC_HI, 15, 0⟩
def R.MGS_KA_STATUS : Nat := 0x5000508
def F.MGS_KA_STATUS_VBAT_LOW : Fld := ⟨R.MGS_KA_STATUS, 2, 2⟩
def F.MGS_KA_STATUS_TAMPER : Fld := ⟨R.MGS_KA_STATUS, 1, 1⟩
def F.MGS_KA_STATUS_RTC_VALID : Fld := ⟨R.MGS_KA_STATUS, 0, 0⟩
def R.MGS_KA_CLR : Nat := 0x500050c
def F.MGS_KA_CLR_KEY : Fld := ⟨R.MGS_KA_CLR, 15, 0⟩
def R.MGS_KA_BOOTS : Nat := 0x5000510
def F.MGS_KA_BOOTS_COUNT : Fld := ⟨R.MGS_KA_BOOTS, 31, 0⟩
def R.MGS_LOG_LOST : Nat := 0x5000600
def F.MGS_LOG_LOST_COUNT : Fld := ⟨R.MGS_LOG_LOST, 31, 0⟩
def R.MGS_LOG_NEWEST : Nat := 0x5000604
def F.MGS_LOG_NEWEST_SEQ : Fld := ⟨R.MGS_LOG_NEWEST, 31, 0⟩
def R.MGS_LOG_RD_IDX : Nat := 0x5000608
def F.MGS_LOG_RD_IDX_SEQ : Fld := ⟨R.MGS_LOG_RD_IDX, 31, 0⟩
def R.MGS_LOG_RD_STATUS : Nat := 0x500060c
def F.MGS_LOG_RD_STATUS_VALID : Fld := ⟨R.MGS_LOG_RD_STATUS, 0, 0⟩
def R.MGS_LOG_APP_CODE : Nat := 0x5000610
def F.MGS_LOG_APP_CODE_CODE : Fld := ⟨R.MGS_LOG_APP_CODE, 15, 0⟩
def R.MGS_LOG_APP_Dw (w : Nat) : Nat := 0x5000620 + 0x4 * w
def F.MGS_LOG_APP_Dw_DATA (w : Nat) : Fld := ⟨R.MGS_LOG_APP_Dw w, 31, 0⟩
def R.MGS_LOG_RD_Dw (w : Nat) : Nat := 0x5000640 + 0x4 * w
def F.MGS_LOG_RD_Dw_DATA (w : Nat) : Fld := ⟨R.MGS_LOG_RD_Dw w, 31, 0⟩
def R.MGS_LEDGER_STATUS : Nat := 0x5000700
def F.MGS_LEDGER_STATUS_BANK : Fld := ⟨R.MGS_LEDGER_STATUS, 2, 2⟩
def F.MGS_LEDGER_STATUS_VALID : Fld := ⟨R.MGS_LEDGER_STATUS, 1, 0⟩
def R.MGS_LEDGER_SEQ : Nat := 0x5000704
def F.MGS_LEDGER_SEQ_SEQ : Fld := ⟨R.MGS_LEDGER_SEQ, 31, 0⟩
def R.MGS_LEDGER_FAIL : Nat := 0x5000708
def F.MGS_LEDGER_FAIL_COUNT : Fld := ⟨R.MGS_LEDGER_FAIL, 31, 0⟩
def R.MGS_UART_CTRL : Nat := 0x5000800
def F.MGS_UART_CTRL_EN : Fld := ⟨R.MGS_UART_CTRL, 31, 31⟩
def F.MGS_UART_CTRL_DIV : Fld := ⟨R.MGS_UART_CTRL, 17, 0⟩
def R.MGS_UART_DATA : Nat := 0x5000804
def F.MGS_UART_DATA_VALID : Fld := ⟨R.MGS_UART_DATA, 8, 8⟩
def F.MGS_UART_DATA_BYTE : Fld := ⟨R.MGS_UART_DATA, 7, 0⟩
def R.MGS_UART_STATUS : Nat := 0x5000808
def F.MGS_UART_STATUS_BREAK : Fld := ⟨R.MGS_UART_STATUS, 18, 18⟩
def F.MGS_UART_STATUS_OVERRUN : Fld := ⟨R.MGS_UART_STATUS, 17, 17⟩
def F.MGS_UART_STATUS_FRAME_ERR : Fld := ⟨R.MGS_UART_STATUS, 16, 16⟩
def F.MGS_UART_STATUS_TX_FILL : Fld := ⟨R.MGS_UART_STATUS, 15, 8⟩
def F.MGS_UART_STATUS_RX_FILL : Fld := ⟨R.MGS_UART_STATUS, 7, 0⟩
def R.MGS_UART_ERR : Nat := 0x500080c
def F.MGS_UART_ERR_COUNT : Fld := ⟨R.MGS_UART_ERR, 31, 0⟩
def R.MGS_SMB_CFG : Nat := 0x5000900
def F.MGS_SMB_CFG_PEC : Fld := ⟨R.MGS_SMB_CFG, 8, 8⟩
def F.MGS_SMB_CFG_ADDR : Fld := ⟨R.MGS_SMB_CFG, 6, 0⟩
def R.MGS_SMB_ERR : Nat := 0x5000904
def F.MGS_SMB_ERR_COUNT : Fld := ⟨R.MGS_SMB_ERR, 31, 0⟩
def R.SITE_n_OCT_LO (n : Nat) : Nat := 0x6000000 + 0x100 * n
def F.SITE_n_OCT_LO_OCT (n : Nat) : Fld := ⟨R.SITE_n_OCT_LO n, 31, 0⟩
def R.SITE_n_OCT_HI (n : Nat) : Nat := 0x6000004 + 0x100 * n
def F.SITE_n_OCT_HI_OCT (n : Nat) : Fld := ⟨R.SITE_n_OCT_HI n, 31, 0⟩
def R.SITE_n_SPAN (n : Nat) : Nat := 0x6000008 + 0x100 * n
def F.SITE_n_SPAN_ROLE (n : Nat) : Fld := ⟨R.SITE_n_SPAN n, 31, 30⟩
def F.SITE_n_SPAN_DOMAIN_TRANSIT (n : Nat) : Fld := ⟨R.SITE_n_SPAN n, 29, 29⟩
def F.SITE_n_SPAN_SPAN_ID (n : Nat) : Fld := ⟨R.SITE_n_SPAN n, 15, 0⟩
def R.SITE_n_SPAN_GEOM (n : Nat) : Nat := 0x600000c + 0x100 * n
def F.SITE_n_SPAN_GEOM_INDEX (n : Nat) : Fld := ⟨R.SITE_n_SPAN_GEOM n, 23, 16⟩
def F.SITE_n_SPAN_GEOM_CHIPS (n : Nat) : Fld := ⟨R.SITE_n_SPAN_GEOM n, 8, 0⟩
def R.SITE_n_SPAN_PRIMARY (n : Nat) : Nat := 0x6000010 + 0x100 * n
def F.SITE_n_SPAN_PRIMARY_CHIP (n : Nat) : Fld := ⟨R.SITE_n_SPAN_PRIMARY n, 15, 0⟩
def R.SITE_n_SPAN_PATH (n : Nat) : Nat := 0x6000014 + 0x100 * n
def F.SITE_n_SPAN_PATH_HOPS (n : Nat) : Fld := ⟨R.SITE_n_SPAN_PATH n, 4, 0⟩
def R.SITE_n_GO_CFG (n : Nat) : Nat := 0x6000018 + 0x100 * n
def F.SITE_n_GO_CFG_WAIT_PRIMED (n : Nat) : Fld := ⟨R.SITE_n_GO_CFG n, 31, 31⟩
def F.SITE_n_GO_CFG_LEAD (n : Nat) : Fld := ⟨R.SITE_n_GO_CFG n, 27, 16⟩
def F.SITE_n_GO_CFG_TMO (n : Nat) : Fld := ⟨R.SITE_n_GO_CFG n, 15, 0⟩
def R.SITE_n_TRANSIT_LEAD (n : Nat) : Nat := 0x600001c + 0x100 * n
def F.SITE_n_TRANSIT_LEAD_LEAD (n : Nat) : Fld := ⟨R.SITE_n_TRANSIT_LEAD n, 11, 0⟩
def R.SITE_n_CMD (n : Nat) : Nat := 0x6000020 + 0x100 * n
def F.SITE_n_CMD_OP (n : Nat) : Fld := ⟨R.SITE_n_CMD n, 1, 0⟩
def R.SITE_n_STATUS (n : Nat) : Nat := 0x6000024 + 0x100 * n
def F.SITE_n_STATUS_ARM_RESULT (n : Nat) : Fld := ⟨R.SITE_n_STATUS n, 31, 24⟩
def F.SITE_n_STATUS_GO_RESULT (n : Nat) : Fld := ⟨R.SITE_n_STATUS n, 23, 16⟩
def F.SITE_n_STATUS_BUSY (n : Nat) : Fld := ⟨R.SITE_n_STATUS n, 3, 3⟩
def F.SITE_n_STATUS_STATE (n : Nat) : Fld := ⟨R.SITE_n_STATUS n, 2, 0⟩
def R.SITE_n_SPAN_RESULT (n : Nat) : Nat := 0x6000028 + 0x100 * n
def F.SITE_n_SPAN_RESULT_RESULT (n : Nat) : Fld := ⟨R.SITE_n_SPAN_RESULT n, 31, 0⟩
def R.SITE_n_SLIP_CNT (n : Nat) : Nat := 0x600002c + 0x100 * n
def F.SITE_n_SLIP_CNT_COUNT (n : Nat) : Fld := ⟨R.SITE_n_SLIP_CNT n, 31, 0⟩
def R.SITE_n_T0_LO (n : Nat) : Nat := 0x6000030 + 0x100 * n
def F.SITE_n_T0_LO_TIME (n : Nat) : Fld := ⟨R.SITE_n_T0_LO n, 31, 0⟩
def R.SITE_n_T0_HI (n : Nat) : Nat := 0x6000034 + 0x100 * n
def F.SITE_n_T0_HI_TIME (n : Nat) : Fld := ⟨R.SITE_n_T0_HI n, 31, 0⟩
def R.SITE_n_EVENT (n : Nat) : Nat := 0x6000038 + 0x100 * n
def F.SITE_n_EVENT_CMD_REFUSED (n : Nat) : Fld := ⟨R.SITE_n_EVENT n, 6, 6⟩
def F.SITE_n_EVENT_CMD_DONE (n : Nat) : Fld := ⟨R.SITE_n_EVENT n, 5, 5⟩
def F.SITE_n_EVENT_SPAN_DONE (n : Nat) : Fld := ⟨R.SITE_n_EVENT n, 4, 4⟩
def F.SITE_n_EVENT_MEMBER_LOST (n : Nat) : Fld := ⟨R.SITE_n_EVENT n, 3, 3⟩
def F.SITE_n_EVENT_TRANSIT_LATE (n : Nat) : Fld := ⟨R.SITE_n_EVENT n, 2, 2⟩
def F.SITE_n_EVENT_SPAN_SLIP (n : Nat) : Fld := ⟨R.SITE_n_EVENT n, 1, 1⟩
def F.SITE_n_EVENT_GO_LATE (n : Nat) : Fld := ⟨R.SITE_n_EVENT n, 0, 0⟩
def R.SITE_n_INT_EN (n : Nat) : Nat := 0x600003c + 0x100 * n
def F.SITE_n_INT_EN_EN (n : Nat) : Fld := ⟨R.SITE_n_INT_EN n, 6, 0⟩
def R.SITE_n_MISS_MAP_w (n w : Nat) : Nat := 0x6000040 + 0x100 * n + 0x4 * w
def F.SITE_n_MISS_MAP_w_MISS (n w : Nat) : Fld := ⟨R.SITE_n_MISS_MAP_w n w, 31, 0⟩

end Sys2Proof.Machine
end

