-- ==== Sys2Proof/Machine/RegTable.lean ====
section
/-!
DEFINITION. The register maps of the spec as data: for every register of every block (the tables of chapters 01
to 18, placed by R20 and R490) its BAR0 offset, its index dimensions and, for every field that is not reserved, the
bit range, the access type of R2, the reset value of the table and, where the table or a rule names reserved
encodings, the allowed ranges of R14 (an empty list allows every value).
A field whose table gives "Strap", "Fuse" or "Keep-alive" in place of a reset value has 0 here: the read views of
Machine/Ops.lean supply it.
-/

namespace Sys2Proof.Machine

/-- The access types of R2. -/
inductive Acc where
  | rw | ro | w1c | w1s | wo | rc | rwl
  deriving DecidableEq, Repr

/-- One field of a register map: bits [hi:lo], access type, reset value, allowed encodings (R14). -/
structure RegField where
  hi : Nat
  lo : Nat
  acc : Acc
  rst : Nat
  ok : List (Nat × Nat)
  deriving DecidableEq, Repr

/-- One register, or one array of registers: first BAR0 offset, dimensions as (count, stride), fields. -/
structure RegRow where
  off : Nat
  dims : List (Nat × Nat)
  fields : List RegField
  deriving DecidableEq, Repr

/-- One register block window (the table after R20). -/
structure RegBlock where
  base : Nat
  size : Nat
  rows : List RegRow
  deriving DecidableEq, Repr

/-- A field all of whose encodings are allowed. -/
def fA (hi lo : Nat) (a : Acc) (r : Nat) : RegField := ⟨hi, lo, a, r, []⟩

/-- GLB register map, part 0 (chapter 01). -/
def rowsGLB0 : List RegRow := [
  -- GLB_ID
  ⟨0x0, [], [fA 31 0 .ro 0x4c585120]⟩,
  -- GLB_STEP
  ⟨0x4, [], [fA 15 8 .ro 1, fA 7 0 .ro 0]⟩,
  -- GLB_STATUS
  ⟨0x8, [], [fA 2 2 .ro 1, fA 1 1 .ro 0, fA 0 0 .ro 0]⟩,
  -- GLB_COMPAT
  ⟨0xc, [], [fA 5 0 .ro 0]⟩,
  -- GLB_IMAGE_VER
  ⟨0x10, [], [fA 31 0 .ro 0]⟩,
  -- GLB_CHIP_ID
  ⟨0x14, [], [fA 16 16 .ro 0, fA 15 0 .ro 0xffff]⟩,
  -- GLB_ERR_ENUM
  ⟨0x20, [], [fA 31 0 .rc 0]⟩,
  -- GLB_ERR_UNMAPPED
  ⟨0x24, [], [fA 31 0 .rc 0]⟩,
  -- GLB_ERR_SIZE
  ⟨0x28, [], [fA 31 0 .rc 0]⟩,
  -- GLB_ERR_FIFO_WR
  ⟨0x2c, [], [fA 31 0 .rc 0]⟩,
  -- GLB_ERR_ADDR_LO
  ⟨0x30, [], [fA 31 0 .ro 0]⟩,
  -- GLB_ERR_ADDR_HI
  ⟨0x34, [], [fA 7 0 .ro 0]⟩,
  -- GLB_ERR_SRC
  ⟨0x38, [], [fA 4 0 .ro 0]⟩,
  -- GLB_SCRATCHk
  ⟨0x40, [(4, 4)], [fA 31 0 .rw 0]⟩]

/-- The rows of block GLB. -/
def rowsGLB : List RegRow := rowsGLB0

/-- CLK register map, part 0 (chapter 01). -/
def rowsCLK0 : List RegRow := [
  -- CLK_REF_CTRL
  ⟨0x100000, [], [fA 8 8 .rw 1, ⟨1, 0, .rw, 1, [(0, 2)]⟩]⟩,
  -- CLK_REF_STATUS
  ⟨0x100004, [], [fA 10 8 .ro 7, fA 7 7 .w1c 0, fA 6 6 .w1c 0, fA 5 5 .w1c 0, fA 4 4 .w1c 0, fA 3 3 .ro 0, fA 2 2 .ro 0, fA 1 1 .ro 0, fA 0 0 .ro 0]⟩,
  -- CLK_REF_PPM
  ⟨0x100008, [], [fA 31 0 .ro 0x80000000]⟩,
  -- CLK_REF_LOSS_CNT
  ⟨0x10000c, [], [fA 31 0 .rc 0]⟩,
  -- CLK_SWITCH_CNT
  ⟨0x100010, [], [fA 31 0 .rc 0]⟩,
  -- CLK_PLL_LOCK
  ⟨0x100014, [], [fA 31 0 .ro 0]⟩,
  -- CLK_PLL_UNLOCK
  ⟨0x100018, [], [fA 31 0 .w1c 0]⟩,
  -- CLK_SYS_LOCK
  ⟨0x10001c, [], [fA 3 3 .ro 0, fA 2 2 .ro 0, fA 1 1 .ro 0, fA 0 0 .ro 0]⟩,
  -- CLK_INT_EN
  ⟨0x100020, [], [fA 4 4 .rw 0, fA 3 3 .rw 1, fA 2 2 .rw 0, fA 1 1 .rw 1, fA 0 0 .rw 1]⟩]

/-- The rows of block CLK. -/
def rowsCLK : List RegRow := rowsCLK0

/-- DRW register map, part 0 (chapter 02). -/
def rowsDRW0 : List RegRow := [
  -- DRW_CMD
  ⟨0x200000, [], [fA 31 24 .wo 0, ⟨23, 20, .wo, 0, [(0, 6)]⟩, fA 19 0 .wo 0]⟩,
  -- DRW_CMD_ARG_LO
  ⟨0x200004, [], [fA 31 0 .rw 0]⟩,
  -- DRW_CMD_ARG_HI
  ⟨0x200008, [], [fA 7 0 .rw 0]⟩,
  -- DRW_CMD_STATUS
  ⟨0x20000c, [], [fA 31 31 .ro 0, fA 23 16 .ro 0, fA 15 12 .ro 0, fA 7 0 .ro 0]⟩,
  -- DRW_CMD_RESULT_LO
  ⟨0x200010, [], [fA 31 0 .ro 0]⟩,
  -- DRW_CMD_RESULT_HI
  ⟨0x200014, [], [fA 7 0 .ro 0]⟩,
  -- DRW_CMD_REFUSED
  ⟨0x200018, [], [fA 31 0 .rc 0]⟩,
  -- DRW_COMMITTED_CNT
  ⟨0x200020, [], [fA 20 0 .ro 0]⟩,
  -- DRW_GEN
  ⟨0x200024, [], [fA 31 0 .ro 0]⟩,
  -- DRW_GUARD_DROP
  ⟨0x200028, [], [fA 31 0 .rc 0]⟩,
  -- DRW_GUARD_LAST_LO
  ⟨0x20002c, [], [fA 31 0 .ro 0]⟩,
  -- DRW_GUARD_LAST_HI
  ⟨0x200030, [], [fA 7 0 .ro 0]⟩,
  -- DRW_GUARD_LAST_SRC
  ⟨0x200034, [], [fA 28 24 .ro 0, fA 19 0 .ro 0]⟩,
  -- DRW_DIR_WP_DROP
  ⟨0x200038, [], [fA 31 0 .rc 0]⟩,
  -- DRW_EVENT
  ⟨0x20003c, [], [fA 4 4 .w1c 0, fA 3 3 .w1c 0, fA 2 2 .w1c 0, fA 1 1 .w1c 0, fA 0 0 .w1c 0]⟩,
  -- DRW_INT_EN
  ⟨0x200040, [], [fA 4 0 .rw 5]⟩,
  -- DRW_SHELF_FREE_PAGES
  ⟨0x200044, [], [fA 13 0 .ro 0x3000]⟩,
  -- DRW_SHELF_LARGEST
  ⟨0x200048, [], [fA 13 0 .ro 0x3000]⟩,
  -- DRW_GUARD_RACE_CNT
  ⟨0x20004c, [], [fA 31 0 .rc 0]⟩,
  -- DRW_ART_n
  ⟨0x201000, [(256, 4)], [fA 31 31 .ro 0, fA 30 30 .ro 0, fA 29 24 .ro 0, fA 23 23 .ro 0, fA 19 0 .ro 0]⟩,
  -- DRW_SHELF_MAP_w
  ⟨0x202000, [(384, 4)], [fA 31 0 .ro 0]⟩,
  -- DRW_COMMIT_MAP_w
  ⟨0x220000, [(32768, 4)], [fA 31 0 .ro 0]⟩]

/-- The rows of block DRW. -/
def rowsDRW : List RegRow := rowsDRW0

/-- STRM register map, part 0 (chapter 03). -/
def rowsSTRM0 : List RegRow := [
  -- STRM_CTRL
  ⟨0x300000, [], [⟨4, 0, .rw, 0x10, [(1, 16)]⟩]⟩,
  -- STRM_LEDGER_CTRL
  ⟨0x300004, [], [⟨6, 0, .rw, 0x50, [(50, 90)]⟩]⟩,
  -- STRM_LEDGER_GUAR
  ⟨0x300008, [], [fA 15 0 .ro 0x2204]⟩,
  -- STRM_LEDGER_SUM
  ⟨0x30000c, [], [fA 15 0 .ro 0]⟩,
  -- STRM_LEDGER_RSV
  ⟨0x300010, [], [fA 31 16 .ro 0x180, fA 15 0 .ro 0x2e2]⟩,
  -- STRM_FIFO_FREE
  ⟨0x300014, [], [fA 9 0 .ro 0x200]⟩,
  -- STRM_STATUS
  ⟨0x300018, [], [fA 0 0 .ro 0]⟩,
  -- STRM_EVENT
  ⟨0x30001c, [], [fA 3 3 .w1c 0, fA 2 2 .w1c 0, fA 1 1 .w1c 0, fA 0 0 .w1c 0]⟩,
  -- STRM_INT_EN
  ⟨0x300020, [], [fA 3 0 .rw 0xd]⟩,
  -- STRM_STARVE_TOTAL
  ⟨0x300024, [], [fA 31 0 .rc 0]⟩,
  -- STRM_TOL_MIN
  ⟨0x300028, [], [fA 31 0 .ro 0xffffffff]⟩,
  -- STRM_SITE_n_CFG
  ⟨0x301000, [(64, 0x40)], [⟨22, 16, .rw, 1, [(1, 64)]⟩, fA 4 4 .rw 0, ⟨1, 0, .rw, 0, [(0, 2)]⟩]⟩,
  -- STRM_SITE_n_RATE
  ⟨0x301004, [(64, 0x40)], [fA 15 0 .rw 0]⟩,
  -- STRM_SITE_n_TOL_OVR
  ⟨0x301008, [(64, 0x40)], [fA 31 0 .rw 0]⟩,
  -- STRM_SITE_n_STATUS
  ⟨0x30100c, [(64, 0x40)], [fA 23 16 .ro 0, fA 6 0 .ro 0]⟩,
  -- STRM_SITE_n_REQ
  ⟨0x301010, [(64, 0x40)], [fA 14 0 .ro 0]⟩,
  -- STRM_SITE_n_FRAME_BYTES
  ⟨0x301014, [(64, 0x40)], [fA 16 0 .ro 0]⟩,
  -- STRM_SITE_n_TOL
  ⟨0x301018, [(64, 0x40)], [fA 31 0 .ro 0]⟩,
  -- STRM_SITE_n_STARVE_CNT
  ⟨0x30101c, [(64, 0x40)], [fA 31 0 .rc 0]⟩,
  -- STRM_SITE_n_LATE_DROP
  ⟨0x301020, [(64, 0x40)], [fA 31 0 .rc 0]⟩,
  -- STRM_SITE_n_REPEAT_CNT
  ⟨0x301024, [(64, 0x40)], [fA 31 0 .rc 0]⟩,
  -- STRM_SITE_n_SLIP_CNT
  ⟨0x301028, [(64, 0x40)], [fA 31 0 .rc 0]⟩,
  -- STRM_SITE_n_FILL
  ⟨0x30102c, [(64, 0x40)], [fA 22 0 .ro 0]⟩,
  -- STRM_SITE_n_FRAME
  ⟨0x301030, [(64, 0x40)], [fA 31 0 .ro 0]⟩]

/-- STRM register map, part 1 (chapter 03). -/
def rowsSTRM1 : List RegRow := [
  -- STRM_SITE_n_FIRST_STARVE
  ⟨0x301034, [(64, 0x40)], [fA 31 0 .ro 0xffffffff]⟩,
  -- STRM_SITE_n_FLAGS
  ⟨0x301038, [(64, 0x40)], [fA 3 3 .ro 0, fA 2 2 .ro 0, fA 1 1 .ro 0, fA 0 0 .ro 0]⟩]

/-- The rows of block STRM. -/
def rowsSTRM : List RegRow := rowsSTRM0 ++ rowsSTRM1

/-- MEMC register map, part 0 (chapter 04). -/
def rowsMEMC0 : List RegRow := [
  -- MEMC_STATUS
  ⟨0x400000, [], [fA 7 7 .ro 0, fA 6 2 .ro 0, fA 1 1 .ro 0, fA 0 0 .ro 0]⟩,
  -- MEMC_RETRAIN_CTRL
  ⟨0x400004, [], [⟨31, 16, .rw, 0x64, [(10, 65535)]⟩, fA 0 0 .rw 1]⟩,
  -- MEMC_RETRAIN_CMD
  ⟨0x400008, [], [fA 31 31 .wo 0, fA 4 0 .wo 0]⟩,
  -- MEMC_RETRAIN_CNT
  ⟨0x40000c, [], [fA 31 0 .rc 0]⟩,
  -- MEMC_RETRAIN_FAIL
  ⟨0x400010, [], [fA 31 0 .rc 0]⟩,
  -- MEMC_PWR_CTRL
  ⟨0x400014, [], [fA 18 16 .rw 7, ⟨15, 0, .rw, 0x64, [(1, 65535)]⟩]⟩,
  -- MEMC_REFAB_CNT
  ⟨0x400018, [], [fA 31 0 .rc 0]⟩,
  -- MEMC_REF_DEBT_MAX
  ⟨0x40001c, [], [fA 3 0 .rc 0]⟩,
  -- MEMC_INORDER_CNT
  ⟨0x400020, [], [fA 31 0 .rc 0]⟩,
  -- MEMC_ECC_CE
  ⟨0x400024, [], [fA 31 0 .rc 0]⟩,
  -- MEMC_ECC_UE
  ⟨0x400028, [], [fA 31 0 .rc 0]⟩,
  -- MEMC_ECC_UE_PLAYED
  ⟨0x40002c, [], [fA 31 0 .rc 0]⟩,
  -- MEMC_ECC_UE_ADDR_LO
  ⟨0x400030, [], [fA 31 0 .ro 0]⟩,
  -- MEMC_ECC_UE_ADDR_HI
  ⟨0x400034, [], [fA 7 0 .ro 0]⟩,
  -- MEMC_ECC_UE_SRC
  ⟨0x400038, [], [fA 31 31 .ro 0, fA 30 26 .ro 0, fA 25 20 .ro 0, fA 19 0 .ro 0]⟩,
  -- MEMC_CE_THRESH
  ⟨0x40003c, [], [fA 31 0 .rw 0x3e8]⟩,
  -- MEMC_EVENT
  ⟨0x400040, [], [fA 4 4 .w1c 0, fA 3 3 .w1c 0, fA 2 2 .w1c 0, fA 1 1 .w1c 0, fA 0 0 .w1c 0]⟩,
  -- MEMC_INT_EN
  ⟨0x400044, [], [fA 4 0 .rw 7]⟩,
  -- MEMC_TEMP
  ⟨0x400048, [], [fA 7 0 .ro 0]⟩,
  -- MEMC_PC_p_STATE
  ⟨0x400100, [(32, 4)], [fA 3 3 .ro 0, fA 2 2 .ro 0, fA 1 0 .ro 0]⟩,
  -- MEMC_PC_p_CE
  ⟨0x400200, [(32, 4)], [fA 31 0 .rc 0]⟩]

/-- The rows of block MEMC. -/
def rowsMEMC : List RegRow := rowsMEMC0

/-- SEQ register map, part 0 (chapter 05). -/
def rowsSEQ0 : List RegRow := [
  -- SEQ_UCODE_VER
  ⟨0x500000, [], [fA 31 0 .ro 0]⟩,
  -- SEQ_UCODE_CRC
  ⟨0x500004, [], [fA 31 0 .ro 0]⟩,
  -- SEQ_UCS_ADDR
  ⟨0x500008, [], [fA 12 0 .rwl 0]⟩,
  -- SEQ_UCS_DATAk
  ⟨0x50000c, [(4, 4)], [fA 31 0 .rwl 0]⟩,
  -- SEQ_UCS_STATUS
  ⟨0x50001c, [], [fA 0 0 .ro 0]⟩,
  -- SEQ_UCS_PARITY
  ⟨0x500020, [], [fA 31 0 .rc 0]⟩,
  -- SEQ_SLICE
  ⟨0x500024, [], [⟨9, 0, .rw, 0x40, [(16, 1023)]⟩]⟩,
  -- SEQ_SIG_BASE_LO
  ⟨0x500028, [], [fA 31 0 .rw 0]⟩,
  -- SEQ_SIG_BASE_HI
  ⟨0x50002c, [], [fA 7 0 .rw 0xd]⟩,
  -- SEQ_ENG_ACTIVE
  ⟨0x500030, [], [fA 15 0 .ro 0]⟩,
  -- SEQ_HALTED_LO
  ⟨0x500034, [], [fA 31 0 .ro 0]⟩,
  -- SEQ_HALTED_HI
  ⟨0x500038, [], [fA 31 0 .ro 0]⟩,
  -- SEQ_EVENT
  ⟨0x50003c, [], [fA 0 0 .w1c 0]⟩,
  -- SEQ_INT_EN
  ⟨0x500040, [], [fA 0 0 .rw 1]⟩,
  -- SEQ_CTX_n_ENTRY_DRW
  ⟨0x510000, [(64, 0x400)], [fA 19 0 .rw 0]⟩,
  -- SEQ_CTX_n_ENTRY_GOFF
  ⟨0x510004, [(64, 0x400)], [fA 23 0 .rw 0]⟩,
  -- SEQ_CTX_n_CFG
  ⟨0x510008, [(64, 0x400)], [⟨21, 16, .rw, 0x10, [(1, 32)]⟩, fA 10 8 .rw 0, fA 7 0 .rw 0]⟩,
  -- SEQ_CTX_n_CMD
  ⟨0x51000c, [(64, 0x400)], [fA 0 0 .wo 0]⟩,
  -- SEQ_CTX_n_STATE
  ⟨0x510010, [(64, 0x400)], [fA 31 24 .ro 0, fA 23 22 .ro 0, fA 20 16 .ro 0, fA 15 12 .ro 0, fA 2 0 .ro 0]⟩,
  -- SEQ_CTX_n_PC_DRW
  ⟨0x510014, [(64, 0x400)], [fA 19 0 .ro 0]⟩,
  -- SEQ_CTX_n_PC_IDX
  ⟨0x510018, [(64, 0x400)], [fA 15 0 .ro 0]⟩,
  -- SEQ_CTX_n_CURSOR
  ⟨0x51001c, [(64, 0x400)], [fA 31 0 .ro 0]⟩,
  -- SEQ_CTX_n_PLAY_DRW
  ⟨0x510020, [(64, 0x400)], [fA 19 0 .ro 0]⟩,
  -- SEQ_CTX_n_PLAY_GRAN
  ⟨0x510024, [(64, 0x400)], [fA 31 0 .ro 0]⟩]

/-- SEQ register map, part 1 (chapter 05). -/
def rowsSEQ1 : List RegRow := [
  -- SEQ_CTX_n_HALT_DRW
  ⟨0x510028, [(64, 0x400)], [fA 19 0 .ro 0]⟩,
  -- SEQ_CTX_n_HALT_IDX
  ⟨0x51002c, [(64, 0x400)], [fA 15 0 .ro 0]⟩,
  -- SEQ_CTX_n_FLAGS
  ⟨0x510030, [(64, 0x400)], [fA 8 0 .ro 0]⟩,
  -- SEQ_CTX_n_CORE_SET
  ⟨0x510034, [(64, 0x400)], [fA 3 0 .w1s 0]⟩,
  -- SEQ_CTX_n_CORE_CLR
  ⟨0x510038, [(64, 0x400)], [fA 3 0 .w1c 0]⟩,
  -- SEQ_CTX_n_SETS
  ⟨0x51003c, [(64, 0x400)], [fA 10 8 .ro 0, fA 7 0 .ro 0]⟩,
  -- SEQ_CTX_n_SHADOW
  ⟨0x510040, [(64, 0x400)], [fA 31 16 .ro 0, fA 15 0 .ro 0]⟩,
  -- SEQ_CTX_n_SPAN_LAT
  ⟨0x510044, [(64, 0x400)], [fA 15 0 .ro 0xa0]⟩,
  -- SEQ_CTX_n_SHADOW_PAD
  ⟨0x510048, [(64, 0x400)], [fA 31 0 .rc 0]⟩,
  -- SEQ_CTX_n_VEC_SHORT
  ⟨0x51004c, [(64, 0x400)], [fA 31 0 .rc 0]⟩,
  -- SEQ_CTX_n_ENDL_EMPTY
  ⟨0x510050, [(64, 0x400)], [fA 31 0 .rc 0]⟩,
  -- SEQ_CTX_n_SIG_REFUSED
  ⟨0x510054, [(64, 0x400)], [fA 31 0 .rc 0]⟩,
  -- SEQ_CTX_n_TAKEN
  ⟨0x510058, [(64, 0x400)], [fA 31 0 .rc 0]⟩,
  -- SEQ_CTX_n_EVENT
  ⟨0x51005c, [(64, 0x400)], [fA 6 6 .w1c 0, fA 5 5 .w1c 0, fA 4 4 .w1c 0, fA 3 3 .w1c 0, fA 2 2 .w1c 0, fA 1 1 .w1c 0, fA 0 0 .w1c 0]⟩,
  -- SEQ_CTX_n_INT_EN
  ⟨0x510060, [(64, 0x400)], [fA 6 0 .rw 0x11]⟩,
  -- SEQ_CTX_n_ART_STALL
  ⟨0x510064, [(64, 0x400)], [fA 31 0 .rc 0]⟩,
  -- SEQ_CTX_n_LOOP_k
  ⟨0x510080, [(64, 0x400), (8, 4)], [fA 31 0 .ro 0]⟩,
  -- SEQ_CTX_n_STK_j_DRW
  ⟨0x510100, [(64, 0x400), (16, 0x10)], [fA 19 0 .ro 0]⟩,
  -- SEQ_CTX_n_STK_j_IDX
  ⟨0x510104, [(64, 0x400), (16, 0x10)], [fA 15 0 .ro 0]⟩,
  -- SEQ_CTX_n_STK_j_CUR
  ⟨0x510108, [(64, 0x400), (16, 0x10)], [fA 31 0 .ro 0]⟩]

/-- The rows of block SEQ. -/
def rowsSEQ : List RegRow := rowsSEQ0 ++ rowsSEQ1

/-- TSET register map, part 0 (chapter 06). -/
def rowsTSET0 : List RegRow := [
  -- TSET_CMD
  ⟨0x600000, [], [fA 31 24 .wo 0, ⟨23, 20, .wo, 0, [(0, 1)]⟩, fA 7 0 .wo 0]⟩,
  -- TSET_CMD_STATUS
  ⟨0x600004, [], [fA 31 31 .ro 0, fA 23 16 .ro 0, fA 15 12 .ro 0, fA 7 0 .ro 0]⟩,
  -- TSET_CMD_REFUSED
  ⟨0x600008, [], [fA 31 0 .rc 0]⟩,
  -- TSET_ERR_LOC
  ⟨0x60000c, [], [fA 31 31 .ro 0, fA 30 25 .ro 0, fA 24 22 .ro 0, fA 8 0 .ro 0]⟩,
  -- TSET_EVENT
  ⟨0x600010, [], [fA 4 4 .w1c 0, fA 3 3 .w1c 0, fA 2 2 .w1c 0, fA 1 1 .w1c 0, fA 0 0 .w1c 0]⟩,
  -- TSET_INT_EN
  ⟨0x600014, [], [fA 4 0 .rw 3]⟩,
  -- TSET_DIRTY_USE_CNT
  ⟨0x600018, [], [fA 31 0 .rc 0]⟩,
  -- TSET_WP_DROP
  ⟨0x60001c, [], [fA 31 0 .rc 0]⟩,
  -- TSET_DIRTY_MAP_w
  ⟨0x600100, [(8, 4)], [fA 31 0 .ro 0]⟩,
  -- TSET_GEN_s
  ⟨0x600200, [(256, 4)], [fA 15 0 .ro 0]⟩,
  -- TSET_SITE_n_COLL_LIMIT
  ⟨0x601000, [(64, 0x20)], [fA 31 0 .rw 0]⟩,
  -- TSET_SITE_n_COLL_CNT
  ⟨0x601004, [(64, 0x20)], [fA 31 0 .ro 0]⟩,
  -- TSET_SITE_n_STATUS
  ⟨0x601008, [(64, 0x20)], [fA 1 1 .ro 0, fA 0 0 .ro 0]⟩,
  -- TSET_SITE_n_CACHE_MISS
  ⟨0x60100c, [(64, 0x20)], [fA 31 0 .rc 0]⟩,
  -- TSET_SITE_n_LOCK_STALL
  ⟨0x601010, [(64, 0x20)], [fA 31 0 .rc 0]⟩,
  -- TSET_PER_n_s_LO
  ⟨0x620000, [(64, 0x800), (256, 8)], [fA 31 0 .rw 0x4e200]⟩,
  -- TSET_PER_n_s_HI
  ⟨0x620004, [(64, 0x800), (256, 8)], [fA 7 0 .rw 0]⟩,
  -- TSET_ENT_c_s_W0
  ⟨0xa00000, [(512, 0x2000), (256, 0x20)], [fA 16 16 .rw 0, fA 13 8 .rw 0, ⟨7, 0, .rw, 0, [(0, 6)]⟩]⟩,
  -- TSET_ENT_c_s_Wi
  ⟨0xa00004, [(512, 0x2000), (256, 0x20), (6, 4)], [fA 31 0 .rw 0]⟩,
  -- TSET_ENT_c_s_W7
  ⟨0xa0001c, [(512, 0x2000), (256, 0x20)], []⟩]

/-- The rows of block TSET. -/
def rowsTSET : List RegRow := rowsTSET0

/-- CLU register map, part 0 (chapter 07). -/
def rowsCLU0 : List RegRow := [
  -- CLU_k_EC_CFG
  ⟨0x1030000, [(32, 0x40000)], [fA 15 15 .ro 0, fA 13 8 .ro 0, fA 5 0 .ro 0]⟩,
  -- CLU_k_EC_LOADS
  ⟨0x1030004, [(32, 0x40000)], [fA 31 0 .rc 0]⟩,
  -- CLU_k_EC_EVICT
  ⟨0x1030008, [(32, 0x40000)], [fA 31 0 .rc 0]⟩,
  -- CLU_k_EC_SLOT_i
  ⟨0x1030100, [(32, 0x40000), (32, 4)], [fA 31 31 .ro 0, fA 30 30 .ro 0, fA 29 29 .ro 0, fA 28 28 .ro 0, fA 27 22 .ro 0, fA 15 8 .ro 0, fA 7 0 .ro 0]⟩,
  -- CLU_k_EC_COLL_j
  ⟨0x1030200, [(32, 0x40000), (16, 4)], [fA 31 0 .rc 0]⟩,
  -- CLU_k_BANK_CFG
  ⟨0x1000000, [(32, 0x40000)], [⟨11, 0, .rw, 0, [(0, 0), (600, 1800)]⟩]⟩,
  -- CLU_k_BANK_STATUS
  ⟨0x1000004, [(32, 0x40000)], [fA 27 16 .ro 0, fA 1 1 .ro 0, fA 0 0 .ro 0]⟩,
  -- CLU_k_EVENT
  ⟨0x1000008, [(32, 0x40000)], [fA 5 5 .w1c 0, fA 4 4 .w1c 0, fA 3 3 .w1c 0, fA 2 2 .w1c 0, fA 1 1 .w1c 0, fA 0 0 .w1c 0]⟩,
  -- CLU_k_INT_EN
  ⟨0x100000c, [(32, 0x40000)], [fA 5 0 .rw 0x15]⟩,
  -- CLU_k_UNSETTLED_CNT
  ⟨0x1000010, [(32, 0x40000)], [fA 31 0 .rc 0]⟩,
  -- CLU_k_CLAMP_CNT
  ⟨0x1000014, [(32, 0x40000)], [fA 31 0 .rc 0]⟩,
  -- CLU_k_WR_DROP
  ⟨0x1000018, [(32, 0x40000)], [fA 31 0 .rc 0]⟩,
  -- CLU_k_BANK_FAULT_CNT
  ⟨0x100001c, [(32, 0x40000)], [fA 31 0 .rc 0]⟩,
  -- CLU_k_CH_j_CFG
  ⟨0x1001000, [(32, 0x40000), (16, 0x400)], [fA 8 8 .rw 0, ⟨6, 0, .rw, 0x20, [(0, 64)]⟩]⟩,
  -- CLU_k_CH_j_EO_STROBE
  ⟨0x1001004, [(32, 0x40000), (16, 0x400)], [⟨15, 0, .rw, 0x640, [(480, 16000)]⟩]⟩,
  -- CLU_k_CH_j_EO_RESULT
  ⟨0x1001008, [(32, 0x40000), (16, 0x400)], [⟨16, 0, .rw, 0, [(0, 80000)]⟩]⟩,
  -- CLU_k_CH_j_STATUS
  ⟨0x100100c, [(32, 0x40000), (16, 0x400)], [fA 6 6 .ro 0, fA 5 5 .w1c 0, fA 4 4 .ro 0, fA 3 3 .ro 0, fA 2 2 .ro 0, fA 1 1 .ro 0, fA 0 0 .ro 0]⟩,
  -- CLU_k_CH_j_EO_BADSYM
  ⟨0x1001010, [(32, 0x40000), (16, 0x400)], [fA 31 0 .rc 0]⟩,
  -- CLU_k_LS_j_s_VIH
  ⟨0x1010000, [(32, 0x40000), (16, 0x100), (8, 0x20)], [⟨15, 0, .rw, 0, [(0, 65000)]⟩]⟩,
  -- CLU_k_LS_j_s_VIL
  ⟨0x1010004, [(32, 0x40000), (16, 0x100), (8, 0x20)], [⟨15, 0, .rw, 0, [(0, 65000)]⟩]⟩,
  -- CLU_k_LS_j_s_VOH
  ⟨0x1010008, [(32, 0x40000), (16, 0x100), (8, 0x20)], [⟨15, 0, .rw, 0, [(0, 65000)]⟩]⟩,
  -- CLU_k_LS_j_s_VOL
  ⟨0x101000c, [(32, 0x40000), (16, 0x100), (8, 0x20)], [⟨15, 0, .rw, 0, [(0, 65000)]⟩]⟩,
  -- CLU_k_LS_j_s_VTT
  ⟨0x1010010, [(32, 0x40000), (16, 0x100), (8, 0x20)], [⟨15, 0, .rw, 0, [(0, 65000)]⟩]⟩,
  -- CLU_k_MC_CTRL
  ⟨0x1020000, [(32, 0x40000)], [fA 15 0 .rw 0]⟩]

/-- CLU register map, part 1 (chapter 07). -/
def rowsCLU1 : List RegRow := [
  -- CLU_k_MC_TIMING
  ⟨0x1020004, [(32, 0x40000)], [⟨11, 8, .rw, 0, [(0, 8)]⟩, ⟨7, 0, .rw, 2, [(1, 255)]⟩]⟩,
  -- CLU_k_MC_STATUS
  ⟨0x1020008, [(32, 0x40000)], [fA 31 16 .ro 0, fA 7 7 .ro 0, fA 6 6 .ro 0, fA 3 0 .ro 0]⟩,
  -- CLU_k_PP_j_CTRL
  ⟨0x1020100, [(32, 0x40000), (16, 0x10)], [fA 3 2 .rw 3, ⟨1, 0, .rw, 0, [(0, 2)]⟩]⟩,
  -- CLU_k_PP_j_FORCE
  ⟨0x1020104, [(32, 0x40000), (16, 0x10)], [fA 17 0 .rw 0]⟩,
  -- CLU_k_PP_j_VCLAMP
  ⟨0x1020108, [(32, 0x40000), (16, 0x10)], [⟨31, 16, .rw, 0xfde8, [(0, 65000)]⟩, ⟨15, 0, .rw, 0, [(0, 65000)]⟩]⟩,
  -- CLU_k_PP_j_RESULT
  ⟨0x102010c, [(32, 0x40000), (16, 0x10)], [fA 31 24 .ro 0, fA 23 23 .ro 0, fA 17 0 .ro 0]⟩,
  -- CLU_k_TDC_u_CFG
  ⟨0x1028000, [(32, 0x40000), (4, 0x1000)], [⟨31, 30, .rw, 0, [(0, 1)]⟩, fA 29 29 .rw 0, ⟨28, 24, .rw, 0x10, [(1, 16)]⟩, fA 23 16 .rw 0, fA 15 15 .rw 0, ⟨14, 13, .rw, 0, [(0, 2)]⟩, ⟨12, 8, .rw, 0, [(0, 19)]⟩, fA 7 7 .rw 0, ⟨6, 5, .rw, 0, [(0, 2)]⟩, ⟨4, 0, .rw, 0, [(0, 19)]⟩]⟩,
  -- CLU_k_TDC_u_OPEN
  ⟨0x1028004, [(32, 0x40000), (4, 0x1000)], [⟨31, 0, .rw, 0, [(0, 2100000000)]⟩]⟩,
  -- CLU_k_TDC_u_CLOSE
  ⟨0x1028008, [(32, 0x40000), (4, 0x1000)], [⟨31, 0, .rw, 0xf4240, [(0, 2100000000)]⟩]⟩,
  -- CLU_k_TDC_u_CMD
  ⟨0x102800c, [(32, 0x40000), (4, 0x1000)], [fA 1 1 .wo 0, fA 0 0 .wo 0]⟩,
  -- CLU_k_TDC_u_STATUS
  ⟨0x1028010, [(32, 0x40000), (4, 0x1000)], [fA 20 20 .ro 0, fA 19 19 .ro 0, fA 18 18 .ro 0, fA 17 17 .ro 0, fA 16 12 .ro 0, fA 9 8 .ro 0, fA 7 4 .ro 0, fA 2 0 .ro 0]⟩,
  -- CLU_k_TDC_u_EARLY
  ⟨0x1028014, [(32, 0x40000), (4, 0x1000)], [fA 31 0 .rc 0]⟩,
  -- CLU_k_TDC_u_EXTRA
  ⟨0x1028018, [(32, 0x40000), (4, 0x1000)], [fA 31 0 .rc 0]⟩,
  -- CLU_k_TDC_u_MISSED
  ⟨0x102801c, [(32, 0x40000), (4, 0x1000)], [fA 31 0 .rc 0]⟩,
  -- CLU_k_TDC_u_START_TIME_LO
  ⟨0x1028020, [(32, 0x40000), (4, 0x1000)], [fA 31 0 .ro 0]⟩,
  -- CLU_k_TDC_u_START_TIME_HI
  ⟨0x1028024, [(32, 0x40000), (4, 0x1000)], [fA 31 0 .ro 0]⟩,
  -- CLU_k_TDC_u_CAL
  ⟨0x1028030, [(32, 0x40000), (4, 0x1000)], [fA 17 17 .ro 0, fA 16 16 .ro 0, fA 8 0 .ro 0]⟩,
  -- CLU_k_TDC_u_HIST_BASE_LO
  ⟨0x1028040, [(32, 0x40000), (4, 0x1000)], [fA 31 0 .rw 0]⟩,
  -- CLU_k_TDC_u_HIST_BASE_HI
  ⟨0x1028044, [(32, 0x40000), (4, 0x1000)], [fA 11 0 .rw 0]⟩,
  -- CLU_k_TDC_u_HIST_CFG
  ⟨0x1028048, [(32, 0x40000), (4, 0x1000)], [fA 3 0 .rw 0]⟩,
  -- CLU_k_TDC_u_HIST_N
  ⟨0x102804c, [(32, 0x40000), (4, 0x1000)], [fA 31 0 .rw 0]⟩,
  -- CLU_k_TDC_u_HIST_CNT
  ⟨0x1028050, [(32, 0x40000), (4, 0x1000)], [fA 31 0 .ro 0]⟩,
  -- CLU_k_TDC_u_HIST_UNDER
  ⟨0x1028054, [(32, 0x40000), (4, 0x1000)], [fA 31 0 .ro 0]⟩,
  -- CLU_k_TDC_u_HIST_OVER
  ⟨0x1028058, [(32, 0x40000), (4, 0x1000)], [fA 31 0 .ro 0]⟩]

/-- CLU register map, part 2 (chapter 07). -/
def rowsCLU2 : List RegRow := [
  -- CLU_k_TDC_u_HIST_NOSTOP
  ⟨0x102805c, [(32, 0x40000), (4, 0x1000)], [fA 31 0 .ro 0]⟩,
  -- CLU_k_TDC_u_STOP_i_LO
  ⟨0x1028100, [(32, 0x40000), (4, 0x1000), (16, 8)], [fA 31 0 .ro 0]⟩,
  -- CLU_k_TDC_u_STOP_i_HI
  ⟨0x1028104, [(32, 0x40000), (4, 0x1000), (16, 8)], [fA 16 16 .ro 0, fA 11 0 .ro 0]⟩,
  -- CLU_k_TDC_u_HBIN_b
  ⟨0x1028400, [(32, 0x40000), (4, 0x1000), (256, 4)], [fA 31 0 .ro 0]⟩,
  -- CLU_k_TDC_u_BIN_i
  ⟨0x1028800, [(32, 0x40000), (4, 0x1000), (384, 4)], [fA 15 0 .ro 0x800]⟩,
  -- CLU_k_TDC_EVENT
  ⟨0x102c000, [(32, 0x40000)], [fA 8 8 .w1c 0, fA 7 4 .w1c 0, fA 3 0 .w1c 0]⟩,
  -- CLU_k_TDC_INT_EN
  ⟨0x102c004, [(32, 0x40000)], [fA 8 0 .rw 0x100]⟩,
  -- CLU_k_TDC_CAL_CNT
  ⟨0x102c008, [(32, 0x40000)], [fA 31 0 .rc 0]⟩]

/-- The rows of block CLU. -/
def rowsCLU : List RegRow := rowsCLU0 ++ rowsCLU1 ++ rowsCLU2

/-- FAIL register map, part 0 (chapter 08). -/
def rowsFAIL0 : List RegRow := [
  -- FAIL_EVENT
  ⟨0x2000000, [], [fA 3 3 .w1c 0, fA 2 2 .w1c 0, fA 1 1 .w1c 0, fA 0 0 .w1c 0]⟩,
  -- FAIL_INT_EN
  ⟨0x2000004, [], [fA 3 0 .rw 5]⟩,
  -- FAIL_DONE_LO
  ⟨0x2000008, [], [fA 31 0 .w1c 0]⟩,
  -- FAIL_DONE_HI
  ⟨0x200000c, [], [fA 31 0 .w1c 0]⟩,
  -- FAIL_SITE_n_RESULT
  ⟨0x2001000, [(64, 0x40)], [fA 31 0 .ro 0]⟩,
  -- FAIL_SITE_n_CFG
  ⟨0x2001004, [(64, 0x40)], [⟨17, 16, .rw, 0, [(0, 1)]⟩, ⟨12, 0, .rw, 0x100, [(0, 4096)]⟩]⟩,
  -- FAIL_SITE_n_REC_CNT
  ⟨0x2001008, [(64, 0x40)], [fA 12 0 .ro 0]⟩,
  -- FAIL_SITE_n_REC_LOST
  ⟨0x200100c, [(64, 0x40)], [fA 31 0 .rc 0]⟩,
  -- FAIL_SITE_n_FVEC_CNT
  ⟨0x2001010, [(64, 0x40)], [fA 31 0 .ro 0]⟩,
  -- FAIL_SITE_n_FIRST_VEC_LO
  ⟨0x2001014, [(64, 0x40)], [fA 31 0 .ro 0xffffffff]⟩,
  -- FAIL_SITE_n_FIRST_VEC_HI
  ⟨0x2001018, [(64, 0x40)], [fA 31 0 .ro 0xffffffff]⟩,
  -- FAIL_SITE_n_MASKED
  ⟨0x200101c, [(64, 0x40)], [fA 31 0 .rc 0]⟩,
  -- FAIL_SITE_n_STATUS
  ⟨0x2001020, [(64, 0x40)], [fA 0 0 .ro 0]⟩,
  -- FAIL_CH_c_CNT
  ⟨0x2002000, [(512, 4)], [fA 31 0 .rc 0]⟩]

/-- The rows of block FAIL. -/
def rowsFAIL : List RegRow := rowsFAIL0

/-- CAPT register map, part 0 (chapter 08). -/
def rowsCAPT0 : List RegRow := [
  -- CAPT_EVENT
  ⟨0x2100000, [], [fA 1 1 .w1c 0, fA 0 0 .w1c 0]⟩,
  -- CAPT_INT_EN
  ⟨0x2100004, [], [fA 1 0 .rw 1]⟩,
  -- CAPT_SITE_n_CFG
  ⟨0x2101000, [(64, 0x100)], [fA 31 31 .rw 1, fA 30 30 .rw 0, ⟨1, 0, .rw, 0, [(0, 2)]⟩]⟩,
  -- CAPT_SITE_n_BUF
  ⟨0x2101004, [(64, 0x100)], [⟨28, 16, .rw, 0, [(0, 4096)]⟩, fA 11 0 .rw 0]⟩,
  -- CAPT_SITE_n_CHMASK_LO
  ⟨0x2101008, [(64, 0x100)], [fA 31 0 .rw 0]⟩,
  -- CAPT_SITE_n_CHMASK_HI
  ⟨0x210100c, [(64, 0x100)], [fA 31 0 .rw 0]⟩,
  -- CAPT_SITE_n_SPILL_BASE_LO
  ⟨0x2101010, [(64, 0x100)], [fA 31 0 .rw 0]⟩,
  -- CAPT_SITE_n_SPILL_BASE_HI
  ⟨0x2101014, [(64, 0x100)], [fA 7 0 .rw 0]⟩,
  -- CAPT_SITE_n_SPILL_SIZE
  ⟨0x2101018, [(64, 0x100)], [fA 19 0 .rw 0]⟩,
  -- CAPT_SITE_n_STATUS
  ⟨0x210101c, [(64, 0x100)], [fA 23 16 .ro 0, fA 15 12 .ro 0, fA 10 8 .ro 0, fA 4 4 .ro 0, fA 3 3 .ro 0, fA 2 2 .ro 0, fA 1 1 .ro 0, fA 0 0 .ro 0]⟩,
  -- CAPT_SITE_n_REC_CNT
  ⟨0x2101020, [(64, 0x100)], [fA 31 0 .ro 0]⟩,
  -- CAPT_SITE_n_WR_OFF
  ⟨0x2101024, [(64, 0x100)], [fA 23 0 .ro 0]⟩,
  -- CAPT_SITE_n_SPILL_OFF
  ⟨0x2101028, [(64, 0x100)], [fA 31 0 .ro 0]⟩,
  -- CAPT_SITE_n_LOST
  ⟨0x210102c, [(64, 0x100)], [fA 31 0 .rc 0]⟩,
  -- CAPT_SITE_n_CNT_k
  ⟨0x2101030, [(64, 0x100), (4, 4)], [fA 31 0 .ro 0]⟩,
  -- CAPT_SITE_n_CNT_k_CFG
  ⟨0x2101040, [(64, 0x100), (4, 4)], [⟨4, 0, .rw, 0, [(0, 16)]⟩]⟩,
  -- CAPT_SITE_n_CNT_k_LIMIT
  ⟨0x2101050, [(64, 0x100), (4, 4)], [fA 31 0 .rw 0]⟩,
  -- CAPT_SITE_n_TMR_k_LIMIT
  ⟨0x2101060, [(64, 0x100), (4, 4)], [fA 31 0 .rw 0]⟩,
  -- CAPT_SITE_n_TRIG_ST_s_TRANS
  ⟨0x2101080, [(64, 0x100), (8, 8)], [fA 15 13 .rw 0, ⟨12, 8, .rw, 0, [(0, 16)]⟩, fA 7 5 .rw 0, ⟨4, 0, .rw, 0, [(0, 16)]⟩]⟩,
  -- CAPT_SITE_n_TRIG_ST_s_ACT
  ⟨0x2101084, [(64, 0x100), (8, 8)], [fA 31 16 .rw 0, fA 15 0 .rw 0]⟩,
  -- CAPT_SITE_n_TRIG_ST_s_HOLD
  ⟨0x21010c0, [(64, 0x100), (8, 4)], [⟨31, 30, .rw, 0, [(0, 2)]⟩, ⟨28, 24, .rw, 0, [(0, 16)]⟩, fA 23 0 .rw 0]⟩]

/-- The rows of block CAPT. -/
def rowsCAPT : List RegRow := rowsCAPT0

/-- ULT register map, part 0 (chapter 10). -/
def rowsULT0 : List RegRow := [
  -- ULT_CFG
  ⟨0x3000000, [], [fA 31 20 .rwl 0x1f4, ⟨17, 16, .rwl, 0, [(0, 1)]⟩, fA 15 0 .rwl 0]⟩,
  -- ULT_STATUS
  ⟨0x3000004, [], [fA 31 31 .ro 0, fA 30 30 .ro 0, fA 29 29 .ro 0, fA 23 20 .ro 0, fA 18 16 .ro 7, fA 15 0 .ro 0xffff]⟩,
  -- ULT_ENUM_CMD
  ⟨0x3000008, [], [fA 0 0 .wo 0]⟩,
  -- ULT_ROUTE_EN
  ⟨0x300000c, [], [fA 3 0 .rwl 0]⟩,
  -- ULT_ROUTE_k
  ⟨0x3000010, [(4, 4)], [fA 31 16 .rwl 0, fA 15 0 .rwl 0]⟩,
  -- ULT_DT_EXPECT
  ⟨0x3000020, [], [fA 22 0 .rw 0]⟩,
  -- ULT_DT_ARRIVED
  ⟨0x3000024, [], [fA 22 0 .ro 0]⟩,
  -- ULT_DT_LEAD
  ⟨0x3000028, [], [⟨11, 0, .rw, 0x28, [(1, 4095)]⟩]⟩,
  -- ULT_MGMT_TMO
  ⟨0x300002c, [], [⟨15, 0, .rw, 0x64, [(1, 65535)]⟩]⟩,
  -- ULT_RMT_ID
  ⟨0x3000030, [], [fA 15 0 .rw 0]⟩,
  -- ULT_RMT_ADDR
  ⟨0x3000034, [], [fA 26 0 .rw 0]⟩,
  -- ULT_RMT_DATA
  ⟨0x3000038, [], [fA 31 0 .rw 0]⟩,
  -- ULT_RMT_CMD
  ⟨0x300003c, [], [⟨1, 0, .wo, 0, [(1, 2)]⟩]⟩,
  -- ULT_RMT_STATUS
  ⟨0x3000040, [], [fA 31 31 .ro 0, fA 3 0 .ro 0]⟩,
  -- ULT_UNROUTABLE
  ⟨0x3000044, [], [fA 31 0 .rc 0]⟩,
  -- ULT_BULK_DROP
  ⟨0x3000048, [], [fA 31 0 .rc 0]⟩,
  -- ULT_EVENT
  ⟨0x300004c, [], [fA 2 2 .w1c 0, fA 1 1 .w1c 0, fA 0 0 .w1c 0]⟩,
  -- ULT_INT_EN
  ⟨0x3000050, [], [fA 2 0 .rw 5]⟩,
  -- ULT_Pk_CTRL
  ⟨0x3001000, [(4, 0x100)], [fA 31 31 .rw 1, fA 30 30 .rw 1, ⟨29, 28, .rw, 0, [(0, 1)]⟩, ⟨26, 24, .rw, 4, [(0, 4)]⟩, ⟨22, 20, .rw, 0, [(0, 4)]⟩]⟩,
  -- ULT_Pk_CMD
  ⟨0x3001004, [(4, 0x100)], [⟨5, 4, .wo, 0, [(0, 1)]⟩, fA 1 1 .wo 0, fA 0 0 .wo 0]⟩,
  -- ULT_Pk_STATUS
  ⟨0x3001008, [(4, 0x100)], [fA 31 31 .ro 0, fA 30 30 .ro 0, fA 29 29 .ro 0, fA 28 28 .ro 0, fA 26 24 .ro 0, fA 21 20 .ro 0, fA 15 0 .ro 0]⟩,
  -- ULT_Pk_LAT
  ⟨0x300100c, [(4, 0x100)], [fA 19 0 .ro 0]⟩,
  -- ULT_Pk_CRC_ERR
  ⟨0x3001010, [(4, 0x100)], [fA 31 0 .rc 0]⟩,
  -- ULT_Pk_BAD_MSG
  ⟨0x3001014, [(4, 0x100)], [fA 31 0 .rc 0]⟩]

/-- ULT register map, part 1 (chapter 10). -/
def rowsULT1 : List RegRow := [
  -- ULT_Pk_LINK_DOWN_CNT
  ⟨0x3001018, [(4, 0x100)], [fA 31 0 .rc 0]⟩,
  -- ULT_Pk_LINK_DROP
  ⟨0x300101c, [(4, 0x100)], [fA 31 0 .rc 0]⟩,
  -- ULT_Pk_BER_FALLBACK
  ⟨0x3001020, [(4, 0x100)], [fA 31 0 .rc 0]⟩,
  -- ULT_Pk_RAW_TX_LO
  ⟨0x3001024, [(4, 0x100)], [fA 31 0 .rw 0]⟩,
  -- ULT_Pk_RAW_TX_HI
  ⟨0x3001028, [(4, 0x100)], [fA 31 0 .rw 0]⟩,
  -- ULT_Pk_Lm_STATE
  ⟨0x3001080, [(4, 0x100), (2, 0x20)], [fA 3 0 .ro 0]⟩,
  -- ULT_Pk_Lm_FFE
  ⟨0x3001084, [(4, 0x100), (2, 0x20)], [fA 12 8 .rw 4, fA 3 0 .rw 0]⟩,
  -- ULT_Pk_Lm_RAW_RX_LO
  ⟨0x3001088, [(4, 0x100), (2, 0x20)], [fA 31 0 .ro 0]⟩,
  -- ULT_Pk_Lm_RAW_RX_HI
  ⟨0x300108c, [(4, 0x100), (2, 0x20)], [fA 31 0 .ro 0]⟩,
  -- ULT_Pk_Lm_RAW_SYNC
  ⟨0x3001090, [(4, 0x100), (2, 0x20)], [fA 1 0 .ro 0]⟩]

/-- The rows of block ULT. -/
def rowsULT : List RegRow := rowsULT0 ++ rowsULT1

/-- XL register map, part 0 (chapter 11). -/
def rowsXL0 : List RegRow := [
  -- XL_n_CTRL
  ⟨0x3100000, [(128, 0x1000)], [fA 31 31 .rw 0, fA 30 30 .rw 0, fA 29 29 .rw 1, ⟨25, 24, .rw, 0, [(0, 2)]⟩, ⟨11, 0, .rw, 0x7d, [(125, 3200)]⟩]⟩,
  -- XL_n_BIND
  ⟨0x3100004, [(128, 0x1000)], [fA 31 31 .rw 0, fA 29 24 .rw 0, fA 4 0 .rw 0]⟩,
  -- XL_n_SRC
  ⟨0x3100008, [(128, 0x1000)], [fA 15 15 .rw 0, ⟨11, 8, .rw, 0, [(0, 7)]⟩, fA 7 7 .rw 0, ⟨3, 0, .rw, 0, [(0, 7)]⟩]⟩,
  -- XL_n_RX_DLY
  ⟨0x310000c, [(128, 0x1000)], [fA 11 0 .rw 0]⟩,
  -- XL_n_FIXED_LO
  ⟨0x3100010, [(128, 0x1000)], [fA 31 0 .rw 0xaaaaaaaa]⟩,
  -- XL_n_FIXED_HI
  ⟨0x3100014, [(128, 0x1000)], [fA 31 0 .rw 0xaaaaaaaa]⟩,
  -- XL_n_DRW
  ⟨0x3100018, [(128, 0x1000)], [fA 31 31 .rw 1, fA 19 0 .rw 0]⟩,
  -- XL_n_CMD
  ⟨0x310001c, [(128, 0x1000)], [fA 7 7 .wo 0, fA 6 6 .wo 0, fA 5 5 .wo 0, fA 4 4 .wo 0, fA 3 3 .wo 0, fA 2 2 .wo 0, fA 1 1 .wo 0, fA 0 0 .wo 0]⟩,
  -- XL_n_STATUS
  ⟨0x3100020, [(128, 0x1000)], [fA 31 24 .ro 0, fA 23 18 .ro 0, fA 12 12 .ro 0, fA 11 11 .ro 0, fA 10 10 .ro 0, fA 9 9 .ro 0, fA 8 8 .ro 0, fA 2 0 .ro 0]⟩,
  -- XL_n_FFE
  ⟨0x3100024, [(128, 0x1000)], [fA 31 31 .rw 1, fA 30 28 .rw 1, fA 12 8 .rw 4, fA 3 0 .rw 0]⟩,
  -- XL_n_RXEQ
  ⟨0x3100028, [(128, 0x1000)], [fA 31 31 .rw 0, fA 3 0 .rw 6]⟩,
  -- XL_n_DFE
  ⟨0x310002c, [(128, 0x1000)], [fA 29 0 .rw 0]⟩,
  -- XL_n_BERR_LO
  ⟨0x3100030, [(128, 0x1000)], [fA 31 0 .ro 0]⟩,
  -- XL_n_BERR_HI
  ⟨0x3100034, [(128, 0x1000)], [fA 15 0 .ro 0]⟩,
  -- XL_n_BITS_LO
  ⟨0x3100038, [(128, 0x1000)], [fA 31 0 .ro 0]⟩,
  -- XL_n_BITS_HI
  ⟨0x310003c, [(128, 0x1000)], [fA 15 0 .ro 0]⟩,
  -- XL_n_ERR_THRESH
  ⟨0x3100040, [(128, 0x1000)], [fA 31 0 .rw 0]⟩,
  -- XL_n_LOCK_LOSS
  ⟨0x3100044, [(128, 0x1000)], [fA 31 0 .rc 0]⟩,
  -- XL_n_RX_WORD_LO
  ⟨0x3100048, [(128, 0x1000)], [fA 31 0 .ro 0]⟩,
  -- XL_n_RX_WORD_HI
  ⟨0x310004c, [(128, 0x1000)], [fA 31 0 .ro 0]⟩,
  -- XL_n_MARK_TAG
  ⟨0x3100050, [(128, 0x1000)], [fA 31 16 .ro 0, fA 15 0 .ro 0]⟩,
  -- XL_n_MARK_TX_LO
  ⟨0x3100054, [(128, 0x1000)], [fA 31 0 .ro 0]⟩,
  -- XL_n_MARK_TX_HI
  ⟨0x3100058, [(128, 0x1000)], [fA 15 0 .ro 0]⟩,
  -- XL_n_MARK_TIME_LO
  ⟨0x310005c, [(128, 0x1000)], [fA 31 0 .ro 0]⟩]

/-- XL register map, part 1 (chapter 11). -/
def rowsXL1 : List RegRow := [
  -- XL_n_MARK_TIME_HI
  ⟨0x3100060, [(128, 0x1000)], [fA 31 0 .ro 0]⟩,
  -- XL_n_EYE_CFG
  ⟨0x3100064, [(128, 0x1000)], [⟨4, 0, .rw, 0x14, [(10, 31)]⟩]⟩,
  -- XL_n_EYE_BASE_LO
  ⟨0x3100068, [(128, 0x1000)], [fA 31 0 .rw 0]⟩,
  -- XL_n_EYE_BASE_HI
  ⟨0x310006c, [(128, 0x1000)], [fA 7 0 .rw 0xd]⟩,
  -- XL_n_EYE_STATUS
  ⟨0x3100070, [(128, 0x1000)], [fA 31 31 .ro 0, fA 13 0 .ro 0]⟩,
  -- XL_n_EVENT
  ⟨0x3100074, [(128, 0x1000)], [fA 7 7 .w1c 0, fA 6 6 .w1c 0, fA 5 5 .w1c 0, fA 4 4 .w1c 0, fA 3 3 .w1c 0, fA 2 2 .w1c 0, fA 1 1 .w1c 0, fA 0 0 .w1c 0]⟩,
  -- XL_n_INT_EN
  ⟨0x3100078, [(128, 0x1000)], [fA 7 0 .rw 0xa3]⟩,
  -- XL_n_FLAG_EN
  ⟨0x310007c, [(128, 0x1000)], [fA 7 0 .rw 3]⟩,
  -- XL_n_CMD_REFUSED
  ⟨0x3100080, [(128, 0x1000)], [fA 31 0 .rc 0]⟩]

/-- The rows of block XL. -/
def rowsXL : List RegRow := rowsXL0 ++ rowsXL1

/-- TIME register map, part 0 (chapter 14). -/
def rowsTIME0 : List RegRow := [
  -- TIME_CTRL
  ⟨0x4000000, [], [fA 5 4 .rw 0, fA 0 0 .rw 0]⟩,
  -- TIME_STATUS
  ⟨0x4000004, [], [fA 4 4 .ro 0, fA 3 3 .ro 0, fA 2 2 .ro 0, fA 1 1 .ro 0, fA 0 0 .ro 0]⟩,
  -- TIME_CNT_LO
  ⟨0x4000008, [], [fA 31 0 .ro 0]⟩,
  -- TIME_CNT_HI
  ⟨0x400000c, [], [fA 31 0 .ro 0]⟩,
  -- TIME_EVENT
  ⟨0x4000010, [], [fA 3 3 .w1c 0, fA 2 2 .w1c 0, fA 1 1 .w1c 0, fA 0 0 .w1c 0]⟩,
  -- TIME_INT_EN
  ⟨0x4000014, [], [fA 3 0 .rw 6]⟩,
  -- TIME_SYNC_CFG
  ⟨0x4000018, [], [⟨19, 16, .rw, 8, [(2, 15)]⟩, ⟨15, 0, .rw, 0x3e8, [(1, 65535)]⟩]⟩,
  -- TIME_TB0_ERR
  ⟨0x400001c, [], [fA 31 0 .ro 0]⟩,
  -- TIME_STEP_CNT
  ⟨0x4000020, [], [fA 31 0 .rc 0]⟩,
  -- TIME_SYNC_MISS
  ⟨0x4000024, [], [fA 31 0 .rc 0]⟩,
  -- TIME_WR_DROP
  ⟨0x4000028, [], [fA 31 0 .rc 0]⟩,
  -- TIME_TB_i_OFFSET_LO
  ⟨0x4000100, [(4, 0x40)], [fA 31 0 .rw 0]⟩,
  -- TIME_TB_i_OFFSET_HI
  ⟨0x4000104, [(4, 0x40)], [fA 31 0 .rw 0]⟩,
  -- TIME_TB_i_RATE
  ⟨0x4000108, [(4, 0x40)], [fA 31 0 .rw 0]⟩,
  -- TIME_TB_i_ADJ_LO
  ⟨0x400010c, [(4, 0x40)], [fA 31 0 .wo 0]⟩,
  -- TIME_TB_i_ADJ_HI
  ⟨0x4000110, [(4, 0x40)], [fA 31 0 .wo 0]⟩,
  -- TIME_TB_i_NS
  ⟨0x4000114, [(4, 0x40)], [fA 31 0 .ro 0]⟩,
  -- TIME_TB_i_SECL
  ⟨0x4000118, [(4, 0x40)], [fA 31 0 .ro 0]⟩,
  -- TIME_TB_i_SECH
  ⟨0x400011c, [(4, 0x40)], [fA 15 0 .ro 0]⟩,
  -- TIME_PTP_CFG
  ⟨0x4000200, [], [fA 31 31 .rw 0, ⟨5, 4, .rw, 0, [(0, 1)]⟩, fA 2 2 .rw 0, fA 1 0 .rw 1]⟩,
  -- TIME_TSQ_STATUS
  ⟨0x4000204, [], [fA 31 31 .w1c 0, fA 4 0 .ro 0]⟩,
  -- TIME_TSQ_DROP
  ⟨0x4000208, [], [fA 31 0 .rc 0]⟩,
  -- TIME_TSQ_FIND
  ⟨0x400020c, [], [fA 31 31 .wo 0, fA 19 16 .wo 0, fA 15 0 .wo 0]⟩,
  -- TIME_TSQ_ENT
  ⟨0x4000210, [], [fA 31 31 .ro 0, fA 19 16 .ro 0, fA 15 0 .ro 0]⟩]

/-- TIME register map, part 1 (chapter 14). -/
def rowsTIME1 : List RegRow := [
  -- TIME_TSQ_NS
  ⟨0x4000214, [], [fA 31 0 .ro 0]⟩,
  -- TIME_TSQ_SECL
  ⟨0x4000218, [], [fA 31 0 .ro 0]⟩,
  -- TIME_TSQ_SECH
  ⟨0x400021c, [], [fA 15 0 .ro 0]⟩]

/-- The rows of block TIME. -/
def rowsTIME : List RegRow := rowsTIME0 ++ rowsTIME1

/-- SCHED register map, part 0 (chapter 12). -/
def rowsSCHED0 : List RegRow := [
  -- SCHED_CTRL
  ⟨0x4100000, [], [fA 0 0 .rw 1]⟩,
  -- SCHED_ALLOW
  ⟨0x4100004, [], [fA 3 0 .ro 7]⟩,
  -- SCHED_FLOW_MAX
  ⟨0x4100008, [], [⟨12, 0, .rw, 0x40, [(1, 4096)]⟩]⟩,
  -- SCHED_FILL
  ⟨0x410000c, [], [fA 12 0 .ro 0]⟩,
  -- SCHED_FILL_Pp
  ⟨0x4100010, [(4, 4)], [fA 12 0 .ro 0]⟩,
  -- SCHED_ENQ_RESULT
  ⟨0x4100020, [], [fA 31 24 .ro 0, fA 2 0 .ro 0]⟩,
  -- SCHED_REFUSED_FULL
  ⟨0x4100024, [], [fA 31 0 .rc 0]⟩,
  -- SCHED_REFUSED_FLOW
  ⟨0x4100028, [], [fA 31 0 .rc 0]⟩,
  -- SCHED_ESKIP
  ⟨0x410002c, [], [fA 31 0 .rc 0]⟩,
  -- SCHED_EVENT
  ⟨0x4100030, [], [fA 1 1 .w1c 0, fA 0 0 .w1c 0]⟩,
  -- SCHED_INT_EN
  ⟨0x4100034, [], [fA 1 0 .rw 3]⟩,
  -- SCHED_HWEV_BASE_LO
  ⟨0x4100038, [], [fA 31 0 .rw 0x20000]⟩,
  -- SCHED_HWEV_BASE_HI
  ⟨0x410003c, [], [fA 7 0 .rw 0xd]⟩,
  -- SCHED_HWEV_REFUSED
  ⟨0x4100040, [], [fA 31 0 .rc 0]⟩,
  -- SCHED_ITEM_Wi
  ⟨0x4100100, [(8, 4)], [fA 31 0 .rw 0]⟩,
  -- SCHED_HWEV_k_CFG
  ⟨0x4100200, [(32, 4)], [fA 31 31 .rw 0, fA 7 0 .rw 0]⟩,
  -- SCHED_CORE_n_CTRL
  ⟨0x4101000, [(16, 0x100)], [fA 0 0 .rw 0]⟩,
  -- SCHED_CORE_n_CFG
  ⟨0x4101004, [(16, 0x100)], [fA 31 31 .rw 1, fA 23 20 .rw 0xf, fA 16 0 .rw 0x1ffc0]⟩,
  -- SCHED_CORE_n_RESET_PC_LO
  ⟨0x4101008, [(16, 0x100)], [fA 31 0 .rw 0x10000000]⟩,
  -- SCHED_CORE_n_RESET_PC_HI
  ⟨0x410100c, [(16, 0x100)], [fA 7 0 .rw 0xd]⟩,
  -- SCHED_CORE_n_MTIMECMP_LO
  ⟨0x4101010, [(16, 0x100)], [fA 31 0 .rw 0xffffffff]⟩,
  -- SCHED_CORE_n_MTIMECMP_HI
  ⟨0x4101014, [(16, 0x100)], [fA 31 0 .rw 0xffffffff]⟩,
  -- SCHED_CORE_n_TAKE
  ⟨0x4101018, [(16, 0x100)], [fA 31 31 .rc 0, fA 30 30 .rc 0, fA 15 0 .rc 0]⟩,
  -- SCHED_CORE_n_DONE
  ⟨0x410101c, [(16, 0x100)], [fA 0 0 .wo 0]⟩]

/-- SCHED register map, part 1 (chapter 12). -/
def rowsSCHED1 : List RegRow := [
  -- SCHED_CORE_n_STATUS
  ⟨0x4101020, [(16, 0x100)], [fA 31 31 .ro 0, fA 30 30 .ro 0, fA 29 29 .ro 0, fA 28 28 .ro 0, fA 15 0 .ro 0]⟩,
  -- SCHED_CORE_n_ITEMS
  ⟨0x4101024, [(16, 0x100)], [fA 31 0 .rc 0]⟩]

/-- The rows of block SCHED. -/
def rowsSCHED : List RegRow := rowsSCHED0 ++ rowsSCHED1

/-- INTC register map, part 0 (chapter 12). -/
def rowsINTC0 : List RegRow := [
  -- INTC_MODE
  ⟨0x4200000, [], [fA 0 0 .ro 0]⟩,
  -- INTC_PEND_w
  ⟨0x4200100, [(8, 4)], [fA 31 0 .w1c 0]⟩,
  -- INTC_SETPEND_w
  ⟨0x4200120, [(8, 4)], [fA 31 0 .w1s 0]⟩,
  -- INTC_ACTIVE_w
  ⟨0x4200140, [(8, 4)], [fA 31 0 .ro 0]⟩,
  -- INTC_SRC_s_CFG
  ⟨0x4201000, [(256, 0x10)], [fA 31 31 .rw 1, fA 3 0 .rw 0]⟩,
  -- INTC_SRC_s_TGT
  ⟨0x4201004, [(256, 0x10)], [fA 16 0 .rw 0x10000]⟩,
  -- INTC_SRC_s_CNT
  ⟨0x4201008, [(256, 0x10)], [fA 7 0 .rc 0]⟩,
  -- INTC_SRC_s_ROUTE
  ⟨0x420100c, [(256, 0x10)], [fA 31 31 .ro 0, fA 4 0 .ro 0]⟩,
  -- INTC_TGT_t_HPEND
  ⟨0x4204000, [(17, 0x100)], [fA 11 8 .ro 0, fA 7 0 .ro 0]⟩,
  -- INTC_TGT_t_CLAIM
  ⟨0x4204004, [(17, 0x100)], [fA 7 0 .rc 0]⟩,
  -- INTC_TGT_t_EOI
  ⟨0x4204008, [(17, 0x100)], [fA 0 0 .wo 0]⟩,
  -- INTC_TGT_t_PUSH
  ⟨0x420400c, [(17, 0x100)], [⟨3, 0, .wo, 0, [(1, 15)]⟩]⟩,
  -- INTC_TGT_t_RUN
  ⟨0x4204010, [(17, 0x100)], [fA 20 16 .ro 0, fA 3 0 .ro 0]⟩,
  -- INTC_TGT_t_STK_ERR
  ⟨0x4204014, [(17, 0x100)], [fA 31 0 .rc 0]⟩]

/-- The rows of block INTC. -/
def rowsINTC : List RegRow := rowsINTC0

/-- MBX register map, part 0 (chapter 13). -/
def rowsMBX0 : List RegRow := [
  -- MBX_DB_H2D_SET_w
  ⟨0x4300000, [(2, 4)], [fA 31 0 .w1s 0]⟩,
  -- MBX_DB_H2D_CLR_w
  ⟨0x4300008, [(2, 4)], [fA 31 0 .w1c 0]⟩,
  -- MBX_DB_D2H_SET_w
  ⟨0x4300010, [(2, 4)], [fA 31 0 .w1s 0]⟩,
  -- MBX_DB_D2H_CLR_w
  ⟨0x4300018, [(2, 4)], [fA 31 0 .w1c 0]⟩,
  -- MBX_ACK_DROP
  ⟨0x4300020, [], [fA 31 0 .rc 0]⟩,
  -- MBX_m_CFG
  ⟨0x4301000, [(32, 0x40)], [⟨31, 27, .rw, 0x10, [(0, 17)]⟩, ⟨15, 0, .rw, 0x3e8, [(1, 65535)]⟩]⟩,
  -- MBX_m_NOTICE_LO
  ⟨0x4301004, [(32, 0x40)], [fA 31 0 .rw 0]⟩,
  -- MBX_m_NOTICE_HI
  ⟨0x4301008, [(32, 0x40)], [fA 31 0 .rw 0]⟩,
  -- MBX_m_STATUS
  ⟨0x430100c, [(32, 0x40)], [fA 31 31 .ro 0, fA 30 26 .ro 0, fA 25 21 .ro 0, fA 20 20 .ro 0, fA 15 0 .ro 0]⟩,
  -- MBX_m_ACK
  ⟨0x4301010, [(32, 0x40)], [fA 15 0 .wo 0]⟩,
  -- MBX_m_RX_EVENT
  ⟨0x4301014, [(32, 0x40)], [fA 1 1 .w1c 0, fA 0 0 .w1c 0]⟩,
  -- MBX_m_TX_EVENT
  ⟨0x4301018, [(32, 0x40)], [fA 1 1 .w1c 0, fA 0 0 .w1c 0]⟩,
  -- MBX_m_COLL_CNT
  ⟨0x430101c, [(32, 0x40)], [fA 31 0 .rc 0]⟩,
  -- MBX_m_TMO_CNT
  ⟨0x4301020, [(32, 0x40)], [fA 31 0 .rc 0]⟩]

/-- The rows of block MBX. -/
def rowsMBX : List RegRow := rowsMBX0

/-- HOSTIF register map, part 0 (chapter 13). -/
def rowsHOSTIF0 : List RegRow := [
  -- HOSTIF_ID
  ⟨0x4400000, [], [fA 31 16 .ro 0x5120, fA 15 0 .ro 0]⟩,
  -- HOSTIF_LINK
  ⟨0x4400004, [], [fA 8 8 .ro 0, fA 7 4 .ro 0, fA 3 0 .ro 0]⟩,
  -- HOSTIF_EVENT
  ⟨0x4400008, [], [fA 2 2 .w1c 0, fA 1 1 .w1c 0, fA 0 0 .w1c 0]⟩,
  -- HOSTIF_INT_EN
  ⟨0x440000c, [], [fA 2 0 .rw 7]⟩,
  -- HOSTIF_CPL_ERR
  ⟨0x4400010, [], [fA 31 0 .rc 0]⟩,
  -- HOSTIF_EP_SENT
  ⟨0x4400014, [], [fA 31 0 .rc 0]⟩,
  -- HOSTIF_MSIX_v_SEL
  ⟨0x4400100, [(64, 4)], [fA 31 31 .rw 0, ⟨8, 0, .rw, 0, [(0, 359)]⟩]⟩,
  -- HOSTIF_DMA_e_CTRL
  ⟨0x4401000, [(8, 0x100)], [fA 31 31 .rw 0, fA 30 30 .wo 0, fA 29 29 .rw 0, ⟨4, 0, .rw, 4, [(4, 16)]⟩]⟩,
  -- HOSTIF_DMA_e_RING_LO
  ⟨0x4401004, [(8, 0x100)], [fA 31 12 .rw 0]⟩,
  -- HOSTIF_DMA_e_RING_HI
  ⟨0x4401008, [(8, 0x100)], [fA 31 0 .rw 0]⟩,
  -- HOSTIF_DMA_e_TAIL
  ⟨0x440100c, [(8, 0x100)], [fA 15 0 .rw 0]⟩,
  -- HOSTIF_DMA_e_HEAD
  ⟨0x4401010, [(8, 0x100)], [fA 15 0 .ro 0]⟩,
  -- HOSTIF_DMA_e_STATUS
  ⟨0x4401014, [(8, 0x100)], [fA 31 31 .ro 0, fA 3 0 .ro 0]⟩,
  -- HOSTIF_DMA_e_EVENT
  ⟨0x4401018, [(8, 0x100)], [fA 1 1 .w1c 0, fA 0 0 .w1c 0]⟩,
  -- HOSTIF_DMA_e_DONE_CNT
  ⟨0x440101c, [(8, 0x100)], [fA 31 0 .rc 0]⟩,
  -- HOSTIF_DMA_e_ERR_CNT
  ⟨0x4401020, [(8, 0x100)], [fA 31 0 .rc 0]⟩,
  -- HOSTIF_MSIX_TABLE_v_i
  ⟨0x4408000, [(64, 0x10), (4, 4)], [fA 31 0 .rw 0]⟩,
  -- HOSTIF_MSIX_PBA_w
  ⟨0x4409000, [(2, 4)], [fA 31 0 .ro 0]⟩]

/-- The rows of block HOSTIF. -/
def rowsHOSTIF : List RegRow := rowsHOSTIF0

/-- GOV register map, part 0 (chapter 15). -/
def rowsGOV0 : List RegRow := [
  -- GOV_BUDGET
  ⟨0x4500000, [], [⟨15, 0, .rw, 0x578, [(600, 1500)]⟩]⟩,
  -- GOV_PEAK
  ⟨0x4500004, [], [⟨15, 0, .rw, 0x636, [(600, 1700)]⟩]⟩,
  -- GOV_THERM_RTH
  ⟨0x4500008, [], [⟨15, 0, .rw, 0x1f4, [(1, 5000)]⟩]⟩,
  -- GOV_THERM_ENV
  ⟨0x450000c, [], [⟨31, 16, .rw, 0xfa0, [(100, 65535)]⟩, fA 7 0 .rw 0x1e]⟩,
  -- GOV_TJ_CFG
  ⟨0x4500010, [], [⟨15, 8, .rw, 0x6e, [(90, 110)]⟩, ⟨7, 0, .rw, 0x68, [(60, 104)]⟩]⟩,
  -- GOV_XCHK_CFG
  ⟨0x4500014, [], [⟨7, 0, .rw, 0xa, [(1, 50)]⟩]⟩,
  -- GOV_ECLASS_STEP
  ⟨0x4500018, [], [⟨15, 0, .rw, 0xfa, [(1, 65535)]⟩]⟩,
  -- GOV_OCT_FIX
  ⟨0x450001c, [], [fA 15 0 .rw 0x1f4]⟩,
  -- GOV_PWR_MODEL
  ⟨0x4500020, [], [fA 15 0 .ro 0]⟩,
  -- GOV_PWR_SENSE
  ⟨0x4500024, [], [fA 15 0 .ro 0]⟩,
  -- GOV_PWR_CHARGED
  ⟨0x4500028, [], [fA 15 0 .ro 0]⟩,
  -- GOV_BASE_PWR
  ⟨0x450002c, [], [fA 15 0 .ro 0]⟩,
  -- GOV_TJ
  ⟨0x4500030, [], [fA 15 8 .ro 0, fA 7 0 .ro 0]⟩,
  -- GOV_STATUS
  ⟨0x4500034, [], [fA 3 3 .ro 0, fA 2 2 .ro 0, fA 1 1 .ro 0, fA 0 0 .ro 0]⟩,
  -- GOV_EVENT
  ⟨0x4500038, [], [fA 3 3 .w1c 0, fA 2 2 .w1c 0, fA 1 1 .w1c 0, fA 0 0 .w1c 0]⟩,
  -- GOV_INT_EN
  ⟨0x450003c, [], [fA 3 0 .rw 7]⟩,
  -- GOV_XCHK_CNT
  ⟨0x4500040, [], [fA 31 0 .rc 0]⟩,
  -- GOV_ADMIT_WAIT_CNT
  ⟨0x4500044, [], [fA 31 0 .rc 0]⟩,
  -- GOV_THERM_HALT_CNT
  ⟨0x4500048, [], [fA 31 0 .rc 0]⟩,
  -- GOV_SITE_n_EMAX
  ⟨0x4501000, [(64, 0x20)], [fA 31 0 .rw 0]⟩,
  -- GOV_SITE_n_DUR
  ⟨0x4501004, [(64, 0x20)], [fA 31 0 .rw 0]⟩,
  -- GOV_SITE_n_CHARGE
  ⟨0x4501008, [(64, 0x20)], [fA 15 0 .ro 0]⟩,
  -- GOV_SITE_n_STATUS
  ⟨0x450100c, [(64, 0x20)], [fA 4 4 .ro 0, fA 3 3 .ro 0, fA 2 2 .ro 0, fA 1 0 .ro 0]⟩,
  -- GOV_SITE_n_WAIT
  ⟨0x4501010, [(64, 0x20)], [fA 31 0 .ro 0]⟩]

/-- The rows of block GOV. -/
def rowsGOV : List RegRow := rowsGOV0

/-- CAL register map, part 0 (chapter 16). -/
def rowsCAL0 : List RegRow := [
  -- CAL_CMD
  ⟨0x4600000, [], [fA 20 20 .wo 0, fA 19 19 .wo 0, fA 18 16 .wo 0, fA 4 0 .wo 0]⟩,
  -- CAL_EVENT
  ⟨0x4600004, [], [fA 4 4 .w1c 0, fA 3 3 .w1c 0, fA 2 2 .w1c 0, fA 1 1 .w1c 0, fA 0 0 .w1c 0]⟩,
  -- CAL_INT_EN
  ⟨0x4600008, [], [fA 4 0 .rw 0x16]⟩,
  -- CAL_DUP_CNT
  ⟨0x460000c, [], [fA 31 0 .rc 0]⟩,
  -- CAL_REFUSED_CNT
  ⟨0x4600010, [], [fA 31 0 .rc 0]⟩,
  -- CAL_FAIL_CNT
  ⟨0x4600014, [], [fA 31 0 .rc 0]⟩,
  -- CAL_SPAN_CMD
  ⟨0x4600020, [], [fA 31 31 .wo 0, fA 30 30 .wo 0, fA 5 0 .wo 0]⟩,
  -- CAL_SPAN_STATUS
  ⟨0x4600024, [], [fA 31 31 .ro 0, fA 21 16 .ro 0, fA 3 0 .ro 0]⟩,
  -- CAL_EPH_CFG
  ⟨0x4600030, [], [⟨31, 16, .rwl, 0x4e20, [(1, 65535)]⟩, ⟨15, 0, .rw, 0x7d0, [(1, 65535)]⟩]⟩,
  -- CAL_EPH_RATED
  ⟨0x4600034, [], [fA 11 0 .ro 0xc80]⟩,
  -- CAL_EPH_GUARD
  ⟨0x4600038, [], [fA 7 0 .ro 0x14]⟩,
  -- CAL_EPH_STATUS
  ⟨0x460003c, [], [fA 31 31 .ro 0, fA 30 30 .ro 0, fA 20 16 .ro 0, fA 15 0 .ro 0xffff]⟩,
  -- CAL_EPH_DMAX
  ⟨0x4600040, [], [fA 15 0 .ro 0]⟩,
  -- CAL_EPH_SLOPE
  ⟨0x4600044, [], [fA 15 0 .ro 0]⟩,
  -- CAL_EPH_SKIP
  ⟨0x4600048, [], [fA 31 0 .rc 0]⟩,
  -- CAL_EPH_RECORDS
  ⟨0x460004c, [], [fA 31 0 .ro 0]⟩,
  -- CAL_CL_k_ACT
  ⟨0x4601000, [(32, 0x40)], [fA 15 12 .ro 0, fA 11 8 .ro 0, fA 7 4 .ro 0]⟩,
  -- CAL_CL_k_STATE
  ⟨0x4601004, [(32, 0x40)], [fA 31 16 .ro 0, fA 9 9 .ro 0, fA 8 8 .ro 0, fA 2 0 .ro 0]⟩,
  -- CAL_CL_k_DRIFT
  ⟨0x4601008, [(32, 0x40)], [fA 31 16 .ro 0, fA 15 0 .ro 0]⟩,
  -- CAL_CL_k_LAST_FULL_LO
  ⟨0x460100c, [(32, 0x40)], [fA 31 0 .ro 0]⟩,
  -- CAL_CL_k_LAST_FULL_HI
  ⟨0x4601010, [(32, 0x40)], [fA 31 0 .ro 0]⟩,
  -- CAL_SITE_n_SKEW
  ⟨0x4602000, [(64, 4)], [fA 31 31 .ro 0, fA 15 0 .ro 0]⟩,
  -- CAL_CL_k_CH_j_TRIM
  ⟨0x4604000, [(32, 0x100), (16, 4)], [fA 31 24 .ro 0, fA 21 12 .ro 0, fA 11 0 .ro 0]⟩]

/-- The rows of block CAL. -/
def rowsCAL : List RegRow := rowsCAL0

/-- BOOT register map, part 0 (chapter 17). -/
def rowsBOOT0 : List RegRow := [
  -- BOOT_STAGE
  ⟨0x4700000, [], [fA 23 16 .ro 0, fA 15 8 .ro 0, fA 7 0 .ro 0]⟩,
  -- BOOT_STATUS
  ⟨0x4700004, [], [fA 8 8 .ro 0, fA 7 7 .ro 0, fA 6 6 .ro 0, fA 5 5 .ro 0, fA 4 4 .ro 0, fA 3 3 .ro 0, fA 2 2 .ro 0, fA 1 0 .ro 3]⟩,
  -- BOOT_STRAP
  ⟨0x4700008, [], [fA 4 4 .ro 0, fA 3 3 .ro 0, fA 1 0 .ro 0]⟩,
  -- BOOT_ERR_LOC
  ⟨0x470000c, [], [fA 31 24 .ro 0, fA 23 0 .ro 0]⟩,
  -- BOOT_RESET_CAUSE
  ⟨0x4700010, [], [fA 2 0 .ro 0]⟩,
  -- BOOT_ROLLBACK
  ⟨0x4700014, [], [fA 31 0 .ro 0]⟩,
  -- BOOT_RB_COUNTER
  ⟨0x4700018, [], [fA 31 0 .ro 0]⟩,
  -- BOOT_RB_FLOOR
  ⟨0x470001c, [], [fA 31 0 .ro 0]⟩,
  -- BOOT_TRIAL_CNT
  ⟨0x4700020, [], [fA 31 31 .ro 0, fA 7 0 .ro 0]⟩,
  -- BOOT_FLASH
  ⟨0x4700024, [], [fA 31 24 .ro 0, fA 15 8 .ro 0, fA 1 0 .ro 0]⟩,
  -- BOOT_MGMT_VER
  ⟨0x4700028, [], [fA 31 0 .ro 0]⟩,
  -- BOOT_SITEFW_VER
  ⟨0x470002c, [], [fA 31 0 .ro 0]⟩,
  -- BOOT_SLOT_A_VER
  ⟨0x4700030, [], [fA 31 0 .ro 0]⟩,
  -- BOOT_SLOT_B_VER
  ⟨0x4700034, [], [fA 31 0 .ro 0]⟩,
  -- BOOT_TIME_HBM
  ⟨0x4700038, [], [fA 31 0 .ro 0]⟩,
  -- BOOT_TIME_READY
  ⟨0x470003c, [], [fA 31 0 .ro 0]⟩,
  -- BOOT_RESET
  ⟨0x4700040, [], [fA 31 16 .wo 0, fA 0 0 .wo 0]⟩,
  -- BOOT_RESET_REJ
  ⟨0x4700044, [], [fA 31 0 .rc 0]⟩,
  -- BOOT_UPD_STATUS
  ⟨0x4700048, [], [fA 31 16 .ro 0, fA 8 8 .ro 0, fA 7 0 .ro 0]⟩,
  -- BOOT_EVENT
  ⟨0x470004c, [], [fA 2 2 .w1c 0, fA 1 1 .w1c 0, fA 0 0 .w1c 0]⟩,
  -- BOOT_INT_EN
  ⟨0x4700050, [], [fA 2 0 .rw 6]⟩]

/-- The rows of block BOOT. -/
def rowsBOOT : List RegRow := rowsBOOT0

/-- MGS register map, part 0 (chapter 18). -/
def rowsMGS0 : List RegRow := [
  -- MGS_SAFE_STATUS
  ⟨0x5000000, [], [fA 5 1 .ro 0x10, fA 0 0 .ro 1]⟩,
  -- MGS_SAFE_CTRL
  ⟨0x5000004, [], [fA 0 0 .rw 0]⟩,
  -- MGS_SAFE_CNT
  ⟨0x5000008, [], [fA 31 0 .rc 0]⟩,
  -- MGS_WDT_CTRL
  ⟨0x5000010, [], [fA 31 31 .w1s 0, fA 23 16 .rw 0xa, ⟨15, 0, .rw, 0x3e8, [(1, 65535)]⟩]⟩,
  -- MGS_WDT_KICK
  ⟨0x5000014, [], [fA 15 0 .wo 0]⟩,
  -- MGS_WDT_REMAIN
  ⟨0x5000018, [], [fA 31 0 .ro 0]⟩,
  -- MGS_WDT_REJ
  ⟨0x500001c, [], [fA 31 0 .rc 0]⟩,
  -- MGS_TEMP
  ⟨0x5000020, [], [fA 13 8 .ro 0, fA 7 0 .ro 0]⟩,
  -- MGS_EVENT
  ⟨0x5000024, [], [fA 4 4 .w1c 0, fA 3 3 .w1c 0, fA 2 2 .w1c 0, fA 1 1 .w1c 0, fA 0 0 .w1c 0]⟩,
  -- MGS_INT_EN
  ⟨0x5000028, [], [fA 4 0 .rw 0xf]⟩,
  -- MGS_DIODE_i
  ⟨0x5000100, [(64, 4)], [fA 11 0 .ro 0]⟩,
  -- MGS_VMON_v
  ⟨0x5000200, [(40, 4)], [fA 16 16 .w1c 0, fA 15 0 .ro 0]⟩,
  -- MGS_VMON_v_LIM
  ⟨0x5000300, [(40, 4)], [fA 31 16 .rw 0xffff, fA 15 0 .rw 0]⟩,
  -- MGS_RAIL_r_I
  ⟨0x5000400, [(40, 4)], [fA 15 0 .ro 0]⟩,
  -- MGS_KA_RTC_LO
  ⟨0x5000500, [], [fA 31 0 .rw 0]⟩,
  -- MGS_KA_RTC_HI
  ⟨0x5000504, [], [fA 15 0 .rw 0]⟩,
  -- MGS_KA_STATUS
  ⟨0x5000508, [], [fA 2 2 .ro 0, fA 1 1 .ro 0, fA 0 0 .ro 0]⟩,
  -- MGS_KA_CLR
  ⟨0x500050c, [], [fA 15 0 .wo 0]⟩,
  -- MGS_KA_BOOTS
  ⟨0x5000510, [], [fA 31 0 .ro 0]⟩,
  -- MGS_LOG_LOST
  ⟨0x5000600, [], [fA 31 0 .rc 0]⟩,
  -- MGS_LOG_NEWEST
  ⟨0x5000604, [], [fA 31 0 .ro 0]⟩,
  -- MGS_LOG_RD_IDX
  ⟨0x5000608, [], [fA 31 0 .rw 0]⟩,
  -- MGS_LOG_RD_STATUS
  ⟨0x500060c, [], [fA 0 0 .ro 0]⟩,
  -- MGS_LOG_APP_CODE
  ⟨0x5000610, [], [⟨15, 0, .wo, 0, [(32768, 65535)]⟩]⟩]

/-- MGS register map, part 1 (chapter 18). -/
def rowsMGS1 : List RegRow := [
  -- MGS_LOG_APP_Dw
  ⟨0x5000620, [(8, 4)], [fA 31 0 .rw 0]⟩,
  -- MGS_LOG_RD_Dw
  ⟨0x5000640, [(16, 4)], [fA 31 0 .ro 0]⟩,
  -- MGS_LEDGER_STATUS
  ⟨0x5000700, [], [fA 2 2 .ro 0, fA 1 0 .ro 0]⟩,
  -- MGS_LEDGER_SEQ
  ⟨0x5000704, [], [fA 31 0 .ro 0]⟩,
  -- MGS_LEDGER_FAIL
  ⟨0x5000708, [], [fA 31 0 .rc 0]⟩,
  -- MGS_UART_CTRL
  ⟨0x5000800, [], [fA 31 31 .rw 1, ⟨17, 0, .rw, 0x3641, [(533, 166667)]⟩]⟩,
  -- MGS_UART_DATA
  ⟨0x5000804, [], [fA 8 8 .rc 0, fA 7 0 .rw 0]⟩,
  -- MGS_UART_STATUS
  ⟨0x5000808, [], [fA 18 18 .w1c 0, fA 17 17 .w1c 0, fA 16 16 .w1c 0, fA 15 8 .ro 0, fA 7 0 .ro 0]⟩,
  -- MGS_UART_ERR
  ⟨0x500080c, [], [fA 31 0 .rc 0]⟩,
  -- MGS_SMB_CFG
  ⟨0x5000900, [], [fA 8 8 .rwl 1, fA 6 0 .rwl 0x4e]⟩,
  -- MGS_SMB_ERR
  ⟨0x5000904, [], [fA 31 0 .rc 0]⟩]

/-- The rows of block MGS. -/
def rowsMGS : List RegRow := rowsMGS0 ++ rowsMGS1

/-- SITE register map, part 0 (chapter 10). -/
def rowsSITE0 : List RegRow := [
  -- SITE_n_OCT_LO
  ⟨0x6000000, [(64, 0x100)], [fA 31 0 .rw 0]⟩,
  -- SITE_n_OCT_HI
  ⟨0x6000004, [(64, 0x100)], [fA 31 0 .rw 0]⟩,
  -- SITE_n_SPAN
  ⟨0x6000008, [(64, 0x100)], [⟨31, 30, .rw, 0, [(0, 2)]⟩, fA 29 29 .rw 0, fA 15 0 .rw 0]⟩,
  -- SITE_n_SPAN_GEOM
  ⟨0x600000c, [(64, 0x100)], [fA 23 16 .rw 0, ⟨8, 0, .rw, 0, [(0, 256)]⟩]⟩,
  -- SITE_n_SPAN_PRIMARY
  ⟨0x6000010, [(64, 0x100)], [fA 15 0 .rw 0]⟩,
  -- SITE_n_SPAN_PATH
  ⟨0x6000014, [(64, 0x100)], [⟨4, 0, .rw, 0, [(0, 24)]⟩]⟩,
  -- SITE_n_GO_CFG
  ⟨0x6000018, [(64, 0x100)], [fA 31 31 .rw 1, ⟨27, 16, .rw, 0x28, [(1, 4095)]⟩, fA 15 0 .rw 0x3e8]⟩,
  -- SITE_n_TRANSIT_LEAD
  ⟨0x600001c, [(64, 0x100)], [⟨11, 0, .rw, 0x14, [(1, 4095)]⟩]⟩,
  -- SITE_n_CMD
  ⟨0x6000020, [(64, 0x100)], [fA 1 0 .wo 0]⟩,
  -- SITE_n_STATUS
  ⟨0x6000024, [(64, 0x100)], [fA 31 24 .ro 0, fA 23 16 .ro 0, fA 3 3 .ro 0, fA 2 0 .ro 0]⟩,
  -- SITE_n_SPAN_RESULT
  ⟨0x6000028, [(64, 0x100)], [fA 31 0 .ro 0]⟩,
  -- SITE_n_SLIP_CNT
  ⟨0x600002c, [(64, 0x100)], [fA 31 0 .rc 0]⟩,
  -- SITE_n_T0_LO
  ⟨0x6000030, [(64, 0x100)], [fA 31 0 .ro 0]⟩,
  -- SITE_n_T0_HI
  ⟨0x6000034, [(64, 0x100)], [fA 31 0 .ro 0]⟩,
  -- SITE_n_EVENT
  ⟨0x6000038, [(64, 0x100)], [fA 6 6 .w1c 0, fA 5 5 .w1c 0, fA 4 4 .w1c 0, fA 3 3 .w1c 0, fA 2 2 .w1c 0, fA 1 1 .w1c 0, fA 0 0 .w1c 0]⟩,
  -- SITE_n_INT_EN
  ⟨0x600003c, [(64, 0x100)], [fA 6 0 .rw 0x3f]⟩,
  -- SITE_n_MISS_MAP_w
  ⟨0x6000040, [(64, 0x100), (8, 4)], [fA 31 0 .ro 0]⟩]

/-- The rows of block SITE. -/
def rowsSITE : List RegRow := rowsSITE0

/-- The block windows that hold registers, by rising base. -/
def regBlocks : List RegBlock := [
  ⟨0x0, 0x100000, rowsGLB⟩,
  ⟨0x100000, 0x100000, rowsCLK⟩,
  ⟨0x200000, 0x100000, rowsDRW⟩,
  ⟨0x300000, 0x100000, rowsSTRM⟩,
  ⟨0x400000, 0x100000, rowsMEMC⟩,
  ⟨0x500000, 0x100000, rowsSEQ⟩,
  ⟨0x600000, 0xa00000, rowsTSET⟩,
  ⟨0x1000000, 0x800000, rowsCLU⟩,
  ⟨0x2000000, 0x100000, rowsFAIL⟩,
  ⟨0x2100000, 0xf00000, rowsCAPT⟩,
  ⟨0x3000000, 0x100000, rowsULT⟩,
  ⟨0x3100000, 0x80000, rowsXL⟩,
  ⟨0x4000000, 0x100000, rowsTIME⟩,
  ⟨0x4100000, 0x100000, rowsSCHED⟩,
  ⟨0x4200000, 0x100000, rowsINTC⟩,
  ⟨0x4300000, 0x100000, rowsMBX⟩,
  ⟨0x4400000, 0x100000, rowsHOSTIF⟩,
  ⟨0x4500000, 0x100000, rowsGOV⟩,
  ⟨0x4600000, 0x100000, rowsCAL⟩,
  ⟨0x4700000, 0x900000, rowsBOOT⟩,
  ⟨0x5000000, 0x1000000, rowsMGS⟩,
  ⟨0x6000000, 0x4000, rowsSITE⟩]

/-- Whether offset `rel` (relative to a row's first offset) is an element of the array with these dimensions. -/
def dimsHit : List (Nat × Nat) → Nat → Bool
  | [], rel => rel == 0
  | (c, st) :: ds, rel => decide (rel / st < c) && dimsHit ds (rel % st)

/-- Whether a row covers a BAR0 offset. -/
def RegRow.hit (r : RegRow) (off : Nat) : Bool :=
  decide (r.off ≤ off) && dimsHit r.dims (off - r.off)

/-- The register row at a word-aligned BAR0 offset, or none where the offset is unmapped (R20, R490). -/
def findRow (off : Nat) : Option RegRow :=
  match regBlocks.find? (fun b => decide (b.base ≤ off) && decide (off < b.base + b.size)) with
  | none => none
  | some b => b.rows.find? (fun r => r.hit off)

/-- The reset word that a row's fields make up. -/
def RegRow.resetNat (r : RegRow) : Nat :=
  r.fields.foldl (fun a f => a + f.rst * 2 ^ f.lo) 0

/-- The first SCHED_CORE_n_RESET_PC_LO; its reset value depends on n (R332). -/
def resetPcLo0 : Nat := 0x4101008

/-- The reset word of the register at a BAR0 offset (0 for an unmapped offset, where nothing is stored).
SCHED_CORE_n_RESET_PC_LO resets to 0x1000_0000 + 0x2_0000·n, and the mask bit of an MSI-X table entry to 1 as in the PCIe
layout (PRESUMED). -/
def resetWord (off : Nat) : Word :=
  if resetPcLo0 ≤ off ∧ off < resetPcLo0 + 0x1000 ∧ (off - resetPcLo0) % 0x100 = 0 then
    BitVec.ofNat 32 (0x10000000 + 0x20000 * ((off - resetPcLo0) / 0x100))
  else if 0x4408000 ≤ off ∧ off < 0x4408400 ∧ off % 16 = 12 then 1
  else
    match findRow off with
    | none => 0
    | some r => BitVec.ofNat 32 r.resetNat

end Sys2Proof.Machine
end

