-- ==== Sys2Proof/Config.lean ====
section
/-!
DEFINITION. What one part or one board fixes and what the spec leaves open: opaque constants, of which nothing can be
proved but what a statement assumes. No value here is chosen by the model. The assumption log names each of them.
-/

namespace Sys2Proof.Config

/-- Fused PCIe vendor ID, HOSTIF_ID.VENDOR (reset value "Fuse", chapter 13). -/
opaque fuseVendor : BitVec 16
/-- The n-th free value of a width: what an undefined or unstated result holds. The state field `State.free` counts
the free values that have been used. -/
opaque freeValue : Nat → Nat
/-- Fused floor of the rollback counter, BOOT_RB_FLOOR (R429). -/
opaque fuseRbFloor : BitVec 32
/-- Manufacturer code fused for the JTAG IDCODE (R468). -/
opaque fuseJtagId : BitVec 11
/-- The ratio of the ageing oscillators of a cluster at manufacture, as stressed and reference count (R416). -/
opaque fuseRatio : Nat → Nat × Nat
/-- The owner fuses are blank (R434). -/
opaque fuseOwnerBlank : Bool
/-- Fused SHA-384 hash of the owner's key (R434). -/
opaque fuseOwnerHash : List (BitVec 8)
/-- Fused SHA-384 hash of the vendor's key (R434). -/
opaque fuseVendorHash : List (BitVec 8)
/-- Fused VCORE_VID target, 0 to 8 (R482). -/
opaque fuseVid : Fin 9
/-- SHA-384 of FIPS 180-4, which the spec names and does not define (R434). -/
opaque sha384 : List (BitVec 8) → List (BitVec 8)
/-- Whether an ECDSA P-384 signature of FIPS 186-5 holds for a public key and a message, which the spec names and does not
define (R434). -/
opaque ecdsaOk : List (BitVec 8) → List (BitVec 8) → List (BitVec 8) → Bool

end Sys2Proof.Config
end

