-- ==== Sys2Proof/Machine/Tab.lean ====
section
/-!
DEFINITION. A sparse table: a list of (key, value) pairs in one canonical form. A key that is not listed has the
default value `d`; a canonical table has strictly rising keys and lists no pair whose value is the default, so that
equal tables are equal data. Registers, the memory map and every indexed structure of the machine are such tables.
-/

namespace Sys2Proof.Machine

/-- A sparse table from natural keys to values. -/
abbrev Tab (α : Type) := List (Nat × α)

/-- The value at key `i`, `d` where the table lists none. -/
def Tab.get {α : Type} (d : α) : Tab α → Nat → α
  | [], _ => d
  | (k, v) :: t, i => if i = k then v else Tab.get d t i

/-- Insert or replace the pair of key `i`, keys kept rising. -/
def Tab.ins {α : Type} (i : Nat) (x : α) : Tab α → Tab α
  | [] => [(i, x)]
  | (k, v) :: t =>
    if i < k then (i, x) :: (k, v) :: t
    else if i = k then (i, x) :: t
    else (k, v) :: Tab.ins i x t

/-- Drop every pair of key `i`. -/
def Tab.del {α : Type} (i : Nat) (t : Tab α) : Tab α := t.filter (fun p => decide (p.1 ≠ i))

/-- The table with value `x` at key `i`; writing the default removes the pair. -/
def Tab.set {α : Type} [DecidableEq α] (d : α) (i : Nat) (x : α) (t : Tab α) : Tab α :=
  if x = d then Tab.del i t else Tab.ins i x t

/-- The canonical form, for a default that may depend on the key. -/
def Tab.wf {α : Type} [DecidableEq α] (d : Nat → α) : Tab α → Bool
  | [] => true
  | (k, v) :: t => decide (v ≠ d k) && t.all (fun p => decide (k < p.1)) && Tab.wf d t

/-- The keys a table lists. -/
def Tab.keys {α : Type} (t : Tab α) : List Nat := t.map (·.1)

end Sys2Proof.Machine
end

