-- ==== Sys2Proof/Machine/State.lean ====
section
/-!
DEFINITION. The state of the block as plain data: every register word (`regs`, keyed by BAR0 offset, a register that is
not listed holds the reset value of its table), the memory map (`mem`), and the state the rules name beside the registers,
one structure per unit. `State.reset` is the machine right after reset.
-/

namespace Sys2Proof.Machine

/-! ## Requesters and clocks (chapter 01) -/

/-- What one requester holds of its own (R491): pair snapshot and staging word (R17 to R19), staged work item and
latest result (R337), seconds snapshots (R375), latched timestamp entry (R384), staged log data (R460).
`rword` and `rbytes` are the model's own: the data the requester's latest register or memory read returned. -/
structure ReqCtx where
  snap : Word := 0
  staged : Word := 0
  itemW : Tab Word := []
  enqResult : Word := 0
  secl : Tab Word := []
  sech : Tab Word := []
  tsqEnt : Word := 0
  tsqNs : Word := 0
  tsqSecl : Word := 0
  tsqSech : Word := 0
  logD : Tab Word := []
  rword : Word := 0
  rbytes : List Byte := []
  rPoison : Bool := false
  rFault : Bool := false
  deriving DecidableEq, Repr

/-- Levels at balls that the device reads or drives (chapters 17 to 19): PWRGOOD, RST_N, PE_SAFE_N, PCIE_PERST_N,
THERMTRIP_N, the code on VCORE_VID (R482), and the bytes sent on UART_TX. -/
structure Pins where
  pwrgood : Bool := false
  rstN : Bool := false
  peSafeN : Bool := true
  perstN : Bool := true
  thermtripN : Bool := true
  vid : Nat := 3
  uartTx : List Byte := []
  deriving DecidableEq, Repr

/-! ## Drawers (chapter 02) -/

/-- A directory entry, decoded (R37). -/
structure DirEnt where
  id : Nat := 0
  base : Nat := 0
  len : Nat := 0
  type : Nat := 0
  flags : Nat := 0
  ilen : Nat := 0
  mask : Nat := 0
  iaddr : Nat := 0
  energy : Nat := 0
  deriving DecidableEq, Repr

/-- What an active-range entry covers, beside the DRW_ART_n word (R50). -/
structure ArtInfo where
  ranges : List (Nat × Nat) := []
  deriving DecidableEq, Repr

/-- A logged write beat (R53): its number of acceptance, its time, its first address and its bytes. -/
structure LogBeat where
  seq : Nat
  time : Nat
  addr : Nat
  len : Nat
  deriving DecidableEq, Repr

/-- Hidden state of the drawer subsystem: the entry latched by a COMMIT in progress (R45), its ID and argument, the
write log and the count of logged beats (R53), the shelf allocations as (first page, pages) (R54). -/
structure DrwState where
  cmdId : Nat := 0
  cmdArg : Nat := 0
  latched : List Byte := []
  latchedBad : Bool := false
  log : List LogBeat := []
  logSeq : Nat := 0
  allocs : List (Nat × Nat) := []
  deriving DecidableEq, Repr

/-! ## Streaming (chapter 03) -/

/-- Bytes of a stream that lie in the FIFO from position `pos`; `bad` marks slabs delivered as symbol K (R99). -/
structure Seg where
  pos : Nat
  data : List Byte
  bad : List Nat
  deriving DecidableEq, Repr

/-- A fetch request in flight (R64): stream, stream position, length, drawer and address. -/
structure FetchReq where
  stream : Nat
  pos : Nat
  len : Nat
  drw : Nat
  chunks : List (Nat × Nat)
  late : Bool
  deriving DecidableEq, Repr

/-- One stream of HBM slabs in play order: position of the next byte to play, to request, and the bytes present. -/
structure Strm where
  base : Nat := 0
  req : Nat := 0
  segs : List Seg := []
  deriving DecidableEq, Repr

/-- Per-site stream engine state: sampled configuration (R86), credit in tenths of a byte and its time (R65), requests
in flight, streams, the verdict of the readiness point (R60). -/
structure StrmSite where
  policy : Nat := 0
  units : Nat := 0
  rate : Nat := 0
  credit : Nat := 0
  creditT : Nat := 0
  flight : List FetchReq := []
  streams : Tab Strm := []
  nextReady : Option Bool := none
  deriving DecidableEq, Repr

/-! ## Pattern memory controller (chapter 04) -/

/-- An entry of a bank queue (R90): row, write or read, precedence level (R66), arrival number, requester, address. -/
structure BankEnt where
  row : Nat
  wr : Bool
  level : Nat
  seq : Nat
  addr : Nat
  len : Nat
  deriving DecidableEq, Repr

/-- One bank: queues, open row, in-order mode with its triggering arrival number, refresh debt (R90 to R95). -/
structure Bank where
  reads : List BankEnt := []
  writes : List BankEnt := []
  openRow : Option Nat := none
  inOrder : Option Nat := none
  drain : Bool := false
  debt : Nat := 0
  deriving DecidableEq, Repr

/-- One pseudo-channel: rotating activate pointer (R92), time of the last queued entry, waking state (R107). -/
structure PcState where
  ptr : Nat := 0
  idleSince : Nat := 0
  waking : Bool := false
  deriving DecidableEq, Repr

/-- Memory controller: banks keyed 48·pc + bank, pseudo-channels, arrival counter, held requests (R90), bursts whose
check code is uncorrectable and bursts with a single-bit error (R98 to R100), write-backs due, next retraining turn,
requested session (R103), slices of the running session. -/
structure MemcState where
  banks : Tab Bank := []
  pcs : Tab PcState := []
  seq : Nat := 0
  held : List (Nat × Nat × Bool × Nat) := []
  ueBursts : List Nat := []
  ceBursts : List Nat := []
  writebacks : List Nat := []
  turn : Nat := 0
  startReq : Option Nat := none
  slices : Nat := 0
  deriving DecidableEq, Repr

/-! ## Sequencer (chapter 05) -/

/-- One channel's native entry of a timing set (R164). -/
structure TsEnt where
  format : Nat := 0
  en : Nat := 0
  win : Bool := false
  d0 : Nat := 0
  d1 : Nat := 0
  d2 : Nat := 0
  d3 : Nat := 0
  c0 : Nat := 0
  c1 : Nat := 0
  deriving DecidableEq, Repr

/-- An open loop (R109): remaining count, drawer and first instruction of the body, cursor at LOOP, REWIND. -/
structure LoopEnt where
  count : Nat
  drw : Nat
  idx : Nat
  cursor : Nat
  rewind : Bool
  deriving DecidableEq, Repr

/-- A call stack entry (R109): return drawer, index, cursor and loop depth. -/
structure CallEnt where
  drw : Nat
  idx : Nat
  cursor : Nat
  depth : Nat
  deriving DecidableEq, Repr

/-- A fetched instruction word and whether it was delivered poisoned (R118). -/
structure IWord where
  word : Nat := 0
  poison : Bool := false
  deriving DecidableEq, Repr

/-- The effects that instructions have in play, in program order (R110, R111). -/
inductive Eff where
  | tset (s : Nat)
  | levels (s : Nat)
  | captMark (tag : Nat)
  | captEnable
  | captDisable
  | captTrig
  | sigSched (i : Nat)
  | sigDoorbell (i : Nat)
  | flagClr (m : Nat)
  | xlmark (act grp arg : Nat)
  | vecShort (k : Nat)
  | endlEmpty
  | halt (code : Nat)
  | fault (code : Nat) (poison : Bool)
  | jmpc (flag : Nat) (neg : Bool) (drw goff : Nat) (loops : List LoopEnt) (calls : List CallEnt)
  | matchWait (span : Bool) (passes : Nat) (drw len base : Nat) (mask : Nat) (comp : Bool) (tidx : Nat)
  | waitCore (clear : Bool) (sel timeout tidx : Nat)
  | transit (scope timeout : Nat)
  | depths (loops calls : Nat)
  /-- an instruction that moves only the program counter or a stack -/
  | step
  deriving DecidableEq, Repr

/-- What an entry of the play queue plays: granules `g` to `g + n − 1` of a drawer from stream `strm`, `n` hold
granules (`pad` for those of R132), or an effect at a granule boundary. -/
inductive ItemBody where
  | run (strm g n : Nat) (ent : DirEnt)
  | hold (n : Nat) (pad : Bool)
  | eff (e : Eff)
  deriving DecidableEq, Repr

/-- An entry of the play queue with the instruction it comes from, the serial number of its execution, and the stacks as they
stand there. -/
structure Item where
  drw : Nat
  idx : Nat
  body : ItemBody
  loops : List Nat
  calls : List CallEnt
  tag : Nat
  deriving DecidableEq, Repr

/-- Why a path does not execute its next instruction. -/
inductive Stop where
  | none
  /-- waits for the directory entry of a drawer, to be entered at a granule offset (R113) -/
  | dir (id goff : Nat)
  /-- MATCHWAIT waits for the directory entry of the drawer it loops (R113, R135) -/
  | loopDir (id : Nat)
  /-- MATCHWAIT waits for an active-range entry for that drawer -/
  | loopArt (id : Nat)
  /-- as `dir`, for the return of RET or the jump back of ENDL: enters at an index and cursor -/
  | back (id idx cursor : Nat)
  /-- waits for instruction words (R113) -/
  | ilist
  /-- waits for an active-range entry (R139); then continues as the stop it holds would -/
  | art (id goff : Nat)
  /-- waits for an active-range entry to go back to a drawer -/
  | artBack (id idx cursor : Nat)
  /-- every slot of a portion is locked (R170) -/
  | lock
  /-- the run-ahead is full (R494) -/
  | full
  /-- at a MATCHWAIT, WAITCORE or TRANSIT that play has not passed (R138), or before the end of a prefetch -/
  | wait
  /-- at a halt or fault: nothing follows -/
  | done
  deriving DecidableEq, Repr

/-- A path of run-ahead: the fall-through path or a prefetched target. `shadow` is what remains of an open branch
shadow in 1/32 ps (R132). `tset0` and `tset` are the sets in force before and after what is resolved, `lastTset` that of the last resolved granule. -/
structure Path where
  ent : DirEnt := {}
  idx : Nat := 0
  cursor : Nat := 0
  loops : List LoopEnt := []
  calls : List CallEnt := []
  ibuf : Tab IWord := []
  stop : Stop := .done
  strm : Nat := 0
  items : List Item := []
  tset : Nat := 0
  tset0 : Nat := 0
  lastTset : Nat := 0
  shadow : Option Nat := none
  grans : Nat := 0
  limit : Nat := 0
  tag : Nat := 0
  deriving DecidableEq, Repr

/-- What a prefetch serves: a target, or the continuation of a wait at an index of its own list (R138). -/
inductive PfKey where
  | target (drw goff : Nat)
  | cont (drw idx : Nat)
  deriving DecidableEq, Repr

/-- A prefetched continuation. -/
structure Prefetch where
  key : PfKey
  path : Path
  deriving DecidableEq, Repr

/-- A drawer selected in run-ahead whose active-range entry is not inserted yet: ID and log count at selection. -/
structure Sel where
  id : Nat
  seq : Nat
  deriving DecidableEq, Repr

/-- A granule that plays or has played: drawer and granule, mask positions and slabs of its octets, positions delivered as
symbol K (R99), number of its first vector, exact start and period in 1/32 ps after the origin, the same per cluster
(R495), origin, timeline position, sets, entries of the site's channels as played, how it is held, what takes effect at its
first vector. -/
structure Gran where
  drw : Nat := 0
  gran : Nat := 0
  hold : Bool := true
  comp : Bool := false
  resBase : Nat := 0
  octets : Nat := 0
  mask : Nat := 0
  ranks : List Nat := []
  slabs : List (List Byte) := []
  bad : List Nat := []
  vnum : Nat := 0
  start : Nat := 0
  per : Nat := 320000
  grid : List (Nat × Nat) := []
  origin : Nat := 0
  base : Nat := 0
  tset : Nat := 0
  levels : Nat := 0
  ents : List TsEnt := []
  lost : Bool := false
  paused : Bool := false
  loops : List Nat := []
  frame0 : Bool := false
  trig : Bool := false
  captSet : Option Bool := none
  marks : List Nat := []
  originRec : Option Nat := none
  deriving DecidableEq, Repr

/-- A decision that play has reached and that is not yet made (R128, R134): flag select and NEG, number of the decision
vector (none before the first), remaining time of the shadow in 1/32 ps, first vector that counts for FAIL and for
MATCH, local values so far, CORE or XL value, sequence number of a span decision and whether FLAGS was sent (R279), value
combined over the span (R280), continuation, stacks; `wait`: of a MATCHWAIT, `last`: of its last pass. -/
structure Decision where
  flag : Nat := 0
  neg : Bool := false
  lastVec : Option Nat := none
  left : Nat := 1
  ffrom : Nat := 0
  mfrom : Nat := 0
  fail : Bool := false
  mtch : Bool := false
  other : Bool := false
  seq : Option Nat := none
  sent : Bool := false
  comb : Option Bool := none
  key : PfKey := .target 0 0
  loops : List LoopEnt := []
  calls : List CallEnt := []
  wait : Bool := false
  last : Bool := false
  deriving DecidableEq, Repr

/-- A branch that is taken and whose shadow still plays: remaining time of the shadow in 1/32 ps, continuation, stacks. -/
structure Taken where
  left : Nat
  key : PfKey
  loops : List LoopEnt
  calls : List CallEnt
  deriving DecidableEq, Repr

/-- A wait in play (R134, R136, R137): of MATCHWAIT with its pass, granule and drawer, of WAITCORE with its boundary's place
on the timeline and its hold granules, both with the remaining time of the exit's shadow in 1/32 ps; TRANSIT that fills its
frame, and one that waits, since a moment in ns. -/
inductive Wait where
  | none
  | mat (span : Bool) (passes pass g : Nat) (drw len base mask : Nat) (comp : Bool) (idx tidx : Nat) (exit : Option Nat)
  | core (clear : Bool) (sel timeout t0 idx tidx cnt : Nat) (exit : Option Nat)
  | trFill (scope timeout : Nat)
  | trStop (scope timeout t0 : Nat)
  deriving DecidableEq, Repr

/-- How the current frame is played (R78 to R81). -/
inductive FMode where
  | normal | lost | pause | repeat_ | hold0
  deriving DecidableEq, Repr

/-- Play state of a context. `nGran` counts granules begun since GO, pauses and repeats included, `inFrame` those of the current frame, `gStart` is
the start of the next granule in 1/32 ps after `origin`, `base` the timeline before the origin, `grid` the same start on each cluster's own grid (R495), `thisFrame` the granules of the latest program
frame, `rep` what is left of a paused or repeated frame. `lastProg` is the number after the last vector of the program, `frames` the next frame's number,
`instr` the serial number of the instruction that plays, `strobe` the strobe
offset S of the latest program granule in 1/32 ps (R130), `trAt` drawer and index of the latest TRANSIT. -/
structure Play where
  on : Bool := false
  origin : Nat := 0
  gStart : Nat := 0
  base : Nat := 0
  grid : List Nat := []
  nGran : Nat := 0
  inFrame : Nat := 16
  fmode : FMode := .normal
  cur : Option Gran := none
  thisFrame : List Gran := []
  rep : List Gran := []
  judging : List Gran := []
  judged : Nat := 0
  tset : Nat := 0
  levels : Nat := 0
  wait : Wait := .none
  decs : List Decision := []
  taken : Option Taken := none
  failFrom : Nat := 0
  matchFrom : Nat := 0
  granFail : Bool := false
  granPass : Bool := false
  originAt : Option Nat := none
  pendTrig : Bool := false
  pendMarks : List Nat := []
  pendCapt : Option Bool := none
  lastProg : Nat := 0
  frames : Nat := 0
  instr : Nat := 0
  strobe : Int := 0
  trAt : Nat × Nat := (0, 0)
  deriving DecidableEq, Repr

/-- A context (R109): sampled configuration (R149), fall-through path, prefetches, selections awaiting their entry. -/
structure SeqCtx where
  entryDrw : Nat := 0
  entryGoff : Nat := 0
  spec : Nat := 16
  initTset : Nat := 0
  initLevels : Nat := 0
  main : Path := {}
  pfs : List Prefetch := []
  sels : List Sel := []
  nextStrm : Nat := 1
  ser : Nat := 1
  play : Play := {}
  abort : Bool := false
  thermal : Bool := false
  spanLost : Bool := false
  halted : Bool := false
  deriving DecidableEq, Repr

/-- A sequencer engine (R112): quarter of the context in service (context e + 16·cur), engine cycles of its slice, cycles spent so far. -/
structure Engine where
  cur : Nat := 0
  slice : Nat := 0
  cycles : Nat := 0
  deriving DecidableEq, Repr

/-! ## Timing sets and edge caches (chapter 06) -/

/-- The contents of an edge-cache slot beside its register: entries of the cluster's sixteen channels, period, staged
copy, use stamp (R168 to R177). -/
structure EcSlot where
  ents : List TsEnt := []
  per : Nat := 320000
  stEnts : List TsEnt := []
  stPer : Nat := 320000
  stGen : Nat := 0
  stAfter : Nat := 0
  used : Nat := 0
  deriving DecidableEq, Repr

/-- Timing-set block: running command's set, dirty marks of entries (key 256·c + s) and periods (key 256·n + s), load
queue per cluster as (site, set), use counter. -/
structure TsetState where
  cmdSet : Nat := 0
  dirtyEnt : List Nat := []
  dirtyPer : List Nat := []
  loads : Tab (List (Nat × Nat)) := []
  slots : Tab EcSlot := []
  stamp : Nat := 0
  deriving DecidableEq, Repr

/-! ## Channels (chapters 06 and 07) -/

/-- What an edge does (R159 to R163, R207). -/
inductive EvKind where
  /-- level edge; `auto`: the driver turns on at it if off (R160) -/
  | level (v auto : Bool)
  | on
  | off
  /-- ENABLE of an EDGE_OUT group -/
  | enable (v : Bool)
  /-- STROBE pulse of a width in 0.25 ps -/
  | strobe (w : Nat)
  deriving DecidableEq, Repr

/-- An edge that has not fired: placed time in 0.25 ps of device time, vector number, edge number 0 to 5, action. -/
structure EdgeEv where
  t : Nat
  vec : Nat
  edge : Nat
  kind : EvKind
  deriving DecidableEq, Repr

/-- Driver and measurement state of one channel: level, times of the latest kept events (R155, R211) in 0.25 ps, edges
to fire, level set in force (R188), running settling window and those that ended, as (start, end) in 0.25 ps (R191), last sampled state and
unreported mark (R242), dropped strobes. -/
structure Chan where
  level : Bool := false
  enabled : Bool := false
  drvOn : Bool := false
  lastLvl : Option Nat := none
  lastEn : Option Nat := none
  lastStb : Option Nat := none
  evs : List EdgeEv := []
  ls : Nat := 0
  settle : Option (Nat × Nat) := none
  settled : List (Nat × Nat) := []
  sample : Nat := 3
  unrep : Bool := false
  noStrobe : List Nat := []
  site : Option Nat := none
  deriving DecidableEq, Repr

/-- A cluster's measurement converter: whether the PPMU limits were active in the slice. -/
structure Mc where
  clampSeen : Bool := false
  deriving DecidableEq, Repr

/-! ## Fail processing and capture (chapter 08) -/

/-- One unmasked compare of a vector (R216 to R219): channel, second half of DUAL, sampled state (0 L, 1 H, 2 M), failed. -/
structure Sample where
  ch : Nat
  half : Bool
  st : Nat
  failed : Bool
  deriving DecidableEq, Repr

/-- Per-site fail and capture state: sampled configuration (R247, R248), staged records (R227, R244), counters done, timers
(none: stopped; some none: starts at the next vector; some (some d): due at timeline position d), hold-off, the vector that
waits for its trigger evaluation with its inputs (R233, R237) and the phase reached, capture position. -/
structure CaptSite where
  matchMode : Nat := 0
  recMax : Nat := 0
  mode : Nat := 0
  base : Nat := 0
  pages : Nat := 0
  chmask : Nat := 0
  spillBase : Nat := 0
  spillSize : Nat := 0
  cntCfg : List Nat := []
  cntLimit : List Nat := []
  tmrLimit : List Nat := []
  trans : List Nat := []
  acts : List Nat := []
  holds : List Nat := []
  failQ : List (List Byte) := []
  failLost : Bool := false
  captQ : List (List Byte) := []
  cntDone : List Bool := []
  tmrDue : List (Option (Option Nat)) := []
  tmrHit : List Bool := []
  holdFrom : Option Nat := none
  holdCnt : Nat := 0
  holdOver : Bool := false
  evValid : Bool := false
  evPhase : Nat := 0
  evVec : Nat := 0
  evPos : Nat := 0
  evTtag : Nat := 0
  evFail : Bool := false
  evMatch : Bool := false
  evTrig : Bool := false
  evGran : Bool := false
  evFrame : Bool := false
  evHeld : Bool := false
  evSet : Option Bool := none
  evMarks : List Nat := []
  evOrigin : Option Nat := none
  evSamples : List Sample := []
  changeNow : Bool := false
  xlRises : List Nat := []
  haltMarks : List Nat := []
  haltAt : Option (Nat × Nat) := none
  inCapt : Bool := false
  captNow : Bool := false
  stopped : Bool := true
  bytes : Nat := 0
  blocks : Nat := 0
  copied : Nat := 0
  deriving DecidableEq, Repr

/-! ## Time-interval measurement (chapter 09) -/

/-- One TDC unit: configuration sampled at ARM (R258, R264), start time and time of the latest accepted edge in 0.125 ps
(R249, R257), whether a finished HIST measurement waits to be binned (R263). -/
structure Tdc where
  hist : Bool := false
  endFull : Bool := false
  stopMax : Nat := 16
  tag : Nat := 0
  startSrc : Nat := 0
  startPol : Nat := 0
  stopSrc : Nat := 0
  stopPol : Nat := 0
  openNs : Nat := 0
  closeNs : Nat := 0
  histBase : Nat := 0
  binw : Nat := 0
  histN : Nat := 0
  start : Int := 0
  lastEdge : Option Int := none
  rearm : Bool := false
  deriving DecidableEq, Repr

/-! ## Sites and the Ulten fabric (chapter 10) -/

/-- An Ulten message (R292, R293): class, multicast, destination, source, hops left, type, data blocks. -/
structure Msg where
  cls : Nat
  mcast : Bool
  dest : Nat
  src : Nat
  ttl : Nat
  typ : Nat
  blocks : List Nat
  deriving DecidableEq, Repr

/-- Per-site state: bound octets and span configuration sampled at arm (R265, R302), the command in progress, the GO
handshake (R272 to R274), barriers (R275 to R277), span flags (R279 to R283), members heard (R284), HALTED words (R286). -/
structure SiteSt where
  octs : List Nat := []
  role : Nat := 0
  spanId : Nat := 0
  index : Nat := 0
  chips : Nat := 0
  primary : Nat := 0
  hops : Nat := 0
  dtransit : Bool := false
  cmd : Nat := 0
  armRes : Nat := 0
  collLimit : Nat := 0
  tgo : Option Nat := none
  goAt : Nat := 0
  answers : List (Nat × Nat × Nat) := []
  readySent : Bool := false
  arrivals : List Nat := []
  arrived : Bool := false
  trel : Option Nat := none
  seqNo : Nat := 0
  flagsIn : List (Nat × Nat × Nat) := []
  coreNotice : Option (Nat × Bool) := none
  heard : Tab Nat := []
  lost : List Nat := []
  words : Tab Nat := []
  spanDone : Bool := false
  deriving DecidableEq, Repr

/-- One Ulten lane: rate, coefficients trained at the previous rate (R298), highest rate both ends share, latest training status
word (R297). -/
structure ULane where
  rate : Nat := 0
  prevPre : Nat := 0
  prevPost : Nat := 4
  top : Nat := 0
  status : Nat := 0
  deriving DecidableEq, Repr

/-- One Ulten port: what its partner reported (R296), tree place, size of the subtree below it (R288). -/
structure UPort where
  partnerDepth : Option Nat := none
  partnerPort : Nat := 0
  subtree : Option Nat := none
  lanes : Tab ULane := []
  deriving DecidableEq, Repr

/-- A MGMT request on its way (R294): tag, target, whether a write, the port it left by. -/
structure MgmtReq where
  tag : Nat
  dest : Nat
  wr : Bool
  port : Nat
  deriving DecidableEq, Repr

/-- Fabric state: ports, enumeration in progress, subtree size last reported up (R288), outstanding MGMT request, next tag, messages sent as (port, message)
(the model's record of what left the chip; port 4 is the chip itself). -/
structure UltState where
  ports : Tab UPort := []
  enumBusy : Bool := false
  lastReport : Option Nat := none
  mgmt : Option MgmtReq := none
  tag : Nat := 0
  sent : List (Nat × Msg) := []
  acks : List (Nat × Nat) := []
  deriving DecidableEq, Repr

/-! ## Express lanes (chapter 11) -/

/-- An XLMARK action waiting for the lane's word boundary (R321). -/
structure LaneAct where
  act : Nat
  arg : Nat
  tb : Nat
  deriving DecidableEq, Repr

/-- One express lane: rate in force, configuration sampled at START (R317), a START waiting for training to end (R315)
and whether it keeps the counters (R322), whether the checker runs, base and dwell of the eye scan, XLMARK actions waiting, a halt stop that is due (R325). -/
structure XLane where
  rate : Nat := 0
  loop : Nat := 0
  txSrc : Nat := 0
  rxSrc : Nat := 0
  txInv : Bool := false
  rxInv : Bool := false
  fixed : Nat := 0
  drw : Nat := 0
  repeat_ : Bool := true
  rxDly : Nat := 0
  pendStart : Bool := false
  checker : Bool := false
  txOn : Bool := false
  payloadEnded : Bool := false
  pendKeep : Bool := false
  eyeBase : Nat := 0
  dwell : Nat := 0
  acts : List LaneAct := []
  haltStop : Bool := false
  flagged : Nat := 0
  deriving DecidableEq, Repr

/-! ## Site cores, scheduler and interrupt controller (chapter 12) -/

/-- A store that waits in a store buffer (R333): address and bytes. -/
structure Store where
  addr : Nat
  data : List Byte
  deriving DecidableEq, Repr

/-- The architectural registers of a site core (R328 to R334): x1 to x31, pc, user mode, the machine CSRs, retired
instructions, the moment it left reset, the shadow bank of R350, LR reservation (a 64-byte granule), store buffer, lines of
the instruction cache, waiting in WFI, mip.MTIP. -/
structure Hart where
  x : Tab (BitVec 64) := []
  pc : BitVec 64 := 0
  user : Bool := false
  mstatus : BitVec 64 := 0x200000000
  mie : BitVec 64 := 0
  mtvec : BitVec 64 := 0
  mscratch : BitVec 64 := 0
  mepc : BitVec 64 := 0
  mcause : BitVec 64 := 0
  mtval : BitVec 64 := 0
  minstret : BitVec 64 := 0
  since : Nat := 0
  shadow : Tab (BitVec 64) := []
  resv : Option Nat := none
  sb : List Store := []
  icache : Tab (List Byte) := []
  wfi : Bool := false
  mtip : Bool := false
  deriving DecidableEq, Repr

/-- A work item: its 32 bytes (R335). -/
structure WItem where
  bytes : List Byte
  deriving DecidableEq, Repr

/-- What the scheduler holds for one core: the item in the slot, the item in service, the buffer that is the slot (R342). -/
structure CoreSlot where
  slot : Option WItem := none
  svc : Option WItem := none
  buf : Nat := 0
  deriving DecidableEq, Repr

/-- Scheduler: ready lists by priority, oldest first, slots, the core filled last (R340). -/
structure SchedState where
  lists : Tab (List WItem) := []
  slots : Tab CoreSlot := []
  last : Nat := 15
  deriving DecidableEq, Repr

/-- An entry of a target's priority stack (R346 to R350): priority and the source recorded in it. -/
structure StkEnt where
  prio : Nat
  src : Option Nat
  deriving DecidableEq, Repr

/-- Interrupt controller: levels, soft-pending and latched bits of the 256 sources, stacks by target, top first, target of
the latest assignment. -/
structure IntcState where
  level : Nat := 0
  soft : Nat := 0
  latch : Nat := 0
  stack : Tab (List StkEnt) := []
  last : Nat := 16
  deriving DecidableEq, Repr


/-! ## Host interface (chapter 13) -/

/-- A descriptor in progress (R358) with its place in the order of fetches. -/
structure DmaDesc where
  host : Nat
  dev : Nat
  len : Nat
  op : Nat
  flags : Nat
  dest : Nat
  seq : Nat
  deriving DecidableEq, Repr

/-- One DMA engine: ring as sampled (R370), descriptor in progress, conditions met so far as CODE values (R360), whether its
data has moved, WRITE_ACKs outstanding. -/
structure Dma where
  ring : Nat := 0
  log2 : Nat := 4
  cur : Option DmaDesc := none
  conds : List Nat := []
  moved : Bool := false
  acks : List Nat := []
  deriving DecidableEq, Repr

/-- One mailbox: when its timer started and with which TMO in µs (none: stopped), the senders that the TX_EVENT bits name. -/
structure Mbx where
  timer : Option (Nat × Nat) := none
  toFor : Nat := 0
  ackFor : Nat := 0
  deriving DecidableEq, Repr

/-- Answer to a PCIe configuration request: retry, a word read, or done. -/
inductive CfgRsp where
  | none
  | retry
  | word (w : Word)
  | done
  deriving DecidableEq, Repr

/-- The endpoint: configuration words written by the host, the latest configuration answer, posted writes sent to host memory as
(address, bytes), fetch count, engines, mailboxes. -/
structure HostSt where
  cfg : Tab Word := []
  rsp : CfgRsp := .none
  out : List (Nat × List Byte) := []
  fetches : Nat := 0
  dma : Tab Dma := []
  mbx : Tab Mbx := []
  deriving DecidableEq, Repr


/-! ## Time (chapter 14) -/

/-- One time base: anchor and fraction kept by folds, in units of 2^-44 ns (R373, R374). -/
structure TBase where
  anchor : Nat := 0
  frac : Nat := 0
  deriving DecidableEq, Repr


/-- An entry of the transmit timestamp queue (R384): messageType, sequenceId, timestamp as NS, SECL and SECH. -/
structure TsEntry where
  typ : Nat
  seq : Nat
  ns : Nat
  secl : Nat
  sech : Nat
  deriving DecidableEq, Repr

/-- Time discipline (R381, R382): SYNCs in a row that changed nothing, the transmit timestamp queue, oldest first, Ethernet
frames sent. -/
structure TimeState where
  clean : Nat := 0
  tsq : List TsEntry := []
  frames : List (List Byte) := []
  deriving DecidableEq, Repr


/-! ## Governor (chapter 15) -/

/-- Governor state of one site: declared energy and duration sampled at arm (R400), largest unscaled energy of a selected
drawer in pJ (R390), charge in µW, time of admission in ns (R396), whether the pending request is a resume,
number of the evaluation after which the request arrived (R395), moment in ns up to which its wait is counted. -/
structure GovSite where
  emax : Nat := 0
  dur : Nat := 0
  rawMax : Nat := 0
  charge : Nat := 0
  since : Nat := 0
  resume : Bool := false
  arr : Nat := 0
  waitT : Nat := 0
  deriving DecidableEq, Repr

/-- Governor: sites, requests in order of arrival (R395), consecutive evaluations out of and within tolerance (R388),
modelled junction temperature in °C (R392), evaluations made. -/
structure GovState where
  sites : Tab GovSite := []
  queue : List Nat := []
  bad : Nat := 0
  good : Nat := 0
  tj : Rat := 0
  evals : Nat := 0
  deriving DecidableEq, Repr



/-! ## Calibration (chapter 16) -/

/-- Calibration state of one cluster: when the running activity began, whether the reference was lost during the running activity (R403), the results of the running
activity are being applied, targets of corrections that still move (R410), by index: 0 to 15 deskew, 16 to 31 comparator
offset, 32 to 47 impedance, 48 to 207 level trims; their values before the activity; level trims in force; drift that the
fine-delay tap table is scaled for and pending one (R418); activities in HELD_SPAN (R413); sums and count of the month's
drift reads (R417). -/
structure CalClu where
  since : Nat := 0
  refBad : Bool := false
  applying : Bool := false
  target : Tab Int := []
  old : Tab Int := []
  level : Tab Int := []
  tap : Int × Int := (0, 0)
  tapNew : Option (Int × Int) := none
  sum : Int := 0
  reads : Nat := 0
  deriving DecidableEq, Repr

/-- SPAN_SKEW on this chip (R412 to R415): its site, whether it waits for or holds the clusters, when it was requested, sum of
the hop offsets in 0.125 ps and barriers run, whether its correction is being applied, that correction in 0.25 ps, a GO that
waits for it. -/
structure CalSpan where
  site : Option Nat := none
  holds : Bool := false
  since : Nat := 0
  sum : Int := 0
  count : Nat := 0
  refBad : Bool := false
  applying : Bool := false
  target : Int := 0
  goWaits : Bool := false
  deriving DecidableEq, Repr

/-- Calibration and Ephemeris state. -/
structure CalState where
  clu : Tab CalClu := []
  span : CalSpan := {}
  deriving DecidableEq, Repr



/-! ## Start-up and updates (chapter 17) -/

/-- The update request in progress (R448): operation, flags, length and address. -/
structure UpdReq where
  op : Nat
  flags : Nat
  len : Nat
  addr : Nat
  deriving DecidableEq, Repr

/-- Boot state (R425 to R448): whether no boot has begun since PWRGOOD rose, slots tried, the slot in work, whether LOAD and
HBM_TRAIN have ended, index and offset of the next configuration record, START mask of the image, the update in progress, the result
code that waits for UPDATE_DONE, a reboot that is due. -/
structure BootState where
  first : Bool := true
  tried : List Nat := []
  slot : Nat := 0
  loadDone : Bool := false
  hbmDone : Bool := false
  recIdx : Nat := 0
  recOff : Nat := 0
  start : Nat := 0
  upd : Option UpdReq := none
  updWait : Option Nat := none
  reboot : Bool := false
  deriving DecidableEq, Repr



/-! ## Management (chapter 18) -/

/-- The ledger's content with every change made so far (R461): active slot, trial flag, rollback counter, powered hours at start-up,
Ephemeris ring: next index, records held, records ever written, records by ring index. -/
structure Ledger where
  slot : Nat := 0
  trial : Bool := false
  rb : Nat := 0
  hours : Nat := 0
  ephNext : Nat := 0
  ephCount : Nat := 0
  ephTotal : Nat := 0
  eph : Tab (List Byte) := []
  deriving DecidableEq, Repr

/-- The TAP (R468): the instruction loaded, the boundary-scan update register, what the latest data scan shifted out. -/
structure Tap where
  ir : Nat := 2
  bsr : List Bool := []
  out : List Bool := []
  deriving DecidableEq, Repr

/-- Management subsystem: the flash, unlisted bytes of which read 0xFF (R429), the ledger and a commit that is due (R464), queue
of log records without SEQ and CRC, number and ring slot of the next record (R458 to R460), time of the latest watchdog reload and the
timeout loaded (R454), whether and when it has expired, RTC in ns when TIME_CNT was 0 and whether VBAT was lost since the
latest boot (R457), UART FIFOs (R465), Ethernet frames received, what the SMBus responder returned last (R467), the TAP. -/
structure MgmtState where
  flash : Tab Byte := []
  ledger : Ledger := {}
  commit : Bool := false
  logQ : List (List Byte) := []
  logNext : Nat := 0
  logStart : Nat := 0
  kick : Nat := 0
  load : Nat := 0
  expired : Bool := false
  expiredAt : Nat := 0
  rtc : Int := 0
  vbatLost : Bool := false
  rx : List Byte := []
  tx : List Byte := []
  eth : List (List Byte) := []
  smb : List Byte := []
  tap : Tap := {}
  deriving DecidableEq, Repr


/-! ## The whole state -/

/-- The state of the block. -/
structure State where
  regs : Tab Word := []
  mem : Tab Byte := []
  now : Nat := 0
  pending : List Instr := []
  free : Nat := 0
  req : Tab ReqCtx := []
  pins : Pins := {}
  drw : DrwState := {}
  art : Tab ArtInfo := []
  strm : Tab StrmSite := []
  memc : MemcState := {}
  seq : Tab SeqCtx := []
  eng : Tab Engine := []
  ucs : Tab Nat := []
  ts : TsetState := {}
  chan : Tab Chan := []
  mc : Tab Mc := []
  capt : Tab CaptSite := []
  site : Tab SiteSt := []
  ult : UltState := {}
  tdc : Tab Tdc := []
  xl : Tab XLane := []
  gov : GovState := {}
  tb : Tab TBase := []
  hart : Tab Hart := []
  sched : SchedState := {}
  intc : IntcState := {}
  host : HostSt := {}
  cal : CalState := {}
  time : TimeState := {}
  boot : BootState := {}
  mgmt : MgmtState := {}
  deriving DecidableEq, Repr

/-- Why a step stops with a fault: no rule of the spec stops the block, so there is no reason. -/
inductive Fault where
  deriving DecidableEq, Repr

/-- Why a command has no meaning. -/
inductive Refusal where
  /-- Raised by the dispatcher for a command whose meaning is not written yet. Safe: nothing can be proved of it. -/
  | notModelled (mnemonic : String)
  deriving DecidableEq, Repr

/-- The state right after reset: every register at its reset value, the memory map as an unlisted address reads, no
command waiting. -/
def State.reset : State := {}

end Sys2Proof.Machine
end

