-- ==== Sys2Proof/Machine/Ops.lean ====
section
/-!
DEFINITION. The named operations over the state: register words and fields, counters, the memory map, per-unit
structures, and small helpers that every family uses.
-/

namespace Sys2Proof.Machine

/-! ## Bits and bytes -/

/-- Bits [hi:lo] of a word, as a number. -/
def bitsOf (w : Word) (hi lo : Nat) : Nat := (w.toNat / 2 ^ lo) % 2 ^ (hi + 1 - lo)

/-- The word with bits [hi:lo] replaced by the low bits of `v`. -/
def withBits (w : Word) (hi lo v : Nat) : Word :=
  BitVec.ofNat 32 (w.toNat % 2 ^ lo + (v % 2 ^ (hi + 1 - lo)) * 2 ^ lo + w.toNat / 2 ^ (hi + 1) * 2 ^ (hi + 1))

/-- A Bool as a bit. -/
def b2n (b : Bool) : Nat := if b then 1 else 0

/-- The little-endian number of a list of bytes. -/
def leNat : List Byte → Nat
  | [] => 0
  | b :: bs => b.toNat + 256 * leNat bs

/-- The `n` bytes of a number, little-endian. -/
def leBytes : Nat → Nat → List Byte
  | 0, _ => []
  | n + 1, v => BitVec.ofNat 8 v :: leBytes n (v / 256)

/-- A two's complement field of `w` bits as an integer. -/
def sext (w v : Nat) : Int := if v < 2 ^ (w - 1) then (v : Int) else (v : Int) - 2 ^ w

/-- The `w`-bit two's complement encoding of an integer. -/
def toBits (w : Nat) (x : Int) : Nat := (x % (2 ^ w : Int)).toNat

/-- Number of ones among bits 0 to n − 1. -/
def popCount (n v : Nat) : Nat := ((List.range n).filter (fun i => v.testBit i)).length

/-- The positions of the ones among bits 0 to n − 1, ascending. -/
def bitList (n v : Nat) : List Nat := (List.range n).filter (fun i => v.testBit i)

/-- A number with bit `i` set to `b`. -/
def setBitN (v i : Nat) (b : Bool) : Nat := if v.testBit i = b then v else if b then v + 2 ^ i else v - 2 ^ i

/-- The largest value of a saturating 32-bit counter (R5). -/
def satMax : Nat := 0xFFFFFFFF

/-- The least multiple of `m` at or after `t`. -/
def ceilTo (m t : Nat) : Nat := (t + m - 1) / m * m

/-- Quotient rounded up. -/
def ceilDiv (a b : Nat) : Nat := (a + b - 1) / b

/-- Update the `i`-th element of a list. -/
def modAt {α : Type} (l : List α) (i : Nat) (f : α → α) : List α := l.modify i f

/-! ## Requesters (R22) -/

/-- The code of a requester in GLB_ERR_SRC.REQ (R22). -/
def reqCode : Req → Nat
  | .core n => n.val
  | .mgmt => 0x10
  | .host => 0x11
  | .dma _ => 0x12
  | .ulten => 0x13
  | .device => 0x1F

/-- The key of a requester's own state (R17: each DMA engine is a requester of its own). -/
def reqKey : Req → Nat
  | .core n => n.val
  | .mgmt => 16
  | .host => 17
  | .dma e => 18 + e.val
  | .ulten => 26
  | .device => 27

/-! ## Combinators on states -/

/-- Apply `f` if the condition holds. -/
def State.when (s : State) (c : Bool) (f : State → State) : State := if c then f s else s

/-- Fold an update over a list. -/
def State.each {α : Type} (s : State) (l : List α) (f : State → α → State) : State := l.foldl f s

/-! ## Register words and fields -/

/-- The word that the register at a BAR0 offset holds. -/
def State.word (s : State) (off : Nat) : Word := Tab.get (resetWord off) s.regs off

/-- Replace the word of the register at a BAR0 offset. -/
def State.setWord (s : State) (off : Nat) (v : Word) : State :=
  { s with regs := Tab.set (resetWord off) off v s.regs }

/-- The value of a field. -/
def State.get (s : State) (f : Fld) : Nat := bitsOf (s.word f.off) f.hi f.lo

/-- Replace a field. -/
def State.put (s : State) (f : Fld) (v : Nat) : State := s.setWord f.off (withBits (s.word f.off) f.hi f.lo v)

/-- Whether a field is not zero. -/
def State.is (s : State) (f : Fld) : Bool := s.get f != 0

/-- The number a register holds. -/
def State.num (s : State) (off : Nat) : Nat := (s.word off).toNat

/-- Replace a register by a number. -/
def State.putN (s : State) (off v : Nat) : State := s.setWord off (BitVec.ofNat 32 v)

/-- Add `k` to a counter that saturates at 0xFFFF_FFFF (R5). -/
def State.addSat (s : State) (off k : Nat) : State := s.putN off (min satMax (s.num off + k))

/-- Increment a counter that saturates at 0xFFFF_FFFF (R5). -/
def State.bump (s : State) (off : Nat) : State := s.addSat off 1

/-- Increment a field that wraps. -/
def State.wrapInc (s : State) (f : Fld) : State := s.put f (s.get f + 1)

/-- Bit `i` of a register word. -/
def State.bit (s : State) (off i : Nat) : Bool := (s.num off).testBit i

/-- Set or clear bit `i` of a register word. -/
def State.putBit (s : State) (off i : Nat) (b : Bool) : State := s.putN off (setBitN (s.num off) i b)

/-- The value of a pair register (its high word at the next offset). -/
def State.pair (s : State) (off : Nat) : Nat := s.num off + 2 ^ 32 * s.num (off + 4)

/-- Set both words of a pair register. -/
def State.putPair (s : State) (off v : Nat) : State :=
  (s.putN off (v % 2 ^ 32)).putN (off + 4) (v / 2 ^ 32 % 2 ^ 32)

/-! ## The memory map (R20) -/

/-- What an unlisted address of the memory map reads as: after power-on the contents are undefined (R49); the model
takes 0. DESIGN CHOICE (assumption 3). -/
def memDefault : Byte := 0

/-- The canonical form of memory: addresses rising, no listed byte equal to what an unlisted address reads as. -/
abbrev Memory.wf (m : Tab Byte) : Bool := Tab.wf (fun _ => memDefault) m

/-- One byte of the memory map. -/
def State.rdByte (s : State) (a : Nat) : Byte := Tab.get memDefault s.mem a

/-- Write one byte of the memory map. -/
def State.wrByte (s : State) (a : Nat) (b : Byte) : State := { s with mem := Tab.set memDefault a b s.mem }

/-- `n` bytes from an address. -/
def State.rdBytes (s : State) (a : Nat) : Nat → List Byte
  | 0 => []
  | n + 1 => s.rdByte a :: s.rdBytes (a + 1) n

/-- Write bytes from an address upwards. -/
def State.wrBytes (s : State) (a : Nat) : List Byte → State
  | [] => s
  | b :: bs => (s.wrByte a b).wrBytes (a + 1) bs

/-- A little-endian number of `n` bytes in memory. -/
def State.rdLe (s : State) (a n : Nat) : Nat := leNat (s.rdBytes a n)

/-! ## Structures per unit -/

def State.rq (s : State) (r : Req) : ReqCtx := Tab.get {} s.req (reqKey r)
def State.updRq (s : State) (r : Req) (f : ReqCtx → ReqCtx) : State :=
  { s with req := Tab.set {} (reqKey r) (f (s.rq r)) s.req }

/-- A committing _LO write takes the requester's staged high word and clears it (R19). -/
def State.takeStaged (s : State) (r : Req) : Word × State :=
  ((s.rq r).staged, s.updRq r (fun c => { c with staged := 0 }))

def State.strmOf (s : State) (n : Nat) : StrmSite := Tab.get {} s.strm n
def State.updStrm (s : State) (n : Nat) (f : StrmSite → StrmSite) : State :=
  { s with strm := Tab.set {} n (f (s.strmOf n)) s.strm }

def State.seqOf (s : State) (n : Nat) : SeqCtx := Tab.get {} s.seq n
def State.updSeq (s : State) (n : Nat) (f : SeqCtx → SeqCtx) : State :=
  { s with seq := Tab.set {} n (f (s.seqOf n)) s.seq }
def State.playOf (s : State) (n : Nat) : Play := (s.seqOf n).play
def State.updPlay (s : State) (n : Nat) (f : Play → Play) : State :=
  s.updSeq n (fun c => { c with play := f c.play })

def State.engOf (s : State) (e : Nat) : Engine := Tab.get {} s.eng e
def State.updEng (s : State) (e : Nat) (f : Engine → Engine) : State :=
  { s with eng := Tab.set {} e (f (s.engOf e)) s.eng }

def State.chanOf (s : State) (c : Nat) : Chan := Tab.get {} s.chan c
def State.updChan (s : State) (c : Nat) (f : Chan → Chan) : State :=
  { s with chan := Tab.set {} c (f (s.chanOf c)) s.chan }

def State.captOf (s : State) (n : Nat) : CaptSite := Tab.get {} s.capt n
def State.updCapt (s : State) (n : Nat) (f : CaptSite → CaptSite) : State :=
  { s with capt := Tab.set {} n (f (s.captOf n)) s.capt }

def State.siteOf (s : State) (n : Nat) : SiteSt := Tab.get {} s.site n
def State.updSite (s : State) (n : Nat) (f : SiteSt → SiteSt) : State :=
  { s with site := Tab.set {} n (f (s.siteOf n)) s.site }

def State.bankOf (s : State) (p b : Nat) : Bank := Tab.get {} s.memc.banks (48 * p + b)
def State.updBank (s : State) (p b : Nat) (f : Bank → Bank) : State :=
  { s with memc := { s.memc with banks := Tab.set {} (48 * p + b) (f (s.bankOf p b)) s.memc.banks } }
def State.pcOf (s : State) (p : Nat) : PcState := Tab.get {} s.memc.pcs p
def State.updPc (s : State) (p : Nat) (f : PcState → PcState) : State :=
  { s with memc := { s.memc with pcs := Tab.set {} p (f (s.pcOf p)) s.memc.pcs } }

def State.slotOf (s : State) (k i : Nat) : EcSlot := Tab.get {} s.ts.slots (32 * k + i)
def State.updSlot (s : State) (k i : Nat) (f : EcSlot → EcSlot) : State :=
  { s with ts := { s.ts with slots := Tab.set {} (32 * k + i) (f (s.slotOf k i)) s.ts.slots } }

def State.tdcOf (s : State) (k u : Nat) : Tdc := Tab.get {} s.tdc (4 * k + u)
def State.updTdc (s : State) (k u : Nat) (f : Tdc → Tdc) : State :=
  { s with tdc := Tab.set {} (4 * k + u) (f (s.tdcOf k u)) s.tdc }

def State.laneOf (s : State) (n : Nat) : XLane := Tab.get {} s.xl n
def State.updLane (s : State) (n : Nat) (f : XLane → XLane) : State :=
  { s with xl := Tab.set {} n (f (s.laneOf n)) s.xl }

def State.portOf (s : State) (k : Nat) : UPort := Tab.get {} s.ult.ports k
def State.updPort (s : State) (k : Nat) (f : UPort → UPort) : State :=
  { s with ult := { s.ult with ports := Tab.set {} k (f (s.portOf k)) s.ult.ports } }
def State.ulaneOf (s : State) (k m : Nat) : ULane := Tab.get {} (s.portOf k).lanes m
def State.updUlane (s : State) (k m : Nat) (f : ULane → ULane) : State :=
  s.updPort k (fun p => { p with lanes := Tab.set {} m (f (Tab.get {} p.lanes m)) p.lanes })

def State.hartOf (s : State) (n : Nat) : Hart := Tab.get {} s.hart n
def State.updHart (s : State) (n : Nat) (f : Hart → Hart) : State :=
  { s with hart := Tab.set {} n (f (s.hartOf n)) s.hart }
def State.slotOfCore (s : State) (n : Nat) : CoreSlot := Tab.get {} s.sched.slots n
def State.updCore (s : State) (n : Nat) (f : CoreSlot → CoreSlot) : State :=
  { s with sched := { s.sched with slots := Tab.set {} n (f (s.slotOfCore n)) s.sched.slots } }
def State.dmaOf (s : State) (e : Nat) : Dma := Tab.get {} s.host.dma e
def State.updDma (s : State) (e : Nat) (f : Dma → Dma) : State :=
  { s with host := { s.host with dma := Tab.set {} e (f (s.dmaOf e)) s.host.dma } }
def State.mbxOf (s : State) (m : Nat) : Mbx := Tab.get {} s.host.mbx m
def State.updMbx (s : State) (m : Nat) (f : Mbx → Mbx) : State :=
  { s with host := { s.host with mbx := Tab.set {} m (f (s.mbxOf m)) s.host.mbx } }

/-! ## Sites -/

/-- The sites, S0 to S63. -/
def siteNums : List Nat := List.range 64

/-- SITE_n_STATUS.STATE values (R302). -/
def stIdle : Nat := 0
def stArmed : Nat := 1
def stStarting : Nat := 2
def stRunning : Nat := 3
def stWait : Nat := 4
def stHalted : Nat := 5

/-- The state of a site. -/
def State.siteState (s : State) (n : Nat) : Nat := s.get (F.SITE_n_STATUS_STATE n)

/-- A site is armed from the completion of its arm to the completion of its disarm. -/
def State.armed (s : State) (n : Nat) : Bool := s.siteState n != stIdle

/-- A site that plays vectors: it is RUNNING. -/
def State.playing (s : State) (n : Nat) : Bool := s.siteState n == stRunning

/-- The site is armed, or an arm of it that passed its checks is in progress. -/
def State.holds (s : State) (n : Nat) : Bool := s.armed n || ((s.siteOf n).cmd == 1 && (s.siteOf n).armRes ≤ 1)

/-- Whether no site is armed. -/
def State.noneArmed (s : State) : Bool := siteNums.all (fun n => !s.armed n)

/-- Octet `o` is bound to the armed site `n` (R265, R266). -/
def State.siteOct (s : State) (n o : Nat) : Bool := s.armed n && (s.siteOf n).octs.contains o

/-- The armed site binds an octet of cluster `k`. -/
def State.siteClu (s : State) (n k : Nat) : Bool := s.siteOct n (2 * k) || s.siteOct n (2 * k + 1)

/-- The clusters of a site, ascending. -/
def State.siteClus (s : State) (n : Nat) : List Nat := ((s.siteOf n).octs.map (· / 2)).dedup

/-- The channels of a site, in ascending rank and channel number. -/
def State.siteChans (s : State) (n : Nat) : List Nat :=
  (s.siteOf n).octs.flatMap (fun o => (List.range 8).map (fun j => 8 * o + j))

/-- The armed site that a channel is bound to. -/
def State.chanSite (s : State) (c : Nat) : Option Nat := siteNums.find? (fun n => s.siteOct n (c / 8))

/-- The armed sites that use a cluster. -/
def State.cluSites (s : State) (k : Nat) : List Nat := siteNums.filter (fun n => s.siteClu n k)

/-- The device is READY (R426, R445). -/
def State.ready (s : State) : Bool := s.is F.GLB_STATUS_READY

/-- The safe state is in force (R450). -/
def State.safe (s : State) : Bool := s.is F.GLB_STATUS_SAFE

/-- A GLB_COMPAT bit is in force (R1): 0 TSET4, 1 INT2CLASS, 2 TIME32, 3 STARVE_REPEAT, 4 FAIL16, 5 RESFIELD_IGNORE. -/
def State.compat (s : State) (i : Nat) : Bool := s.bit R.GLB_COMPAT i

/-- Device time in 0.25 ps, from the time counter in ns (R372). -/
def State.nowQ (s : State) : Nat := s.now * 4000

/-! ## Time bases (R372, R373) -/

/-- The signed value of a time base's rate. -/
def State.tbRate (s : State) (i : Nat) : Int := sext 32 (s.get (F.TIME_TB_i_RATE_RATE i))

/-- The correction of base `i` since its anchor, in units of 2^-44 ns, with the fraction kept by folds. -/
def State.tbCorr (s : State) (i : Nat) : Int :=
  let b := Tab.get {} s.tb i
  s.tbRate i * ((s.now : Int) - (b.anchor : Int)) + (b.frac : Int)

/-- The value of base `i` in ns, modulo 2^64 (R373). -/
def State.tbVal (s : State) (i : Nat) : Nat :=
  toBits 64 ((s.now : Int) + sext 64 (s.pair (R.TIME_TB_i_OFFSET_LO i)) + s.tbCorr i / 2 ^ 44)

/-- EXTEST, CLAMP or HIGHZ is loaded in the TAP (R468). -/
def State.tapHolds (s : State) : Bool := s.mgmt.tap.ir == 0 || s.mgmt.tap.ir == 4 || s.mgmt.tap.ir == 5

/-- The pins are held as R213 says: in the safe state, and while the TAP holds them (R468). -/
def State.pinsHeld (s : State) : Bool := s.safe || s.tapHolds

/-- The RTC in seconds (R457). -/
def State.rtcSec (s : State) : Nat := ((s.mgmt.rtc + s.now) / 1000000000 % 2 ^ 48).toNat

/-- Powered hours since manufacture (R461, R464). -/
def State.powered (s : State) : Nat := s.mgmt.ledger.hours + s.now / 3600000000000

/-- Take a free value below `2 ^ w` and count it (an undefined or unstated result). -/
def State.freeBits (s : State) (w : Nat) : Nat × State :=
  (Config.freeValue s.free % 2 ^ w, { s with free := s.free + 1 })

/-- A quotient as an integer of which the spec does not state the rounding: exact where it divides, otherwise one of the two
neighbours, which one is a free value; a quotient by 0 is a free value of `w` bits. -/
def State.roundFree (s : State) (w : Nat) (num : Int) (den : Nat) : Int × State :=
  if den = 0 then let r := s.freeBits w; (r.1, r.2)
  else if num % den = 0 then (num / den, s)
  else let r := s.freeBits 1; (num / den + r.1, r.2)

/-- The nearest integer to a quotient, ties away from 0. -/
def nearest (num : Int) (den : Nat) : Int :=
  if 0 ≤ num then (2 * num + den) / (2 * den) else -((2 * (-num) + den) / (2 * den))

/-- The nearest multiple of 10 to an integer, ties toward 0 (R378, R381). -/
def nearest10 (x : Int) : Int := if 0 ≤ x then (x + 4) / 10 * 10 else -((-x + 4) / 10 * 10)

end Sys2Proof.Machine
end

