-- ==== Sys2Proof/Machine/Flags.lean ====
section
/-!
DEFINITION. Flags and causes: INVALID causes and VALID (R7, R228, R229), the site flags of the sequencer (R109, R120),
refused encodings (R14), and event bits.
-/

namespace Sys2Proof.Machine

/-! ## INVALID causes (R7) -/

def causeStarved : Nat := 0
def causeEcc : Nat := 1
def causeTset : Nat := 2
def causeSlip : Nat := 3
def causeRef : Nat := 4
def causeLevels : Nat := 5
def causeCollide : Nat := 6
def causeRace : Nat := 7

/-- Set INVALID cause `i` of site `n`: the cause bit is set, VALID and PASS clear (R7, R229). -/
def State.invalidate (s : State) (n i : Nat) : State :=
  ((s.putBit (R.FAIL_SITE_n_RESULT n) (16 + i) true).putBit (R.FAIL_SITE_n_RESULT n) 31 false).putBit
    (R.FAIL_SITE_n_RESULT n) 30 false

/-- Set an INVALID cause on each listed site. -/
def State.invalidateAll (s : State) (l : List Nat) (i : Nat) : State := s.each l (fun t n => t.invalidate n i)

/-- Set REF_LOST on every armed site that plays vectors (R25). -/
def State.refLostAll (s : State) : State := s.invalidateAll (siteNums.filter s.playing) causeRef

/-- The selected reference is valid (R25): not in holdover, and the recovered clock or a present REFCLK in window. -/
def State.refValid (s : State) : Bool :=
  !s.is F.CLK_REF_STATUS_HOLDOVER && (s.is F.CLK_REF_STATUS_USING_RECOVERED ||
    (s.is F.CLK_REF_STATUS_PRESENT && s.is F.CLK_REF_STATUS_FREQ_OK))

/-- The reference is valid for a site: the PLLs of its clusters are locked too (R29). -/
def State.siteRefValid (s : State) (n : Nat) : Bool :=
  s.refValid && (s.siteClus n).all (fun k => s.bit R.CLK_PLL_LOCK k)

/-! ## Site flags (R120): 0 FAIL, 1 MATCH, 2 SPAN_FAIL, 3 SPAN_MATCH, 4 to 7 CORE0 to CORE3, 8 XL_EVENT -/

/-- Flag `i` of context `n`. -/
def State.flag (s : State) (n i : Nat) : Bool := s.bit (R.SEQ_CTX_n_FLAGS n) i

/-- Set or clear flag `i` of context `n`. -/
def State.putFlag (s : State) (n i : Nat) (b : Bool) : State := s.putBit (R.SEQ_CTX_n_FLAGS n) i b

/-! ## TDC result flags (R262) -/

/-- A TDC unit of cluster `k` uses a channel source. -/
def Tdc.channels (x : Tdc) : Bool := x.startSrc < 16 || x.stopSrc < 16

/-- The flags of R262 are set on the units of cluster `k` that measure, for the conditions that hold now. -/
def State.tdcNote (s : State) (k : Nat) : State :=
  s.each (List.range 4) (fun t u =>
    let st := t.get (F.CLU_k_TDC_u_STATUS_STATE k u)
    if st = 1 ∨ st = 2 then
      let t := t.when (!t.refValid || !t.bit R.CLK_PLL_LOCK k) (fun v => v.put (F.CLU_k_TDC_u_STATUS_REF_LOST k u) 1)
      let t := t.when ((t.tdcOf k u).channels && !t.is (F.CLU_k_BANK_STATUS_IN_WINDOW k))
        (fun v => v.put (F.CLU_k_TDC_u_STATUS_BANK k u) 1)
      t.when (!t.is (F.CLU_k_TDC_u_CAL_VALID k u)) (fun v => v.put (F.CLU_k_TDC_u_STATUS_UNCAL k u) 1)
    else t)

/-- The clusters. -/
def clusterNums : List Nat := List.range 32

/-- The reference is no longer valid (R25, R253, R262, R403): sites that play, TDC results and calibration activities that
run are marked. -/
def State.refInvalid (s : State) : State :=
  let s := s.refLostAll.each clusterNums (fun t k => t.tdcNote k)
  let mark := fun (t : State) k =>
    if t.is (F.CAL_CL_k_STATE_ACTIVE k) then
      { t with cal := { t.cal with clu := Tab.ins k { Tab.get {} t.cal.clu k with refBad := true } t.cal.clu } }
    else t
  let s := s.each clusterNums mark
  if s.cal.span.holds then { s with cal := { s.cal with span := { s.cal.span with refBad := true } } } else s

/-! ## Refused encodings (R14) -/

/-- Count one refused field or combination (R14). -/
def State.enumRefused (s : State) : State := s.bump R.GLB_ERR_ENUM

/-- Whether a value lies in one of the allowed ranges; an empty list allows all. -/
def inRanges (l : List (Nat × Nat)) (v : Nat) : Bool := l.isEmpty || l.any (fun r => r.1 ≤ v && v ≤ r.2)

/-- Write one register field under its access type (R2, R13, R14, R492): a reserved encoding of a writable field keeps the
field and is counted; a read-only, read-clear or write-only field stores nothing. -/
def writeField (ready : Bool) (off : Nat) (v : Word) (s : State) (f : RegField) : State :=
  let x := bitsOf v f.hi f.lo
  let cur := bitsOf (s.word off) f.hi f.lo
  let store (y : Nat) := s.put ⟨off, f.hi, f.lo⟩ y
  match f.acc with
  | .rw => if inRanges f.ok x then store x else s.enumRefused
  | .rwl => if ready then s else if inRanges f.ok x then store x else s.enumRefused
  | .w1c => store (Nat.land cur (2 ^ (f.hi + 1 - f.lo) - 1 - x))
  | .w1s => store (Nat.lor cur x)
  | .wo => if inRanges f.ok x then s else s.enumRefused
  | .ro => s
  | .rc => s

/-- Write every field of a register under its access type. -/
def writeFields (s : State) (r : RegRow) (off : Nat) (v : Word) : State :=
  r.fields.foldl (writeField s.ready off v) s

/-- A 32-bit write of a register that has no rule of its own beyond the table (R2, R13, R14). -/
def State.plainWrite (s : State) (off : Nat) (v : Word) : State :=
  match findRow off with
  | none => s
  | some r => writeFields s r off v

/-- What a read of a register returns under R2: write-only fields read 0. -/
def maskRead (r : RegRow) (w : Word) : Word :=
  r.fields.foldl (fun a f => if f.acc = .wo then withBits a f.hi f.lo 0 else a) w

/-- Clear the read-clear fields of a register (R2). -/
def clearRc (s : State) (r : RegRow) (off : Nat) : State :=
  r.fields.foldl (fun t f => if f.acc = .rc then t.put ⟨off, f.hi, f.lo⟩ 0 else t) s

/-- Clear the read-only and read-clear registers of a list of offsets to their reset values (arming). -/
def State.clearRegs (s : State) (l : List Nat) : State := s.each l (fun t o => t.setWord o (resetWord o))

end Sys2Proof.Machine
end

