-- ==== Sys2Proof/Machine/Drawers.lean ====
section
/-!
DEFINITION. Drawers and the shelf (chapter 02): address regions, directory entries and their CRC, the DRW commands, the
active-range table and the write log.
-/

namespace Sys2Proof.Machine

/-! ## Regions (R20) -/

def hbmEnd : Nat := 0x8FC000000
def dirBase : Nat := 0x8FC000000
def dirEnd : Nat := 0x900000000
def shelfBase : Nat := 0xC02000000
def shelfEnd : Nat := 0xC05000000

/-- The address lies in the HBM3E region, the directory included. -/
def inHbm (a : Nat) : Bool := a < dirEnd
/-- The address lies on the shelf. -/
def inShelf (a : Nat) : Bool := shelfBase ≤ a && a < shelfEnd

/-- Two byte ranges (base, length) share a byte. -/
def overlaps (a b : Nat × Nat) : Bool := a.1 < b.1 + b.2 && b.1 < a.1 + a.2 && a.2 != 0 && b.2 != 0

/-! ## CRC-32C (R37) -/

/-- One bit of CRC-32C, reflected polynomial 0x82F63B78. -/
def crcBit (c : Nat) : Nat := if c % 2 = 1 then Nat.xor (c / 2) 0x82F63B78 else c / 2
/-- One byte. -/
def crcByte (c : Nat) (b : Byte) : Nat :=
  let x := Nat.xor c b.toNat
  crcBit (crcBit (crcBit (crcBit (crcBit (crcBit (crcBit (crcBit x)))))))
/-- CRC-32C of a list of bytes. -/
def crc32c (l : List Byte) : Nat := Nat.xor (l.foldl crcByte 0xFFFFFFFF) 0xFFFFFFFF

/-! ## Event log records (R458, R460) -/

/-- Bytes 0x04 to 0x3B of a log record: source, severity, code, requester and 32 bytes of data. Its number and check code are
added when it is written. -/
def State.logBody (s : State) (src sev code req : Nat) (data : List Byte) : List Byte :=
  leBytes 1 src ++ leBytes 1 sev ++ leBytes 2 code ++ leBytes 8 s.now ++ leBytes 6 s.rtcSec ++
    leBytes 1 req ++ leBytes 1 0 ++ leBytes 4 (s.num R.MGS_KA_BOOTS) ++ data

/-- Queue a record, or drop and count it while the queue holds 256 (R460). -/
def State.logPush (s : State) (src sev code req : Nat) (data : List Byte) : State :=
  if 256 ≤ s.mgmt.logQ.length then (s.bump R.MGS_LOG_LOST).put F.MGS_EVENT_LOG_LOST 1
  else { s with mgmt := { s.mgmt with logQ := s.mgmt.logQ ++ [s.logBody src sev code req data] } }

/-- The device logs an event of an INTC source: severity, code and data are not stated and are free values (R458). -/
def State.logEvent (s : State) (src : Nat) : State :=
  let sev := s.freeBits 2
  let code := sev.2.freeBits 15
  let data := code.2.freeBits 256
  data.2.logPush src sev.1 code.1 0 (leBytes 32 data.1)

/-! ## Directory entries -/

/-- The address of the entry of drawer `id` (R37). -/
def entryAddr (id : Nat) : Nat := dirBase + 64 * id

/-- Bytes [i, i + n) of an entry as a number. -/
def sub (l : List Byte) (i n : Nat) : Nat := leNat ((l.drop i).take n)

/-- Decode the 64 bytes of an entry (R37). -/
def decodeEntry (id : Nat) (l : List Byte) : DirEnt :=
  { id, base := sub l 0 5, len := sub l 8 4, type := sub l 12 1, flags := sub l 13 1, ilen := sub l 14 2,
    mask := sub l 16 8, iaddr := sub l 24 5, energy := sub l 32 4 }

/-- The entry of a drawer as memory holds it. -/
def State.entry (s : State) (id : Nat) : DirEnt := decodeEntry id (s.rdBytes (entryAddr id) 64)

/-- SHELF flag of an entry (R39). -/
def DirEnt.shelf (e : DirEnt) : Bool := e.flags.testBit 0

/-- Octets an entry covers. -/
def DirEnt.octets (e : DirEnt) : Nat := popCount 64 e.mask

/-- Size of the data area (R32, R35). -/
def DirEnt.dataSize (e : DirEnt) : Nat := if e.type = 2 then 96 * e.len else 96 * e.len * e.octets

/-- Size of the result area (R34). -/
def DirEnt.resSize (e : DirEnt) : Nat := if e.type = 3 then e.dataSize else 0

/-- The byte ranges a drawer covers: data area, result area, instruction list (R50). -/
def DirEnt.ranges (e : DirEnt) : List (Nat × Nat) :=
  [(e.base, e.dataSize), (e.base + e.dataSize, e.resSize), (e.iaddr, 8 * e.ilen)]

/-- The drawer is committed (R46). -/
def State.committed (s : State) (id : Nat) : Bool := s.bit (R.DRW_COMMIT_MAP_w (id / 32)) (id % 32)

/-- The committed IDs, read off the committed bitmap. -/
def State.committedIds (s : State) : List Nat :=
  (s.regs.filter (fun p => R.DRW_COMMIT_MAP_w 0 ≤ p.1 && p.1 < R.DRW_COMMIT_MAP_w 32768)).flatMap
    (fun p => (bitList 32 p.2.toNat).map (fun b => 32 * ((p.1 - R.DRW_COMMIT_MAP_w 0) / 4) + b))

/-- Every byte of a range lies in allocated shelf pages (R44, R54). -/
def State.allocated (s : State) (r : Nat × Nat) : Bool :=
  r.2 == 0 || (inShelf r.1 && r.1 + r.2 ≤ shelfEnd &&
    (List.range (ceilDiv (r.1 % 4096 + r.2) 4096)).all (fun i =>
      let p := (r.1 - shelfBase) / 4096 + i
      s.drw.allocs.any (fun a => a.1 ≤ p && p < a.1 + a.2)))

/-- The range lies in the region that SHELF names. -/
def inRegion (shelf : Bool) (base size : Nat) : Bool :=
  if shelf then shelfBase ≤ base && base + size ≤ shelfEnd && base < shelfEnd
  else base + size ≤ hbmEnd && base < hbmEnd

/-- The reserved bits and bytes of an entry are 0 (R37, R39). -/
def entryReservedOk (l : List Byte) : Bool :=
  sub l 5 3 == 0 && sub l 29 3 == 0 && sub l 13 1 / 16 == 0 && sub l 40 20 == 0

/-- The CRC of an entry, computed with FLAGS bits [3:1] taken as 0 (R37). -/
def entryCrc (l : List Byte) : Nat :=
  crc32c ((l.take 60).set 13 (BitVec.ofNat 8 (sub l 13 1 / 16 * 16 + sub l 13 1 % 2)))

/-- R41: the instruction list of the entry is well placed. -/
def ilistOk (e : DirEnt) : Bool :=
  if e.type = 2 then e.ilen == 0 && e.iaddr == 0
  else e.ilen != 0 && e.iaddr % 64 == 0 && inRegion e.shelf e.iaddr (8 * e.ilen)

/-- The result code of a COMMIT of drawer `id` whose latched entry is `l` (R44), checks in ascending order. -/
def commitCheck (s : State) (id : Nat) (l : List Byte) (bad : Bool) : Nat :=
  let e := decodeEntry id l
  if id = 0 then 0x01
  else if s.committed id then 0x02
  else if e.type = 0 ∨ 3 < e.type then 0x04
  else if bad ∨ entryCrc l ≠ sub l 60 4 then 0x05
  else if !entryReservedOk l then 0x06
  else if !inRegion e.shelf e.base (e.dataSize + e.resSize) then 0x07
  else if e.base % 64 ≠ 0 then 0x08
  else if e.len = 0 ∨ (!e.shelf ∧ e.len < 16) then 0x09
  else if !ilistOk e then 0x0A
  else if e.mask = 0 ∨ (e.type = 2 ∧ e.mask ≠ 1) then 0x0B
  else if e.shelf ∧ !(e.ranges.all s.allocated) then 0x0C
  else 0

/-! ## The active-range table (R50) -/

/-- Entry `i` of the table is in use. -/
def State.artValid (s : State) (i : Nat) : Bool := s.is (F.DRW_ART_n_VALID i)

/-- The table entries of site `n`: four for each site. -/
def artSlots (n : Nat) : List Nat := [4 * n, 4 * n + 1, 4 * n + 2, 4 * n + 3]

/-- The site holds an entry for the drawer. -/
def State.artOf (s : State) (n id : Nat) : Option Nat :=
  (artSlots n).find? (fun i => s.artValid i && s.get (F.DRW_ART_n_ID i) == id)

/-- Entries of the site in use. -/
def State.artUsed (s : State) (n : Nat) : Nat := ((artSlots n).filter s.artValid).length

/-- The drawer is in the table, or selected and about to be inserted (R48). -/
def State.artHas (s : State) (id : Nat) : Bool :=
  (List.range 256).any (fun i => s.artValid i && s.get (F.DRW_ART_n_ID i) == id) ||
  siteNums.any (fun n => (s.seqOf n).sels.any (fun x => x.id == id))

/-- The IDs whose active range overlaps a byte range. -/
def State.artHits (s : State) (r : Nat × Nat) : List Nat :=
  ((List.range 256).filter (fun i => s.artValid i &&
      (Tab.get {} s.art i).ranges.any (fun x => overlaps x r))).map (fun i => s.get (F.DRW_ART_n_ID i))

/-- Remove an entry. -/
def State.artDrop (s : State) (i : Nat) : State :=
  { s.setWord (R.DRW_ART_n i) 0 with art := Tab.del i s.art }

/-- Remove every entry of a site (R50). -/
def State.artClear (s : State) (n : Nat) : State := s.each (artSlots n) State.artDrop

/-! ## Uncorrectable reads (R99) -/

/-- Count and record an uncorrectable burst (R99): address, requester, and site and drawer of a stream or sequencer fetch. -/
def State.noteUe (s : State) (addr req : Nat) (sd : Option (Nat × Nat)) : State :=
  let s := ((s.bump R.MEMC_ECC_UE).putN R.MEMC_ECC_UE_ADDR_LO (addr % 2 ^ 32)).putN R.MEMC_ECC_UE_ADDR_HI (addr / 2 ^ 32)
  let s := s.putN R.MEMC_ECC_UE_SRC
    (match sd with
     | some (n, id) => 2 ^ 31 + req * 2 ^ 26 + n * 2 ^ 20 + id
     | none => req * 2 ^ 26)
  (s.put F.MEMC_EVENT_UE 1).logEvent 4

/-- Pseudo-channel of an address (R89). -/
def pcOfAddr (a : Nat) : Nat := Nat.xor (a / 256 % 32) (a / 2 ^ 20 % 32)

/-- Count a corrected single-bit error in burst `b` and schedule its write-back (R98). CE_THRESH is set once per crossing. -/
def State.noteCe (s : State) (b : Nat) : State :=
  let old := s.num R.MEMC_ECC_CE
  let s := (s.bump R.MEMC_ECC_CE).bump (R.MEMC_PC_p_CE (pcOfAddr (32 * b)))
  let th := s.num R.MEMC_CE_THRESH
  let s := s.when (th != 0 && old ≤ th && th < s.num R.MEMC_ECC_CE) (fun t => t.put F.MEMC_EVENT_CE_THRESH 1)
  { s with memc := { s.memc with writebacks := if s.memc.writebacks.contains b then s.memc.writebacks
                                                else s.memc.writebacks ++ [b] } }

/-- Add the errors a read meets (single-bit bursts `ce`, uncorrectable bursts `ue`) to what the memory holds. -/
def State.addErrs (s : State) (ce ue : List Nat) : State :=
  { s with memc := { s.memc with
      ceBursts := (s.memc.ceBursts ++ ce).dedup
      ueBursts := (s.memc.ueBursts ++ ue).dedup } }

/-- The bursts of a byte range of HBM. -/
def burstsOf (a n : Nat) : List Nat := if n = 0 then [] else List.range' (a / 32) ((a + n - 1) / 32 + 1 - a / 32)

/-- The ECC check of a read of HBM (R98, R99): counts corrected and uncorrectable bursts; answers the uncorrectable ones. -/
def State.eccRead (s : State) (a n req : Nat) (sd : Option (Nat × Nat)) : List Nat × State :=
  if inHbm a then
    let bad := s.memc.ueBursts.filter (fun b => a < 32 * b + 32 && 32 * b < a + n)
    let ce := s.memc.ceBursts.filter (fun b => a < 32 * b + 32 && 32 * b < a + n && !bad.contains b)
    (bad, (s.each ce State.noteCe).each bad (fun t b => t.noteUe (32 * b) req sd))
  else ([], s)

/-! ## DRW commands (R42 to R48) -/

/-- The DRW command encodings. -/
def drwNop : Nat := 0
def drwCommit : Nat := 1
def drwRetire : Nat := 2
def drwPin : Nat := 3
def drwUnpin : Nat := 4
def drwAlloc : Nat := 5
def drwFree : Nat := 6

/-- Refuse a DRW_CMD write made while BUSY is 1 (R42). -/
def State.drwRefuse (s : State) : State := (s.bump R.DRW_CMD_REFUSED).put F.DRW_EVENT_CMD_REFUSED 1

/-- Accept a DRW command: BUSY, OP and TAG are recorded, the argument is latched (R43). -/
def State.drwAccept (s : State) (op tag id : Nat) : State :=
  let s := ((s.put F.DRW_CMD_STATUS_BUSY 1).put F.DRW_CMD_STATUS_TAG tag).put F.DRW_CMD_STATUS_OP op
  { s with drw := { s.drw with cmdId := id, cmdArg := s.pair R.DRW_CMD_ARG_LO } }

/-- A DRW_CMD write with a defined OP: refused while BUSY, else accepted; COMMIT latches its entry (R42, R43, R45). -/
def drwCmd (op tag id : Nat) (s : State) : State :=
  if s.is F.DRW_CMD_STATUS_BUSY then s.drwRefuse
  else
    let s := s.drwAccept op tag id
    if op = drwCommit then
      let (bad, s) := s.eccRead (entryAddr id) 64 0x1F none
      { s with drw := { s.drw with latched := s.rdBytes (entryAddr id) 64, latchedBad := !bad.isEmpty } }
    else s

/-- Write the FLAGS byte of an entry. -/
def State.putFlags (s : State) (id f : Nat) : State := s.wrByte (entryAddr id + 13) (BitVec.ofNat 8 f)

/-- PINNED of a committed drawer (R39). -/
def State.pinned (s : State) (id : Nat) : Bool := (s.entry id).flags.testBit 1

/-- An express lane uses the drawer (R307): it is RUNNING and its transmit or receive source is that drawer. -/
def State.laneUses (s : State) (id : Nat) : Bool :=
  (List.range 128).any (fun n => s.get (F.XL_n_STATUS_STATE n) == 3 &&
    (((s.laneOf n).txSrc == 7 || (s.laneOf n).rxSrc == 7) && (s.laneOf n).drw == id))

/-- The first page of the lowest run of `k` free pages (R54): it starts at page 0 or where an allocation ends. -/
def findRun (allocs : List (Nat × Nat)) (k : Nat) : Option Nat :=
  let starts := (0 :: allocs.map (fun a => a.1 + a.2)).filter (fun p =>
    p + k ≤ 12288 && allocs.all (fun a => !(overlaps a (p, k))))
  starts.foldl (fun m p => match m with
    | none => some p
    | some q => some (min p q)) none

/-- The longest run of free pages. -/
def largestRun (allocs : List (Nat × Nat)) : Nat :=
  (0 :: allocs.map (fun a => a.1 + a.2)).foldl (fun m p =>
    if allocs.any (fun a => a.1 ≤ p && p < a.1 + a.2) then m
    else max m (allocs.foldl (fun e a => if p ≤ a.1 then min e a.1 else e) 12288 - p)) 0

/-- Refresh the shelf registers after an allocation or a free. -/
def State.shelfShow (s : State) (base cnt : Nat) (on : Bool) : State :=
  let s := s.each (List.range' base cnt) (fun t p => t.putBit (R.DRW_SHELF_MAP_w (p / 32)) (p % 32) on)
  (s.putN R.DRW_SHELF_FREE_PAGES (12288 - (s.drw.allocs.map (·.2)).sum)).putN R.DRW_SHELF_LARGEST
    (largestRun s.drw.allocs)

/-- Page number of a shelf address, where it is the base of a page. -/
def pageOf (a : Nat) : Option Nat :=
  if shelfBase ≤ a ∧ a < shelfEnd ∧ (a - shelfBase) % 4096 = 0 then some ((a - shelfBase) / 4096) else none

/-- A committed drawer has a byte in the pages (R44, IN_USE). -/
def State.pagesUsed (s : State) (base cnt : Nat) : Bool :=
  s.committedIds.any (fun id => (s.entry id).ranges.any (fun r => overlaps r (shelfBase + 4096 * base, 4096 * cnt)))

/-- The result code of the command in progress (R44). -/
def drwResult (s : State) : Nat :=
  let op := s.get F.DRW_CMD_STATUS_OP
  let id := s.drw.cmdId
  let arg := s.drw.cmdArg
  if op = drwNop then 0
  else if op = drwCommit then commitCheck s id s.drw.latched s.drw.latchedBad
  else if op = drwAlloc then
    if arg = 0 ∨ 12288 < arg then 0x11 else if (findRun s.drw.allocs arg).isNone then 0x0F else 0
  else if op = drwFree then
    match (pageOf arg).bind (fun p => s.drw.allocs.find? (fun a => a.1 == p)) with
    | none => 0x11
    | some a => if s.pagesUsed a.1 a.2 then 0x10 else 0
  else if id = 0 then 0x01
  else if !s.committed id then 0x03
  else if op = drwRetire then if s.artHas id then 0x0D else if s.pinned id then 0x0E else 0
  else if op = drwUnpin then if s.pinned id ∧ s.laneUses id then 0x12 else 0
  else 0

/-- Mark an ID in the committed bitmap, or clear it. -/
def State.setCommitted (s : State) (id : Nat) (b : Bool) : State :=
  s.putBit (R.DRW_COMMIT_MAP_w (id / 32)) (id % 32) b

/-- Effect of a successful COMMIT (R46). -/
def State.doCommit (s : State) (id : Nat) : State :=
  let e := s.entry id
  let f := e.flags
  let f := setBitN (setBitN (setBitN f 3 (16 ≤ e.len)) 2 (!f.testBit 2)) 1 false
  let s := (s.putFlags id f).setCommitted id true
  (s.wrapInc ⟨R.DRW_GEN, 31, 0⟩).putN R.DRW_COMMITTED_CNT (s.num R.DRW_COMMITTED_CNT + 1)

/-- Effect of a successful RETIRE (R47). -/
def State.doRetire (s : State) (id : Nat) : State :=
  let s := (s.putFlags id (setBitN (s.entry id).flags 3 false)).setCommitted id false
  (s.wrapInc ⟨R.DRW_GEN, 31, 0⟩).putN R.DRW_COMMITTED_CNT (s.num R.DRW_COMMITTED_CNT - 1)

/-- Effect of the command in progress when its result is DONE. -/
def drwEffect (s : State) : State :=
  let op := s.get F.DRW_CMD_STATUS_OP
  let id := s.drw.cmdId
  let arg := s.drw.cmdArg
  if op = drwCommit then s.doCommit id
  else if op = drwRetire then s.doRetire id
  else if op = drwPin then s.putFlags id (setBitN (s.entry id).flags 1 true)
  else if op = drwUnpin then s.putFlags id (setBitN (s.entry id).flags 1 false)
  else if op = drwAlloc then
    match findRun s.drw.allocs arg with
    | none => s
    | some p =>
      let s := { s with drw := { s.drw with allocs := s.drw.allocs ++ [(p, arg)] } }
      (s.shelfShow p arg true).putPair R.DRW_CMD_RESULT_LO (shelfBase + 4096 * p)
  else if op = drwFree then
    match (pageOf arg).bind (fun p => s.drw.allocs.find? (fun a => a.1 == p)) with
    | none => s
    | some a =>
      let s := { s with drw := { s.drw with allocs := s.drw.allocs.filter (fun x => x.1 != a.1) } }
      s.shelfShow a.1 a.2 false
  else s

/-- DRW_CMD_DONE (R43): the running command completes; a code other than DONE changes nothing (R44). -/
def drwDone (s : State) : State :=
  if s.is F.DRW_CMD_STATUS_BUSY then
    let res := drwResult s
    let s := s.putPair R.DRW_CMD_RESULT_LO 0
    let s := if res = 0 then drwEffect s else s
    let s := ((s.put F.DRW_CMD_STATUS_RESULT res).put F.DRW_CMD_STATUS_BUSY 0).put F.DRW_EVENT_CMD_DONE 1
    { s with drw := { s.drw with latched := [], latchedBad := false } }
  else s

/-- The directory entry an address lies in is write-protected: its ID is committed or being committed (R45). -/
def State.dirProtected (s : State) (a : Nat) : Bool :=
  dirBase ≤ a && a < dirEnd &&
  (let id := (a - dirBase) / 64
   s.committed id || (s.is F.DRW_CMD_STATUS_BUSY && s.get F.DRW_CMD_STATUS_OP == drwCommit && s.drw.cmdId == id))

/-! ## Insertion into the active-range table (R50, R53) -/

/-- Where a selection stands in the write log: beats of the same moment count as accepted after it (R53). -/
def State.logMark (s : State) : Nat :=
  match s.drw.log.find? (fun b => b.time == s.now) with
  | some b => b.seq
  | none => s.drw.logSeq

/-- ART_INSERT: the entry of a drawer that site `n` has selected is inserted; the write log is checked for beats accepted
since the selection. -/
def artInsert (n id : Nat) (s : State) : State :=
  match (s.seqOf n).sels.find? (fun x => x.id == id), (artSlots n).find? (fun i => !s.artValid i) with
  | some sel, some i =>
    let rs := (s.entry id).ranges.filter (fun r => r.2 != 0)
    let win := s.drw.log.filter (fun b => sel.seq ≤ b.seq)
    let raced := win.any (fun b => rs.any (fun r => overlaps r (b.addr, b.len))) || 32 < s.drw.logSeq - sel.seq
    let s := { s with art := Tab.set {} i { ranges := rs } s.art }
    let s := s.setWord (R.DRW_ART_n i)
      (BitVec.ofNat 32 (2 ^ 31 + n * 2 ^ 24 + b2n raced * 2 ^ 23 + id))
    let s := s.updSeq n (fun c => { c with sels := c.sels.filter (fun x => x.id != id) })
    s.when raced (fun t => t.bump R.DRW_GUARD_RACE_CNT)
  | _, _ => s

/-! ## Meanings -/

def execDrwNop (tag : Set8) (s : State) : Host.Outcome State Fault Refusal := .next (drwCmd drwNop tag.val 0 s)
def execCommit (tag : Set8) (id : DrawerId) (s : State) : Host.Outcome State Fault Refusal :=
  .next (drwCmd drwCommit tag.val id.val s)
def execRetire (tag : Set8) (id : DrawerId) (s : State) : Host.Outcome State Fault Refusal :=
  .next (drwCmd drwRetire tag.val id.val s)
def execPin (tag : Set8) (id : DrawerId) (s : State) : Host.Outcome State Fault Refusal :=
  .next (drwCmd drwPin tag.val id.val s)
def execUnpin (tag : Set8) (id : DrawerId) (s : State) : Host.Outcome State Fault Refusal :=
  .next (drwCmd drwUnpin tag.val id.val s)
def execShelfAlloc (tag : Set8) (s : State) : Host.Outcome State Fault Refusal := .next (drwCmd drwAlloc tag.val 0 s)
def execShelfFree (tag : Set8) (s : State) : Host.Outcome State Fault Refusal := .next (drwCmd drwFree tag.val 0 s)
def execDrwCmdDone (s : State) : Host.Outcome State Fault Refusal := .next (drwDone s)
def execArtInsert (n : Site) (id : DrawerId) (s : State) : Host.Outcome State Fault Refusal :=
  .next (artInsert n.val id.val s)

end Sys2Proof.Machine
end

