-- ==== Sys2Proof/Machine/Sched.lean ====
section
/-!
DEFINITION. The work scheduler (chapter 12): work items, enqueue and its checks, the dispatcher's passes, TAKE and DONE.
-/

namespace Sys2Proof.Machine

/-! ## Work items (R335, R336) -/

/-- FLOW of an item. -/
def WItem.flow (i : WItem) : Nat := sub i.bytes 0x10 2
/-- ECLASS of an item. -/
def WItem.eclass (i : WItem) : Nat := sub i.bytes 0x12 1 / 16 % 8
/-- PRIO of an item. -/
def WItem.prio (i : WItem) : Nat := sub i.bytes 0x12 1 % 4
/-- The item with another flow. -/
def WItem.withFlow (i : WItem) (f : Nat) : WItem := { bytes := i.bytes.take 0x10 ++ leBytes 2 f ++ i.bytes.drop 0x12 }

/-- UNORDERED and SELF (R336). -/
def flowUnordered : Nat := 0xFFFE
def flowSelf : Nat := 0xFFFF

/-- The sixteen site cores. -/
def coreNums : List Nat := List.range 16

/-! ## Ready lists -/

/-- The ready list of a priority, oldest first. -/
def State.ready_ (s : State) (p : Nat) : List WItem := Tab.get [] s.sched.lists p

/-- Replace a ready list and refresh SCHED_FILL and SCHED_FILL_Pp. -/
def State.setReady (s : State) (p : Nat) (l : List WItem) : State :=
  let s := { s with sched := { s.sched with lists := Tab.set [] p l s.sched.lists } }
  (s.putN (R.SCHED_FILL_Pp p) l.length).putN R.SCHED_FILL ((List.range 4).map (fun q => (s.ready_ q).length)).sum

/-- Items in the ready lists. -/
def State.readyCount (s : State) : Nat := ((List.range 4).map (fun q => (s.ready_ q).length)).sum

/-- Items of a flow that are queued, in a slot or in service (R338). -/
def State.flowCount (s : State) (f : Nat) : Nat :=
  ((List.range 4).map (fun q => ((s.ready_ q).filter (fun i => i.flow == f)).length)).sum +
  (coreNums.map (fun n =>
    let c := s.slotOfCore n
    ((c.slot.toList ++ c.svc.toList).filter (fun i => i.flow == f)).length)).sum

/-- A flow has an item in a slot or in service (R341). -/
def State.flowHeld (s : State) (f : Nat) : Bool :=
  coreNums.any (fun n =>
    let c := s.slotOfCore n
    (c.slot.toList ++ c.svc.toList).any (fun i => i.flow == f))

/-! ## Dispatch (R340 to R343) -/

/-- First address of the TCM of core `n` (R20). -/
def tcmBase (n : Nat) : Nat := 0x0D10000000 + 0x20000 * n

/-- A write to a byte range by `who` clears the reservations of the other cores on its granules (R334). -/
def State.dropResv (s : State) (who : Option Nat) (a n : Nat) : State :=
  s.each coreNums (fun t c =>
    match (t.hartOf c).resv with
    | some g => if who ≠ some c ∧ overlaps (g, 64) (a, n) then t.updHart c (fun h => { h with resv := none }) else t
    | none => t)

/-- SCHED_CORE_n_STATUS shows the core and its buffers. -/
def State.coreShow (s : State) (n : Nat) : State :=
  let c := s.slotOfCore n
  let s := (s.put (F.SCHED_CORE_n_STATUS_RUNNING n) (s.get (F.SCHED_CORE_n_CTRL_RUN n))).put
    (F.SCHED_CORE_n_STATUS_WFI n) (b2n (s.hartOf n).wfi)
  let s := (s.put (F.SCHED_CORE_n_STATUS_IN_SERVICE n) (b2n c.svc.isSome)).put
    (F.SCHED_CORE_n_STATUS_SLOT_FULL n) (b2n c.slot.isSome)
  s.put (F.SCHED_CORE_n_STATUS_CUR_FLOW n) (match c.svc with
    | some i => i.flow
    | none => 0)

/-- An interrupt or a full slot ends WFI (R329). -/
def State.wake (s : State) (n : Nat) : State := (s.updHart n (fun h => { h with wfi := false })).coreShow n

/-- The slot of a core can be filled (R340). -/
def State.canFill (s : State) (n : Nat) : Bool :=
  (s.slotOfCore n).slot.isNone && s.is (F.SCHED_CORE_n_CTRL_RUN n) && s.is (F.SCHED_CORE_n_CFG_SCHED_EN n)

/-- The class of an item is admitted: ECLASS is at most SCHED_ALLOW.ECLASS, where 0xF admits none (R340, R343). -/
def State.classOk (s : State) (i : WItem) : Bool :=
  s.get F.SCHED_ALLOW_ECLASS != 0xF && i.eclass ≤ s.get F.SCHED_ALLOW_ECLASS

/-- The flow of an item leaves it free to run. -/
def State.flowOk (s : State) (i : WItem) : Bool := i.flow == flowUnordered || !s.flowHeld i.flow

/-- Scan lists in order for the first eligible item: it with its priority, and the items passed over for their class. -/
def State.scan (s : State) : List (Nat × WItem) → Option (Nat × WItem) × Nat
  | [] => (none, 0)
  | (p, i) :: l =>
    if !s.classOk i then
      let r := s.scan l
      (r.1, r.2 + 1)
    else if s.flowOk i then (some (p, i), 0)
    else s.scan l

/-- The items that core `n` may take by priority, highest first, oldest first. -/
def State.candidates (s : State) (n : Nat) : List (Nat × WItem) :=
  [3, 2, 1, 0].flatMap (fun p =>
    if (s.get (F.SCHED_CORE_n_CFG_PRIO_MASK n)).testBit p then (s.ready_ p).map (fun i => (p, i)) else [])

/-- A pass for core `n` (R340). -/
def State.pass (s : State) (n : Nat) : State :=
  if s.canFill n then
    let r := s.scan (s.candidates n)
    let s := s.addSat R.SCHED_ESKIP r.2
    match r.1 with
    | none => s
    | some (p, i) =>
      let l := s.ready_ p
      let s := s.setReady p (l.takeWhile (fun x => x != i) ++ (l.dropWhile (fun x => x != i)).drop 1)
      let a := tcmBase n + s.get (F.SCHED_CORE_n_CFG_SLOT_OFF n) + 32 * (s.slotOfCore n).buf
      let s := (s.wrBytes a i.bytes).dropResv none a 32
      let s := s.updCore n (fun c => { c with slot := some i })
      ({ s with sched := { s.sched with last := n } }.coreShow n).wake n
  else s

/-- One round of passes: ascending core number from the one after the core filled last (R340). -/
def State.round (s : State) : State :=
  let first := s.sched.last + 1
  s.each ((List.range 16).map (fun i => (first + i) % 16)) State.pass

/-- An item in service completes and its flow is released (R342); answers whether there was one. -/
def State.complete (s : State) (n : Nat) : State × Bool :=
  let c := s.slotOfCore n
  ((s.updCore n (fun c => { c with svc := none })).coreShow n, c.svc.isSome)

/-- The item in the slot returns to the head of its list, and the item in service completes (R343). -/
def State.retreat (s : State) (n : Nat) : State :=
  let s := match (s.slotOfCore n).slot with
    | none => s
    | some i => (s.updCore n (fun c => { c with slot := none })).setReady i.prio (i :: s.ready_ i.prio)
  let r := s.complete n
  if r.2 then r.1.round else r.1

/-! ## Enqueue (R337, R338) -/

/-- RESULT encodings of R338. -/
def enqAccepted : Nat := 1
def enqFull : Nat := 2
def enqFlow : Nat := 3

/-- Enqueue an item; SELF is valid only where a SIGNAL has replaced it. Answers the result. -/
def State.enqueue (s : State) (i : WItem) : Nat × State :=
  if i.flow = flowSelf ∨ s.get F.SCHED_FLOW_MAX_COUNT ≤ s.flowCount i.flow then
    (enqFlow, (s.bump R.SCHED_REFUSED_FLOW).put F.SCHED_EVENT_REFUSED 1)
  else if !s.is F.SCHED_CTRL_EN ∨ 4096 ≤ s.readyCount then
    (enqFull, (s.bump R.SCHED_REFUSED_FULL).put F.SCHED_EVENT_REFUSED 1)
  else (enqAccepted, (s.setReady i.prio (s.ready_ i.prio ++ [i])).round)

/-- SCHED_ENQUEUE (R337, R338): a requester writes SCHED_ITEM_W7 and submits its staged item. -/
def schedEnqueue (r : Req) (v : Word) (s : State) : State :=
  let s := s.updRq r (fun c => { c with itemW := Tab.set 0 7 v c.itemW })
  let w := (s.rq r).itemW
  let i : WItem := { bytes := (List.range 8).flatMap (fun k => leBytes 4 (Tab.get 0 w k).toNat) }
  let (res, s) := s.enqueue i
  s.updRq r (fun c => { c with
    enqResult := BitVec.ofNat 32 ((c.enqResult.toNat / 2 ^ 24 + 1) % 256 * 2 ^ 24 + res) })

/-- SIGNAL with DEST SCHED of site `n` (R125, R339), in play. -/
def State.signalSched (s : State) (n idx : Nat) : State :=
  let a := s.pair R.SEQ_SIG_BASE_LO + 32 * (64 * n + idx)
  let i : WItem := { bytes := s.rdBytes a 32 }
  let i := if i.flow = flowSelf then i.withFlow n else i
  let (res, s) := s.enqueue i
  s.when (res != enqAccepted) (fun t => (t.bump (R.SEQ_CTX_n_SIG_REFUSED n)).put (F.SEQ_CTX_n_EVENT_SIG_REFUSED n) 1)

/-- Hardware event `k` enqueues its template (R339). -/
def State.hwevEnqueue (s : State) (k : Nat) : State :=
  let i : WItem := { bytes := s.rdBytes (s.pair R.SCHED_HWEV_BASE_LO + 32 * k) 32 }
  let (res, s) := s.enqueue i
  s.when (res != enqAccepted) (fun t => (t.bump R.SCHED_HWEV_REFUSED).put F.SCHED_EVENT_HWEV_REFUSED 1)

/-- The hardware events that watch a source which becomes pending (R339). -/
def State.hwevs (s : State) (src : Nat) : State :=
  s.each (List.range 32) (fun t k =>
    if t.is (F.SCHED_HWEV_k_CFG_EN k) && t.get (F.SCHED_HWEV_k_CFG_SRC k) == src then t.hwevEnqueue k else t)

/-! ## TAKE and DONE (R342) -/

/-- SCHED_TAKE (R342): a read of SCHED_CORE_n_TAKE, its answer to the requester. -/
def schedTake (r : Req) (n : Nat) (s : State) : State :=
  let (s, released) := s.complete n
  let c := s.slotOfCore n
  let s :=
    match c.slot with
    | none => s.updRq r (fun q => { q with rword := 0 })
    | some i =>
      let s := s.updRq r (fun q => { q with rword := BitVec.ofNat 32 (2 ^ 31 + c.buf * 2 ^ 30 + i.flow) })
      ((s.updCore n (fun c => { slot := none, svc := some i, buf := 1 - c.buf })).bump (R.SCHED_CORE_n_ITEMS n)).coreShow n
  if released then s.round else if c.slot.isSome then s.pass n else s

/-- SCHED_DONE (R342): a write of SCHED_CORE_n_DONE. -/
def schedDone (n : Nat) (v : Word) (s : State) : State :=
  if bitsOf v 0 0 = 1 then
    let (s, released) := s.complete n
    if released then s.round else s
  else s

/-- SCHED_CORE_CFG_WRITE (R340, R343): a write of SCHED_CORE_n_CFG; SLOT_OFF takes multiples of 64 only. -/
def coreCfgWrite (n : Nat) (v : Word) (s : State) : State :=
  let was := s.is (F.SCHED_CORE_n_CFG_SCHED_EN n)
  let off := bitsOf v 16 0
  let s := (s.put (F.SCHED_CORE_n_CFG_SCHED_EN n) (bitsOf v 31 31)).put (F.SCHED_CORE_n_CFG_PRIO_MASK n) (bitsOf v 23 20)
  let s := if off % 64 = 0 then s.put (F.SCHED_CORE_n_CFG_SLOT_OFF n) off else s.enumRefused
  let now_ := s.is (F.SCHED_CORE_n_CFG_SCHED_EN n)
  if was && !now_ then s.retreat n
  else if !was && now_ then s.pass n
  else s

/-- The governor sets SCHED_ALLOW.ECLASS (R343, R398); a change makes passes for every slot that can be filled. -/
def State.setAllow (s : State) (e : Nat) : State :=
  if s.get F.SCHED_ALLOW_ECLASS = e then s else (s.put F.SCHED_ALLOW_ECLASS e).round

/-! ## Meanings -/

def execSchedEnqueue (r : Req) (v : Word) (s : State) : Host.Outcome State Fault Refusal := .next (schedEnqueue r v s)
def execSchedTake (r : Req) (n : Core) (s : State) : Host.Outcome State Fault Refusal := .next (schedTake r n.val s)
def execSchedDone (n : Core) (v : Word) (s : State) : Host.Outcome State Fault Refusal := .next (schedDone n.val v s)
def execSchedCoreCfgWrite (n : Core) (v : Word) (s : State) : Host.Outcome State Fault Refusal :=
  .next (coreCfgWrite n.val v s)

end Sys2Proof.Machine
end

