-- ==== Sys2Proof/Machine/Intc.lean ====
section
/-!
DEFINITION. The interrupt controller (chapter 12): source levels, pending and active state, assignment to targets, the
priority stacks, and the forerunner's scheme.
-/

namespace Sys2Proof.Machine

/-! ## Source levels (R344) -/

/-- An event register with a bit set whose enable is set. -/
def State.evLevel (s : State) (ev en : Nat) : Bool := Nat.land (s.num ev) (s.num en) != 0

/-- The level of the CLK source (R28). -/
def State.clkLevel (s : State) : Bool :=
  (s.is F.CLK_INT_EN_LOST && s.is F.CLK_REF_STATUS_LOST) || (s.is F.CLK_INT_EN_FREQ_ERR && s.is F.CLK_REF_STATUS_FREQ_ERR) ||
  (s.is F.CLK_INT_EN_REF_BACK && s.is F.CLK_REF_STATUS_REF_BACK) ||
  (s.is F.CLK_INT_EN_FALLBACK_FAIL && s.is F.CLK_REF_STATUS_FALLBACK_FAIL) ||
  (s.is F.CLK_INT_EN_PLL_UNLOCK && s.num R.CLK_PLL_UNLOCK != 0)

/-- Mailbox `m` has a bit set for the host (`true`), or for a site core or the management core (R367). -/
def State.mbxLevel (s : State) (host : Bool) (m : Nat) : Bool :=
  let x := s.mbxOf m
  let mine := fun q => if host then q == 0x11 else q ≤ 0x10
  (mine (s.get (F.MBX_m_CFG_RX m)) && s.num (R.MBX_m_RX_EVENT m) != 0) ||
  (mine x.toFor && s.is (F.MBX_m_TX_EVENT_TIMEOUT m)) || (mine x.ackFor && s.is (F.MBX_m_TX_EVENT_ACKED m))

/-- The level that the blocks present on a source (R344). -/
def State.srcLevel (s : State) (i : Nat) : Bool :=
  if i = 1 then s.clkLevel
  else if i = 2 then s.evLevel R.DRW_EVENT R.DRW_INT_EN
  else if i = 3 then s.evLevel R.STRM_EVENT R.STRM_INT_EN
  else if i = 4 then s.evLevel R.MEMC_EVENT R.MEMC_INT_EN
  else if i = 5 then s.evLevel R.SEQ_EVENT R.SEQ_INT_EN ||
    siteNums.any (fun n => s.evLevel (R.SEQ_CTX_n_EVENT n) (R.SEQ_CTX_n_INT_EN n))
  else if i = 6 then s.evLevel R.TSET_EVENT R.TSET_INT_EN
  else if i = 7 then s.evLevel R.FAIL_EVENT R.FAIL_INT_EN
  else if i = 8 then s.evLevel R.CAPT_EVENT R.CAPT_INT_EN
  else if i = 9 then s.evLevel R.ULT_EVENT R.ULT_INT_EN
  else if i = 10 then s.evLevel R.TIME_EVENT R.TIME_INT_EN
  else if i = 11 then s.evLevel R.SCHED_EVENT R.SCHED_INT_EN
  else if i = 12 then (List.range 32).any (s.mbxLevel false)
  else if i = 13 then s.evLevel R.HOSTIF_EVENT R.HOSTIF_INT_EN
  else if i = 14 then s.evLevel R.GOV_EVENT R.GOV_INT_EN
  else if i = 15 then s.evLevel R.CAL_EVENT R.CAL_INT_EN
  else if i = 16 then s.evLevel R.BOOT_EVENT R.BOOT_INT_EN
  else if i = 17 then s.evLevel R.MGS_EVENT R.MGS_INT_EN
  else if 32 ≤ i ∧ i < 64 then s.evLevel (R.CLU_k_EVENT (i - 32)) (R.CLU_k_INT_EN (i - 32)) ||
    s.evLevel (R.CLU_k_TDC_EVENT (i - 32)) (R.CLU_k_TDC_INT_EN (i - 32))
  else if 64 ≤ i ∧ i < 128 then s.evLevel (R.SITE_n_EVENT (i - 64)) (R.SITE_n_INT_EN (i - 64))
  else if 128 ≤ i ∧ i < 160 then (List.range 4).any (fun j =>
    s.evLevel (R.XL_n_EVENT (4 * (i - 128) + j)) (R.XL_n_INT_EN (4 * (i - 128) + j)))
  else if 192 ≤ i ∧ i < 256 then s.bit (R.MBX_DB_H2D_SET_w ((i - 192) / 32)) ((i - 192) % 32)
  else false

/-- The source can be pending: neither none nor reserved (R344). -/
def srcExists (i : Nat) : Bool := 1 ≤ i && !(18 ≤ i && i < 32) && i < 256

/-! ## Host events (R362) -/

/-- A rising edge of a host event sets the pending bit of every enabled vector that selects it. -/
def State.hostEvent (s : State) (e : Nat) : State :=
  s.each (List.range 64) (fun t v =>
    if t.is (F.HOSTIF_MSIX_v_SEL_EN v) && t.get (F.HOSTIF_MSIX_v_SEL_EVT v) == e
    then t.putBit (R.HOSTIF_MSIX_PBA_w (v / 32)) (v % 32) true else t)

/-! ## Pending, active, assigned -/

/-- GLB_COMPAT.INT2CLASS selects the forerunner's scheme (R350). -/
def State.int2 (s : State) : Bool := s.compat 1

/-- The source latches under the class B rule: class B, or any source in the forerunner's scheme. -/
def State.srcLatches (s : State) (i : Nat) : Bool := s.int2 || s.is (F.INTC_SRC_s_CFG_CLASS i)

/-- The source is pending (R345). -/
def State.srcPending (s : State) (i : Nat) : Bool :=
  srcExists i && (if s.srcLatches i then s.intc.latch.testBit i else s.intc.level.testBit i || s.intc.soft.testBit i)

/-- The source is active (R348). -/
def State.srcActive (s : State) (i : Nat) : Bool := s.bit (R.INTC_ACTIVE_w (i / 32)) (i % 32)

/-- The stack of a target, top first. -/
def State.stackOf (s : State) (t : Nat) : List StkEnt := Tab.get [] s.intc.stack t

/-- Replace a stack; INTC_TGT_t_RUN shows its depth and running priority. -/
def State.setStack (s : State) (t : Nat) (l : List StkEnt) : State :=
  let s := { s with intc := { s.intc with stack := Tab.set [] t l s.intc.stack } }
  (s.put (F.INTC_TGT_t_RUN_DEPTH t) l.length).put (F.INTC_TGT_t_RUN_PRIO t) (match l with
    | [] => 0
    | e :: _ => e.prio)

/-- The running priority of a target: the top entry, 0 when the stack is empty. -/
def State.running (s : State) (t : Nat) : Nat :=
  match s.stackOf t with
  | [] => 0
  | e :: _ => e.prio

/-- The target a source is assigned to. -/
def State.assigned (s : State) (i : Nat) : Option Nat :=
  if s.is (F.INTC_SRC_s_ROUTE_ASSIGNED i) then some (s.get (F.INTC_SRC_s_ROUTE_TARGET i)) else none

/-- End an assignment. -/
def State.unassign (s : State) (i : Nat) : State := s.putN (R.INTC_SRC_s_ROUTE i) 0

/-- Priority that an entry of the forerunner's scheme holds: 2 FAST, 1 NORMAL. -/
def State.class2 (s : State) (i : Nat) : Nat := 1 + s.get (F.INTC_SRC_s_CFG_CLASS i)

/-- The target that a source would be assigned to (R346, R350). -/
def State.pickTarget (s : State) (i : Nat) : Option Nat :=
  let allowed := (List.range 17).filter (fun t => s.bit (R.INTC_SRC_s_TGT i) t)
  if s.int2 then
    allowed.find? (fun t => (s.stackOf t).all (fun e => e.prio < s.class2 i))
  else if s.get (F.INTC_SRC_s_CFG_PRIO i) = 0 then none
  else
    match allowed with
    | [] => none
    | _ =>
      let low := allowed.foldl (fun m t => min m (s.running t)) 16
      ((List.range 17).map (fun d => (s.intc.last + 1 + d) % 17)).find? (fun t => allowed.contains t && s.running t == low)

/-- Assign a source that is pending, not active and not assigned. -/
def State.assign (s : State) (i : Nat) : State :=
  if s.srcPending i && !s.srcActive i && (s.assigned i).isNone then
    match s.pickTarget i with
    | none => s
    | some t => { s with intc := { s.intc with last := t } }.putN (R.INTC_SRC_s_ROUTE i) (2 ^ 31 + t)
  else s

/-- Order of two candidates: the higher priority, then the lower number. -/
def better (a b : Nat × Nat) : Nat × Nat := if a.1 < b.1 then b else a

/-- HPEND of a target as (priority, source): the best source assigned to it above its running priority (R347, R350). -/
def State.hpend (s : State) (t : Nat) : Nat × Nat :=
  (List.range 256).foldl (fun m i =>
    if s.assigned i == some t && s.srcPending i then
      let p := if s.int2 then s.class2 i else s.get (F.INTC_SRC_s_CFG_PRIO i)
      if s.running t < p then better m (p, i) else m
    else m) (0, 0)

/-- The external interrupt line of a target. -/
def State.extLine (s : State) (t : Nat) : Bool := (s.hpend t).2 != 0

/-- A core in WFI wakes on an external interrupt enabled in mie (R329). -/
def State.wakeExt (s : State) : State :=
  s.each coreNums (fun u n =>
    let h := u.hartOf n
    let p := (u.hpend n).1
    let en := if u.int2 then (p == 1 && h.mie.toNat.testBit 11) || (p == 2 && h.mie.toNat.testBit 16)
      else p != 0 && h.mie.toNat.testBit 11
    if h.wfi && en then u.wake n else u)

/-- A source becomes pending, or is pending again: it is assigned, and hardware events watch it (R339, R345, R346). -/
def State.becomePending (s : State) (i : Nat) (was : Bool) : State :=
  let s := s.assign i
  (s.when (!was && s.srcPending i) (fun t => t.hwevs i)).wakeExt

/-- Count a rising edge or a SETPEND in INTC_SRC_s_CNT, which saturates at 255 (R345). -/
def State.srcCount (s : State) (i : Nat) : State := s.putN (R.INTC_SRC_s_CNT i) (min 255 (s.num (R.INTC_SRC_s_CNT i) + 1))

/-- INTC_SOURCE_RISE (R345): the level of a source rises, where the blocks present 1. -/
def sourceRise (i : Nat) (s : State) : State :=
  if s.srcLevel i && !s.intc.level.testBit i then
    let was := s.srcPending i
    let s := { s with intc := { s.intc with
      level := setBitN s.intc.level i true
      latch := if s.srcLatches i then setBitN s.intc.latch i true else s.intc.latch } }
    ((s.srcCount i).becomePending i was).hostEvent i
  else s

/-- INTC_SOURCE_FALL (R345, R346): the level falls; a source that stops being pending loses its assignment. -/
def sourceFall (i : Nat) (s : State) : State :=
  if !s.srcLevel i && s.intc.level.testBit i then
    let s := { s with intc := { s.intc with level := setBitN s.intc.level i false } }
    if s.srcPending i then s else s.unassign i
  else s

/-- One SETPEND (R345). -/
def State.setPend (s : State) (i : Nat) : State :=
  if srcExists i then
    let was := s.srcPending i
    let s := if s.srcLatches i then { s with intc := { s.intc with latch := setBitN s.intc.latch i true } }
      else { s with intc := { s.intc with soft := setBitN s.intc.soft i true } }
    (s.srcCount i).becomePending i was
  else s

/-- INTC_SETPEND (R345): a write of INTC_SETPEND_w. -/
def intcSetpend (w : Nat) (v : Word) (s : State) : State := s.each (bitList 32 v.toNat) (fun t b => t.setPend (32 * w + b))

/-- INTC_PEND_CLEAR (R345): a write of INTC_PEND_w. -/
def intcPendClear (w : Nat) (v : Word) (s : State) : State :=
  s.each (bitList 32 v.toNat) (fun t b =>
    let i := 32 * w + b
    let t := if t.srcLatches i then { t with intc := { t.intc with latch := setBitN t.intc.latch i false } }
      else { t with intc := { t.intc with soft := setBitN t.intc.soft i false } }
    if t.srcPending i then t else t.unassign i)

/-- INTC_SRC_CFG_WRITE (R346): a write of a source's CFG (word 0) or TGT (word 1) causes a new assignment. -/
def srcCfgWrite (i : Nat) (tgt : Bool) (v : Word) (s : State) : State :=
  let s := s.plainWrite (if tgt then R.INTC_SRC_s_TGT i else R.INTC_SRC_s_CFG i) v
  ((s.unassign i).assign i).wakeExt

/-- INTC_CLAIM (R348, R350): a read of CLAIM, its answer to the requester. -/
def intcClaim (r : Req) (t : Nat) (s : State) : State :=
  let c := s.hpend t
  let answer := fun (u : State) (v : Nat) => u.updRq r (fun q => { q with rword := BitVec.ofNat 32 v })
  if 16 ≤ (s.stackOf t).length then answer (s.bump (R.INTC_TGT_t_STK_ERR t)) 0
  else if c.2 = 0 ∨ !s.srcLatches c.2 then answer s 0
  else
    let s := { s with intc := { s.intc with latch := setBitN s.intc.latch c.2 false } }
    let s := (s.putBit (R.INTC_ACTIVE_w (c.2 / 32)) (c.2 % 32) true).unassign c.2
    answer (s.setStack t ({ prio := c.1, src := some c.2 } :: s.stackOf t)) c.2

/-- Pending sources that no target could take are assigned where one is free again (R350). -/
def State.reassign (s : State) : State :=
  if s.int2 then s.each (List.range 256) (fun u i => if u.class2 i = 2 then u.assign i else u)
    |>.each (List.range 256) State.assign
  else s

/-- INTC_EOI (R349): a write of EOI. -/
def intcEoi (t : Nat) (v : Word) (s : State) : State :=
  if bitsOf v 0 0 = 1 then
    match s.stackOf t with
    | [] => s.bump (R.INTC_TGT_t_STK_ERR t)
    | e :: l =>
      let s := s.setStack t l
      let s := match e.src with
        | none => s
        | some i => (s.putBit (R.INTC_ACTIVE_w (i / 32)) (i % 32) false).assign i
      s.reassign.wakeExt
  else s

/-- INTC_PUSH (R349); it has no place in the forerunner's scheme (R350). -/
def intcPush (t : Nat) (v : Word) (s : State) : State :=
  let p := bitsOf v 3 0
  if p = 0 then s.enumRefused
  else if s.int2 then s
  else if 16 ≤ (s.stackOf t).length then s.bump (R.INTC_TGT_t_STK_ERR t)
  else s.setStack t ({ prio := p, src := none } :: s.stackOf t)

/-! ## Meanings -/

def execIntcSourceRise (i : Set8) (s : State) : Host.Outcome State Fault Refusal := .next (sourceRise i.val s)
def execIntcSourceFall (i : Set8) (s : State) : Host.Outcome State Fault Refusal := .next (sourceFall i.val s)
def execIntcSetpend (w : Fin 8) (v : Word) (s : State) : Host.Outcome State Fault Refusal := .next (intcSetpend w.val v s)
def execIntcPendClear (w : Fin 8) (v : Word) (s : State) : Host.Outcome State Fault Refusal := .next (intcPendClear w.val v s)
def execIntcSrcCfgWrite (i : Set8) (tgt : Bool) (v : Word) (s : State) : Host.Outcome State Fault Refusal :=
  .next (srcCfgWrite i.val tgt v s)
def execIntcClaim (r : Req) (t : Target) (s : State) : Host.Outcome State Fault Refusal := .next (intcClaim r t.val s)
def execIntcEoi (t : Target) (v : Word) (s : State) : Host.Outcome State Fault Refusal := .next (intcEoi t.val v s)
def execIntcPush (t : Target) (v : Word) (s : State) : Host.Outcome State Fault Refusal := .next (intcPush t.val v s)

end Sys2Proof.Machine
end

