-- ==== Sys2Proof/Machine/Cores.lean ====
section
/-!
DEFINITION. The site cores (chapter 12): reset and start, traps, the store buffer's fences, atomic instructions, WFI and the
timer. A core's plain loads and stores come as register and memory commands; its other instructions have no row.
-/

namespace Sys2Proof.Machine

/-! ## Registers -/

/-- Register x`i` of a core; x0 reads 0. -/
def Hart.get (h : Hart) (i : Nat) : BitVec 64 := if i = 0 then 0 else Tab.get 0 h.x i

/-- Write register x`i`; a write of x0 is discarded. -/
def Hart.set (h : Hart) (i : Nat) (v : BitVec 64) : Hart := if i = 0 then h else { h with x := Tab.set 0 i v h.x }

/-- Core `n` runs: it is out of reset (R332). -/
def State.coreUp (s : State) (n : Nat) : Bool := s.is (F.SCHED_CORE_n_CTRL_RUN n)

/-- Core `n` executes: it runs and does not wait in WFI. -/
def State.coreLive (s : State) (n : Nat) : Bool := s.coreUp n && !(s.hartOf n).wfi

/-- An instruction of 4 bytes retires. -/
def Hart.retire (h : Hart) : Hart := { h with pc := h.pc + 4, minstret := h.minstret + 1 }

/-- An instruction of core `n` retires. -/
def State.retire (s : State) (n : Nat) : State := s.updHart n Hart.retire

/-! ## Traps (R330, R334, R350) -/

/-- mstatus bits: MIE 3, MPIE 7, MPP 12:11. -/
def msBit (w : BitVec 64) (i : Nat) : Bool := w.toNat.testBit i
/-- Set a bit of a 64-bit CSR. -/
def msPut (w : BitVec 64) (i : Nat) (b : Bool) : BitVec 64 := BitVec.ofNat 64 (setBitN w.toNat i b)

/-- mcause of an interrupt or exception. -/
def causeOf (intr : Bool) (code : Nat) : BitVec 64 := BitVec.ofNat 64 (b2n intr * 2 ^ 63 + code)

/-- The address a trap enters at: BASE, or BASE + 4 × code for an interrupt in vectored mode. -/
def trapPc (mtvec : BitVec 64) (intr : Bool) (code : Nat) : BitVec 64 :=
  let base := mtvec.toNat / 4 * 4
  BitVec.ofNat 64 (if intr && mtvec.toNat % 4 == 1 then base + 4 * code else base)

/-- Take a trap: mepc, mcause and mtval, the stacked interrupt enable and mode, the entry address; the trap clears the
reservation (R334). -/
def Hart.trap (h : Hart) (intr : Bool) (code : Nat) (tval : BitVec 64) : Hart :=
  let ms := msPut (msPut h.mstatus 7 (msBit h.mstatus 3)) 3 false
  { h with
    mepc := h.pc
    mcause := causeOf intr code
    mtval := tval
    mstatus := msPut (msPut ms 11 (!h.user)) 12 (!h.user)
    user := false
    pc := trapPc h.mtvec intr code
    resv := none }

/-- Return from a trap with mret; it clears the reservation (R334). -/
def Hart.mret (h : Hart) : Hart :=
  let ms := msPut (msPut h.mstatus 3 (msBit h.mstatus 7)) 7 true
  { h with
    pc := h.mepc
    user := !msBit h.mstatus 12
    mstatus := msPut (msPut ms 11 false) 12 false
    minstret := h.minstret + 1
    resv := none }

/-- Core `n` takes a trap. -/
def State.trap (s : State) (n : Nat) (intr : Bool) (code : Nat) (tval : BitVec 64) : State :=
  (s.updHart n (fun h => { h.trap intr code tval with wfi := false })).coreShow n

/-- An interrupt of a code is pending at core `n` (R329, R350): 7 timer, 11 external, 16 FAST. -/
def State.intPending (s : State) (n code : Nat) : Bool :=
  let p := (s.hpend n).1
  if code = 7 then (s.hartOf n).mtip
  else if code = 11 then (if s.int2 then p == 1 else p != 0)
  else if code = 16 then s.int2 && p == 2
  else false

/-- Core `n` takes an interrupt of a code: pending, enabled in mie, and interrupts enabled. -/
def State.intTaken (s : State) (n code : Nat) : Bool :=
  let h := s.hartOf n
  s.intPending n code && h.mie.toNat.testBit code && (h.user || msBit h.mstatus 3)

/-- The exception codes that a core of R328 raises: instruction access fault, illegal instruction, breakpoint, misaligned and
faulting loads and stores, and the environment call of its mode. -/
def excOk (user : Bool) (code : Nat) : Bool := (1 ≤ code && code ≤ 7) || (code == 8 && user) || (code == 11 && !user)

/-- CORE_TRAP: core `n` takes an exception, or a timer or external interrupt. -/
def coreTrap (n : Nat) (intr : Bool) (code : Nat) (tval : BitVec 64) (s : State) : State :=
  if s.coreUp n then
    if intr then
      if (code = 7 ∨ code = 11) ∧ s.intTaken n code then s.trap n true code 0 else s
    else if excOk (s.hartOf n).user code && !(s.hartOf n).wfi then s.trap n false code tval
    else s
  else s

/-- Swap x16 to x31 with the shadow bank (R350). -/
def Hart.swapBank (h : Hart) : Hart :=
  { h with
    x := h.x.filter (fun p => decide (p.1 < 16)) ++ h.shadow
    shadow := h.x.filter (fun p => decide (16 ≤ p.1)) }

/-- CORE_FAST_TRAP (R350): entry to a code-16 trap, or an mret, which swaps back when mcause holds interrupt code 16. -/
def coreFastTrap (n : Nat) (mret : Bool) (s : State) : State :=
  if s.coreUp n && s.int2 then
    if mret then
      let h := s.hartOf n
      if h.user then s.trap n false 2 0
      else s.updHart n (fun h => (if h.mcause = causeOf true 16 then h.swapBank else h).mret)
    else if s.intTaken n 16 then (s.trap n true 16 0).updHart n Hart.swapBank
    else s
  else s

/-! ## RUN (R332) -/

/-- The registers of a core that leaves reset: machine mode, interrupts disabled, pc at RESET_PC. The general registers
keep what they held. -/
def Hart.start (h : Hart) (pc now : Nat) : Hart :=
  { h with
    pc := BitVec.ofNat 64 pc
    user := false
    mstatus := 0x200000000
    mcause := 0
    minstret := 0
    since := now
    resv := none
    wfi := false }

/-- CORE_RUN_WRITE (R332, R340, R343): a write of SCHED_CORE_n_CTRL. -/
def coreRunWrite (n : Nat) (v : Word) (s : State) : State :=
  let was := s.coreUp n
  let s := s.put (F.SCHED_CORE_n_CTRL_RUN n) (bitsOf v 0 0)
  let now_ := s.coreUp n
  if !was && now_ then
    ((s.updHart n (fun h => h.start (s.pair (R.SCHED_CORE_n_RESET_PC_LO n)) s.now)).coreShow n).pass n
  else if was && !now_ then ((s.updHart n (fun h => { h with wfi := false, resv := none })).retreat n).coreShow n
  else s

/-! ## Fences (R331, R333) -/

/-- CORE_FENCE (R333): with w before and r after it waits until the store buffer is empty; every other FENCE completes at
once. The sets have bit 0 for w and bit 1 for r. -/
def coreFence (n pred succ_ : Nat) (s : State) : State :=
  if s.coreLive n && (!(pred.testBit 0 && succ_.testBit 1) || (s.hartOf n).sb.isEmpty) then s.retire n else s

/-- CORE_FENCE_I (R331): the instruction cache and what was fetched are discarded. -/
def coreFenceI (n : Nat) (s : State) : State :=
  if s.coreLive n then (s.updHart n (fun h => { h with icache := [] })).retire n else s

/-! ## Atomic instructions (R330, R334) -/

/-- The core's own TCM or core shared SRAM. -/
def amoRegion (n a len : Nat) : Bool :=
  (0x0D00000000 ≤ a && a + len ≤ 0x0D00400000) || (tcmBase n ≤ a && a + len ≤ tcmBase n + 0x20000)

/-- The 64-byte granule of an address. -/
def granule (a : Nat) : Nat := a / 64 * 64

/-- What an atomic instruction waits for (R334): with rl the store buffer is empty; an older store to its bytes has left. -/
def Hart.amoReady (h : Hart) (rl : Bool) (a len : Nat) : Bool :=
  (!rl || h.sb.isEmpty) && h.sb.all (fun e => !overlaps (e.addr, e.data.length) (a, len))

/-- A value read as a word or doubleword, sign-extended to a register. -/
def amoLoad (dbl : Bool) (v : Nat) : BitVec 64 := if dbl then BitVec.ofNat 64 v else (BitVec.ofNat 32 v).signExtend 64

/-- The result of an AMO on `w` bits. -/
def amoOp (op : AmoOp) (w : Nat) (a b : BitVec w) : BitVec w :=
  match op with
  | .swap => b
  | .add => a + b
  | .xor => a ^^^ b
  | .and => a &&& b
  | .or => a ||| b
  | .min => if a.toInt ≤ b.toInt then a else b
  | .max => if a.toInt ≤ b.toInt then b else a
  | .minu => if a.toNat ≤ b.toNat then a else b
  | .maxu => if a.toNat ≤ b.toNat then b else a

/-- The alignment and region checks of an atomic instruction: the exception code it takes, if any. -/
def amoFault (n a len : Nat) (load : Bool) : Option Nat :=
  if a % len ≠ 0 then some (if load then 4 else 6) else if amoRegion n a len then none else some 7

/-- CORE_AMO (R334). -/
def coreAmo (n : Nat) (op : AmoOp) (dbl rl : Bool) (rd rs1 rs2 : Nat) (s : State) : State :=
  let h := s.hartOf n
  let len := if dbl then 8 else 4
  let a := (h.get rs1).toNat
  if s.coreLive n then
    match amoFault n a len false with
    | some c => s.trap n false c (h.get rs1)
    | none =>
      if h.amoReady rl a len then
        let old := s.rdLe a len
        let v := if dbl then (amoOp op 64 (BitVec.ofNat 64 old) (h.get rs2)).toNat
          else (amoOp op 32 (BitVec.ofNat 32 old) ((h.get rs2).setWidth 32)).toNat
        let s := (s.wrBytes a (leBytes len v)).dropResv (some n) a len
        s.updHart n (fun h => (h.set rd (amoLoad dbl old)).retire)
      else s
  else s

/-- CORE_LR (R334): loads and reserves the granule. -/
def coreLr (n : Nat) (dbl rl : Bool) (rd rs1 : Nat) (s : State) : State :=
  let h := s.hartOf n
  let len := if dbl then 8 else 4
  let a := (h.get rs1).toNat
  if s.coreLive n then
    match amoFault n a len true with
    | some c => s.trap n false c (h.get rs1)
    | none =>
      if h.amoReady rl a len then
        s.updHart n (fun h => ({ h with resv := some (granule a) }.set rd (amoLoad dbl (s.rdLe a len))).retire)
      else s
  else s

/-- CORE_SC (R334): stores if the reservation of its granule holds, rd 0; else rd 1. The reservation is cleared. -/
def coreSc (n : Nat) (dbl rl : Bool) (rd rs1 rs2 : Nat) (s : State) : State :=
  let h := s.hartOf n
  let len := if dbl then 8 else 4
  let a := (h.get rs1).toNat
  if s.coreLive n then
    match amoFault n a len false with
    | some c => s.trap n false c (h.get rs1)
    | none =>
      if h.amoReady rl a len then
        let ok := h.resv == some (granule a)
        let s := if ok then (s.wrBytes a (leBytes len (h.get rs2).toNat)).dropResv (some n) a len else s
        s.updHart n (fun h => ({ h with resv := none }.set rd (BitVec.ofNat 64 (b2n !ok))).retire)
      else s
  else s

/-! ## WFI and the timer (R329) -/

/-- An interrupt enabled in mie is pending, whatever MIE holds. -/
def State.wfiInt (s : State) (n : Nat) : Bool :=
  [7, 11, 16].any (fun c => s.intPending n c && (s.hartOf n).mie.toNat.testBit c)

/-- CORE_WFI (R329): completes at once if an enabled interrupt is pending or the slot is full; else the core waits. -/
def coreWfi (n : Nat) (s : State) : State :=
  if s.coreLive n then
    let s := s.retire n
    if s.wfiInt n || (s.slotOfCore n).slot.isSome then s
    else (s.updHart n (fun h => { h with wfi := true })).coreShow n
  else s

/-- mip.MTIP follows the time and MTIMECMP (R329); an enabled timer interrupt ends WFI. -/
def State.timerShow (s : State) (n : Nat) : State :=
  let on := decide (s.pair (R.SCHED_CORE_n_MTIMECMP_LO n) ≤ s.now)
  let s := s.updHart n (fun h => { h with mtip := on })
  s.when (on && (s.hartOf n).wfi && (s.hartOf n).mie.toNat.testBit 7) (fun t => t.wake n)

/-- MTIMECMP_MATCH (R329). -/
def mtimecmpMatch (n : Nat) (s : State) : State := s.timerShow n

/-- mcycle of a core: cycles of 1.5 GHz since it left reset (R329). -/
def State.mcycle (s : State) (n : Nat) : Nat := 3 * (s.now - (s.hartOf n).since) / 2 % 2 ^ 64

/-! ## Meanings -/

def execCoreRunWrite (n : Core) (v : Word) (s : State) : Host.Outcome State Fault Refusal := .next (coreRunWrite n.val v s)
def execCoreFence (n : Core) (pred succ : Fin 16) (s : State) : Host.Outcome State Fault Refusal :=
  .next (coreFence n.val pred.val succ.val s)
def execCoreFenceI (n : Core) (s : State) : Host.Outcome State Fault Refusal := .next (coreFenceI n.val s)
def execCoreAmo (n : Core) (op : AmoOp) (dbl _aq rl : Bool) (rd rs1 rs2 : Fin 32) (s : State) :
    Host.Outcome State Fault Refusal := .next (coreAmo n.val op dbl rl rd.val rs1.val rs2.val s)
def execCoreLr (n : Core) (dbl _aq rl : Bool) (rd rs1 : Fin 32) (s : State) : Host.Outcome State Fault Refusal :=
  .next (coreLr n.val dbl rl rd.val rs1.val s)
def execCoreSc (n : Core) (dbl _aq rl : Bool) (rd rs1 rs2 : Fin 32) (s : State) : Host.Outcome State Fault Refusal :=
  .next (coreSc n.val dbl rl rd.val rs1.val rs2.val s)
def execCoreWfi (n : Core) (s : State) : Host.Outcome State Fault Refusal := .next (coreWfi n.val s)
def execCoreFastTrap (n : Core) (mret : Bool) (s : State) : Host.Outcome State Fault Refusal :=
  .next (coreFastTrap n.val mret s)
def execMtimecmpMatch (n : Core) (s : State) : Host.Outcome State Fault Refusal := .next (mtimecmpMatch n.val s)
def execCoreTrap (n : Core) (intr : Bool) (code : Nat) (tval : BitVec 64) (s : State) : Host.Outcome State Fault Refusal :=
  .next (coreTrap n.val intr code tval s)

end Sys2Proof.Machine
end

