-- ==== Sys2Proof/Machine/Fabric.lean ====
section
/-!
DEFINITION. Sending on the Ulten fabric (chapter 10): the tree, routing, and the messages that the chip sends. What has
been sent stands in `State.ult.sent` with its port.
-/

namespace Sys2Proof.Machine

/-! ## Classes and types (R291, R293, R379) -/

def clsTransit : Nat := 0
def clsFlag : Nat := 1
def clsTime : Nat := 2
def clsMgmt : Nat := 3
def clsBulk : Nat := 4

/-- The chip's ID (R289). -/
def State.chipId (s : State) : Nat := s.get F.ULT_STATUS_CHIP_ID
/-- The chip is the root (ULT_ROOT high). -/
def State.isRoot (s : State) : Bool := s.is F.ULT_STATUS_ROOT

/-- Port `k` is trained: a lane of it is ACTIVE. -/
def State.portUp (s : State) (k : Nat) : Bool := s.is (F.ULT_Pk_STATUS_WIDTH k)
/-- Port `k` carries traffic: trained, and no link between chips of equal depth. -/
def State.portLive (s : State) (k : Nat) : Bool := s.portUp k && !s.is (F.ULT_Pk_STATUS_LOOP k)

/-- The up-port, where the chip has one. -/
def State.upPort (s : State) : Option Nat :=
  let u := s.get F.ULT_STATUS_UP_PORT
  if u < 4 then some u else none

/-- The trained ports that lead down, ascending. -/
def State.downPorts (s : State) : List Nat := (List.range 4).filter (fun k => s.portLive k && s.upPort != some k)

/-- Put a message on a port. -/
def State.sendOn (s : State) (k : Nat) (m : Msg) : State := { s with ult := { s.ult with sent := s.ult.sent ++ [(k, m)] } }

/-- Put a message on each of several ports. -/
def State.sendAll (s : State) (l : List Nat) (m : Msg) : State := s.each l (fun t k => t.sendOn k m)

/-- Where a unicast message goes (R290): the chip itself, a down-port, the up-port, or nowhere. -/
inductive Hop where
  | here
  | port (k : Nat)
  | none
  deriving DecidableEq, Repr

/-- Route a destination. -/
def State.route (s : State) (dest : Nat) : Hop :=
  if s.is F.ULT_STATUS_ID_VALID ∧ dest = s.chipId then .here
  else
    match (List.range 4).find? (fun k => s.bit R.ULT_ROUTE_EN k && s.upPort != some k &&
        s.get (F.ULT_ROUTE_k_LO k) ≤ dest && dest ≤ s.get (F.ULT_ROUTE_k_HI k)) with
    | some k => .port k
    | none =>
      match s.upPort with
      | some u => .port u
      | none => .none

/-- Send a unicast message to another chip; one that has no way is dropped, and counted at the root (R290). -/
def State.sendTo (s : State) (m : Msg) : State :=
  match s.route m.dest with
  | .port k => if s.portLive k then s.sendOn k m else s
  | .here => s
  | .none => s.when s.isRoot (fun t => t.bump R.ULT_UNROUTABLE)

/-- The first data block of a span message of site `n` (R293). -/
def State.spanBlock (s : State) (n rest : Nat) : Nat := (s.siteOf n).spanId * 2 ^ 48 + rest
/-- The same with the member's index in bits [47:40]. -/
def State.spanIdxBlock (s : State) (n rest : Nat) : Nat := s.spanBlock n ((s.siteOf n).index * 2 ^ 40 + rest)

/-- Send a span multicast of class FLAG on every port that carries traffic, TTL set to H (R279). -/
def State.spanCast (s : State) (n typ : Nat) (blocks : List Nat) : State :=
  let x := s.siteOf n
  s.sendAll ((List.range 4).filter s.portLive)
    { cls := clsFlag, mcast := true, dest := x.spanId, src := s.chipId, ttl := x.hops, typ := typ, blocks := blocks }

/-- Forward a received span message on every trained port but the one it came by, while its TTL is above 0 (R279); a chip that is
too deep forwards nothing (R287). -/
def State.passOn (s : State) (k ttl : Nat) (m : Msg) : State :=
  if ttl ≤ 1 ∨ s.is F.ULT_STATUS_TOO_DEEP then s
  else s.sendAll ((List.range 4).filter (fun p => p != k && s.portLive p)) { m with ttl := ttl - 1 }

/-- Send a TRANSIT-class unicast of the span to a chip (R291, R293). -/
def State.spanSend (s : State) (dest typ : Nat) (blocks : List Nat) : State :=
  s.sendTo { cls := clsTransit, mcast := false, dest := dest, src := s.chipId, ttl := 0, typ := typ, blocks := blocks }

end Sys2Proof.Machine
end

