-- ==== Sys2Proof/Machine/Operands.lean ====
section
/-!
DEFINITION. The fields of a 64-bit instruction word (R119), its reserved fields and values (R116, R117), opcodes, halt
codes and engine cycles (R6, R113).
-/

namespace Sys2Proof.Machine

/-- Bits [hi:lo] of an instruction word. -/
def wf (w hi lo : Nat) : Nat := w / 2 ^ lo % 2 ^ (hi + 1 - lo)

/-- The opcode, bits [63:56]. -/
def opcodeOf (w : Nat) : Nat := wf w 63 56

/-! ## Opcodes (R113) -/

def opVec : Nat := 0x01
def opRpt : Nat := 0x02
def opLoop : Nat := 0x03
def opEndl : Nat := 0x04
def opJmp : Nat := 0x05
def opJmpc : Nat := 0x06
def opCall : Nat := 0x07
def opRet : Nat := 0x08
def opMatchwait : Nat := 0x09
def opTset : Nat := 0x0A
def opLevels : Nat := 0x0B
def opCapt : Nat := 0x0C
def opSignal : Nat := 0x0D
def opTransit : Nat := 0x0E
def opFlag : Nat := 0x0F
def opHalt : Nat := 0x10
def opKeep : Nat := 0x11
def opXlmark : Nat := 0x12
def opWaitcore : Nat := 0x13

/-- The opcode is 0x01 to 0x13. -/
def opDefined (o : Nat) : Bool := 1 ≤ o && o ≤ 0x13

/-! ## Halt codes (R6) -/

def hcNormal : Nat := 0x00
def hcIllegal : Nat := 0x0E
def hcReserved : Nat := 0x0F
def hcStackOver : Nat := 0x10
def hcStackUnder : Nat := 0x11
def hcLoopNest : Nat := 0x12
def hcMissing : Nat := 0x13
def hcTransit : Nat := 0x14
def hcThermal : Nat := 0x16
def hcAbort : Nat := 0x17
def hcSpanLost : Nat := 0x18

/-! ## Reserved fields and values -/

/-- The reserved fields of each instruction (R119), as (high bit, low bit). -/
def reservedFields (o : Nat) : List (Nat × Nat) :=
  if o = opVec then [(55, 32)]
  else if o = opRpt then [(55, 40)]
  else if o = opLoop then [(54, 32)]
  else if o = opEndl then [(55, 0)]
  else if o = opJmp then [(55, 44)]
  else if o = opJmpc then [(54, 52), (47, 44)]
  else if o = opCall then [(55, 44)]
  else if o = opRet then [(55, 0)]
  else if o = opTset then [(55, 8)]
  else if o = opLevels then [(55, 3)]
  else if o = opCapt then [(55, 16), (7, 4)]
  else if o = opSignal then [(51, 38), (31, 0)]
  else if o = opTransit then [(54, 32)]
  else if o = opFlag then [(55, 9), (3, 2)]
  else if o = opHalt then [(55, 8)]
  else if o = opKeep then [(55, 32)]
  else if o = opXlmark then [(55, 44), (39, 37), (31, 16)]
  else if o = opWaitcore then [(51, 48)]
  else []

/-- A reserved field of the word has a bit set (R116). -/
def reservedSet (w : Nat) : Bool := (reservedFields (opcodeOf w)).any (fun r => wf w r.1 r.2 != 0)

/-- A field of the word holds a reserved value (R117, R322). -/
def reservedValue (w : Nat) : Bool :=
  let o := opcodeOf w
  if o = opRpt then wf w 39 16 == 0 || wf w 15 0 == 0
  else if o = opLoop then wf w 31 0 == 0
  else if o = opJmpc then 9 ≤ wf w 51 48
  else if o = opCapt then 4 ≤ wf w 3 0 || (wf w 3 0 != 0 && wf w 15 8 != 0)
  else if o = opSignal then 2 ≤ wf w 55 52
  else if o = opTransit then wf w 31 0 == 0
  else if o = opHalt then 1 ≤ wf w 7 0 && wf w 7 0 ≤ 0x7F
  else if o = opKeep then wf w 31 0 == 0
  else if o = opXlmark then 3 ≤ wf w 43 40 || (wf w 43 40 ≤ 1 && wf w 15 1 != 0)
  else if o = opWaitcore then 4 ≤ wf w 54 52
  else false

/-- Engine cycles of an instruction (R113). -/
def cyclesOf (w : Nat) : Nat :=
  let o := opcodeOf w
  if o = opVec then 4
  else if o = opRpt then 4 + wf w 39 16
  else if o = opJmp ∨ o = opJmpc ∨ o = opRet then 8
  else if o = opCall then 10
  else if o = opMatchwait then 12
  else if o = opSignal ∨ o = opHalt ∨ o = opXlmark then 4
  else if o = opTransit ∨ o = opWaitcore then 6
  else 3

/-- The instruction is shadow-safe (R113, R132). -/
def shadowSafe (o : Nat) : Bool :=
  o == opVec || o == opRpt || o == opTset || o == opLevels || o == opCapt || o == opSignal || o == opFlag ||
    o == opKeep || o == opXlmark

end Sys2Proof.Machine
end

