-- ==== Sys2Proof/Machine/Stream.lean ====
section
/-!
DEFINITION. The stream engine (chapter 03): frames, FIFO units and requests, the bandwidth ledger, readiness, priming.
-/

namespace Sys2Proof.Machine

/-! ## Figures of R59, R63, R69, R76 -/

/-- FRAME_BYTES for `b` bound octets (R59). -/
def frameBytes (b : Nat) : Nat := 1536 * b
/-- FIFO_SIZE in bytes (R63). -/
def fifoSize (units : Nat) : Nat := 65536 * units
/-- A quarter of the fetch space. -/
def fetchQuarter (units b : Nat) : Nat := (fifoSize units - frameBytes b) / 4
/-- REQ (R63). -/
def reqBytes (burst units b : Nat) : Nat := min (burst * 1024) (fetchQuarter units b) / 64 * 64
/-- TOL before the override (R76): the division is by RATE × 0.1 bytes per ns. -/
def tolNs (units b req rate : Nat) : Nat :=
  if rate = 0 then 0xFFFFFFFF else (fifoSize units - frameBytes b - req) * 10 / rate - 2000
/-- The reported tolerance. -/
def tolReported (tol ovr : Nat) : Nat := if ovr = 0 then min tol satMax else min (min tol satMax) ovr
/-- STRM_LEDGER_GUAR (R69). -/
def ledgerGuar (pct refresh retrain : Nat) : Nat := 12288 * pct / 100 - refresh - retrain
/-- Whole frames in the fetch space: F of R494. -/
def fetchFrames (units b : Nat) : Nat := (fifoSize units - frameBytes b) / frameBytes b

/-! ## The ledger (R69, R75) -/

/-- Recompute GUAR and LEDGER_OVER; the event is set when LEDGER_OVER becomes 1 (R75, R102). -/
def State.ledgerRefresh (s : State) : State :=
  let g := ledgerGuar (s.get F.STRM_LEDGER_CTRL_PCT) (s.get F.STRM_LEDGER_RSV_REFRESH) (s.get F.STRM_LEDGER_RSV_RETRAIN)
  let was := s.is F.STRM_STATUS_LEDGER_OVER
  let isOver := g < s.get F.STRM_LEDGER_SUM_SUM
  let s := (s.put F.STRM_LEDGER_GUAR_GUAR g).put F.STRM_STATUS_LEDGER_OVER (b2n isOver)
  s.when (isOver && !was) (fun t => t.put F.STRM_EVENT_LEDGER_OVER 1)

/-- Smallest reported tolerance among armed guaranteed sites (R77). -/
def State.tolMin (s : State) : Nat :=
  siteNums.foldl (fun m n =>
    if s.is (F.STRM_SITE_n_FLAGS_ARMED n) && !s.is (F.STRM_SITE_n_FLAGS_BEST_EFFORT n)
    then min m (s.num (R.STRM_SITE_n_TOL n)) else m) 0xFFFFFFFF

/-- The policy of a site (R82): REPEAT while GLB_COMPAT.STARVE_REPEAT is 1. -/
def State.policyNow (s : State) (n : Nat) : Nat :=
  if s.compat 3 then 2 else s.get (F.STRM_SITE_n_CFG_POLICY n)

/-- The stream checks of an arm in the order of R71: result code and whether the site is admitted (R88). -/
def strmCheck (s : State) (n octets role : Nat) : Nat :=
  let units := s.get (F.STRM_SITE_n_CFG_FIFO_UNITS n)
  if role ≠ 0 ∧ s.policyNow n = 1 ∧ !s.compat 3 then 0x02
  else if fifoSize units < 2 * frameBytes octets then 0x03
  else if s.get F.STRM_FIFO_FREE_UNITS < units then 0x04
  else if s.get F.STRM_LEDGER_SUM_SUM + s.get (F.STRM_SITE_n_RATE_RATE n) ≤ s.get F.STRM_LEDGER_GUAR_GUAR then 0x00
  else if s.is (F.STRM_SITE_n_CFG_ADMIT_BEST_EFFORT n) then 0x01
  else 0x05

/-- The stream engine's part of a successful arm (R61, R63, R65, R71, R72, R76, R86): units, ledger share, sampled
configuration, cleared counters. -/
def State.strmArm (s : State) (n octets res : Nat) : State :=
  let units := s.get (F.STRM_SITE_n_CFG_FIFO_UNITS n)
  let rate := s.get (F.STRM_SITE_n_RATE_RATE n)
  let burst := s.get F.STRM_CTRL_BURST
  let req := reqBytes burst units octets
  let s := s.clearRegs [R.STRM_SITE_n_STARVE_CNT n, R.STRM_SITE_n_LATE_DROP n, R.STRM_SITE_n_REPEAT_CNT n,
    R.STRM_SITE_n_SLIP_CNT n, R.STRM_SITE_n_FILL n, R.STRM_SITE_n_FRAME n, R.STRM_SITE_n_FIRST_STARVE n]
  let s := (s.put (F.STRM_SITE_n_STATUS_ARM_RESULT n) res).put (F.STRM_SITE_n_STATUS_UNITS n) units
  let s := s.put F.STRM_FIFO_FREE_UNITS (s.get F.STRM_FIFO_FREE_UNITS - units)
  let s := s.when (res == 0) (fun t => t.put F.STRM_LEDGER_SUM_SUM (t.get F.STRM_LEDGER_SUM_SUM + rate))
  let s := (s.putN (R.STRM_SITE_n_REQ n) req).putN (R.STRM_SITE_n_FRAME_BYTES n) (frameBytes octets)
  let s := s.putN (R.STRM_SITE_n_TOL n) (tolReported (tolNs units octets req rate) (s.num (R.STRM_SITE_n_TOL_OVR n)))
  let s := s.putN (R.STRM_SITE_n_FLAGS n)
    (1 + 4 * b2n (res == 1) + 8 * b2n (decide (fetchQuarter units octets < burst * 1024)))
  let pol := s.policyNow n
  let s := s.updStrm n (fun _ => {
    policy := pol
    units := units
    rate := rate
    credit := 10 * fifoSize units
    creditT := s.now })
  s.putN R.STRM_TOL_MIN s.tolMin

/-- Release the site's FIFO and ledger share (R61, R73, R85); in-flight data is forgotten. -/
def State.strmDisarm (s : State) (n : Nat) : State :=
  let st := s.strmOf n
  let guar := s.is (F.STRM_SITE_n_FLAGS_ARMED n) && !s.is (F.STRM_SITE_n_FLAGS_BEST_EFFORT n)
  let s := s.when guar (fun t => t.put F.STRM_LEDGER_SUM_SUM (t.get F.STRM_LEDGER_SUM_SUM - st.rate))
  let s := s.put F.STRM_FIFO_FREE_UNITS (s.get F.STRM_FIFO_FREE_UNITS + s.get (F.STRM_SITE_n_STATUS_UNITS n))
  let s := (s.put (F.STRM_SITE_n_STATUS_UNITS n) 0).putN (R.STRM_SITE_n_FLAGS n) 0
  let s := s.putN (R.STRM_SITE_n_FILL n) 0
  let s := s.updStrm n (fun _ => {})
  (s.putN R.STRM_TOL_MIN s.tolMin).ledgerRefresh

/-! ## Streams -/

/-- Octets that carry data of a drawer on a site of `b` octets: mask bits below `b` (R33). -/
def fetchedRanks (e : DirEnt) (b : Nat) : Nat := popCount b e.mask

/-- Stream bytes of one granule of a drawer. -/
def granBytes (e : DirEnt) (b : Nat) : Nat := 96 * fetchedRanks e b

/-- The runs of HBM granules of a stream, in play order. -/
def streamRuns (st : Nat) (items : List Item) : List (Nat × Nat × DirEnt) :=
  items.filterMap (fun i => match i.body with
    | .run t g n e => if t = st ∧ !e.shelf then some (g, n, e) else none
    | _ => none)

/-- Keep the first `k` granules of a list of items, with the effects before them. -/
def takeGrans : Nat → List Item → List Item
  | _, [] => []
  | k, i :: is =>
    if k = 0 then []
    else match i.body with
      | .run st g m e => { i with body := .run st g (min m k) e } :: takeGrans (k - min m k) is
      | .hold m p => { i with body := .hold (min m k) p } :: takeGrans (k - min m k) is
      | .eff _ => i :: takeGrans k is

/-- The items that a site fetches: of the fall-through path, and of every prefetch up to its limit (R138). -/
def allItems (c : SeqCtx) : List Item :=
  c.main.items ++ c.pfs.flatMap (fun p => takeGrans p.path.limit p.path.items)

/-- Skip `off` stream bytes of the runs: the run they end in, with the offset inside it, and the runs after it. -/
def skipRuns (b : Nat) : Nat → List (Nat × Nat × DirEnt) → Option (Nat × (Nat × Nat × DirEnt) × List (Nat × Nat × DirEnt))
  | _, [] => none
  | off, (g, n, e) :: rs =>
    let sz := n * granBytes e b
    if off < sz then some (off, (g, n, e), rs) else skipRuns b (off - sz) rs

/-- Bytes that follow in the same drawer in ascending address order (R64). -/
def contigBytes (b id nextG : Nat) : List (Nat × Nat × DirEnt) → Nat
  | [] => 0
  | (g, n, e) :: rs => if e.id = id ∧ g = nextG then n * granBytes e b + contigBytes b id (g + n) rs else 0

/-- The memory pieces of `len` stream bytes from offset `off` of the granules from `g` of a drawer (R32, R64). -/
def pieces (e : DirEnt) (b g : Nat) (off len : Nat) : List (Nat × Nat) :=
  let gb := granBytes e b
  let addr := fun o => e.base + 96 * ((g + o / gb) * e.octets + o % gb / 96) + o % 96
  let first := off / 96
  let last := (off + len - 1) / 96
  (List.range' first (last + 1 - first)).map (fun i =>
    let lo := max off (96 * i)
    let hi := min (off + len) (96 * (i + 1))
    (addr lo, hi - lo))

/-- End of the contiguous bytes present from position `p`; segments in rising position. -/
def presentEnd : Nat → List Seg → Nat
  | p, [] => p
  | p, g :: gs => if g.pos ≤ p then presentEnd (max p (g.pos + g.data.length)) gs else presentEnd p gs

/-- Insert a segment by position. -/
def insSeg (x : Seg) : List Seg → List Seg
  | [] => [x]
  | g :: gs => if x.pos ≤ g.pos then x :: g :: gs else g :: insSeg x gs

/-- Bytes a site's FIFO holds. -/
def StrmSite.fill (x : StrmSite) : Nat := (x.streams.map (fun p => (p.2.segs.map (·.data.length)).sum)).sum

/-- Refresh STRM_SITE_n_FILL. -/
def State.fillShow (s : State) (n : Nat) : State := s.putN (R.STRM_SITE_n_FILL n) (s.strmOf n).fill

/-- The site's credit now, in tenths of a byte (R65): grows at RATE, capped at FIFO_SIZE. -/
def StrmSite.creditNow (x : StrmSite) (now : Nat) : Nat :=
  min (10 * fifoSize x.units) (x.credit + x.rate * (now - x.creditT))

/-- The next request of stream `st` (R64): drawer, position and memory pieces; none where nothing is left to fetch. -/
def nextRequest (s : State) (n st : Nat) : Option FetchReq :=
  let b := (s.siteOf n).octs.length
  let x := Tab.get {} (s.strmOf n).streams st
  match skipRuns b (x.req - x.base) (streamRuns st (allItems (s.seqOf n))) with
  | none => none
  | some (off, (g, k, e), rs) =>
    let avail := k * granBytes e b - off + contigBytes b e.id (g + k) rs
    let len := min (s.num (R.STRM_SITE_n_REQ n)) avail
    if len = 0 then none
    else some { stream := st, pos := x.req, len := len, drw := e.id, chunks := pieces e b g off len, late := false }

/-- STRM_FETCH_ISSUE (R65): issue the next request of a stream if the FIFO has room and the credit suffices. -/
def fetchIssue (n st : Nat) (s : State) : State :=
  let x := s.strmOf n
  match nextRequest s n st with
  | none => s
  | some r =>
    let room := fifoSize x.units - x.fill - (x.flight.map (·.len)).sum
    let credit := x.creditNow s.now
    if s.is (F.STRM_SITE_n_FLAGS_ARMED n) ∧ x.rate ≠ 0 ∧ r.len ≤ room ∧ 10 * r.len ≤ credit then
      s.updStrm n (fun x => { x with
        credit := credit - 10 * r.len
        creditT := s.now
        flight := x.flight ++ [r]
        streams := Tab.set {} st { Tab.get {} x.streams st with req := r.pos + r.len } x.streams })
    else s

/-! ## Readiness (R60, R114, R171) -/

/-- What one coming granule needs: stream and bytes of HBM data, timing set. -/
structure Need where
  strm : Nat
  bytes : Nat
  tset : Nat
  deriving DecidableEq, Repr

/-- The needs of the next `k` granules of a list of items, and whether the program ends or waits before them. -/
def needs (b : Nat) : Nat → Nat → List Item → List Need × Bool
  | _, _, [] => ([], false)
  | k, ts, i :: is =>
    if k = 0 then ([], true)
    else match i.body with
      | .run st _ m e =>
        let c := min m k
        let r := needs b (k - c) ts is
        (List.replicate c ⟨st, if e.shelf then 0 else granBytes e b, ts⟩ ++ r.1, r.2)
      | .hold m _ =>
        let c := min m k
        let r := needs b (k - c) ts is
        (List.replicate c ⟨0, 0, ts⟩ ++ r.1, r.2)
      | .eff (.tset t) => needs b k t is
      | .eff (.halt _) | .eff (.fault _ _) | .eff (.transit _ _) | .eff (.matchWait _ _ _ _ _ _ _ _)
      | .eff (.waitCore _ _ _ _) => ([], true)
      | .eff _ => needs b k ts is

/-- A cluster's slot of the site that holds a set. -/
def State.ecFind (s : State) (k n t : Nat) : Option Nat :=
  (List.range 32).find? (fun i => s.is (F.CLU_k_EC_SLOT_i_VALID k i) && s.get (F.CLU_k_EC_SLOT_i_SITE k i) == n &&
    s.get (F.CLU_k_EC_SLOT_i_SET k i) == t)

/-- Every cluster of the site holds the set (R171). -/
def State.tsetLoaded (s : State) (n t : Nat) : Bool := (s.siteClus n).all (fun k => (s.ecFind k n t).isSome)

/-- The master-table period of set `t` for site `n` (R166). -/
def State.masterPer (s : State) (n t : Nat) : Nat := s.pair (R.TSET_PER_n_s_LO n t)

/-- The slot that cluster `k` plays set `t` of site `n` from. -/
def State.slotFor (s : State) (k n t : Nat) : Option EcSlot := (s.ecFind k n t).map (s.slotOf k)

/-- The period of set `t` as cluster `k` holds it; the master period where the set is not loaded. -/
def State.cluPer (s : State) (k n t : Nat) : Nat :=
  match s.slotFor k n t with
  | some x => x.per
  | none => s.masterPer n t

/-- The cluster of the site's lowest-numbered octet (R495). -/
def State.timeClu (s : State) (n : Nat) : Nat := ((s.siteOf n).octs.headD 0) / 2

/-- The period of the site's timeline (R495). -/
def State.sitePer (s : State) (n t : Nat) : Nat := s.cluPer (s.timeClu n) n t

/-- The HBM data of needs is present (R60), where the needs `skip` come before them in play. -/
def dataPresent (x : StrmSite) (skip l : List Need) : Bool :=
  let bytes := fun (k : List Need) st => ((k.filter (fun y => y.strm == st)).map (·.bytes)).sum
  ((l.map (·.strm)).dedup).all (fun st =>
    let t := Tab.get {} x.streams st
    let from_ := t.base + bytes skip st
    from_ + bytes l st ≤ presentEnd from_ t.segs)

/-- The granules of a list of items. -/
def granCount (l : List Item) : Nat :=
  (l.map (fun i => match i.body with
    | .run _ _ m _ => m
    | .hold m _ => m
    | .eff _ => 0)).sum

/-- Granules of period `per` (in 1/32 ps) that cover a time. -/
def granCover (left per : Nat) : Nat := ceilDiv left (32 * per)

/-- The items that play until `left` (1/32 ps) has passed, from the set in force; whether they suffice. -/
def cover (per : Nat → Nat) : Nat → Nat → List Item → List Item × Bool
  | left, _, [] => ([], left == 0)
  | left, ts, i :: is =>
    if left = 0 then ([], true)
    else
      let more := fun m => let r := cover per (left - 32 * per ts * m) ts is; r
      match i.body with
      | .run st g m e =>
        let c := min m (granCover left (per ts))
        let r := more c
        ({ i with body := .run st g c e } :: r.1, r.2)
      | .hold m p =>
        let c := min m (granCover left (per ts))
        let r := more c
        ({ i with body := .hold c p } :: r.1, r.2)
      | .eff (.tset t) =>
        let r := cover per left t is
        (i :: r.1, r.2)
      | .eff _ =>
        let r := cover per left ts is
        (i :: r.1, r.2)

/-- An entry of `k` hold granules. -/
def holdItem (k : Nat) : Item := { drw := 0, idx := 0, body := .hold k false, loops := [], calls := [], tag := 0 }

/-- The granules after a prefetch that stopped early are always present (R138, R141): it stopped before a HALT, a wait or a
word that halts the site, or what comes next lies on the shelf or holds. `loops` and `calls` are the stacks it inherits. -/
def State.tailPresent (s : State) (x : Path) (loops : List LoopEnt) (calls : List CallEnt) : Bool :=
  let onShelf := fun id => (s.entry id).shelf
  match x.stop with
  | .wait =>
    if x.ent.ilen ≤ x.idx then true
    else match x.ibuf.lookup x.idx with
      | none => x.ent.shelf
      | some w =>
        let o := opcodeOf w.word
        if w.poison || !opDefined o || o == opHalt || o == opMatchwait || o == opWaitcore || o == opTransit then true
        else if o == opEndl then
          match x.loops ++ loops with
          | e :: _ => if e.count = 1 then x.ent.shelf else onShelf e.drw
          | [] => x.ent.shelf
        else if o == opRet then
          match x.calls ++ calls with
          | e :: _ => onShelf e.drw
          | [] => true
        else x.ent.shelf
  | _ => false

/-- The items of a prefetched continuation, and whether what follows them is always present. -/
def State.pfItems (s : State) (c : SeqCtx) (k : PfKey) (loops : List LoopEnt) (calls : List CallEnt) : List Item × Bool :=
  match c.pfs.find? (fun p => p.key == k) with
  | some p => (p.path.items, s.tailPresent p.path loops calls)
  | none => ([], false)

/-- What may play next, as items, and whether what follows them is always present: the fall-through path; for a decision that
is open or a branch that is taken, the shadow and what follows it; for a wait, its granules, which never lie in HBM (R135,
R136), and for an open decision on a MATCHWAIT its shadow and the continuations it may select (R134). -/
def continuations (s : State) (n : Nat) : List (List Item × Bool) :=
  let c := s.seqOf n
  let p := c.play
  let per := fun t => s.sitePer n t
  let open_ := fun (left : Nat) (k : PfKey) loops calls =>
    let r := cover per left p.tset c.main.items
    let f := s.pfItems c k loops calls
    if r.2 then (r.1 ++ f.1, f.2) else (r.1, false)
  let waits := fun (left : Nat) (l : List Item × Bool) => (holdItem (granCover left (per p.tset)) :: l.1, l.2)
  let cont := fun (left idx : Nat) => waits left (s.pfItems c (.cont c.main.ent.id idx) c.main.loops c.main.calls)
  match p.taken, p.wait with
  | some t, _ => [open_ t.left t.key t.loops t.calls]
  | none, .none => (c.main.items, false) :: p.decs.map (fun d => open_ d.left d.key d.loops d.calls)
  | none, .mat _ _ _ _ _ _ _ _ _ _ _ (some left) => [waits left (c.main.items, false)]
  | none, .mat _ _ _ _ _ _ _ _ _ idx tidx none =>
    ([holdItem 64], true) :: p.decs.flatMap (fun d =>
      cont d.left (idx + 1) :: (if d.last then [cont d.left tidx] else []))
  | none, .core _ _ _ _ _ _ _ (some left) => [waits left (c.main.items, false)]
  | none, _ => [([holdItem 64], true)]

/-- The next `k` granules of a site, `skip` granules of the current frame before them not counted: resolved and data
present, sets loaded. -/
def framesReady (s : State) (n skip k : Nat) : Bool × Bool :=
  let b := (s.siteOf n).octs.length
  let ns := (continuations s n).map (fun l => let r := needs b (skip + k) (s.playOf n).tset l.1; (r.1, r.2 || l.2))
  (ns.all (fun r => (r.1.length == skip + k || r.2) && dataPresent (s.strmOf n) (r.1.take skip) (r.1.drop skip)),
   ns.all (fun r => ((r.1.drop skip).map (·.tset)).dedup.all (s.tsetLoaded n)))

/-- The staged copies of a site are due at its next frame boundary (R175). -/
def State.stagedDue (s : State) (n : Nat) : State :=
  s.each (s.siteClus n) (fun t k => t.each (List.range 32) (fun u i =>
    if u.is (F.CLU_k_EC_SLOT_i_STAGED k i) && u.get (F.CLU_k_EC_SLOT_i_SITE k i) == n
    then u.updSlot k i (fun x => { x with stAfter := 1 }) else u))

/-- READINESS_POINT (R60, R171): judge the next frame, F_0 of a site whose T_go is set among them; a frame that fails only
for want of a loaded set also counts CACHE_MISS. -/
def readinessPoint (n : Nat) (s : State) : State :=
  if s.playing n || (s.siteOf n).tgo.isSome then
    let r := framesReady s n (16 - (s.playOf n).inFrame) 16
    let s := s.stagedDue n
    let s := s.updStrm n (fun x => { x with nextReady := some (r.1 && r.2) })
    s.when (r.1 && !r.2) (fun t => t.bump (R.TSET_SITE_n_CACHE_MISS n))
  else s

/-- Whether run-ahead has stopped at a halt or where only play can let it go on (R84, second condition): at an instruction
that play must pass, full (R494), with every slot locked (R170), or without a free active-range entry (R139). -/
def Stop.ended : Stop → Bool
  | .done | .wait | .full | .lock | .art _ _ | .artBack _ _ _ | .loopArt _ => true
  | .none | .dir _ _ | .loopDir _ | .back _ _ _ | .ilist => false

/-- The conditions of PRIMED (R84). -/
def primedNow (s : State) (n : Nat) : Bool :=
  let c := s.seqOf n
  let x := s.strmOf n
  let b := (s.siteOf n).octs.length
  let two := framesReady s n 0 32
  let have_ := needs b 32 c.play.tset c.main.items
  (two.1 && two.2 && have_.1.length == 32) ||
  (c.main.stop.ended && granCount c.main.items < 32 && dataPresent x [] have_.1 &&
    (have_.1.map (·.tset)).dedup.all (s.tsetLoaded n)) ||
  decide (fifoSize x.units < x.fill + (x.flight.map (·.len)).sum + s.num (R.STRM_SITE_n_REQ n))

/-- Set PRIMED at the first moment R84 names, before play has begun. -/
def State.primeCheck (s : State) (n : Nat) : State :=
  s.when (s.is (F.STRM_SITE_n_FLAGS_ARMED n) && !s.playing n && !s.is (F.STRM_SITE_n_FLAGS_PRIMED n) && primedNow s n)
    (fun t => t.put (F.STRM_SITE_n_FLAGS_PRIMED n) 1)

/-- Read the pieces of a request, noting ECC errors for the stream engine; answers the bytes and the positions of the
slabs that hold an uncorrectable burst (R99). -/
def readPieces (n drw : Nat) : Nat → List (Nat × Nat) → State → List Byte × List Nat × State
  | _, [], s => ([], [], s)
  | pos, (a, k) :: ps, s =>
    let (bad, s1) := s.eccRead a k 0x1F (some (n, drw))
    let r := readPieces n drw (pos + k) ps s1
    (s.rdBytes a k ++ r.1, (if bad.isEmpty then [] else [pos]) ++ r.2.1, r.2.2)

/-- STRM_FETCH_COMPLETE (R64, R78, R85): the `i`-th request in flight arrives. Data of a stream that was abandoned is
discarded; data of a lost frame is discarded and counted in LATE_DROP; the rest enters the FIFO. -/
def fetchComplete (n i : Nat) (ce ue : List Nat) (s : State) : State :=
  match (s.strmOf n).flight[i]? with
  | none => s
  | some r =>
    let s := s.addErrs ce ue
    let (d, bad, s) := readPieces n r.drw r.pos r.chunks s
    let s := s.updStrm n (fun x => { x with flight := x.flight.eraseIdx i })
    if (s.strmOf n).streams.any (fun p => p.1 == r.stream) && !r.late then
      let st := Tab.get {} (s.strmOf n).streams r.stream
      let late := min (st.base - r.pos) r.len
      let s := s.addSat (R.STRM_SITE_n_LATE_DROP n) late
      let keep := d.drop late
      let s := s.when (!keep.isEmpty) (fun t => t.updStrm n (fun x => { x with
        streams := Tab.set {} r.stream
          { st with segs := insSeg { pos := r.pos + late, data := keep, bad := bad } st.segs } x.streams }))
      (s.fillShow n).primeCheck n
    else s

/-- LEDGER_PCT_WRITE (R75): a write of STRM_LEDGER_CTRL. -/
def ledgerPctWrite (v : Word) (s : State) : State := (s.plainWrite R.STRM_LEDGER_CTRL v).ledgerRefresh

/-! ## Meanings -/

def execStrmFetchIssue (n : Site) (st : Nat) (s : State) : Host.Outcome State Fault Refusal := .next (fetchIssue n.val st s)
def execStrmFetchComplete (n : Site) (i : Nat) (ce ue : List Nat) (s : State) : Host.Outcome State Fault Refusal :=
  .next (fetchComplete n.val i ce ue s)
def execReadinessPoint (n : Site) (s : State) : Host.Outcome State Fault Refusal := .next (readinessPoint n.val s)
def execLedgerPctWrite (v : Word) (s : State) : Host.Outcome State Fault Refusal := .next (ledgerPctWrite v s)

end Sys2Proof.Machine
end

