-- ==== Sys2Proof/Machine/Timing.lean ====
section
/-!
DEFINITION. Timing sets and edge caches (chapter 06): the master table in both layouts, dirty marks, commit, the slots of
the clusters, loads, locks and staged copies.
-/

namespace Sys2Proof.Machine

/-! ## The master table (R164 to R166) -/

/-- EDGE_OUT and the other FORMAT encodings (R158). -/
def fmtNrz : Nat := 0
def fmtRz : Nat := 1
def fmtRo : Nat := 2
def fmtSbc : Nat := 3
def fmtDual : Nat := 4
def fmtZwin : Nat := 5
def fmtEdgeOut : Nat := 6

/-- Offset of word `w` of the TSET4 entry of channel `c` and set `t` (R165). -/
def ent4Off (c t w : Nat) : Nat := 0xA00000 + 0x10 * (256 * c + t) + 4 * w

/-- The native entry of channel `c` and set `t` (R164). -/
def State.entNative (s : State) (c t : Nat) : TsEnt :=
  let off := fun i => s.num (R.TSET_ENT_c_s_Wi c t i)
  { format := s.get (F.TSET_ENT_c_s_W0_FORMAT c t)
    en := s.get (F.TSET_ENT_c_s_W0_EN c t)
    win := s.is (F.TSET_ENT_c_s_W0_CMP_MODE c t)
    d0 := off 0
    d1 := off 1
    d2 := off 2
    d3 := off 3
    c0 := off 4
    c1 := off 5 }

/-- The TSET4 entry, used as a native one with D2 disabled and D3 at the D0 offset (R165). -/
def State.ent4 (s : State) (c t : Nat) : TsEnt :=
  let w := fun i => s.word (ent4Off c t i)
  let e := fun i => bitsOf (w i) 31 31
  let off := fun i => bitsOf (w i) 27 0
  { format := bitsOf (w 0) 30 28
    en := e 0 + 2 * e 1 + 8 * e 0 + 16 * e 2 + 32 * e 3
    win := bitsOf (w 2) 28 28 != 0
    d0 := off 0
    d1 := off 1
    d2 := 0
    d3 := off 0
    c0 := off 2
    c1 := off 3 }

/-- The master-table entry in the layout in force (GLB_COMPAT.TSET4). -/
def State.ent (s : State) (c t : Nat) : TsEnt := if s.compat 0 then s.ent4 c t else s.entNative c t

/-- Edge `i` (0 to 5: D0, D1, D2, D3, C0, C1) is enabled by its EN bit. -/
def TsEnt.enab (e : TsEnt) (i : Nat) : Bool := e.en.testBit i

/-- Offset of edge `i`. -/
def TsEnt.off (e : TsEnt) (i : Nat) : Nat :=
  match i with
  | 0 => e.d0
  | 1 => e.d1
  | 2 => e.d2
  | 3 => e.d3
  | 4 => e.c0
  | _ => e.c1

/-- Whether the format compares in a window for L, H and M: C0 and C1 enabled and WINDOW or ZWIN (R159). -/
def TsEnt.window (e : TsEnt) : Bool :=
  e.enab 4 && e.enab 5 && (e.format == fmtZwin || (e.win && e.format < fmtDual))

/-- The enabled compare-edge offsets of R153: C0 where the format compares, C1 in a window and in DUAL. -/
def TsEnt.cmpOffs (e : TsEnt) : List Nat :=
  if e.format = fmtEdgeOut then (if e.enab 4 then [e.c0] else [])
  else if e.format = fmtDual then (if e.enab 4 then [e.c0] else []) ++ (if e.enab 5 then [e.c1] else [])
  else (if e.enab 4 then [e.c0] else []) ++ (if e.window then [e.c1] else [])

/-! ## Dirty marks (R172) -/

/-- Add an element once. -/
def addOnce (x : Nat) (l : List Nat) : List Nat := if l.contains x then l else l ++ [x]

/-- Mark the entry of channel `c` of set `t` dirty. -/
def State.markEnt (s : State) (c t : Nat) : State :=
  { s with ts := { s.ts with dirtyEnt := addOnce (256 * c + t) s.ts.dirtyEnt } }.putBit
    (R.TSET_DIRTY_MAP_w (t / 32)) (t % 32) true

/-- Mark the period of set `t` for site `n` dirty. -/
def State.markPer (s : State) (n t : Nat) : State :=
  { s with ts := { s.ts with dirtyPer := addOnce (256 * n + t) s.ts.dirtyPer } }.putBit
    (R.TSET_DIRTY_MAP_w (t / 32)) (t % 32) true

/-- A COMMIT of set `t` runs (R175). -/
def State.committing (s : State) (t : Nat) : Bool :=
  s.is F.TSET_CMD_STATUS_BUSY && s.get F.TSET_CMD_STATUS_OP == 1 && s.ts.cmdSet == t

/-- A write dropped because a commit protects the set (R175). -/
def State.tsetWpDrop (s : State) : State := (s.bump R.TSET_WP_DROP).put F.TSET_EVENT_WP_DROP 1

/-- Store a word of the TSET4 layout: a reserved FORMAT4 keeps the field and is refused (R14, R165). -/
def State.write4 (s : State) (c t w : Nat) (v : Word) : State :=
  let off := ent4Off c t w
  let old := s.word off
  let put := fun (x : Word) hi lo => withBits x hi lo (bitsOf v hi lo)
  let base := put (put 0 27 0) 31 31
  if w = 0 then
    if bitsOf v 30 28 ≤ 2 then s.setWord off (put base 30 28)
    else (s.setWord off (withBits base 30 28 (bitsOf old 30 28))).enumRefused
  else if w = 2 then s.setWord off (put base 28 28)
  else s.setWord off base

/-- TSET_ENTRY_WRITE (R172, R175): a write of word `w` of the entry of channel `c` and set `t`. Block offsets 0x60_0000 up
are unmapped in the TSET4 layout, so a TSET4 entry has four words. -/
def tsetEntryWrite (c t w : Nat) (v : Word) (s : State) : State :=
  if s.compat 0 && 4 ≤ w then s
  else if s.committing t then s.tsetWpDrop
  else
    let s := if s.compat 0 then s.write4 c t w v else s.plainWrite (R.TSET_ENT_c_s_W0 c t + 4 * w) v
    s.markEnt c t

/-- A write of TSET_PER_n_s_LO with the staged high word (R166, R172, R175). -/
def tsetPerWrite (n t : Nat) (lo : Word) (hi : Word) (s : State) : State :=
  if s.committing t then s.tsetWpDrop
  else ((s.setWord (R.TSET_PER_n_s_LO n t) lo).setWord (R.TSET_PER_n_s_HI n t) (BitVec.ofNat 32 (bitsOf hi 7 0))).markPer n t

/-! ## Commands (R173 to R175) -/

/-- A TSET_CMD write with a defined OP. -/
def tsetCmd (op tag t : Nat) (s : State) : State :=
  if s.is F.TSET_CMD_STATUS_BUSY then (s.bump R.TSET_CMD_REFUSED).put F.TSET_EVENT_CMD_REFUSED 1
  else
    let s := ((s.put F.TSET_CMD_STATUS_BUSY 1).put F.TSET_CMD_STATUS_OP op).put F.TSET_CMD_STATUS_TAG tag
    { s with ts := { s.ts with cmdSet := t } }

/-- The period range of R150. -/
def perOk (p : Nat) : Bool := 10000 ≤ p && p ≤ 32000000000

/-- The channel is one of 4g + 1 to 4g + 3 of a group whose channel 4g carries EDGE_OUT in the entries `ent`. -/
def edgeOutSlave (ent : Nat → TsEnt) (c : Nat) : Bool := c % 4 != 0 && (ent (c / 4 * 4)).format == fmtEdgeOut

/-- First enabled edge of a channel that breaks R154 against period `p`. -/
def edgeBad (ent : Nat → TsEnt) (c p : Nat) : Option Nat :=
  if edgeOutSlave ent c then none
  else (List.range 6).find? (fun i => (ent c).enab i && 2 * p ≤ 8 * (ent c).off i)

/-- R157: a window in use is at least 40 ps wide. -/
def windowBad (ent : Nat → TsEnt) (c : Nat) : Bool :=
  !edgeOutSlave ent c && (ent c).window && (ent c).c1 < (ent c).c0 + 160

/-- The channel that BAD_GROUP names (R174), for the first group that breaks R163. -/
def groupBad (ent : Nat → TsEnt) : Option Nat :=
  (List.range 128).findSome? (fun g =>
    let cs := [4 * g, 4 * g + 1, 4 * g + 2, 4 * g + 3]
    let out := cs.filter (fun c => (ent c).format == fmtEdgeOut)
    if out.isEmpty || out.length == 4 then none else cs.find? (fun c => (ent c).format != fmtEdgeOut))

/-- The checks of R174 on set `t`: RESULT and TSET_ERR_LOC of the first that fails. -/
def tsetCheck (s : State) (t : Nat) : Option (Nat × Nat) :=
  let ent := fun c => s.ent c t
  match siteNums.find? (fun n => !perOk (s.masterPer n t)) with
  | some n => some (1, 2 ^ 31 + n * 2 ^ 25)
  | none =>
    match groupBad ent with
    | some c => some (2, c)
    | none =>
      match (List.range 512).findSome? (fun c =>
          (s.chanSite c).bind (fun n => (edgeBad ent c (s.masterPer n t)).map (fun i => n * 2 ^ 25 + i * 2 ^ 22 + c))) with
      | some w => some (3, w)
      | none => ((List.range 512).find? (windowBad ent)).map (fun c => (4, 5 * 2 ^ 22 + c))

/-- A staged copy replaces its slot (R175). -/
def State.replaceSlot (s : State) (k i : Nat) : State :=
  if s.is (F.CLU_k_EC_SLOT_i_STAGED k i) then
    let x := s.slotOf k i
    let s := s.updSlot k i (fun x => { ents := x.stEnts, per := x.stPer, used := x.used })
    ((s.put (F.CLU_k_EC_SLOT_i_STAGED k i) 0).put (F.CLU_k_EC_SLOT_i_DIRTY_COPY k i) 0).put (F.CLU_k_EC_SLOT_i_GEN k i) x.stGen
  else s

/-- The slots of a cluster that hold a set of site `n`. -/
def State.siteSlots (s : State) (k n : Nat) : List Nat :=
  (List.range 32).filter (fun i => s.is (F.CLU_k_EC_SLOT_i_VALID k i) && s.get (F.CLU_k_EC_SLOT_i_SITE k i) == n)

/-- Replace the staged slots of site `n` that `f` selects. -/
def State.replaceStaged (s : State) (n : Nat) (f : EcSlot → Bool) : State :=
  s.each (s.siteClus n) (fun t k => t.each (t.siteSlots k n) (fun u i => if f (u.slotOf k i) then u.replaceSlot k i else u))

/-- The entries that cluster `k` would load of set `t`. -/
def State.cluEnts (s : State) (k t : Nat) : List TsEnt := (List.range 16).map (fun j => s.ent (16 * k + j) t)

/-- Stage the committed values beside a slot; a site that does not play takes them at once (R175). -/
def State.stageSlot (s : State) (t k i : Nat) : State :=
  if s.is (F.CLU_k_EC_SLOT_i_VALID k i) && s.get (F.CLU_k_EC_SLOT_i_SET k i) == t then
    let n := s.get (F.CLU_k_EC_SLOT_i_SITE k i)
    let gen := s.get (F.TSET_GEN_s_GEN t) % 256
    let ents := s.cluEnts k t
    let per := s.masterPer n t
    let s := s.updSlot k i (fun x => { x with
      stEnts := ents
      stPer := per
      stGen := gen
      stAfter := 0 })
    let s := s.put (F.CLU_k_EC_SLOT_i_STAGED k i) 1
    if s.playing n then s else s.replaceSlot k i
  else s

/-- Effect of a successful COMMIT of set `t` (R175). -/
def State.tsetCommitted (s : State) (t : Nat) : State :=
  let s := { s with ts := { s.ts with
    dirtyEnt := s.ts.dirtyEnt.filter (fun x => x % 256 != t)
    dirtyPer := s.ts.dirtyPer.filter (fun x => x % 256 != t) } }
  let s := (s.putBit (R.TSET_DIRTY_MAP_w (t / 32)) (t % 32) false).wrapInc (F.TSET_GEN_s_GEN t)
  s.each (List.range 32) (fun u k => u.each (List.range 32) (fun v i => v.stageSlot t k i))

/-- TSET_CMD_DONE (R173 to R175): the running command completes. -/
def tsetDone (s : State) : State :=
  if s.is F.TSET_CMD_STATUS_BUSY then
    let t := s.ts.cmdSet
    let s1 := (s.put F.TSET_CMD_STATUS_BUSY 0).put F.TSET_EVENT_CMD_DONE 1
    if s.get F.TSET_CMD_STATUS_OP = 1 then
      match tsetCheck s t with
      | some (code, loc) => (s1.put F.TSET_CMD_STATUS_RESULT code).putN R.TSET_ERR_LOC loc
      | none => (s1.put F.TSET_CMD_STATUS_RESULT 0).tsetCommitted t
    else s1.put F.TSET_CMD_STATUS_RESULT 0
  else s

/-! ## Edge caches (R168 to R177) -/

/-- The slots of cluster `k` that serve site `n` (R168). -/
def State.portion (s : State) (k n : Nat) : List Nat :=
  if s.is (F.CLU_k_EC_CFG_SPLIT k) then
    if s.get (F.CLU_k_EC_CFG_SITE0 k) = n then List.range 16 else List.range' 16 16
  else List.range 32

/-- The sets that granules of a list of items use, from the set in force before them. -/
def itemSets : Nat → List Item → List Nat
  | _, [] => []
  | t, i :: is =>
    match i.body with
    | .run _ _ _ _ | .hold _ _ => t :: itemSets t is
    | .eff (.tset u) => itemSets u is
    | .eff (.matchWait _ _ _ _ _ _ _ _) | .eff (.waitCore _ _ _ _) | .eff (.transit _ _) => t :: itemSets t is
    | .eff _ => itemSets t is

/-- The sets of the resolved granules of site `n` that have not played, prefetches included (R169). -/
def State.coming (s : State) (n : Nat) : List Nat :=
  let c := s.seqOf n
  (itemSets c.play.tset c.main.items ++ c.pfs.flatMap (fun p => itemSets p.path.tset0 p.path.items)).dedup

/-- The sets that lock slots of site `n` (R169): the coming ones and the set in force at the pins. -/
def State.lockedSets (s : State) (n : Nat) : List Nat :=
  if s.armed n then ((s.playOf n).tset :: s.coming n).dedup else []

/-- CLU_k_EC_SLOT_i.LOCKED (R169). -/
def State.slotLocked (s : State) (k i : Nat) : Bool :=
  s.is (F.CLU_k_EC_SLOT_i_VALID k i) &&
    (s.lockedSets (s.get (F.CLU_k_EC_SLOT_i_SITE k i))).contains (s.get (F.CLU_k_EC_SLOT_i_SET k i))

/-- The slot of a list that was played or loaded least recently. -/
def State.lru (s : State) (k : Nat) (l : List Nat) : Option Nat :=
  l.foldl (fun m i => match m with
    | none => some i
    | some j => if (s.slotOf k i).used < (s.slotOf k j).used then some i else m) none

/-- The slot that a load or a moving set takes among `l`: a free one, else the least recently played unlocked one. -/
def State.pickSlot (s : State) (k : Nat) (l : List Nat) : Option Nat :=
  match l.find? (fun i => !s.is (F.CLU_k_EC_SLOT_i_VALID k i)) with
  | some i => some i
  | none => s.lru k (l.filter (fun i => !s.slotLocked k i))

/-- The use stamp of a slot moves to the front. -/
def State.touchSlot (s : State) (k i : Nat) : State :=
  let st := s.ts.stamp + 1
  { s with ts := { s.ts with stamp := st } }.updSlot k i (fun x => { x with used := st })

/-- Queued loads of a cluster. -/
def State.loadsOf (s : State) (k : Nat) : List (Nat × Nat) := Tab.get [] s.ts.loads k

/-- Replace the load queue of a cluster. -/
def State.setLoads (s : State) (k : Nat) (l : List (Nat × Nat)) : State :=
  { s with ts := { s.ts with loads := Tab.set [] k l s.ts.loads } }

/-- Request set `t` for site `n` in every cluster that does not hold it (R169). -/
def State.requestSet (s : State) (n t : Nat) : State :=
  s.each (s.siteClus n) (fun u k =>
    if (u.ecFind k n t).isSome || (u.loadsOf k).contains (n, t) then u else u.setLoads k (u.loadsOf k ++ [(n, t)]))

/-- Every slot of a portion is locked, so that set `t` finds none (R170). The set in force locks a slot where one holds it. -/
def State.setBlocked (s : State) (n t : Nat) : Bool :=
  let f := (s.playOf n).tset
  let l := (s.coming n).filter (fun u => u != f)
  s.armed n && !(s.coming n).contains t && (s.siteClus n).any (fun k =>
    (s.ecFind k n t).isNone &&
      (s.portion k n).length ≤ l.length + b2n ((s.coming n).contains f || (s.ecFind k n f).isSome))

/-- A load meets dirty entries of the site's channels or a dirty period (R176). -/
def State.loadDirty (s : State) (k n t : Nat) : Bool :=
  s.ts.dirtyPer.contains (256 * n + t) ||
    (List.range 16).any (fun j => s.siteOct n (2 * k + j / 8) && s.ts.dirtyEnt.contains (256 * (16 * k + j) + t))

/-- EC_LOAD_DONE (R169, R176): the load at the front of a cluster's queue completes into a slot of the portion. -/
def ecLoadDone (k : Nat) (s : State) : State :=
  match s.loadsOf k with
  | [] => s
  | (n, t) :: rest =>
    match s.pickSlot k (s.portion k n) with
    | none => s
    | some i =>
      let evict := s.is (F.CLU_k_EC_SLOT_i_VALID k i)
      let dirty := s.loadDirty k n t
      let s := (s.setLoads k rest).bump (R.CLU_k_EC_LOADS k)
      let s := s.when evict (fun u => u.bump (R.CLU_k_EC_EVICT k))
      let s := s.when dirty (fun u => (u.bump R.TSET_DIRTY_USE_CNT).put F.TSET_EVENT_DIRTY_USE 1)
      let s := s.putN (R.CLU_k_EC_SLOT_i k i)
        (2 ^ 31 + b2n dirty * 2 ^ 30 + n * 2 ^ 22 + s.get (F.TSET_GEN_s_GEN t) % 256 * 2 ^ 8 + t)
      let ents := s.cluEnts k t
      let per := s.masterPer n t
      let s := s.updSlot k i (fun _ => { ents := ents, per := per })
      (s.touchSlot k i).primeCheck n

/-- Empty slots of a cluster. -/
def State.emptySlots (s : State) (k : Nat) (l : List Nat) : State :=
  s.each l (fun u i => (u.putN (R.CLU_k_EC_SLOT_i k i) 0).updSlot k i (fun _ => {}))

/-- Move the set in slot `i` to slot `j`. -/
def State.moveSlot (s : State) (k i j : Nat) : State :=
  let w := s.word (R.CLU_k_EC_SLOT_i k i)
  let x := s.slotOf k i
  ((s.setWord (R.CLU_k_EC_SLOT_i k j) w).updSlot k j (fun _ => x)).emptySlots k [i]

/-- Sort slots by use, most recent first. -/
def sortUse (f : Nat → Nat) (l : List Nat) : List Nat :=
  l.foldl (fun acc i => acc.takeWhile (fun j => f i < f j) ++ i :: acc.dropWhile (fun j => f i < f j)) []

/-- One set of a ceded half moves into the kept half, or is dropped (R168). -/
def State.cedeSlot (s : State) (k m : Nat) (kept : List Nat) (i : Nat) : State :=
  match s.pickSlot k kept with
  | some j => s.moveSlot k i j
  | none =>
    if s.get (F.CLU_k_EC_SLOT_i_SET k i) = (s.playOf m).tset then
      match s.lru k kept with
      | some j => s.moveSlot k i j
      | none => s
    else s.emptySlots k [i]

/-- Split the cache of cluster `k`, which serves the armed site `m` alone, to the advantage of site `n`, whose octet is
`2k + h` (R168). -/
def State.splitCache (s : State) (k m n h : Nat) : State :=
  let kept := if h = 0 then List.range' 16 16 else List.range 16
  let ceded := if h = 0 then List.range 16 else List.range' 16 16
  let held := ceded.filter (fun i => s.is (F.CLU_k_EC_SLOT_i_VALID k i))
  let use := fun i => (s.slotOf k i).used
  let isPin := fun i => s.get (F.CLU_k_EC_SLOT_i_SET k i) == (s.playOf m).tset
  let order := held.filter isPin ++ sortUse use (held.filter (fun i => !isPin i && s.slotLocked k i)) ++
    sortUse use (held.filter (fun i => !isPin i && !s.slotLocked k i))
  let s := s.each order (fun u i => u.cedeSlot k m kept i)
  let s := s.emptySlots k ceded
  let s := s.putN (R.CLU_k_EC_CFG k) (2 ^ 15 + (if h = 0 then m else n) * 2 ^ 8 + (if h = 0 then n else m))
  s.each (s.coming m) (fun u t =>
    if (u.ecFind k m t).isSome || (u.loadsOf k).contains (m, t) then u else u.setLoads k (u.loadsOf k ++ [(m, t)]))

/-- The edge caches at the arm of site `n`, bound to `octs` (R168). -/
def State.ecArm (s : State) (n : Nat) (octs : List Nat) : State :=
  s.each ((octs.map (· / 2)).dedup) (fun u k =>
    let both := octs.contains (2 * k) && octs.contains (2 * k + 1)
    let h := if octs.contains (2 * k) then 0 else 1
    match siteNums.find? (fun m => m != n && !both && u.siteOct m (2 * k + 1 - h)) with
    | some m => u.splitCache k m n h
    | none => (u.emptySlots k (List.range 32)).putN (R.CLU_k_EC_CFG k) n)

/-- The edge caches at the disarm of site `n` (R168). -/
def State.ecDisarm (s : State) (n : Nat) : State :=
  s.each (s.siteClus n) (fun u k =>
    let u := (u.emptySlots k (u.portion k n)).setLoads k ((u.loadsOf k).filter (fun p => p.1 != n))
    match siteNums.find? (fun m => m != n && u.siteClu m k) with
    | some m => u.putN (R.CLU_k_EC_CFG k) m
    | none => u.putN (R.CLU_k_EC_CFG k) 0)

/-- R178: the arm check of R154 for every channel of the octets against the site's committed periods. -/
def tsetArmOk (s : State) (n : Nat) (octs : List Nat) : Bool :=
  (List.range 256).all (fun t =>
    octs.all (fun o => (List.range 8).all (fun j => (edgeBad (fun c => s.ent c t) (8 * o + j) (s.masterPer n t)).isNone)))

/-! ## What a cluster plays -/

/-- The entry that channel `c` plays in set `t` of site `n`. -/
def State.playEnt (s : State) (n t c : Nat) : TsEnt :=
  match s.slotFor (c / 16) n t with
  | some x => x.ents.getD (c % 16) {}
  | none => s.ent c t

/-- Delay of the RESULT_IN sample of channel `c` (R208, R209). -/
def State.eoDly (s : State) (c : Nat) : Nat := s.get (F.CLU_k_CH_j_EO_RESULT_DLY (c / 16) (c % 16))

/-- C_max of R130 in 0.25 ps: the latest enabled compare-edge offset among the site's channels; none without one. -/
def State.cMax (s : State) (n t : Nat) : Option Nat :=
  (s.siteChans n).foldl (fun m c =>
    let e := s.playEnt n t c
    if edgeOutSlave (s.playEnt n t) c || (e.format == fmtEdgeOut && c % 4 != 0) then m
    else (e.cmpOffs.map (fun o => if e.format = fmtEdgeOut then o + s.eoDly c else o)).foldl (fun m o => match m with
      | none => some o
      | some x => some (max x o)) m) none

/-- The smallest number of granules of period `t32` (1/32 ps) that lasts at least `need` (1/32 ps), never less than one. -/
def granNeed (need : Int) (t32 : Nat) : Nat := max 1 (ceilDiv need.toNat (32 * t32))

/-- L + S of R129 and R130 in 1/32 ps for flag select `flag` after a vector of set `t`. -/
def State.shadowTime (s : State) (n t flag : Nat) (span : Bool) : Int :=
  let lat : Nat := if span then s.get (F.SEQ_CTX_n_SPAN_LAT_NS n) else 160
  let strobe : Int := if 4 ≤ flag then 0 else
    match s.cMax n t with
    | none => 0
    | some c => (8 * c : Int) - (s.sitePer n t : Int)
  (32000 * lat : Int) + strobe

/-! ## Meanings -/

def execTsetEntryWrite (c : Channel) (t : Set8) (w : Fin 8) (v : Word) (s : State) : Host.Outcome State Fault Refusal :=
  .next (tsetEntryWrite c.val t.val w.val v s)
def execTsetNop (tag : Set8) (s : State) : Host.Outcome State Fault Refusal := .next (tsetCmd 0 tag.val 0 s)
def execTsetCommit (tag t : Set8) (s : State) : Host.Outcome State Fault Refusal := .next (tsetCmd 1 tag.val t.val s)
def execTsetCmdDone (s : State) : Host.Outcome State Fault Refusal := .next (tsetDone s)
def execEcLoadDone (k : Cluster) (s : State) : Host.Outcome State Fault Refusal := .next (ecLoadDone k.val s)

end Sys2Proof.Machine
end

