-- ==== Sys2Proof/Machine/Charge.lean ====
section
/-!
DEFINITION. Site charges of the governor (R389 to R391): the scaled energy of drawers, the charge of a site, and its rise
while the site runs.
-/

namespace Sys2Proof.Machine

/-- Governor state of a site. -/
def State.govOf (s : State) (n : Nat) : GovSite := Tab.get {} s.gov.sites n
/-- Update the governor state of a site. -/
def State.updGov (s : State) (n : Nat) (f : GovSite → GovSite) : State :=
  { s with gov := { s.gov with sites := Tab.set {} n (f (s.govOf n)) s.gov.sites } }

/-- VCLAMP of a cluster in level codes (R186). -/
def State.vclamp (s : State) (k : Nat) : Nat := s.get (F.CLU_k_BANK_CFG_VNOM k) * 1000 / 30

/-- Offset of word `w` (0 VIH, 1 VIL, 2 VOH, 3 VOL, 4 VTT) of level set `t` of channel `c` (R187). -/
def lsOff (c t w : Nat) : Nat := R.CLU_k_LS_j_s_VIH (c / 16) (c % 16) t + 4 * w

/-- A level of a channel as applied, in 30 µV steps: the code clamped to the bank (R186). -/
def State.levelOf (s : State) (c t w : Nat) : Nat := min (s.num (lsOff c t w)) (s.vclamp (c / 16))

/-- V_bank of R389 in mV. -/
def State.vBank (s : State) (n : Nat) : Nat :=
  (s.siteClus n).foldl (fun m k => max m (s.get (F.CLU_k_BANK_CFG_VNOM k))) 0

/-- V_swing of R389 in 30 µV steps, in the level set in force on each channel. -/
def State.vSwing (s : State) (n : Nat) : Nat :=
  (s.siteChans n).foldl (fun m c => max m (s.levelOf c (s.chanOf c).ls 0 - s.levelOf c (s.chanOf c).ls 1)) 0

/-- The unscaled energy per granule of a drawer on a site of `b` octets, in pJ: ENERGY, or 7600 pJ for each covered octet
where ENERGY is 0 (R389). -/
def rawEnergy (e : DirEnt) (b : Nat) : Nat := if e.energy = 0 then 7600 * popCount b e.mask else e.energy

/-- The charge of site `n` in µW (R389, R390), rounded down: B × OCT_FIX + E_max / (32 × T), where a granule lasts T
picoseconds if the period is T units of 1/32 ps. -/
def State.chargeNow (s : State) (n : Nat) : Nat :=
  let g := s.govOf n
  let b := (s.siteOf n).octs.length
  let t := s.sitePer n (s.playOf n).tset
  let scaled := g.rawMax * s.vBank n * (30 * s.vSwing n)
  let decl := g.emax * 1200 * 800000
  b * s.get F.GOV_OCT_FIX_MW * 1000 + max scaled decl * 1000000 / (1200 * 800000 * t)

/-- GOV_PWR_CHARGED: the base power plus all charges, in 0.1 W (R387). -/
def State.chargedShow (s : State) : State :=
  let sum := (s.gov.sites.map (fun p => p.2.charge)).sum
  let s := s.putN R.GOV_PWR_CHARGED (min 0xFFFF (s.get F.GOV_BASE_PWR_P + sum / 100000))
  s.put F.GOV_STATUS_OVER (b2n (decide (s.get F.GOV_BUDGET_BUDGET < s.get F.GOV_PWR_CHARGED_P)))

/-- Set the charge of a site. -/
def State.setCharge (s : State) (n v : Nat) : State :=
  ((s.updGov n (fun g => { g with charge := v })).putN (R.GOV_SITE_n_CHARGE n) (min 0xFFFF (v / 100000))).chargedShow

/-- Recompute the charge of an admitted site; it rises at once and never falls (R391). -/
def State.chargeRaise (s : State) (n : Nat) : State :=
  let v := s.chargeNow n
  if s.get (F.GOV_SITE_n_STATUS_STATE n) = 2 ∧ (s.govOf n).charge < v then
    (s.setCharge n v).put (F.GOV_SITE_n_STATUS_RAISED n) 1
  else s

/-- A drawer was selected for the site: E_max takes it in, and the charge is recomputed (R390, R391). -/
def State.chargeDrawer (s : State) (n : Nat) (e : DirEnt) : State :=
  (s.updGov n (fun g => { g with rawMax := max g.rawMax (rawEnergy e (s.siteOf n).octs.length) })).chargeRaise n

/-- The charge is released when the site halts or is disarmed (R391). -/
def State.chargeRelease (s : State) (n : Nat) : State :=
  let s := { s with gov := { s.gov with queue := s.gov.queue.filter (· != n) } }
  (s.setCharge n 0).put (F.GOV_SITE_n_STATUS_STATE n) 0

end Sys2Proof.Machine
end

