-- ==== Sys2Proof/Machine/Pins.lean ====
section
/-!
DEFINITION. Pin electronics (chapter 07) and the edges of chapter 06 at the pins: banks, level sets and settling, the driver
and termination, the parametric unit and the measurement converter, edge events and their two streams.
-/

namespace Sys2Proof.Machine

/-! ## Settling and levels (R186 to R192) -/

/-- 2 µs in 0.25 ps. -/
def settleLen : Nat := 8000000

/-- A settling window starts on a channel at a time in 0.25 ps; a start inside a running window restarts it (R191). -/
def State.startSettle (s : State) (c t : Nat) : State :=
  s.updChan c (fun x => match x.settle with
    | some (a, b) =>
      if t < b then { x with settle := some (a, t + settleLen) }
      else { x with settle := some (t, t + settleLen), settled := x.settled ++ [(a, b)] }
    | none => { x with settle := some (t, t + settleLen) })

/-- A time lies inside a settling window of the channel. -/
def Chan.settling (x : Chan) (t : Nat) : Bool :=
  let inside := fun (w : Nat × Nat) => w.1 ≤ t && t < w.2
  (match x.settle with
   | some w => inside w
   | none => false) || x.settled.any inside

/-- SETTLE_END (R191): the running window of a channel expires. -/
def settleEnd (c : Nat) (s : State) : State :=
  match (s.chanOf c).settle with
  | none => s
  | some w => s.updChan c (fun x => { x with settle := none, settled := x.settled ++ [w] })

/-- The levels of the set in force on a channel that are clamped (R186). -/
def State.clampedLevels (s : State) (c : Nat) : List Nat :=
  (List.range 5).filter (fun w => s.vclamp (c / 16) < s.num (lsOff c (s.chanOf c).ls w))

/-- Apply levels of the set in force on a channel: clamped ones are counted and reported (R186). -/
def State.applyLevels (s : State) (c : Nat) (ws : List Nat) : State :=
  let cl := s.clampedLevels c
  let hit := ws.filter cl.contains
  let k := c / 16
  let s := s.put (F.CLU_k_CH_j_STATUS_CLAMPED k (c % 16)) (b2n !cl.isEmpty)
  s.when (!hit.isEmpty) (fun t => (t.addSat (R.CLU_k_CLAMP_CNT k) hit.length).put (F.CLU_k_EVENT_CLAMP k) 1)

/-- A level set comes into force on a channel at a time (R186 to R188, R191). -/
def State.setLevels (s : State) (c ls t : Nat) : State :=
  ((s.updChan c (fun x => { x with ls := ls })).applyLevels c [0, 1, 2, 3, 4]).startSettle c t

/-- LEVEL_WRITE (R185, R188): a write of word `w` of level set `t` of a channel. -/
def levelWrite (c t w : Nat) (v : Word) (s : State) : State :=
  let ok := bitsOf v 15 0 ≤ 65000
  let s := s.plainWrite (lsOff c t w) v
  s.when (ok && (s.chanOf c).ls == t) (fun u => (u.applyLevels c [w]).startSettle c u.nowQ)

/-! ## Banks (R182 to R184) -/

/-- A bank voltage lies within 90 % to 110 % of VNOM. -/
def bankIn (vnom mv : Nat) : Bool := 9 * vnom ≤ 10 * mv && 10 * mv ≤ 11 * vnom

/-- Record a measured bank voltage. -/
def State.bankMeas (s : State) (k mv : Nat) : State :=
  (s.put (F.CLU_k_BANK_STATUS_VMEAS k) mv).put (F.CLU_k_BANK_STATUS_POWERED k) (b2n (decide (500 ≤ mv)))

/-- A write dropped because the cluster is in use (R196). -/
def State.cluDrop (s : State) (k : Nat) : State := (s.bump (R.CLU_k_WR_DROP k)).put (F.CLU_k_EVENT_WR_DROP k) 1

/-- Any site bound to an octet of the cluster is armed. -/
def State.cluArmed (s : State) (k : Nat) : Bool := siteNums.any (fun n => s.siteClu n k)

/-- BANK_VNOM_WRITE (R182, R196). -/
def bankVnomWrite (k : Nat) (v : Word) (s : State) : State :=
  if s.cluArmed k then s.cluDrop k
  else
    let old := s.get (F.CLU_k_BANK_CFG_VNOM k)
    let s := s.plainWrite (R.CLU_k_BANK_CFG k) v
    let new := s.get (F.CLU_k_BANK_CFG_VNOM k)
    s.when (new == 0 || old == 0) (fun t => t.put (F.CLU_k_BANK_STATUS_IN_WINDOW k) 0)

/-- BANK_OUT_OF_WINDOW (R183): the voltage has been outside the range for 1 µs. -/
def bankOut (k mv : Nat) (s : State) : State :=
  let s := s.bankMeas k mv
  if s.is (F.CLU_k_BANK_STATUS_IN_WINDOW k) ∧ !bankIn (s.get (F.CLU_k_BANK_CFG_VNOM k)) mv then
    let s := (s.put (F.CLU_k_BANK_STATUS_IN_WINDOW k) 0).put (F.CLU_k_EVENT_BANK_FAULT k) 1
    ((s.bump (R.CLU_k_BANK_FAULT_CNT k)).invalidateAll (s.cluSites k) causeLevels).tdcNote k
  else s

/-- BANK_IN_WINDOW (R183): the voltage has been in the range for 100 µs. -/
def bankBack (k mv : Nat) (s : State) : State :=
  let s := s.bankMeas k mv
  if s.is (F.CLU_k_BANK_CFG_VNOM k) ∧ !s.is (F.CLU_k_BANK_STATUS_IN_WINDOW k) ∧
      bankIn (s.get (F.CLU_k_BANK_CFG_VNOM k)) mv then
    (s.put (F.CLU_k_BANK_STATUS_IN_WINDOW k) 1).each (List.range 16) (fun t j => t.startSettle (16 * k + j) t.nowQ)
  else s

/-! ## The state of a pin -/

/-- LEVEL_DAC or CLUSTER_FULL runs on the cluster (R404). -/
def State.calHolds (s : State) (k : Nat) : Bool :=
  s.get (F.CAL_CL_k_STATE_ACTIVE k) == 2 || s.get (F.CAL_CL_k_STATE_ACTIVE k) == 3

/-- MODE of the parametric unit of a channel. -/
def State.ppMode (s : State) (c : Nat) : Nat := s.get (F.CLU_k_PP_j_CTRL_MODE (c / 16) (c % 16))

/-- The driver and the termination of a channel may act: bank in window, no safe state, PPMU off, no intrusive calibration
(R182, R183, R200, R213, R404). -/
def State.pinLive (s : State) (c : Nat) : Bool :=
  s.is (F.CLU_k_BANK_STATUS_IN_WINDOW (c / 16)) && !s.pinsHeld && s.ppMode c == 0 && !s.calHolds (c / 16)

/-- The channel is DATA, ENABLE or STROBE of a group whose channel 4g plays EDGE_OUT: its driver stays on (R207). -/
def State.eoDriver (s : State) (c : Nat) : Bool :=
  match s.chanSite c with
  | none => false
  | some n => c % 4 != 3 && (s.playEnt n (s.playOf n).tset (c / 4 * 4)).format == fmtEdgeOut

/-- The driver of a channel is on. -/
def State.drvOn (s : State) (c : Nat) : Bool := s.pinLive c && ((s.chanOf c).drvOn || s.eoDriver c)

/-- The termination of a channel is connected (R194). -/
def State.termOn (s : State) (c : Nat) : Bool :=
  s.is (F.CLU_k_CH_j_CFG_TERM_EN (c / 16) (c % 16)) && s.pinLive c && !s.drvOn c

/-- CLU_k_CH_j_STATUS as a read returns it (R215). -/
def State.chStatus (s : State) (c : Nat) : Nat :=
  let k := c / 16
  let j := c % 16
  64 * b2n s.safe + 32 * s.get (F.CLU_k_CH_j_STATUS_OCP k j) + 16 * b2n (s.ppMode c != 0) +
    8 * s.get (F.CLU_k_CH_j_STATUS_CLAMPED k j) + 4 * b2n (s.termOn c) + 2 * b2n (s.drvOn c) +
    b2n (s.chanSite c).isSome

/-- OCP_DETECT (R195). -/
def ocpDetect (c : Nat) (s : State) : State :=
  (s.put (F.CLU_k_CH_j_STATUS_OCP (c / 16) (c % 16)) 1).put (F.CLU_k_EVENT_OCP (c / 16)) 1

/-! ## Parametric measurement (R199 to R206) -/

/-- FORCE holds a value that FVMI refuses (R201). -/
def forceBad (v : Nat) : Bool := 65000 < v % 2 ^ 16 || v / 2 ^ 16 % 4 != 0

/-- PPMU_CTRL_WRITE (R199 to R201). -/
def ppmuCtrlWrite (k j : Nat) (v : Word) (s : State) : State :=
  let mode := bitsOf v 1 0
  if (mode = 1 ∨ mode = 2) ∧ (s.chanSite (16 * k + j)).isSome then s.cluDrop k
  else
    let s := s.put (F.CLU_k_PP_j_CTRL_RANGE k j) (bitsOf v 3 2)
    if mode = 3 ∨ (mode = 1 ∧ forceBad (s.get (F.CLU_k_PP_j_FORCE_VALUE k j))) then s.enumRefused
    else s.put (F.CLU_k_PP_j_CTRL_MODE k j) mode

/-- PPMU_FORCE_WRITE (R201). -/
def ppmuForceWrite (k j : Nat) (v : Word) (s : State) : State :=
  if s.get (F.CLU_k_PP_j_CTRL_MODE k j) = 1 ∧ forceBad (bitsOf v 17 0) then s.enumRefused
  else s.put (F.CLU_k_PP_j_FORCE_VALUE k j) (bitsOf v 17 0)

/-- PPMU_VCLAMP_WRITE (R202): each field on its own, then the combination. -/
def ppmuVclampWrite (k j : Nat) (v : Word) (s : State) : State :=
  let okHi := bitsOf v 31 16 ≤ 65000
  let okLo := bitsOf v 15 0 ≤ 65000
  let hi := if okHi then bitsOf v 31 16 else s.get (F.CLU_k_PP_j_VCLAMP_HI k j)
  let lo := if okLo then bitsOf v 15 0 else s.get (F.CLU_k_PP_j_VCLAMP_LO k j)
  let s := (s.when (!okHi) State.enumRefused).when (!okLo) State.enumRefused
  if hi < lo then s.enumRefused
  else (s.put (F.CLU_k_PP_j_VCLAMP_HI k j) hi).put (F.CLU_k_PP_j_VCLAMP_LO k j) lo

/-- PPMU_LIMIT (R202): a limit of the PPMU of a channel becomes active. -/
def ppmuLimit (k j : Nat) (s : State) : State :=
  if s.ppMode (16 * k + j) = 0 then s
  else
    let cur := s.get (F.CLU_k_MC_STATUS_CUR_CH k)
    { s with mc := Tab.set {} k { clampSeen := (Tab.get ({} : Mc) s.mc k).clampSeen || (cur == j) } s.mc }.put
      (F.CLU_k_EVENT_PPMU_CLAMP k) 1

/-- The mean of a list of codes, rounded to the nearest code with ties away from 0 (R204). -/
def meanCode (l : List Int) : Int :=
  let n : Int := l.length
  let sum := l.sum
  if 0 ≤ sum then (2 * sum + n) / (2 * n) else -((2 * (-sum) + n) / (2 * n))

/-- The converter starts a slice on the next channel of the rotation after `cur`, if there is one (R204 to R206). -/
def State.mcNext (s : State) (k : Nat) (cur : Option Nat) : State :=
  let mask := s.get (F.CLU_k_MC_CTRL_MASK k)
  let l := bitList 16 mask
  let after := match cur with
    | some c => l.find? (fun j => c < j)
    | none => none
  let s := s.when (cur.isSome && after.isNone && !l.isEmpty) (fun t => t.wrapInc (F.CLU_k_MC_STATUS_ROUND k))
  match after, l with
  | some j, _ => (s.put (F.CLU_k_MC_STATUS_CUR_CH k) j).put (F.CLU_k_MC_STATUS_RUNNING k) 1
  | none, j :: _ => (s.put (F.CLU_k_MC_STATUS_CUR_CH k) j).put (F.CLU_k_MC_STATUS_RUNNING k) 1
  | none, [] => s.put (F.CLU_k_MC_STATUS_RUNNING k) 0

/-- A write of CLU_k_MC_CTRL starts a stopped converter (R205). -/
def State.mcCtrlWrite (s : State) (k : Nat) (v : Word) : State :=
  let s := s.plainWrite (R.CLU_k_MC_CTRL k) v
  if s.is (F.CLU_k_MC_STATUS_RUNNING k) ∨ s.is (F.CLU_k_MC_STATUS_CAL k) then s else s.mcNext k none

/-- MC_SLICE_END (R204 to R206): the 2^AVG conversions of the running slice. While a calibration of the cluster uses the
converter, the rotation pauses. -/
def mcSliceEnd (k : Nat) (conv : List Int) (s : State) : State :=
  if s.is (F.CLU_k_MC_STATUS_RUNNING k) ∧ conv.length = 2 ^ s.get (F.CLU_k_MC_TIMING_AVG k) then
    let j := s.get (F.CLU_k_MC_STATUS_CUR_CH k)
    let cl := (Tab.get ({} : Mc) s.mc k).clampSeen
    let s := s.put (F.CLU_k_PP_j_RESULT_CODE k j) (toBits 18 (meanCode conv))
    let s := (s.put (F.CLU_k_PP_j_RESULT_CLAMP k j) (b2n cl)).wrapInc (F.CLU_k_PP_j_RESULT_SEQ k j)
    let s := { s with mc := Tab.set ({} : Mc) k {} s.mc }
    if s.calHolds k then (s.put (F.CLU_k_MC_STATUS_CAL k) 1).put (F.CLU_k_MC_STATUS_RUNNING k) 0
    else s.mcNext k (some j)
  else s

/-! ## Symbols and the edges they fire (R158 to R163) -/

/-- The symbol codes (R30). -/
def symZ : Nat := 2
def symK : Nat := 3
def symL : Nat := 4
def symH : Nat := 5
def symM : Nat := 6
def symX : Nat := 7

/-- The symbol of channel `j` in vector `v` of a slab (R31). -/
def slabSym (slab : List Byte) (v j : Nat) : Nat := leNat ((slab.drop (3 * v)).take 3) / 2 ^ (3 * j) % 8

/-- The symbols of site-octet rank `r` are substituted hold symbols, which act as K in every format (R161): hold granules,
paused frames, octets that the mask leaves out (R33), slabs delivered as K (R99). -/
def Gran.sub (g : Gran) (r : Nat) : Bool := g.hold || g.paused || g.bad.contains r || !g.ranks.contains r

/-- The entry that channel `c` of site `n` plays in a granule. -/
def State.granEnt (s : State) (n : Nat) (g : Gran) (c : Nat) : TsEnt :=
  g.ents.getD (((s.siteOf n).octs.findIdx? (· == c / 8)).getD 64 * 8 + c % 8) {}

/-- The symbol of a channel of site-octet rank `r` in vector `v` of a granule: K where the granule holds, is paused, or its
mask leaves the octet out, or its slab was delivered as K (R33, R99, R161). -/
def Gran.sym (g : Gran) (r v j : Nat) : Nat :=
  if g.sub r then symK
  else
    match g.ranks.findIdx? (· == r) with
    | none => symK
    | some i => slabSym (g.slabs.getD i []) v j

/-- The edges that a symbol fires on a channel (R159, R160, R162, R163, R207): edge number and action; `lead` for channel
4g, `w` the STROBE width. -/
def edgeActions (e : TsEnt) (lead : Bool) (w y : Nat) : List (Nat × EvKind) :=
  let f := e.format
  let drive := y < 2
  let one := y == 1
  let off := [(3, EvKind.off)]
  let acts :=
    if f = fmtDual then
      if y < 4 then [(0, .level (y == 1 || y == 3) true), (1, .level (y == 1 || y == 2) true)] else off
    else if y = symK then []
    else if f = fmtNrz then if drive then [(0, .level one true)] else off
    else if f = fmtRz then if drive then [(0, .level one true), (1, .level false true)] else off
    else if f = fmtRo then if drive then [(0, .level one true), (1, .level true true)] else off
    else if f = fmtSbc then
      if drive then [(0, .level (!one) true), (1, .level one true), (2, .level (!one) true)] else off
    else if f = fmtZwin then if drive then [(0, .level one false), (2, .on), (3, .off)] else off
    else if f = fmtEdgeOut && lead then
      if drive then [(0, .level one false), (2, .enable true)]
      else if y = symL ∨ y = symH then [(0, .level (y == symH) false), (3, .enable false), (4, .strobe w)]
      else [(3, .enable false)]
    else []
  acts.filter (fun a => e.enab a.1)

/-- The calibration correction of channel `c` of site `n` in 0.25 ps (R152, R414). -/
def State.edgeCorr (s : State) (n c : Nat) : Int :=
  sext 12 (s.get (F.CAL_CL_k_CH_j_TRIM_DESKEW (c / 16) (c % 16))) +
    (if s.is (F.CAL_SITE_n_SKEW_VALID n) then sext 16 (s.get (F.CAL_SITE_n_SKEW_SKEW n)) else 0)

/-- A time in 0.25 ps with a correction. -/
def addCorr (t : Nat) (d : Int) : Nat := ((t : Int) + d).toNat

/-- The events of a channel come before one another by placed time, then vector, then edge (R155). -/
def evBefore (a b : EdgeEv) : Bool :=
  a.t < b.t || (a.t == b.t && (a.vec < b.vec || (a.vec == b.vec && a.edge < b.edge)))

/-- Insert an event in order. -/
def insEv (e : EdgeEv) : List EdgeEv → List EdgeEv
  | [] => [e]
  | a :: l => if evBefore e a then e :: a :: l else a :: insEv e l

/-- Less than 120 ps after the previous kept event. -/
def tooClose (last : Option Nat) (t : Nat) : Bool :=
  match last with
  | none => false
  | some u => t < u + 480

/-- Turn the driver on or off: an event of the enable stream where it changes the state (R155); answers the channel and the
collisions. -/
def Chan.drive (x : Chan) (v : Bool) (t : Nat) : Chan × Nat :=
  if x.drvOn = v then (x, 0)
  else if tooClose x.lastEn t then (x, 1)
  else ({ x with drvOn := v, lastEn := some t }, 0)

/-- One event fires (R155, R160, R211). -/
def Chan.fire (x : Chan) (e : EdgeEv) : Chan × Nat :=
  match e.kind with
  | .level v auto =>
    let drop := tooClose x.lastLvl e.t
    let y := if drop then x else { x with level := v, lastLvl := some e.t }
    let (z, k) := if auto && !y.drvOn then y.drive true e.t else (y, 0)
    (z, k + b2n drop)
  | .on => x.drive true e.t
  | .off => x.drive false e.t
  | .enable v =>
    if x.enabled = v then (x, 0)
    else if tooClose x.lastEn e.t then (x, 1)
    else ({ x with enabled := v, lastEn := some e.t }, 0)
  | .strobe w =>
    if tooClose x.lastStb e.t then ({ x with noStrobe := x.noStrobe ++ [e.vec] }, 1)
    else ({ x with lastStb := some (e.t + w) }, 0)

/-- Fire events in order; answers the collisions. -/
def Chan.fireAll (x : Chan) : List EdgeEv → Chan × Nat
  | [] => (x, 0)
  | e :: l =>
    let r := x.fire e
    let q := r.1.fireAll l
    (q.1, r.2 + q.2)

/-- The STROBE pulse of vector `v` is dropped (R211), among the events that have fired and those that are queued. -/
def Chan.noPulse (x : Chan) (v : Nat) : Bool := (x.fireAll x.evs).1.noStrobe.contains v

/-- Count collisions of a channel of site `n` (R155, R156). -/
def State.collide (s : State) (n c k : Nat) : State :=
  if k = 0 then s
  else
    let s := (s.addSat (R.TSET_SITE_n_COLL_CNT n) k).addSat (R.CLU_k_EC_COLL_j (c / 16) (c % 16)) k
    if (s.siteOf n).collLimit < s.num (R.TSET_SITE_n_COLL_CNT n) then
      ((s.put (F.TSET_SITE_n_STATUS_COLLIDE_OVER n) 1).put F.TSET_EVENT_COLLIDE_OVER 1).invalidate n causeCollide
    else s

/-- Fire the events of a channel that are placed before `t`, or all of them. -/
def State.fireChan (s : State) (n c : Nat) (t : Option Nat) : State :=
  let x := s.chanOf c
  let due := match t with
    | some b => x.evs.takeWhile (fun e => decide (EdgeEv.t e < b))
    | none => x.evs
  let r := { x with evs := x.evs.drop due.length }.fireAll due
  (s.updChan c (fun _ => r.1)).collide n c r.2

/-- Fire the events of every channel of a site that are placed before the device time `t` in 0.25 ps as each channel's
correction shifts it; none: all events. -/
def State.fireSite (s : State) (n : Nat) (t : Option Nat) : State :=
  s.each (s.siteChans n) (fun u c => u.fireChan n c (t.map (fun b => addCorr b (u.edgeCorr n c))))

/-- A channel fires no edges in the set of a granule: a channel of an EDGE_OUT group other than 4g, or one that carries
EDGE_OUT where 4g does not (R163). -/
def eoMute (ents : Nat → TsEnt) (c : Nat) : Bool :=
  c % 4 != 0 && ((ents (c / 4 * 4)).format == fmtEdgeOut || (ents c).format == fmtEdgeOut)

/-- The edge events of channel `c` over the 32 vectors of a granule. -/
def State.granEvents (s : State) (n : Nat) (g : Gran) (r : Nat) (grid : Nat × Nat) (c : Nat) : List EdgeEv :=
  let ent := s.granEnt n g
  if eoMute ent c || g.sub r then []
  else
    let e := ent c
    let d := s.edgeCorr n c
    let w := s.get (F.CLU_k_CH_j_EO_STROBE_WIDTH (c / 16) (c % 16))
    (List.range 32).flatMap (fun v =>
      (edgeActions e (c % 4 == 0) w (g.sym r v (c % 8))).map (fun a =>
        { t := addCorr (g.origin / 8 + (grid.1 + v * grid.2) / 8 + e.off a.1) d, vec := g.vnum + v, edge := a.1,
          kind := a.2 : EdgeEv }))

/-- Queue the edges of a granule on every channel of the site. -/
def State.queueEdges (s : State) (n : Nat) (g : Gran) : State :=
  let octs := (s.siteOf n).octs
  let clus := s.siteClus n
  s.each octs (fun t o =>
    let r := (octs.findIdx? (· == o)).getD 0
    let grid := g.grid.getD ((clus.findIdx? (· == o / 2)).getD 0) (g.start, g.per)
    t.each (List.range 8) (fun u j =>
      let c := 8 * o + j
      let evs := s.granEvents n g r grid c
      if evs.isEmpty then u else u.updChan c (fun x => { x with evs := evs.foldl (fun l e => insEv e l) x.evs })))

/-! ## Meanings -/

def execBankVnomWrite (k : Cluster) (v : Word) (s : State) : Host.Outcome State Fault Refusal := .next (bankVnomWrite k.val v s)
def execBankOutOfWindow (k : Cluster) (mv : Fin 4096) (s : State) : Host.Outcome State Fault Refusal :=
  .next (bankOut k.val mv.val s)
def execBankInWindow (k : Cluster) (mv : Fin 4096) (s : State) : Host.Outcome State Fault Refusal :=
  .next (bankBack k.val mv.val s)
def execLevelWrite (k : Cluster) (j : Chan16) (t : Fin 8) (w : Fin 5) (v : Word) (s : State) :
    Host.Outcome State Fault Refusal := .next (levelWrite (16 * k.val + j.val) t.val w.val v s)
def execSettleEnd (c : Channel) (s : State) : Host.Outcome State Fault Refusal := .next (settleEnd c.val s)
def execOcpDetect (c : Channel) (s : State) : Host.Outcome State Fault Refusal := .next (ocpDetect c.val s)
def execPpmuCtrlWrite (k : Cluster) (j : Chan16) (v : Word) (s : State) : Host.Outcome State Fault Refusal :=
  .next (ppmuCtrlWrite k.val j.val v s)
def execPpmuForceWrite (k : Cluster) (j : Chan16) (v : Word) (s : State) : Host.Outcome State Fault Refusal :=
  .next (ppmuForceWrite k.val j.val v s)
def execPpmuVclampWrite (k : Cluster) (j : Chan16) (v : Word) (s : State) : Host.Outcome State Fault Refusal :=
  .next (ppmuVclampWrite k.val j.val v s)
def execPpmuLimit (k : Cluster) (j : Chan16) (s : State) : Host.Outcome State Fault Refusal := .next (ppmuLimit k.val j.val s)
def execMcSliceEnd (k : Cluster) (conv : List Int) (s : State) : Host.Outcome State Fault Refusal :=
  .next (mcSliceEnd k.val conv s)

end Sys2Proof.Machine
end

