-- ==== Sys2Proof/Machine/Compare.lean ====
section
/-!
DEFINITION. Compare, fail processing and capture (chapter 08): the compares of a vector and their masks, results, flags and
first-fail records, the trigger sequencer, capture records and the site buffer, completion of a run.
-/

namespace Sys2Proof.Machine

/-! ## The compares of a vector (R216 to R220) -/

/-- How a compare is made: a strobe, a window, the RESULT_IN sample of an EDGE_OUT group, or the failing compare of an M in
EDGE_OUT (R210). -/
inductive CmpKind where
  | strobe
  | window
  | result
  | badSym
  deriving DecidableEq, Repr

/-- One compare: second half of DUAL, expected state (0 L, 1 H, 2 M), kind, placed time in 0.25 ps. -/
structure Cmp where
  half : Bool
  exp : Nat
  kind : CmpKind
  t : Nat
  deriving DecidableEq, Repr

/-- The compares of channel `c` (rank `r`) in vector `v` of a granule (R159, R162, R208 to R211). -/
def State.compares (s : State) (n : Nat) (g : Gran) (r v c : Nat) : List Cmp :=
  let ent := s.granEnt n g
  if eoMute ent c then []
  else
    let e := ent c
    let y := g.sym r v (c % 8)
    let clus := s.siteClus n
    let grid := g.grid.getD ((clus.findIdx? (· == c / 16)).getD 0) (g.start, g.per)
    let at_ := fun off => addCorr (g.origin / 8 + (grid.1 + v * grid.2) / 8 + off) (s.edgeCorr n c)
    if e.format = fmtEdgeOut then
      if !e.enab 4 then []
      else if y = symL ∨ y = symH then
        if (s.chanOf c).noPulse (g.vnum + v) then []
        else [{ half := false, exp := y - symL, kind := .result, t := at_ (e.c0 + s.eoDly c) }]
      else if y = symM then [{ half := false, exp := 2, kind := .badSym, t := at_ (e.c0 + s.eoDly c) }]
      else []
    else if e.format = fmtDual then
      if g.sub r ∨ y < 4 then []
      else
        (if e.enab 4 then [{ half := false, exp := b2n (y == 5 || y == 7), kind := .strobe, t := at_ e.c0 }] else []) ++
        (if e.enab 5 then [{ half := true, exp := b2n (y == 5 || y == 6), kind := .strobe, t := at_ e.c1 }] else [])
    else if y = symL ∨ y = symH ∨ y = symM then
      if e.window then [{ half := false, exp := y - symL, kind := .window, t := at_ e.c1 }]
      else if e.enab 4 then [{ half := false, exp := y - symL, kind := .strobe, t := at_ e.c0 }]
      else []
    else []

/-- Why a compare is masked (R200, R220): not at all, inside a settling window, or otherwise. -/
inductive Masked where
  | no
  | settling
  | yes
  deriving DecidableEq, Repr

/-- The masking condition of a compare on channel `c`. -/
def State.maskOf (s : State) (g : Gran) (c t : Nat) : Masked :=
  if g.lost ∨ s.pinsHeld ∨ !s.is (F.CLU_k_BANK_STATUS_IN_WINDOW (c / 16)) ∨ s.ppMode c ≠ 0 then .yes
  else if (s.chanOf c).settling t then .settling
  else .no

/-- The states that the comparator detected for a compare on channel `c`. -/
def obsFor (obs : List Obs) (c : Nat) (half : Bool) : List (Bool × Bool) :=
  match obs.find? (fun o => o.ch == c) with
  | none => []
  | some o => if half then o.second else o.first

/-- Sampled state of detected states: L, H, or M (R216, R217). -/
def sampleOf (l : List (Bool × Bool)) : Nat :=
  if l.all (fun p => !p.1 && p.2) then 0 else if l.all (fun p => p.1 && !p.2) then 1 else 2

/-- A strobe passes (R216). -/
def strobePass (e : Nat) (p : Bool × Bool) : Bool :=
  match e with
  | 0 => p.2
  | 1 => p.1
  | _ => !p.1 && !p.2

/-- A window passes (R217). -/
def windowPass (e : Nat) (l : List (Bool × Bool)) : Bool :=
  match e with
  | 0 => l.all (fun p => !p.1 && p.2)
  | 1 => l.all (fun p => p.1 && !p.2)
  | _ => l.all (fun p => !p.1 && !p.2)

/-- Judge a compare on channel `c`: the sample, or nothing where the comparator's answer is not among the operands. -/
def judge (obs : List Obs) (c : Nat) (m : Cmp) : Option Sample :=
  match m.kind with
  | .badSym => some { ch := c, half := false, st := 2, failed := true }
  | .result =>
    match obsFor obs (c + 3) false with
    | [(a, _)] => some { ch := c, half := false, st := if a then 1 - m.exp else m.exp, failed := a }
    | _ => none
  | .strobe =>
    match obsFor obs c m.half with
    | [p] => some { ch := c, half := m.half, st := sampleOf [p], failed := !strobePass m.exp p }
    | _ => none
  | .window =>
    match obsFor obs c false with
    | [] => none
    | l => some { ch := c, half := false, st := sampleOf l, failed := !windowPass m.exp l }

/-! ## Records in the site buffer (R225 to R227, R231) -/

/-- First address of the capture region (R20). -/
def captRegion : Nat := 0x0C05000000

/-- Size of a fail record (R225). -/
def State.failSize (s : State) : Nat := if s.compat 4 then 16 else 32

/-- First address of the buffer of a site. -/
def CaptSite.addr (x : CaptSite) : Nat := captRegion + 4096 * x.base

/-- Offset and size of the capture area (R231). -/
def State.captArea (s : State) (x : CaptSite) : Nat × Nat :=
  (x.recMax * s.failSize, 4096 * x.pages - x.recMax * s.failSize)

/-- A fail record of group `grp` with its mask (R225). -/
def State.failRecord (s : State) (g : Gran) (v grp mask : Nat) : List Byte :=
  let w1 := v * 2 ^ 20 + g.drw
  let loop0 := g.loops.getD 0 0
  if s.compat 4 then
    leBytes 4 (grp * 2 ^ 25 + w1) ++ leBytes 4 g.gran ++ leBytes 4 mask ++ leBytes 4 loop0
  else
    leBytes 4 (g.loops.length * 2 ^ 28 + grp * 2 ^ 25 + w1) ++ leBytes 4 g.gran ++ leBytes 8 mask ++
      leBytes 6 (g.vnum + v) ++ leBytes 1 g.tset ++ leBytes 1 g.levels ++ leBytes 4 loop0 ++
      leBytes 4 (g.loops.getD 1 0)

/-- A fail record is staged, or lost for want of room (R226, R227). -/
def State.stageFail (s : State) (n : Nat) (rec_ : List Byte) : State :=
  let x := s.captOf n
  if x.recMax ≤ s.num (R.FAIL_SITE_n_REC_CNT n) + x.failQ.length ∨ 64 ≤ x.failQ.length then
    let s := s.when (x.recMax == 0) (fun t => (t.put (F.FAIL_SITE_n_STATUS_REC_FULL n) 1).put F.FAIL_EVENT_REC_FULL 1)
    let s := (s.bump (R.FAIL_SITE_n_REC_LOST n)).when (!x.failLost) (fun t => t.put F.FAIL_EVENT_REC_LOST 1)
    s.updCapt n (fun x => { x with failLost := true })
  else s.updCapt n (fun x => { x with failQ := x.failQ ++ [rec_] })

/-- FAIL_RECORD_WRITE (R226, R227): the oldest staged fail record of a site is written and then counted. -/
def failRecordWrite (n : Nat) (s : State) : State :=
  let x := s.captOf n
  match x.failQ with
  | [] => s
  | rec_ :: rest =>
    let k := s.num (R.FAIL_SITE_n_REC_CNT n)
    let s := (s.wrBytes (x.addr + k * s.failSize) rec_).updCapt n (fun x => { x with failQ := rest })
    let s := s.putN (R.FAIL_SITE_n_REC_CNT n) (k + 1)
    s.when (k + 1 == x.recMax) (fun t => (t.put (F.FAIL_SITE_n_STATUS_REC_FULL n) 1).put F.FAIL_EVENT_REC_FULL 1)

/-! ## Capture records (R241 to R246) -/

/-- A capture record (R244). -/
def capRec (vnum : Nat) (h2 : Bool) (rank typ ttag st changed failmask time : Nat) : List Byte :=
  leBytes 6 vnum ++ leBytes 1 (64 * b2n h2 + rank) ++ leBytes 1 typ ++ leBytes 8 ttag ++ leBytes 2 st ++
    leBytes 1 changed ++ leBytes 1 failmask ++ leBytes 4 0 ++ leBytes 8 time

/-- One more record would overflow capture (R246): a slot is kept free for the OVERFLOW record. -/
def State.captFull (s : State) (x : CaptSite) : Bool :=
  let pos := x.bytes + 32 * x.captQ.length
  let size := (s.captArea x).2
  512 ≤ x.captQ.length ||
    (if x.mode = 1 then size < pos + 64
     else x.copied + size / 4096 * 4096 < pos + 64 || x.spillSize * 4096 < pos + 64)

/-- Capture produces a record (R243, R244, R246). -/
def State.capture (s : State) (n : Nat) (vnum ttag : Nat) (rec_ : List Byte) : State :=
  let x := s.captOf n
  if x.mode = 0 then s
  else if s.is (F.CAPT_SITE_n_STATUS_OVERFLOW n) then s.bump (R.CAPT_SITE_n_LOST n)
  else if s.captFull x then
    let s := s.updCapt n (fun x => { x with captQ := x.captQ ++ [capRec vnum false 0 5 ttag 0 0 0 0] })
    ((s.put (F.CAPT_SITE_n_STATUS_OVERFLOW n) 1).put F.CAPT_EVENT_OVERFLOW 1).bump (R.CAPT_SITE_n_LOST n)
  else s.updCapt n (fun x => { x with captQ := x.captQ ++ [rec_] })

/-- A MARK record: tag and source (R243). -/
def State.captMark (s : State) (n vnum ttag tag src : Nat) : State :=
  s.capture n vnum ttag (capRec vnum false 0 3 ttag (tag + 256 * src) 0 0 0)

/-- Address of the byte at capture position `pos` (R245). -/
def State.captAddr (s : State) (x : CaptSite) (pos : Nat) : Nat :=
  let a := s.captArea x
  x.addr + a.1 + (if x.mode = 2 then pos % (a.2 / 4096 * 4096) else pos)

/-- CAPT_RECORD_WRITE (R244, R245): the oldest staged capture record of a site is written and then counted. -/
def captRecordWrite (n : Nat) (s : State) : State :=
  let x := s.captOf n
  match x.captQ with
  | [] => s
  | rec_ :: rest =>
    let s := (s.wrBytes (s.captAddr x x.bytes) rec_).updCapt n (fun x => { x with
      captQ := rest
      bytes := x.bytes + 32 })
    let s := s.bump (R.CAPT_SITE_n_REC_CNT n)
    s.when (x.mode == 1) (fun t => t.putN (R.CAPT_SITE_n_WR_OFF n) (x.bytes + 32))

/-- Copy one block of 4 KiB from the ring to the spill region. -/
def State.copyBlock (s : State) (n : Nat) : State :=
  let x := s.captOf n
  let d := s.rdBytes (s.captAddr x x.copied) 4096
  let s := (s.wrBytes (x.spillBase + x.copied) d).updCapt n (fun x => { x with copied := x.copied + 4096 })
  s.addSat (R.CAPT_SITE_n_SPILL_OFF n) 4096

/-- SPILL_BLOCK_COPY (R245): the oldest full block is copied. -/
def spillBlockCopy (n : Nat) (s : State) : State :=
  let x := s.captOf n
  if x.mode = 2 ∧ x.copied + 4096 ≤ x.bytes then s.copyBlock n else s

/-- Every vector that the site played is judged and evaluated. -/
def State.allJudged (s : State) (n : Nat) : Bool :=
  (s.playOf n).judging.isEmpty && !(s.captOf n).evValid && (s.captOf n).haltAt.isNone

/-- SPILL_FLUSH (R245): at halt the partial block is filled with PAD records, which count as written, and copied. -/
def spillFlush (n : Nat) (s : State) : State :=
  let x := s.captOf n
  if x.mode = 2 ∧ s.siteState n = stHalted ∧ s.allJudged n ∧ x.captQ.isEmpty ∧ x.bytes < x.copied + 4096 ∧
      !s.is (F.CAPT_SITE_n_STATUS_FLUSHED n) then
    let s := if x.bytes = x.copied then s
      else
        let k := (x.copied + 4096 - x.bytes) / 32
        let pad := capRec 0 false 0 6 0 0 0 0 0
        let s := s.each (List.range k) (fun t i => t.wrBytes (t.captAddr x (x.bytes + 32 * i)) pad)
        let s := s.addSat (R.CAPT_SITE_n_REC_CNT n) k
        (s.updCapt n (fun x => { x with bytes := x.copied + 4096 })).copyBlock n
    s.put (F.CAPT_SITE_n_STATUS_FLUSHED n) 1
  else s

/-- SITE_DONE (R230): every record of the halted run is readable. -/
def siteDone (n : Nat) (s : State) : State :=
  let x := s.captOf n
  if s.siteState n = stHalted ∧ s.allJudged n ∧ x.failQ.isEmpty ∧ x.captQ.isEmpty ∧ !x.stopped ∧
      (x.mode ≠ 2 ∨ s.is (F.CAPT_SITE_n_STATUS_FLUSHED n)) then
    let s := s.updCapt n (fun x => { x with stopped := true })
    let s := s.putBit (if n < 32 then R.FAIL_DONE_LO else R.FAIL_DONE_HI) (n % 32) true
    s.put F.FAIL_EVENT_DONE 1
  else s

/-! ## The trigger sequencer (R233 to R239) -/

/-- A field of a sampled configuration word. -/
def fldOf (f : Fld) (w : Nat) : Nat := w / 2 ^ f.lo % 2 ^ (f.hi + 1 - f.lo)

/-- The trigger event with an encoding, for the vector under evaluation (R233). -/
def CaptSite.event (x : CaptSite) (e : Nat) : Bool :=
  if e = 1 then true
  else if e = 2 then x.evFail
  else if e = 3 then x.evMatch
  else if e = 4 then x.evTrig
  else if e = 5 then x.changeNow
  else if 6 ≤ e ∧ e ≤ 9 then x.cntDone.getD (e - 6) false
  else if 10 ≤ e ∧ e ≤ 13 then x.tmrHit.getD (e - 10) false
  else if e = 14 then x.xlRises.contains x.evVec
  else if e = 15 then x.evGran
  else if e = 16 then x.evFrame
  else false

/-- Rank of a channel in the site's binding. -/
def State.rankOf (s : State) (n c : Nat) : Nat := ((s.siteOf n).octs.findIdx? (· == c / 8)).getD 64

/-- The sample of a channel in a list of one half, 3 for none. -/
def stOf (l : List Sample) (c : Nat) : Nat :=
  match l.find? (fun a => a.ch == c) with
  | none => 3
  | some a => a.st

/-- STATE, FAILMASK of a record of octet `o` from the samples of one half. -/
def octState (l : List Sample) (o : Nat) : Nat := ((List.range 8).map (fun j => stOf l (8 * o + j) * 4 ^ j)).sum
def octFails (l : List Sample) (o : Nat) : Nat :=
  ((List.range 8).map (fun j => b2n (l.any (fun a => a.ch == 8 * o + j && a.failed)) * 2 ^ j)).sum

/-- The captured octets of a site, as (rank, octet) (R240). -/
def State.captOcts (s : State) (n : Nat) : List (Nat × Nat) :=
  ((s.siteOf n).octs.zipIdx.map (fun p => (p.2, p.1))).filter (fun p => (s.captOf n).chmask.testBit p.1)

/-- The samples of one half become the last sampled states; answers whether one differs from a state that is not none, and
the channels that changed for records (R242). -/
def State.takeSamples (s : State) (l : List Sample) : State × Bool × List Nat :=
  l.foldl (fun (acc : State × Bool × List Nat) a =>
    let (t, ch, cs) := acc
    let x := t.chanOf a.ch
    let diff := x.sample != a.st
    (t.updChan a.ch (fun x => { x with sample := a.st, unrep := false }),
      ch || (diff && x.sample != 3), if diff || x.unrep then cs ++ [a.ch] else cs)) (s, false, [])

/-- DATA records of one half (R242). -/
def State.dataRecs (s : State) (n : Nat) (h2 : Bool) (l : List Sample) (changed : List Nat) : State :=
  let x := s.captOf n
  s.each (s.captOcts n) (fun t p =>
    let m := ((List.range 8).map (fun j => b2n (changed.contains (8 * p.2 + j)) * 2 ^ j)).sum
    if m = 0 then t
    else t.capture n x.evVec x.evTtag
      (capRec x.evVec h2 p.1 0 x.evTtag (octState l p.2) m (octFails l p.2) 0))

/-- START records (R241): channels reported as none are marked unreported. -/
def State.startRecs (s : State) (n : Nat) (l : List Sample) : State :=
  let x := s.captOf n
  s.each (s.captOcts n) (fun t p =>
    let t := t.capture n x.evVec x.evTtag
      (capRec x.evVec false p.1 1 x.evTtag (octState l p.2) 0xFF (octFails l p.2) 0)
    t.each (List.range 8) (fun u j =>
      if stOf l (8 * p.2 + j) = 3 then u.updChan (8 * p.2 + j) (fun y => { y with unrep := true }) else u))

/-- The capture part of a vector's evaluation: ORIGIN, START, DATA and the MARK of an instruction (R240 to R244). -/
def State.evalCapture (s : State) (n : Nat) : State :=
  let x := s.captOf n
  let s := match x.evSet with
    | some b => s.put (F.CAPT_SITE_n_STATUS_ENABLE n) (b2n b)
    | none => s
  let now_ := x.mode != 0 && s.is (F.CAPT_SITE_n_STATUS_GATE n) && s.is (F.CAPT_SITE_n_STATUS_ENABLE n)
  let s := match x.evOrigin with
    | some t => s.capture n x.evVec x.evTtag (capRec x.evVec false 0 4 x.evTtag 0 0 0 t)
    | none => s
  let mine := x.evSamples.filter (fun a => x.chmask.testBit (s.rankOf n a.ch))
  let h1 := mine.filter (fun a => !a.half)
  let h2 := mine.filter (fun a => a.half)
  let begin_ := now_ && !x.inCapt
  let s := s.when begin_ (fun t => t.startRecs n h1)
  let (s1, ch1, cs1) := s.takeSamples h1
  let s1 := s1.when (now_ && !begin_) (fun t => t.dataRecs n false h1 cs1)
  let (s2, ch2, cs2) := s1.takeSamples h2
  let s2 := s2.when now_ (fun t => t.dataRecs n true h2 cs2)
  let s2 := s2.each x.evMarks (fun t tag => t.captMark n x.evVec x.evTtag tag 0)
  let s2 := s2.put (F.CAPT_SITE_n_STATUS_CAPTURING n) (b2n (now_ && !s2.is (F.CAPT_SITE_n_STATUS_OVERFLOW n)))
  s2.updCapt n (fun x => { x with
    changeNow := (ch1 || ch2) && !x.evHeld
    captNow := now_
    inCapt := x.inCapt || now_ })

/-- A timer expires at the vector under evaluation (R235). -/
def CaptSite.tmrExpires (x : CaptSite) (k : Nat) : Bool :=
  match x.tmrDue.getD k none with
  | some (some d) => d ≤ x.evPos
  | some none => x.tmrLimit.getD k 0 == 0
  | none => false

/-- Evaluate timer `k`: one that was started counts from this vector; one that is due expires and stops. -/
def State.evalTimer (s : State) (n k : Nat) : State :=
  let x := s.captOf n
  if x.tmrExpires k then
    (s.updCapt n (fun x => { x with tmrDue := x.tmrDue.set k none, tmrHit := x.tmrHit.set k true })).putBit
      (R.CAPT_SITE_n_STATUS n) (12 + k) false
  else
    match x.tmrDue.getD k none with
    | some none => s.updCapt n (fun x => { x with
        tmrDue := x.tmrDue.set k (some (some (x.evPos + 32000 * x.tmrLimit.getD k 0))) })
    | _ => s

/-- Update counter `j` at the vector under evaluation (R234, R237). -/
def State.evalCounter (s : State) (n j : Nat) : State :=
  let x := s.captOf n
  let c := s.num (R.CAPT_SITE_n_CNT_k n j)
  let lim := x.cntLimit.getD j 0
  let ev := x.event (fldOf (F.CAPT_SITE_n_CNT_k_CFG_EV n j) (x.cntCfg.getD j 0))
  let up := ev && (lim == 0 || c < lim)
  let s := s.when up (fun t => t.bump (R.CAPT_SITE_n_CNT_k n j))
  s.updCapt n (fun x => { x with cntDone := x.cntDone.set j (up && lim != 0 && c + 1 == lim) })

/-- Steps 1 and 2 of R237: capture, timers, counters. -/
def State.evalStep2 (s : State) (n : Nat) : State :=
  if (s.captOf n).evPhase = 0 then
    let s := s.evalCapture n
    let s := s.each (List.range 4) (fun t k => t.evalTimer n k)
    let s := s.each (List.range 4) (fun t j => t.evalCounter n j)
    s.updCapt n (fun x => { x with evPhase := 1 })
  else s

/-- The hold-off of the current state as it stands at this vector (R238): ended, and the advanced hold-off. -/
def State.holdStep (s : State) (n : Nat) : Bool × (CaptSite → CaptSite) :=
  let x := s.captOf n
  let st := s.get (F.CAPT_SITE_n_STATUS_TSTATE n)
  let w := x.holds.getD st 0
  let mode := fldOf (F.CAPT_SITE_n_TRIG_ST_s_HOLD_MODE n st) w
  let cnt := fldOf (F.CAPT_SITE_n_TRIG_ST_s_HOLD_COUNT n st) w
  let ev := fldOf (F.CAPT_SITE_n_TRIG_ST_s_HOLD_EV n st) w
  if x.holdOver ∨ mode = 0 ∨ cnt = 0 then (true, id)
  else if mode = 1 then
    let from_ := x.holdFrom.getD x.evPos
    if from_ + 32000 * cnt ≤ x.evPos then (true, fun y => { y with holdOver := true })
    else (false, fun y => { y with holdFrom := some from_ })
  else if x.event ev then
    (false, fun y => { y with holdCnt := y.holdCnt + 1, holdOver := decide (cnt ≤ y.holdCnt + 1) })
  else (false, id)

/-- Step 3 of R237: phase 2 if a transition may be taken, phase 3 if not. -/
def State.evalStep3 (s : State) (n : Nat) : State :=
  let s := s.evalStep2 n
  if (s.captOf n).evPhase = 1 then
    let h := s.holdStep n
    s.updCapt n (fun x => { h.2 x with evPhase := if h.1 then 2 else 3 })
  else s

/-- Actions of a transition taken from state `st` (R236). -/
def State.trigActions (s : State) (n st act : Nat) : State :=
  let x := s.captOf n
  let s := if act.testBit 1 then s.put (F.CAPT_SITE_n_STATUS_GATE n) 0
    else s.when (act.testBit 0) (fun t => t.put (F.CAPT_SITE_n_STATUS_GATE n) 1)
  let s := s.when (act.testBit 2) (fun t => t.captMark n x.evVec x.evTtag st 1)
  let s := s.when (act.testBit 3) (fun t => t.put F.CAPT_EVENT_TRIG_OUT 1)
  s.each (List.range 4) (fun t k =>
    let t := t.when (act.testBit (4 + k)) (fun u => u.putN (R.CAPT_SITE_n_CNT_k n k) 0)
    if act.testBit (12 + k) then
      (t.updCapt n (fun x => { x with tmrDue := x.tmrDue.set k none })).putBit (R.CAPT_SITE_n_STATUS n) (12 + k) false
    else if act.testBit (8 + k) then
      (t.updCapt n (fun x => { x with tmrDue := x.tmrDue.set k (some none) })).putBit (R.CAPT_SITE_n_STATUS n) (12 + k) true
    else t)

/-- Enter a trigger state: its hold-off starts at the next vector (R237). -/
def State.trigEnter (s : State) (n st : Nat) : State :=
  (s.put (F.CAPT_SITE_n_STATUS_TSTATE n) st).updCapt n (fun x => { x with
    holdFrom := none
    holdCnt := 0
    holdOver := false })

/-- Records of a run that has halted, once every vector is evaluated: MARKs of the halt's boundary, then STOP (R243). -/
def State.captFinish (s : State) (n : Nat) : State :=
  let x := s.captOf n
  match x.haltAt with
  | none => s
  | some (vnum, ttag) =>
    if (s.playOf n).judging.isEmpty && !x.evValid then
      let s := s.each x.haltMarks (fun t tag => t.captMark n vnum ttag tag 0)
      let s := s.when x.inCapt (fun t => t.capture n vnum ttag (capRec vnum false 0 2 ttag 0 0 0 0))
      (s.updCapt n (fun x => { x with haltAt := none, haltMarks := [], inCapt := false })).put
        (F.CAPT_SITE_n_STATUS_CAPTURING n) 0
    else s

/-- TRIGGER_EVALUATE (R237): the trigger sequencer evaluates the vector whose compares are known. -/
def triggerEvaluate (n : Nat) (s : State) : State :=
  if (s.captOf n).evValid then
    let s := s.evalStep3 n
    let x := s.captOf n
    let st := s.get (F.CAPT_SITE_n_STATUS_TSTATE n)
    let tr := x.trans.getD st 0
    let act := x.acts.getD st 0
    let a := x.event (fldOf (F.CAPT_SITE_n_TRIG_ST_s_TRANS_EV_A n st) tr)
    let b := x.event (fldOf (F.CAPT_SITE_n_TRIG_ST_s_TRANS_EV_B n st) tr)
    let s :=
      if x.evPhase = 2 ∧ a then
        (s.trigActions n st (fldOf (F.CAPT_SITE_n_TRIG_ST_s_ACT_ACT_A n st) act)).trigEnter n
          (fldOf (F.CAPT_SITE_n_TRIG_ST_s_TRANS_NEXT_A n st) tr)
      else if x.evPhase = 2 ∧ b then
        (s.trigActions n st (fldOf (F.CAPT_SITE_n_TRIG_ST_s_ACT_ACT_B n st) act)).trigEnter n
          (fldOf (F.CAPT_SITE_n_TRIG_ST_s_TRANS_NEXT_B n st) tr)
      else s
    let s := s.when (x.inCapt && !x.captNow) (fun t =>
      (t.capture n x.evVec x.evTtag (capRec x.evVec false 0 2 x.evTtag 0 0 0 0)).updCapt n (fun x => { x with inCapt := false }))
    (s.updCapt n (fun x => { x with evValid := false, tmrHit := [false, false, false, false] })).captFinish n
  else s

/-- TRIGGER_TIMER_EXPIRE (R235): timer `k` expires at the vector under evaluation. -/
def timerExpire (n k : Nat) (s : State) : State :=
  let x := s.captOf n
  if x.evValid ∧ x.evPhase = 0 ∧ x.tmrExpires k then s.evalTimer n k else s

/-- TRIGGER_COUNTER_DONE (R234): counter `k` reaches its limit at the vector under evaluation. -/
def counterDone (n k : Nat) (s : State) : State :=
  let x := s.captOf n
  let t := s.evalStep2 n
  if x.evValid ∧ x.evPhase = 0 ∧ (t.captOf n).cntDone.getD k false then t else s

/-- HOLDOFF_END (R238): the hold-off of the current state ends at the vector under evaluation. -/
def holdoffEnd (n : Nat) (s : State) : State :=
  let x := s.captOf n
  let t := s.evalStep3 n
  if x.evValid ∧ x.evPhase ≤ 1 ∧ (t.captOf n).holdOver then t else s

/-! ## VECTOR_RESULT (R221 to R226) -/

/-- All compares of a vector: channel, rank, compare, masking condition. -/
def State.vecCompares (s : State) (n : Nat) (g : Gran) (v : Nat) : List (Nat × Cmp × Masked) :=
  (s.siteOf n).octs.zipIdx.flatMap (fun p =>
    (List.range 8).flatMap (fun j =>
      let c := 8 * p.1 + j
      (s.compares n g p.2 v c).map (fun m => (c, m, s.maskOf g c m.t))))

/-- Compares that would be made on slabs delivered as K: one for each channel with an enabled compare edge (R220). -/
def State.badCompares (s : State) (n : Nat) (g : Gran) : Nat :=
  if g.hold ∨ g.paused then 0
  else ((s.siteOf n).octs.zipIdx.map (fun p =>
    if g.bad.contains p.2 then
      ((List.range 8).filter (fun j =>
        !eoMute (s.granEnt n g) (8 * p.1 + j) && !(s.granEnt n g (8 * p.1 + j)).cmpOffs.isEmpty)).length
    else 0)).sum

/-- A compare masked by settling is counted, and the site is INVALID (R192). -/
def State.unsettled (s : State) (n c : Nat) : State :=
  ((s.bump (R.CLU_k_UNSETTLED_CNT (c / 16))).put (F.CLU_k_EVENT_UNSETTLED (c / 16)) 1).invalidate n causeLevels

/-- The result slab bytes of a vector of a compare-capture drawer (R34). -/
def State.writeResults (s : State) (n : Nat) (g : Gran) (v : Nat) (l : List Sample) : State :=
  if g.comp ∧ !g.hold ∧ !g.paused then
    let pos := bitList 64 g.mask
    s.each (s.siteOf n).octs.zipIdx (fun t p =>
      match pos.findIdx? (· == p.2) with
      | none => t
      | some i =>
        let w := ((List.range 8).map (fun j =>
          (match l.find? (fun a => a.ch == 8 * p.1 + j && !a.half) with
           | none => 7
           | some a => 4 + a.st) * 2 ^ (3 * j))).sum
        t.wrBytes (g.resBase + 96 * (g.gran * g.octets + i) + 3 * v) (leBytes 3 w))
  else s

/-- The fail records of a vector, in ascending group order (R225). -/
def State.failRecs (s : State) (n : Nat) (g : Gran) (v : Nat) (l : List Sample) : State :=
  let per := if s.compat 4 then 4 else 8
  let octs := (s.siteOf n).octs
  s.each (List.range (ceilDiv octs.length per)) (fun t grp =>
    let m := ((List.range per).map (fun i =>
      match octs[per * grp + i]? with
      | none => 0
      | some o => octFails l o * 2 ^ (8 * i))).sum
    if m = 0 then t else t.stageFail n (t.failRecord g v grp m))

/-- A failing vector (R221, R222, R224, R228). -/
def State.failVector (s : State) (n vec : Nat) : State :=
  let first := !s.bit (R.FAIL_SITE_n_RESULT n) 29
  let s := s.bump (R.FAIL_SITE_n_FVEC_CNT n)
  let s := s.when first (fun t => ((t.putN (R.FAIL_SITE_n_FIRST_VEC_LO n) (vec % 2 ^ 32)).putN
    (R.FAIL_SITE_n_FIRST_VEC_HI n) (vec / 2 ^ 32)).put F.FAIL_EVENT_FIRST_FAIL 1)
  let s := (s.putBit (R.FAIL_SITE_n_RESULT n) 29 true).putBit (R.FAIL_SITE_n_RESULT n) 30 false
  s.when (decide ((s.playOf n).failFrom ≤ vec)) (fun t => t.putFlag n 0 true)

/-- The open decisions learn the result of a vector (R128). -/
def noteDecs (vec : Nat) (fail mtch : Bool) (l : List Decision) : List Decision :=
  l.map (fun d =>
    match d.lastVec with
    | none => d
    | some last =>
      if vec ≤ last then
        { d with fail := d.fail || (fail && d.ffrom ≤ vec), mtch := d.mtch || (mtch && d.mfrom ≤ vec) }
      else d)

/-- FLAGS messages of span decisions whose decision vector is judged (R279). -/
def State.sendFlags (s : State) (n vec : Nat) : State :=
  let due := fun (d : Decision) => d.seq.isSome && !d.sent && (match d.lastVec with
    | none => true
    | some l => l ≤ vec)
  let ds := (s.playOf n).decs.filter due
  let s := s.updPlay n (fun p => { p with decs := p.decs.map (fun d => if due d then { d with sent := true } else d) })
  s.each ds (fun t d => t.spanCast n 1
    [t.spanIdxBlock n ((d.seq.getD 0) % 2 ^ 16 * 2 ^ 24 +
      (t.num (R.SEQ_CTX_n_FLAGS n) / 4 * 4 + 2 * b2n d.mtch + b2n d.fail) % 512)])

/-- VECTOR_RESULT (R221): the oldest vector not yet judged is judged from what the comparators detected. Where an operand
for a compare is wanting, nothing happens. -/
def vectorResult (n : Nat) (obs : List Obs) (s : State) : State :=
  match (s.playOf n).judging with
  | [] => s
  | g :: rest =>
    let v := (s.playOf n).judged
    let cs := s.vecCompares n g v
    let live := cs.filter (fun p => p.2.2 == .no)
    let res := live.map (fun p => judge obs p.1 p.2.1)
    if res.any Option.isNone then s
    else
      let s := triggerEvaluate n s
      let l := res.filterMap id
      let vec := g.vnum + v
      let s := s.addSat (R.FAIL_SITE_n_MASKED n) (cs.length - live.length + s.badCompares n g)
      let s := s.each cs (fun t p => if p.2.2 = .settling then t.unsettled n p.1 else t)
      let s := s.each l (fun t a => if a.failed then t.bump (R.FAIL_CH_c_CNT a.ch) else t)
      let s := s.each (s.siteOf n).octs.zipIdx (fun t p => t.each (List.range 8) (fun u j =>
        let c := 8 * p.1 + j
        if c % 4 = 0 ∧ (u.granEnt n g c).format = fmtEdgeOut ∧ g.sym p.2 v j = symM ∧ !g.lost
        then u.bump (R.CLU_k_CH_j_EO_BADSYM (c / 16) (c % 16)) else u))
      let fail := l.any (fun a => a.failed)
      let pass := !l.isEmpty && !fail
      let p := s.playOf n
      let gf := p.granFail || fail
      let gp := p.granPass || pass
      let mtch := if (s.captOf n).matchMode = 1 then v == 31 && gp && !gf else pass
      let s := s.when fail (fun t => (t.failVector n vec).failRecs n g v l)
      let s := s.when (mtch && decide (p.matchFrom ≤ vec)) (fun t => t.putFlag n 1 true)
      let s := s.writeResults n g v l
      let s := s.updPlay n (fun q => { q with
        decs := noteDecs vec fail mtch q.decs
        granFail := gf && v != 31
        granPass := gp && v != 31
        judging := if v = 31 then rest else q.judging
        judged := if v = 31 then 0 else v + 1 })
      let s := s.sendFlags n vec
      let st := g.start + v * g.per
      s.updCapt n (fun x => { x with
        evValid := true
        evPhase := 0
        evVec := vec
        evPos := g.base + st / 8 * 8
        evTtag := st / 8
        evFail := fail
        evMatch := mtch
        evTrig := g.trig && v == 0
        evGran := v == 0
        evFrame := v == 0 && g.frame0
        evHeld := g.lost || g.paused
        evSet := if v = 0 then g.captSet else none
        evMarks := if v = 0 then g.marks else []
        evOrigin := if v = 0 then g.originRec else none
        evSamples := l })

/-! ## Arming (R228, R232, R239, R247, R248) -/

/-- The capture checks of an arm in the order of R232. -/
def captCheck (s : State) (n : Nat) : Nat :=
  let base := s.get (F.CAPT_SITE_n_BUF_BASE n)
  let pages := s.get (F.CAPT_SITE_n_BUF_PAGES n)
  let mode := s.get (F.CAPT_SITE_n_CFG_MODE n)
  let rmax := s.get (F.FAIL_SITE_n_CFG_REC_MAX n)
  let failA := rmax * s.failSize
  let size := 4096 * pages
  let sb := s.pair (R.CAPT_SITE_n_SPILL_BASE_LO n)
  let sz := 4096 * s.get (F.CAPT_SITE_n_SPILL_SIZE_PAGES n)
  if 4096 < base + pages ∨ (pages = 0 ∧ (rmax ≠ 0 ∨ mode ≠ 0)) then 1
  else if siteNums.any (fun m => m != n && s.holds m && overlaps (base, pages) ((s.captOf m).base, (s.captOf m).pages)) then 2
  else if size < failA ∨ (mode = 1 ∧ size - failA < 1024) ∨ (mode = 2 ∧ size - failA < 8192) then 3
  else if mode = 2 ∧ (sb % 4096 ≠ 0 ∨ sz = 0 ∨ hbmEnd < sb + sz) then 4
  else 0

/-- The fail and capture part of a successful arm. -/
def State.captArm (s : State) (n : Nat) : State :=
  let s := s.clearRegs [R.FAIL_SITE_n_REC_CNT n, R.FAIL_SITE_n_REC_LOST n, R.FAIL_SITE_n_FVEC_CNT n,
    R.FAIL_SITE_n_FIRST_VEC_LO n, R.FAIL_SITE_n_FIRST_VEC_HI n, R.FAIL_SITE_n_MASKED n, R.FAIL_SITE_n_STATUS n,
    R.CAPT_SITE_n_REC_CNT n, R.CAPT_SITE_n_WR_OFF n, R.CAPT_SITE_n_SPILL_OFF n, R.CAPT_SITE_n_LOST n,
    R.CAPT_SITE_n_CNT_k n 0, R.CAPT_SITE_n_CNT_k n 1, R.CAPT_SITE_n_CNT_k n 2, R.CAPT_SITE_n_CNT_k n 3]
  let s := s.putN (R.FAIL_SITE_n_RESULT n) (2 ^ 31)
  let res := s.get (F.CAPT_SITE_n_STATUS_ARM_RESULT n)
  let s := s.putN (R.CAPT_SITE_n_STATUS n) (res * 2 ^ 16 +
    4 * s.get (F.CAPT_SITE_n_CFG_GATE_INIT n) + 2 * s.get (F.CAPT_SITE_n_CFG_EN_INIT n))
  let s := s.each (s.siteChans n) (fun t c =>
    (t.setWord (R.FAIL_CH_c_CNT c) 0).updChan c (fun x => { x with
      sample := 3
      unrep := false
      noStrobe := []
      settled := [] }))
  let cfg : CaptSite := {
    matchMode := s.get (F.FAIL_SITE_n_CFG_MATCH_MODE n)
    recMax := s.get (F.FAIL_SITE_n_CFG_REC_MAX n)
    mode := s.get (F.CAPT_SITE_n_CFG_MODE n)
    base := s.get (F.CAPT_SITE_n_BUF_BASE n)
    pages := s.get (F.CAPT_SITE_n_BUF_PAGES n)
    chmask := s.pair (R.CAPT_SITE_n_CHMASK_LO n)
    spillBase := s.pair (R.CAPT_SITE_n_SPILL_BASE_LO n)
    spillSize := s.get (F.CAPT_SITE_n_SPILL_SIZE_PAGES n)
    cntCfg := (List.range 4).map (fun k => s.num (R.CAPT_SITE_n_CNT_k_CFG n k))
    cntLimit := (List.range 4).map (fun k => s.num (R.CAPT_SITE_n_CNT_k_LIMIT n k))
    tmrLimit := (List.range 4).map (fun k => s.num (R.CAPT_SITE_n_TMR_k_LIMIT n k))
    trans := (List.range 8).map (fun k => s.num (R.CAPT_SITE_n_TRIG_ST_s_TRANS n k))
    acts := (List.range 8).map (fun k => s.num (R.CAPT_SITE_n_TRIG_ST_s_ACT n k))
    holds := (List.range 8).map (fun k => s.num (R.CAPT_SITE_n_TRIG_ST_s_HOLD n k))
    cntDone := [false, false, false, false]
    tmrDue := [none, none, none, none]
    tmrHit := [false, false, false, false]
    stopped := false }
  s.updCapt n (fun _ => cfg)

/-! ## Meanings -/

def execVectorResult (n : Site) (obs : List Obs) (s : State) : Host.Outcome State Fault Refusal :=
  .next (vectorResult n.val obs s)
def execFailRecordWrite (n : Site) (s : State) : Host.Outcome State Fault Refusal := .next (failRecordWrite n.val s)
def execTriggerEvaluate (n : Site) (s : State) : Host.Outcome State Fault Refusal := .next (triggerEvaluate n.val s)
def execTriggerTimerExpire (n : Site) (k : Fin 4) (s : State) : Host.Outcome State Fault Refusal :=
  .next (timerExpire n.val k.val s)
def execTriggerCounterDone (n : Site) (k : Fin 4) (s : State) : Host.Outcome State Fault Refusal :=
  .next (counterDone n.val k.val s)
def execHoldoffEnd (n : Site) (s : State) : Host.Outcome State Fault Refusal := .next (holdoffEnd n.val s)
def execCaptRecordWrite (n : Site) (s : State) : Host.Outcome State Fault Refusal := .next (captRecordWrite n.val s)
def execSpillBlockCopy (n : Site) (s : State) : Host.Outcome State Fault Refusal := .next (spillBlockCopy n.val s)
def execSpillFlush (n : Site) (s : State) : Host.Outcome State Fault Refusal := .next (spillFlush n.val s)
def execSiteDone (n : Site) (s : State) : Host.Outcome State Fault Refusal := .next (siteDone n.val s)

end Sys2Proof.Machine
end

