-- ==== Sys2Proof/Machine/HostIf.lean ====
section
/-!
DEFINITION. The host interface (chapter 13): the PCIe endpoint, MSI-X, the DMA engines' rings and descriptors, mailboxes and
doorbells. What a descriptor moves is in Machine/Bus.lean.
-/

namespace Sys2Proof.Machine

/-! ## The endpoint (R353, R354, R356) -/

/-- HOSTIF_ID: the device ID and the fused vendor ID (R353). -/
def hostifId : Word := BitVec.ofNat 32 (0x5120 * 2 ^ 16 + Config.fuseVendor.toNat)

/-- PCIE_CONFIG_REQUEST (R354): retried before READY; afterwards a read or a write of a configuration word. Words 0 and 2
identify the device (R353). -/
def configRequest (reg : Nat) (wr : Option Word) (s : State) : State :=
  let answer := fun (u : State) (a : CfgRsp) => { u with host := { u.host with rsp := a } }
  if !s.ready then answer s .retry
  else
    match wr with
    | some v =>
      let s := if reg = 0 ∨ reg = 2 then s else { s with host := { s.host with cfg := Tab.set 0 reg v s.host.cfg } }
      answer s .done
    | none =>
      answer s (.word (if reg = 0 then hostifId else if reg = 2 then 0x12000000 else Tab.get 0 s.host.cfg reg))

/-- The eight DMA engines. -/
def engineNums : List Nat := List.range 8

/-- The descriptor in progress is abandoned (R356, R361). -/
def State.dmaAbandon (s : State) (e : Nat) : State :=
  (s.updDma e (fun d => { d with
    cur := none
    conds := []
    moved := false
    acks := [] })).put (F.HOSTIF_DMA_e_STATUS_BUSY e) 0

/-- The effects of a hot reset, link-down or function-level reset (R356). -/
def State.endpointReset (s : State) : State :=
  let s := s.each engineNums (fun t e => (t.put (F.HOSTIF_DMA_e_CTRL_ENABLE e) 0).dmaAbandon e)
  let s := s.each (List.range 64) (fun t v => t.each (List.range 4) (fun u i =>
    u.setWord (R.HOSTIF_MSIX_TABLE_v_i v i) (resetWord (R.HOSTIF_MSIX_TABLE_v_i v i))))
  let s := (s.putN (R.HOSTIF_MSIX_PBA_w 0) 0).putN (R.HOSTIF_MSIX_PBA_w 1) 0
  s.put F.HOSTIF_EVENT_LINK_DOWN 1

/-- The link goes down. -/
def State.linkDown (s : State) : State := s.putN R.HOSTIF_LINK 0

/-- PCIE_RESET (R356): a link-down, or a hot reset or function-level reset, which leave the link up. -/
def pcieReset (down : Bool) (s : State) : State := s.endpointReset.when down State.linkDown

/-- PCIE_PERST (R481): PCIE_PERST_N falls, which holds the endpoint in reset, or rises. -/
def pciePerst (low : Bool) (s : State) : State :=
  let s := { s with pins := { s.pins with perstN := !low } }
  s.when low (fun t => t.endpointReset.linkDown)

/-- PCIE_LINK_UP (R353, R426): training ends with a width of 1, 2, 4 or 8 lanes and a speed of Gen1 to Gen5. -/
def pcieLinkUp (width speed : Nat) (s : State) : State :=
  if s.pins.perstN ∧ [1, 2, 4, 8].contains width ∧ 1 ≤ speed ∧ speed ≤ 5 then
    ((s.put F.HOSTIF_LINK_UP 1).put F.HOSTIF_LINK_WIDTH width).put F.HOSTIF_LINK_SPEED speed
  else s

/-- A host completion that was unsupported, aborted or poisoned is counted. -/
def State.cplErr (s : State) : State := (s.bump R.HOSTIF_CPL_ERR).put F.HOSTIF_EVENT_HOST_ERR 1

/-! ## MSI-X (R362) -/

/-- MSIX_SEND (R362): a pending vector that is not masked is sent to the address and with the data of its entry. -/
def msixSend (v : Nat) (s : State) : State :=
  if s.bit (R.HOSTIF_MSIX_PBA_w (v / 32)) (v % 32) ∧ !s.bit (R.HOSTIF_MSIX_TABLE_v_i v 3) 0 then
    let a := s.num (R.HOSTIF_MSIX_TABLE_v_i v 0) + 2 ^ 32 * s.num (R.HOSTIF_MSIX_TABLE_v_i v 1)
    let d := leBytes 4 (s.num (R.HOSTIF_MSIX_TABLE_v_i v 2))
    { s with host := { s.host with out := s.host.out ++ [(a, d)] } }.putBit (R.HOSTIF_MSIX_PBA_w (v / 32)) (v % 32) false
  else s

/-! ## DMA rings and descriptors (R357 to R361) -/

/-- DMA OP encodings (R359). -/
def dmaOpH2d : Nat := 0
def dmaOpD2h : Nat := 1
def dmaOpBcast : Nat := 2
def dmaOpRemote : Nat := 3

/-- Completion codes (R360). -/
def dcBadDesc : Nat := 1
def dcUnmapped : Nat := 2
def dcGuard : Nat := 3
def dcUe : Nat := 4
def dcHostErr : Nat := 5
def dcRemoteErr : Nat := 6

/-- The ring of an engine holds a descriptor (R357). -/
def State.ringBusy (s : State) (e : Nat) : Bool :=
  let m := 2 ^ (s.dmaOf e).log2
  s.get (F.HOSTIF_DMA_e_HEAD_IDX e) % m != s.get (F.HOSTIF_DMA_e_TAIL_IDX e) % m

/-- DMA_ABORT (R361). -/
def dmaAbort (e : Nat) (s : State) : State := (s.put (F.HOSTIF_DMA_e_CTRL_ENABLE e) 0).dmaAbandon e

/-- DMA_ENABLE_WRITE (R357, R361, R370): a write of HOSTIF_DMA_e_CTRL; ABORT acts as the command, and the ring is sampled
when ENABLE changes to 1. -/
def dmaEnableWrite (e : Nat) (v : Word) (s : State) : State :=
  let was := s.is (F.HOSTIF_DMA_e_CTRL_ENABLE e)
  let s := s.plainWrite (R.HOSTIF_DMA_e_CTRL e) v
  if bitsOf v 30 30 = 1 then dmaAbort e s
  else if !was && s.is (F.HOSTIF_DMA_e_CTRL_ENABLE e) then
    let ring := s.pair (R.HOSTIF_DMA_e_RING_LO e) / 4096 * 4096
    let l2 := s.get (F.HOSTIF_DMA_e_CTRL_RING_LOG2 e)
    s.updDma e (fun d => { d with
      ring := ring
      log2 := l2 })
  else s

/-- DMA_TAIL_WRITE (R361): accepted as written. -/
def dmaTailWrite (e : Nat) (v : Word) (s : State) : State := s.plainWrite (R.HOSTIF_DMA_e_TAIL e) v

/-- A descriptor as its bytes give it (R358). -/
def descOf (l : List Byte) (seq : Nat) : DmaDesc :=
  { host := sub l 0 8, dev := sub l 8 5, len := sub l 0x10 4, op := sub l 0x14 1, flags := sub l 0x15 1,
    dest := sub l 0x16 2, seq }

/-- The descriptor is malformed (R359, R360). -/
def descBad (l : List Byte) (d : DmaDesc) : Bool :=
  3 < d.op || d.len == 0 || 16777216 < d.len || sub l 13 3 != 0 || 4 ≤ d.flags ||
    (2 ≤ d.op && (d.dev % 8 != 0 || d.len % 8 != 0))

/-- DMA_DESCRIPTOR_FETCH (R357): the descriptor at HEAD arrives, or its completion fails. A bad descriptor moves nothing. -/
def dmaFetch (e : Nat) (l : List Byte) (ok : Bool) (s : State) : State :=
  if s.is (F.HOSTIF_DMA_e_CTRL_ENABLE e) && s.ringBusy e && (s.dmaOf e).cur.isNone && l.length == 32 then
    let d := descOf l s.host.fetches
    let bad := if ok then descBad l d else true
    let s := { s with host := { s.host with fetches := s.host.fetches + 1 } }.when (!ok) State.cplErr
    (s.updDma e (fun x => { x with
      cur := some d
      conds := if !ok then [dcHostErr] else if bad then [dcBadDesc] else []
      moved := bad
      acks := [] })).put (F.HOSTIF_DMA_e_STATUS_BUSY e) 1
  else s

/-- The descriptor of engine `e` with an operation may start: fetched, not yet performed, and with ORDER no earlier
descriptor of any engine in progress (R358). -/
def State.dmaStart (s : State) (e op : Nat) : Option DmaDesc :=
  let x := s.dmaOf e
  match x.cur with
  | none => none
  | some d =>
    if d.op = op ∧ !x.moved ∧ (!d.flags.testBit 1 ∨ engineNums.all (fun f => match (s.dmaOf f).cur with
        | none => true
        | some c => d.seq ≤ c.seq)) then some d else none

/-- The data of a descriptor has moved with conditions met. -/
def State.dmaMoved (s : State) (e : Nat) (conds acks : List Nat) : State :=
  s.updDma e (fun x => { x with
    moved := true
    conds := x.conds ++ conds
    acks := acks })

/-- DMA_REMOTE_ACK_TIMEOUT (R359): acknowledgements have not all arrived in time. -/
def dmaAckTimeout (e : Nat) (s : State) : State :=
  if (s.dmaOf e).acks.isEmpty then s
  else s.updDma e (fun x => { x with
    conds := x.conds ++ [dcRemoteErr]
    acks := [] })

/-- Set bits of HOSTIF_DMA_e_EVENT; the register becoming non-zero is a host event (R362). -/
def State.dmaEvent (s : State) (e bits : Nat) : State :=
  let was := s.num (R.HOSTIF_DMA_e_EVENT e)
  let s := s.putN (R.HOSTIF_DMA_e_EVENT e) (Nat.lor was bits)
  s.when (was == 0 && bits != 0) (fun t => t.hostEvent (256 + e))

/-- DMA_DESCRIPTOR_DONE (R357, R360): STATUS is written back to the descriptor in host memory, then HEAD advances. -/
def dmaDone (e : Nat) (s : State) : State :=
  let x := s.dmaOf e
  match x.cur with
  | none => s
  | some d =>
    if x.moved && x.acks.isEmpty then
      let code := x.conds.foldl min 15
      let code := if x.conds.isEmpty then 0 else code
      let m := 2 ^ x.log2
      let head := s.get (F.HOSTIF_DMA_e_HEAD_IDX e) % m
      let s := { s with host := { s.host with
        out := s.host.out ++ [(x.ring + 32 * head + 0x18, leBytes 4 (2 ^ 31 + code))] } }
      let s := (s.dmaAbandon e).put (F.HOSTIF_DMA_e_HEAD_IDX e) ((head + 1) % m)
      let s := (s.put (F.HOSTIF_DMA_e_STATUS_LAST_CODE e) code).bump (R.HOSTIF_DMA_e_DONE_CNT e)
      let s := s.when (code != 0) (fun t => (t.bump (R.HOSTIF_DMA_e_ERR_CNT e)).put F.HOSTIF_EVENT_DMA_ERR 1)
      let s := s.dmaEvent e (b2n (d.flags.testBit 0) + 2 * b2n (code != 0))
      s.when (code != 0 && s.is (F.HOSTIF_DMA_e_CTRL_HALT_ON_ERR e)) (fun t => t.put (F.HOSTIF_DMA_e_CTRL_ENABLE e) 0)
    else s

/-! ## Mailboxes (R363 to R368) -/

/-- Change mailbox `m`; a host-side event that appears is host event 264 + m (R362, R367). -/
def State.mbxChange (s : State) (m : Nat) (f : State → State) : State :=
  let t := f s
  t.when (!s.mbxLevel true m && t.mbxLevel true m) (fun u => u.hostEvent (264 + m))

/-- Start the timer of a mailbox with the TMO in force. -/
def State.mbxTimer (s : State) (m : Nat) : State :=
  let tmo := s.get (F.MBX_m_CFG_TMO m)
  s.updMbx m (fun x => { x with timer := some (s.now, tmo) })

/-- A requester posts a notice whose words are in place (R363). -/
def State.mbxPosted (s : State) (r : Req) (m : Nat) : State :=
  s.mbxChange m (fun s =>
    let full := s.is (F.MBX_m_STATUS_FULL m)
    let s := (s.put (F.MBX_m_STATUS_SRC m) (reqCode r)).put (F.MBX_m_STATUS_FULL m) 1
    let s := (s.put (F.MBX_m_RX_EVENT_NOTICE m) 1).mbxTimer m
    s.when full (fun t => (t.put (F.MBX_m_RX_EVENT_COLLISION m) 1).bump (R.MBX_m_COLL_CNT m)))

/-- MBX_POST (R363): a write of MBX_m_NOTICE_LO commits the staged high word and the low word, and posts. -/
def mbxPost (r : Req) (m : Nat) (v : Word) (s : State) : State :=
  let hi := (s.rq r).staged
  let s := (s.setWord (R.MBX_m_NOTICE_LO m) v).setWord (R.MBX_m_NOTICE_HI m) hi
  (s.updRq r (fun q => { q with staged := 0 })).mbxPosted r m

/-- MBX_TAKE (R364): a read of MBX_m_NOTICE_LO; by the receiver it takes the notice. -/
def mbxTake (r : Req) (m : Nat) (s : State) : State :=
  let lo := s.word (R.MBX_m_NOTICE_LO m)
  let hi := s.word (R.MBX_m_NOTICE_HI m)
  let s := s.updRq r (fun q => { q with
    rword := lo
    snap := hi })
  if reqCode r = s.get (F.MBX_m_CFG_RX m) ∧ s.is (F.MBX_m_STATUS_FULL m) then
    let s := (s.put (F.MBX_m_STATUS_FULL m) 0).updMbx m (fun x => { x with timer := none })
    (s.put (F.MBX_m_STATUS_TAKEN_SRC m) (s.get (F.MBX_m_STATUS_SRC m))).put (F.MBX_m_STATUS_ACK_PEND m) 1
  else s

/-- MBX_TIMEOUT (R365): the timer reaches TMO while FULL; a notice times out at most once. -/
def mbxTimeout (m : Nat) (s : State) : State :=
  if (s.mbxOf m).timer.isSome ∧ s.is (F.MBX_m_STATUS_FULL m) then
    s.mbxChange m (fun s =>
      let src := s.get (F.MBX_m_STATUS_SRC m)
      let s := s.updMbx m (fun x => { x with
        timer := none
        toFor := src })
      (s.put (F.MBX_m_TX_EVENT_TIMEOUT m) 1).bump (R.MBX_m_TMO_CNT m))
  else s

/-- MBX_ACK (R366): a write of MBX_m_ACK by the receiver while ACK_PEND is 1; any other is counted. -/
def mbxAck (r : Req) (m : Nat) (v : Word) (s : State) : State :=
  if reqCode r = s.get (F.MBX_m_CFG_RX m) ∧ s.is (F.MBX_m_STATUS_ACK_PEND m) then
    s.mbxChange m (fun s =>
      let src := s.get (F.MBX_m_STATUS_TAKEN_SRC m)
      let s := (s.put (F.MBX_m_STATUS_ACK_CODE m) (bitsOf v 15 0)).put (F.MBX_m_STATUS_ACK_PEND m) 0
      (s.updMbx m (fun x => { x with ackFor := src })).put (F.MBX_m_TX_EVENT_ACKED m) 1)
  else s.bump R.MBX_ACK_DROP

/-- A write of MBX_m_CFG (R368): a new receiver takes effect at once, a new TMO at the next timer start. -/
def State.mbxCfgWrite (s : State) (m : Nat) (v : Word) : State := s.mbxChange m (fun t => t.plainWrite (R.MBX_m_CFG m) v)

/-! ## Doorbells (R369) -/

/-- DB_H2D_SET and DB_H2D_CLR. -/
def dbH2dSet (w : Nat) (v : Word) (s : State) : State := s.setWord (R.MBX_DB_H2D_SET_w w) (s.word (R.MBX_DB_H2D_SET_w w) ||| v)
def dbH2dClr (w : Nat) (v : Word) (s : State) : State := s.setWord (R.MBX_DB_H2D_SET_w w) (s.word (R.MBX_DB_H2D_SET_w w) &&& ~~~v)

/-- Set device-to-host doorbell bit `b`; it becoming 1 is host event 296 + b (R362). -/
def State.doorbell (s : State) (b : Nat) : State :=
  let was := s.bit (R.MBX_DB_D2H_SET_w (b / 32)) (b % 32)
  (s.putBit (R.MBX_DB_D2H_SET_w (b / 32)) (b % 32) true).when (!was) (fun t => t.hostEvent (296 + b))

/-- DB_D2H_SET and DB_D2H_CLR. -/
def dbD2hSet (w : Nat) (v : Word) (s : State) : State := s.each (bitList 32 v.toNat) (fun t b => t.doorbell (32 * w + b))
def dbD2hClr (w : Nat) (v : Word) (s : State) : State := s.setWord (R.MBX_DB_D2H_SET_w w) (s.word (R.MBX_DB_D2H_SET_w w) &&& ~~~v)

/-! ## Meanings -/

def execPcieConfigRequest (reg : Nat) (wr : Option Word) (s : State) : Host.Outcome State Fault Refusal :=
  .next (configRequest reg wr s)
def execPcieReset (linkDown : Bool) (s : State) : Host.Outcome State Fault Refusal := .next (pcieReset linkDown s)
def execPciePerst (low : Bool) (s : State) : Host.Outcome State Fault Refusal := .next (pciePerst low s)
def execPcieLinkUp (width speed : Fin 16) (s : State) : Host.Outcome State Fault Refusal :=
  .next (pcieLinkUp width.val speed.val s)
def execDmaEnableWrite (e : Engine8) (v : Word) (s : State) : Host.Outcome State Fault Refusal := .next (dmaEnableWrite e.val v s)
def execDmaAbort (e : Engine8) (s : State) : Host.Outcome State Fault Refusal := .next (dmaAbort e.val s)
def execDmaTailWrite (e : Engine8) (v : Word) (s : State) : Host.Outcome State Fault Refusal := .next (dmaTailWrite e.val v s)
def execDmaDescriptorFetch (e : Engine8) (d : List Byte) (ok : Bool) (s : State) : Host.Outcome State Fault Refusal :=
  .next (dmaFetch e.val d ok s)
def execDmaRemoteAckTimeout (e : Engine8) (s : State) : Host.Outcome State Fault Refusal := .next (dmaAckTimeout e.val s)
def execDmaDescriptorDone (e : Engine8) (s : State) : Host.Outcome State Fault Refusal := .next (dmaDone e.val s)
def execMsixSend (v : Fin 64) (s : State) : Host.Outcome State Fault Refusal := .next (msixSend v.val s)
def execMbxPost (r : Req) (m : Mailbox) (v : Word) (s : State) : Host.Outcome State Fault Refusal := .next (mbxPost r m.val v s)
def execMbxTake (r : Req) (m : Mailbox) (s : State) : Host.Outcome State Fault Refusal := .next (mbxTake r m.val s)
def execMbxTimeout (m : Mailbox) (s : State) : Host.Outcome State Fault Refusal := .next (mbxTimeout m.val s)
def execMbxAck (r : Req) (m : Mailbox) (v : Word) (s : State) : Host.Outcome State Fault Refusal := .next (mbxAck r m.val v s)
def execDbH2dSet (w : Fin 2) (v : Word) (s : State) : Host.Outcome State Fault Refusal := .next (dbH2dSet w.val v s)
def execDbH2dClr (w : Fin 2) (v : Word) (s : State) : Host.Outcome State Fault Refusal := .next (dbH2dClr w.val v s)
def execDbD2hSet (w : Fin 2) (v : Word) (s : State) : Host.Outcome State Fault Refusal := .next (dbD2hSet w.val v s)
def execDbD2hClr (w : Fin 2) (v : Word) (s : State) : Host.Outcome State Fault Refusal := .next (dbD2hClr w.val v s)

end Sys2Proof.Machine
end

