-- ==== Sys2Proof/Machine/Sequencer.lean ====
section
/-!
DEFINITION. Run-ahead of the site sequencer (chapter 05): engines and slices, directory reads and instruction fetches, the
effect of each instruction on run-ahead, the shadow, prefetches and the conditions that stop them.
-/

namespace Sys2Proof.Machine

/-! ## Paths -/

/-- The fall-through path (none) or the path of the `i`-th prefetch. -/
def pathOf (c : SeqCtx) : Option Nat → Option Path
  | none => some c.main
  | some i => (c.pfs[i]?).map (·.path)

/-- Replace a path. -/
def setPath (c : SeqCtx) (p : Option Nat) (x : Path) : SeqCtx :=
  match p with
  | none => { c with main := x }
  | some i => { c with pfs := c.pfs.modify i (fun q => { q with path := x }) }

/-- Replace a path of context `n`. -/
def State.putPath (s : State) (n : Nat) (p : Option Nat) (x : Path) : State := s.updSeq n (fun c => setPath c p x)

/-- A path has an instruction to execute. -/
def Path.active (x : Path) : Bool := x.stop == .none

/-- A context is active (R112): armed, not halted, and a path has work to do. -/
def State.ctxActive (s : State) (n : Nat) : Bool :=
  let c := s.seqOf n
  s.armed n && !c.halted && (c.main.active || c.pfs.any (fun q => q.path.active))

/-- The engine of a context serves it now (R109, R112). -/
def State.served (s : State) (n : Nat) : Bool := (s.engOf (n % 16)).cur == n / 16

/-- Charge engine cycles to the slice of context `n` (R113). -/
def State.charge (s : State) (n k : Nat) : State :=
  s.updEng (n % 16) (fun e => { e with slice := e.slice + k, cycles := e.cycles + k })

/-- ENGINE_CONTEXT_SWITCH (R112): the slice of the engine's context ends and the next active context in ascending number
begins one; two cycles are charged when the context changes. -/
def contextSwitch (e : Nat) (s : State) : State :=
  let g := s.engOf e
  let over_ := !s.ctxActive (e + 16 * g.cur) || s.get F.SEQ_SLICE_MIN_RUN ≤ g.slice
  match [1, 2, 3, 4].find? (fun d => s.ctxActive (e + 16 * ((g.cur + d) % 4))) with
  | none => s
  | some d =>
    let q := (g.cur + d) % 4
    if over_ then
      s.updEng e (fun g => { cur := q, slice := 0, cycles := g.cycles + (if q = g.cur then 0 else 2) })
    else s

/-- SEQ_ENG_ACTIVE. -/
def State.engActive (s : State) : Nat :=
  ((List.range 16).map (fun e => 2 ^ e * b2n ((List.range 4).any (fun q => s.ctxActive (e + 16 * q))))).sum

/-! ## Play-queue entries -/

/-- Append an entry to the play queue of a path, with the instruction and the stacks as they stand. -/
def Path.push (x : Path) (b : ItemBody) : Path :=
  { x with items := x.items ++
      [{ drw := x.ent.id
         idx := x.idx
         body := b
         loops := x.loops.map (·.count)
         calls := x.calls
         tag := x.tag }] }

/-- Account for `k` resolved granules of period `per`: the open shadow shrinks (R132). -/
def Path.grow (x : Path) (k per : Nat) : Path :=
  { x with
    grans := x.grans + k
    lastTset := if k = 0 then x.lastTset else x.tset
    shadow := match x.shadow with
      | none => none
      | some r => if r ≤ 32 * per * k then none else some (r - 32 * per * k) }

/-- Fill the rest of an open shadow with hold granules (R132). -/
def Path.pad (x : Path) (per : Nat) : Path :=
  match x.shadow with
  | none => x
  | some r =>
    let k := max 1 (ceilDiv r (32 * per))
    { (x.push (.hold k true)) with grans := x.grans + k, lastTset := x.tset, shadow := none }

/-- 16 × F of R494. -/
def State.fullAt (s : State) (n : Nat) : Nat :=
  16 * fetchFrames (s.strmOf n).units (s.siteOf n).octs.length

/-- Why a path that has executed an instruction does not execute its next one. -/
def State.nextStop (s : State) (n : Nat) (p : Option Nat) (x : Path) : Stop :=
  match x.stop with
  | .none =>
    if p.isNone && s.fullAt n ≤ granCount x.items then .full
    else if p.isSome && x.limit ≤ x.grans then .wait
    else if x.idx < x.ent.ilen && (x.ibuf.lookup x.idx).isNone then .ilist
    else .none
  | st => st

/-- SEQ_CTX_n_PC_DRW, PC_IDX and CURSOR show the fall-through path. -/
def State.seqShow (s : State) (n : Nat) : State :=
  let x := (s.seqOf n).main
  ((s.putN (R.SEQ_CTX_n_PC_DRW n) x.ent.id).putN (R.SEQ_CTX_n_PC_IDX n) x.idx).putN (R.SEQ_CTX_n_CURSOR n) x.cursor

/-- A path as an instruction leaves it. Granules that fill an open shadow request their set (R132, R169). -/
def State.leave (s : State) (n : Nat) (p : Option Nat) (x : Path) : State :=
  let fills := match pathOf (s.seqOf n) p with
    | some y => y.shadow.isSome && decide (y.grans < x.grans)
    | none => false
  let s := s.when fills (fun t => t.requestSet n x.lastTset)
  let s := s.putPath n p { x with stop := s.nextStop n p x }
  (s.seqShow n).primeCheck n

/-- The period that run-ahead takes for the set of a path. -/
def State.pathPer (s : State) (n : Nat) (x : Path) : Nat := s.sitePer n x.tset

/-- A fault that run-ahead detects (R111): the shadow is padded, the halt stands in the play queue, and run-ahead ends. -/
def State.seqFault (s : State) (n : Nat) (p : Option Nat) (x : Path) (code : Nat) (poison : Bool) : State :=
  s.leave n p { ((x.pad (s.pathPer n x)).push (.eff (.fault code poison))) with stop := .done }

/-! ## Selection (R48, R122, R138, R139) -/

/-- The context holds the drawer in the active-range table, or has selected it. -/
def State.ctxHolds (s : State) (n id : Nat) : Bool :=
  (s.artOf n id).isSome || (s.seqOf n).sels.any (fun x => x.id == id)

/-- Distinct drawers that the context holds. -/
def State.ctxHeld (s : State) (n : Nat) : Nat :=
  s.artUsed n + ((s.seqOf n).sels.filter (fun x => (s.artOf n x.id).isNone)).length

/-- Select a drawer: `ok` is where the path waits for the directory, `stall` where it waits for a table entry. -/
def State.select (s : State) (n : Nat) (p : Option Nat) (x : Path) (id : Nat) (ok stall : Stop) : State :=
  if id = 0 ∨ !s.committed id then s.seqFault n p x hcMissing false
  else if s.ctxHolds n id then s.leave n p { x with stop := ok }
  else if 4 ≤ s.ctxHeld n then
    let again := x.stop == stall
    (s.leave n p { x with stop := stall }).when (p.isNone && !again) (fun t => t.bump (R.SEQ_CTX_n_ART_STALL n))
  else
    let sel : Sel := { id := id, seq := s.logMark }
    (s.updSeq n (fun c => { c with sels := c.sels ++ [sel] })).leave n p { x with stop := ok }

/-- enter(TARGET). -/
def State.enter (s : State) (n : Nat) (p : Option Nat) (x : Path) (id goff : Nat) : State :=
  s.select n p x id (.dir id goff) (.art id goff)

/-- Go back to an index and cursor of a drawer. -/
def State.goBack (s : State) (n : Nat) (p : Option Nat) (x : Path) (id idx cursor : Nat) : State :=
  if id = x.ent.id then s.leave n p { x with idx := idx, cursor := cursor }
  else s.select n p x id (.back id idx cursor) (.artBack id idx cursor)

/-- A new stream number of context `n`. -/
def State.newStrm (s : State) (n : Nat) : Nat × State :=
  let k := (s.seqOf n).nextStrm
  let s := s.updSeq n (fun c => { c with nextStrm := k + 1 })
  (k, s.updStrm n (fun y => { y with streams := Tab.ins k {} y.streams }))

/-- Begin a prefetch, unless one with the same key exists: a target enters its drawer, a continuation resumes in the same
list (R138). `x` is the path at the instruction. -/
def State.prefetch (s : State) (n : Nat) (key : PfKey) (x : Path) : State :=
  let c := s.seqOf n
  if c.pfs.any (fun q => q.key == key) then s
  else
    let (k, s) := s.newStrm n
    let base : Path := {
      ent := x.ent
      idx := x.idx
      cursor := x.cursor
      ibuf := x.ibuf
      stop := .none
      strm := k
      tset := x.tset
      tset0 := x.tset
      lastTset := x.tset
      limit := 16 * c.spec }
    let i := c.pfs.length
    let s := s.updSeq n (fun c => { c with pfs := c.pfs ++ [{ key := key, path := base }] })
    match key with
    | .target id goff => s.enter n (some i) base id goff
    | .cont _ idx => s.leave n (some i) { base with idx := idx }

/-! ## Executing an instruction -/

/-- The word at the program counter of a path: none while it is not fetched; a position past the list counts as a word with
opcode 0 (R115). -/
def Path.wordAt (x : Path) : Option IWord :=
  if x.ent.ilen ≤ x.idx then some {} else x.ibuf.lookup x.idx

/-- A word that is no defined instruction: undefined opcode, or poisoned (R115, R118). -/
def IWord.undef (w : IWord) : Bool := w.poison || !opDefined (opcodeOf w.word)

/-- The halt code of a defined instruction that does not execute as written: control store not loaded or its dispatch word
not valid (R145, R146), reserved value (R117), reserved field (R116). -/
def State.wordFault (s : State) (w : Nat) : Option Nat :=
  if !s.is F.SEQ_UCS_STATUS_LOADED ∨ !(Tab.get 0 s.ucs (opcodeOf w)).testBit 13 then some hcIllegal
  else if reservedValue w then some hcReserved
  else if reservedSet w && !s.compat 5 then some hcReserved
  else none

/-- A path that may execute its next instruction. -/
def State.canRun (s : State) (n : Nat) (x : Path) : Bool := s.armed n && !(s.seqOf n).halted && s.served n && x.active

/-- Execute the instruction at the program counter of path `p` of context `n`, if its word is one that `ok` accepts. -/
def seqInstr (ok : Nat → Bool) (run : Nat → Option Nat → Path → Nat → State → State) (n : Nat) (p : Option Nat)
    (parity : Bool) (s : State) : State :=
  match pathOf (s.seqOf n) p with
  | none => s
  | some x =>
    match x.wordAt with
    | none => s
    | some w =>
      if s.canRun n x && !w.undef && ok w.word then
        let s := s.charge n (cyclesOf w.word)
        let x := { x with tag := (s.seqOf n).ser }
        let s := s.updSeq n (fun c => { c with ser := c.ser + 1 })
        if parity then
          ((s.bump R.SEQ_UCS_PARITY).put F.SEQ_EVENT_UCS_PARITY 1).seqFault n p x hcIllegal false
        else
          match s.wordFault w.word with
          | some code => s.seqFault n p x code false
          | none => run n p x w.word s
      else s

/-- UNDEFINED_OPCODE (R115, R118): a word with an undefined opcode, a poisoned word, or a position past the list. -/
def undefinedOpcode (n : Nat) (p : Option Nat) (s : State) : State :=
  match pathOf (s.seqOf n) p with
  | none => s
  | some x =>
    match x.wordAt with
    | none => s
    | some w =>
      if s.canRun n x && w.undef then
        (s.updSeq n (fun c => { c with ser := c.ser + 1 })).seqFault n p { x with tag := (s.seqOf n).ser } hcIllegal w.poison
      else s

/-- Resolve granules of the set of the path, or stop where every slot of a portion is locked (R169, R170). -/
def State.resolve (s : State) (n : Nat) (p : Option Nat) (x : Path) (f : Path → Path) : State :=
  if s.setBlocked n x.tset then
    (s.leave n p { x with stop := .lock }).bump (R.TSET_SITE_n_LOCK_STALL n)
  else
    let s := s.requestSet n x.tset
    s.leave n p (f x)

/-- VEC (R121). -/
def runVec (n : Nat) (p : Option Nat) (x : Path) (w : Nat) (s : State) : State :=
  let left := x.ent.len - x.cursor
  let req := if wf w 31 0 = 0 then left else wf w 31 0
  let k := min req left
  let x1 := if k < req then x.push (.eff (.vecShort (req - k))) else x
  if k = 0 then s.leave n p { (x1.push (.eff .step)) with idx := x.idx + 1 }
  else
    s.resolve n p x (fun _ =>
      { ((x1.push (.run x.strm x.cursor k x.ent)).grow k (s.pathPer n x)) with
        cursor := x.cursor + k
        idx := x.idx + 1 })

/-- RPT (R121). -/
def runRpt (n : Nat) (p : Option Nat) (x : Path) (w : Nat) (s : State) : State :=
  let times := wf w 39 16
  let gran := wf w 15 0
  let k := min gran (x.ent.len - x.cursor)
  let x1 := if k < gran then x.push (.eff (.vecShort (times * (gran - k)))) else x
  let done := fun (y : Path) => { y with cursor := max x.cursor (min (x.cursor + gran) x.ent.len), idx := x.idx + 1 }
  if k = 0 then s.leave n p (done (x1.push (.eff .step)))
  else
    s.resolve n p x (fun _ =>
      done (((List.range times).foldl (fun (y : Path) _ => y.push (.run x.strm x.cursor k x.ent)) x1).grow
        (times * k) (s.pathPer n x)))

/-- KEEP. -/
def runKeep (n : Nat) (p : Option Nat) (x : Path) (w : Nat) (s : State) : State :=
  s.resolve n p x (fun _ =>
    { ((x.push (.hold (wf w 31 0) false)).grow (wf w 31 0) (s.pathPer n x)) with idx := x.idx + 1 })

/-- LOOP; inside a prefetch the depth is checked in play (R138). -/
def runLoop (n : Nat) (p : Option Nat) (x : Path) (w : Nat) (s : State) : State :=
  let x := x.pad (s.pathPer n x)
  if p.isNone && 8 ≤ x.loops.length then s.seqFault n p x hcLoopNest false
  else
    let x := x.push (.eff (if p.isSome then .depths (x.loops.length + 1) x.calls.length else .step))
    s.leave n p { x with
      loops := { count := wf w 31 0, drw := x.ent.id, idx := x.idx + 1, cursor := x.cursor, rewind := wf w 55 55 = 1 } ::
        x.loops
      idx := x.idx + 1 }

/-- ENDL (R123); a prefetch stops before one that would use an inherited entry (R138). -/
def runEndl (n : Nat) (p : Option Nat) (x : Path) (_w : Nat) (s : State) : State :=
  match x.loops with
  | [] =>
    if p.isSome then s.leave n p { x with stop := .wait }
    else
      let x := x.pad (s.pathPer n x)
      s.leave n p { (x.push (.eff .endlEmpty)) with idx := x.idx + 1 }
  | top :: rest =>
    let x := (x.pad (s.pathPer n x)).push (.eff .step)
    if top.count = 1 then s.leave n p { x with loops := rest, idx := x.idx + 1 }
    else
      let x1 := { x with loops := { top with count := top.count - 1 } :: rest }
      let cur := if top.rewind ∨ x.ent.id ≠ top.drw then top.cursor else x.cursor
      s.goBack n p x1 top.drw top.idx cur

/-- JMP (R122). -/
def runJmp (n : Nat) (p : Option Nat) (x : Path) (w : Nat) (s : State) : State :=
  s.enter n p ((x.pad (s.pathPer n x)).push (.eff .step)) (wf w 43 24) (wf w 23 0)

/-- Whether the site is part of a span. -/
def State.onSpan (s : State) (n : Nat) : Bool := (s.siteOf n).role != 0

/-- JMPC (R128 to R131, R138): the fall-through path continues in an open shadow, and the target is prefetched; a prefetch
takes it as not taken. -/
def runJmpc (n : Nat) (p : Option Nat) (x : Path) (w : Nat) (s : State) : State :=
  let x := x.pad (s.pathPer n x)
  let flag := wf w 51 48
  let span := s.onSpan n && (flag == 2 || flag == 3)
  let need := s.shadowTime n x.lastTset flag span
  let y := { (x.push (.eff (.jmpc flag (wf w 55 55 == 1) (wf w 43 24) (wf w 23 0) x.loops x.calls))) with
    idx := x.idx + 1
    shadow := some (max 1 need.toNat) }
  let s := s.leave n p y
  s.when p.isNone (fun t => t.prefetch n (.target (wf w 43 24) (wf w 23 0)) x)

/-- CALL. -/
def runCall (n : Nat) (p : Option Nat) (x : Path) (w : Nat) (s : State) : State :=
  let x := x.pad (s.pathPer n x)
  if p.isNone && 16 ≤ x.calls.length then s.seqFault n p x hcStackOver false
  else
    let x := x.push (.eff (if p.isSome then .depths x.loops.length (x.calls.length + 1) else .step))
    s.enter n p { x with
      calls := { drw := x.ent.id, idx := x.idx + 1, cursor := x.cursor, depth := x.loops.length } :: x.calls }
      (wf w 43 24) (wf w 23 0)

/-- RET. -/
def runRet (n : Nat) (p : Option Nat) (x : Path) (_w : Nat) (s : State) : State :=
  match x.calls with
  | [] =>
    if p.isSome then s.leave n p { x with stop := .wait }
    else s.seqFault n p x hcStackUnder false
  | e :: rest =>
    let x := (x.pad (s.pathPer n x)).push (.eff .step)
    s.goBack n p { x with calls := rest, loops := x.loops.drop (x.loops.length - e.depth) } e.drw e.idx e.cursor

/-- The fall-through path stops at an instruction that play must pass; a prefetch stops before it (R138). -/
def State.atWait (s : State) (n : Nat) (p : Option Nat) (x : Path) (f : Path → State) : State :=
  if p.isSome then s.leave n p { x with stop := .wait } else f (x.pad (s.pathPer n x))

/-- The fall-through path stands at a wait in play, and both continuations are prefetched (R138). -/
def State.holdAt (s : State) (n : Nat) (x : Path) (e : Eff) (tidx : Nat) : State :=
  let s := s.requestSet n x.tset
  let s := s.leave n none { (x.push (.eff e)) with stop := .wait }
  (s.prefetch n (.cont x.ent.id (x.idx + 1)) x).prefetch n (.cont x.ent.id tidx) x

/-- MATCHWAIT (R134, R135): the loop drawer is selected first. -/
def runMatchwait (n : Nat) (p : Option Nat) (x : Path) (w : Nat) (s : State) : State :=
  s.atWait n p x (fun x =>
    let x := { x with shadow := none }
    s.select n none x (wf w 35 16) (.loopDir (wf w 35 16)) (.loopArt (wf w 35 16)))

/-- The MATCHWAIT at the program counter, with the entry of its drawer. -/
def State.matchReady (s : State) (n : Nat) (x : Path) (e : DirEnt) : State :=
  let w := ((x.ibuf.lookup x.idx).getD {}).word
  if (e.type = 1 ∨ e.type = 3) ∧ e.shelf then
    if s.setBlocked n x.tset then (s.leave n none { x with stop := .lock }).bump (R.TSET_SITE_n_LOCK_STALL n)
    else
      s.holdAt n x (.matchWait (wf w 55 55 == 1) (wf w 54 36) e.id e.len e.base e.mask (e.type == 3) (wf w 15 0)) (wf w 15 0)
  else s.seqFault n none x hcMissing false

/-- WAITCORE (R136). -/
def runWaitcore (n : Nat) (p : Option Nat) (x : Path) (w : Nat) (s : State) : State :=
  s.atWait n p x (fun x =>
    if s.setBlocked n x.tset then (s.leave n none { x with stop := .lock }).bump (R.TSET_SITE_n_LOCK_STALL n)
    else s.holdAt n x (.waitCore (wf w 55 55 == 1) (wf w 54 52) (wf w 31 0) (wf w 47 32)) (wf w 47 32))

/-- TRANSIT (R137): run-ahead goes on once play has passed it. -/
def runTransit (n : Nat) (p : Option Nat) (x : Path) (w : Nat) (s : State) : State :=
  s.atWait n p x (fun x =>
    if s.setBlocked n x.tset then (s.leave n none { x with stop := .lock }).bump (R.TSET_SITE_n_LOCK_STALL n)
    else
      let s := s.requestSet n x.tset
      s.leave n none { (x.push (.eff (.transit (wf w 55 55) (wf w 31 0)))) with idx := x.idx + 1, stop := .wait })

/-- HALT. -/
def runHalt (n : Nat) (p : Option Nat) (x : Path) (w : Nat) (s : State) : State :=
  s.atWait n p x (fun x => s.leave n none { (x.push (.eff (.halt (wf w 7 0)))) with stop := .done })

/-- An instruction whose only run-ahead effect is an entry of the play queue. -/
def runEff (f : Nat → Eff) (n : Nat) (p : Option Nat) (x : Path) (w : Nat) (s : State) : State :=
  s.leave n p { (x.push (.eff (f w))) with idx := x.idx + 1 }

/-- TSET. -/
def runTset (n : Nat) (p : Option Nat) (x : Path) (w : Nat) (s : State) : State :=
  s.leave n p { (x.push (.eff (.tset (wf w 7 0)))) with idx := x.idx + 1, tset := wf w 7 0 }

/-! ## Directory reads, instruction fetches, resuming -/

/-- The path stands in the drawer of an entry. -/
def Path.at (x : Path) (e : DirEnt) (idx cursor : Nat) : Path :=
  { x with ent := e, idx := idx, cursor := cursor, ibuf := [], stop := .none }

/-- A selection found a drawer that sequencers do not play: it is forgotten, and the site halts in play (R122). -/
def State.badDrawer (s : State) (n : Nat) (p : Option Nat) (x : Path) (id : Nat) : State :=
  (s.updSeq n (fun c => { c with sels := c.sels.filter (fun y => y.id != id) })).seqFault n p x hcMissing false

/-- DIRECTORY_READ_DONE (R113): the entry that a path waits for arrives. -/
def directoryDone (n : Nat) (p : Option Nat) (s : State) : State :=
  match pathOf (s.seqOf n) p with
  | none => s
  | some x =>
    let read := fun id => (s.eccRead (entryAddr id) 64 0x1F (some (n, id))).2
    match x.stop with
    | .dir id goff =>
      let e := s.entry id
      if e.type = 2 then (read id).badDrawer n p x id else ((read id).chargeDrawer n e).leave n p (x.at e 0 goff)
    | .back id idx cursor =>
      let e := s.entry id
      if e.type = 2 then (read id).badDrawer n p x id else ((read id).chargeDrawer n e).leave n p (x.at e idx cursor)
    | .loopDir id => ((read id).chargeDrawer n (s.entry id)).matchReady n { x with stop := .none } (s.entry id)
    | _ => s

/-- ILIST_FETCH_DONE (R113, R118): `cnt` words from index `i` arrive; words of an uncorrectable burst are poisoned. -/
def ilistDone (n : Nat) (p : Option Nat) (i cnt : Nat) (ce ue : List Nat) (s : State) : State :=
  match pathOf (s.seqOf n) p with
  | none => s
  | some x =>
    let c := min cnt (x.ent.ilen - i)
    let a := x.ent.iaddr + 8 * i
    let (bad, s1) := (s.addErrs ce ue).eccRead a (8 * c) 0x1F (some (n, x.ent.id))
    let ws := (List.range c).map (fun j => (i + j,
      { word := s.rdLe (a + 8 * j) 8, poison := bad.contains ((a + 8 * j) / 32) : IWord }))
    match x.stop with
    | .ilist => s1.leave n p { x with ibuf := ws ++ x.ibuf, stop := .none }
    | .none => s1.leave n p { x with ibuf := ws ++ x.ibuf }
    | _ => s

/-- RUNAHEAD_RESUME (R139, R170, R494): a path that stopped goes on once play has made room. -/
def runaheadResume (n : Nat) (p : Option Nat) (s : State) : State :=
  match pathOf (s.seqOf n) p with
  | none => s
  | some x =>
    match x.stop with
    | .full => s.leave n p { x with stop := .none }
    | .lock => if s.setBlocked n x.tset then s else s.leave n p { x with stop := .none }
    | .art id goff => s.enter n p x id goff
    | .artBack id idx cursor => s.select n p x id (.back id idx cursor) (.artBack id idx cursor)
    | .loopArt id => s.select n p x id (.loopDir id) (.loopArt id)
    | _ => s

/-! ## CORE flags and the control store -/

/-- CORE_FLAG_SET (R124): CORE3 to CORE0 of a context are set. -/
def coreFlagSet (n m : Nat) (s : State) : State :=
  s.each (bitList 4 m) (fun t i => t.putFlag n (4 + i) true)

/-- CORE_FLAG_CLEAR (R124). -/
def coreFlagClear (n m : Nat) (s : State) : State :=
  s.each (bitList 4 m) (fun t i => t.putFlag n (4 + i) false)

/-- UCS_WORD_WRITE (R146): a write of SEQ_UCS_DATA3; the registers lock at READY. -/
def ucsWordWrite (v : Word) (s : State) : State :=
  if s.ready then s
  else
    let s := s.setWord (R.SEQ_UCS_DATAk 3) v
    let a := s.get F.SEQ_UCS_ADDR_ADDR
    let d := ((List.range 4).map (fun k => s.num (R.SEQ_UCS_DATAk k) * 2 ^ (32 * k))).sum
    { s with ucs := Tab.set 0 a d s.ucs }.put F.SEQ_UCS_ADDR_ADDR (a + 1)

/-! ## Meanings -/

/-- The word has opcode `o`. -/
def isOp (o : Nat) (w : Nat) : Bool := opcodeOf w == o

/-- The word is CAPT with action `a`; the reserved actions go with MARK. -/
def isCapt (a : Nat) (w : Nat) : Bool := isOp opCapt w && (wf w 3 0 == a || (a == 0 && 4 ≤ wf w 3 0))

/-- The word is SIGNAL to destination `d`; the reserved destinations go with SCHED. -/
def isSignal (d : Nat) (w : Nat) : Bool := isOp opSignal w && (wf w 55 52 == d || (d == 0 && 2 ≤ wf w 55 52))

/-- The word is XLMARK with action `a`; the reserved actions go with START. -/
def isXlmark (a : Nat) (w : Nat) : Bool := isOp opXlmark w && (wf w 43 40 == a || (a == 0 && 3 ≤ wf w 43 40))

/-- The word is TRANSIT of a scope. -/
def isTransit (c : Nat) (w : Nat) : Bool := isOp opTransit w && wf w 55 55 == c

def execEngineContextSwitch (e : Core) (s : State) : Host.Outcome State Fault Refusal := .next (contextSwitch e.val s)
def execRunaheadResume (n : Site) (p : Option Nat) (s : State) : Host.Outcome State Fault Refusal :=
  .next (runaheadResume n.val p s)
def execDirectoryReadDone (n : Site) (p : Option Nat) (s : State) : Host.Outcome State Fault Refusal :=
  .next (directoryDone n.val p s)
def execIlistFetchDone (n : Site) (p : Option Nat) (i cnt : Nat) (ce ue : List Nat) (s : State) :
    Host.Outcome State Fault Refusal := .next (ilistDone n.val p i cnt ce ue s)
def execVec (n : Site) (p : Option Nat) (parity : Bool) (s : State) : Host.Outcome State Fault Refusal :=
  .next (seqInstr (isOp opVec) runVec n.val p parity s)
def execRpt (n : Site) (p : Option Nat) (parity : Bool) (s : State) : Host.Outcome State Fault Refusal :=
  .next (seqInstr (isOp opRpt) runRpt n.val p parity s)
def execLoop (n : Site) (p : Option Nat) (parity : Bool) (s : State) : Host.Outcome State Fault Refusal :=
  .next (seqInstr (isOp opLoop) runLoop n.val p parity s)
def execEndl (n : Site) (p : Option Nat) (parity : Bool) (s : State) : Host.Outcome State Fault Refusal :=
  .next (seqInstr (isOp opEndl) runEndl n.val p parity s)
def execJmp (n : Site) (p : Option Nat) (parity : Bool) (s : State) : Host.Outcome State Fault Refusal :=
  .next (seqInstr (isOp opJmp) runJmp n.val p parity s)
def execJmpc (n : Site) (p : Option Nat) (parity : Bool) (s : State) : Host.Outcome State Fault Refusal :=
  .next (seqInstr (isOp opJmpc) runJmpc n.val p parity s)
def execCall (n : Site) (p : Option Nat) (parity : Bool) (s : State) : Host.Outcome State Fault Refusal :=
  .next (seqInstr (isOp opCall) runCall n.val p parity s)
def execRet (n : Site) (p : Option Nat) (parity : Bool) (s : State) : Host.Outcome State Fault Refusal :=
  .next (seqInstr (isOp opRet) runRet n.val p parity s)
def execMatchwait (n : Site) (p : Option Nat) (parity : Bool) (s : State) : Host.Outcome State Fault Refusal :=
  .next (seqInstr (isOp opMatchwait) runMatchwait n.val p parity s)
def execTset (n : Site) (p : Option Nat) (parity : Bool) (s : State) : Host.Outcome State Fault Refusal :=
  .next (seqInstr (isOp opTset) runTset n.val p parity s)
def execLevels (n : Site) (p : Option Nat) (parity : Bool) (s : State) : Host.Outcome State Fault Refusal :=
  .next (seqInstr (isOp opLevels) (runEff (fun w => .levels (wf w 2 0))) n.val p parity s)
def execCaptMark (n : Site) (p : Option Nat) (parity : Bool) (s : State) : Host.Outcome State Fault Refusal :=
  .next (seqInstr (isCapt 0) (runEff (fun w => .captMark (wf w 15 8))) n.val p parity s)
def execCaptEnable (n : Site) (p : Option Nat) (parity : Bool) (s : State) : Host.Outcome State Fault Refusal :=
  .next (seqInstr (isCapt 1) (runEff (fun _ => .captEnable)) n.val p parity s)
def execCaptDisable (n : Site) (p : Option Nat) (parity : Bool) (s : State) : Host.Outcome State Fault Refusal :=
  .next (seqInstr (isCapt 2) (runEff (fun _ => .captDisable)) n.val p parity s)
def execCaptTrig (n : Site) (p : Option Nat) (parity : Bool) (s : State) : Host.Outcome State Fault Refusal :=
  .next (seqInstr (isCapt 3) (runEff (fun _ => .captTrig)) n.val p parity s)
def execSignalSched (n : Site) (p : Option Nat) (parity : Bool) (s : State) : Host.Outcome State Fault Refusal :=
  .next (seqInstr (isSignal 0) (runEff (fun w => .sigSched (wf w 37 32))) n.val p parity s)
def execSignalDoorbell (n : Site) (p : Option Nat) (parity : Bool) (s : State) : Host.Outcome State Fault Refusal :=
  .next (seqInstr (isSignal 1) (runEff (fun w => .sigDoorbell (wf w 37 32))) n.val p parity s)
def execTransitSpan (n : Site) (p : Option Nat) (parity : Bool) (s : State) : Host.Outcome State Fault Refusal :=
  .next (seqInstr (isTransit 0) runTransit n.val p parity s)
def execTransitDomain (n : Site) (p : Option Nat) (parity : Bool) (s : State) : Host.Outcome State Fault Refusal :=
  .next (seqInstr (isTransit 1) runTransit n.val p parity s)
def execFlag (n : Site) (p : Option Nat) (parity : Bool) (s : State) : Host.Outcome State Fault Refusal :=
  .next (seqInstr (isOp opFlag) (runEff (fun w => .flagClr (Nat.land (wf w 8 0) 0x1F3))) n.val p parity s)
def execHalt (n : Site) (p : Option Nat) (parity : Bool) (s : State) : Host.Outcome State Fault Refusal :=
  .next (seqInstr (isOp opHalt) runHalt n.val p parity s)
def execKeep (n : Site) (p : Option Nat) (parity : Bool) (s : State) : Host.Outcome State Fault Refusal :=
  .next (seqInstr (isOp opKeep) runKeep n.val p parity s)
def execXlmarkStart (n : Site) (p : Option Nat) (parity : Bool) (s : State) : Host.Outcome State Fault Refusal :=
  .next (seqInstr (isXlmark 0) (runEff (fun w => .xlmark 0 (wf w 36 32) (wf w 15 0))) n.val p parity s)
def execXlmarkStop (n : Site) (p : Option Nat) (parity : Bool) (s : State) : Host.Outcome State Fault Refusal :=
  .next (seqInstr (isXlmark 1) (runEff (fun w => .xlmark 1 (wf w 36 32) (wf w 15 0))) n.val p parity s)
def execXlmarkMark (n : Site) (p : Option Nat) (parity : Bool) (s : State) : Host.Outcome State Fault Refusal :=
  .next (seqInstr (isXlmark 2) (runEff (fun w => .xlmark 2 (wf w 36 32) (wf w 15 0))) n.val p parity s)
def execWaitcore (n : Site) (p : Option Nat) (parity : Bool) (s : State) : Host.Outcome State Fault Refusal :=
  .next (seqInstr (isOp opWaitcore) runWaitcore n.val p parity s)
def execUndefinedOpcode (n : Site) (p : Option Nat) (s : State) : Host.Outcome State Fault Refusal :=
  .next (undefinedOpcode n.val p s)
def execCoreFlagSet (n : Site) (m : Fin 16) (s : State) : Host.Outcome State Fault Refusal := .next (coreFlagSet n.val m.val s)
def execCoreFlagClear (n : Site) (m : Fin 16) (s : State) : Host.Outcome State Fault Refusal :=
  .next (coreFlagClear n.val m.val s)
def execUcsWordWrite (v : Word) (s : State) : Host.Outcome State Fault Refusal := .next (ucsWordWrite v s)

end Sys2Proof.Machine
end

