-- ==== Sys2Proof/Machine/Play.lean ====
section
/-!
DEFINITION. Play (chapters 03, 05): frame and granule boundaries, the effects that instructions have there, starvation,
branch decisions and waits, halts.
-/

namespace Sys2Proof.Machine

/-! ## Views -/

/-- SITE_n_STATUS.STATE and SEQ_CTX_n_STATE.STATE (R149, R302). -/
def State.setSiteState (s : State) (n st : Nat) : State :=
  (s.put (F.SITE_n_STATUS_STATE n) st).put (F.SEQ_CTX_n_STATE_STATE n) (if st ≤ 1 then st else st - 1)

/-- Vectors of a shadow as SEQ_CTX_n_SHADOW shows it (R133). -/
def State.shadowVecs (s : State) (n : Nat) (span : Bool) : Nat :=
  let t := (s.playOf n).tset
  let lat := if span then s.get (F.SEQ_CTX_n_SPAN_LAT_NS n) else 160
  32 * granNeed (s.shadowTime n t 0 false - 32000 * 160 + 32000 * lat) (s.sitePer n t)

/-- SEQ_CTX_n_SETS and SEQ_CTX_n_SHADOW follow the sets at the pins. -/
def State.setsShow (s : State) (n : Nat) : State :=
  let p := s.playOf n
  ((s.putN (R.SEQ_CTX_n_SETS n) (p.levels * 2 ^ 8 + p.tset)).put (F.SEQ_CTX_n_SHADOW_LOCAL n) (s.shadowVecs n false)).put
    (F.SEQ_CTX_n_SHADOW_SPAN n) (s.shadowVecs n true)

/-- The stacks that SEQ_CTX_n_STATE, LOOP_k and STK_j show (R149). -/
def State.stacksShow (s : State) (n : Nat) (loops : List Nat) (calls : List CallEnt) : State :=
  let s := (s.put (F.SEQ_CTX_n_STATE_LOOP_DEPTH n) loops.length).put (F.SEQ_CTX_n_STATE_CALL_DEPTH n) calls.length
  let s := s.each (List.range 8) (fun t k => t.putN (R.SEQ_CTX_n_LOOP_k n k) (loops.getD k 0))
  s.each (List.range 16) (fun t j =>
    let e := calls.getD j { drw := 0, idx := 0, cursor := 0, depth := 0 }
    ((t.putN (R.SEQ_CTX_n_STK_j_DRW n j) e.drw).putN (R.SEQ_CTX_n_STK_j_IDX n j) e.idx).putN
      (R.SEQ_CTX_n_STK_j_CUR n j) e.cursor)

/-! ## What run-ahead abandons (R50, R140) -/

/-- The prefetches that play may still need. -/
def SeqCtx.keys (c : SeqCtx) : List PfKey :=
  c.main.items.flatMap (fun i => match i.body with
    | .eff (.jmpc _ _ drw goff _ _) => [.target drw goff]
    | .eff (.matchWait _ _ _ _ _ _ _ tidx) => [.cont i.drw (i.idx + 1), .cont i.drw tidx]
    | .eff (.waitCore _ _ _ tidx) => [.cont i.drw (i.idx + 1), .cont i.drw tidx]
    | _ => []) ++
  c.play.decs.map (·.key) ++ (match c.play.taken with
    | some t => [t.key]
    | none => []) ++
  (match c.play.wait with
   | .mat _ _ _ _ _ _ _ _ _ idx tidx none => [.cont c.main.ent.id (idx + 1), .cont c.main.ent.id tidx]
   | .core _ _ _ _ idx tidx _ none => [.cont c.main.ent.id (idx + 1), .cont c.main.ent.id tidx]
   | _ => [])

/-- The drawers that a path uses. -/
def Path.drawers (x : Path) : List Nat :=
  x.ent.id :: x.loops.map (·.drw) ++
  (match x.stop with
   | .dir id _ | .loopDir id | .back id _ _ => [id]
   | _ => []) ++
  x.items.flatMap (fun i => i.drw :: (match i.body with
    | .run _ _ _ e => [e.id]
    | .eff (.matchWait _ _ d _ _ _ _ _) => [d]
    | _ => []))

/-- The drawers that a context uses on its paths and at the pins: of the current frame, and compare-capture drawers whose
results are not all written. -/
def SeqCtx.drawers (c : SeqCtx) : List Nat :=
  c.main.drawers ++ c.pfs.flatMap (fun p => p.path.drawers) ++ c.play.thisFrame.map (·.drw) ++
  (c.play.judging.filter (·.comp)).map (·.drw) ++
  (match c.play.wait with
   | .mat _ _ _ _ drw _ _ _ _ _ _ _ => [drw]
   | _ => [])

/-- Remove the active-range entries of those of the listed drawers that the context does not use (R50). -/
def State.artSweep (s : State) (n : Nat) (ids : List Nat) : State :=
  let used := (s.seqOf n).drawers
  let gone := fun id => ids.contains id && !used.contains id
  let s := s.updSeq n (fun c => { c with sels := c.sels.filter (fun x => !gone x.id) })
  s.each (artSlots n) (fun t i => if t.artValid i && gone (t.get (F.DRW_ART_n_ID i)) then t.artDrop i else t)

/-- The drawers that the context holds an entry for. -/
def State.artIds (s : State) (n : Nat) : List Nat :=
  ((artSlots n).filter s.artValid).map (fun i => s.get (F.DRW_ART_n_ID i))

/-- Streams that no path and no entry of the play queue names any more are dropped; their data in flight is discarded on
arrival. -/
def State.dropStreams (s : State) (n : Nat) : State :=
  let c := s.seqOf n
  let live := c.main.strm :: c.pfs.map (·.path.strm) ++ (allItems c ++ c.pfs.flatMap (·.path.items)).filterMap (fun i =>
    match i.body with
    | .run st _ _ _ => some st
    | _ => none)
  (s.updStrm n (fun x => { x with streams := x.streams.filter (fun p => live.contains p.1) })).fillShow n

/-- Discard every prefetch that play can no longer need (R140). -/
def State.gc (s : State) (n : Nat) : State :=
  let keep := (s.seqOf n).keys
  let dead := (s.seqOf n).pfs.filter (fun p => !keep.contains p.key)
  if dead.isEmpty then s
  else
    let s := s.updSeq n (fun c => { c with pfs := c.pfs.filter (fun p => keep.contains p.key) })
    (s.dropStreams n).artSweep n (dead.flatMap (fun p => p.path.drawers))

/-! ## Joining a continuation to the fall-through path (R131, R138, R140) -/

/-- A call entry behind `d` inherited loops. -/
def CallEnt.behind (d : Nat) (e : CallEnt) : CallEnt := { e with depth := e.depth + d }

/-- An effect of a continuation as it stands behind inherited stacks. -/
def Eff.behind (l : List LoopEnt) (k : List CallEnt) : Eff → Eff
  | .depths a b => .depths (a + l.length) (b + k.length)
  | .jmpc f ng d g ls cs => .jmpc f ng d g (ls ++ l) (cs.map (CallEnt.behind l.length) ++ k)
  | e => e

/-- An entry of a continuation as it stands behind inherited stacks. -/
def Item.behind (l : List LoopEnt) (k : List CallEnt) (i : Item) : Item :=
  { i with
    loops := i.loops ++ l.map (·.count)
    calls := i.calls.map (CallEnt.behind l.length) ++ k
    body := match i.body with
      | .eff e => .eff (e.behind l k)
      | b => b }

/-- The set in force after a list of items. -/
def setAfter (t : Nat) (l : List Item) : Nat :=
  l.foldl (fun m i => match i.body with
    | .eff (.tset u) => u
    | _ => m) t

/-- The continuation with key `k` follows `items` on the fall-through path, with the stacks it inherits; what the path held
beyond is discarded, and run-ahead goes on after the prefetched granules. -/
def State.join (s : State) (n : Nat) (items : List Item) (k : PfKey) (loops : List LoopEnt) (calls : List CallEnt) : State :=
  let c := s.seqOf n
  match c.pfs.find? (fun p => p.key == k) with
  | none => s
  | some p =>
    let x := p.path
    let all := items ++ x.items.map (Item.behind loops calls)
    let main : Path := { x with
      loops := x.loops ++ loops
      calls := x.calls.map (CallEnt.behind loops.length) ++ calls
      items := all
      tset := setAfter c.play.tset all
      stop := if x.stop = .wait then .none else x.stop }
    let old := c.main.drawers
    let s := s.updSeq n (fun c => { c with main := main, pfs := c.pfs.filter (fun q => q.key != k) })
    let s := s.each (itemSets c.play.tset all).dedup (fun t u => t.requestSet n u)
    let s := s.leave n none main
    let s := s.each (all.filterMap (fun i => match i.body with
      | .eff (.jmpc _ _ d g _ _) => some (d, g)
      | _ => none)) (fun t q => t.prefetch n (.target q.1 q.2) main)
    let s := s.gc n
    (s.dropStreams n).artSweep n old

/-- A taken branch joins its continuation once the fall-through granules of its shadow are resolved (R131). -/
def State.tryMerge (s : State) (n : Nat) : State :=
  let p := s.playOf n
  match p.taken with
  | none => s
  | some t =>
    let r := cover (fun u => s.sitePer n u) t.left p.tset (s.seqOf n).main.items
    if r.2 then (s.updPlay n (fun p => { p with taken := none })).join n r.1 t.key t.loops t.calls else s

/-! ## Halts (R127, R143, R144, R228, R285) -/

/-- The next instruction that has not yet taken effect (R144). -/
def State.nextInstr (s : State) (n : Nat) : Nat × Nat :=
  let c := s.seqOf n
  let x := c.main
  match x.items.find? (fun i => i.tag != c.play.instr) with
  | some i => (i.drw, i.idx)
  | none =>
    match c.play.wait, x.stop with
    | .mat _ _ _ _ _ _ _ _ _ idx _ none, _ => (x.ent.id, idx + 1)
    | .core _ _ _ _ idx _ _ none, _ => (x.ent.id, idx + 1)
    | _, .dir id _ | _, .art id _ => (id, 0)
    | _, .back id idx _ | _, .artBack id idx _ => (id, idx)
    | _, _ => (x.ent.id, x.idx)

/-- PASS at a halt (R228). -/
def State.passAtHalt (s : State) (n code : Nat) : Bool :=
  s.bit (R.FAIL_SITE_n_RESULT n) 31 && !s.bit (R.FAIL_SITE_n_RESULT n) 29 && (code == 0 || 0x80 ≤ code)

/-- Every lane that the site owns with HALT_STOP 1 stops (R325). -/
def State.lanesHalt (s : State) (n : Nat) : State :=
  s.each (List.range 128) (fun t l =>
    if t.is (F.XL_n_BIND_OWNED l) && t.get (F.XL_n_BIND_SITE l) == n && t.is (F.XL_n_CTRL_HALT_STOP l)
    then t.updLane l (fun x => { x with haltStop := true }) else t)

/-- The word that the primary combines from the words of the members, indices 0 to CHIPS − 1 (R286). -/
def spanWord (chips : Nat) (words : Tab Nat) : Nat :=
  let l := (List.range chips).map (fun i => (words.find? (fun p => p.1 == i)).map (·.2))
  let have_ := l.filterMap id
  let gone := l.any Option.isNone
  let code := fun (w : Nat) => w % 256
  let hc := match have_.find? (fun w => 0x0E ≤ code w && code w ≤ 0x18) with
    | some w => code w
    | none => ((l.headD none).map code).getD 0
  let inv := have_.foldl (fun a w => Nat.lor a (w / 2 ^ 16 % 256)) (if gone then 2 ^ causeSlip else 0)
  let ok := fun b => !gone && inv == 0 && have_.all (fun w => w.testBit b)
  hc + 2 ^ 16 * inv + 2 ^ 28 + 2 ^ 29 * b2n (have_.any (fun w => w.testBit 29)) + 2 ^ 30 * b2n (ok 30) + 2 ^ 31 * b2n (ok 31)

/-- The primary writes the combined result (R286). -/
def State.spanFinish (s : State) (n : Nat) : State :=
  let x := s.siteOf n
  ((s.putN (R.SITE_n_SPAN_RESULT n) (spanWord x.chips x.words)).put (F.SITE_n_EVENT_SPAN_DONE n) 1).updSite n
    (fun x => { x with spanDone := true })

/-- The primary holds the words of all members (R286). -/
def State.spanCheck (s : State) (n : Nat) : State :=
  let x := s.siteOf n
  if x.role = 1 ∧ !x.spanDone ∧ (List.range x.chips).all (fun i => x.words.any (fun p => p.1 == i)) then s.spanFinish n else s

/-- Site `n` halts at the instruction at `at_` (R127, R144). -/
def State.haltSite (s : State) (n code : Nat) (at_ : Nat × Nat) (poison : Bool) : State :=
  let p := s.playOf n
  let s := (s.setSiteState n stHalted).put (F.SEQ_CTX_n_STATE_HALT_CODE n) code
  let s := (s.putN (R.SEQ_CTX_n_HALT_DRW n) at_.1).putN (R.SEQ_CTX_n_HALT_IDX n) at_.2
  let s := (s.put (F.SEQ_CTX_n_EVENT_HALT n) 1).when poison (fun t => t.put (F.SEQ_CTX_n_EVENT_POISON n) 1)
  let s := s.fireSite n none
  let s := s.putN (R.FAIL_SITE_n_RESULT n)
    (setBitN (setBitN (s.num (R.FAIL_SITE_n_RESULT n) / 256 * 256 + code) 28 true) 30 (s.passAtHalt n code))
  let s := s.updCapt n (fun x => { x with
    haltAt := some (32 * p.nGran, p.gStart / 8)
    haltMarks := p.pendMarks })
  let s := s.updSeq n (fun c => { c with
    halted := true
    main := { c.main with items := [], stop := .done }
    pfs := []
    sels := []
    play := { c.play with
      on := false
      decs := []
      taken := none
      wait := .none
      rep := []
      pendMarks := [] } })
  let s := ((s.replaceStaged n (fun _ => true)).artClear n).dropStreams n
  let s := ((s.chargeRelease n).lanesHalt n).captFinish n
  let x := s.siteOf n
  let w := s.num (R.FAIL_SITE_n_RESULT n)
  if x.role = 0 then s
  else ((s.updSite n (fun y => { y with words := Tab.ins y.index w y.words })).spanCast n 3 [s.spanIdxBlock n w]).spanCheck n

/-- A halt that the program does not cause: THERMAL where `frame` says that a frame boundary passes, then SPAN_LOST, then
HOST_ABORT (R6, R143). -/
def State.asyncCode (s : State) (n : Nat) (frame : Bool) : Option Nat :=
  let c := s.seqOf n
  if c.thermal && frame then some hcThermal
  else if c.spanLost then some hcSpanLost
  else if c.abort then some hcAbort
  else none

/-- Halt with a code that the program did not cause; a THERMAL halt is counted (R399). -/
def State.asyncHalt (s : State) (n code : Nat) : State :=
  (s.haltSite n code (s.nextInstr n) false).when (code == hcThermal) (fun t => t.bump R.GOV_THERM_HALT_CNT)

/-- The program halts the site at this boundary. -/
def haltsNow : List Item → Bool
  | [] => false
  | i :: is =>
    match i.body with
    | .eff (.halt _) | .eff (.fault _ _) => true
    | .eff (.depths l c) => 8 < l || 16 < c || haltsNow is
    | .eff (.matchWait _ _ _ _ _ _ _ _) | .eff (.waitCore _ _ _ _) | .eff (.transit _ _) => false
    | .eff _ => haltsNow is
    | _ => false

/-- SEQ_ABORT (R143): a write of 1 to SEQ_CTX_n_CMD.ABORT. A site that plays halts at its next granule boundary, an armed
site before GO and one that waits at a barrier at once. -/
def seqAbort (n : Nat) (s : State) : State :=
  let st := s.siteState n
  if st = stRunning then s.updSeq n (fun c => { c with abort := true })
  else if st = stArmed ∨ st = stStarting ∨ st = stWait then s.asyncHalt n hcAbort
  else s

/-! ## TRANSIT in play (R137, R275, R277) -/

/-- Send a TRANSIT-class message to every member of the span but this one. How the primary addresses the members of a span
is not stated: the model sends one message with the SPAN_ID as DEST on every live port (assumption 20). -/
def State.spanAll (s : State) (n typ : Nat) (blocks : List Nat) : State :=
  let x := s.siteOf n
  s.sendAll ((List.range 4).filter s.portLive)
    { cls := clsTransit, mcast := true, dest := x.spanId, src := s.chipId, ttl := x.hops, typ := typ, blocks := blocks }

/-- The primary counts an arrival; with CHIPS of them it sets T_rel and sends RELEASE (R275). -/
def State.arrival (s : State) (n idx : Nat) : State :=
  let s := s.updSite n (fun x => { x with arrivals := if x.arrivals.contains idx then x.arrivals else x.arrivals ++ [idx] })
  let x := s.siteOf n
  if x.chips ≤ x.arrivals.length then
    let t := ceilTo 10 (s.tbVal 0 + 100 * s.get (F.SITE_n_TRANSIT_LEAD_LEAD n))
    (s.updSite n (fun x => { x with arrivals := [], trel := some t })).spanAll n 6 [s.spanBlock n 0, t]
  else s

/-- Site `n` learns T_rel; a notice later than T_rel − 100 ns moves the resume and spoils the run (R276). -/
def State.release (s : State) (n t : Nat) : State :=
  let v := s.tbVal 0
  if t < v + 100 then
    let s := (s.invalidate n causeSlip).put (F.SITE_n_EVENT_TRANSIT_LATE n) 1
    s.updSite n (fun x => { x with trel := some (ceilTo 10 (v + 100)) })
  else s.updSite n (fun x => { x with trel := some t })

/-- The sites that wait at the domain barrier take T_rel (R277). -/
def State.dtRelease (s : State) (t : Nat) : State :=
  s.each siteNums (fun u m =>
    match (u.playOf m).wait with
    | .trStop 1 _ _ => if (u.siteOf m).arrived then u.release m t else u
    | _ => u)

/-- The root counts an arrival at the domain barrier; with ULT_DT_EXPECT of them it broadcasts T_rel (R277). -/
def State.dtArrival (s : State) : State :=
  let k := s.num R.ULT_DT_ARRIVED + 1
  if s.get F.ULT_DT_EXPECT_COUNT ≤ k then
    let t := ceilTo 10 (s.tbVal 0 + 100 * s.get F.ULT_DT_LEAD_LEAD)
    ((s.putN R.ULT_DT_ARRIVED 0).sendAll s.downPorts
      { cls := clsTransit, mcast := true, dest := 0, src := s.chipId, ttl := 0, typ := 8, blocks := [t] }).dtRelease t
  else s.putN R.ULT_DT_ARRIVED k

/-- TRANSIT_ARRIVE (R275, R277): the site has stopped and reports its arrival. -/
def State.transitArrive (s : State) (n scope : Nat) : State :=
  let x := s.siteOf n
  let s := s.updSite n (fun x => { x with arrived := true })
  if scope = 0 then
    if x.role = 1 then s.arrival n x.index else s.spanSend x.primary 5 [s.spanIdxBlock n 0]
  else if s.isRoot then s.dtArrival
  else
    match s.upPort with
    | some u => s.sendOn u { cls := clsTransit, mcast := false, dest := 0, src := s.chipId, ttl := 0, typ := 7, blocks := [n] }
    | none => s

/-- The accumulator of cycle starts restarts at `at_` in 1/32 ps of device time (R151). -/
def State.newOrigin (s : State) (n at_ : Nat) : State :=
  s.updPlay n (fun p => { p with
    base := p.base + p.gStart
    origin := at_
    gStart := 0
    grid := p.grid.map (fun _ => 0)
    originAt := some (at_ / 32000) })

/-- TRANSIT has completed its frame (R137): a site with no barrier to wait for resumes at once. A resume that would raise the
charge asks for admission before the arrival (R394, R395). -/
def State.transitStop (s : State) (n scope timeout : Nat) : State :=
  let x := s.siteOf n
  let waits := if scope = 0 then x.role != 0 else x.dtransit
  if waits then
    let s := s.updPlay n (fun p => { p with wait := .trStop scope timeout s.now, inFrame := 16 })
    let s := s.setSiteState n stWait
    if s.chargeNow n ≤ (s.govOf n).charge then s.transitArrive n scope
    else s.updGov n (fun g => { g with resume := true })
  else
    let p := s.playOf n
    (s.updPlay n (fun p => { p with wait := .none })).newOrigin n (p.origin + p.gStart)

/-! ## Effects at a boundary (R110, R124 to R126, R321) -/

/-- The number of the next vector. -/
def Play.vec (p : Play) : Nat := 32 * p.nGran

/-- L + S of R129 and R130 for a decision after the latest program granule. -/
def State.needNow (s : State) (n flag : Nat) (span : Bool) : Nat :=
  let lat := if span then s.get (F.SEQ_CTX_n_SPAN_LAT_NS n) else 160
  max 1 ((32000 * lat : Int) + (if 4 ≤ flag then 0 else (s.playOf n).strobe)).toNat

/-- First vector that is not judged yet. -/
def Play.unjudged (p : Play) : Nat :=
  match p.judging with
  | [] => p.vec
  | g :: _ => g.vnum + p.judged

/-- Every vector up to a decision vector is judged. -/
def Decision.known (d : Decision) (p : Play) : Bool :=
  match d.lastVec with
  | none => true
  | some l => l < p.unjudged

/-- Open a decision; a span decision takes the next sequence number, and FLAGS is sent once its vector is judged
(R128, R279). -/
def State.openDecision (s : State) (n : Nat) (d : Decision) : State :=
  let p := s.playOf n
  let span := s.onSpan n && (d.flag == 2 || d.flag == 3)
  let d := { d with
    left := s.needNow n d.flag span
    lastVec := if p.lastProg = 0 then none else some (p.lastProg - 1)
    ffrom := p.failFrom
    mfrom := p.matchFrom
    fail := p.lastProg != 0 && s.flag n 0
    mtch := p.lastProg != 0 && s.flag n 1
    other := s.flag n d.flag
    seq := if span then some (s.siteOf n).seqNo else none }
  let s := s.when span (fun t => t.updSite n (fun x => { x with seqNo := x.seqNo + 1 }))
  let s := s.updPlay n (fun p => { p with decs := p.decs ++ [d] })
  s.when (span && d.known p) (fun t => t.sendFlags n (d.lastVec.getD 0))

/-- Placed start of the boundary in 0.25 ps of device time (R151). -/
def Play.startQ (p : Play) : Nat := p.origin / 8 + p.gStart / 8

/-- LEVELS (R126, R188, R189). -/
def State.playLevels (s : State) (n l : Nat) : State :=
  let p := s.playOf n
  if p.levels = l then s
  else
    let s := s.updPlay n (fun p => { p with levels := l })
    (s.each (s.siteChans n) (fun t c => t.setLevels c l p.startQ)).chargeRaise n

/-- FLAG (R124). -/
def State.playFlag (s : State) (n m : Nat) : State :=
  let v := (s.playOf n).vec
  let s := s.each ((bitList 9 m).filter (fun i => i != 2 && i != 3)) (fun t i => t.putFlag n i false)
  s.updPlay n (fun p => { p with
    failFrom := if m.testBit 0 then v else p.failFrom
    matchFrom := if m.testBit 1 then v else p.matchFrom })

/-- XLMARK (R321). -/
def State.playXlmark (s : State) (n act grp arg : Nat) : State :=
  let p := s.playOf n
  let a : LaneAct := { act := act, arg := arg, tb := (p.origin + p.gStart) / 32000 }
  s.each (List.range 128) (fun t l =>
    if t.is (F.XL_n_BIND_OWNED l) && t.get (F.XL_n_BIND_SITE l) == n && t.get (F.XL_n_BIND_GROUP l) == grp
    then t.updLane l (fun x => { x with acts := x.acts ++ [a] }) else t)

/-- The fall-through path waits no longer at a TRANSIT. -/
def State.passWait (s : State) (n : Nat) : State :=
  let x := (s.seqOf n).main
  if x.stop = .wait then s.leave n none { x with stop := .none } else s

/-- An effect takes effect at the boundary. -/
def State.playEff (s : State) (n : Nat) (i : Item) (e : Eff) : State :=
  let upd := fun f => s.updPlay n f
  match e with
  | .tset t => (upd (fun p => { p with tset := t })).chargeRaise n
  | .levels l => s.playLevels n l
  | .captMark tag => upd (fun p => { p with pendMarks := p.pendMarks ++ [tag] })
  | .captEnable => upd (fun p => { p with pendCapt := some true })
  | .captDisable => upd (fun p => { p with pendCapt := some false })
  | .captTrig => upd (fun p => { p with pendTrig := true })
  | .sigSched k => s.signalSched n k
  | .sigDoorbell k => s.doorbell k
  | .flagClr m => s.playFlag n m
  | .xlmark a g arg => s.playXlmark n a g arg
  | .vecShort k => (s.addSat (R.SEQ_CTX_n_VEC_SHORT n) k).put (F.SEQ_CTX_n_EVENT_VEC_SHORT n) 1
  | .endlEmpty => (s.bump (R.SEQ_CTX_n_ENDL_EMPTY n)).put (F.SEQ_CTX_n_EVENT_ENDL_EMPTY n) 1
  | .halt code => (s.stacksShow n i.loops i.calls).haltSite n code (i.drw, i.idx) false
  | .fault code poison => (s.stacksShow n i.loops i.calls).haltSite n code (i.drw, i.idx) poison
  | .jmpc f ng d g ls cs => s.openDecision n { flag := f, neg := ng, key := .target d g, loops := ls, calls := cs }
  | .matchWait span passes drw len base mask comp tidx =>
    let s := s.putFlag n 1 false
    s.updPlay n (fun p => { p with
      matchFrom := p.vec
      wait := .mat span passes 1 0 drw len base mask comp i.idx tidx none })
  | .waitCore clear sel tmo tidx =>
    let s := s.updSite n (fun x => { x with coreNotice := none })
    s.updPlay n (fun p => { p with wait := .core clear sel tmo p.gStart i.idx tidx 0 none })
  | .transit scope tmo =>
    let s := (s.passWait n).updPlay n (fun p => { p with trAt := (i.drw, i.idx) })
    if (s.playOf n).inFrame = 0 then s.transitStop n scope tmo
    else s.updPlay n (fun p => { p with wait := .trFill scope tmo })
  | .depths l c =>
    let t := s.stacksShow n i.loops i.calls
    if 8 < l then t.haltSite n hcLoopNest (i.drw, i.idx) false
    else if 16 < c then t.haltSite n hcStackOver (i.drw, i.idx) false
    else s
  | .step => s

/-- Play is at a granule: it runs, and no wait holds it. -/
def State.effOpen (s : State) (n : Nat) : Bool := s.playing n && (s.playOf n).wait == .none

/-- The effects at the front of the play queue take effect, in program order, up to the next granule, a wait or a halt. -/
def runEffects (n : Nat) : Nat → State → State
  | 0, s => s
  | k + 1, s =>
    match (s.seqOf n).main.items with
    | [] => s
    | i :: is =>
      match i.body with
      | .eff e =>
        if s.effOpen n then
          let s := s.updSeq n (fun c => { c with
            main := { c.main with items := is }
            play := { c.play with instr := i.tag } })
          runEffects n k (s.playEff n i e)
        else s
      | _ => s

/-- All effects of a boundary. CORE and XL_EVENT values of the decisions opened there include every set or clear that takes
effect at that instant (R128). -/
def State.effects (s : State) (n : Nat) : State :=
  let old := (s.playOf n).decs.length
  let t := runEffects n (s.seqOf n).main.items.length s
  let t := t.when (t.playing n) (fun t => t.updPlay n (fun p => { p with decs := p.decs.zipIdx.map (fun d =>
    if old ≤ d.2 && 4 ≤ d.1.flag then { d.1 with other := t.flag n d.1.flag } else d.1) }))
  t.setsShow n

/-! ## A granule begins (R31 to R34, R99, R110, R150, R151, R495) -/

/-- The bytes of a stream from position `pos`. -/
def fifoTake (segs : List Seg) (pos len : Nat) : List Byte :=
  segs.foldl (fun (acc : List Byte) g =>
    let p := pos + acc.length
    if acc.length < len && g.pos ≤ p && p < g.pos + g.data.length
    then acc ++ ((g.data.drop (p - g.pos)).take (len - acc.length)) else acc) []

/-- The segments with what lies before position `pos` removed. -/
def fifoDrop (segs : List Seg) (pos : Nat) : List Seg :=
  segs.filterMap (fun g =>
    if g.pos + g.data.length ≤ pos then none
    else if pos ≤ g.pos then some g
    else some { g with pos := pos, data := g.data.drop (pos - g.pos) })

/-- Cut a list of bytes into slabs of 96 bytes. -/
def slabsOf : Nat → List Byte → List (List Byte)
  | 0, _ => []
  | k + 1, l => l.take 96 :: slabsOf k (l.drop 96)

/-- The slabs of granule `g` of a drawer for a site of `b` octets, as memory holds them. -/
def State.slabsAt (s : State) (e : DirEnt) (b g : Nat) : List (List Byte) :=
  (List.range (fetchedRanks e b)).map (fun i => s.rdBytes (e.base + 96 * (g * e.octets + i)) 96)

/-- The HBM slabs of a granule are taken from the FIFO; answers them with the ranks delivered as K. -/
def State.takeSlabs (s : State) (n st : Nat) (e : DirEnt) (g : Nat) (lost : Bool) : List (List Byte) × List Nat × State :=
  let b := (s.siteOf n).octs.length
  let ranks := bitList b e.mask
  let x := Tab.get {} (s.strmOf n).streams st
  let len := granBytes e b
  let bad := x.segs.flatMap (·.bad)
  let ks := ranks.zipIdx.filterMap (fun p =>
    if bad.any (fun q => x.base + 96 * p.2 ≤ q && q < x.base + 96 * (p.2 + 1)) then some p.1 else none)
  let slabs := if lost then s.slabsAt e b g else slabsOf ranks.length (fifoTake x.segs x.base len)
  let y : Strm := { base := x.base + len, req := max x.req (x.base + len), segs := fifoDrop x.segs (x.base + len) }
  (slabs, if lost then [] else ks, (s.updStrm n (fun z => { z with streams := Tab.ins st y z.streams })).fillShow n)

/-- The clusters of the site play a set: the slot's use is noted, and a DIRTY_COPY slot that plays spoils the run (R176). -/
def State.useSet (s : State) (n t : Nat) : State :=
  s.each (s.siteClus n) (fun u k =>
    match u.ecFind k n t with
    | none => u
    | some i =>
      let u := u.touchSlot k i
      u.when (u.is (F.CLU_k_EC_SLOT_i_DIRTY_COPY k i)) (fun v =>
        (v.invalidate n causeTset).put (F.TSET_SITE_n_STATUS_DIRTY_USE n) 1))

/-- What the vectors of a granule that drives the pins mean for the run: raced drawers, slabs delivered as K, the safe
state, an invalid reference (R25, R53, R99, R213). -/
def State.vectorsPlayed (s : State) (n : Nat) (g : Gran) : State :=
  let s := s.useSet n g.tset
  let s := match (if g.hold then none else s.artOf n g.drw) with
    | none => s
    | some i =>
      let s := s.put (F.DRW_ART_n_PLAYING i) 1
      s.when (s.is (F.DRW_ART_n_RACED i)) (fun t => (t.invalidate n causeRace).put F.DRW_EVENT_GUARD_RACE 1)
  let s := if g.bad.isEmpty then s else (s.addSat R.MEMC_ECC_UE_PLAYED g.bad.length).invalidate n causeEcc
  let s := s.when s.pinsHeld (fun t => t.invalidate n causeLevels)
  s.when (!s.siteRefValid n) (fun t => t.invalidate n causeRef)

/-- A granule begins: it gets its number, its times and its sets, its edges are queued, and it waits to be judged. `prog`: a
granule of the program, which counts toward shadows; not one of a pause or a repeated frame. -/
def State.startGran (s : State) (n : Nat) (g : Gran) (prog : Bool) : State :=
  let p := s.playOf n
  let clus := s.siteClus n
  let per := s.sitePer n g.tset
  let pers := clus.map (fun k => s.cluPer k n g.tset)
  let g := { g with
    vnum := p.vec
    start := p.gStart
    per := per
    grid := pers.zipIdx.map (fun q => (p.grid.getD q.2 p.gStart, q.1))
    origin := p.origin
    base := p.base
    levels := p.levels
    ents := (s.siteChans n).map (fun c => s.playEnt n g.tset c)
    frame0 := p.inFrame == 0 || g.frame0
    trig := prog && p.pendTrig
    captSet := if prog then p.pendCapt else none
    marks := if prog then p.pendMarks else []
    originRec := p.originAt }
  let s := s.fireSite n (some p.startQ)
  let s := if g.lost ∨ g.paused then s else (s.vectorsPlayed n g).queueEdges n g
  let dur := 32 * per
  let strobe : Int := match s.cMax n g.tset with
    | none => 0
    | some c => (8 * c : Int) - (per : Int)
  let s := s.updPlay n (fun p => { p with
    nGran := p.nGran + 1
    inFrame := if prog then p.inFrame + 1 else p.inFrame
    gStart := p.gStart + dur
    grid := g.grid.map (fun q => q.1 + 32 * q.2)
    cur := some g
    thisFrame := if prog then p.thisFrame ++ [g] else p.thisFrame
    judging := p.judging ++ [g]
    originAt := none
    pendTrig := p.pendTrig && !prog
    pendMarks := if prog then [] else p.pendMarks
    pendCapt := if prog then none else p.pendCapt
    lastProg := if prog then p.vec + 32 else p.lastProg
    strobe := if prog then strobe else p.strobe
    decs := if prog then p.decs.map (fun d => { d with left := d.left - dur }) else p.decs
    taken := if prog then p.taken.map (fun t => { t with left := t.left - dur }) else p.taken
    wait := if prog then (match p.wait with
      | .mat sp ps pa gr dr ln ba ms co ix ti ex => .mat sp ps pa gr dr ln ba ms co ix ti (ex.map (· - dur))
      | .core cl se tm t0 ix ti ct ex => .core cl se tm t0 ix ti ct (ex.map (· - dur))
      | w => w) else p.wait })
  s.when (!g.hold) (fun t => (t.putN (R.SEQ_CTX_n_PLAY_DRW n) g.drw).putN (R.SEQ_CTX_n_PLAY_GRAN n) g.gran)

/-- Granule `g` of a drawer. -/
def drawerGran (e : DirEnt) (b g : Nat) (slabs : List (List Byte)) (bad : List Nat) : Gran :=
  { drw := e.id
    gran := g
    hold := false
    comp := e.type == 3
    resBase := e.base + e.dataSize
    octets := e.octets
    mask := e.mask
    ranks := bitList b e.mask
    slabs := slabs
    bad := bad }

/-- The front granule of the play queue is taken: the granule, and the state without it. -/
def State.popGran (s : State) (n : Nat) (lost : Bool) : Option (Gran × State) :=
  let b := (s.siteOf n).octs.length
  match (s.seqOf n).main.items with
  | [] => none
  | i :: is =>
    let rest := fun (body : Option ItemBody) (pad : Bool) => s.updSeq n (fun c => { c with
      main := { c.main with items := match body with
        | none => is
        | some x => { i with body := x } :: is }
      play := { c.play with instr := if pad then c.play.instr else i.tag } })
    match i.body with
    | .run st g m e =>
      let s := rest (if m ≤ 1 then none else some (.run st (g + 1) (m - 1) e)) false
      if e.shelf then some ({ drawerGran e b g (s.slabsAt e b g) [] with loops := i.loops }, s)
      else
        let (slabs, bad, s) := s.takeSlabs n st e g lost
        some ({ drawerGran e b g slabs bad with loops := i.loops }, s)
    | .hold m pad =>
      let s := rest (if m ≤ 1 then none else some (.hold (m - 1) pad)) pad
      some ({ loops := i.loops }, s.when pad (fun t =>
        (t.bump (R.SEQ_CTX_n_SHADOW_PAD n)).put (F.SEQ_CTX_n_EVENT_SHADOW_PAD n) 1))
    | .eff _ => none

/-- The granule that plays next in the program: of a wait, or of the play queue; a hold granule where nothing is resolved. -/
def State.nextGran (s : State) (n : Nat) (lost : Bool) : Gran × State :=
  let b := (s.siteOf n).octs.length
  match (s.playOf n).wait with
  | .mat sp ps pass g drw len base mask comp idx tidx ex =>
    let e : DirEnt := { id := drw, base := base, len := len, type := if comp then 3 else 1, mask := mask }
    let last := len ≤ g + 1
    (drawerGran e b g (s.slabsAt e b g) [], s.updPlay n (fun p => { p with
      wait := .mat sp ps (if last then pass + 1 else pass) (if last then 0 else g + 1) drw len base mask comp idx tidx ex }))
  | .core cl sel tmo t0 idx tidx cnt ex => ({}, s.updPlay n (fun p => { p with wait := .core cl sel tmo t0 idx tidx (cnt + 1) ex }))
  | .none => (s.popGran n lost).getD ({}, s)
  | _ => ({}, s)

/-- The effects of a boundary take effect, and the next granule of the program begins unless the site stops there. -/
def State.beginProg (s : State) (n : Nat) : State :=
  let s := (s.effects n).tryMerge n
  let p := s.playOf n
  match p.wait with
  | .trStop _ _ _ => s
  | _ =>
    if s.playing n then
      let lost := p.fmode == .lost
      let s := match p.wait, (s.seqOf n).main.items with
        | .none, i :: _ => s.stacksShow n i.loops i.calls
        | _, _ => s
      let (g, s) := s.nextGran n lost
      s.startGran n { g with tset := p.tset, lost := lost } true
    else s

/-- The next granule of a paused or repeated frame begins. -/
def State.beginRep (s : State) (n : Nat) : State :=
  match (s.playOf n).rep with
  | [] => s
  | g :: rest => (s.updPlay n (fun p => { p with rep := rest })).startGran n { g with frame0 := rest.length == 15 } false

/-! ## Waits at the end of a granule (R134, R136, R281) -/

/-- Length of the shadow of a WAITCORE in 1/32 ps, and of its hold granules. -/
def State.coreTimes (s : State) (n : Nat) : Nat × Nat := (s.needNow n 4 (s.onSpan n), 32 * s.sitePer n (s.playOf n).tset)

/-- A wait ends normally or by timeout: `left` of the shadow remains, and the continuation joins (R134, R136). -/
def State.exitWait (s : State) (n left : Nat) (late : Bool) : State :=
  let c := s.seqOf n
  let close := fun (idx tidx : Nat) (w : Wait) (pre : List Item) =>
    let s := s.updPlay n (fun p => { p with wait := w, decs := [] })
    let s := if late then s.put (F.SEQ_CTX_n_EVENT_TIMEOUT n) 1 else s.bump (R.SEQ_CTX_n_TAKEN n)
    s.join n pre (.cont c.main.ent.id (if late then tidx else idx + 1)) c.main.loops c.main.calls
  match c.play.wait with
  | .mat sp ps pa g drw len base mask co idx tidx none => close idx tidx (.mat sp ps pa g drw len base mask co idx tidx (some left)) []
  | .core cl sel tmo t0 idx tidx cnt none =>
    close idx tidx (.core cl sel tmo t0 idx tidx cnt (some left))
      (if cl then [{ drw := c.main.ent.id
                     idx := idx
                     body := .eff (.flagClr (2 ^ (4 + sel)))
                     loops := c.main.loops.map (·.count)
                     calls := c.main.calls
                     tag := c.play.instr }] else [])
  | _ => s

/-- The number of the hold granule at whose end a WAITCORE times out. -/
def coreLimit (tmo dur : Nat) : Nat := max 1 (ceilDiv (32000000 * tmo) dur)

/-- The time left of the shadow of a WAITCORE that times out at this boundary. -/
def State.coreTimeout (s : State) (n : Nat) : Option Nat :=
  match (s.playOf n).wait with
  | .core _ _ tmo _ _ _ cnt none =>
    let (need, dur) := s.coreTimes n
    if tmo ≠ 0 ∧ coreLimit tmo dur ≤ cnt then some (need - (cnt - coreLimit tmo dur) * dur) else none
  | _ => none

/-- The CORE flag decides on this chip: the site is stand-alone or the primary (R136). -/
def State.coreHere (s : State) (n : Nat) : Bool := (s.siteOf n).role != 2

/-- WAITCORE_SAMPLE (R136, R281) at the end of a hold granule: the flag, or on a member the notice of the primary. -/
def State.coreSample (s : State) (n : Nat) : State :=
  match (s.playOf n).wait with
  | .core _ sel _ _ _ _ cnt none =>
    if cnt = 0 then s
    else
      let (need, dur) := s.coreTimes n
      if s.coreHere n then
        if s.flag n (4 + sel) then
          let s := s.when (s.onSpan n) (fun t => t.spanCast n 1
            [t.spanIdxBlock n ((t.siteOf n).seqNo % 2 ^ 16 * 2 ^ 24 + t.num (R.SEQ_CTX_n_FLAGS n) % 512), cnt % 2 ^ 32])
          s.exitWait n need false
        else s
      else
        match (s.siteOf n).coreNotice with
        | some (_, true) => s.exitWait n 0 false
        | some (k, false) => if k ≤ cnt then s.exitWait n (need - (cnt - k) * dur) false else s
        | none => s
  | _ => s

/-- After each granule of a MATCHWAIT loop a decision opens on its last vector (R134). -/
def State.matchSample (s : State) (n : Nat) : State :=
  match (s.playOf n).wait with
  | .mat span passes pass g _ _ _ _ _ _ _ none =>
    let p := s.playOf n
    let over_ := p.decs.any (fun d => d.wait && d.last)
    let started := !(pass == 1 && g == 0)
    if started ∧ !over_ then
      s.openDecision n { flag := if span then 3 else 1, wait := true, last := passes != 0 && pass == passes + 1 && g == 0 }
    else s
  | _ => s

/-- What ends with the granule before the boundary; none where the boundary cannot pass yet, because a decision or a timeout
is due. -/
def State.endGranule (s : State) (n : Nat) : Option State :=
  if (s.playOf n).decs.any (fun d => d.left == 0) then none
  else
    let s := s.coreSample n
    let late := match s.coreTimeout n with
      | some left => s.coreHere n || left == 0
      | none => false
    if late then none
    else
      let s := s.matchSample n
      let s := match (s.playOf n).wait with
        | .mat _ _ _ _ _ _ _ _ _ _ _ (some 0) => s.updPlay n (fun p => { p with wait := .none })
        | .core _ _ _ _ _ _ _ (some 0) => s.updPlay n (fun p => { p with wait := .none })
        | _ => s
      some (s.tryMerge n)

/-! ## Boundaries -/

/-- A halt that the program does not cause takes place at this boundary, unless the program halts the site here (R143). -/
def State.asyncNow (s : State) (n : Nat) (frame : Bool) : Option Nat :=
  if s.effOpen n && (s.playOf n).rep.isEmpty && haltsNow (s.seqOf n).main.items then none else s.asyncCode n frame

/-- The program plays its next frame, or loses it. -/
def State.progFrame (s : State) (n : Nat) (lost : Bool) : State :=
  let s := s.updPlay n (fun p => { p with
    fmode := if lost then .lost else .normal
    inFrame := 0
    thisFrame := [] })
  let s := s.artSweep n (s.artIds n)
  let first := (s.playOf n).nGran == 0
  let s := s.beginProg n
  if s.playing n then
    (s.updPlay n (fun p => { p with frames := p.frames + 1 })).when (!first) (fun t => t.bump (R.STRM_SITE_n_FRAME n))
  else s

/-- A frame is starved: the counters of R78 to R83. -/
def State.starved (s : State) (n pol : Nat) : State :=
  let k := (s.playOf n).frames
  let s := s.bump R.STRM_STARVE_TOTAL
  let s := s.when (s.num (R.STRM_SITE_n_FIRST_STARVE n) == 0xFFFFFFFF) (fun t => t.putN (R.STRM_SITE_n_FIRST_STARVE n) k)
  if pol = 1 then (s.bump (R.STRM_SITE_n_SLIP_CNT n)).put F.STRM_EVENT_SLIP_REPEAT 1
  else
    let s := ((s.bump (R.STRM_SITE_n_STARVE_CNT n)).put F.STRM_EVENT_STARVE 1).invalidate n causeStarved
    s.when (pol == 2) (fun t => (t.bump (R.STRM_SITE_n_REPEAT_CNT n)).put F.STRM_EVENT_SLIP_REPEAT 1)

/-- The sets of the 16 granules of the next frame as programmed; where they are not resolved, the set last known. -/
def State.nextSets (s : State) (n : Nat) : List Nat :=
  let p := s.playOf n
  let l := ((continuations s n).headD ([], false)).1
  let ts := (needs (s.siteOf n).octs.length 16 p.tset l).1.map (·.tset)
  ts ++ List.replicate (16 - ts.length) (ts.getLastD p.tset)

/-- A frame time passes in which the program stands: a pause, a repeated frame, or the hold of F_0 (R79, R81). -/
def State.standFrame (s : State) (n pol : Nat) : State :=
  let p := s.playOf n
  let first := p.nGran == 0
  let rep := if pol = 2 ∧ !p.thisFrame.isEmpty then p.thisFrame.map (fun g => { g with frame0 := false, originRec := none })
    else (s.nextSets n).map (fun t => { tset := t, paused := true : Gran })
  let s := s.updPlay n (fun p => { p with
    fmode := if pol = 1 then .pause else if p.thisFrame.isEmpty then .hold0 else .repeat_
    rep := rep })
  let s := s.when (!first) (fun t => t.bump (R.STRM_SITE_n_FRAME n))
  s.beginRep n

/-- FRAME_BOUNDARY (R58, R78 to R83, R175): the next frame is released to the pins, or what its policy puts in its place. -/
def frameBoundary (n : Nat) (s : State) : State :=
  let p := s.playOf n
  if s.playing n ∧ p.on ∧ p.rep = [] ∧ p.inFrame = 16 then
    match s.endGranule n with
    | none => s
    | some s =>
      match s.asyncNow n true with
      | some code => s.asyncHalt n code
      | none =>
        let s := s.replaceStaged n (fun x => x.stAfter == 1)
        let s := match (s.playOf n).wait with
          | .trFill scope tmo => s.transitStop n scope tmo
          | _ => s
        if s.playing n then
          let ready := match (s.strmOf n).nextReady with
            | some v => v
            | none => let r := framesReady s n 0 16; r.1 && r.2
          let pol := (s.strmOf n).policy
          let s := s.updStrm n (fun x => { x with nextReady := none })
          if ready then s.progFrame n false
          else if pol = 0 then (s.starved n 0).progFrame n true
          else (s.starved n pol).standFrame n pol
        else s
  else s

/-- GRANULE_BOUNDARY (R110): a granule boundary inside a frame. -/
def granuleBoundary (n : Nat) (s : State) : State :=
  let p := s.playOf n
  if s.playing n ∧ p.on ∧ (p.rep ≠ [] ∨ p.inFrame < 16) then
    if p.rep ≠ [] then
      match s.asyncCode n false with
      | some code => s.asyncHalt n code
      | none => s.beginRep n
    else
      match s.endGranule n with
      | none => s
      | some s =>
        match s.asyncNow n false with
        | some code => s.asyncHalt n code
        | none => s.beginProg n
  else s

/-! ## Decisions (R128, R131, R134, R140) -/

/-- The value of the flag that a decision uses; none while it is not known. -/
def State.decValue (s : State) (n : Nat) (d : Decision) : Option Bool :=
  if !d.known (s.playOf n) then none
  else if d.seq.isSome then d.comb
  else if d.flag = 0 ∨ d.flag = 2 then some d.fail
  else if d.flag = 1 ∨ d.flag = 3 then some d.mtch
  else some d.other

/-- A decision on SPAN_FAIL or SPAN_MATCH shows in SEQ_CTX_n_FLAGS (R120, R280). -/
def State.showSpanFlag (s : State) (n : Nat) (d : Decision) (v : Bool) : State :=
  s.when (d.flag == 2 || d.flag == 3) (fun t => t.putFlag n d.flag v)

/-- BRANCH_DECISION (R128): the oldest open decision is taken. -/
def branchDecision (n : Nat) (s : State) : State :=
  let p := s.playOf n
  match p.decs with
  | [] => s
  | d :: rest =>
    match s.decValue n d with
    | none => s
    | some v =>
      if d.wait then
        if v then (s.showSpanFlag n d v).exitWait n d.left false
        else if d.last then s
        else (s.showSpanFlag n d v).updPlay n (fun p => { p with decs := rest })
      else
        let s := s.showSpanFlag n d v
        if v != d.neg then
          let s := s.bump (R.SEQ_CTX_n_TAKEN n)
          let t : Taken := { left := d.left, key := d.key, loops := d.loops, calls := d.calls }
          (s.updPlay n (fun p => { p with decs := [], taken := some t })).tryMerge n
        else (s.updPlay n (fun p => { p with decs := rest })).gc n

/-- MATCHWAIT_TIMEOUT (R134): the decision on the last granule of pass PASSES does not find the flag set. -/
def matchwaitTimeout (n : Nat) (s : State) : State :=
  match (s.playOf n).decs with
  | [] => s
  | d :: _ =>
    if d.wait ∧ d.last ∧ s.decValue n d = some false then (s.showSpanFlag n d false).exitWait n d.left true else s

/-- WAITCORE_TIMEOUT (R136): a sample at or after TIMEOUT does not find the flag set. -/
def waitcoreTimeout (n : Nat) (s : State) : State :=
  if s.playing n then
    let t := s.coreSample n
    match t.coreTimeout n with
    | some left => t.exitWait n left true
    | none => s
  else s

/-! ## GO and the aligned resume (R151, R272, R275) -/

/-- Play begins at the present: the first vector starts at T_go. -/
def State.startPlay (s : State) (n : Nat) : State :=
  let s := s.setSiteState n stRunning
  let at_ := 32000 * s.now
  let strobe : Int := match s.cMax n (s.playOf n).tset with
    | none => 0
    | some c => (8 * c : Int) - (s.sitePer n (s.playOf n).tset : Int)
  (s.updPlay n (fun p => { p with
    on := true
    origin := at_
    gStart := 0
    grid := (s.siteClus n).map (fun _ => 0)
    inFrame := 16
    strobe := strobe
    originAt := some s.now })).setsShow n

/-- Play resumes at the present after a barrier: a frame boundary follows. -/
def State.resumePlay (s : State) (n : Nat) : State :=
  ((s.setSiteState n stRunning).updPlay n (fun p => { p with wait := .none })).newOrigin n (32000 * s.now)

/-! ## Meanings -/

def execFrameBoundary (n : Site) (s : State) : Host.Outcome State Fault Refusal := .next (frameBoundary n.val s)
def execGranuleBoundary (n : Site) (s : State) : Host.Outcome State Fault Refusal := .next (granuleBoundary n.val s)
def execBranchDecision (n : Site) (s : State) : Host.Outcome State Fault Refusal := .next (branchDecision n.val s)
def execMatchwaitTimeout (n : Site) (s : State) : Host.Outcome State Fault Refusal := .next (matchwaitTimeout n.val s)
def execWaitcoreTimeout (n : Site) (s : State) : Host.Outcome State Fault Refusal := .next (waitcoreTimeout n.val s)
def execSeqAbort (n : Site) (s : State) : Host.Outcome State Fault Refusal := .next (seqAbort n.val s)

end Sys2Proof.Machine
end

