-- ==== Sys2Proof/Machine/Gov.lean ====
section
/-!
DEFINITION. The power and thermal governor (chapter 15): the evaluation of every 10 µs, admission of sites, thresholds and
the class that the scheduler may dispatch. Powers are compared in µW; registers show 0.1 W.
-/

namespace Sys2Proof.Machine

/-! ## Temperatures -/

/-- The hottest diode reading in 0.125 °C (R456). -/
def State.hottest (s : State) : Int :=
  (List.range 63).foldl (fun m i => max m (sext 12 (s.get (F.MGS_DIODE_i_TEMP (i + 1))))) (sext 12 (s.get (F.MGS_DIODE_i_TEMP 0)))

/-- Coolant temperature in °C. -/
def State.tcool (s : State) : Int := sext 8 (s.get F.GOV_THERM_ENV_TCOOL)

/-- Steady-state temperature in °C at a power in µW (R393). -/
def State.tss (s : State) (p : Nat) : Rat := s.tcool + (s.get F.GOV_THERM_RTH_RTH * p : Nat) / (10 ^ 9 : Rat)

/-- Tj_m is set, and GOV_TJ shows it. -/
def State.setTj (s : State) (t : Rat) : State :=
  let s := { s with gov := { s.gov with tj := t } }
  let r := s.roundFree 8 t.num t.den
  r.2.put F.GOV_TJ_MODEL (toBits 8 r.1)

/-- Tj_m is raised to the hottest diode reading if that is higher (R392), and GOV_TJ.MEAS shows the hottest reading. -/
def State.tjRaise (s : State) : State :=
  let h : Rat := s.hottest / (8 : Rat)
  let s := if s.gov.tj < h then s.setTj h else s
  s.put F.GOV_TJ_MEAS (s.get F.MGS_TEMP_MAX)

/-- Bounds of e^(−p/q) for p ≤ q / 2 in units of 2^-64: partial sums of the alternating series. Answers a lower and an upper
bound after `n` pairs of terms from term `i`, whose magnitude lies between `tl` and `th`. -/
def expSeries (p q : Nat) : Nat → Nat → Nat → Nat → Int × Int
  | 0, _, _, th => (-(th : Int), th)
  | n + 1, i, tl, th =>
    let r := expSeries p q n (i + 1) (tl * p / (q * (i + 1))) (ceilDiv (th * p) (q * (i + 1)))
    if i % 2 = 0 then (tl + r.1, th + r.2) else (r.1 - th, r.2 - tl)

/-- Bounds of e^(−x) for x = p / q in units of 2^-64: the argument is halved `k` times and the result squared as often. -/
def expBounds (p q : Nat) : Nat → Nat × Nat
  | 0 =>
    let r := expSeries p q 20 0 (2 ^ 64) (2 ^ 64)
    (r.1.toNat, r.2.toNat)
  | k + 1 =>
    let r := expBounds p (2 * q) k
    (r.1 * r.1 / 2 ^ 64, ceilDiv (r.2 * r.2) (2 ^ 64))

/-- Tj_pred at a power in µW after `ms` milliseconds is at most 105 °C (R393): the answer, or none where the bounds of the
exponential do not decide it. -/
def State.burstCool (s : State) (p ms : Nat) : Option Bool :=
  let tau := s.get F.GOV_THERM_ENV_TAU
  let e := expBounds ms tau (Nat.log2 (ms / (tau + 1) + 1) + 2)
  let a := s.tss p - 105
  let b := s.tss p - s.gov.tj
  let lo : Rat := e.1 / (2 ^ 64 : Rat)
  let hi : Rat := e.2 / (2 ^ 64 : Rat)
  if a ≤ min (b * lo) (b * hi) then some true
  else if max (b * lo) (b * hi) < a then some false
  else none

/-! ## Admission (R394, R395) -/

/-- P_gov in µW (R387). -/
def State.pGov (s : State) : Nat := max (s.get F.GOV_PWR_MODEL_P) (s.get F.GOV_PWR_SENSE_P) * 100000

/-- GOV_PWR_CHARGED in µW, before it is rounded for the register. -/
def State.pCharged (s : State) : Nat :=
  s.get F.GOV_BASE_PWR_P * 100000 + (s.gov.sites.map (fun p => p.2.charge)).sum

/-- Site `n` asks for admission: it is STARTING without it, or a resume waits for it. -/
def State.wants (s : State) (n : Nat) : Bool :=
  (s.siteState n == stStarting && s.get (F.GOV_SITE_n_STATUS_STATE n) != 2) ||
  (s.siteState n == stWait && (s.govOf n).resume)

/-- What a request would add to the charge, in µW (R394). -/
def State.deltaP (s : State) (n : Nat) : Nat :=
  if (s.govOf n).resume then s.chargeNow n - (s.govOf n).charge else s.chargeNow n

/-- The outcome of a request. -/
inductive Admit where
  | wait
  | allow
  | burst
  deriving DecidableEq, Repr

/-- The rules of R394 for a request that nothing precedes. -/
def State.decide394 (s : State) (n : Nat) : Admit × State :=
  let d := s.deltaP n
  let p := max s.pGov s.pCharged + d
  if s.is F.GOV_STATUS_ADMIT_HOLD ∧ !(s.govOf n).resume then (.wait, s)
  else if (s.govOf n).resume ∧ d = 0 then (.allow, s)
  else if p ≤ s.get F.GOV_BUDGET_BUDGET * 100000 then (.allow, s)
  else if p ≤ s.get F.GOV_PEAK_PEAK * 100000 ∧ (s.govOf n).dur ≠ 0 then
    match s.burstCool p (s.govOf n).dur with
    | some true => (.burst, s)
    | some false => (.wait, s)
    | none =>
      let r := s.freeBits 1
      (if r.1 = 1 then .burst else .wait, r.2)
  else (.wait, s)

/-- GOV_SITE_n_WAIT counts the whole µs waited so far. -/
def State.waited (s : State) (n : Nat) : State :=
  let us := (s.now - (s.govOf n).waitT) / 1000
  (s.addSat (R.GOV_SITE_n_WAIT n) us).updGov n (fun g => { g with waitT := g.waitT + 1000 * us })

/-- The request of site `n` is granted: it holds its charge, and a resume reports its arrival (R275, R277, R394). -/
def State.grant (s : State) (n : Nat) (burst : Bool) : State :=
  let g := s.govOf n
  let s := (s.put (F.GOV_SITE_n_STATUS_STATE n) 2).when burst (fun t => t.put (F.GOV_SITE_n_STATUS_BURST n) 1)
  let s := s.setCharge n (max g.charge (s.chargeNow n))
  let s := s.updGov n (fun g => { g with resume := false, since := s.now })
  if g.resume then
    match (s.playOf n).wait with
    | .trStop scope _ _ => s.transitArrive n scope
    | _ => s
  else s

/-- The queue with a request put in its place: in order of arrival, requests of one evaluation by site number (R395). -/
def State.queueAt (s : State) (n : Nat) : List Nat → List Nat
  | [] => [n]
  | m :: l =>
    if (s.govOf m).arr < s.gov.evals ∨ ((s.govOf m).arr = s.gov.evals ∧ m < n) then m :: s.queueAt n l else n :: m :: l

/-- The request waits; it counts once (R395). -/
def State.admitWait (s : State) (n : Nat) : State :=
  let s := (s.put (F.GOV_SITE_n_STATUS_STATE n) 1).bump R.GOV_ADMIT_WAIT_CNT
  let q := s.queueAt n s.gov.queue
  { s with gov := { s.gov with queue := q } }.updGov n (fun g => { g with arr := s.gov.evals, waitT := s.now })

/-- Requests whose site no longer asks leave the queue. -/
def State.govPrune (s : State) : State :=
  let out := s.gov.queue.filter (fun n => !s.wants n)
  let s := s.each out (fun t n => t.when (t.get (F.GOV_SITE_n_STATUS_STATE n) == 1) (fun u => u.put (F.GOV_SITE_n_STATUS_STATE n) 0))
  { s with gov := { s.gov with queue := s.gov.queue.filter (fun n => !out.contains n) } }

/-- ADMISSION_REQUEST (R394, R395): no request is admitted ahead of an earlier one that waits. -/
def admissionRequest (n : Nat) (s : State) : State :=
  let s := s.govPrune
  if s.wants n ∧ !s.gov.queue.contains n then
    if s.gov.queue.isEmpty then
      match s.decide394 n with
      | (.allow, s) => s.grant n false
      | (.burst, s) => s.grant n true
      | (.wait, s) => s.admitWait n
    else s.admitWait n
  else s

/-- Waiting requests in order, up to the first that must still wait (R395). -/
def govAdmit : List Nat → State → State
  | [], s => s
  | n :: l, s =>
    let go := fun (s : State) (b : Bool) =>
      govAdmit l (({ s with gov := { s.gov with queue := s.gov.queue.filter (· != n) } }.waited n).grant n b)
    match s.decide394 n with
    | (.allow, s) => go s false
    | (.burst, s) => go s true
    | (.wait, s) => (n :: l).foldl (fun t m => t.waited m) s

/-! ## The evaluation (R387 to R399) -/

/-- Sensed power of the 40 rails in µW (R387, R456). -/
def State.sensed (s : State) : Nat :=
  ((List.range 40).map (fun r =>
    s.get (F.MGS_VMON_v_MV r) * s.get (F.MGS_RAIL_r_I_CURRENT r) * (if r < 8 then 10 else 1))).sum

/-- GOV_PWR_MODEL, GOV_PWR_SENSE, GOV_BASE_PWR and GOV_PWR_CHARGED (R387). The spec gives the maxima of the model's terms and no
formula: the model's total is a free value up to 159 W, and its part that belongs to no site a free value up to the total. -/
def State.powers (s : State) : State :=
  let r := s.freeBits 32
  let m := r.1 % 1591
  let b := r.2.freeBits 32
  let s := (b.2.putN R.GOV_PWR_MODEL m).putN R.GOV_BASE_PWR (b.1 % (m + 1))
  let q := s.roundFree 16 s.sensed 100000
  (q.2.putN R.GOV_PWR_SENSE (min 0xFFFF q.1.toNat)).chargedShow

/-- Model and sensed power are within tolerance (R388). -/
def State.xchkOk (s : State) : Bool :=
  let m := s.get F.GOV_PWR_MODEL_P
  let e := s.get F.GOV_PWR_SENSE_P
  100 * ((m - e) + (e - m)) ≤ s.get F.GOV_XCHK_CFG_TOL * e

/-- Evaluations in a row out of and within tolerance; XCHK_BAD clears after 100 within it (R388). -/
def State.xchkCount (s : State) : State :=
  let g := s.gov
  if s.xchkOk then
    let s := { s with gov := { g with bad := 0, good := min 100 (g.good + 1) } }
    s.when (99 ≤ g.good) (fun t => t.put F.GOV_STATUS_XCHK_BAD 0)
  else { s with gov := { g with bad := min 100 (g.bad + 1), good := 0 } }

/-- The integration step of Tj_m (R392). -/
def State.tjStep (s : State) : State :=
  let t := s.gov.tj
  (s.setTj (t + (s.tss s.pGov - t) / (100 * s.get F.GOV_THERM_ENV_TAU : Nat))).tjRaise

/-- THERMAL_THRESHOLD (R399): ADMIT_HOLD and THERM_HALT follow the hottest reading, each with 2 °C of hysteresis; while THERM_HALT is
1, RUNNING sites halt at their next frame boundary and sites in WAIT halt at once. -/
def State.thresholds (s : State) : State :=
  let h := s.hottest
  let one := fun (t : State) (st ev : Fld) (lim : Nat) =>
    if (8 * lim : Int) ≤ h then
      if t.is st then t else (t.put st 1).put ev 1
    else if h < 8 * ((lim : Int) - 2) then t.put st 0
    else t
  let s := one s F.GOV_STATUS_ADMIT_HOLD F.GOV_EVENT_ADMIT_HOLD (s.get F.GOV_TJ_CFG_ADMIT)
  let s := one s F.GOV_STATUS_THERM_HALT F.GOV_EVENT_THERM_HALT (s.get F.GOV_TJ_CFG_HALT)
  if s.is F.GOV_STATUS_THERM_HALT then
    s.each siteNums (fun t n =>
      if t.siteState n = stRunning then t.updSeq n (fun c => { c with thermal := true })
      else if t.siteState n = stWait then t.asyncHalt n hcThermal
      else t)
  else s

/-- ECLASS_UPDATE (R398). -/
def State.eclass (s : State) : Nat :=
  let b := s.get F.GOV_BUDGET_BUDGET * 100000
  if s.is F.GOV_STATUS_THERM_HALT || s.safe then 0xF
  else if s.is F.GOV_STATUS_ADMIT_HOLD then 0
  else if b < s.pGov then 0
  else min 7 ((b - s.pGov) / (s.get F.GOV_ECLASS_STEP_MW * 1000))

/-- GOV_EVALUATION: thresholds come before admissions (R399). -/
def govEvaluation (s : State) : State :=
  let s := (s.powers.xchkCount.tjStep.thresholds).govPrune
  let s := govAdmit s.gov.queue s
  let s := { s with gov := { s.gov with evals := s.gov.evals + 1 } }
  s.setAllow s.eclass

/-- XCHK_BAD (R388): 100 evaluations in a row were out of tolerance. -/
def xchkBad (s : State) : State :=
  if 100 ≤ s.gov.bad then
    let s := ((s.bump R.GOV_XCHK_CNT).put F.GOV_STATUS_XCHK_BAD 1).put F.GOV_EVENT_XCHK 1
    { s with gov := { s.gov with bad := 0 } }
  else s

/-- DUR_OVER (R396). -/
def durOver (n : Nat) (s : State) : State :=
  if s.is (F.GOV_SITE_n_STATUS_BURST n) ∧ s.armed n ∧ s.siteState n ≠ stHalted ∧ !s.is (F.GOV_SITE_n_STATUS_DUR_OVER n) then
    (s.put (F.GOV_SITE_n_STATUS_DUR_OVER n) 1).put F.GOV_EVENT_DUR_OVER 1
  else s

/-! ## Meanings -/

def execGovEvaluation (s : State) : Host.Outcome State Fault Refusal := .next (govEvaluation s)
def execAdmissionRequest (n : Site) (s : State) : Host.Outcome State Fault Refusal := .next (admissionRequest n.val s)
def execXchkBad (s : State) : Host.Outcome State Fault Refusal := .next (xchkBad s)
def execDurOver (n : Site) (s : State) : Host.Outcome State Fault Refusal := .next (durOver n.val s)

end Sys2Proof.Machine
end

