-- ==== Sys2Proof/Machine/Lanes.lean ====
section
/-!
DEFINITION. Express lanes (chapter 11): states, commands and their refusals, checkers, training, the eye scan, XLMARK and
the XL_EVENT flag. What a lane has sent and received when something happens to it is an operand (`XlSeen`).
-/

namespace Sys2Proof.Machine

/-! ## States and results (R304, R316) -/

def xlDisabled : Nat := 0
def xlIdle : Nat := 1
def xlTraining : Nat := 2
def xlRunning : Nat := 3
def xlSafe : Nat := 4

def xrDisabled : Nat := 1
def xrBadDrawer : Nat := 2
def xrSafe : Nat := 3
def xrEyeNoLock : Nat := 4
def xrEyeRange : Nat := 5
def xrBusy : Nat := 6
def xrNoTrain : Nat := 7

/-- STATE of a lane. -/
def State.xlState (s : State) (n : Nat) : Nat := s.get (F.XL_n_STATUS_STATE n)

/-- Bits of XL_n_EVENT. -/
def xeThresh : Nat := 0
def xeLockLoss : Nat := 1
def xeSigLoss : Nat := 2
def xeMark : Nat := 3
def xeDrwEnd : Nat := 4
def xeTrainFail : Nat := 5
def xeEyeDone : Nat := 6
def xeRefused : Nat := 7

/-- An event bit is set; it is due to set XL_EVENT where FLAG_EN says so (R326). -/
def State.xlEvent (s : State) (n b : Nat) : State :=
  (s.putBit (R.XL_n_EVENT n) b true).updLane n (fun x => { x with flagged := setBitN x.flagged b true })

/-! ## Counters (R308 to R311, R318) -/

/-- Largest value of BITS and BERR (R310). -/
def xlMax : Nat := 2 ^ 48 - 1

/-- What the lane has seen: while it is RUNNING with a checker that is locked, compared bits count; the threshold event is set
when BERR reaches it. -/
def State.xlSee (s : State) (n : Nat) (g : XlSeen) : State :=
  if s.xlState n = xlRunning ∧ (s.laneOf n).checker then
    let s := (s.putPair (R.XL_n_RX_WORD_LO n) g.rx.toNat).put (F.XL_n_STATUS_SIG_DET n) (b2n g.sig)
    if s.is (F.XL_n_STATUS_LOCK n) then
      let old := s.pair (R.XL_n_BERR_LO n)
      let new := min xlMax (old + min g.errs g.bits)
      let s := s.putPair (R.XL_n_BITS_LO n) (min xlMax (s.pair (R.XL_n_BITS_LO n) + g.bits))
      let s := s.putPair (R.XL_n_BERR_LO n) new
      let th := s.num (R.XL_n_ERR_THRESH n)
      s.when (th != 0 && old < th && th ≤ new) (fun t => t.xlEvent n xeThresh)
    else s
  else s

/-- What a lane has seen is not determined by the commands: free values, for a register access that falls between them. -/
def State.xlFree (s : State) : XlSeen × State :=
  let a := s.freeBits 48
  let b := a.2.freeBits 48
  let c := b.2.freeBits 48
  let d := c.2.freeBits 64
  let e := d.2.freeBits 1
  ({ bits := a.1, errs := b.1 % (a.1 + 1), sent := c.1, rx := BitVec.ofNat 64 d.1, sig := e.1 == 1 }, e.2)

/-- Clear BITS and BERR. -/
def State.xlClear (s : State) (n : Nat) : State := (s.putPair (R.XL_n_BITS_LO n) 0).putPair (R.XL_n_BERR_LO n) 0

/-! ## Leaving and entering RUNNING -/

/-- A running eye scan ends with ABORTED (R320). -/
def State.eyeAbort (s : State) (n : Nat) : State :=
  if s.is (F.XL_n_STATUS_EYE_BUSY n) then (s.put (F.XL_n_STATUS_EYE_BUSY n) 0).put (F.XL_n_EYE_STATUS_ABORTED n) 1 else s

/-- The checker goes off; LOCK and SIG_DET read 0, and an eye scan ends. -/
def State.xlQuiet (s : State) (n : Nat) : State :=
  let s := ((s.eyeAbort n).put (F.XL_n_STATUS_LOCK n) 0).put (F.XL_n_STATUS_SIG_DET n) 0
  s.updLane n (fun x => { x with checker := false })

/-- The lane enters a state in which it neither sends nor checks. -/
def State.xlEnter (s : State) (n st : Nat) : State :=
  ((s.xlQuiet n).put (F.XL_n_STATUS_STATE n) st).updLane n (fun x => { x with txOn := false, payloadEnded := false, pendStart := false })

/-- Drawer `id` can be played by a lane: committed, BITSTREAM, SHELF and PINNED (R307). -/
def State.laneDrawer (s : State) (id : Nat) : Bool :=
  let e := s.entry id
  s.committed id && e.type == 2 && e.shelf && s.pinned id

/-- START is refused with BAD_DRAWER (R307). -/
def State.badLaneDrawer (s : State) (n : Nat) : Bool :=
  (s.get (F.XL_n_SRC_TX_SRC n) == 7 || s.get (F.XL_n_SRC_RX_SRC n) == 7) && !s.laneDrawer (s.get (F.XL_n_DRW_ID n))

/-- START takes effect (R303, R317); `keep`: the counters stay (R322). -/
def State.xlRun (s : State) (n : Nat) (keep : Bool) : State :=
  let s := if keep then s else s.xlClear n
  let s := (s.eyeAbort n).put (F.XL_n_MARK_TAG_COUNT n) 0
  let rate := s.get (F.XL_n_CTRL_RATE n)
  let s := s.when (rate != (s.laneOf n).rate) (fun t => t.put (F.XL_n_STATUS_PLL_LOCK n) 0)
  let rx := s.get (F.XL_n_SRC_RX_SRC n)
  let s := s.updLane n (fun x => { x with
    rate := rate
    loop := s.get (F.XL_n_CTRL_LOOP n)
    txSrc := s.get (F.XL_n_SRC_TX_SRC n)
    rxSrc := rx
    txInv := s.is (F.XL_n_SRC_TX_INV n)
    rxInv := s.is (F.XL_n_SRC_RX_INV n)
    fixed := s.pair (R.XL_n_FIXED_LO n)
    drw := s.get (F.XL_n_DRW_ID n)
    repeat_ := s.is (F.XL_n_DRW_REPEAT n)
    rxDly := s.get (F.XL_n_RX_DLY_WORDS n)
    pendStart := false
    checker := rx != 0
    txOn := s.is (F.XL_n_STATUS_PLL_LOCK n)
    payloadEnded := false })
  (s.put (F.XL_n_STATUS_LOCK n) (b2n (rx == 6 || rx == 7))).put (F.XL_n_STATUS_STATE n) xlRunning

/-- START, at once or when training ends (R315, R317). -/
def State.xlBegin (s : State) (n : Nat) (keep : Bool) : State :=
  if s.xlState n = xlTraining then s.updLane n (fun x => { x with pendStart := true, pendKeep := keep }) else s.xlRun n keep

/-- MARK: the bits sent, a time, the count and the event (R322, R324). -/
def State.xlMarked (s : State) (n sent time : Nat) : State :=
  let s := (s.wrapInc (F.XL_n_MARK_TAG_COUNT n)).putPair (R.XL_n_MARK_TX_LO n) (sent % 2 ^ 48)
  (s.putPair (R.XL_n_MARK_TIME_LO n) time).xlEvent n xeMark

/-- The placement rule of the eye scan (R320). -/
def State.eyeRangeOk (s : State) (a : Nat) : Bool :=
  a % 64 == 0 && ((0x0D00000000 ≤ a && a + 32768 ≤ 0x0D00400000) || (s.allocated (a, 32768) && shelfBase ≤ a))

/-! ## Commands (R316) -/

/-- The bits of XL_n_CMD in the order in which they take effect. -/
inductive XlOp where
  | stop | start | errClr | bitslip | mark | retrain | eyeAbort | eyeStart
  deriving DecidableEq, Repr

/-- A command is checked: why it is refused. -/
def State.xlCheck (s : State) (n : Nat) (o : XlOp) : Option Nat :=
  if o = .errClr then none
  else if !s.is (F.XL_n_CTRL_ENABLE n) then some xrDisabled
  else if s.safe then some xrSafe
  else
    match o with
    | .start => if s.badLaneDrawer n then some xrBadDrawer else none
    | .retrain => if s.is (F.XL_n_CTRL_TRAIN n) then none else some xrNoTrain
    | .eyeStart =>
      if s.xlState n ≠ xlRunning ∨ !s.is (F.XL_n_STATUS_LOCK n) then some xrEyeNoLock
      else if !s.eyeRangeOk (s.pair (R.XL_n_EYE_BASE_LO n)) then some xrEyeRange
      else if s.is (F.XL_n_STATUS_EYE_BUSY n) then some xrBusy
      else none
    | _ => none

/-- What an accepted command does. -/
def State.xlEffect (s : State) (n sent : Nat) : XlOp → State
  | .stop => s.xlEnter n xlIdle
  | .start => s.xlBegin n false
  | .errClr => s.xlClear n
  | .bitslip => s.wrapInc (F.XL_n_STATUS_SLIP n)
  | .mark => s.xlMarked n sent s.now
  | .retrain => (s.xlEnter n xlTraining).put (F.XL_n_STATUS_TRAIN_DONE n) 0
  | .eyeAbort => s.eyeAbort n
  | .eyeStart =>
    let s := s.updLane n (fun x => { x with eyeBase := s.pair (R.XL_n_EYE_BASE_LO n), dwell := s.get (F.XL_n_EYE_CFG_DWELL n) })
    (s.putN (R.XL_n_EYE_STATUS n) 0).put (F.XL_n_STATUS_EYE_BUSY n) 1

/-- A refused bit is counted (R316). -/
def State.xlRefuse (s : State) (n : Nat) : State := (s.bump (R.XL_n_CMD_REFUSED n)).xlEvent n xeRefused

/-- The bits of one write, each checked on its own. Answers the first refusal. -/
def State.xlOps (s : State) (n sent : Nat) : List XlOp → Nat → Nat × State
  | [], res => (res, s)
  | o :: os, res =>
    match s.xlCheck n o with
    | some e => (s.xlRefuse n).xlOps n sent os (if res = 0 then e else res)
    | none => (s.xlEffect n sent o).xlOps n sent os res

/-- A write of XL_n_CMD with the given bits, in their order. -/
def xlCmd (n : Nat) (os : List XlOp) (g : XlSeen) (s : State) : State :=
  let r := (s.xlSee n g).xlOps n g.sent os 0
  r.2.put (F.XL_n_STATUS_CMD_RESULT n) r.1

/-- The bits set in a written word, in the order of R316. -/
def xlOpsOf (v : Word) : List XlOp :=
  [(1, XlOp.stop), (0, .start), (4, .errClr), (3, .bitslip), (2, .mark), (5, .retrain), (7, .eyeAbort), (6, .eyeStart)].filterMap
    (fun p => if v.toNat.testBit p.1 then some p.2 else none)

/-! ## Configuration -/

/-- XL_CTRL_WRITE (R304, R312, R315): ENABLE powers the lane up or down. -/
def xlCtrlWrite (n : Nat) (v : Word) (g : XlSeen) (s : State) : State :=
  let was := s.is (F.XL_n_CTRL_ENABLE n)
  let s := (s.xlSee n g).plainWrite (R.XL_n_CTRL n) v
  let on := s.is (F.XL_n_CTRL_ENABLE n)
  if was && !on then ((s.xlEnter n xlDisabled).put (F.XL_n_STATUS_PLL_LOCK n) 0).updLane n (fun x => { x with rate := 0 })
  else if on && !was then
    if s.safe then s.xlEnter n xlSafe
    else if s.is (F.XL_n_CTRL_TRAIN n) then (s.xlEnter n xlTraining).put (F.XL_n_STATUS_TRAIN_DONE n) 0
    else s.xlEnter n xlIdle
  else s

/-- Transmit coefficients within the limits of R297. -/
def ffeOk (pre post : Nat) : Bool := pre ≤ 8 && post ≤ 16 && pre + post ≤ 20

/-- Writes of PRE and POST fields: a value beyond its own limit, or a sum beyond the limit, keeps what stands and is counted
(R14, R297). -/
def State.ffeWrite (s : State) (fpre fpost : Fld) (v : Word) : State :=
  let pre := bitsOf v fpre.hi fpre.lo
  let post := bitsOf v fpost.hi fpost.lo
  let s := s.when (8 < pre) State.enumRefused
  let s := s.when (16 < post) State.enumRefused
  let a := if pre ≤ 8 then pre else s.get fpre
  let b := if post ≤ 16 then post else s.get fpost
  if ffeOk a b then (s.put fpre a).put fpost b else s.enumRefused

/-- A write of XL_n_FFE (R313). -/
def State.xlFfeWrite (s : State) (n : Nat) (v : Word) : State :=
  let s := (s.put (F.XL_n_FFE_USE_PRESET n) (bitsOf v 31 31)).put (F.XL_n_FFE_PIDX n) (bitsOf v 30 28)
  s.ffeWrite (F.XL_n_FFE_PRE n) (F.XL_n_FFE_POST n) v

/-- A write of XL_n_RXEQ (R314): taps that adapted until now are held; their values are not stated. -/
def State.xlRxeqWrite (s : State) (n : Nat) (v : Word) : State :=
  let was := s.is (F.XL_n_RXEQ_DFE_FREEZE n)
  let s := s.plainWrite (R.XL_n_RXEQ n) v
  if !was && s.is (F.XL_n_RXEQ_DFE_FREEZE n) then
    let r := s.freeBits 30
    r.2.putN (R.XL_n_DFE n) r.1
  else s

/-- A write of XL_n_DFE: ignored while the taps adapt (R314). -/
def State.xlDfeWrite (s : State) (n : Nat) (v : Word) : State :=
  if s.is (F.XL_n_RXEQ_DFE_FREEZE n) then s.plainWrite (R.XL_n_DFE n) v else s

/-! ## Events of a lane -/

/-- XL_PLL_LOCK (R303). -/
def xlPllLock (n : Nat) (s : State) : State :=
  if s.is (F.XL_n_CTRL_ENABLE n) then
    let run := s.xlState n == xlRunning
    (s.put (F.XL_n_STATUS_PLL_LOCK n) 1).updLane n (fun x => { x with txOn := x.txOn || run })
  else s

/-- Training ends and the lane enters IDLE; a START that waits takes effect (R315). -/
def State.trainEnd (s : State) (n : Nat) : State :=
  let x := s.laneOf n
  let s := s.xlEnter n xlIdle
  if x.pendStart then
    if s.badLaneDrawer n then (s.xlRefuse n).put (F.XL_n_STATUS_CMD_RESULT n) xrBadDrawer else s.xlRun n x.pendKeep
  else s

/-- XL_TRAIN_DONE (R315): with the coefficients that the partner has requested. -/
def xlTrainDone (n pre post : Nat) (s : State) : State :=
  if s.xlState n = xlTraining ∧ ffeOk pre post then
    let s := (s.put (F.XL_n_FFE_PRE n) pre).put (F.XL_n_FFE_POST n) post
    (s.put (F.XL_n_STATUS_TRAIN_DONE n) 1).trainEnd n
  else s

/-- XL_TRAIN_TIMEOUT (R315). -/
def xlTrainTimeout (n : Nat) (s : State) : State :=
  if s.xlState n = xlTraining then (s.xlEvent n xeTrainFail).trainEnd n else s

/-- The lane runs a PRBS checker. -/
def State.prbsOn (s : State) (n : Nat) : Bool :=
  let x := s.laneOf n
  s.xlState n == xlRunning && x.checker && 1 ≤ x.rxSrc && x.rxSrc ≤ 5

/-- XL_PRBS_LOCK (R308). -/
def xlPrbsLock (n : Nat) (g : XlSeen) (s : State) : State :=
  if s.prbsOn n then (s.xlSee n g).put (F.XL_n_STATUS_LOCK n) 1 else s

/-- XL_LOCK_LOSS (R308). -/
def xlLockLoss (n : Nat) (g : XlSeen) (s : State) : State :=
  if s.prbsOn n ∧ s.is (F.XL_n_STATUS_LOCK n) then
    let s := ((s.xlSee n g).put (F.XL_n_STATUS_LOCK n) 0).bump (R.XL_n_LOCK_LOSS n)
    (s.eyeAbort n).xlEvent n xeLockLoss
  else s

/-- XL_SIG_LOSS (R311). -/
def xlSigLoss (n : Nat) (g : XlSeen) (s : State) : State :=
  if s.xlState n = xlRunning ∧ (s.laneOf n).checker then
    ((s.xlSee n g).put (F.XL_n_STATUS_SIG_DET n) 0).xlEvent n xeSigLoss
  else s

/-- XL_PAYLOAD_END (R307): a transmitted payload ends; without REPEAT the fixed word follows. In FAR loopback TX_SRC is
ignored (R312). -/
def xlPayloadEnd (n : Nat) (g : XlSeen) (s : State) : State :=
  let x := s.laneOf n
  if s.xlState n = xlRunning ∧ x.txSrc = 7 ∧ x.loop ≠ 2 ∧ !x.payloadEnded then
    let s := s.xlSee n g
    if x.repeat_ then s else (s.updLane n (fun x => { x with payloadEnded := true })).xlEvent n xeDrwEnd
  else s

/-- XL_EYE_POINT_DONE (R319, R320): the count of the next point is written. -/
def xlEyePointDone (n cnt : Nat) (s : State) : State :=
  if s.is (F.XL_n_STATUS_EYE_BUSY n) then
    let x := s.laneOf n
    let p := s.get (F.XL_n_EYE_STATUS_POINTS n)
    let a := x.eyeBase + 4 * p
    let s := (s.wrBytes a (leBytes 4 (min satMax (min cnt (2 ^ x.dwell))))).dropResv none a 4
    let s := s.put (F.XL_n_EYE_STATUS_POINTS n) (p + 1)
    if p + 1 = 8192 then (s.put (F.XL_n_STATUS_EYE_BUSY n) 0).xlEvent n xeEyeDone else s
  else s

/-! ## Sequencer coupling (R321 to R326) -/

/-- XLMARK_LANE_ACT (R321, R322): the oldest action that waits at the lane. -/
def xlmarkLaneAct (n : Nat) (g : XlSeen) (s : State) : State :=
  match (s.laneOf n).acts with
  | [] => s
  | a :: rest =>
    let s := (s.xlSee n g).updLane n (fun x => { x with acts := rest })
    let o : XlOp := if a.act = 0 then .start else if a.act = 1 then .stop else .mark
    match s.xlCheck n o with
    | some e => (s.xlRefuse n).put (F.XL_n_STATUS_CMD_RESULT n) e
    | none =>
      if a.act = 0 then s.xlBegin n (a.arg.testBit 0)
      else if a.act = 1 then
        if a.arg.testBit 0 && s.xlState n == xlRunning then s.xlQuiet n else s.xlEnter n xlIdle
      else (s.put (F.XL_n_MARK_TAG_TAG n) a.arg).xlMarked n g.sent a.tb

/-- XL_HALT_STOP (R325). -/
def xlHaltStop (n : Nat) (g : XlSeen) (s : State) : State :=
  if (s.laneOf n).haltStop then
    let s := (s.xlSee n g).updLane n (fun x => { x with haltStop := false })
    if s.xlState n = xlRunning ∨ s.xlState n = xlTraining then s.xlEnter n xlIdle else s
  else s

/-- The vector that site `n` plays now. -/
def State.vecNow (s : State) (n : Nat) : Nat :=
  let p := s.playOf n
  let left := ceilDiv (p.origin + p.gStart - 32000 * s.now) (s.sitePer n p.tset)
  32 * p.nGran - max 1 (min 32 left)

/-- XL_EVENT_FLAG_SET (R326). -/
def xlEventFlagSet (n : Nat) (s : State) : State :=
  let due := Nat.land (s.laneOf n).flagged (s.get (F.XL_n_FLAG_EN_EN n))
  let s := s.updLane n (fun x => { x with flagged := 0 })
  if due ≠ 0 ∧ s.is (F.XL_n_BIND_OWNED n) then
    let m := s.get (F.XL_n_BIND_SITE n)
    let rise := !s.flag m 8 && s.playing m
    (s.putFlag m 8 true).when rise (fun t => t.updCapt m (fun x => { x with xlRises := x.xlRises ++ [s.vecNow m] }))
  else s

/-! ## The safe state (R305) -/

/-- Every lane that is enabled enters SAFE. -/
def State.lanesSafe (s : State) : State :=
  s.each (List.range 128) (fun t n => if t.is (F.XL_n_CTRL_ENABLE n) then t.xlEnter n xlSafe else t)

/-- Every lane in SAFE enters IDLE. -/
def State.lanesBack (s : State) : State :=
  s.each (List.range 128) (fun t n => if t.xlState n = xlSafe then t.put (F.XL_n_STATUS_STATE n) xlIdle else t)

/-! ## Meanings -/

def execXlCtrlWrite (n : Lane) (v : Word) (g : XlSeen) (s : State) : Host.Outcome State Fault Refusal := .next (xlCtrlWrite n.val v g s)
def execXlStart (n : Lane) (g : XlSeen) (s : State) : Host.Outcome State Fault Refusal := .next (xlCmd n.val [.start] g s)
def execXlStop (n : Lane) (g : XlSeen) (s : State) : Host.Outcome State Fault Refusal := .next (xlCmd n.val [.stop] g s)
def execXlErrClr (n : Lane) (g : XlSeen) (s : State) : Host.Outcome State Fault Refusal := .next (xlCmd n.val [.errClr] g s)
def execXlBitslip (n : Lane) (g : XlSeen) (s : State) : Host.Outcome State Fault Refusal := .next (xlCmd n.val [.bitslip] g s)
def execXlMark (n : Lane) (g : XlSeen) (s : State) : Host.Outcome State Fault Refusal := .next (xlCmd n.val [.mark] g s)
def execXlRetrain (n : Lane) (g : XlSeen) (s : State) : Host.Outcome State Fault Refusal := .next (xlCmd n.val [.retrain] g s)
def execXlEyeStart (n : Lane) (g : XlSeen) (s : State) : Host.Outcome State Fault Refusal := .next (xlCmd n.val [.eyeStart] g s)
def execXlEyeAbort (n : Lane) (g : XlSeen) (s : State) : Host.Outcome State Fault Refusal := .next (xlCmd n.val [.eyeAbort] g s)
def execXlEyePointDone (n : Lane) (cnt : Nat) (s : State) : Host.Outcome State Fault Refusal := .next (xlEyePointDone n.val cnt s)
def execXlPllLock (n : Lane) (s : State) : Host.Outcome State Fault Refusal := .next (xlPllLock n.val s)
def execXlTrainDone (n : Lane) (pre post : Nat) (s : State) : Host.Outcome State Fault Refusal := .next (xlTrainDone n.val pre post s)
def execXlTrainTimeout (n : Lane) (s : State) : Host.Outcome State Fault Refusal := .next (xlTrainTimeout n.val s)
def execXlPrbsLock (n : Lane) (g : XlSeen) (s : State) : Host.Outcome State Fault Refusal := .next (xlPrbsLock n.val g s)
def execXlLockLoss (n : Lane) (g : XlSeen) (s : State) : Host.Outcome State Fault Refusal := .next (xlLockLoss n.val g s)
def execXlSigLoss (n : Lane) (g : XlSeen) (s : State) : Host.Outcome State Fault Refusal := .next (xlSigLoss n.val g s)
def execXlErrThresh (n : Lane) (g : XlSeen) (s : State) : Host.Outcome State Fault Refusal := .next (s.xlSee n.val g)
def execXlPayloadEnd (n : Lane) (g : XlSeen) (s : State) : Host.Outcome State Fault Refusal := .next (xlPayloadEnd n.val g s)
def execXlmarkLaneAct (n : Lane) (g : XlSeen) (s : State) : Host.Outcome State Fault Refusal := .next (xlmarkLaneAct n.val g s)
def execXlHaltStop (n : Lane) (g : XlSeen) (s : State) : Host.Outcome State Fault Refusal := .next (xlHaltStop n.val g s)
def execXlEventFlagSet (n : Lane) (s : State) : Host.Outcome State Fault Refusal := .next (xlEventFlagSet n.val s)

end Sys2Proof.Machine
end

