-- ==== Sys2Proof/Machine/Mgmt.lean ====
section
/-!
DEFINITION. Management, ledger and safe state (chapter 18): resets, safe-state sources, watchdog, sensors, keep-alive
island, event log, ledger, console, SMBus and TAP.
-/

namespace Sys2Proof.Machine

/-! ## The safe state (R450 to R452) -/

/-- Sources as bits of MGS_SAFE_STATUS.SRC. -/
def ssPin : Nat := 0
def ssTrip : Nat := 1
def ssWdt : Nat := 2
def ssSw : Nat := 3
def ssReset : Nat := 4

/-- INTC sources whose events the log names (R344, R458). -/
def logBoot : Nat := 16
def logMgs : Nat := 17

/-- A source begins or ends; the first that begins enters the safe state (R305, R450). -/
def State.safeSrc (s : State) (b : Nat) (on : Bool) : State :=
  let s := s.put F.MGS_SAFE_STATUS_SRC (setBitN (s.get F.MGS_SAFE_STATUS_SRC) b on)
  if on && !s.safe then
    let s := (s.put F.MGS_SAFE_STATUS_ACTIVE 1).put F.GLB_STATUS_SAFE 1
    ((s.bump R.MGS_SAFE_CNT).lanesSafe).logEvent logMgs
  else s

/-- The safe state is left (R214, R305, R452). -/
def State.safeLeave (s : State) : State :=
  let s := (s.put F.MGS_SAFE_STATUS_ACTIVE 0).put F.GLB_STATUS_SAFE 0
  let s := (s.put F.MGS_EVENT_SAFE_EXIT 1).lanesBack
  let s := s.each (List.range 512) (fun t c =>
    (t.put (F.CLU_k_PP_j_CTRL_MODE (c / 16) (c % 16)) 0).startSettle c t.nowQ)
  s.logEvent logMgs

/-- SAFE_EXIT (R452): 10 µs after the last source ended. -/
def safeExit (s : State) : State := if s.safe ∧ s.get F.MGS_SAFE_STATUS_SRC = 0 then s.safeLeave else s

/-- PE_SAFE_N_ASSERT: the ball has been low for 20 ns. -/
def peSafeAssert (s : State) : State := { s with pins := { s.pins with peSafeN := false } }.safeSrc ssPin true

/-- PE_SAFE_N_RELEASE. -/
def peSafeRelease (s : State) : State := { s with pins := { s.pins with peSafeN := true } }.safeSrc ssPin false

/-- THERMAL_TRIP (R450). -/
def thermalTrip (s : State) : State := { s with pins := { s.pins with thermtripN := false } }.safeSrc ssTrip true

/-- SAFE_FORCE_WRITE: a write of MGS_SAFE_CTRL. -/
def safeForceWrite (v : Word) (s : State) : State :=
  let s := s.plainWrite R.MGS_SAFE_CTRL v
  s.safeSrc ssSw (s.is F.MGS_SAFE_CTRL_FORCE)

/-! ## Resets (R424, R425) -/

def causePowerOn : Nat := 0
def causePin : Nat := 1
def causeSoftware : Nat := 2
def causeWatchdog : Nat := 3

/-- Straps as BOOT_STRAP, GLB_STATUS and ULT_STATUS show them (R423); COMPAT_N low sets GLB_COMPAT from reset (R444). -/
def State.straps (s : State) (compatN root : Bool) (bootsel : Nat) : State :=
  let s := s.putN R.BOOT_STRAP (16 * b2n root + 8 * b2n compatN + bootsel)
  let s := (s.put F.GLB_STATUS_COMPAT_STRAP (b2n !compatN)).put F.ULT_STATUS_ROOT (b2n root)
  s.when (!compatN) (fun t => t.putN R.GLB_COMPAT 0x3F)

/-- Every block is reset. The keep-alive island, the flash, the levels at the balls and the TAP stay; TIME_CNT starts at 0. Latched
safe-state sources end as R450 says: TRIP stays until PWRGOOD falls, and so does WDT over a SOFTWARE reset where no reset was to
follow it (R455). -/
def State.resetAll (s : State) (cause : Nat) : State :=
  let src := s.get F.MGS_SAFE_STATUS_SRC
  let keepWdt := src.testBit ssWdt && cause == causeSoftware && s.get F.MGS_WDT_CTRL_RESET_DLY == 0
  let on := s.pins.pwrgood
  let t : State := { State.reset with
    pending := s.pending
    free := s.free
    pins := { s.pins with vid := 3, thermtripN := !on || s.pins.thermtripN }
    boot := { first := !on }
    mgmt := {
      flash := s.mgmt.flash
      rtc := s.mgmt.rtc + s.now
      vbatLost := s.mgmt.vbatLost
      tap := s.mgmt.tap } }
  let t := t.each [R.MGS_KA_STATUS, R.MGS_KA_BOOTS] (fun u o => u.setWord o (s.word o))
  let t := t.put F.BOOT_TRIAL_CNT_COUNT (s.get F.BOOT_TRIAL_CNT_COUNT)
  let t := t.put F.MGS_SAFE_STATUS_SRC (2 ^ ssReset + b2n (!s.pins.peSafeN) + 2 * b2n (on && src.testBit ssTrip) + 4 * b2n keepWdt)
  t.put F.BOOT_RESET_CAUSE_CAUSE cause

/-- The boot starts at stage ROM (R425, R427). -/
def State.bootStart (s : State) (cause : Nat) : State :=
  let s := (s.put F.BOOT_RESET_CAUSE_CAUSE cause).put F.BOOT_STAGE_STAGE 1
  { s with boot := { s.boot with first := false } }.logEvent logBoot

/-- A SOFTWARE or WATCHDOG reset: the straps last sampled stay. -/
def State.warmReset (s : State) (cause : Nat) : State :=
  let strap := s.word R.BOOT_STRAP
  ((s.resetAll cause).straps (bitsOf strap 3 3 == 1) (bitsOf strap 4 4 == 1) (bitsOf strap 1 0)).bootStart cause

/-- PWRGOOD_RISE (R423); whether VBAT is below its limit is not known from then on. -/
def pwrgoodRise (s : State) : State :=
  if s.pins.pwrgood then s
  else
    let s := { s with pins := { s.pins with pwrgood := true } }
    let r := s.freeBits 1
    r.2.put F.MGS_KA_STATUS_VBAT_LOW r.1

/-- PWRGOOD_FALL (R424): safe state and reset. -/
def pwrgoodFall (s : State) : State :=
  { s with pins := { s.pins with pwrgood := false } }.resetAll causePowerOn

/-- The straps are sampled and the boot starts; the first start after PWRGOOD rose is POWER_ON. TIME_CNT starts at 0 (R372). -/
def State.release_ (s : State) (compatN root : Bool) (bootsel : Nat) : State :=
  let cause := if s.boot.first then causePowerOn else causePin
  ((s.resetAll cause).straps compatN root bootsel).bootStart cause

/-- RST_N_RISE (R423), after RST_N has been low since before PWRGOOD rose. -/
def rstNRise (compatN root : Bool) (bootsel : Nat) (s : State) : State :=
  let up := { s with pins := { s.pins with rstN := true } }
  if s.pins.pwrgood ∧ !s.pins.rstN then up.release_ compatN root bootsel else up

/-- INTERNAL_RESET_RELEASE (R423): RST_N was high as PWRGOOD rose, and 1 ms has passed. -/
def internalRelease (compatN root : Bool) (bootsel : Nat) (s : State) : State :=
  if s.pins.pwrgood ∧ s.pins.rstN ∧ s.boot.first then s.release_ compatN root bootsel else s

/-- RST_N_PULSE (R425): a low pulse, at the end of which the straps are sampled. -/
def rstNPulse (compatN root : Bool) (bootsel : Nat) (s : State) : State :=
  if s.pins.pwrgood then { s with pins := { s.pins with rstN := true } }.release_ compatN root bootsel else s

/-- BOOT_RESET_WRITE (R425). -/
def bootResetWrite (v : Word) (s : State) : State :=
  if bitsOf v 31 16 ≠ 0xA5C3 then s.bump R.BOOT_RESET_REJ
  else if bitsOf v 0 0 = 1 then s.warmReset causeSoftware
  else s

/-- SOFTWARE_RESET (R425, R448): the reset that a REBOOT request announced. -/
def softwareReset (s : State) : State := if s.boot.reboot then s.warmReset causeSoftware else s

/-! ## Watchdog (R454, R455) -/

/-- The watchdog expires. -/
def State.wdtFire (s : State) : State :=
  let s := { s with mgmt := { s.mgmt with expired := true, expiredAt := s.now } }
  ((s.put F.MGS_EVENT_WDT 1).logEvent logMgs).safeSrc ssWdt true

/-- The timer is loaded with TIMEOUT. -/
def State.wdtLoad (s : State) : State :=
  { s with mgmt := { s.mgmt with kick := s.now, load := s.get F.MGS_WDT_CTRL_TIMEOUT } }

/-- WDT_ENABLE (R454): a write of MGS_WDT_CTRL; the timer starts as EN becomes 1. -/
def wdtEnable (v : Word) (s : State) : State :=
  let was := s.is F.MGS_WDT_CTRL_EN
  let s := s.plainWrite R.MGS_WDT_CTRL v
  if s.is F.MGS_WDT_CTRL_EN && !was then s.wdtLoad else s

/-- WDT_KICK (R454). -/
def wdtKick (r : Req) (v : Word) (s : State) : State :=
  if r ≠ .mgmt then s.bump R.MGS_WDT_REJ
  else if bitsOf v 15 0 = 0x4B1C then (if s.mgmt.expired then s else s.wdtLoad)
  else if s.mgmt.expired then s
  else s.wdtFire

/-- WDT_EXPIRE (R455). -/
def wdtExpire (s : State) : State := if s.is F.MGS_WDT_CTRL_EN ∧ !s.mgmt.expired then s.wdtFire else s

/-- WDT_RESET (R455): RESET_DLY ms after the expiry. -/
def wdtReset (s : State) : State :=
  if s.mgmt.expired ∧ s.get F.MGS_WDT_CTRL_RESET_DLY ≠ 0 then s.warmReset causeWatchdog else s

/-- MGS_WDT_REMAIN. -/
def State.wdtRemain (s : State) : Nat :=
  if s.is F.MGS_WDT_CTRL_EN ∧ !s.mgmt.expired then (s.mgmt.kick + 1000000 * s.mgmt.load - s.now) / 1000000 else 0

/-! ## Sensors (R456) -/

/-- SENSOR_REFRESH: readings of the diodes in 0.125 °C and of the voltage monitors in mV. -/
def sensorRefresh (diodes : List Int) (mv : List Nat) (s : State) : State :=
  if diodes.length ≠ 64 ∨ mv.length ≠ 40 then s
  else
    let s := s.each diodes.zipIdx (fun t p => t.put (F.MGS_DIODE_i_TEMP p.2) (toBits 12 p.1))
    let h := s.hottest
    let i := ((List.range 64).find? (fun i => sext 12 (s.get (F.MGS_DIODE_i_TEMP i)) == h)).getD 0
    let r := s.roundFree 8 h 8
    let s := (r.2.put F.MGS_TEMP_DIODE i).put F.MGS_TEMP_MAX (toBits 8 r.1)
    s.each mv.zipIdx (fun t p =>
      let t := t.put (F.MGS_VMON_v_MV p.2) p.1
      let t := t.when (8 ≤ p.2) (fun u => u.bankMeas (p.2 - 8) p.1)
      let m := t.get (F.MGS_VMON_v_MV p.2)
      t.when (m < t.get (F.MGS_VMON_v_LIM_LO p.2) || t.get (F.MGS_VMON_v_LIM_HI p.2) < m)
        (fun u => (u.put (F.MGS_VMON_v_OUT p.2) 1).put F.MGS_EVENT_VMON 1))

/-- RAIL_CURRENT_SENSE. -/
def railSense (cur : List Nat) (s : State) : State :=
  if cur.length ≠ 40 then s else s.each cur.zipIdx (fun t p => t.put (F.MGS_RAIL_r_I_CURRENT p.2) p.1)

/-! ## The keep-alive island (R457) -/

/-- VBAT_LOSS: below 1.7 V while the switched rails are absent. -/
def vbatLoss (s : State) : State :=
  if s.pins.pwrgood then s
  else
    let s := { s with mgmt := { s.mgmt with rtc := -(s.now : Int), vbatLost := true } }
    let s := ((s.putN R.MGS_KA_BOOTS 0).put F.BOOT_TRIAL_CNT_COUNT 0).put F.MGS_KA_STATUS_RTC_VALID 0
    (s.put F.MGS_KA_STATUS_TAMPER 1).put F.MGS_KA_STATUS_VBAT_LOW 1

/-- A committed write of the RTC pair by the management core. -/
def State.rtcCommit (s : State) (r : Req) (sec : Nat) : State :=
  if r = .mgmt then
    { s with mgmt := { s.mgmt with rtc := (sec % 2 ^ 48 : Nat) * 1000000000 - s.now } }.put F.MGS_KA_STATUS_RTC_VALID 1
  else s

/-- KA_RTC_WRITE: the committing _LO write. -/
def kaRtcWrite (r : Req) (v : Word) (s : State) : State :=
  let p := s.takeStaged r
  p.2.rtcCommit r (v.toNat + 2 ^ 32 * p.1.toNat)

/-- KA_CLR. -/
def kaClr (r : Req) (v : Word) (s : State) : State :=
  if r = .mgmt ∧ bitsOf v 15 0 = 0x7A11 then s.put F.MGS_KA_STATUS_TAMPER 0 else s

/-! ## The flash (R429) -/

/-- One byte of the flash. -/
def State.flashByte (s : State) (a : Nat) : Byte := Tab.get 0xFF s.mgmt.flash a
/-- Bytes of the flash. -/
def State.flashRd (s : State) (a n : Nat) : List Byte := (List.range n).map (fun i => s.flashByte (a + i))
/-- Erase a range. -/
def State.flashErase (s : State) (a n : Nat) : State :=
  { s with mgmt := { s.mgmt with flash := s.mgmt.flash.filter (fun p => !(a ≤ p.1 && p.1 < a + n)) } }
/-- Program bytes. -/
def State.flashWr (s : State) (a : Nat) (l : List Byte) : State :=
  { s with mgmt := { s.mgmt with flash := l.zipIdx.foldl (fun f p => Tab.set 0xFF (a + p.2) p.1 f) s.mgmt.flash } }

/-- Bytes the flash holds, 0 before it is discovered. -/
def State.flashSize (s : State) : Nat :=
  let k := s.get F.BOOT_FLASH_SIZE_LOG2
  if k = 0 then 0 else 2 ^ k

/-! ## Event log (R458 to R460) -/

/-- First address of the log ring and the records it holds. -/
def logBase : Nat := 0x1020000
def State.logSlots (s : State) : Nat := (s.flashSize - logBase) / 64

/-- The record in a ring slot, where its check code matches. -/
def State.logAt (s : State) (i : Nat) : Option (List Byte) :=
  let r := s.flashRd (logBase + 64 * i) 64
  if sub r 0x3C 4 = crc32c (r.take 0x3C) then some r else none

/-- The ring slots in which the flash holds something. -/
def State.logUsed (s : State) : List Nat :=
  (((s.mgmt.flash.filter (fun p => logBase ≤ p.1)).map (fun p => (p.1 - logBase) / 64)).dedup).filter (fun i => i < s.logSlots)

/-- At boot: the record with the highest SEQ and a valid CRC is the newest (R459). -/
def State.logFind (s : State) : State :=
  let best := s.logUsed.foldl (fun (b : Option (Nat × Nat)) i =>
    match s.logAt i with
    | some r =>
      let q := sub r 0 4
      match b with
      | some (p, _) => if p < q then some (q, i) else b
      | none => some (q, i)
    | none => b) none
  match best with
  | some (q, i) =>
    { s with mgmt := { s.mgmt with logNext := q + 1, logStart := (i + 1) % s.logSlots } }.putN R.MGS_LOG_NEWEST q
  | none => s

/-- LOG_RECORD_WRITE (R459): the oldest queued record goes to the next ring slot; a sector is erased before its first record. -/
def logRecordWrite (s : State) : State :=
  match s.mgmt.logQ with
  | [] => s
  | b :: rest =>
    if s.logSlots = 0 then s
    else
      let i := s.mgmt.logStart
      let q := s.mgmt.logNext % 2 ^ 32
      let r := leBytes 4 q ++ b
      let s := if i % 64 = 0 then s.flashErase (logBase + 64 * i) 4096 else s
      let s := s.flashWr (logBase + 64 * i) (r ++ leBytes 4 (crc32c r))
      { s with mgmt := { s.mgmt with logQ := rest, logNext := q + 1, logStart := (i + 1) % s.logSlots } }.putN R.MGS_LOG_NEWEST q

/-- LOG_APPEND (R460): a record from the requester's staging words; its severity is not stated. -/
def logAppend (r : Req) (v : Word) (s : State) : State :=
  let code := bitsOf v 15 0
  if code < 0x8000 then s.enumRefused
  else
    let d := (List.range 8).flatMap (fun w => leBytes 4 (Tab.get 0 (s.rq r).logD w).toNat)
    let f := s.freeBits 2
    f.2.logPush 0xFE f.1 code (reqCode r) d

/-- LOG_RD_IDX_WRITE (R460). -/
def logRdIdxWrite (v : Word) (s : State) : State :=
  let s := s.plainWrite R.MGS_LOG_RD_IDX v
  let hit := s.logUsed.findSome? (fun i => (s.logAt i).bind (fun r => if sub r 0 4 = v.toNat then some r else none))
  match hit with
  | some r => (s.each (List.range 16) (fun t w => t.putN (R.MGS_LOG_RD_Dw w) (sub r (4 * w) 4))).put F.MGS_LOG_RD_STATUS_VALID 1
  | none => s.put F.MGS_LOG_RD_STATUS_VALID 0

/-! ## The ledger (R461 to R464) -/

/-- First address of a bank. -/
def bankBase (b : Nat) : Nat := 0x1000000 + 0x10000 * b

/-- A bank is valid (R461). -/
def bankValid (l : List Byte) : Bool :=
  sub l 0 4 == 0x474C584C && sub l 8 2 == 1 && sub l 0xA 1 ≤ 1 && sub l 0xFFFC 4 == crc32c (l.take 0xFFFC)

/-- The ledger that a bank holds. -/
def bankLedger (l : List Byte) : Ledger := {
  slot := sub l 0xA 1
  trial := (sub l 0xB 1).testBit 0
  rb := sub l 0xC 4
  hours := sub l 0x10 4
  ephNext := sub l 0x14 2 % 64
  ephCount := min 64 (sub l 0x16 2)
  ephTotal := sub l 0x18 4
  eph := (List.range 64).foldl (fun t i => Tab.set [] i ((l.drop (0x40 + 80 * i)).take 80) t) [] }

/-- Bytes 0x0000 to 0xFFFB of a bank. -/
def State.bankBytes (s : State) (seq : Nat) : List Byte :=
  let l := s.mgmt.ledger
  leBytes 4 0x474C584C ++ leBytes 4 seq ++ leBytes 2 1 ++ leBytes 1 l.slot ++ leBytes 1 (b2n l.trial) ++ leBytes 4 l.rb ++
    leBytes 4 s.powered ++ leBytes 2 l.ephNext ++ leBytes 2 l.ephCount ++ leBytes 4 l.ephTotal ++ leBytes 0x24 0 ++
    (List.range 64).flatMap (fun i => leBytes 80 (leNat (Tab.get [] l.eph i))) ++ leBytes 0xEBBC 0

/-- The registers that show the ledger in force. -/
def State.ledgerShow (s : State) : State :=
  let l := s.mgmt.ledger
  ((s.putN R.BOOT_RB_COUNTER l.rb).putN R.CAL_EPH_RECORDS l.ephTotal).put F.BOOT_STATUS_TRIAL
    (b2n (l.trial && s.boot.slot == l.slot))

/-- At boot: the bank in force (R463), or the state of an empty ledger (R429). -/
def State.ledgerFind (s : State) : State :=
  let a := s.flashRd (bankBase 0) 0x10000
  let b := s.flashRd (bankBase 1) 0x10000
  let va := bankValid a
  let vb := bankValid b
  let s := s.put F.MGS_LEDGER_STATUS_VALID (b2n va + 2 * b2n vb)
  if va || vb then
    let k := if !va then 1 else if !vb then 0 else if sub a 4 4 < sub b 4 4 then 1 else 0
    let l := if k = 0 then a else b
    let s := (s.put F.MGS_LEDGER_STATUS_BANK k).putN R.MGS_LEDGER_SEQ (sub l 4 4)
    { s with mgmt := { s.mgmt with ledger := bankLedger l } }.ledgerShow
  else
    { s with mgmt := { s.mgmt with ledger := { rb := Config.fuseRbFloor.toNat } } }.ledgerShow.put F.BOOT_STATUS_LEDGER_EMPTY 1

/-- LEDGER_COMMIT (R462): a commit that is due erases, programs and verifies the bank that does not hold the state in force. `got`
is what that bank holds after two attempts that read back wrong: the state in force is then unchanged. -/
def ledgerCommit (got : Option (List Byte)) (s : State) : State :=
  if !s.mgmt.commit ∨ s.flashSize = 0 then s
  else
    let cur := s.get F.MGS_LEDGER_STATUS_BANK
    let k := if s.get F.MGS_LEDGER_STATUS_VALID = 0 then 0 else 1 - cur
    let s := { s with mgmt := { s.mgmt with commit := false } }.flashErase (bankBase k) 0x10000
    match got with
    | none =>
      let q := (s.num R.MGS_LEDGER_SEQ + 1) % 2 ^ 32
      let d := s.bankBytes q
      let s := s.flashWr (bankBase k) (d ++ leBytes 4 (crc32c d))
      let s := (s.put F.MGS_LEDGER_STATUS_BANK k).putBit R.MGS_LEDGER_STATUS k true
      (s.putN R.MGS_LEDGER_SEQ q).ledgerShow
    | some l =>
      let s := s.flashWr (bankBase k) (l.take 0x10000)
      let s := (s.putBit R.MGS_LEDGER_STATUS k (bankValid (s.flashRd (bankBase k) 0x10000))).bump R.MGS_LEDGER_FAIL
      let s := (s.put F.MGS_EVENT_LEDGER_FAIL 1).logEvent logMgs
      let old := if s.is F.BOOT_STATUS_LEDGER_EMPTY ∧ s.num R.MGS_LEDGER_SEQ = 0 then { rb := Config.fuseRbFloor.toNat }
        else bankLedger (s.flashRd (bankBase cur) 0x10000)
      let s := { s with mgmt := { s.mgmt with ledger := { old with hours := s.mgmt.ledger.hours } } }.ledgerShow
      let ledgerOp := match s.boot.upd with
        | some u => u.op == 2 || u.op == 3
        | none => false
      if ledgerOp then { s with boot := { s.boot with updWait := some 5 } } else s

/-- LEDGER_HOURS_TIMER (R464): 168 powered hours have passed. -/
def ledgerHoursTimer (s : State) : State := { s with mgmt := { s.mgmt with commit := true } }

/-! ## Console (R465, R466) -/

/-- MGS_UART_STATUS shows the fills. -/
def State.uartShow (s : State) : State :=
  (s.put F.MGS_UART_STATUS_RX_FILL s.mgmt.rx.length).put F.MGS_UART_STATUS_TX_FILL s.mgmt.tx.length

/-- UART_RX_BYTE (R466): the byte and its stop bit; a frame that is low throughout is a BREAK. -/
def uartRxByte (b : Byte) (stop : Bool) (s : State) : State :=
  if !s.is F.MGS_UART_CTRL_EN then s
  else if !stop then
    (s.put (if b = 0 then F.MGS_UART_STATUS_BREAK else F.MGS_UART_STATUS_FRAME_ERR) 1).bump R.MGS_UART_ERR
  else if 64 ≤ s.mgmt.rx.length then (s.put F.MGS_UART_STATUS_OVERRUN 1).bump R.MGS_UART_ERR
  else { s with mgmt := { s.mgmt with rx := s.mgmt.rx ++ [b] } }.uartShow

/-- UART_DATA_WRITE (R465). -/
def uartDataWrite (v : Word) (s : State) : State :=
  if 64 ≤ s.mgmt.tx.length then s
  else { s with mgmt := { s.mgmt with tx := s.mgmt.tx ++ [BitVec.ofNat 8 (bitsOf v 7 0)] } }.uartShow

/-- UART_DATA_READ (R465): a read takes a byte. -/
def uartDataRead (r : Req) (s : State) : State :=
  match s.mgmt.rx with
  | [] => s.updRq r (fun c => { c with rword := 0 })
  | b :: rest =>
    let s := { s with mgmt := { s.mgmt with rx := rest } }.uartShow
    s.updRq r (fun c => { c with rword := BitVec.ofNat 32 (256 + b.toNat) })

/-- UART_TX_BYTE_SENT (R465). -/
def uartTxSent (s : State) : State :=
  match s.mgmt.tx with
  | [] => s
  | b :: rest =>
    { s with mgmt := { s.mgmt with tx := rest }, pins := { s.pins with uartTx := s.pins.uartTx ++ [b] } }.uartShow

/-! ## SMBus (R467) -/

/-- One bit and one byte of the SMBus packet error code, CRC-8 of polynomial 0x07 (SMBus 3.1, PRESUMED). -/
def pecBit (c : Nat) : Nat := if 128 ≤ c % 256 then Nat.xor (c * 2 % 256) 7 else c * 2 % 256
def pecByte (c : Nat) (b : Byte) : Nat :=
  pecBit (pecBit (pecBit (pecBit (pecBit (pecBit (pecBit (pecBit (Nat.xor c b.toNat))))))))

/-- The responder returns data for a command, followed by the packet error code while PEC is 1. -/
def State.smbAnswer (s : State) (cmd : Nat) (d : List Byte) : State :=
  let a := s.get F.MGS_SMB_CFG_ADDR
  let pec := ([BitVec.ofNat 8 (2 * a), BitVec.ofNat 8 cmd, BitVec.ofNat 8 (2 * a + 1)] ++ d).foldl pecByte 0
  let d := if s.is F.MGS_SMB_CFG_PEC then d ++ [BitVec.ofNat 8 pec] else d
  { s with mgmt := { s.mgmt with smb := d } }

/-- SMB_ALERT_N is low. -/
def State.smbAlert (s : State) : Bool := s.safe || decide ((8 * s.get F.GOV_TJ_CFG_ADMIT : Int) ≤ s.hottest)

/-- SMBus commands 0x01 to 0x05. -/
def smbSafe (s : State) : State := s.smbAnswer 1 (leBytes 1 (s.num R.MGS_SAFE_STATUS))
def smbTemp (s : State) : State := s.smbAnswer 2 (leBytes 1 (s.get F.MGS_TEMP_MAX))
def smbStage (s : State) : State := s.smbAnswer 3 (leBytes 1 (s.get F.BOOT_STAGE_STAGE) ++ leBytes 1 (s.get F.BOOT_STAGE_ERR))
def smbId (s : State) : State := s.smbAnswer 4 (leBytes 1 4 ++ leBytes 4 (s.num R.GLB_ID))
def smbChip (s : State) : State :=
  s.smbAnswer 5 (leBytes 1 3 ++ leBytes 2 (s.get F.GLB_CHIP_ID_CHIP_ID) ++ leBytes 1 (s.get F.GLB_CHIP_ID_VALID))

/-- SMB_ALERT_RESPONSE: the address of the device while an alert persists, otherwise no answer. -/
def smbAra (s : State) : State :=
  { s with mgmt := { s.mgmt with smb := if s.smbAlert then leBytes 1 (2 * s.get F.MGS_SMB_CFG_ADDR) else [] } }

/-! ## The TAP (R468) -/

/-- Instructions of the TAP as `Tap.ir` holds them. -/
def tapExtest : Nat := 0
def tapSample : Nat := 1
def tapIdcode : Nat := 2
def tapBypass : Nat := 3
def tapClamp : Nat := 4
def tapHighz : Nat := 5
def tapReg : Nat := 6

/-- An instruction is loaded and a data scan shifts bits out. -/
def State.tapLoad (s : State) (ir : Nat) (out : List Bool) : State :=
  { s with mgmt := { s.mgmt with tap := { s.mgmt.tap with ir := ir, out := out } } }

/-- Bits of a number, least significant first. -/
def bitsLsb (w n : Nat) : List Bool := (List.range w).map n.testBit

/-- JTAG_TAP_RESET: the TAP only; IDCODE is selected then (IEEE 1149.1). -/
def jtagReset (s : State) : State := s.tapLoad tapIdcode []

/-- JTAG_BYPASS: one register bit, captured 0, between TDI and TDO. -/
def jtagBypass (tdi : List Bool) (s : State) : State := s.tapLoad tapBypass ((false :: tdi).take tdi.length)

/-- JTAG_IDCODE. -/
def jtagIdcode (s : State) : State :=
  s.tapLoad tapIdcode (bitsLsb 32 (s.get F.GLB_STEP_MAJOR % 16 * 2 ^ 28 + 0x5120 * 2 ^ 12 + Config.fuseJtagId.toNat * 2 + 1))

/-- JTAG_SAMPLE_PRELOAD: the cells sampled come out, and the chain is loaded. -/
def jtagSample (cells load : List Bool) (s : State) : State :=
  let s := s.tapLoad tapSample cells
  { s with mgmt := { s.mgmt with tap := { s.mgmt.tap with bsr := load } } }

/-- JTAG_EXTEST: the chain drives; the cells captured come out and the chain is loaded. -/
def jtagExtest (cells load : List Bool) (s : State) : State :=
  let s := s.tapLoad tapExtest cells
  { s with mgmt := { s.mgmt with tap := { s.mgmt.tap with bsr := load } } }

/-- JTAG_CLAMP: the preloaded outputs stay, the bypass register is selected. -/
def jtagClamp (tdi : List Bool) (s : State) : State := s.tapLoad tapClamp ((false :: tdi).take tdi.length)

/-- JTAG_HIGHZ. -/
def jtagHighz (tdi : List Bool) (s : State) : State := s.tapLoad tapHighz ((false :: tdi).take tdi.length)

/-! ## VCORE_VID (R482) -/

/-- VID_STEP: after READY the code moves by one toward the fused target. -/
def vidStep (s : State) : State :=
  if s.ready then
    let t := Config.fuseVid.val
    let v := s.pins.vid
    { s with pins := { s.pins with vid := if v < t then v + 1 else if t < v then v - 1 else v } }
  else s

/-! ## Meanings -/

def execPwrgoodRise (s : State) : Host.Outcome State Fault Refusal := .next (pwrgoodRise s)
def execPwrgoodFall (s : State) : Host.Outcome State Fault Refusal := .next (pwrgoodFall s)
def execRstNRise (compatN root : Bool) (bootsel : Fin 4) (s : State) : Host.Outcome State Fault Refusal :=
  .next (rstNRise compatN root bootsel.val s)
def execRstNPulse (compatN root : Bool) (bootsel : Fin 4) (s : State) : Host.Outcome State Fault Refusal :=
  .next (rstNPulse compatN root bootsel.val s)
def execInternalResetRelease (compatN root : Bool) (bootsel : Fin 4) (s : State) : Host.Outcome State Fault Refusal :=
  .next (internalRelease compatN root bootsel.val s)
def execBootResetWrite (v : Word) (s : State) : Host.Outcome State Fault Refusal := .next (bootResetWrite v s)
def execSoftwareReset (s : State) : Host.Outcome State Fault Refusal := .next (softwareReset s)
def execPeSafeNAssert (s : State) : Host.Outcome State Fault Refusal := .next (peSafeAssert s)
def execPeSafeNRelease (s : State) : Host.Outcome State Fault Refusal := .next (peSafeRelease s)
def execThermalTrip (s : State) : Host.Outcome State Fault Refusal := .next (thermalTrip s)
def execSafeForceWrite (v : Word) (s : State) : Host.Outcome State Fault Refusal := .next (safeForceWrite v s)
def execSafeExit (s : State) : Host.Outcome State Fault Refusal := .next (safeExit s)
def execWdtEnable (v : Word) (s : State) : Host.Outcome State Fault Refusal := .next (wdtEnable v s)
def execWdtKick (r : Req) (v : Word) (s : State) : Host.Outcome State Fault Refusal := .next (wdtKick r v s)
def execWdtExpire (s : State) : Host.Outcome State Fault Refusal := .next (wdtExpire s)
def execWdtReset (s : State) : Host.Outcome State Fault Refusal := .next (wdtReset s)
def execSensorRefresh (diodes : List Int) (mv : List Nat) (s : State) : Host.Outcome State Fault Refusal :=
  .next (sensorRefresh diodes mv s)
def execRailCurrentSense (cur : List Nat) (s : State) : Host.Outcome State Fault Refusal := .next (railSense cur s)
def execVbatLoss (s : State) : Host.Outcome State Fault Refusal := .next (vbatLoss s)
def execKaRtcWrite (r : Req) (v : Word) (s : State) : Host.Outcome State Fault Refusal := .next (kaRtcWrite r v s)
def execKaClr (r : Req) (v : Word) (s : State) : Host.Outcome State Fault Refusal := .next (kaClr r v s)
def execLogAppend (r : Req) (v : Word) (s : State) : Host.Outcome State Fault Refusal := .next (logAppend r v s)
def execLogRdIdxWrite (v : Word) (s : State) : Host.Outcome State Fault Refusal := .next (logRdIdxWrite v s)
def execLogRecordWrite (s : State) : Host.Outcome State Fault Refusal := .next (logRecordWrite s)
def execLedgerCommit (got : Option (List Byte)) (s : State) : Host.Outcome State Fault Refusal := .next (ledgerCommit got s)
def execLedgerHoursTimer (s : State) : Host.Outcome State Fault Refusal := .next (ledgerHoursTimer s)
def execUartRxByte (b : Byte) (stop : Bool) (s : State) : Host.Outcome State Fault Refusal := .next (uartRxByte b stop s)
def execUartDataWrite (v : Word) (s : State) : Host.Outcome State Fault Refusal := .next (uartDataWrite v s)
def execUartDataRead (r : Req) (s : State) : Host.Outcome State Fault Refusal := .next (uartDataRead r s)
def execUartTxByteSent (s : State) : Host.Outcome State Fault Refusal := .next (uartTxSent s)
def execSmbReadSafeStatus (s : State) : Host.Outcome State Fault Refusal := .next (smbSafe s)
def execSmbReadTemp (s : State) : Host.Outcome State Fault Refusal := .next (smbTemp s)
def execSmbReadBootStage (s : State) : Host.Outcome State Fault Refusal := .next (smbStage s)
def execSmbReadId (s : State) : Host.Outcome State Fault Refusal := .next (smbId s)
def execSmbReadChipId (s : State) : Host.Outcome State Fault Refusal := .next (smbChip s)
def execSmbAlertResponse (s : State) : Host.Outcome State Fault Refusal := .next (smbAra s)
def execJtagTapReset (s : State) : Host.Outcome State Fault Refusal := .next (jtagReset s)
def execJtagBypass (tdi : List Bool) (s : State) : Host.Outcome State Fault Refusal := .next (jtagBypass tdi s)
def execJtagIdcode (s : State) : Host.Outcome State Fault Refusal := .next (jtagIdcode s)
def execJtagSamplePreload (cells load : List Bool) (s : State) : Host.Outcome State Fault Refusal := .next (jtagSample cells load s)
def execJtagExtest (cells load : List Bool) (s : State) : Host.Outcome State Fault Refusal := .next (jtagExtest cells load s)
def execJtagClamp (tdi : List Bool) (s : State) : Host.Outcome State Fault Refusal := .next (jtagClamp tdi s)
def execJtagHighz (tdi : List Bool) (s : State) : Host.Outcome State Fault Refusal := .next (jtagHighz tdi s)
def execVidStep (s : State) : Host.Outcome State Fault Refusal := .next (vidStep s)

end Sys2Proof.Machine
end

