-- ==== Sys2Proof/Machine/PatternMemory.lean ====
section
/-!
DEFINITION. The pattern memory controller (chapter 04): interleave, bank queues and the pick, in-order mode, refresh,
retraining sessions, power states, write-backs.
-/

namespace Sys2Proof.Machine

/-! ## Address interleave (R89) -/

/-- Where an HBM address lies (R89). -/
structure HbmLoc where
  pc : Nat
  bank : Nat
  row : Nat
  col : Nat
  deriving DecidableEq, Repr

/-- The mapping of R89. -/
def hbmLoc (a : Nat) : HbmLoc :=
  let l := a / 2 ^ 13 * 256 + a % 256
  let q := l / 2 ^ 14
  { pc := pcOfAddr a, bank := 16 * (q % 3) + 4 * (l / 2 ^ 10 % 4) + l / 2 ^ 12 % 4, row := q / 3, col := l % 1024 }

/-- Split a request along 256-byte chunk boundaries (R90): (address, length) of each piece. -/
def chunksOf (fuel a n : Nat) : List (Nat × Nat) :=
  match fuel with
  | 0 => []
  | f + 1 => if n = 0 then [] else
    let k := min n (256 - a % 256)
    (a, k) :: chunksOf f (a + k) (n - k)

/-! ## Queues (R90, R91, R93) -/

/-- The bank has a queued entry. -/
def Bank.busy (b : Bank) : Bool := !(b.reads.isEmpty && b.writes.isEmpty)

/-- The pseudo-channel has a queued entry. -/
def State.pcBusy (s : State) (p : Nat) : Bool := (List.range 48).any (fun b => (s.bankOf p b).busy)

/-- MEMC_PC_p_STATE.INORDER shows whether any bank of the pseudo-channel is in in-order mode. -/
def State.inorderShow (s : State) (p : Nat) : State :=
  s.put (F.MEMC_PC_p_STATE_INORDER p) (b2n ((List.range 48).any (fun b => (s.bankOf p b).inOrder.isSome)))

/-- Put one entry into its bank queue; a read that meets a queued write to the same row puts the bank into in-order mode
(R93). -/
def enqueueEnt (s : State) (wr : Bool) (level addr len : Nat) : State :=
  let loc := hbmLoc addr
  let e : BankEnt := { row := loc.row, wr := wr, level := level, seq := s.memc.seq, addr := addr, len := len }
  let b := s.bankOf loc.pc loc.bank
  let trip := !wr && b.inOrder.isNone && b.writes.any (fun x => x.row == loc.row)
  let s := s.updBank loc.pc loc.bank (fun b =>
    let b := if wr then { b with writes := b.writes ++ [e] } else { b with reads := b.reads ++ [e] }
    if trip then { b with inOrder := some e.seq } else b)
  let s := { s with memc := { s.memc with seq := s.memc.seq + 1 } }
  let s := s.updPc loc.pc (fun p => { p with idleSince := s.now })
  if trip then (s.bump R.MEMC_INORDER_CNT).inorderShow loc.pc else s

/-- The queue that a piece needs has a free place (R90: 8 entries each). -/
def State.room (s : State) (wr : Bool) (addr : Nat) : Bool :=
  let loc := hbmLoc addr
  let b := s.bankOf loc.pc loc.bank
  if wr then b.writes.length < 8 else b.reads.length < 8

/-- Enqueue the pieces of a request in order; from the first piece whose queue is full on, the request is held (R90). -/
def enqueueAll (wr : Bool) (level : Nat) : List (Nat × Nat) → State → State
  | [], s => s
  | (a, k) :: ps, s =>
    if s.memc.held.isEmpty && s.room wr a then enqueueAll wr level ps (enqueueEnt s wr level a k)
    else { s with memc := { s.memc with held := s.memc.held ++ ((a, k) :: ps).map (fun p => (p.1, p.2, wr, level)) } }

/-- Let held pieces enter while there is room, oldest first (R90). -/
def releaseHeld : Nat → State → State
  | 0, s => s
  | f + 1, s =>
    match s.memc.held with
    | [] => s
    | (a, k, wr, lv) :: hs =>
      if s.room wr a then releaseHeld f (enqueueEnt { s with memc := { s.memc with held := hs } } wr lv a k) else s

/-- Oldest entry of a list by arrival number. -/
def oldest : List BankEnt → Option BankEnt
  | [] => none
  | e :: es => match oldest es with
    | none => some e
    | some f => if e.seq ≤ f.seq then some e else some f

/-- The entry a bank serves next (R91, R93): strict arrival order in in-order mode; else writes while draining, reads
otherwise; by level, then a hit of the open row, then age. -/
def pick (b : Bank) : Option BankEnt :=
  if b.inOrder.isSome then oldest (b.reads ++ b.writes)
  else
    let q := if b.drain || b.reads.isEmpty then b.writes else b.reads
    let lv := q.foldl (fun m e => min m e.level) 3
    let q := q.filter (fun e => e.level == lv)
    let hits := q.filter (fun e => b.openRow == some e.row)
    if hits.isEmpty then oldest q else oldest hits

/-- Drain mode after a change of the queues (R91, point 4). -/
def Bank.redrain (b : Bank) : Bank :=
  { b with drain := if 6 ≤ b.writes.length then true else if b.writes.length ≤ 2 then false else b.drain }

/-- Serve the picked entry of a bank: it leaves its queue, its row is open; an activate moves the rotating pointer (R92);
in-order mode ends when every write that arrived before the triggering read has been written (R93). -/
def serveOne (p bk : Nat) (s : State) : State :=
  match pick (s.bankOf p bk) with
  | none => s
  | some e =>
    let act := (s.bankOf p bk).openRow != some e.row
    let s := s.updBank p bk (fun b =>
      let b := { b with
        reads := b.reads.filter (fun x => x.seq != e.seq)
        writes := b.writes.filter (fun x => x.seq != e.seq)
        openRow := some e.row }
      let b := match b.inOrder with
        | some t => if b.writes.any (fun x => x.seq < t) then b else { b with inOrder := none }
        | none => b
      b.redrain)
    let s := s.when act (fun t => t.updPc p (fun x => { x with ptr := (bk + 1) % 48 }))
    (s.updPc p (fun x => { x with idleSince := s.now })).inorderShow p

/-- Serve a bank until the entry for `addr` has left its read queue. -/
def serveRead (p bk addr : Nat) : Nat → State → State
  | 0, s => s
  | f + 1, s =>
    if (s.bankOf p bk).reads.any (fun e => e.addr == addr) then serveRead p bk addr f (serveOne p bk s) else s

/-- A read of `n` bytes at `a` completes: its entries are served by their banks (R91). -/
def State.readServed (s : State) (a n : Nat) : State :=
  releaseHeld 16 ((chunksOf (n + 1) a n).foldl (fun t c =>
    let loc := hbmLoc c.1
    serveRead loc.pc loc.bank c.1 17 t) s)

/-- Serve the writes of a bank that R91 drains while its read queue is empty. -/
def drainWrites (p bk : Nat) : Nat → State → State
  | 0, s => s
  | f + 1, s =>
    if (s.bankOf p bk).reads.isEmpty && !(s.bankOf p bk).writes.isEmpty then drainWrites p bk f (serveOne p bk s) else s

/-- MEMC_ENQUEUE (R90): split into entries along chunk boundaries; wakes a sleeping pseudo-channel by its own command. -/
def memcEnqueue (wr : Bool) (addr len level : Nat) (s : State) : State :=
  if addr + len ≤ dirEnd then
    let s := enqueueAll wr level (chunksOf (len + 1) addr len) s
    s
  else s

/-- INORDER_EXIT (R93): the writes that arrived before the triggering read, and what arrived before them, are served in
arrival order. -/
def inorderExit (p bk : Nat) (s : State) : State :=
  match (s.bankOf p bk).inOrder with
  | none => s
  | some t =>
    let s := s.updBank p bk (fun b =>
      let lastW := (b.writes.filter (fun e => e.seq < t)).foldl (fun m e => max m e.seq) 0
      { b with
        writes := b.writes.filter (fun e => t < e.seq)
        reads := b.reads.filter (fun e => lastW < e.seq || (b.writes.all (fun w => t < w.seq)))
        inOrder := none }.redrain)
    releaseHeld 16 (s.inorderShow p)

/-! ## Refresh (R95, R96) -/

/-- Power state of a pseudo-channel. -/
def State.pcState (s : State) (p : Nat) : Nat := s.get (F.MEMC_PC_p_STATE_STATE p)

/-- One bank at a refresh interval: it refreshes if it has no queued entry and no open row, else its debt grows (R95). In
SELF_REFRESH and deeper the stack refreshes itself (R106). -/
def refreshBank (s : State) (key : Nat) : State :=
  let p := key / 48
  let b := s.bankOf p (key % 48)
  if 2 ≤ s.pcState p then s
  else if b.busy || b.openRow.isSome then
    let s := s.updBank p (key % 48) (fun b => { b with debt := b.debt + 1 })
    s.put F.MEMC_REF_DEBT_MAX_DEBT (max (s.get F.MEMC_REF_DEBT_MAX_DEBT) (min 15 (b.debt + 1)))
  else s

/-- REFRESH_INTERVAL (R95). A bank the state does not list is idle and closed, and refreshes. -/
def refreshInterval (s : State) : State := s.each (Tab.keys s.memc.banks) refreshBank

/-- REFRESH_ISSUE (R95): a bank with debt and no queued entry refreshes; its row is closed. -/
def refreshIssue (p bk : Nat) (s : State) : State :=
  let b := s.bankOf p bk
  if b.debt ≠ 0 ∧ !b.busy then s.updBank p bk (fun b => { b with debt := b.debt - 1, openRow := none }) else s

/-- REFRESH_ALL_BANK (R96): a bank debt of 8 closes every row and clears the debt of all 48 banks. -/
def refreshAllBank (p : Nat) (s : State) : State :=
  if (List.range 48).any (fun b => 8 ≤ (s.bankOf p b).debt) then
    let s := s.each (List.range 48) (fun t b => t.updBank p b (fun x => { x with debt := 0, openRow := none }))
    (s.bump R.MEMC_REFAB_CNT).put F.MEMC_EVENT_REFAB 1
  else s

/-- STACK_TEMP_CHANGE (R95): temperature `t` in °C. -/
def stackTemp (t : Int) (s : State) : State :=
  let was := s.is F.MEMC_STATUS_TEMP_HIGH
  let hi := decide (85 < t)
  let s := (s.put F.MEMC_TEMP_TEMP (toBits 8 t)).put F.MEMC_STATUS_TEMP_HIGH (b2n hi)
  s.when (hi && !was) (fun x => x.put F.MEMC_EVENT_TEMP_HIGH 1)

/-! ## Retraining (R101 to R105) -/

/-- The next pseudo-channel in turn that is not deeper than POWER_DOWN (R101, R105). -/
def State.nextTurn (s : State) : Option Nat :=
  ((List.range 32).map (fun i => (s.memc.turn + i) % 32)).find? (fun p => s.pcState p ≤ 1)

/-- Begin a session on a pseudo-channel. -/
def State.beginSession (s : State) (p : Nat) : State :=
  let s := (s.put F.MEMC_STATUS_RETRAINING 1).put F.MEMC_STATUS_RETRAIN_PC p
  { s with memc := { s.memc with slices := 0 } }

/-- RETRAIN_SESSION_START (R101): the periodic session, on the next pseudo-channel in turn. -/
def retrainStart (s : State) : State :=
  if s.is F.MEMC_RETRAIN_CTRL_ENABLE ∧ !s.is F.MEMC_STATUS_RETRAINING then
    match s.nextTurn with
    | none => s
    | some p => { s with memc := { s.memc with turn := (p + 1) % 32 } }.beginSession p
  else s

/-- RETRAIN_SLICE (R101): a training slice begins or ends. -/
def retrainSlice (start : Bool) (s : State) : State :=
  if s.is F.MEMC_STATUS_RETRAINING then
    let p := s.get F.MEMC_STATUS_RETRAIN_PC
    let s := s.put (F.MEMC_PC_p_STATE_TRAINING p) (b2n start)
    if start then { s with memc := { s.memc with slices := s.memc.slices + 1 } } else s
  else s

/-- RETRAIN_SESSION_END (R103, R104): the session ends; a requested session starts then. -/
def retrainEnd (ok : Bool) (s : State) : State :=
  if s.is F.MEMC_STATUS_RETRAINING then
    let p := s.get F.MEMC_STATUS_RETRAIN_PC
    let s := (s.put F.MEMC_STATUS_RETRAINING 0).put (F.MEMC_PC_p_STATE_TRAINING p) 0
    let s := s.bump R.MEMC_RETRAIN_CNT
    let s := s.when (!ok) (fun t => (t.bump R.MEMC_RETRAIN_FAIL).put F.MEMC_EVENT_RETRAIN_FAIL 1)
    match s.memc.startReq with
    | some q => { s with memc := { s.memc with startReq := none } }.beginSession q
    | none => s
  else s

/-- MEMC_RETRAIN_START (R103): a session on `p`, at once or at the end of the one that runs. -/
def retrainRequest (p : Nat) (s : State) : State :=
  if s.is F.MEMC_STATUS_RETRAINING then { s with memc := { s.memc with startReq := some p } } else s.beginSession p

/-- MEMC_RETRAIN_ENABLE_WRITE (R102): a write of MEMC_RETRAIN_CTRL. -/
def retrainCtrlWrite (v : Word) (s : State) : State :=
  let s := s.plainWrite R.MEMC_RETRAIN_CTRL v
  (s.put F.STRM_LEDGER_RSV_RETRAIN (if s.is F.MEMC_RETRAIN_CTRL_ENABLE then 384 else 0)).ledgerRefresh

/-! ## Power states (R106, R107) -/

/-- Exit latency of a power state in ns. -/
def exitLatency : Nat → Nat
  | 0 => 0
  | 1 => 30
  | 2 => 600
  | _ => 12000

/-- The deepest state that ALLOW and R77 permit (R106). -/
def State.deepest (s : State) : Nat :=
  let ok := fun st => (s.get F.MEMC_PWR_CTRL_ALLOW).testBit (st - 1) && decide (exitLatency st < s.num R.STRM_TOL_MIN)
  if ok 3 then 3 else if ok 2 then 2 else if ok 1 then 1 else 0

/-- PC_POWER_ENTER (R106): an idle pseudo-channel enters the deepest permitted state; its rows close. -/
def powerEnter (p : Nat) (s : State) : State :=
  if !s.pcBusy p ∧ !(s.pcOf p).waking ∧ !s.is (F.MEMC_PC_p_STATE_TRAINING p) ∧ s.pcState p < s.deepest then
    let d := s.deepest
    let s := s.each (List.range 48) (fun t b => t.updBank p b (fun x => { x with openRow := none }))
    s.put (F.MEMC_PC_p_STATE_STATE p) d
  else s

/-- PC_WAKE (R105, R107): a sleeping pseudo-channel begins its exit; deeper than POWER_DOWN it is retrained on the way. -/
def pcWake (p : Nat) (s : State) : State :=
  if s.pcState p ≠ 0 then
    let s := s.updPc p (fun x => { x with waking := true })
    s.when (decide (2 ≤ s.pcState p)) (fun t => t.put (F.MEMC_PC_p_STATE_TRAINING p) 1)
  else s

/-- PC_WAKE_DONE (R107): the exit latency has passed. -/
def pcWakeDone (p : Nat) (s : State) : State :=
  if (s.pcOf p).waking then
    let s := (s.put (F.MEMC_PC_p_STATE_STATE p) 0).put (F.MEMC_PC_p_STATE_TRAINING p) 0
    s.updPc p (fun x => { x with waking := false, idleSince := s.now })
  else s

/-- Bring out of their state the pseudo-channels that STRM_TOL_MIN no longer permits to sleep (R107). -/
def State.wakeForTol (s : State) : State :=
  s.each (List.range 32) (fun t p =>
    if t.pcState p ≠ 0 ∧ t.num R.STRM_TOL_MIN ≤ exitLatency (t.pcState p) then pcWakeDone p (pcWake p t) else t)

/-- ECC_WRITEBACK (R98): the corrected burst is written back once its bank is idle; the content does not change. -/
def eccWriteback (burst : Nat) (s : State) : State :=
  let loc := hbmLoc (32 * burst)
  if s.memc.writebacks.contains burst ∧ !(s.bankOf loc.pc loc.bank).busy then
    { s with memc := { s.memc with
      writebacks := s.memc.writebacks.filter (· != burst)
      ceBursts := s.memc.ceBursts.filter (· != burst) } }
  else s

/-! ## Meanings -/

def execEccWriteback (burst : Nat) (s : State) : Host.Outcome State Fault Refusal := .next (eccWriteback burst s)
def execMemcEnqueue (_r : Req) (wr : Bool) (addr len level : Nat) (s : State) : Host.Outcome State Fault Refusal :=
  .next (memcEnqueue wr addr len level s)
def execInorderExit (p : Cluster) (b : Fin 48) (s : State) : Host.Outcome State Fault Refusal :=
  .next (inorderExit p.val b.val s)
def execRefreshInterval (s : State) : Host.Outcome State Fault Refusal := .next (refreshInterval s)
def execRefreshIssue (p : Cluster) (b : Fin 48) (s : State) : Host.Outcome State Fault Refusal :=
  .next (refreshIssue p.val b.val s)
def execRefreshAllBank (p : Cluster) (s : State) : Host.Outcome State Fault Refusal := .next (refreshAllBank p.val s)
def execStackTempChange (t : Int) (s : State) : Host.Outcome State Fault Refusal := .next (stackTemp t s)
def execRetrainSessionStart (s : State) : Host.Outcome State Fault Refusal := .next (retrainStart s)
def execRetrainSlice (start : Bool) (s : State) : Host.Outcome State Fault Refusal := .next (retrainSlice start s)
def execRetrainSessionEnd (ok : Bool) (s : State) : Host.Outcome State Fault Refusal := .next (retrainEnd ok s)
def execMemcRetrainStart (p : Cluster) (s : State) : Host.Outcome State Fault Refusal := .next (retrainRequest p.val s)
def execMemcRetrainEnableWrite (v : Word) (s : State) : Host.Outcome State Fault Refusal := .next (retrainCtrlWrite v s)
def execPcPowerEnter (p : Cluster) (s : State) : Host.Outcome State Fault Refusal := .next (powerEnter p.val s)
def execPcWake (p : Cluster) (s : State) : Host.Outcome State Fault Refusal := .next (pcWake p.val s)
def execPcWakeDone (p : Cluster) (s : State) : Host.Outcome State Fault Refusal := .next (pcWakeDone p.val s)

end Sys2Proof.Machine
end

