-- ==== Sys2Proof/Machine/Tdc.lean ====
section
/-!
DEFINITION. Time-interval measurement (chapter 09). An edge command gives the coarse count at the sampling edge and the tap
that the edge has reached, on the unit's start or stop source; the unit qualifies, times and records it.
-/

namespace Sys2Proof.Machine

/-! ## Edges (R249, R256, R257) -/

/-- STATE encodings. -/
def tdcWait : Nat := 1
def tdcRun : Nat := 2
def tdcDone : Nat := 3
def tdcAborted : Nat := 4

/-- F(p) of R249 in 1/2048 ps: twice the widths before tap `p`, and the width of tap `p`. -/
def State.fine2 (s : State) (k u p : Nat) : Nat :=
  2 * ((List.range p).map (fun i => s.get (F.CLU_k_TDC_u_BIN_i_W k u i))).sum + s.get (F.CLU_k_TDC_u_BIN_i_W k u p)

/-- The event time in 0.125 ps: 5000 × C − round(F(p) / 128), ties away from 0 (R249). -/
def State.tdcTime (s : State) (k u c p : Nat) : Int := (5000 * c : Int) - ((s.fine2 k u p + 128) / 256 : Nat)

/-- A source fires on this chip (R256): a marker only where its octet is bound. -/
def State.srcFires (s : State) (k src : Nat) : Bool :=
  if src = 16 then (s.chanSite (16 * k)).isSome
  else if src = 17 then (s.chanSite (16 * k + 8)).isSome
  else true

/-- An edge of a polarity qualifies: channel sources look at the polarity, the others do not (R256). -/
def edgeOk (src pol : Nat) (fall : Bool) : Bool := 16 ≤ src || pol == 2 || (pol == 1) == fall

/-- An edge at `t` falls in the dead time of 1.25 ns after the latest accepted edge (R257). -/
def Tdc.dead (x : Tdc) (t : Int) : Bool :=
  match x.lastEdge with
  | none => false
  | some u => t < u + 10000

/-! ## Ends (R260, R261, R263) -/

/-- Set a bit of CLU_k_TDC_EVENT. -/
def State.tdcEvent (s : State) (k b : Nat) : State := s.putBit (R.CLU_k_TDC_EVENT k) b true

/-- A measurement ends naturally: a SINGLE one in DONE; a HIST one waits to be binned. -/
def State.tdcEnd (s : State) (k u : Nat) : State :=
  let s := s.tdcNote k
  if (s.tdcOf k u).hist then s.updTdc k u (fun x => { x with rearm := true })
  else (s.put (F.CLU_k_TDC_u_STATUS_STATE k u) tdcDone).tdcEvent k u

/-- A unit ends in ABORTED with a cause (R255, R261). -/
def State.tdcAbortUnit (s : State) (k u cause : Nat) : State :=
  let st := s.get (F.CLU_k_TDC_u_STATUS_STATE k u)
  if st = tdcWait ∨ st = tdcRun then
    let s := s.tdcNote k
    let s := (s.put (F.CLU_k_TDC_u_STATUS_STATE k u) tdcAborted).put (F.CLU_k_TDC_u_STATUS_ABORT_CAUSE k u) cause
    (s.updTdc k u (fun x => { x with rearm := false })).tdcEvent k (4 + u)
  else s

/-! ## Commands -/

/-- A code-density calibration of the cluster's units runs (R252, R255). -/
def State.tdcCal (s : State) (k : Nat) : Bool := s.get (F.CAL_CL_k_STATE_ACTIVE k) == 1

/-- TDC_ARM (R258): a write of ARM. -/
def tdcArm (k u : Nat) (s : State) : State :=
  let st := s.get (F.CLU_k_TDC_u_STATUS_STATE k u)
  let err := fun e => s.put (F.CLU_k_TDC_u_STATUS_ARM_ERR k u) e
  if st = tdcWait ∨ st = tdcRun then err 1
  else if s.tdcCal k then err 2
  else if s.get (F.CLU_k_TDC_u_CLOSE_NS k u) < s.get (F.CLU_k_TDC_u_OPEN_NS k u) then err 3
  else
    let s := s.clearRegs ([R.CLU_k_TDC_u_EARLY k u, R.CLU_k_TDC_u_EXTRA k u, R.CLU_k_TDC_u_MISSED k u,
      R.CLU_k_TDC_u_START_TIME_LO k u, R.CLU_k_TDC_u_START_TIME_HI k u, R.CLU_k_TDC_u_HIST_CNT k u,
      R.CLU_k_TDC_u_HIST_UNDER k u, R.CLU_k_TDC_u_HIST_OVER k u, R.CLU_k_TDC_u_HIST_NOSTOP k u] ++
      (List.range 16).flatMap (fun i => [R.CLU_k_TDC_u_STOP_i_LO k u i, R.CLU_k_TDC_u_STOP_i_HI k u i]) ++
      (List.range 256).map (R.CLU_k_TDC_u_HBIN_b k u))
    let s := s.putN (R.CLU_k_TDC_u_STATUS k u) tdcWait
    let c := fun f => s.get f
    let x : Tdc := {
      hist := c (F.CLU_k_TDC_u_CFG_MODE k u) == 1
      endFull := s.is (F.CLU_k_TDC_u_CFG_END_FULL k u)
      stopMax := c (F.CLU_k_TDC_u_CFG_STOP_MAX k u)
      tag := c (F.CLU_k_TDC_u_CFG_TAG k u)
      startSrc := c (F.CLU_k_TDC_u_CFG_START_SRC k u)
      startPol := c (F.CLU_k_TDC_u_CFG_START_POL k u)
      stopSrc := c (F.CLU_k_TDC_u_CFG_STOP_SRC k u)
      stopPol := c (F.CLU_k_TDC_u_CFG_STOP_POL k u)
      openNs := s.num (R.CLU_k_TDC_u_OPEN k u)
      closeNs := s.num (R.CLU_k_TDC_u_CLOSE k u)
      histBase := s.pair (R.CLU_k_TDC_u_HIST_BASE_LO k u)
      binw := c (F.CLU_k_TDC_u_HIST_CFG_BINW k u)
      histN := s.num (R.CLU_k_TDC_u_HIST_N k u)
      lastEdge := (s.tdcOf k u).lastEdge }
    (s.updTdc k u (fun _ => x)).tdcNote k

/-- TDC_ABORT (R261): a write of ABORT. -/
def tdcAbort (k u : Nat) (s : State) : State := s.tdcAbortUnit k u 1

/-- A write of CLU_k_TDC_u_CMD: ABORT applies where both are written (R261). -/
def State.tdcCmdWrite (s : State) (k u : Nat) (v : Word) : State :=
  if bitsOf v 1 1 = 1 then tdcAbort k u s else if bitsOf v 0 0 = 1 then tdcArm k u s else s

/-- TDC_START_EDGE (R258): an edge of the start source. -/
def tdcStart (k u c p : Nat) (fall : Bool) (s : State) : State :=
  let x := s.tdcOf k u
  if s.get (F.CLU_k_TDC_u_STATUS_STATE k u) = tdcWait ∧ s.srcFires k x.startSrc ∧ edgeOk x.startSrc x.startPol fall then
    let t := s.tdcTime k u c p
    if x.dead t then s.bump (R.CLU_k_TDC_u_MISSED k u)
    else
      let s := (s.put (F.CLU_k_TDC_u_STATUS_STATE k u) tdcRun).putPair (R.CLU_k_TDC_u_START_TIME_LO k u) s.now
      (s.updTdc k u (fun x => { x with start := t, lastEdge := some t })).tdcNote k
  else s

/-- TDC_STOP_EDGE (R257, R259): an edge of the stop source. -/
def tdcStop (k u c p : Nat) (fall : Bool) (s : State) : State :=
  let x := s.tdcOf k u
  if s.get (F.CLU_k_TDC_u_STATUS_STATE k u) = tdcRun ∧ !x.rearm ∧ s.srcFires k x.stopSrc ∧ edgeOk x.stopSrc x.stopPol fall then
    let t := s.tdcTime k u c p
    let i := (t - x.start).toNat
    if t < x.start then s
    else if x.dead t then s.bump (R.CLU_k_TDC_u_MISSED k u)
    else if 8000 * x.closeNs < i then s
    else
      let s := s.updTdc k u (fun x => { x with lastEdge := some t })
      let cnt := s.get (F.CLU_k_TDC_u_STATUS_COUNT k u)
      if i < 8000 * x.openNs then s.bump (R.CLU_k_TDC_u_EARLY k u)
      else if x.stopMax ≤ cnt then (s.bump (R.CLU_k_TDC_u_EXTRA k u)).put (F.CLU_k_TDC_u_STATUS_MORE k u) 1
      else
        let s := s.putN (R.CLU_k_TDC_u_STOP_i_LO k u cnt) (i % 2 ^ 32)
        let s := s.putN (R.CLU_k_TDC_u_STOP_i_HI k u cnt) (i / 2 ^ 32 % 2 ^ 12 + 2 ^ 16 * b2n fall)
        let s := s.put (F.CLU_k_TDC_u_STATUS_COUNT k u) (cnt + 1)
        s.when (x.endFull && cnt + 1 == x.stopMax) (fun t => t.tdcEnd k u)
  else s

/-- TDC_WINDOW_CLOSE (R260): the interval has reached CLOSE. -/
def tdcClose (k u : Nat) (s : State) : State :=
  if s.get (F.CLU_k_TDC_u_STATUS_STATE k u) = tdcRun ∧ !(s.tdcOf k u).rearm then s.tdcEnd k u else s

/-- TDC_HIST_REARM (R263): STOP_0 of a finished measurement is binned, and the unit re-arms or ends. -/
def tdcRearm (k u : Nat) (s : State) : State :=
  let x := s.tdcOf k u
  if s.get (F.CLU_k_TDC_u_STATUS_STATE k u) = tdcRun ∧ x.rearm then
    let i := s.num (R.CLU_k_TDC_u_STOP_i_LO k u 0) + 2 ^ 32 * s.get (F.CLU_k_TDC_u_STOP_i_HI_INTERVAL k u 0)
    let s :=
      if s.get (F.CLU_k_TDC_u_STATUS_COUNT k u) = 0 then s.bump (R.CLU_k_TDC_u_HIST_NOSTOP k u)
      else if i < x.histBase then s.bump (R.CLU_k_TDC_u_HIST_UNDER k u)
      else if x.histBase + 256 * 2 ^ x.binw ≤ i then s.bump (R.CLU_k_TDC_u_HIST_OVER k u)
      else s.bump (R.CLU_k_TDC_u_HBIN_b k u ((i - x.histBase) / 2 ^ x.binw))
    let s := (s.bump (R.CLU_k_TDC_u_HIST_CNT k u)).updTdc k u (fun x => { x with rearm := false })
    if x.histN ≠ 0 ∧ x.histN ≤ s.num (R.CLU_k_TDC_u_HIST_CNT k u) then
      (s.put (F.CLU_k_TDC_u_STATUS_STATE k u) tdcDone).tdcEvent k u
    else (s.put (F.CLU_k_TDC_u_STATUS_STATE k u) tdcWait).put (F.CLU_k_TDC_u_STATUS_COUNT k u) 0
  else s

/-! ## Meanings -/

def execTdcArm (k : Cluster) (u : Fin 4) (s : State) : Host.Outcome State Fault Refusal := .next (tdcArm k.val u.val s)
def execTdcAbort (k : Cluster) (u : Fin 4) (s : State) : Host.Outcome State Fault Refusal := .next (tdcAbort k.val u.val s)
def execTdcStartEdge (k : Cluster) (u : Fin 4) (c : Nat) (p : Fin 384) (fall : Bool) (s : State) :
    Host.Outcome State Fault Refusal := .next (tdcStart k.val u.val c p.val fall s)
def execTdcStopEdge (k : Cluster) (u : Fin 4) (c : Nat) (p : Fin 384) (fall : Bool) (s : State) :
    Host.Outcome State Fault Refusal := .next (tdcStop k.val u.val c p.val fall s)
def execTdcWindowClose (k : Cluster) (u : Fin 4) (s : State) : Host.Outcome State Fault Refusal :=
  .next (tdcClose k.val u.val s)
def execTdcHistRearm (k : Cluster) (u : Fin 4) (s : State) : Host.Outcome State Fault Refusal :=
  .next (tdcRearm k.val u.val s)

end Sys2Proof.Machine
end

