-- ==== Sys2Proof/Machine/Calib.lean ====
section
/-!
DEFINITION. Calibration and the Ephemeris (chapter 16). What an activity measures comes with the command that ends it; the
arbiter, the failure rules, the gradual application and the re-planning are the block's.
-/

namespace Sys2Proof.Machine

/-! ## Activities (R401, R406, R409) -/

def actTdc : Nat := 1
def actLevel : Nat := 2
def actFull : Nat := 3
def actSpan : Nat := 4

def nibRunning : Nat := 1
def nibDeferred : Nat := 2
def nibDone : Nat := 3
def nibFailed : Nat := 4
def nibBusy : Nat := 5
def nibInUse : Nat := 6
def nibBank : Nat := 7
def nibSafe : Nat := 8
def nibArm : Nat := 9
def nibCancelled : Nat := 10
def nibHeld : Nat := 11

/-- The nibble of an activity in CAL_CL_k_ACT. -/
def nibFld (k a : Nat) : Fld := ⟨R.CAL_CL_k_ACT k, 4 * a + 3, 4 * a⟩

/-- The nibble of an activity. -/
def State.nib (s : State) (k a : Nat) : Nat := s.get (nibFld k a)
/-- Record an outcome of an activity. -/
def State.setNib (s : State) (k a v : Nat) : State := s.put (nibFld k a) v
/-- The activity that runs on a cluster, 0 for none. -/
def State.calActive (s : State) (k : Nat) : Nat := s.get (F.CAL_CL_k_STATE_ACTIVE k)

def State.calOf (s : State) (k : Nat) : CalClu := Tab.get {} s.cal.clu k
def State.updCal (s : State) (k : Nat) (f : CalClu → CalClu) : State :=
  { s with cal := { s.cal with clu := Tab.set {} k (f (s.calOf k)) s.cal.clu } }
def State.updSpan (s : State) (f : CalSpan → CalSpan) : State := { s with cal := { s.cal with span := f s.cal.span } }

/-- Milliseconds that an activity lasts (R401). -/
def actMs (a : Nat) : Nat := if a = actTdc then 6 else if a = actLevel then 3 else if a = actFull then 14 else 40

/-- CAL_CL_k_STATE.REMAIN: milliseconds left in the running activity, rounded up. -/
def State.calRemain (s : State) (k : Nat) : Nat :=
  let a := s.calActive k
  if a = 0 then 0 else ceilDiv (1000000 * actMs a - (s.now - (s.calOf k).since)) 1000000

/-- Rule 2 of R406: the refusal of an intrusive activity. -/
def State.calRefusal (s : State) (k a : Nat) : Option Nat :=
  if a = actLevel ∨ a = actFull then
    if s.safe then some nibSafe
    else if s.get (F.CLU_k_BANK_CFG_VNOM k) = 0 ∨ !s.is (F.CLU_k_BANK_STATUS_IN_WINDOW k) then some nibBank
    else if s.cluArmed k then some nibInUse
    else none
  else none

/-- A refusal is recorded and counted. -/
def State.calRefuse (s : State) (k a v : Nat) : State := (s.setNib k a v).bump R.CAL_REFUSED_CNT

/-- An activity starts (R255, R206, R404). -/
def State.calStart (s : State) (k a : Nat) : State :=
  let s := (s.setNib k a nibRunning).put (F.CAL_CL_k_STATE_ACTIVE k) a
  let s := s.updCal k (fun c => { c with since := s.now, refBad := !s.refValid, applying := false })
  if a = actTdc then s.each (List.range 4) (fun t u => t.tdcAbortUnit k u 2)
  else if s.is (F.CLU_k_MC_STATUS_RUNNING k) then s
  else s.put (F.CLU_k_MC_STATUS_CAL k) 1

/-- The deferred activity with the lowest code starts, checked again against rule 2 of R406 (R407). -/
def calNext (k : Nat) : List Nat → State → State
  | [], s => s
  | a :: l, s =>
    if s.nib k a = nibDeferred ∨ (s.nib k a = nibHeld ∧ s.cal.span.site.isNone) then
      match s.calRefusal k a with
      | some r => calNext k l (s.calRefuse k a r)
      | none => s.calStart k a
    else calNext k l s

/-- The cluster carries an octet of the site whose SPAN_SKEW holds or waits. -/
def State.spanClu (s : State) (k : Nat) : Bool :=
  match s.cal.span.site with
  | some n => s.siteClu n k
  | none => false

/-- One request of an activity (R406, R413). -/
def calRequest (k a : Nat) (noqueue : Bool) (s : State) : State :=
  let v := s.nib k a
  if v = nibRunning ∨ v = nibDeferred ∨ v = nibHeld then s.bump R.CAL_DUP_CNT
  else if s.spanClu k then s.setNib k a nibHeld
  else
    match s.calRefusal k a with
    | some r => s.calRefuse k a r
    | none =>
      if s.calActive k = 0 then s.calStart k a
      else if noqueue then s.calRefuse k a nibBusy
      else s.setNib k a nibDeferred

/-- CAL_CANCEL (R407): the named activities leave DEFERRED. -/
def calCancel (k acts : Nat) (s : State) : State :=
  s.each [actTdc, actLevel, actFull] (fun t a =>
    if acts.testBit (a - 1) && (t.nib k a == nibDeferred || t.nib k a == nibHeld) then t.setNib k a nibCancelled else t)

/-- A write of CAL_CMD (R405 to R407): the requests of one write are made together. -/
def State.calCmdWrite (s : State) (v : Word) : State :=
  let k := bitsOf v 4 0
  let acts := bitsOf v 18 16
  if bitsOf v 19 19 = 1 then calCancel k acts s
  else s.each [actTdc, actLevel, actFull] (fun t a => if acts.testBit (a - 1) then calRequest k a (bitsOf v 20 20 == 1) t else t)

/-! ## The end of an activity (R403, R409, R410) -/

/-- The running activity of a cluster ends with a recorded outcome, and the next one starts. -/
def State.calEnd (s : State) (k a v : Nat) : State :=
  let s := (s.setNib k a v).put (F.CAL_CL_k_STATE_ACTIVE k) 0
  let s := s.put F.CAL_EVENT_DONE 1
  let s := s.when (v == nibFailed) (fun t => ((t.bump R.CAL_FAIL_CNT).put F.CAL_EVENT_FAIL 1).logEvent 15)
  let s := s.updCal k (fun c => { c with applying := false, refBad := false })
  let s := s.when (a == actTdc) (fun t => t.bump (R.CLU_k_TDC_CAL_CNT k))
  let s := if s.is (F.CLU_k_MC_STATUS_CAL k) then
      (s.put (F.CLU_k_MC_STATUS_CAL k) 0).mcNext k (some (s.get (F.CLU_k_MC_STATUS_CUR_CH k)))
    else s
  calNext k [actTdc, actLevel, actFull] s

/-- What slews: index 0 to 15 deskew, 16 to 31 comparator offset, 32 to 47 impedance, 48 to 207 gain and offset of the level
DACs, gain first, five levels per channel. -/
def slewFld (k i : Nat) : Fld :=
  if i < 16 then F.CAL_CL_k_CH_j_TRIM_DESKEW k i
  else if i < 32 then F.CAL_CL_k_CH_j_TRIM_CMP_OFS k (i - 16)
  else F.CAL_CL_k_CH_j_TRIM_ZTRIM k (i - 32)

/-- Width of a slewing field. -/
def slewBits (i : Nat) : Nat := if i < 16 then 12 else if i < 32 then 10 else 8

/-- The value in force of what slews. -/
def State.slewNow (s : State) (k i : Nat) : Int :=
  if i < 48 then sext (slewBits i) (s.get (slewFld k i)) else Tab.get 0 (s.calOf k).level i

/-- Set the value in force. -/
def State.slewSet (s : State) (k i : Nat) (v : Int) : State :=
  if i < 48 then s.put (slewFld k i) (toBits (slewBits i) v)
  else s.updCal k (fun c => { c with level := Tab.set 0 i v c.level })

/-- Set targets: the corrections move to them in steps (R410). -/
def State.slewTo (s : State) (k base : Nat) (vals : List Int) : State :=
  let l := vals.zipIdx.map (fun p => (base + p.2, p.1))
  let s := s.updCal k (fun c => { c with
    old := l.map (fun p => (p.1, s.slewNow k p.1))
    target := l.foldl (fun t p => Tab.ins p.1 p.2 t) c.target
    applying := true })
  s.put (F.CAL_CL_k_STATE_SLEWING k) 1

/-- A correction has reached its limits of R403: index and value. -/
def slewBad (i : Nat) (v : Int) : Bool :=
  if i < 16 then 2000 < v.natAbs
  else if i < 32 then 333 < v.natAbs
  else if i < 48 then !(-128 ≤ v && v ≤ 127)
  else if i % 2 = 0 then 10000 < v.natAbs
  else 166 < v.natAbs

/-- Bin widths of a unit from the hits of its taps (R252): round(640,000 × h / 4,194,304). -/
def binWidths (h : List Nat) : List Nat := h.map (fun x => (2 * 640000 * x + 4194304) / (2 * 4194304))

/-- SPAN of a unit (R253). -/
def binSpan (h : List Nat) : Nat := if 0 < h.getD 383 0 then 384 else (h.filter (0 < ·)).length

/-- The calibration of a unit fails (R253). -/
def binBad (h : List Nat) : Bool :=
  (binWidths h).any (4096 < ·) || binSpan h < 250 || 383 < binSpan h

/-- A code density of the cluster's units ends (R252, R253, R403). -/
def State.tdcCalEnd (s : State) (k : Nat) (hits : List (List Nat)) (bad : Bool) : State :=
  let fails := (List.range 4).filter (fun u => bad || binBad (hits.getD u []))
  if fails.isEmpty then
    let s := s.each (List.range 4) (fun t u =>
      let h := hits.getD u []
      let t := (binWidths h).zipIdx.foldl (fun t p => t.put (F.CLU_k_TDC_u_BIN_i_W k u p.2) p.1) t
      ((t.put (F.CLU_k_TDC_u_CAL_SPAN k u) (binSpan h)).put (F.CLU_k_TDC_u_CAL_FAIL k u) 0).put (F.CLU_k_TDC_u_CAL_VALID k u) 1)
    s.calEnd k actTdc nibDone
  else
    let s := s.each fails (fun t u => t.put (F.CLU_k_TDC_u_CAL_FAIL k u) 1)
    (s.put (F.CLU_k_TDC_EVENT_CAL_FAIL k) 1).calEnd k actTdc nibFailed

/-- CAL_ACTIVITY_END (R403, R409): what the running activity measured. `hits` are the hits of the 384 taps of the four units
(TDC_CD), `vals` the corrections (LEVEL_DAC: 160, CLUSTER_FULL: 48), `bad` says that a condition of R403 holds that the
corrections do not show. Results that apply in steps end the activity with their last step. -/
def calActivityEnd (k : Nat) (bad : Bool) (hits : List (List Nat)) (vals : List Int) (s : State) : State :=
  let c := s.calOf k
  let a := s.calActive k
  let bad := bad || c.refBad || !s.refValid
  if c.applying then s
  else if a = actTdc then
    if hits.length = 4 ∧ hits.all (fun h => h.length == 384) then s.tdcCalEnd k hits bad else s
  else if a = actLevel ∨ a = actFull then
    let base := if a = actLevel then 48 else 0
    if vals.length ≠ (if a = actLevel then 160 else 48) then s
    else if bad ∨ (vals.zipIdx.any (fun p => slewBad (base + p.2) p.1)) then s.calEnd k a nibFailed
    else s.slewTo k base vals
  else s

/-- An activity whose corrections are all applied is DONE (R410); a CLUSTER_FULL renews the reference of the drift (R418). -/
def State.calApplied (s : State) (k : Nat) : State :=
  let a := s.calActive k
  if (s.calOf k).applying ∧ (a = actLevel ∨ a = actFull) then
    let s := if a = actFull then
        let s := (s.put (F.CAL_CL_k_DRIFT_D_FULL k) (s.get (F.CAL_CL_k_DRIFT_D_NOW k))).putPair (R.CAL_CL_k_LAST_FULL_LO k) s.now
        s.put (F.CAL_CL_k_STATE_RECAL_DUE k) 0
      else s
    s.calEnd k a nibDone
  else s

/-- One step of a correction toward its target (R410). -/
def stepTo (v t : Int) : Int := if v < t then v + 1 else if t < v then v - 1 else v

/-- The corrections of channels that take this tick: those of one site, or the unbound ones. -/
def State.slewsHere (s : State) (k : Nat) (site : Option Nat) (i : Nat) : Bool :=
  let j := if i < 48 then i % 16 else (i - 48) / 10
  s.chanSite (16 * k + j) == site

/-- The span correction of a site moves one step (R410, R414). -/
def State.skewStep (s : State) (n : Nat) : State :=
  let v := sext 16 (s.get (F.CAL_SITE_n_SKEW_SKEW n))
  s.put (F.CAL_SITE_n_SKEW_SKEW n) (toBits 16 (stepTo v s.cal.span.target))

/-- CAL_SLEW_TICK (R410): a frame boundary of a site, or a 160 ns tick for unbound channels: every pending correction moves
one step. Tap-table scaling is applied at the tick as a whole. -/
def calSlewTick (k : Nat) (site : Option Nat) (s : State) : State :=
  let c := s.calOf k
  let due := c.target.filter (fun p => s.slewsHere k site p.1)
  let s := s.each due (fun t p => t.slewSet k p.1 (stepTo (t.slewNow k p.1) p.2))
  let s := s.updCal k (fun c => { c with
    target := c.target.filter (fun p => s.slewNow k p.1 != p.2)
    tap := c.tapNew.getD c.tap
    tapNew := none })
  let c := s.calOf k
  let s := if c.target.isEmpty then (s.put (F.CAL_CL_k_STATE_SLEWING k) 0).calApplied k else s
  s

/-- An intrusive activity ends with ABORTED_ARM; its results are discarded (R408). -/
def State.calAbortArm (s : State) (k : Nat) : State :=
  let a := s.calActive k
  if a = actLevel ∨ a = actFull then
    let c := s.calOf k
    let s := if c.applying then s.updCal k (fun c => { c with
        target := c.old.foldl (fun t p => Tab.ins p.1 p.2 t) c.target }) else s
    s.calEnd k a nibArm
  else s

/-! ## SPAN_SKEW (R412 to R415) -/

def spanNone : Nat := 0
def spanRunning : Nat := 1
def spanWaiting : Nat := 2
def spanDone : Nat := 3
def spanBusy : Nat := 4
def spanDisarm : Nat := 5
def spanNotPrimary : Nat := 6
def spanState : Nat := 7
def spanFailed : Nat := 8

/-- The GO of a span begins (R273): the primary asks every member. -/
def State.goAsk (s : State) (n : Nat) : State := s.spanAll n 1 [s.spanBlock n 0]

/-- SPAN_SKEW ends on this chip: the clusters are free, held activities follow, a waiting GO proceeds (R413, R415). -/
def State.spanEnd (s : State) (res : Nat) : State :=
  match s.cal.span.site with
  | none => s
  | some n =>
    let held := s.cal.span.holds
    let waits := s.cal.span.goWaits
    let s := s.updSpan (fun _ => {})
    let s := (s.put F.CAL_SPAN_STATUS_BUSY 0).put F.CAL_SPAN_STATUS_RESULT res
    let s := s.when ((s.siteOf n).role == 1) (fun t => t.put F.CAL_EVENT_SPAN_DONE 1)
    let s := s.when (res == spanFailed) (fun t => ((t.bump R.CAL_FAIL_CNT).put F.CAL_EVENT_FAIL 1).logEvent 15)
    let s := s.each (s.siteClus n) (fun t k =>
      let t := t.when (held && t.calActive k == actSpan) (fun u => u.put (F.CAL_CL_k_STATE_ACTIVE k) 0)
      if t.calActive k = 0 then calNext k [actTdc, actLevel, actFull] t else t)
    s.when (waits && s.siteState n == stStarting) (fun t => t.goAsk n)

/-- SPAN_SKEW takes every cluster of the site if all of them are free (R413). -/
def State.spanTake (s : State) (n : Nat) : State :=
  if (s.siteClus n).all (fun k => s.calActive k == 0) then
    let s := s.each (s.siteClus n) (fun t k =>
      (t.put (F.CAL_CL_k_STATE_ACTIVE k) actSpan).updCal k (fun c => { c with since := t.now }))
    s.updSpan (fun x => { x with holds := true, refBad := !s.refValid })
  else s

/-- CAL_SPAN_START (R412, R413): the request on the primary. No message type carries the request to the members (assumption
21): each member takes its clusters by its own SPAN_SKEW_HOLD. -/
def calSpanStart (n : Nat) (noqueue : Bool) (s : State) : State :=
  let s := s.put F.CAL_SPAN_STATUS_SITE n
  let x := s.siteOf n
  if (if s.armed n then x.role else s.get (F.SITE_n_SPAN_ROLE n)) ≠ 1 then s.put F.CAL_SPAN_STATUS_RESULT spanNotPrimary
  else if s.siteState n ≠ stArmed ∨ s.cal.span.site.isSome then s.put F.CAL_SPAN_STATUS_RESULT spanState
  else
    let s := s.updSpan (fun _ => { site := some n, since := s.now })
    let s := ((s.put F.CAL_SPAN_STATUS_BUSY 1).put F.CAL_SPAN_STATUS_RESULT spanWaiting).spanTake n
    if !s.cal.span.holds ∧ noqueue then s.spanEnd spanBusy else s

/-- A write of CAL_SPAN_CMD. -/
def State.calSpanWrite (s : State) (v : Word) : State :=
  if bitsOf v 31 31 = 1 then calSpanStart (bitsOf v 5 0) (bitsOf v 30 30 == 1) s else s

/-- SPAN_SKEW_HOLD (R413): a chip of the span takes the clusters of its site, or waits for them. -/
def spanSkewHold (n : Nat) (s : State) : State :=
  match s.cal.span.site with
  | some m => if m = n ∧ !s.cal.span.holds then s.spanTake n else s
  | none =>
    if s.siteState n = stArmed ∧ (s.siteOf n).role = 2 then
      let s := s.updSpan (fun _ => { site := some n, since := s.now })
      (((s.put F.CAL_SPAN_STATUS_SITE n).put F.CAL_SPAN_STATUS_BUSY 1).put F.CAL_SPAN_STATUS_RESULT spanWaiting).spanTake n
    else s

/-- SPAN_SKEW_BUSY_TIMEOUT (R413): a cluster of some member is still busy. -/
def spanBusyTimeout (s : State) : State :=
  if s.cal.span.site.isSome ∧ s.cal.span.count = 0 ∧ !s.cal.span.applying then s.spanEnd spanBusy else s

/-- SPAN_SKEW_BARRIER (R414): one barrier; `off` is the arrival less the departure less the latency on the hop toward the
primary, in 0.125 ps (0 on the primary itself, which sends the RELEASE). -/
def spanBarrier (off : Int) (s : State) : State :=
  match s.cal.span.site with
  | some n =>
    if s.cal.span.holds ∧ s.cal.span.count < 3968 then
      let s := s.updSpan (fun x => { x with sum := x.sum + off, count := x.count + 1 })
      let s := s.put F.CAL_SPAN_STATUS_RESULT spanRunning
      if (s.siteOf n).role = 1 then
        s.spanAll n 6 [s.spanBlock n 0, ceilTo 10 (s.tbVal 0 + 100 * s.get (F.SITE_n_TRANSIT_LEAD_LEAD n))]
      else s
    else s
  | none => s

/-- SPAN_SKEW_END (R403, R414, R415): the barriers have run; `up` is the sum of the mean offsets of the hops from the primary to
this chip's up-partner in 0.125 ps, `bad` says that another member failed. The correction is applied in steps. -/
def spanSkewEnd (up : Int) (bad : Bool) (s : State) : State :=
  match s.cal.span.site with
  | some n =>
    if s.cal.span.holds ∧ !s.cal.span.applying ∧ (s.cal.span.count = 3968 ∨ bad) then
      let (q, s) := s.roundFree 16 (-(up * 3968 + s.cal.span.sum)) (2 * 3968)
      if bad ∨ s.cal.span.refBad ∨ !s.refValid ∨ 800 < q.natAbs then s.spanEnd spanFailed
      else
        let s := (s.updSpan (fun x => { x with applying := true, target := q })).put (F.CAL_SITE_n_SKEW_VALID n) 1
        if q = sext 16 (s.get (F.CAL_SITE_n_SKEW_SKEW n)) then s.spanEnd spanDone else s
    else s
  | none => s

/-- The tick of a site moves its span correction; the activity ends with the last step (R401, R410). -/
def State.spanSlew (s : State) (site : Option Nat) : State :=
  match s.cal.span.site, site with
  | some n, m =>
    if s.cal.span.applying ∧ (m = none ∨ m = some n) then
      let s := s.skewStep n
      if sext 16 (s.get (F.CAL_SITE_n_SKEW_SKEW n)) = s.cal.span.target then s.spanEnd spanDone else s
    else s
  | none, _ => s

/-- A DISARM or the loss of a member ends SPAN_SKEW of a site (R415). -/
def State.spanAbort (s : State) (n res : Nat) : State := if s.cal.span.site = some n then s.spanEnd res else s

/-! ## The Ephemeris (R416 to R419) -/

/-- Drift of cluster `k` in ppm from its stressed and reference counts (R416); none where a count leaves no ratio. -/
def driftOf (k : Nat) (c : Nat × Nat) : Option Int :=
  let r0 := Config.fuseRatio k
  let num : Int := 1000000 * ((r0.1 * c.2 : Nat) - (r0.2 * c.1 : Nat) : Int)
  let den := r0.2 * c.1
  if den = 0 then none else some (nearest num den)

/-- The drift of a cluster, a free value where the counts leave no ratio. -/
def State.driftRead (s : State) (k : Nat) (c : Nat × Nat) : Int × State :=
  match driftOf k c with
  | some d => (d, s)
  | none => let r := s.freeBits 15; (r.1, r.2)

/-- Record the drift of one cluster (R416 to R418). -/
def State.driftSet (s : State) (k : Nat) (d : Int) : State :=
  let full := sext 16 (s.get (F.CAL_CL_k_DRIFT_D_FULL k))
  let s := s.put (F.CAL_CL_k_DRIFT_D_NOW k) (toBits 16 d)
  let s := s.updCal k (fun c => { c with sum := c.sum + d, reads := c.reads + 1, tapNew := some (d, full) })
  let s := s.put (F.CAL_CL_k_STATE_SLEWING k) 1
  s.when (decide (s.get F.CAL_EPH_CFG_RECAL_PPM < (d - full).natAbs)) (fun t => t.put (F.CAL_CL_k_STATE_RECAL_DUE k) 1)

/-- The drift of a cluster as it stands. -/
def State.driftNow (s : State) (k : Nat) : Int := sext 16 (s.get (F.CAL_CL_k_DRIFT_D_NOW k))

/-- The cluster with the largest value, the lowest number winning a tie. -/
def worstOf (f : Nat → Int) : Nat := (List.range 32).foldl (fun m k => if f m < f k then k else m) 0

/-- EPH_READ (R416, R418): the counts of the stressed and the reference oscillator of every cluster. -/
def ephRead (counts : List (Nat × Nat)) (s : State) : State :=
  if !s.refValid then s.bump R.CAL_EPH_SKIP
  else if counts.length ≠ 32 then s
  else
    let s := counts.zipIdx.foldl (fun t p =>
      let r := t.driftRead p.2 p.1
      r.2.driftSet p.2 r.1) s
    let w := worstOf s.driftNow
    (s.put F.CAL_EPH_DMAX_PPM (toBits 16 (s.driftNow w))).put F.CAL_EPH_STATUS_WORST w

/-- Change the ledger's content; a commit is due (R464). -/
def State.updLedger (s : State) (f : Ledger → Ledger) : State :=
  { s with mgmt := { s.mgmt with ledger := f s.mgmt.ledger, commit := true } }

/-- D_k of a stored record. -/
def recDrift (r : List Byte) (k : Nat) : Int := sext 16 (leNat ((r.drop (16 + 2 * k)).take 2))
/-- The mean of the WORST cluster of a stored record. -/
def recWorst (r : List Byte) : Int := recDrift r ((r.getD 14 0).toNat)

/-- The means of the month, rounded as R416 rounds; a cluster that was never read has a free value. -/
def State.monthMeans (s : State) : List Int × State :=
  (List.range 32).foldl (fun (acc : List Int × State) k =>
    let c := acc.2.calOf k
    if c.reads = 0 then let r := acc.2.freeBits 15; (acc.1 ++ [(r.1 : Int)], r.2)
    else let r := acc.2.roundFree 15 c.sum c.reads; (acc.1 ++ [r.1], r.2)) ([], s)

/-- The change of the WORST mean and the days it took (R419): against two months earlier, against the month before, or none. -/
def slopeOf (d : Int) : List (List Byte) → Int × Nat
  | [] => (0, 30)
  | [p] => (d - recWorst p, 30)
  | p2 :: _ :: [] => (d - recWorst p2, 60)
  | _ :: l => slopeOf d l

/-- The records held, oldest first. -/
def State.ephKept (s : State) : List (List Byte) :=
  let l := s.mgmt.ledger
  (List.range l.ephCount).map (fun i => Tab.get [] l.eph ((l.ephNext + 64 - l.ephCount + i) % 64))

/-- The margins of R419: days to zero where DERATE_SOON holds, from M, the change and its days. -/
def daysToZero (m diff : Int) (days : Nat) : Option Nat :=
  if 0 < m ∧ 0 < diff ∧ m * days ≤ 90 * diff then some (m * days / diff).toNat else none

/-- EPH_RECORD (R417, R419): the record of the month, and the margins re-planned. -/
def ephRecord (s : State) : State :=
  let (means, s) := s.monthMeans
  let w := worstOf (fun k => means.getD k 0)
  let reads := ((List.range 32).map (fun k => (s.calOf k).reads)).foldl min 4320
  let dmax := sext 16 (s.get F.CAL_EPH_DMAX_PPM)
  let limit : Int := s.get F.CAL_EPH_CFG_LIMIT
  let m := limit - dmax
  let (diff, days) := slopeOf (means.getD w 0) s.ephKept
  let s := match daysToZero m diff days with
    | some d => ((s.put F.CAL_EPH_STATUS_DERATE_SOON 1).put F.CAL_EVENT_EPH_DERATE_SOON 1).put F.CAL_EPH_STATUS_DAYS_TO_ZERO d
    | none => (s.put F.CAL_EPH_STATUS_DERATE_SOON 0).put F.CAL_EPH_STATUS_DAYS_TO_ZERO 0xFFFF
  let s := s.when (decide (m ≤ 0)) (fun t => t.put F.CAL_EPH_STATUS_DERATED 1)
  let (slope, s) := s.roundFree 16 (diff * 30) days
  let s := s.put F.CAL_EPH_SLOPE_PPM (toBits 16 slope)
  let s := s.put F.CAL_EPH_RATED_MVEC (min 3200 (3200 * (1000000 + limit) / (1000000 + dmax)).toNat)
  let s := s.put F.CAL_EPH_GUARD_GUARD (20 + ceilDiv (max 0 dmax).toNat 2500)
  let l := s.mgmt.ledger
  let flags := 4 * b2n (decide (reads < 2160)) + 2 * s.get F.CAL_EPH_STATUS_DERATED + s.get F.CAL_EPH_STATUS_DERATE_SOON
  let rec_ := leBytes 8 s.rtcSec ++ leBytes 4 s.powered ++ leBytes 2 l.ephTotal ++ leBytes 1 w ++ leBytes 1 flags ++
    means.flatMap (fun d => leBytes 2 (toBits 16 d))
  let s := s.updLedger (fun l => { l with
    eph := Tab.ins l.ephNext rec_ l.eph
    ephNext := (l.ephNext + 1) % 64
    ephCount := min 64 (l.ephCount + 1)
    ephTotal := l.ephTotal + 1 })
  let s := s.each (List.range 32) (fun t k => t.updCal k (fun c => { c with sum := 0, reads := 0 }))
  (s.putN R.CAL_EPH_RECORDS (l.ephTotal + 1)).put F.CAL_EVENT_EPH_RECORD 1

/-! ## Meanings -/

def execCalRequestTdcCd (k : Cluster) (noqueue : Bool) (s : State) : Host.Outcome State Fault Refusal :=
  .next (calRequest k.val actTdc noqueue s)
def execCalRequestLevelDac (k : Cluster) (noqueue : Bool) (s : State) : Host.Outcome State Fault Refusal :=
  .next (calRequest k.val actLevel noqueue s)
def execCalRequestClusterFull (k : Cluster) (noqueue : Bool) (s : State) : Host.Outcome State Fault Refusal :=
  .next (calRequest k.val actFull noqueue s)
def execCalCancel (k : Cluster) (acts : Fin 8) (s : State) : Host.Outcome State Fault Refusal := .next (calCancel k.val acts.val s)
def execCalActivityEnd (k : Cluster) (bad : Bool) (hits : List (List Nat)) (vals : List Int) (s : State) :
    Host.Outcome State Fault Refusal := .next (calActivityEnd k.val bad hits vals s)
def execCalSlewTick (k : Cluster) (site : Option Nat) (s : State) : Host.Outcome State Fault Refusal :=
  .next ((calSlewTick k.val site s).spanSlew site)
def execCalSpanStart (n : Site) (noqueue : Bool) (s : State) : Host.Outcome State Fault Refusal :=
  .next (calSpanStart n.val noqueue s)
def execSpanSkewHold (n : Site) (s : State) : Host.Outcome State Fault Refusal := .next (spanSkewHold n.val s)
def execSpanSkewBusyTimeout (s : State) : Host.Outcome State Fault Refusal := .next (spanBusyTimeout s)
def execSpanSkewBarrier (off : Int) (s : State) : Host.Outcome State Fault Refusal := .next (spanBarrier off s)
def execSpanSkewEnd (up : Int) (bad : Bool) (s : State) : Host.Outcome State Fault Refusal := .next (spanSkewEnd up bad s)
def execEphRead (counts : List (Nat × Nat)) (s : State) : Host.Outcome State Fault Refusal := .next (ephRead counts s)
def execEphRecord (s : State) : Host.Outcome State Fault Refusal := .next (ephRecord s)

end Sys2Proof.Machine
end

