-- ==== Sys2Proof/Machine/Sites.lean ====
section
/-!
DEFINITION. Sites and spans (chapter 10): arming and disarming across the blocks, GO, Transit barriers, span flags, member
loss and span results.
-/

namespace Sys2Proof.Machine

/-! ## Arm checks (R267) -/

def armSpanCfg : Nat := 7

/-- The octets that SITE_n_OCT names (R265). -/
def State.octReg (s : State) (n : Nat) : List Nat := bitList 64 (s.pair (R.SITE_n_OCT_LO n))

/-- The span configuration of a site breaks R267. -/
def State.spanCfgBad (s : State) (n : Nat) : Bool :=
  let role := s.get (F.SITE_n_SPAN_ROLE n)
  let chips := s.get (F.SITE_n_SPAN_GEOM_CHIPS n)
  let index := s.get (F.SITE_n_SPAN_GEOM_INDEX n)
  role != 0 && (s.get (F.SITE_n_SPAN_SPAN_ID n) == 0 || chips < 2 || chips ≤ index || (role == 1 && index != 0) ||
    s.get (F.SITE_n_SPAN_PATH_HOPS n) == 0)

/-- The checks of an arm in the order of R267. -/
def State.siteCheck (s : State) (n : Nat) : Nat :=
  let octs := s.octReg n
  let clus := (octs.map (· / 2)).dedup
  let chans := octs.flatMap (fun o => (List.range 8).map (fun j => 8 * o + j))
  let role := s.get (F.SITE_n_SPAN_ROLE n)
  let others := siteNums.filter (fun m => m != n && s.holds m)
  if !s.ready then 0x02
  else if s.safe then 0x03
  else if s.siteState n ≠ stIdle then 0x04
  else if octs.isEmpty then 0x05
  else if others.any (fun m => (s.siteOf m).octs.any octs.contains) then 0x06
  else if s.spanCfgBad n then armSpanCfg
  else if role ≠ 0 ∧ others.any (fun m => (s.siteOf m).role != 0 && (s.siteOf m).spanId == s.get (F.SITE_n_SPAN_SPAN_ID n)) then 0x08
  else if chans.any (fun c => s.ppMode c != 0) then 0x09
  else if clus.any (fun k => s.get (F.CLU_k_BANK_CFG_VNOM k) == 0 || !s.is (F.CLU_k_BANK_STATUS_IN_WINDOW k)) then 0x0A
  else if !tsetArmOk s n octs then 0x0B
  else if 2 ≤ strmCheck s n octs.length role then 0x0C
  else if captCheck s n ≠ 0 then 0x0D
  else strmCheck s n octs.length role

/-- The binding and the span configuration sampled at SITE_ARM (R265, R302). -/
def State.siteSample (s : State) (n res : Nat) : SiteSt := {
  octs := s.octReg n
  role := s.get (F.SITE_n_SPAN_ROLE n)
  spanId := s.get (F.SITE_n_SPAN_SPAN_ID n)
  index := s.get (F.SITE_n_SPAN_GEOM_INDEX n)
  chips := s.get (F.SITE_n_SPAN_GEOM_CHIPS n)
  primary := s.get (F.SITE_n_SPAN_PRIMARY_CHIP n)
  hops := s.get (F.SITE_n_SPAN_PATH_HOPS n)
  dtransit := s.is (F.SITE_n_SPAN_DOMAIN_TRANSIT n)
  collLimit := s.num (R.TSET_SITE_n_COLL_LIMIT n)
  cmd := 1
  armRes := res }

/-- A command written while BUSY is 1 is refused (R267). -/
def State.siteCmd (s : State) (n : Nat) (f : State → State) : State :=
  if s.is (F.SITE_n_STATUS_BUSY n) then s.put (F.SITE_n_EVENT_CMD_REFUSED n) 1 else f s

/-- SITE_ARM (R267): the checks run; an arm that passes takes its streaming resources. -/
def siteArm (n : Nat) (s : State) : State :=
  s.siteCmd n (fun s =>
    let r := s.siteCheck n
    let octs := s.octReg n
    let s := s.put (F.SITE_n_STATUS_BUSY n) 1
    let s := if r = 0x0C then
        (s.put (F.STRM_SITE_n_STATUS_ARM_RESULT n) (strmCheck s n octs.length (s.get (F.SITE_n_SPAN_ROLE n)))).put
          F.STRM_EVENT_ARM_REFUSED 1
      else s
    let s := if r = 0x0D then
        (s.put (F.STRM_SITE_n_STATUS_ARM_RESULT n) (strmCheck s n octs.length (s.get (F.SITE_n_SPAN_ROLE n)))).put
          (F.CAPT_SITE_n_STATUS_ARM_RESULT n) (captCheck s n)
      else s
    if r ≤ 1 then
      let x := s.siteSample n r
      let s := (s.updSite n (fun _ => x)).put (F.CAPT_SITE_n_STATUS_ARM_RESULT n) 0
      let s := s.updCapt n (fun c => { c with
        base := s.get (F.CAPT_SITE_n_BUF_BASE n)
        pages := s.get (F.CAPT_SITE_n_BUF_PAGES n) })
      s.strmArm n octs.length r
    else s.updSite n (fun x => { x with cmd := 1, armRes := r }))

/-- Registers that arming clears: of the context (R149), of the site (R302), of its timing sets (R156) and of the governor (R400). -/
def armClears (n : Nat) : List Nat :=
  [R.SEQ_CTX_n_STATE n, R.SEQ_CTX_n_PC_DRW n, R.SEQ_CTX_n_PC_IDX n, R.SEQ_CTX_n_CURSOR n, R.SEQ_CTX_n_PLAY_DRW n,
   R.SEQ_CTX_n_PLAY_GRAN n, R.SEQ_CTX_n_HALT_DRW n, R.SEQ_CTX_n_HALT_IDX n, R.SEQ_CTX_n_FLAGS n, R.SEQ_CTX_n_SETS n,
   R.SEQ_CTX_n_SHADOW n, R.SEQ_CTX_n_SHADOW_PAD n, R.SEQ_CTX_n_VEC_SHORT n, R.SEQ_CTX_n_ENDL_EMPTY n,
   R.SEQ_CTX_n_SIG_REFUSED n, R.SEQ_CTX_n_TAKEN n, R.SEQ_CTX_n_ART_STALL n] ++
  (List.range 8).map (R.SEQ_CTX_n_LOOP_k n) ++
  (List.range 16).flatMap (fun j => [R.SEQ_CTX_n_STK_j_DRW n j, R.SEQ_CTX_n_STK_j_IDX n j, R.SEQ_CTX_n_STK_j_CUR n j]) ++
  [R.SITE_n_SPAN_RESULT n, R.SITE_n_SLIP_CNT n, R.SITE_n_T0_LO n, R.SITE_n_T0_HI n] ++
  (List.range 8).map (R.SITE_n_MISS_MAP_w n) ++
  [R.TSET_SITE_n_COLL_CNT n, R.TSET_SITE_n_STATUS n, R.GOV_SITE_n_CHARGE n, R.GOV_SITE_n_STATUS n, R.GOV_SITE_n_WAIT n]

/-- The context after an arm: run-ahead enters the entry drawer (R84, R109, R149). -/
def State.ctxArm (s : State) (n : Nat) : State :=
  let ts := s.get (F.SEQ_CTX_n_CFG_INIT_TSET n)
  let ls := s.get (F.SEQ_CTX_n_CFG_INIT_LEVELS n)
  let id := s.get (F.SEQ_CTX_n_ENTRY_DRW_ID n)
  let goff := s.get (F.SEQ_CTX_n_ENTRY_GOFF_GOFF n)
  let main : Path := { stop := .none, tset := ts, tset0 := ts, lastTset := ts }
  let s := s.updSeq n (fun _ => {
    entryDrw := id
    entryGoff := goff
    spec := s.get (F.SEQ_CTX_n_CFG_SPEC_FRAMES n)
    initTset := ts
    initLevels := ls
    main := main
    play := { tset := ts, levels := ls } })
  let s := s.updStrm n (fun y => { y with streams := Tab.ins 0 {} y.streams })
  let s := s.each (s.siteChans n) (fun t c => (t.updChan c (fun x => { x with
    evs := []
    drvOn := false
    enabled := false
    lastLvl := none
    lastEn := none
    lastStb := none
    site := some n })).setLevels c ls t.nowQ)
  (s.setsShow n).enter n none main id goff

/-- SITE_ARM_DONE (R267, R408): the arm completes. -/
def siteArmDone (n : Nat) (s : State) : State :=
  let x := s.siteOf n
  if x.cmd = 1 then
    let s := ((s.put (F.SITE_n_STATUS_BUSY n) 0).put (F.SITE_n_EVENT_CMD_DONE n) 1).put (F.SITE_n_STATUS_ARM_RESULT n) x.armRes
    let s := s.updSite n (fun x => { x with cmd := 0 })
    if x.armRes ≤ 1 then
      let s := (s.clearRegs (armClears n)).ecArm n x.octs
      let s := s.setSiteState n stArmed
      let s := (s.put (F.SITE_n_STATUS_GO_RESULT n) 0).put (F.SITE_n_EVENT_GO_LATE n) 0
      let s := (s.put (F.SEQ_CTX_n_STATE_SPAN_ROLE n) x.role).put (F.SEQ_CTX_n_SPAN_LAT_NS n)
        (if x.role = 0 then 160 else 240 + 60 * (x.hops - 1))
      let s := (s.setWord (R.CAL_SITE_n_SKEW n) 0).updGov n (fun _ => {
        emax := s.num (R.GOV_SITE_n_EMAX n)
        dur := s.num (R.GOV_SITE_n_DUR n) })
      let s := (s.captArm n).ctxArm n
      s.each (s.siteClus n) State.calAbortArm
    else s
  else s

/-! ## DISARM (R268) -/

/-- SITE_DISARM (R268, R415): a site that plays halts at its next granule boundary, one that waits at once. -/
def siteDisarm (n : Nat) (s : State) : State :=
  s.siteCmd n (fun s =>
    let s := (s.put (F.SITE_n_STATUS_BUSY n) 1).updSite n (fun x => { x with cmd := 2 })
    let s := s.spanAbort n spanDisarm
    let st := s.siteState n
    if st = stRunning ∨ st = stStarting ∨ st = stWait then seqAbort n s else s)

/-- SITE_DISARM_DONE (R268): the site is IDLE and holds nothing. -/
def siteDisarmDone (n : Nat) (s : State) : State :=
  let st := s.siteState n
  if (s.siteOf n).cmd = 2 ∧ (st = stIdle ∨ st = stArmed ∨ st = stHalted) then
    let s := if st = stIdle then s
      else
        let s := ((s.artClear n).strmDisarm n).ecDisarm n
        let s := (s.chargeRelease n).lanesHalt n
        let s := s.each (s.siteChans n) (fun t c => t.updChan c (fun x => { x with
          evs := []
          drvOn := false
          site := none }))
        let s := (s.setWord (R.CAL_SITE_n_SKEW n) 0).updSeq n (fun _ => {})
        s.setSiteState n stIdle
    let s := s.updSite n (fun _ => {})
    (s.put (F.SITE_n_STATUS_BUSY n) 0).put (F.SITE_n_EVENT_CMD_DONE n) 1
  else s

/-! ## GO (R272 to R274) -/

/-- GO completes with a result. -/
def State.goResult (s : State) (n r : Nat) : State :=
  (s.put (F.SITE_n_STATUS_GO_RESULT n) r).put (F.SITE_n_EVENT_CMD_DONE n) 1

/-- SITE_GO (R272, R273, R415). -/
def siteGo (n : Nat) (s : State) : State :=
  s.siteCmd n (fun s =>
    let x := s.siteOf n
    if s.siteState n ≠ stArmed then s.goResult n 2
    else if x.role = 2 then s.goResult n 3
    else
      let s := (s.setSiteState n stStarting).updSite n (fun x => { x with
        goAt := s.now
        tgo := none
        answers := []
        readySent := false })
      if x.role = 0 then s
      else if s.cal.span.site = some n then s.updSpan (fun c => { c with goWaits := true })
      else s.goAsk n)

/-- T_go or T_rel: the first multiple of 10 ns at or after now + LEAD × 100 ns on TB0. -/
def State.leadTime (s : State) (lead : Nat) : Nat := ceilTo 10 (s.tbVal 0 + 100 * lead)

/-- The GO of a span ends before a start: the primary sends GO_CANCEL and every member stays ARMED (R274). -/
def State.goCancel (s : State) (n r : Nat) : State :=
  let s := (s.spanAll n 4 [s.spanBlock n 0]).goResult n r
  (s.setSiteState n stArmed).updSite n (fun x => { x with answers := [], readySent := false, tgo := none })

/-- The primary takes an answer (R273, R274). -/
def State.goAnswer (s : State) (n idx lat chips : Nat) : State :=
  let x := s.siteOf n
  if x.answers.any (fun a => a.1 == idx) then s
  else if lat ≠ s.get (F.SEQ_CTX_n_SPAN_LAT_NS n) ∨ chips ≠ x.chips then s.goCancel n 5
  else
    let s := s.updSite n (fun x => { x with answers := x.answers ++ [(idx, lat, chips)] })
    if x.chips ≤ x.answers.length + 1 then
      let t := s.leadTime (s.get (F.SITE_n_GO_CFG_LEAD n))
      (s.spanAll n 3 [s.spanBlock n 0, t]).updSite n (fun x => { x with tgo := some t })
    else s

/-- Both conditions of R272 hold. -/
def State.goReady (s : State) (n : Nat) : Bool :=
  (!s.is (F.SITE_n_GO_CFG_WAIT_PRIMED n) || s.is (F.STRM_SITE_n_FLAGS_PRIMED n)) && s.get (F.GOV_SITE_n_STATUS_STATE n) == 2

/-- GO_SCHEDULE (R272, R273): both conditions hold; a stand-alone site sets T_go, a span member answers. -/
def goSchedule (n : Nat) (s : State) : State :=
  let x := s.siteOf n
  if s.siteState n = stStarting ∧ x.tgo.isNone ∧ !x.readySent ∧ !s.cal.span.goWaits ∧ s.goReady n then
    if x.role = 0 then s.updSite n (fun x => { x with tgo := some (s.leadTime (s.get (F.SITE_n_GO_CFG_LEAD n))) })
    else
      let lat := s.get (F.SEQ_CTX_n_SPAN_LAT_NS n)
      let s := s.updSite n (fun x => { x with readySent := true })
      if x.role = 1 then s.goAnswer n x.index lat x.chips
      else s.spanSend x.primary 2 [s.spanIdxBlock n (lat * 2 ^ 24 + x.chips)]
  else s

/-- SITE_START (R272): T_go is reached. -/
def siteStart (n : Nat) (s : State) : State :=
  match (s.siteOf n).tgo with
  | some t =>
    if s.siteState n = stStarting then
      let s := ((s.putPair (R.SITE_n_T0_LO n) t).goResult n 1).updSite n (fun x => { x with tgo := none, seqNo := 0, flagsIn := [] })
      s.startPlay n
    else s
  | none => s

/-- GO_TIMEOUT (R274). -/
def goTimeout (n : Nat) (s : State) : State :=
  let x := s.siteOf n
  if s.siteState n = stStarting ∧ x.role = 1 ∧ x.tgo.isNone ∧ s.get (F.SITE_n_GO_CFG_TMO n) ≠ 0 then
    (s.goCancel n 4).updSpan (fun c => if c.site = some n then { c with goWaits := false } else c)
  else s

/-- The armed site of this chip that a span ID names. -/
def State.spanSite (s : State) (sp : Nat) : Option Nat :=
  siteNums.find? (fun n => s.armed n && (s.siteOf n).role != 0 && (s.siteOf n).spanId == sp)

/-- A span message that the primary sends to every member: it is passed on, and the site of the span on this chip takes it
(assumption 20). -/
def State.spanIn (s : State) (k ttl sp src typ : Nat) (blocks : List Nat) (f : Nat → State → State) : State :=
  let s := s.passOn k ttl { cls := clsTransit, mcast := true, dest := sp, src := src, ttl := ttl, typ := typ, blocks := blocks }
  match s.spanSite sp with
  | some n => f n s
  | none => s

/-- A message of a member is noted for R284. -/
def State.hear (s : State) (n idx : Nat) : State := s.updSite n (fun x => { x with heard := Tab.ins idx s.now x.heard })

/-- GO_REQ (R273): a member starts; it asks for admission before it answers. -/
def goReq (k ttl sp src : Nat) (s : State) : State :=
  s.spanIn k ttl sp src 1 [sp * 2 ^ 48] (fun n s =>
    let s := s.hear n 0
    if s.siteState n = stArmed ∧ (s.siteOf n).role = 2 then
      (s.setSiteState n stStarting).updSite n (fun x => { x with goAt := s.now, tgo := none, readySent := false })
    else s)

/-- A unicast message of a span: taken here, or routed on. -/
def State.unicastIn (s : State) (m : Msg) (f : State → State) : State :=
  match s.route m.dest with
  | .here => f s
  | _ => if s.is F.ULT_STATUS_TOO_DEEP then s else s.sendTo m

/-- GO_READY (R273, R274). -/
def goReadyIn (dest src sp idx lat chips : Nat) (s : State) : State :=
  s.unicastIn { cls := clsTransit, mcast := false, dest := dest, src := src, ttl := 0, typ := 2,
                blocks := [sp * 2 ^ 48 + idx * 2 ^ 40 + lat * 2 ^ 24 + chips] } (fun s =>
    match s.spanSite sp with
    | some n =>
      let s := s.hear n idx
      if s.siteState n = stStarting ∧ (s.siteOf n).role = 1 ∧ (s.siteOf n).tgo.isNone then s.goAnswer n idx lat chips else s
    | none => s)

/-- GO (R273, R274): a member learns T_go, or halts before its first vector where it is late. -/
def goIn (k ttl sp src t : Nat) (s : State) : State :=
  s.spanIn k ttl sp src 3 [sp * 2 ^ 48, t] (fun n s =>
    let s := s.hear n 0
    if s.siteState n = stStarting ∧ (s.siteOf n).role = 2 then
      if t < s.tbVal 0 + 100 then
        (((s.put (F.SITE_n_STATUS_GO_RESULT n) 6).put (F.SITE_n_EVENT_GO_LATE n) 1).put (F.SITE_n_EVENT_CMD_DONE n) 1).asyncHalt n hcAbort
      else s.updSite n (fun x => { x with tgo := some t })
    else s)

/-- GO_CANCEL (R274): a member stays ARMED. -/
def goCancelIn (k ttl sp src : Nat) (s : State) : State :=
  s.spanIn k ttl sp src 4 [sp * 2 ^ 48] (fun n s =>
    let s := s.hear n 0
    if s.siteState n = stStarting ∧ (s.siteOf n).role = 2 then
      (s.setSiteState n stArmed).updSite n (fun x => { x with tgo := none, readySent := false })
    else s)

/-! ## Transit (R275 to R278) -/

/-- ARRIVE (R275). -/
def arriveIn (dest src sp idx : Nat) (s : State) : State :=
  s.unicastIn { cls := clsTransit, mcast := false, dest := dest, src := src, ttl := 0, typ := 5,
                blocks := [sp * 2 ^ 48 + idx * 2 ^ 40] } (fun s =>
    match s.spanSite sp with
    | some n => if (s.siteOf n).role = 1 then (s.hear n idx).arrival n idx else s
    | none => s)

/-- RELEASE (R275, R276). -/
def releaseIn (k ttl sp src t : Nat) (s : State) : State :=
  s.spanIn k ttl sp src 6 [sp * 2 ^ 48, t] (fun n s =>
    let s := s.hear n 0
    match (s.playOf n).wait with
    | .trStop 0 _ _ => if (s.siteOf n).arrived then s.release n t else s
    | _ => s)

/-- DT_ARRIVE (R277): counted at the root, passed up elsewhere. -/
def dtArriveIn (src site : Nat) (s : State) : State :=
  if s.isRoot then s.dtArrival
  else
    match s.upPort with
    | some u =>
      if s.is F.ULT_STATUS_TOO_DEEP then s
      else s.sendOn u { cls := clsTransit, mcast := false, dest := 0, src := src, ttl := 0, typ := 7, blocks := [site] }
    | none => s

/-- DT_RELEASE (R277): forwarded down, and the waiting sites take T_rel. -/
def dtReleaseIn (src t : Nat) (s : State) : State :=
  let s := if s.is F.ULT_STATUS_TOO_DEEP then s else s.sendAll s.downPorts
    { cls := clsTransit, mcast := true, dest := 0, src := src, ttl := 0, typ := 8, blocks := [t] }
  s.dtRelease t

/-- TRANSIT_RESUME (R275, R276): T_rel is reached. -/
def transitResume (n : Nat) (s : State) : State :=
  match (s.siteOf n).trel with
  | some t =>
    if s.siteState n = stWait then
      let s := (s.putPair (R.SITE_n_T0_LO n) t).updSite n (fun x => { x with trel := none, arrived := false })
      s.resumePlay n
    else s
  | none => s

/-- TRANSIT_TIMEOUT (R137): the barrier does not release within TIMEOUT. -/
def transitTimeout (n : Nat) (s : State) : State :=
  match (s.playOf n).wait with
  | .trStop _ _ _ => if s.siteState n = stWait then s.haltSite n hcTransit (s.playOf n).trAt false else s
  | _ => s

/-! ## Span flags (R279 to R283) -/

/-- The site slips (R281, R283): the members in `miss` count as missing. -/
def State.spanSlip (s : State) (n : Nat) (miss : List Nat) : State :=
  let s := ((s.invalidate n causeSlip).put (F.SITE_n_EVENT_SPAN_SLIP n) 1).bump (R.SITE_n_SLIP_CNT n)
  s.each miss (fun t i => t.putBit (R.SITE_n_MISS_MAP_w n (i / 32)) (i % 32) true)

/-- The values of a span decision that have arrived, by index. -/
def SiteSt.valuesOf (x : SiteSt) (q : Nat) : List (Nat × Nat) :=
  x.flagsIn.filterMap (fun f => if f.1 = q then some (f.2.1, f.2.2) else none)

/-- SPAN_FLAG_DEADLINE (R280, R283): the deadline of the oldest span decision that is not combined passes. The values of the
members are combined, the member's own standing for each that is missing. -/
def spanFlagDeadline (n : Nat) (s : State) : State :=
  let p := s.playOf n
  match p.decs.find? (fun d => d.seq.isSome && d.comb.isNone) with
  | none => s
  | some d =>
    if !d.known p then s
    else
      let q := d.seq.getD 0 % 2 ^ 16
      let x := s.siteOf n
      let got := x.valuesOf q
      let own := if d.flag = 2 then d.fail else d.mtch
      let bit := if d.flag = 2 then 0 else 1
      let vals := got.map (fun g => g.2.testBit bit)
      let miss := (List.range x.chips).filter (fun i => i != x.index && !got.any (fun g => g.1 == i))
      let v := if d.flag = 2 then own || vals.any id else own && vals.all id
      let s := s.updSite n (fun x => { x with flagsIn := x.flagsIn.filter (fun f => f.1 != q) })
      let s := s.updPlay n (fun p => { p with decs := p.decs.map (fun e => if e.seq = d.seq then { e with comb := some v } else e) })
      if miss.isEmpty then s else s.spanSlip n miss

/-- The message of a decision is in time: its decision is open and not combined, or still ahead. -/
def State.flagOpen (s : State) (n q : Nat) : Bool :=
  match (s.playOf n).decs.find? (fun d => d.seq.isSome && d.seq.getD 0 % 2 ^ 16 == q) with
  | some d => d.comb.isNone
  | none => (q + 2 ^ 16 - (s.siteOf n).seqNo % 2 ^ 16) % 2 ^ 16 < 2 ^ 15

/-- A WAITCORE notice is late: it arrives after the end of hold granule `g` + L − 60 ns (R281). -/
def State.noticeLate (s : State) (n g : Nat) : Bool :=
  let p := s.playOf n
  match p.wait with
  | .core _ _ _ t0 _ _ _ _ =>
    let per := s.sitePer n p.tset
    decide ((p.origin + t0 + g * 32 * per) / 32000 + (s.get (F.SEQ_CTX_n_SPAN_LAT_NS n) - 60) < s.now)
  | _ => true

/-- FLAGS (R279, R281, R282): of a decision, or with `notice` of a WAITCORE that ended on the primary. -/
def flagsMsg (k ttl sp src idx q bits : Nat) (notice : Option Nat) (s : State) : State :=
  let b := sp * 2 ^ 48 + idx * 2 ^ 40 + q * 2 ^ 24 + bits
  let s := s.passOn k ttl { cls := clsFlag, mcast := true, dest := sp, src := src, ttl := ttl, typ := 1,
                            blocks := b :: (match notice with
                              | some g => [g]
                              | none => []) }
  match s.spanSite sp with
  | none => s
  | some n =>
    let s := s.hear n idx
    match notice with
    | none =>
      if s.playing n && s.flagOpen n q then
        s.updSite n (fun x => { x with flagsIn := x.flagsIn.filter (fun f => !(f.1 == q && f.2.1 == idx)) ++ [(q, idx, bits)] })
      else s.bump (R.SITE_n_SLIP_CNT n)
    | some g =>
      match (s.playOf n).wait, (s.siteOf n).coreNotice with
      | .core _ _ _ _ _ _ _ none, none =>
        let late := s.noticeLate n g
        let s := s.updSite n (fun x => { x with coreNotice := some (g, late) })
        if late then s.spanSlip n [0] else s
      | _, _ => s.bump (R.SITE_n_SLIP_CNT n)

/-! ## Member loss and halts (R284 to R286) -/

/-- HEARTBEAT_TIMER (R284). -/
def heartbeatTimer (n : Nat) (s : State) : State :=
  if s.armed n ∧ (s.siteOf n).role ≠ 0 then s.spanCast n 2 [s.spanIdxBlock n 0] else s

/-- HEARTBEAT (R284). -/
def heartbeat (k ttl sp src idx : Nat) (s : State) : State :=
  let s := s.passOn k ttl { cls := clsFlag, mcast := true, dest := sp, src := src, ttl := ttl, typ := 2,
                            blocks := [sp * 2 ^ 48 + idx * 2 ^ 40] }
  match s.spanSite sp with
  | some n => s.hear n idx
  | none => s

/-- MEMBER_LOST (R284, R415): no message of a member for 1 ms. -/
def memberLost (n idx : Nat) (s : State) : State :=
  let x := s.siteOf n
  if s.armed n ∧ x.role ≠ 0 ∧ idx < x.chips ∧ idx ≠ x.index ∧ !x.lost.contains idx then
    let s := (s.putBit (R.SITE_n_MISS_MAP_w n (idx / 32)) (idx % 32) true).put (F.SITE_n_EVENT_MEMBER_LOST n) 1
    let s := (s.updSite n (fun x => { x with lost := x.lost ++ [idx] })).spanAbort n spanFailed
    let st := s.siteState n
    if st = stRunning then s.updSeq n (fun c => { c with spanLost := true })
    else if st = stWait then s.asyncHalt n hcSpanLost
    else s
  else s

/-- HALTED (R274, R285, R286). -/
def haltedMsg (k ttl sp src idx word : Nat) (s : State) : State :=
  let s := s.passOn k ttl { cls := clsFlag, mcast := true, dest := sp, src := src, ttl := ttl, typ := 3,
                            blocks := [sp * 2 ^ 48 + idx * 2 ^ 40 + word] }
  match s.spanSite sp with
  | none => s
  | some n =>
    let s := (s.hear n idx).updSite n (fun x => { x with words := Tab.ins idx word x.words })
    let st := s.siteState n
    let s := if st = stStarting then s.asyncHalt n hcAbort
      else if st = stRunning then s.updSeq n (fun c => { c with spanLost := true })
      else if st = stWait then s.asyncHalt n hcSpanLost
      else s
    if s.siteState n = stHalted then s.spanCheck n else s

/-- SPAN_RESULT_TIMEOUT (R286): 1 ms after its own halt. -/
def spanResultTimeout (n : Nat) (s : State) : State :=
  let x := s.siteOf n
  if x.role = 1 ∧ s.siteState n = stHalted ∧ !x.spanDone then s.spanFinish n else s

/-- A write of SITE_n_CMD. -/
def State.siteCmdWrite (s : State) (n : Nat) (v : Word) : State :=
  let op := bitsOf v 1 0
  if op = 1 then siteArm n s else if op = 2 then siteDisarm n s else if op = 3 then siteGo n s
  else s.siteCmd n id

/-! ## Meanings -/

def execSiteNop (n : Site) (s : State) : Host.Outcome State Fault Refusal := .next (s.siteCmd n.val id)
def execSiteArm (n : Site) (s : State) : Host.Outcome State Fault Refusal := .next (siteArm n.val s)
def execSiteArmDone (n : Site) (s : State) : Host.Outcome State Fault Refusal := .next (siteArmDone n.val s)
def execSiteDisarm (n : Site) (s : State) : Host.Outcome State Fault Refusal := .next (siteDisarm n.val s)
def execSiteDisarmDone (n : Site) (s : State) : Host.Outcome State Fault Refusal := .next (siteDisarmDone n.val s)
def execSiteGo (n : Site) (s : State) : Host.Outcome State Fault Refusal := .next (siteGo n.val s)
def execGoSchedule (n : Site) (s : State) : Host.Outcome State Fault Refusal := .next (goSchedule n.val s)
def execSiteStart (n : Site) (s : State) : Host.Outcome State Fault Refusal := .next (siteStart n.val s)
def execGoTimeout (n : Site) (s : State) : Host.Outcome State Fault Refusal := .next (goTimeout n.val s)
def execGoReq (k : Port) (ttl sp src : Nat) (s : State) : Host.Outcome State Fault Refusal := .next (goReq k.val ttl sp src s)
def execGoReady (dest src sp idx lat chips : Nat) (s : State) : Host.Outcome State Fault Refusal :=
  .next (goReadyIn dest src sp idx lat chips s)
def execGo (k : Port) (ttl sp src t : Nat) (s : State) : Host.Outcome State Fault Refusal := .next (goIn k.val ttl sp src t s)
def execGoCancel (k : Port) (ttl sp src : Nat) (s : State) : Host.Outcome State Fault Refusal :=
  .next (goCancelIn k.val ttl sp src s)
def execArrive (dest src sp idx : Nat) (s : State) : Host.Outcome State Fault Refusal := .next (arriveIn dest src sp idx s)
def execRelease (k : Port) (ttl sp src t : Nat) (s : State) : Host.Outcome State Fault Refusal :=
  .next (releaseIn k.val ttl sp src t s)
def execDtArrive (src : Nat) (site : Site) (s : State) : Host.Outcome State Fault Refusal := .next (dtArriveIn src site.val s)
def execDtRelease (src t : Nat) (s : State) : Host.Outcome State Fault Refusal := .next (dtReleaseIn src t s)
def execTransitResume (n : Site) (s : State) : Host.Outcome State Fault Refusal := .next (transitResume n.val s)
def execTransitTimeout (n : Site) (s : State) : Host.Outcome State Fault Refusal := .next (transitTimeout n.val s)
def execFlags (k : Port) (ttl sp src idx q bits : Nat) (notice : Option Nat) (s : State) : Host.Outcome State Fault Refusal :=
  .next (flagsMsg k.val ttl sp src idx q bits notice s)
def execSpanFlagDeadline (n : Site) (s : State) : Host.Outcome State Fault Refusal := .next (spanFlagDeadline n.val s)
def execHeartbeatTimer (n : Site) (s : State) : Host.Outcome State Fault Refusal := .next (heartbeatTimer n.val s)
def execHeartbeat (k : Port) (ttl sp src idx : Nat) (s : State) : Host.Outcome State Fault Refusal :=
  .next (heartbeat k.val ttl sp src idx s)
def execMemberLost (n : Site) (idx : Set8) (s : State) : Host.Outcome State Fault Refusal := .next (memberLost n.val idx.val s)
def execHalted (k : Port) (ttl sp src idx : Nat) (word : Word) (s : State) : Host.Outcome State Fault Refusal :=
  .next (haltedMsg k.val ttl sp src idx word.toNat s)
def execSpanResultTimeout (n : Site) (s : State) : Host.Outcome State Fault Refusal := .next (spanResultTimeout n.val s)

end Sys2Proof.Machine
end

