-- ==== Sys2Proof/Machine/Time.lean ====
section
/-!
DEFINITION. Time bases and network time (chapter 14): folds, steps and reads of the bases, the servo over Ulten, holdover
and fallback, and IEEE 1588 timestamps on the Ethernet port.
-/

namespace Sys2Proof.Machine

/-! ## Time bases (R373 to R378) -/

/-- Update the hidden part of base `i`. -/
def State.updTb (s : State) (i : Nat) (f : TBase → TBase) : State :=
  { s with tb := Tab.set {} i (f (Tab.get {} s.tb i)) s.tb }

/-- OFFSET of base `i` as a signed number. -/
def State.tbOffset (s : State) (i : Nat) : Int := sext 64 (s.pair (R.TIME_TB_i_OFFSET_LO i))

/-- Add to OFFSET of base `i`, modulo 2^64. -/
def State.tbAdd (s : State) (i : Nat) (d : Int) : State := s.putPair (R.TIME_TB_i_OFFSET_LO i) (toBits 64 (s.tbOffset i + d))

/-- A new rate: the correction so far is folded into the offset, its fraction kept (R374). -/
def State.tbNewRate (s : State) (i : Nat) (v : Word) : State :=
  let c := s.tbCorr i
  let s := s.tbAdd i (c / 2 ^ 44)
  (s.setWord (R.TIME_TB_i_RATE i) v).updTb i (fun _ => { anchor := s.now, frac := (c % 2 ^ 44).toNat })

/-- TB0 is governed: the chip follows SYNCs of its up-port, or TB0 follows a fallback base (R378). -/
def State.tb0Governed (s : State) : Bool :=
  s.is F.TIME_STATUS_FALLBACK_ACTIVE || (!s.isRoot && s.upPort.isSome && !s.is F.TIME_STATUS_HOLDOVER)

/-- A dropped write (R378). -/
def State.timeDrop (s : State) : State := s.bump R.TIME_WR_DROP

/-- TIME_RATE_WRITE (R374, R378). -/
def timeRateWrite (i : Nat) (v : Word) (s : State) : State := if i = 0 then s.timeDrop else s.tbNewRate i v

/-- A committed write of the OFFSET pair of base `i` (R374, R378). -/
def State.offsetCommit (s : State) (i : Nat) (v : Nat) : State :=
  if i = 0 ∧ s.tb0Governed then s.timeDrop
  else
    let v := if i = 0 then toBits 64 (nearest10 (sext 64 v)) else v
    (s.putPair (R.TIME_TB_i_OFFSET_LO i) v).updTb i (fun b => { b with anchor := s.now })

/-- A committed write of the ADJ pair of base `i` (R374, R378). -/
def State.adjCommit (s : State) (i : Nat) (v : Nat) : State :=
  if i = 0 ∧ s.tb0Governed then s.timeDrop
  else s.tbAdd i (if i = 0 then nearest10 (sext 64 v) else sext 64 v)

/-- TIME_OFFSET_WRITE: the _LO write of a requester, which commits and clears the staged high word (R19). -/
def timeOffsetWrite (r : Req) (i : Nat) (v : Word) (s : State) : State :=
  let p := s.takeStaged r
  p.2.offsetCommit i (v.toNat + 2 ^ 32 * p.1.toNat)

/-- TIME_ADJ_WRITE. -/
def timeAdjWrite (r : Req) (i : Nat) (v : Word) (s : State) : State :=
  let p := s.takeStaged r
  p.2.adjCommit i (v.toNat + 2 ^ 32 * p.1.toNat)

/-- TIME_CTRL.FORMAT as it reads (R376). -/
def State.legacy (s : State) : Bool := s.compat 2 || s.is F.TIME_CTRL_FORMAT

/-- A time in the LONG form: NS, SECL and SECH (R375). -/
def longForm (v : Nat) : Nat × Nat × Nat :=
  let sec := v / 10 ^ 9
  (v % 10 ^ 9, sec % 2 ^ 32, sec / 2 ^ 32 % 2 ^ 16)

/-- A time in the format in force. -/
def State.format (s : State) (v : Nat) : Nat × Nat × Nat := if s.legacy then (v % 2 ^ 32, 0, 0) else longForm v

/-- TIME_TB_NS_READ (R375). -/
def timeTbNsRead (r : Req) (i : Nat) (s : State) : State :=
  let f := s.format (s.tbVal i)
  s.updRq r (fun c => { c with
    rword := BitVec.ofNat 32 f.1
    secl := Tab.set 0 i (BitVec.ofNat 32 f.2.1) c.secl
    sech := Tab.set 0 i (BitVec.ofNat 32 f.2.2) c.sech })

/-! ## Fallback (R382) -/

/-- TIME_STEP_CNT and EVENT.STEP. -/
def State.stepped (s : State) : State := (s.bump R.TIME_STEP_CNT).put F.TIME_EVENT_STEP 1

/-- A step of TB0 by `d`: LOCKED clears at any correction. -/
def State.tb0Step (s : State) (d : Int) : State :=
  if d = 0 then s
  else { (s.tbAdd 0 d).stepped.put F.TIME_STATUS_LOCKED 0 with time := { s.time with clean := 0 } }

/-- The step toward the fallback base. -/
def State.fallbackAdd (s : State) : State :=
  s.tb0Step (nearest10 (sext 64 (toBits 64 ((s.tbVal (s.get F.TIME_CTRL_FALLBACK) : Int) - s.tbVal 0))))

/-- TB0 begins or ceases to follow the fallback base that TIME_CTRL names: on the root always, elsewhere in holdover. -/
def State.fallbackUpdate (s : State) : State :=
  let want := s.get F.TIME_CTRL_FALLBACK != 0 && (s.isRoot || s.is F.TIME_STATUS_HOLDOVER)
  let on := s.is F.TIME_STATUS_FALLBACK_ACTIVE
  if want && !on then (s.put F.TIME_STATUS_FALLBACK_ACTIVE 1).stepped.fallbackAdd
  else if on && !want then (s.put F.TIME_STATUS_FALLBACK_ACTIVE 0).stepped
  else s

/-- FALLBACK_STEP (R382). -/
def fallbackStep (s : State) : State := if s.is F.TIME_STATUS_FALLBACK_ACTIVE then s.fallbackAdd else s

/-- A write of TIME_CTRL (R376, R382): FORMAT ignores writes while TIME32 is 1. -/
def State.timeCtrlWrite (s : State) (v : Word) : State :=
  let s := s.put F.TIME_CTRL_FALLBACK (bitsOf v 5 4)
  (if s.compat 2 then s else s.put F.TIME_CTRL_FORMAT (bitsOf v 0 0)).fallbackUpdate

/-! ## Discipline over Ulten (R379 to R382) -/

/-- A message between neighbours (R379). -/
def State.timeMsg (s : State) (typ : Nat) (blocks : List Nat) : Msg :=
  { cls := clsTime, mcast := false, dest := 0, src := s.chipId, ttl := 0, typ := typ, blocks := blocks }

/-- SYNC_SEND_TIMER (R380): the root sends SYNC on every trained down-port. -/
def syncSendTimer (s : State) : State :=
  if s.isRoot then s.sendAll s.downPorts (s.timeMsg 1 [s.tbVal 0, 0]) else s

/-- A quotient rounded to the nearest integer; which way a tie goes is not stated and is free. -/
def State.roundNearest (s : State) (num : Int) (den : Nat) : Int × State :=
  if (2 * num) % (2 * den) = den then
    let r := s.freeBits 1
    (num / den + r.1, r.2)
  else (nearest num den, s)

/-- SYNC (R380, R381): header T_root and CORR; `res` is the time in ps that the chip takes to send SYNC on. -/
def syncMsg (k t corr res : Nat) (s : State) : State :=
  if s.isRoot ∨ s.upPort ≠ some k then s
  else
    let p := corr + s.get (F.ULT_Pk_LAT_PS k)
    let q := s.roundNearest p 1000
    let s := q.2
    let e : Int := sext 64 (toBits 64 ((t : Int) + q.1 - s.tbVal 0))
    let s := s.putN R.TIME_TB0_ERR (toBits 32 (max (-(2 ^ 31 - 1)) (min (2 ^ 31 - 1) e)))
    let d := nearest10 e
    let s := (s.put F.TIME_STATUS_HOLDOVER 0).fallbackUpdate
    let s := if d ≠ 0 then s.tb0Step d
      else
        let c := min 4 (s.time.clean + 1)
        let s := { s with time := { s.time with clean := c } }
        s.when (c == 4) (fun u => u.put F.TIME_STATUS_LOCKED 1)
    if s.is F.ULT_STATUS_TOO_DEEP then s
    else s.sendAll s.downPorts (s.timeMsg 1 [t, (p + res) % 2 ^ 48])

/-- ECHO_TIMER (R380). -/
def echoTimer (s : State) : State := s.sendAll ((List.range 4).filter s.portLive) (s.timeMsg 2 [s.now % 2 ^ 64])

/-- ECHO_REQ (R379): `res` is the residence in ps. -/
def echoReq (k t res : Nat) (s : State) : State :=
  if s.portLive k then s.sendOn k (s.timeMsg 3 [t, res % 2 ^ 32]) else s

/-- ULT_Pk_LAT and LONG (R271, R298). -/
def State.setLat (s : State) (k ps : Nat) : State :=
  (s.putN (R.ULT_Pk_LAT k) (ps % 2 ^ 20)).put (F.ULT_Pk_STATUS_LONG k) (b2n (decide (20000 < ps % 2 ^ 20)))

/-- ECHO_RSP (R380): half of the round trip less the responder residence. -/
def echoRsp (k t res : Nat) (s : State) : State :=
  let r := s.roundFree 20 (1000 * ((s.now : Int) - t) - res) 2
  r.2.setLat k r.1.toNat

/-- SYNC_MISSED (R382): HOLD_CNT intervals have passed without a SYNC. -/
def syncMissed (s : State) : State :=
  if s.isRoot ∨ s.is F.TIME_STATUS_HOLDOVER then s
  else
    let s := (s.put F.TIME_STATUS_HOLDOVER 1).put F.TIME_EVENT_HOLDOVER 1
    let s := (s.put F.TIME_STATUS_LOCKED 0).bump R.TIME_SYNC_MISS
    { s with time := { s.time with clean := 0 } }.fallbackUpdate

/-! ## IEEE 1588 (R383 to R385) -/

/-- Big-endian number of `n` bytes at offset `i` of a frame, 0 past its end. -/
def frameBe (d : List Byte) (i n : Nat) : Nat :=
  (List.range n).foldl (fun a j => a * 256 + (d.getD (i + j) 0).toNat) 0

/-- The `n` bytes of a number, big-endian. -/
def beBytes (n v : Nat) : List Byte := (leBytes n v).reverse

/-- Replace bytes of a frame from offset `i`. -/
def frameSet (d : List Byte) (i : Nat) (b : List Byte) : List Byte := d.take i ++ b ++ d.drop (i + b.length)

/-- Where the PTP header of an event message begins in a frame under TRANSPORT, after the layouts of IEEE 802.3, IPv4, UDP and
IEEE 1588, which the spec names (PRESUMED). -/
def State.ptpAt (s : State) (d : List Byte) : Option Nat :=
  if s.get F.TIME_PTP_CFG_TRANSPORT = 0 then
    if frameBe d 12 2 = 0x88F7 then some 14 else none
  else
    let udp := 14 + 4 * (frameBe d 14 1 % 16)
    if frameBe d 12 2 = 0x0800 ∧ frameBe d 14 1 / 16 = 4 ∧ frameBe d 23 1 = 17 ∧ frameBe d (udp + 2) 2 = 319 then some (udp + 8)
    else none

/-- The event message of a frame: header offset and messageType, Sync (0) or Delay_Req (1), while EN is 1. -/
def State.ptpEvent (s : State) (d : List Byte) : Option (Nat × Nat) :=
  if s.is F.TIME_PTP_CFG_EN then
    match s.ptpAt d with
    | some h =>
      let t := frameBe d h 1 % 16
      if t ≤ 1 ∧ h + 34 ≤ d.length then some (h, t) else none
    | none => none
  else none

/-- An entry enters the transmit timestamp queue, or is dropped while 16 are held (R384, R385). -/
def State.tsqPush (s : State) (e : TsEntry) : State :=
  if 16 ≤ s.time.tsq.length then
    ((s.bump R.TIME_TSQ_DROP).put F.TIME_TSQ_STATUS_OVF 1).put F.TIME_EVENT_TSQ_OVF 1
  else
    let q := s.time.tsq ++ [e]
    (({ s with time := { s.time with tsq := q } }.put F.TIME_TSQ_STATUS_COUNT q.length)).put F.TIME_EVENT_TSQ_AVAIL 1

/-- ETH_FRAME_TRANSMIT (R383): an event message gets a queue entry, or with ONE_STEP its originTimestamp. -/
def ethFrameTransmit (d : List Byte) (s : State) : State :=
  let send := fun (s : State) (d : List Byte) => { s with time := { s.time with frames := s.time.frames ++ [d] } }
  match s.ptpEvent d with
  | none => send s d
  | some (h, t) =>
    let v := s.tbVal (s.get F.TIME_PTP_CFG_TB)
    let two := (d.getD (h + 6) 0).toNat.testBit 1
    if t = 1 ∨ two then
      let f := s.format v
      (send s d).tsqPush { typ := t, seq := frameBe d (h + 30) 2, ns := f.1, secl := f.2.1, sech := f.2.2 }
    else if s.is F.TIME_PTP_CFG_ONE_STEP then
      let f := longForm v
      let d := frameSet d (h + 34) (beBytes 2 f.2.2 ++ beBytes 4 f.2.1 ++ beBytes 4 f.1)
      send s (if s.get F.TIME_PTP_CFG_TRANSPORT = 1 then frameSet d (h - 2) [0, 0] else d)
    else send s d

/-- ETH_FRAME_RECEIVE (R469): the frame behind its 16-byte header. -/
def ethFrameReceive (d : List Byte) (ok : Bool) (s : State) : State :=
  let f := match s.ptpEvent d with
    | some _ => s.format (s.tbVal (s.get F.TIME_PTP_CFG_TB))
    | none => (0, 0, 0)
  let h := leBytes 2 d.length ++ leBytes 2 (b2n ok) ++ leBytes 4 f.1 ++ leBytes 4 f.2.1 ++ leBytes 4 f.2.2
  { s with mgmt := { s.mgmt with eth := s.mgmt.eth ++ [h ++ d] } }

/-- TSQ_FIND (R384): the oldest entry, or the oldest that matches, is removed and latched for the writer. -/
def tsqFind (r : Req) (v : Word) (s : State) : State :=
  let any := bitsOf v 31 31 = 1
  let hit := s.time.tsq.find? (fun e => decide any || (e.typ == bitsOf v 19 16 && e.seq == bitsOf v 15 0))
  match hit with
  | none => s.updRq r (fun c => { c with tsqEnt := 0, tsqNs := 0, tsqSecl := 0, tsqSech := 0 })
  | some e =>
    let q := s.time.tsq.erase e
    let s := { s with time := { s.time with tsq := q } }.put F.TIME_TSQ_STATUS_COUNT q.length
    s.updRq r (fun c => { c with
      tsqEnt := BitVec.ofNat 32 (2 ^ 31 + 2 ^ 16 * e.typ + e.seq)
      tsqNs := BitVec.ofNat 32 e.ns
      tsqSecl := BitVec.ofNat 32 e.secl
      tsqSech := BitVec.ofNat 32 e.sech })

/-! ## Meanings -/

def execTimeRateWrite (i : Fin 4) (v : Word) (s : State) : Host.Outcome State Fault Refusal := .next (timeRateWrite i.val v s)
def execTimeOffsetWrite (r : Req) (i : Fin 4) (v : Word) (s : State) : Host.Outcome State Fault Refusal :=
  .next (timeOffsetWrite r i.val v s)
def execTimeAdjWrite (r : Req) (i : Fin 4) (v : Word) (s : State) : Host.Outcome State Fault Refusal :=
  .next (timeAdjWrite r i.val v s)
def execTimeTbNsRead (r : Req) (i : Fin 4) (s : State) : Host.Outcome State Fault Refusal := .next (timeTbNsRead r i.val s)
def execTsqFind (r : Req) (v : Word) (s : State) : Host.Outcome State Fault Refusal := .next (tsqFind r v s)
def execSyncSendTimer (s : State) : Host.Outcome State Fault Refusal := .next (syncSendTimer s)
def execSync (k : Port) (t corr res : Nat) (s : State) : Host.Outcome State Fault Refusal := .next (syncMsg k.val t corr res s)
def execEchoTimer (s : State) : Host.Outcome State Fault Refusal := .next (echoTimer s)
def execEchoReq (k : Port) (t res : Nat) (s : State) : Host.Outcome State Fault Refusal := .next (echoReq k.val t res s)
def execEchoRsp (k : Port) (t res : Nat) (s : State) : Host.Outcome State Fault Refusal := .next (echoRsp k.val t res s)
def execSyncMissed (s : State) : Host.Outcome State Fault Refusal := .next (syncMissed s)
def execFallbackStep (s : State) : Host.Outcome State Fault Refusal := .next (fallbackStep s)
def execEthFrameTransmit (d : List Byte) (s : State) : Host.Outcome State Fault Refusal := .next (ethFrameTransmit d s)
def execEthFrameReceive (d : List Byte) (ok : Bool) (s : State) : Host.Outcome State Fault Refusal := .next (ethFrameReceive d ok s)

end Sys2Proof.Machine
end

