-- ==== Sys2Proof/Machine/Clock.lean ====
section
/-!
DEFINITION. The reference and the cluster PLLs (R23 to R29). Frequencies and losses are what the monitor reports; each
command asserts that the time its rule names has passed.
-/

namespace Sys2Proof.Machine

/-- SRC_SEL encodings. -/
def srcRefclk : Nat := 0
def srcAuto : Nat := 1
def srcRecovered : Nat := 2

/-- A switch to the recovered clock is possible: an up-port is trained and the chip is not the root (R24). -/
def State.canRecover (s : State) : Bool := !s.isRoot && s.upPort.isSome

/-- The device holds its PLLs; where SRC_SEL asks for the recovered clock and there is none, FALLBACK_FAIL is set
(R24, R28). -/
def State.enterHoldover (s : State) : State :=
  let s := (s.put F.CLK_REF_STATUS_HOLDOVER 1).refInvalid
  s.when (s.get F.CLK_REF_CTRL_SRC_SEL != srcRefclk && !s.canRecover) (fun t => t.put F.CLK_REF_STATUS_FALLBACK_FAIL 1)

/-- REFCLK_LOST (R23): no edge for 40 ns. -/
def refclkLost (s : State) : State :=
  if s.is F.CLK_REF_STATUS_PRESENT then
    let s := (s.put F.CLK_REF_STATUS_PRESENT 0).put F.CLK_REF_STATUS_FREQ_OK 0
    let s := (s.put F.CLK_REF_STATUS_LOST 1).bump R.CLK_REF_LOSS_CNT
    if s.is F.CLK_REF_STATUS_USING_RECOVERED then s else s.enterHoldover
  else s

/-- REFCLK_FREQ_ERR (R23): the frequency has left the window; `ppm` is its offset from the recovered clock in 0.01 ppm. -/
def refclkFreqErr (ppm : Int) (s : State) : State :=
  if s.is F.CLK_REF_STATUS_PRESENT ∧ s.is F.CLK_REF_STATUS_FREQ_OK then
    let s := (s.put F.CLK_REF_STATUS_FREQ_OK 0).put F.CLK_REF_STATUS_FREQ_ERR 1
    let s := (s.bump R.CLK_REF_LOSS_CNT).when s.upPort.isSome (fun t => t.putN R.CLK_REF_PPM (toBits 32 ppm))
    if s.is F.CLK_REF_STATUS_USING_RECOVERED then s else s.enterHoldover
  else s

/-- REFCLK_IN_WINDOW (R23): REFCLK has been in window for 10 ms. -/
def refclkInWindow (s : State) : State :=
  let s := (s.put F.CLK_REF_STATUS_PRESENT 1).put F.CLK_REF_STATUS_FREQ_OK 1
  if s.is F.CLK_REF_STATUS_USING_RECOVERED then s.put F.CLK_REF_STATUS_REF_BACK 1
  else if s.get F.CLK_REF_CTRL_SRC_SEL = srcRecovered then s
  else s.put F.CLK_REF_STATUS_HOLDOVER 0

/-- SWITCH_TO_RECOVERED (R24): the holdover ends on the clock recovered from the up-port. -/
def switchToRecovered (s : State) : State :=
  if s.is F.CLK_REF_STATUS_HOLDOVER ∧ !s.is F.CLK_REF_STATUS_USING_RECOVERED ∧ s.get F.CLK_REF_CTRL_SRC_SEL ≠ srcRefclk then
    match s.upPort with
    | some u =>
      if s.isRoot then s.put F.CLK_REF_STATUS_FALLBACK_FAIL 1
      else
        let s := (s.put F.CLK_REF_STATUS_HOLDOVER 0).put F.CLK_REF_STATUS_USING_RECOVERED 1
        (s.put F.CLK_REF_STATUS_UP_PORT u).bump R.CLK_SWITCH_CNT
    | none => s.put F.CLK_REF_STATUS_FALLBACK_FAIL 1
  else s

/-- The reference is REFCLK again. -/
def State.toRefclk (s : State) : State :=
  let s := (s.put F.CLK_REF_STATUS_USING_RECOVERED 0).put F.CLK_REF_STATUS_UP_PORT 7
  s.bump R.CLK_SWITCH_CNT

/-- REFCLK_RETURN (R26): REFCLK is in window and no site is armed. The 50 µs holdover of the return ends with it. -/
def refclkReturn (s : State) : State :=
  if s.get F.CLK_REF_CTRL_SRC_SEL = srcAuto ∧ s.is F.CLK_REF_CTRL_RETURN_EN ∧ s.is F.CLK_REF_STATUS_FREQ_OK ∧
      s.is F.CLK_REF_STATUS_USING_RECOVERED ∧ s.noneArmed then
    s.toRefclk.put F.CLK_REF_STATUS_HOLDOVER 0
  else s

/-- The up-port that gives the recovered clock is lost (R24, R300). -/
def State.upPortLost (s : State) : State :=
  let s := s.putN R.CLK_REF_PPM 0x80000000
  if s.is F.CLK_REF_STATUS_USING_RECOVERED then
    let s := (s.put F.CLK_REF_STATUS_USING_RECOVERED 0).put F.CLK_REF_STATUS_UP_PORT 7
    ((s.put F.CLK_REF_STATUS_HOLDOVER 1).put F.CLK_REF_STATUS_FALLBACK_FAIL 1).refInvalid
  else s

/-- A write of CLK_REF_CTRL (R28): RECOVERED selects the up-port clock through a holdover; REFCLK only leaves it. -/
def State.refCtrlWrite (s : State) (v : Word) : State :=
  let s := s.plainWrite R.CLK_REF_CTRL v
  let sel := s.get F.CLK_REF_CTRL_SRC_SEL
  let rec_ := s.is F.CLK_REF_STATUS_USING_RECOVERED
  if sel = srcRecovered ∧ !rec_ ∧ !s.is F.CLK_REF_STATUS_HOLDOVER then s.enterHoldover
  else if sel = srcRefclk ∧ rec_ then
    let s := s.toRefclk
    if s.is F.CLK_REF_STATUS_FREQ_OK then s else s.enterHoldover
  else s

/-- CLUSTER_PLL_UNLOCK (R29). -/
def pllUnlock (k : Nat) (s : State) : State :=
  if s.bit R.CLK_PLL_LOCK k then
    let s := (s.putBit R.CLK_PLL_LOCK k false).putBit R.CLK_PLL_UNLOCK k true
    (s.invalidateAll ((s.cluSites k).filter s.playing) causeRef).tdcNote k
  else s

/-- CLUSTER_PLL_RELOCK (R29). -/
def pllRelock (k : Nat) (s : State) : State := s.putBit R.CLK_PLL_LOCK k true

/-! ## Meanings -/

def execRefclkLost (s : State) : Host.Outcome State Fault Refusal := .next (refclkLost s)
def execRefclkFreqErr (ppm : Int) (s : State) : Host.Outcome State Fault Refusal := .next (refclkFreqErr ppm s)
def execRefclkInWindow (s : State) : Host.Outcome State Fault Refusal := .next (refclkInWindow s)
def execSwitchToRecovered (s : State) : Host.Outcome State Fault Refusal := .next (switchToRecovered s)
def execRefclkReturn (s : State) : Host.Outcome State Fault Refusal := .next (refclkReturn s)
def execClusterPllUnlock (k : Cluster) (s : State) : Host.Outcome State Fault Refusal := .next (pllUnlock k.val s)
def execClusterPllRelock (k : Cluster) (s : State) : Host.Outcome State Fault Refusal := .next (pllRelock k.val s)

end Sys2Proof.Machine
end

