-- ==== Sys2Proof/Machine/UltLanes.lean ====
section
/-!
DEFINITION. Ulten lanes and the tree (chapter 10): bring-up of lanes, training, link loss, the up-port, enumeration of
chip IDs.
-/

namespace Sys2Proof.Machine

/-! ## Remote accesses that end (R294) -/

/-- Status of a remote access. -/
def rmtOk : Nat := 0
def rmtUnroutable : Nat := 1
def rmtTimeout : Nat := 2
def rmtUe : Nat := 3

/-- The remote access completes (R294). -/
def State.rmtDone (s : State) (status : Nat) (data : Option Nat) : State :=
  let s := { s with ult := { s.ult with mgmt := none } }
  let s := (s.putN R.ULT_RMT_STATUS status).put F.ULT_EVENT_RMT_DONE 1
  match data with
  | some d => s.putN R.ULT_RMT_DATA d
  | none => s

/-- No response: TIMEOUT, and a read returns 0xFFFF_FFFF. -/
def State.rmtLost (s : State) : State :=
  match s.ult.mgmt with
  | some r => s.rmtDone rmtTimeout (if r.wr then none else some 0xFFFFFFFF)
  | none => s

/-! ## Enumeration (R288, R289) -/

/-- The chip takes part in enumeration. -/
def State.autoId (s : State) : Bool := s.get F.ULT_CFG_ID_MODE == 0

/-- Down-ports that lead to chips that take IDs: none at the largest depth (R287). -/
def State.enumPorts (s : State) : List Nat := if s.get F.ULT_STATUS_DEPTH = 12 then [] else s.downPorts

/-- Sizes of the subtrees, where every trained down-port has reported. -/
def State.subtrees (s : State) : Option (List (Nat × Nat)) :=
  (s.enumPorts).mapM (fun k => (s.portOf k).subtree.map (fun z => (k, z)))

/-- A MGMT message between neighbours. -/
def State.neighbour (s : State) (typ : Nat) (block : Nat) : Msg :=
  { cls := clsMgmt, mcast := false, dest := 0, src := s.chipId, ttl := 0, typ := typ, blocks := [block] }

/-- The chip takes an ID, shown in both registers (R289). -/
def State.takeId (s : State) (id : Nat) : State :=
  let s := (s.put F.ULT_STATUS_CHIP_ID id).put F.ULT_STATUS_ID_VALID 1
  let s := (s.put F.GLB_CHIP_ID_CHIP_ID id).put F.GLB_CHIP_ID_VALID 1
  s.put F.ULT_EVENT_ENUM_DONE 1

/-- IDs go down: port by port in ascending order, each with the base 1 plus the sizes before it (R288). -/
def assignPorts : List (Nat × Nat) → Nat → State → State
  | [], _, s => s
  | (k, z) :: l, b, s =>
    let s := (s.put (F.ULT_ROUTE_k_LO k) b).put (F.ULT_ROUTE_k_HI k) (b + z - 1)
    let s := (s.putBit R.ULT_ROUTE_EN k true).sendOn k (s.neighbour 0x21 (b % 2 ^ 16))
    assignPorts l (b + z) s

/-- The chip takes `base` and assigns IDs to its down-ports; ports that have not reported get none. -/
def State.assignIds (s : State) (base : Nat) : State :=
  let l := s.enumPorts.filterMap (fun k => (s.portOf k).subtree.map (fun z => (k, z)))
  assignPorts l (base + 1) ((s.takeId base).putN R.ULT_ROUTE_EN 0)

/-- The root assigns once every down-port has reported. -/
def State.enumTry (s : State) : State :=
  if s.ult.enumBusy ∧ s.subtrees.isSome then { s with ult := { s.ult with enumBusy := false } }.assignIds 0 else s

/-- A chip reports the size of its subtree up, once every trained down-port has reported, and again when it changes. -/
def State.reportUp (s : State) : State :=
  if s.isRoot ∨ !s.autoId ∨ s.is F.ULT_STATUS_TOO_DEEP then s
  else
    match s.upPort, s.subtrees with
    | some u, some l =>
      let z := 1 + (l.map (·.2)).sum
      if s.ult.lastReport = some z then s
      else { s with ult := { s.ult with lastReport := some z } }.sendOn u (s.neighbour 0x20 z)
    | _, _ => s

/-- Enumeration starts on the root. -/
def State.enumStart (s : State) : State :=
  if s.isRoot ∧ s.autoId then { s with ult := { s.ult with enumBusy := true } }.enumTry else s

/-- ENUM_WAIT_EXPIRE (R288): ENUM_WAIT ms after READY. -/
def enumWaitExpire (s : State) : State := if s.ready then s.enumStart else s

/-- ULT_ENUM_START (R288): a write of ULT_ENUM_CMD.START, ignored elsewhere than on the root. -/
def ultEnumStart (s : State) : State := s.enumStart

/-- ENUM_REPORT (R288). -/
def enumReport (k size : Nat) (s : State) : State :=
  if s.autoId ∧ k ∈ s.downPorts then
    let s := s.updPort k (fun p => { p with subtree := some size })
    if s.isRoot then s.enumTry else s.reportUp
  else s

/-- ENUM_ASSIGN (R287, R288). -/
def enumAssign (k base : Nat) (s : State) : State :=
  if s.autoId ∧ !s.isRoot ∧ s.upPort = some k ∧ !s.is F.ULT_STATUS_TOO_DEEP then s.assignIds base else s

/-! ## The tree (chapter 10, R287) -/

/-- The partner depth of a trained port. -/
def State.partner (s : State) (k : Nat) : Option Nat := if s.portUp k then (s.portOf k).partnerDepth else none

/-- The trained port whose partner reports the lowest depth, lowest port first; partners below the chip itself lead down. -/
def State.bestUp (s : State) : Option (Nat × Nat) :=
  let own := s.get F.ULT_STATUS_DEPTH
  (List.range 4).foldl (fun b k =>
    match s.partner k with
    | some d =>
      if own ≠ 0 ∧ own < d then b
      else
        match b with
        | some (_, e) => if d < e then some (k, d) else b
        | none => some (k, d)
    | none => b) none

/-- The tree place of the chip and of its ports after a change. -/
def State.treeUpdate (s : State) : State :=
  let old := s.upPort
  let s :=
    if s.isRoot then s
    else
      match s.bestUp with
      | some (k, d) =>
        let s := s.put F.ULT_STATUS_UP_PORT k
        if 12 < d + 1 then s.put F.ULT_STATUS_TOO_DEEP 1
        else (s.put F.ULT_STATUS_TOO_DEEP 0).put F.ULT_STATUS_DEPTH (d + 1)
      | none => s.put F.ULT_STATUS_UP_PORT 7
  let own := s.get F.ULT_STATUS_DEPTH
  let placed := s.isRoot || s.upPort.isSome
  let s := s.each (List.range 4) (fun t k =>
    (t.put (F.ULT_Pk_STATUS_UP k) (b2n (t.upPort == some k))).put (F.ULT_Pk_STATUS_LOOP k)
      (b2n (placed && t.upPort != some k && t.partner k == some own)))
  let s := if s.upPort ≠ old then { s with ult := { s.ult with lastReport := none } } else s
  s.reportUp

/-- A port leaves ACTIVE (R300). How many messages were in flight is not determined by the commands. -/
def State.ultDown (s : State) (k : Nat) : State :=
  let r := s.freeBits 32
  let s := r.2.addSat (R.ULT_Pk_LINK_DROP k) r.1
  let s := match s.ult.mgmt with
    | some m => if m.port = k then s.rmtLost else s
    | none => s
  let s := (s.bump (R.ULT_Pk_LINK_DOWN_CNT k)).put F.ULT_EVENT_LINK_DOWN 1
  let s := s.updPort k (fun p => { p with subtree := none })
  (if s.upPort = some k then s.upPortLost else s).treeUpdate

/-! ## Lane states (R296 to R298) -/

def ulDisabled : Nat := 0
def ulDetect : Nat := 1
def ulBase : Nat := 2
def ulCaps : Nat := 3
def ulRateStep : Nat := 4
def ulEq : Nat := 5
def ulBer : Nat := 6
def ulActive : Nat := 7
def ulRecover : Nat := 8
def ulRaw : Nat := 9

/-- STATE of lane `m` of port `k`. -/
def State.ulState (s : State) (k m : Nat) : Nat := s.get (F.ULT_Pk_Lm_STATE_STATE k m)

/-- Lanes of port `k` that are ACTIVE. -/
def State.ulActives (s : State) (k : Nat) : List Nat := (List.range 2).filter (fun m => s.ulState k m == ulActive)

/-- A lane enters a state; the port shows its width and the lower of its lanes' rates, and comes up or goes down. -/
def State.ulEnter (s : State) (k m st : Nat) : State :=
  let was := s.get (F.ULT_Pk_STATUS_WIDTH k)
  let s := s.put (F.ULT_Pk_Lm_STATE_STATE k m) st
  let a := s.ulActives k
  let s := s.put (F.ULT_Pk_STATUS_WIDTH k) a.length
  let s := if a.isEmpty then s else s.put (F.ULT_Pk_STATUS_RATE k) ((a.map (fun i => (s.ulaneOf k i).rate)).foldl min 4)
  if was = 0 ∧ a ≠ [] then (s.updPort k (fun p => { p with subtree := none })).treeUpdate
  else if was ≠ 0 ∧ a = [] then s.ultDown k
  else s

/-- Coefficients of a lane. -/
def State.setFfe (s : State) (k m pre post : Nat) : State :=
  (s.put (F.ULT_Pk_Lm_FFE_PRE k m) pre).put (F.ULT_Pk_Lm_FFE_POST k m) post

/-- Transmit presets as (PRE, POST) (R297). -/
def presetOf : Nat → Nat × Nat
  | 0 => (0, 0)
  | 1 => (0, 4)
  | 2 => (0, 8)
  | 3 => (0, 12)
  | 4 => (2, 0)
  | 5 => (2, 6)
  | 6 => (4, 8)
  | _ => (4, 12)

/-- The port runs in the mode NORMAL and is enabled. -/
def State.ulNormal (s : State) (k : Nat) : Bool := s.is (F.ULT_Pk_CTRL_ENABLE k) && s.get (F.ULT_Pk_CTRL_MODE k) == 0

/-- ULT_PORT_CTRL_WRITE (R296, R299): ENABLE and MODE move both lanes. -/
def ultPortCtrlWrite (k : Nat) (v : Word) (s : State) : State :=
  let s := s.plainWrite (R.ULT_Pk_CTRL k) v
  let en := s.is (F.ULT_Pk_CTRL_ENABLE k)
  let raw := s.get (F.ULT_Pk_CTRL_MODE k) == 1
  s.each [0, 1] (fun t m =>
    let st := t.ulState k m
    if st = ulRaw ∧ !raw then t.ulEnter k m ulDisabled
    else if !en then t.ulEnter k m ulDisabled
    else if raw then (t.updUlane k m (fun x => { x with rate := t.get (F.ULT_Pk_CTRL_RAW_RATE k) })).ulEnter k m ulRaw
    else if st = ulDisabled then t.ulEnter k m ulDetect
    else t)

/-- ULT_PORT_RETRAIN (R296). -/
def ultPortRetrain (k : Nat) (s : State) : State :=
  if s.ulNormal k then s.each [0, 1] (fun t m => t.ulEnter k m ulDetect) else s

/-- The latest 66 bits that a raw lane captured: sync header in bits [65:64] (R299). -/
def State.rawRx (s : State) (k m bits : Nat) : State :=
  (s.putPair (R.ULT_Pk_Lm_RAW_RX_LO k m) (bits % 2 ^ 64)).putN (R.ULT_Pk_Lm_RAW_SYNC k m) (bits / 2 ^ 64 % 4)

/-- ULT_BITSLIP (R299): the boundary of a raw lane moves by one bit; `bits` is what it captures then. -/
def ultBitslip (k m bits : Nat) (s : State) : State :=
  if s.ulState k m = ulRaw then s.rawRx k m bits else s

/-- ULT_LANE_PARTNER_DETECT. -/
def ultPartnerDetect (k m : Nat) (s : State) : State :=
  if s.ulState k m = ulDetect then (s.updUlane k m (fun x => { x with rate := 0 })).ulEnter k m ulBase else s

/-- ULT_LANE_BLOCK_LOCK. -/
def ultBlockLock (k m : Nat) (s : State) : State :=
  let st := s.ulState k m
  if st = ulBase then s.ulEnter k m ulCaps else if st = ulRecover then s.ulEnter k m ulActive else s

/-- ULT_LANE_STATE_TIMEOUT: the limit of BASE, CAPS, RATE_STEP, BER_CHECK or RECOVER has passed. -/
def ultStateTimeout (k m : Nat) (s : State) : State :=
  let st := s.ulState k m
  if st = ulBase ∨ st = ulCaps ∨ st = ulRateStep ∨ st = ulBer then s.ulEnter k m ulDetect
  else if st = ulRecover then s.ulEnter k m (if s.is (F.ULT_Pk_CTRL_AUTO_RETRAIN k) then ulDetect else ulDisabled)
  else s

/-- ULT_LANE_CAPS_DONE: the partner's chip ID where it has one, its depth where it has one, its port and highest rate. -/
def ultCapsDone (k m : Nat) (id depth : Option Nat) (port top : Nat) (s : State) : State :=
  if s.ulState k m = ulCaps then
    let s := match id with
      | some i => (s.put (F.ULT_Pk_STATUS_PARTNER_ID k) i).put (F.ULT_Pk_STATUS_PARTNER_VALID k) 1
      | none => s.put (F.ULT_Pk_STATUS_PARTNER_VALID k) 0
    let s := s.updPort k (fun p => { p with partnerDepth := depth, partnerPort := port })
    let top := min (min top 4) (s.get (F.ULT_Pk_CTRL_MAX_RATE k))
    let s := s.updUlane k m (fun x => { x with top := top })
    s.ulEnter k m (if top = 0 then ulActive else ulRateStep)
  else s

/-- ULT_LANE_RATE_STEP_DONE: the next rate, at which EQ starts from preset P1. -/
def ultRateStepDone (k m : Nat) (s : State) : State :=
  if s.ulState k m = ulRateStep then
    let s := s.updUlane k m (fun x => { x with
      rate := x.rate + 1
      prevPre := s.get (F.ULT_Pk_Lm_FFE_PRE k m)
      prevPost := s.get (F.ULT_Pk_Lm_FFE_POST k m) })
    (s.setFfe k m 0 4).ulEnter k m ulEq
  else s

/-- One coefficient of a request (R297): the new value and its status. `hi`: the value is at its largest. -/
def coefStep (req x : Nat) (hi : Bool) : Nat × Nat :=
  if req = 1 then (if hi then (x, 3) else (x + 1, 1))
  else if req = 2 then (if x = 0 then (x, 2) else (x - 1, 1))
  else (x, 0)

/-- ULT_EQ_REQUEST (R297): a training control word moves the transmitter's coefficients; the status word reports it. -/
def ultEqRequest (k m w : Nat) (s : State) : State :=
  if s.ulState k m = ulEq then
    if w.testBit 15 then
      let p := presetOf (w / 2 ^ 12 % 8)
      (s.setFfe k m p.1 p.2).updUlane k m (fun x => { x with status := 2 ^ 15 })
    else
      let pre := s.get (F.ULT_Pk_Lm_FFE_PRE k m)
      let post := s.get (F.ULT_Pk_Lm_FFE_POST k m)
      let a := coefStep (w / 64 % 4) pre (8 ≤ pre || 20 ≤ pre + post)
      let b := coefStep (w / 16 % 4) post (16 ≤ post || 20 ≤ a.1 + post)
      (s.setFfe k m a.1 b.1).updUlane k m (fun x => { x with status := 64 * a.2 + 16 * b.2 })
  else s

/-- ULT_EQ_DONE: the receiver is satisfied, or 2 ms have passed. -/
def ultEqDone (k m : Nat) (s : State) : State := if s.ulState k m = ulEq then s.ulEnter k m ulBer else s

/-- ULT_BER_CHECK_DONE (R298): `ok` says that the estimate is at most 10^-12. -/
def ultBerCheckDone (k m : Nat) (ok : Bool) (s : State) : State :=
  if s.ulState k m = ulBer then
    let x := s.ulaneOf k m
    if ok then s.ulEnter k m (if x.top ≤ x.rate then ulActive else ulRateStep)
    else
      let s := (s.updUlane k m (fun x => { x with rate := x.rate - 1 })).setFfe k m x.prevPre x.prevPost
      (s.bump (R.ULT_Pk_BER_FALLBACK k)).ulEnter k m ulActive
  else s

/-- ULT_LANE_LOCK_LOST (R296, R300). -/
def ultLockLost (k m : Nat) (s : State) : State := if s.ulState k m = ulActive then s.ulEnter k m ulRecover else s

/-- A write of ULT_Pk_Lm_FFE: only in RAW (R299, R301). -/
def State.ultFfeWrite (s : State) (k m : Nat) (v : Word) : State :=
  if s.get (F.ULT_Pk_CTRL_MODE k) = 1 then s.ffeWrite (F.ULT_Pk_Lm_FFE_PRE k m) (F.ULT_Pk_Lm_FFE_POST k m) v else s

/-- ULT_BAD_MESSAGE (R291 to R293, R295): a CRC error, or a reserved class, type or length. `beats` are the broadcast beats that a
message with a CRC error carried. -/
def ultBadMessage (k : Nat) (crc : Bool) (beats : Nat) (s : State) : State :=
  if crc then (s.bump (R.ULT_Pk_CRC_ERR k)).addSat R.ULT_BULK_DROP beats else s.bump (R.ULT_Pk_BAD_MSG k)

/-! ## Meanings -/

def execEnumWaitExpire (s : State) : Host.Outcome State Fault Refusal := .next (enumWaitExpire s)
def execUltEnumStart (s : State) : Host.Outcome State Fault Refusal := .next (ultEnumStart s)
def execEnumReport (k : Port) (size : Nat) (s : State) : Host.Outcome State Fault Refusal := .next (enumReport k.val size s)
def execEnumAssign (k : Port) (base : Nat) (s : State) : Host.Outcome State Fault Refusal := .next (enumAssign k.val base s)
def execUltBadMessage (k : Port) (crc : Bool) (beats : Nat) (s : State) : Host.Outcome State Fault Refusal :=
  .next (ultBadMessage k.val crc beats s)
def execUltPortCtrlWrite (k : Port) (v : Word) (s : State) : Host.Outcome State Fault Refusal := .next (ultPortCtrlWrite k.val v s)
def execUltPortRetrain (k : Port) (s : State) : Host.Outcome State Fault Refusal := .next (ultPortRetrain k.val s)
def execUltBitslip (k : Port) (m : PLane) (bits : BitVec 66) (s : State) : Host.Outcome State Fault Refusal :=
  .next (ultBitslip k.val m.val bits.toNat s)
def execUltLanePartnerDetect (k : Port) (m : PLane) (s : State) : Host.Outcome State Fault Refusal :=
  .next (ultPartnerDetect k.val m.val s)
def execUltLaneBlockLock (k : Port) (m : PLane) (s : State) : Host.Outcome State Fault Refusal := .next (ultBlockLock k.val m.val s)
def execUltLaneStateTimeout (k : Port) (m : PLane) (s : State) : Host.Outcome State Fault Refusal :=
  .next (ultStateTimeout k.val m.val s)
def execUltLaneCapsDone (k : Port) (m : PLane) (id depth : Option Nat) (port top : Nat) (s : State) :
    Host.Outcome State Fault Refusal := .next (ultCapsDone k.val m.val id depth port top s)
def execUltLaneRateStepDone (k : Port) (m : PLane) (s : State) : Host.Outcome State Fault Refusal :=
  .next (ultRateStepDone k.val m.val s)
def execUltEqRequest (k : Port) (m : PLane) (w : BitVec 16) (s : State) : Host.Outcome State Fault Refusal :=
  .next (ultEqRequest k.val m.val w.toNat s)
def execUltEqDone (k : Port) (m : PLane) (s : State) : Host.Outcome State Fault Refusal := .next (ultEqDone k.val m.val s)
def execUltBerCheckDone (k : Port) (m : PLane) (ok : Bool) (s : State) : Host.Outcome State Fault Refusal :=
  .next (ultBerCheckDone k.val m.val ok s)
def execUltLaneLockLost (k : Port) (m : PLane) (s : State) : Host.Outcome State Fault Refusal := .next (ultLockLost k.val m.val s)

end Sys2Proof.Machine
end

