-- ==== Sys2Proof/Machine/RegAccess.lean ====
section
/-!
DEFINITION. The register space (chapter 01): pairs, registers that act when they are written or read, refused and unmapped
accesses, and the remote access registers of chapter 10.
-/

namespace Sys2Proof.Machine

/-! ## Addresses -/

/-- The register space in the internal map (R20). -/
def regBase : Nat := 0x2000000000
def regEnd : Nat := 0x2008000000

/-- BAR0 offset in management SRAM, which the MGS window maps (R469). -/
def inMgmtSram (off : Nat) : Bool := 0x5800000 ≤ off && off < 0x5880000

/-- The word at a BAR0 offset exists; the part of the entry table beyond the TSET4 layout does not while TSET4 is 1
(R20, R165, R490). -/
def State.regMapped (s : State) (off : Nat) : Bool :=
  inMgmtSram off || ((findRow off).isSome && !(s.compat 0 && 0xC00000 ≤ off && off < 0xE00000))

/-- The index of an offset in an array with these dimensions. -/
def dimIdx : List (Nat × Nat) → Nat → List Nat
  | [], _ => []
  | (_, st) :: ds, rel => rel / st :: dimIdx ds (rel % st)

/-- An offset lies in an array that starts at `first`. -/
def arrHit (first : Nat) (dims : List (Nat × Nat)) (off : Nat) : Bool := decide (first ≤ off) && dimsHit dims (off - first)

/-! ## Pairs (R17 to R19, R493) -/

/-- The _LO registers of the pairs: first offset and dimensions. The _HI register is at the next word. -/
def pairLos : List (Nat × List (Nat × Nat)) := [
  (R.GLB_ERR_ADDR_LO, []),
  (R.DRW_CMD_ARG_LO, []),
  (R.DRW_CMD_RESULT_LO, []),
  (R.DRW_GUARD_LAST_LO, []),
  (R.MEMC_ECC_UE_ADDR_LO, []),
  (R.SEQ_SIG_BASE_LO, []),
  (R.TSET_PER_n_s_LO 0 0, [(64, 0x800), (256, 0x8)]),
  (R.FAIL_SITE_n_FIRST_VEC_LO 0, [(64, 0x40)]),
  (R.CAPT_SITE_n_SPILL_BASE_LO 0, [(64, 0x100)]),
  (R.CLU_k_TDC_u_START_TIME_LO 0 0, [(32, 0x40000), (4, 0x1000)]),
  (R.CLU_k_TDC_u_HIST_BASE_LO 0 0, [(32, 0x40000), (4, 0x1000)]),
  (R.CLU_k_TDC_u_STOP_i_LO 0 0 0, [(32, 0x40000), (4, 0x1000), (16, 0x8)]),
  (R.ULT_Pk_RAW_TX_LO 0, [(4, 0x100)]),
  (R.ULT_Pk_Lm_RAW_RX_LO 0 0, [(4, 0x100), (2, 0x20)]),
  (R.SITE_n_T0_LO 0, [(64, 0x100)]),
  (R.XL_n_FIXED_LO 0, [(128, 0x1000)]),
  (R.XL_n_BERR_LO 0, [(128, 0x1000)]),
  (R.XL_n_BITS_LO 0, [(128, 0x1000)]),
  (R.XL_n_RX_WORD_LO 0, [(128, 0x1000)]),
  (R.XL_n_MARK_TX_LO 0, [(128, 0x1000)]),
  (R.XL_n_MARK_TIME_LO 0, [(128, 0x1000)]),
  (R.XL_n_EYE_BASE_LO 0, [(128, 0x1000)]),
  (R.SCHED_HWEV_BASE_LO, []),
  (R.SCHED_CORE_n_RESET_PC_LO 0, [(16, 0x100)]),
  (R.SCHED_CORE_n_MTIMECMP_LO 0, [(16, 0x100)]),
  (R.HOSTIF_DMA_e_RING_LO 0, [(8, 0x100)]),
  (R.MBX_m_NOTICE_LO 0, [(32, 0x40)]),
  (R.TIME_CNT_LO, []),
  (R.TIME_TB_i_OFFSET_LO 0, [(4, 0x40)]),
  (R.TIME_TB_i_ADJ_LO 0, [(4, 0x40)]),
  (R.CAL_CL_k_LAST_FULL_LO 0, [(32, 0x40)]),
  (R.MGS_KA_RTC_LO, [])]

/-- The offset is a _LO register of a pair. -/
def isPairLo (off : Nat) : Bool := pairLos.any (fun p => arrHit p.1 p.2 off)
/-- The offset is a _HI register of a pair. -/
def isPairHi (off : Nat) : Bool := 4 ≤ off && isPairLo (off - 4)

/-! ## Errors (R15, R16) -/

/-- Count an access in GLB_ERR_UNMAPPED or GLB_ERR_SIZE and record its address and requester. -/
def State.accessErr (s : State) (r : Req) (cnt addr : Nat) : State :=
  ((s.bump cnt).putPair R.GLB_ERR_ADDR_LO addr).put F.GLB_ERR_SRC_REQ (reqCode r)

/-! ## Remote accesses over MGMT (R294) -/

/-- A MGMT message of the remote access. -/
def State.mgmtMsg (s : State) (dest typ : Nat) (blocks : List Nat) : Msg :=
  { cls := clsMgmt, mcast := false, dest := dest, src := s.chipId, ttl := 0, typ := typ, blocks := blocks }

/-- Bits [63:56] tag and [26:0] BAR0 offset of a request. -/
def mgmtHead (tag off : Nat) : Nat := tag % 256 * 2 ^ 56 + off % 2 ^ 27

/-- A remote access begins: BUSY is 1 and the request leaves for the target, or has no way (R290). -/
def State.rmtSend (s : State) (wr : Bool) (k : Nat) : State :=
  let dest := s.get F.ULT_RMT_ID_ID
  let tag := s.ult.tag % 256
  let h := mgmtHead tag (s.get F.ULT_RMT_ADDR_OFF)
  let m := s.mgmtMsg dest (if wr then 3 else 1) (if wr then [h, s.num R.ULT_RMT_DATA] else [h])
  let s := { s with ult := { s.ult with
    tag := tag + 1
    mgmt := some { tag := tag, dest := dest, wr := wr, port := k } } }.put F.ULT_RMT_STATUS_BUSY 1
  if k = 4 ∨ s.portLive k then s.sendOn k m else s

/-! ## Views: what a read returns where it is not the stored word -/

/-- The bits of a list of booleans, the first as bit 0. -/
def bitsWord (l : List Bool) : Nat := l.foldr (fun b a => b2n b + 2 * a) 0

/-- A register whose read returns more than its stored word: first offset, dimensions, value by index. -/
structure ViewRule where
  off : Nat
  dims : List (Nat × Nat)
  val : State → Req → List Nat → Nat

/-- First index. -/
def ix0 (l : List Nat) : Nat := l.getD 0 0
/-- Second index. -/
def ix1 (l : List Nat) : Nat := l.getD 1 0
/-- Third index. -/
def ix2 (l : List Nat) : Nat := l.getD 2 0

/-- CORE3 to CORE0 of a context. -/
def State.coreFlags (s : State) (n : Nat) : Nat := s.num (R.SEQ_CTX_n_FLAGS n) / 16 % 16

/-- Contexts `base` to `base + 31` that are halted. -/
def State.haltedBits (s : State) (base : Nat) : Nat := bitsWord ((List.range 32).map (fun i => (s.seqOf (base + i)).halted))

/-- Pending bits of sources 32w to 32w + 31. -/
def State.pendBits (s : State) (w : Nat) : Nat := bitsWord ((List.range 32).map (fun b => s.srcPending (32 * w + b)))

/-- The registers with views. -/
def viewRules : List ViewRule := [
  { off := R.SEQ_ENG_ACTIVE, dims := [], val := fun s _ _ => s.engActive },
  { off := R.SEQ_HALTED_LO, dims := [], val := fun s _ _ => s.haltedBits 0 },
  { off := R.SEQ_HALTED_HI, dims := [], val := fun s _ _ => s.haltedBits 32 },
  { off := R.SEQ_CTX_n_CORE_SET 0, dims := [(64, 0x400)], val := fun s _ i => s.coreFlags (ix0 i) },
  { off := R.SEQ_CTX_n_CORE_CLR 0, dims := [(64, 0x400)], val := fun s _ i => s.coreFlags (ix0 i) },
  { off := R.STRM_SITE_n_CFG 0, dims := [(64, 0x40)], val := fun s _ i =>
      if s.compat 3 then s.num (R.STRM_SITE_n_CFG (ix0 i)) / 4 * 4 + 2 else s.num (R.STRM_SITE_n_CFG (ix0 i)) },
  { off := R.CLU_k_EC_SLOT_i 0 0, dims := [(32, 0x40000), (32, 0x4)], val := fun s _ i =>
      setBitN (s.num (R.CLU_k_EC_SLOT_i (ix0 i) (ix1 i))) 29 (s.slotLocked (ix0 i) (ix1 i)) },
  { off := R.CLU_k_CH_j_STATUS 0 0, dims := [(32, 0x40000), (16, 0x400)], val := fun s _ i => s.chStatus (16 * ix0 i + ix1 i) },
  { off := R.SCHED_ENQ_RESULT, dims := [], val := fun s r _ => (s.rq r).enqResult.toNat },
  { off := R.SCHED_ITEM_Wi 0, dims := [(8, 0x4)], val := fun s r i => (Tab.get 0 (s.rq r).itemW (ix0 i)).toNat },
  { off := R.INTC_MODE, dims := [], val := fun s _ _ => b2n s.int2 },
  { off := R.INTC_PEND_w 0, dims := [(8, 0x4)], val := fun s _ i => s.pendBits (ix0 i) },
  { off := R.INTC_SETPEND_w 0, dims := [(8, 0x4)], val := fun s _ i => s.pendBits (ix0 i) },
  { off := R.INTC_TGT_t_HPEND 0, dims := [(17, 0x100)], val := fun s _ i => let p := s.hpend (ix0 i); 256 * p.1 + p.2 },
  { off := R.HOSTIF_ID, dims := [], val := fun _ _ _ => hostifId.toNat },
  { off := R.MBX_DB_H2D_CLR_w 0, dims := [(2, 0x4)], val := fun s _ i => s.num (R.MBX_DB_H2D_SET_w (ix0 i)) },
  { off := R.MBX_DB_D2H_CLR_w 0, dims := [(2, 0x4)], val := fun s _ i => s.num (R.MBX_DB_D2H_SET_w (ix0 i)) },
  { off := R.TIME_CTRL, dims := [], val := fun s _ _ => s.num R.TIME_CTRL / 2 * 2 + b2n s.legacy },
  { off := R.TIME_CNT_LO, dims := [], val := fun s _ _ => s.now },
  { off := R.TIME_CNT_HI, dims := [], val := fun s _ _ => s.now / 2 ^ 32 },
  { off := R.TIME_TB_i_SECL 0, dims := [(4, 0x40)], val := fun s r i => (Tab.get 0 (s.rq r).secl (ix0 i)).toNat },
  { off := R.TIME_TB_i_SECH 0, dims := [(4, 0x40)], val := fun s r i => (Tab.get 0 (s.rq r).sech (ix0 i)).toNat },
  { off := R.TIME_TSQ_ENT, dims := [], val := fun s r _ => (s.rq r).tsqEnt.toNat },
  { off := R.TIME_TSQ_NS, dims := [], val := fun s r _ => (s.rq r).tsqNs.toNat },
  { off := R.TIME_TSQ_SECL, dims := [], val := fun s r _ => (s.rq r).tsqSecl.toNat },
  { off := R.TIME_TSQ_SECH, dims := [], val := fun s r _ => (s.rq r).tsqSech.toNat },
  { off := R.CAL_CL_k_STATE 0, dims := [(32, 0x40)], val := fun s _ i =>
      let f := F.CAL_CL_k_STATE_REMAIN (ix0 i)
      (withBits (s.word f.off) f.hi f.lo (s.calRemain (ix0 i))).toNat },
  { off := R.BOOT_RB_FLOOR, dims := [], val := fun _ _ _ => Config.fuseRbFloor.toNat },
  { off := R.MGS_WDT_REMAIN, dims := [], val := fun s _ _ => s.wdtRemain },
  { off := R.MGS_KA_RTC_LO, dims := [], val := fun s _ _ => s.rtcSec },
  { off := R.MGS_KA_RTC_HI, dims := [], val := fun s _ _ => s.rtcSec / 2 ^ 32 },
  { off := R.MGS_LOG_APP_Dw 0, dims := [(8, 0x4)], val := fun s r i => (Tab.get 0 (s.rq r).logD (ix0 i)).toNat }]

/-- What a register holds for a requester (R2). -/
def State.regView (s : State) (r : Req) (off : Nat) : Word :=
  match viewRules.find? (fun v => arrHit v.off v.dims off) with
  | some v => BitVec.ofNat 32 (v.val s r (dimIdx v.dims (off - v.off)))
  | none =>
    match findRow off with
    | some row => maskRead row (s.word off)
    | none => 0

/-! ## Reads -/

/-- A register whose read does more than clear its RC fields: the act answers the requester. -/
structure ReadRule where
  off : Nat
  dims : List (Nat × Nat)
  act : Req → List Nat → State → State

/-- The registers whose reads act. -/
def readRules : List ReadRule := [
  { off := R.SCHED_CORE_n_TAKE 0, dims := [(16, 0x100)], act := fun r i => schedTake r (ix0 i) },
  { off := R.INTC_TGT_t_CLAIM 0, dims := [(17, 0x100)], act := fun r i => intcClaim r (ix0 i) },
  { off := R.MBX_m_NOTICE_LO 0, dims := [(32, 0x40)], act := fun r i => mbxTake r (ix0 i) },
  { off := R.TIME_TB_i_NS 0, dims := [(4, 0x40)], act := fun r i => timeTbNsRead r (ix0 i) },
  { off := R.MGS_UART_DATA, dims := [], act := fun r _ => uartDataRead r }]

/-- Registers that follow a lane that runs, adapting taps or a raw lane show free values at a read: how far the lane is, is not
determined by the commands (R299, R310, R314, R318). -/
def State.refreshRead (s : State) (off : Nat) : State :=
  if R.XL_n_CTRL 0 ≤ off ∧ off < R.XL_n_CTRL 128 then
    let n := (off - R.XL_n_CTRL 0) / 0x1000
    if off = R.XL_n_DFE n then
      if s.is (F.XL_n_RXEQ_DFE_FREEZE n) then s
      else let b := s.freeBits 30; b.2.putN off b.1
    else if [R.XL_n_BERR_LO n, R.XL_n_BITS_LO n, R.XL_n_RX_WORD_LO n, R.XL_n_STATUS n].contains off then
      let g := s.xlFree
      if s.xlState n = xlRunning ∧ (s.laneOf n).checker then g.2.xlSee n g.1 else s
    else s
  else
    match (List.range 8).find? (fun i => off == R.ULT_Pk_Lm_RAW_RX_LO (i / 2) (i % 2) || off == R.ULT_Pk_Lm_RAW_SYNC (i / 2) (i % 2)) with
    | some i =>
      if s.ulState (i / 2) (i % 2) = ulRaw then let b := s.freeBits 66; b.2.rawRx (i / 2) (i % 2) b.1 else s
    | none => s

/-- The answer to a requester. -/
def State.answer (s : State) (r : Req) (v : Word) : State := s.updRq r (fun q => { q with rword := v })

/-- A read of a mapped word of the register space: the answer is in `rword` of the requester (R2, R4, R17, R18). -/
def regRead (r : Req) (off : Nat) (s : State) : State :=
  if inMgmtSram off then s.answer r (BitVec.ofNat 32 (s.rdLe (regBase + off) 4))
  else
    match readRules.find? (fun v => arrHit v.off v.dims off) with
    | some v => v.act r (dimIdx v.dims (off - v.off)) s
    | none =>
      if isPairHi off then s.answer r (s.rq r).snap
      else
        let s := s.refreshRead off
        let v := s.regView r off
        let hi := s.regView r (off + 4)
        let s := if isPairLo off then s.updRq r (fun q => { q with snap := hi }) else s
        let s := match findRow off with
          | some row => clearRc s row off
          | none => s
        s.answer r v

/-- A read of `size` bytes of the register space (R15, R16): 1, 2 or 4. -/
def regLoad (r : Req) (off size : Nat) (s : State) : State :=
  if off % size ≠ 0 then (s.accessErr r R.GLB_ERR_SIZE (regBase + off)).answer r 0
  else if s.regMapped (off / 4 * 4) then
    let s := regRead r (off / 4 * 4) s
    s.answer r (BitVec.ofNat 32 ((s.rq r).rword.toNat / 2 ^ (8 * (off % 4)) % 2 ^ (8 * size)))
  else (s.accessErr r R.GLB_ERR_UNMAPPED (regBase + off)).answer r 0

/-! ## Writes -/

/-- A register whose write does more than set its fields. -/
structure WriteRule where
  off : Nat
  dims : List (Nat × Nat)
  act : Req → List Nat → Word → State → State

/-- A DRW_CMD write: a reserved OP starts nothing (R42). -/
def drwCmdWrite (v : Word) (s : State) : State :=
  let op := bitsOf v 23 20
  if 6 < op then (if s.is F.DRW_CMD_STATUS_BUSY then s.drwRefuse else s).enumRefused
  else drwCmd op (bitsOf v 31 24) (bitsOf v 19 0) s

/-- A TSET_CMD write: a reserved OP starts nothing (R173). -/
def tsetCmdWrite (v : Word) (s : State) : State :=
  let op := bitsOf v 23 20
  if 1 < op then
    (if s.is F.TSET_CMD_STATUS_BUSY then tsetCmd op 0 0 s else s).enumRefused
  else tsetCmd op (bitsOf v 31 24) (bitsOf v 7 0) s

/-- A write of STRM_SITE_n_CFG: POLICY ignores writes while STARVE_REPEAT is 1 (R82). -/
def strmCfgWrite (n : Nat) (v : Word) (s : State) : State :=
  let off := R.STRM_SITE_n_CFG n
  if s.compat 3 then
    let f := F.STRM_SITE_n_CFG_POLICY n
    s.plainWrite off (withBits v f.hi f.lo (bitsOf (s.word off) f.hi f.lo))
  else s.plainWrite off v

/-- A write of CLU_k_CH_j_CFG, EO_STROBE or EO_RESULT: dropped while the channel is bound to an armed site (R196). -/
def chCfgWrite (c off : Nat) (v : Word) (s : State) : State :=
  if (s.chanSite c).isSome then s.cluDrop (c / 16) else s.plainWrite off v

/-- A write of ULT_Pk_CMD: RETRAIN and BITSLIP; a reserved LANE slips nothing (R299). -/
def ultCmdWrite (k : Nat) (v : Word) (s : State) : State :=
  let s := if bitsOf v 0 0 = 1 then ultPortRetrain k s else s
  let m := bitsOf v 5 4
  if 1 < m then s.enumRefused
  else if bitsOf v 1 1 = 1 ∧ s.ulState k m = ulRaw then let b := s.freeBits 66; ultBitslip k m b.1 b.2
  else s

/-- A write of ULT_CFG: with ID_MODE FIXED the chip has the ID of the image from then on (R289). -/
def ultCfgWrite (v : Word) (s : State) : State :=
  if s.ready then s
  else
    let s := s.plainWrite R.ULT_CFG v
    let on := s.get F.ULT_CFG_ID_MODE == 1
    let id := if on then s.get F.ULT_CFG_FIXED_ID else 0xFFFF
    let s := (s.put F.ULT_STATUS_CHIP_ID id).put F.ULT_STATUS_ID_VALID (b2n on)
    (s.put F.GLB_CHIP_ID_CHIP_ID id).put F.GLB_CHIP_ID_VALID (b2n on)

/-- A write to a register of the pair table that has no rule of its own: both words in one update (R19). -/
def pairCommit (r : Req) (off : Nat) (v : Word) (s : State) : State :=
  let p := s.takeStaged r
  (p.2.plainWrite off v).plainWrite (off + 4) p.1

/-- ULT_RMT_READ and ULT_RMT_WRITE (R294): a remote access to the chip and offset in the registers; ignored while BUSY is 1. A
target that is this chip takes the request as port 4; one without a way is UNROUTABLE at the root (R290). -/
def rmtCmd (wr : Bool) (s : State) : State :=
  if s.is F.ULT_RMT_STATUS_BUSY then s
  else
    match s.route (s.get F.ULT_RMT_ID_ID) with
    | .here => s.rmtSend wr 4
    | .port k => s.rmtSend wr k
    | .none => if s.isRoot then (s.bump R.ULT_UNROUTABLE).rmtDone rmtUnroutable none else s.rmtSend wr 7

/-- A write of ULT_RMT_CMD. -/
def rmtCmdWrite (v : Word) (s : State) : State :=
  let op := bitsOf v 1 0
  if op = 1 then rmtCmd false s else if op = 2 then rmtCmd true s else s.enumRefused


/-- The registers whose writes act. -/
def writeRules : List WriteRule := [
  { off := R.CLK_REF_CTRL, dims := [], act := fun _ _ v s => s.refCtrlWrite v },
  { off := R.DRW_CMD, dims := [], act := fun _ _ v => drwCmdWrite v },
  { off := R.STRM_LEDGER_CTRL, dims := [], act := fun _ _ v => ledgerPctWrite v },
  { off := R.STRM_SITE_n_CFG 0, dims := [(64, 0x40)], act := fun _ i v => strmCfgWrite (ix0 i) v },
  { off := R.MEMC_RETRAIN_CTRL, dims := [], act := fun _ _ v => retrainCtrlWrite v },
  { off := R.MEMC_RETRAIN_CMD, dims := [], act := fun _ _ v s => if bitsOf v 31 31 = 1 then retrainRequest (bitsOf v 4 0) s else s },
  { off := R.SEQ_UCS_DATAk 3, dims := [], act := fun _ _ v => ucsWordWrite v },
  { off := R.SEQ_CTX_n_CMD 0, dims := [(64, 0x400)], act := fun _ i v s => if bitsOf v 0 0 = 1 then seqAbort (ix0 i) s else s },
  { off := R.SEQ_CTX_n_CORE_SET 0, dims := [(64, 0x400)], act := fun _ i v => coreFlagSet (ix0 i) (bitsOf v 3 0) },
  { off := R.SEQ_CTX_n_CORE_CLR 0, dims := [(64, 0x400)], act := fun _ i v => coreFlagClear (ix0 i) (bitsOf v 3 0) },
  { off := R.TSET_CMD, dims := [], act := fun _ _ v => tsetCmdWrite v },
  { off := R.TSET_PER_n_s_LO 0 0, dims := [(64, 0x800), (256, 0x8)], act := fun r i v s => let p := s.takeStaged r; tsetPerWrite (ix0 i) (ix1 i) v p.1 p.2 },
  { off := R.CLU_k_BANK_CFG 0, dims := [(32, 0x40000)], act := fun _ i v => bankVnomWrite (ix0 i) v },
  { off := R.CLU_k_CH_j_CFG 0 0, dims := [(32, 0x40000), (16, 0x400)], act := fun _ i v => chCfgWrite (16 * ix0 i + ix1 i) (R.CLU_k_CH_j_CFG (ix0 i) (ix1 i)) v },
  { off := R.CLU_k_CH_j_EO_STROBE 0 0, dims := [(32, 0x40000), (16, 0x400)], act := fun _ i v => chCfgWrite (16 * ix0 i + ix1 i) (R.CLU_k_CH_j_EO_STROBE (ix0 i) (ix1 i)) v },
  { off := R.CLU_k_CH_j_EO_RESULT 0 0, dims := [(32, 0x40000), (16, 0x400)], act := fun _ i v => chCfgWrite (16 * ix0 i + ix1 i) (R.CLU_k_CH_j_EO_RESULT (ix0 i) (ix1 i)) v },
  { off := R.CLU_k_LS_j_s_VIH 0 0 0, dims := [(32, 0x40000), (16, 0x100), (8, 0x20)], act := fun _ i v => levelWrite (16 * ix0 i + ix1 i) (ix2 i) 0 v },
  { off := R.CLU_k_LS_j_s_VIL 0 0 0, dims := [(32, 0x40000), (16, 0x100), (8, 0x20)], act := fun _ i v => levelWrite (16 * ix0 i + ix1 i) (ix2 i) 1 v },
  { off := R.CLU_k_LS_j_s_VOH 0 0 0, dims := [(32, 0x40000), (16, 0x100), (8, 0x20)], act := fun _ i v => levelWrite (16 * ix0 i + ix1 i) (ix2 i) 2 v },
  { off := R.CLU_k_LS_j_s_VOL 0 0 0, dims := [(32, 0x40000), (16, 0x100), (8, 0x20)], act := fun _ i v => levelWrite (16 * ix0 i + ix1 i) (ix2 i) 3 v },
  { off := R.CLU_k_LS_j_s_VTT 0 0 0, dims := [(32, 0x40000), (16, 0x100), (8, 0x20)], act := fun _ i v => levelWrite (16 * ix0 i + ix1 i) (ix2 i) 4 v },
  { off := R.CLU_k_MC_CTRL 0, dims := [(32, 0x40000)], act := fun _ i v s => s.mcCtrlWrite (ix0 i) v },
  { off := R.CLU_k_PP_j_CTRL 0 0, dims := [(32, 0x40000), (16, 0x10)], act := fun _ i v => ppmuCtrlWrite (ix0 i) (ix1 i) v },
  { off := R.CLU_k_PP_j_FORCE 0 0, dims := [(32, 0x40000), (16, 0x10)], act := fun _ i v => ppmuForceWrite (ix0 i) (ix1 i) v },
  { off := R.CLU_k_PP_j_VCLAMP 0 0, dims := [(32, 0x40000), (16, 0x10)], act := fun _ i v => ppmuVclampWrite (ix0 i) (ix1 i) v },
  { off := R.CLU_k_TDC_u_CMD 0 0, dims := [(32, 0x40000), (4, 0x1000)], act := fun _ i v s => s.tdcCmdWrite (ix0 i) (ix1 i) v },
  { off := R.ULT_CFG, dims := [], act := fun _ _ v => ultCfgWrite v },
  { off := R.ULT_ENUM_CMD, dims := [], act := fun _ _ v s => if bitsOf v 0 0 = 1 then s.enumStart else s },
  { off := R.ULT_RMT_CMD, dims := [], act := fun _ _ v => rmtCmdWrite v },
  { off := R.ULT_Pk_CTRL 0, dims := [(4, 0x100)], act := fun _ i v => ultPortCtrlWrite (ix0 i) v },
  { off := R.ULT_Pk_CMD 0, dims := [(4, 0x100)], act := fun _ i v => ultCmdWrite (ix0 i) v },
  { off := R.ULT_Pk_Lm_FFE 0 0, dims := [(4, 0x100), (2, 0x20)], act := fun _ i v s => s.ultFfeWrite (ix0 i) (ix1 i) v },
  { off := R.SITE_n_CMD 0, dims := [(64, 0x100)], act := fun _ i v s => s.siteCmdWrite (ix0 i) v },
  { off := R.XL_n_CTRL 0, dims := [(128, 0x1000)], act := fun _ i v s => let g := s.xlFree; xlCtrlWrite (ix0 i) v g.1 g.2 },
  { off := R.XL_n_CMD 0, dims := [(128, 0x1000)], act := fun _ i v s => let g := s.xlFree; xlCmd (ix0 i) (xlOpsOf v) g.1 g.2 },
  { off := R.XL_n_FFE 0, dims := [(128, 0x1000)], act := fun _ i v s => s.xlFfeWrite (ix0 i) v },
  { off := R.XL_n_RXEQ 0, dims := [(128, 0x1000)], act := fun _ i v s => s.xlRxeqWrite (ix0 i) v },
  { off := R.XL_n_DFE 0, dims := [(128, 0x1000)], act := fun _ i v s => s.xlDfeWrite (ix0 i) v },
  { off := R.SCHED_ITEM_Wi 7, dims := [], act := fun r _ v => schedEnqueue r v },
  { off := R.SCHED_ITEM_Wi 0, dims := [(8, 0x4)], act := fun r i v s => s.updRq r (fun q => { q with itemW := Tab.set 0 (ix0 i) v q.itemW }) },
  { off := R.SCHED_CORE_n_CTRL 0, dims := [(16, 0x100)], act := fun _ i v => coreRunWrite (ix0 i) v },
  { off := R.SCHED_CORE_n_CFG 0, dims := [(16, 0x100)], act := fun _ i v => coreCfgWrite (ix0 i) v },
  { off := R.SCHED_CORE_n_MTIMECMP_LO 0, dims := [(16, 0x100)], act := fun r i v s => (pairCommit r (R.SCHED_CORE_n_MTIMECMP_LO (ix0 i)) v s).timerShow (ix0 i) },
  { off := R.SCHED_CORE_n_DONE 0, dims := [(16, 0x100)], act := fun _ i v => schedDone (ix0 i) v },
  { off := R.INTC_PEND_w 0, dims := [(8, 0x4)], act := fun _ i v => intcPendClear (ix0 i) v },
  { off := R.INTC_SETPEND_w 0, dims := [(8, 0x4)], act := fun _ i v => intcSetpend (ix0 i) v },
  { off := R.INTC_SRC_s_CFG 0, dims := [(256, 0x10)], act := fun _ i v => srcCfgWrite (ix0 i) false v },
  { off := R.INTC_SRC_s_TGT 0, dims := [(256, 0x10)], act := fun _ i v => srcCfgWrite (ix0 i) true v },
  { off := R.INTC_TGT_t_EOI 0, dims := [(17, 0x100)], act := fun _ i v => intcEoi (ix0 i) v },
  { off := R.INTC_TGT_t_PUSH 0, dims := [(17, 0x100)], act := fun _ i v => intcPush (ix0 i) v },
  { off := R.HOSTIF_DMA_e_CTRL 0, dims := [(8, 0x100)], act := fun _ i v => dmaEnableWrite (ix0 i) v },
  { off := R.MBX_DB_H2D_SET_w 0, dims := [(2, 0x4)], act := fun _ i v => dbH2dSet (ix0 i) v },
  { off := R.MBX_DB_H2D_CLR_w 0, dims := [(2, 0x4)], act := fun _ i v => dbH2dClr (ix0 i) v },
  { off := R.MBX_DB_D2H_SET_w 0, dims := [(2, 0x4)], act := fun _ i v => dbD2hSet (ix0 i) v },
  { off := R.MBX_DB_D2H_CLR_w 0, dims := [(2, 0x4)], act := fun _ i v => dbD2hClr (ix0 i) v },
  { off := R.MBX_m_CFG 0, dims := [(32, 0x40)], act := fun _ i v s => s.mbxCfgWrite (ix0 i) v },
  { off := R.MBX_m_NOTICE_LO 0, dims := [(32, 0x40)], act := fun r i v => mbxPost r (ix0 i) v },
  { off := R.MBX_m_ACK 0, dims := [(32, 0x40)], act := fun r i v => mbxAck r (ix0 i) v },
  { off := R.TIME_CTRL, dims := [], act := fun _ _ v s => s.timeCtrlWrite v },
  { off := R.TIME_TB_i_OFFSET_LO 0, dims := [(4, 0x40)], act := fun r i v => timeOffsetWrite r (ix0 i) v },
  { off := R.TIME_TB_i_RATE 0, dims := [(4, 0x40)], act := fun _ i v => timeRateWrite (ix0 i) v },
  { off := R.TIME_TB_i_ADJ_LO 0, dims := [(4, 0x40)], act := fun r i v => timeAdjWrite r (ix0 i) v },
  { off := R.TIME_TSQ_FIND, dims := [], act := fun r _ v => tsqFind r v },
  { off := R.CAL_CMD, dims := [], act := fun _ _ v s => s.calCmdWrite v },
  { off := R.CAL_SPAN_CMD, dims := [], act := fun _ _ v s => s.calSpanWrite v },
  { off := R.BOOT_RESET, dims := [], act := fun _ _ v => bootResetWrite v },
  { off := R.MGS_SAFE_CTRL, dims := [], act := fun _ _ v => safeForceWrite v },
  { off := R.MGS_WDT_CTRL, dims := [], act := fun _ _ v => wdtEnable v },
  { off := R.MGS_WDT_KICK, dims := [], act := fun r _ v => wdtKick r v },
  { off := R.MGS_KA_RTC_LO, dims := [], act := fun r _ v => kaRtcWrite r v },
  { off := R.MGS_KA_CLR, dims := [], act := fun r _ v => kaClr r v },
  { off := R.MGS_LOG_RD_IDX, dims := [], act := fun _ _ v => logRdIdxWrite v },
  { off := R.MGS_LOG_APP_CODE, dims := [], act := fun r _ v => logAppend r v },
  { off := R.MGS_LOG_APP_Dw 0, dims := [(8, 0x4)], act := fun r i v s => s.updRq r (fun q => { q with logD := Tab.set 0 (ix0 i) v q.logD }) },
  { off := R.MGS_UART_DATA, dims := [], act := fun _ _ v => uartDataWrite v }]

/-- Channel, set and word of an offset in the table of timing-set entries, in the layout in force (R164, R165). -/
def State.entAt (s : State) (off : Nat) : Option (Nat × Nat × Nat) :=
  if 0xA00000 ≤ off ∧ off < 0xE00000 then
    let sz := if s.compat 0 then 16 else 32
    let e := (off - 0xA00000) / sz
    some (e / 256, e % 256, (off - 0xA00000) % sz / 4)
  else none

/-- A 32-bit write of a mapped word of the register space (R2, R13, R14, R19). A _HI write only stages. -/
def regWrite (r : Req) (off : Nat) (v : Word) (s : State) : State :=
  if inMgmtSram off then s.wrBytes (regBase + off) (leBytes 4 v.toNat)
  else if isPairHi off then s.updRq r (fun q => { q with staged := v })
  else
    match writeRules.find? (fun w => arrHit w.off w.dims off), s.entAt off with
    | some w, _ => w.act r (dimIdx w.dims (off - w.off)) v s
    | none, some (c, t, i) => tsetEntryWrite c t i v s
    | none, none => if isPairLo off then pairCommit r off v s else s.plainWrite off v

/-- A write of `size` bytes of the register space (R15, R16): 1, 2 or 4. -/
def regStore (r : Req) (off size : Nat) (v : Word) (s : State) : State :=
  if size ≠ 4 ∨ off % 4 ≠ 0 then s.accessErr r R.GLB_ERR_SIZE (regBase + off)
  else if s.regMapped off then regWrite r off v s
  else s.accessErr r R.GLB_ERR_UNMAPPED (regBase + off)

/-- Offsets of the register space. -/
def inRegSpace (off : Nat) : Bool := off < 0x8000000

/-- REGISTER_WRITE (R2, R16): a write of 1, 2 or 4 bytes, or of 8 bytes as two writes, the lower address first. -/
def registerWrite (r : Req) (off size v : Nat) (s : State) : State :=
  if !inRegSpace off then s
  else if size = 8 then regStore r (off + 4) 4 (BitVec.ofNat 32 (v / 2 ^ 32)) (regStore r off 4 (BitVec.ofNat 32 v) s)
  else if size = 1 ∨ size = 2 ∨ size = 4 then regStore r off size (BitVec.ofNat 32 v) s
  else s

/-- The 32-bit read of an offset (RC_READ, PAIR_LO_READ, PAIR_HI_READ). -/
def registerRead (r : Req) (off : Nat) (s : State) : State := if inRegSpace off then regLoad r off 4 s else s

/-! ## Meanings -/

def execRegisterWrite (r : Req) (off size v : Nat) (s : State) : Host.Outcome State Fault Refusal :=
  .next (registerWrite r off size v s)
def execRcRead (r : Req) (off : Nat) (s : State) : Host.Outcome State Fault Refusal := .next (registerRead r off s)
def execPairLoRead (r : Req) (off : Nat) (s : State) : Host.Outcome State Fault Refusal := .next (registerRead r off s)
def execPairHiRead (r : Req) (off : Nat) (s : State) : Host.Outcome State Fault Refusal := .next (registerRead r off s)
def execPairHiWrite (r : Req) (off : Nat) (v : Word) (s : State) : Host.Outcome State Fault Refusal :=
  .next (registerWrite r off 4 v.toNat s)
def execPairLoWrite (r : Req) (off : Nat) (v : Word) (s : State) : Host.Outcome State Fault Refusal :=
  .next (registerWrite r off 4 v.toNat s)
def execUltRmtRead (s : State) : Host.Outcome State Fault Refusal := .next (rmtCmd false s)
def execUltRmtWrite (s : State) : Host.Outcome State Fault Refusal := .next (rmtCmd true s)

end Sys2Proof.Machine
end

