-- ==== Sys2Proof/Machine/Bus.lean ====
section
/-!
DEFINITION. The internal memory map (chapter 01): writes in 64-byte beats under the guard, reads with their check codes, the store
buffers of the site cores (chapter 12) and what the descriptors of the DMA engines move (chapter 13).
-/

namespace Sys2Proof.Machine

/-! ## The memory map (R20) -/

/-- A region of the internal map. -/
inductive Region where
  | hbm | fifo | shelf | capture | sram | tcm | reg | none
  deriving DecidableEq, Repr

/-- The region of an address. -/
def regionOf (a : Nat) : Region :=
  if inHbm a then .hbm
  else if 0xC00000000 ≤ a ∧ a < 0xC02000000 then .fifo
  else if inShelf a then .shelf
  else if 0xC05000000 ≤ a ∧ a < 0xC06000000 then .capture
  else if 0xD00000000 ≤ a ∧ a < 0xD00400000 then .sram
  else if 0xD10000000 ≤ a ∧ a < 0xD10200000 then .tcm
  else if regBase ≤ a ∧ a < regEnd then .reg
  else .none

/-- The 64-byte aligned beats of a byte range, ascending: first address and bytes. -/
def beats (a n : Nat) : List (Nat × Nat) :=
  if n = 0 then []
  else (List.range ((a + n - 1) / 64 + 1 - a / 64)).map (fun i =>
    let b := (a / 64 + i) * 64
    let lo := max a b
    (lo, min (a + n) (b + 64) - lo))

/-- The register accesses of a byte range: words from its first address, the rest narrower (R16). -/
def regPieces (a n : Nat) : List (Nat × Nat) :=
  let q := n / 4
  let t := a + 4 * q
  (List.range q).map (fun i => (a + 4 * i, 4)) ++
    (if n % 4 = 0 then [] else if n % 4 = 3 then [(t, 2), (t + 2, 1)] else [(t, n % 4)])

/-! ## Writes (R20, R45, R51, R53, R100) -/

/-- Why a beat is not written. -/
inductive Drop where
  | guard | dir | fifo | unmapped
  deriving DecidableEq, Repr

/-- A burst has a fresh check code. -/
def State.eccClear (s : State) (b : Nat) : State :=
  { s with memc := { s.memc with
      ueBursts := s.memc.ueBursts.filter (· != b)
      ceBursts := s.memc.ceBursts.filter (· != b)
      writebacks := s.memc.writebacks.filter (· != b) } }

/-- The check codes of the bursts that a write touches (R100): a burst that is replaced as a whole is clean; a part of a burst is
merged, which counts what the read part meets and keeps an uncorrectable error. -/
def State.eccWrite (s : State) (r : Req) (a n : Nat) : State :=
  s.each (burstsOf a n) (fun t b =>
    if a ≤ 32 * b && 32 * b + 32 ≤ a + n then t.eccClear b
    else if t.memc.ueBursts.contains b then t.noteUe (32 * b) (reqCode r) none
    else if t.memc.ceBursts.contains b then (t.noteCe b).eccClear b
    else t)

/-- A dropped beat is counted and recorded (R51). -/
def State.guardDrop (s : State) (r : Req) (a : Nat) (ids : List Nat) : State :=
  let s := (s.bump R.DRW_GUARD_DROP).put F.DRW_EVENT_GUARD_DROP 1
  let s := s.putPair R.DRW_GUARD_LAST_LO (a / 64 * 64)
  (s.put F.DRW_GUARD_LAST_SRC_REQ (reqCode r)).put F.DRW_GUARD_LAST_SRC_ID (ids.foldl min 0xFFFFF)

/-- An accepted beat enters the write log, which holds the last 32 (R53). -/
def State.logBeat (s : State) (a n : Nat) : State :=
  let q := s.drw.logSeq
  let l := s.drw.log ++ [{ seq := q, time := s.now, addr := a, len := n }]
  { s with drw := { s.drw with logSeq := q + 1, log := l.drop (l.length - 32) } }

/-- The core that a requester is. -/
def reqCore : Req → Option Nat
  | .core n => some n.val
  | _ => none

/-- Bytes reach memory; reservations of other cores on their granules end (R334). -/
def State.store (s : State) (r : Req) (a : Nat) (d : List Byte) : State := (s.wrBytes a d).dropResv (reqCore r) a d.length

/-- A beat to HBM or the shelf (R45, R51 to R53, R55, R100); the device's own writes pass the guard and the log by. -/
def guardedBeat (r : Req) (a : Nat) (d : List Byte) (s : State) : Option Drop × State :=
  if r ≠ .device ∧ s.dirProtected a then (some .dir, (s.bump R.DRW_DIR_WP_DROP).put F.DRW_EVENT_DIR_WP_DROP 1)
  else
    let ids := s.artHits (a, d.length)
    if r ≠ .device ∧ !ids.isEmpty then (some .guard, s.guardDrop r a ids)
    else
      let s := if inHbm a then s.eccWrite r a d.length else s
      let s := s.store r a d
      (none, if r = .device then s else s.logBeat a d.length)

/-- The register accesses of a beat in the register space. -/
def regBeat (r : Req) (a : Nat) (d : List Byte) (s : State) : Option Drop × State :=
  let l := regPieces (a - regBase) d.length
  let bad := l.any (fun p => !s.regMapped (p.1 / 4 * 4))
  let s := s.each l (fun t p =>
    regStore r p.1 p.2 (BitVec.ofNat 32 (leNat ((d.drop (p.1 - (a - regBase))).take p.2))) t)
  (if bad then some .unmapped else none, s)

/-- One beat of a write: why it is dropped, if it is. -/
def writeBeat (r : Req) (a : Nat) (d : List Byte) (s : State) : Option Drop × State :=
  match regionOf a with
  | .hbm => guardedBeat r a d s
  | .shelf => guardedBeat r a d s
  | .fifo => (some .fifo, s.bump R.GLB_ERR_FIFO_WR)
  | .capture => (none, s.store r a d)
  | .sram => (none, s.store r a d)
  | .tcm => (none, s.store r a d)
  | .reg => regBeat r a d s
  | .none => (some .unmapped, s.accessErr r R.GLB_ERR_UNMAPPED a)

/-- The beats of a write in ascending order; `a0` and `d` are the whole write. -/
def writeBeats (r : Req) (a0 : Nat) (d : List Byte) : List (Nat × Nat) → State → List Drop × State
  | [], s => ([], s)
  | (a, n) :: l, s =>
    let x := writeBeat r a ((d.drop (a - a0)).take n) s
    let y := writeBeats r a0 d l x.2
    (x.1.toList ++ y.1, y.2)

/-- A write to the memory map by a requester: the drops of its beats. -/
def memWrite (r : Req) (a : Nat) (d : List Byte) (s : State) : List Drop × State := writeBeats r a d (beats a d.length) s

/-! ## Reads (R15, R20, R98, R99) -/

/-- What a read returns: pieces as address, bytes and whether they are mapped, and the uncorrectable bursts. -/
structure MemRd where
  chunks : List (Nat × List Byte × Bool)
  ue : List Nat
  deriving DecidableEq, Repr

/-- The bytes of a read. -/
def MemRd.data (x : MemRd) : List Byte := x.chunks.flatMap (fun c => c.2.1)

/-- The register accesses of a read. -/
def regReads (r : Req) : List (Nat × Nat) → State → List (Nat × List Byte × Bool) × State
  | [], s => ([], s)
  | (off, n) :: l, s =>
    let ok := s.regMapped (off / 4 * 4)
    let t := regLoad r off n s
    let y := regReads r l t
    ((regBase + off, leBytes n (t.rq r).rword.toNat, ok) :: y.1, y.2)

/-- One beat of a read. -/
def readBeat (r : Req) (a n : Nat) (s : State) : MemRd × State :=
  match regionOf a with
  | .hbm => let e := s.eccRead a n (reqCode r) none; (⟨[(a, e.2.rdBytes a n, true)], e.1⟩, e.2)
  | .fifo => (⟨[(a, List.replicate n 0xFF, true)], []⟩, s)
  | .reg => let x := regReads r (regPieces (a - regBase) n) s; (⟨x.1, []⟩, x.2)
  | .none => (⟨[(a, List.replicate n 0, false)], []⟩, s.accessErr r R.GLB_ERR_UNMAPPED a)
  | .shelf => (⟨[(a, s.rdBytes a n, true)], []⟩, s)
  | .capture => (⟨[(a, s.rdBytes a n, true)], []⟩, s)
  | .sram => (⟨[(a, s.rdBytes a n, true)], []⟩, s)
  | .tcm => (⟨[(a, s.rdBytes a n, true)], []⟩, s)

/-- The beats of a read. -/
def readBeats (r : Req) : List (Nat × Nat) → State → MemRd × State
  | [], s => (⟨[], []⟩, s)
  | (a, n) :: l, s =>
    let x := readBeat r a n s
    let y := readBeats r l x.2
    (⟨x.1.chunks ++ y.1.chunks, x.1.ue ++ y.1.ue⟩, y.2)

/-- A read of the memory map by a requester that meets single-bit errors in bursts `ce` and uncorrectable ones in `ue`. -/
def memRead (r : Req) (a n : Nat) (ce ue : List Nat) (s : State) : MemRd × State :=
  let near := fun (b : Nat) => inHbm (32 * b) && (burstsOf a n).contains b
  readBeats r (beats a n) (s.addErrs (ce.filter near) (ue.filter near))

/-! ## Loads and stores of a site core (R330, R333) -/

/-- Entries of a store buffer. -/
def sbSize : Nat := 8

/-- STORE_BUFFER_DRAIN (R333): the oldest store of a core becomes visible to every other requester. -/
def sbDrain (n : Core) (s : State) : State :=
  match (s.hartOf n.val).sb with
  | [] => s
  | x :: l => (memWrite (.core n) x.addr x.data (s.updHart n.val (fun h => { h with sb := l }))).2

/-- A core accesses 1, 2, 4 or 8 bytes. -/
def coreSize (n : Nat) : Bool := n == 1 || n == 2 || n == 4 || n == 8

/-- A store of a core enters its store buffer; where that is full, its oldest store leaves first (R330, R333). -/
def coreStore (n : Core) (a : Nat) (d : List Byte) (s : State) : State :=
  if !s.coreLive n.val || !coreSize d.length then s
  else if a % d.length ≠ 0 then s.trap n.val false 6 (BitVec.ofNat 64 a)
  else
    let s := if sbSize ≤ (s.hartOf n.val).sb.length then sbDrain n s else s
    s.updHart n.val (fun h => { h with sb := h.sb ++ [{ addr := a, data := d }] })

/-- The youngest waiting store's byte at an address (R333). -/
def Hart.fwd (h : Hart) (a : Nat) : Option Byte :=
  h.sb.foldl (fun o e => if e.addr ≤ a ∧ a < e.addr + e.data.length then e.data[a - e.addr]? else o) none

/-- A load of a core (R330, R333): waiting stores come first; uncorrectable HBM data is a load access fault. -/
def coreLoad (n : Core) (a len : Nat) (ce ue : List Nat) (s : State) : State :=
  let r : Req := .core n
  let done := fun (t : State) (d : List Byte) (bad : Bool) =>
    t.updRq r (fun q => { q with rbytes := d, rPoison := false, rFault := bad })
  if !s.coreLive n.val || !coreSize len then s
  else if a % len ≠ 0 then s.trap n.val false 4 (BitVec.ofNat 64 a)
  else
    let f := (List.range len).map (fun i => (s.hartOf n.val).fwd (a + i))
    if f.all Option.isSome then done s (f.map (fun b => b.getD 0)) false
    else
      let x := memRead r a len ce ue s
      if x.1.ue.isEmpty then done x.2 ((f.zip x.1.data).map (fun p => p.1.getD p.2)) false
      else (done x.2 [] true).trap n.val false 5 (BitVec.ofNat 64 a)

/-! ## Commands of the memory map -/

/-- MEMORY_WRITE (R51): a write of bytes by a requester. -/
def memoryWrite (r : Req) (a : Nat) (d : List Byte) (s : State) : State :=
  match r with
  | .core n => coreStore n a d s
  | _ => (memWrite r a d s).2

/-- MEMORY_READ (R99): a read of bytes by a requester, handled according to the reader: poisoned data for the host, a fault for
the management core, an error status for DMA and Ulten. -/
def memoryRead (r : Req) (a n : Nat) (ce ue : List Nat) (s : State) : State :=
  match r with
  | .core c => coreLoad c a n ce ue s
  | _ =>
    let x := memRead r a n ce ue s
    let bad := !x.1.ue.isEmpty
    let s := x.2.when (bad && r == .host) (fun t => t.bump R.HOSTIF_EP_SENT)
    s.updRq r (fun q => { q with rbytes := x.1.data, rPoison := bad && r == .host, rFault := bad && r != .host })

/-! ## What DMA descriptors move (R359, R360) -/

/-- Conditions of a write for the completion code. -/
def dropConds (l : List Drop) : List Nat :=
  (if l.contains .unmapped then [dcUnmapped] else []) ++ (if l.contains .guard then [dcGuard] else [])

/-- The host's data for a descriptor: a failed completion moves nothing. -/
def State.dmaHostData (s : State) (e : Nat) (op : Nat) (d : List Byte) (ok : Bool) (f : DmaDesc → State → State) : State :=
  match s.dmaStart e op with
  | none => s
  | some c => if !ok then s.cplErr.dmaMoved e [dcHostErr] [] else if d.length = c.len then f c s else s

/-- DMA_H2D. -/
def dmaH2d (e : Engine8) (d : List Byte) (ok : Bool) (s : State) : State :=
  s.dmaHostData e.val dmaOpH2d d ok (fun c s =>
    let x := memWrite (.dma e) c.dev d s
    x.2.dmaMoved e.val (dropConds x.1) [])

/-- DMA_D2H: the mapped part goes to host memory. -/
def dmaD2h (e : Engine8) (ce ue : List Nat) (s : State) : State :=
  match s.dmaStart e.val dmaOpD2h with
  | none => s
  | some c =>
    let x := memRead (.dma e) c.dev c.len ce ue s
    let out := (x.1.chunks.filter (fun p => p.2.2)).map (fun p => (c.host + (p.1 - c.dev), p.2.1))
    let s := { x.2 with host := { x.2.host with out := x.2.host.out ++ out } }
    s.dmaMoved e.val ((if x.1.chunks.all (fun p => p.2.2) then [] else [dcUnmapped]) ++
      (if x.1.ue.isEmpty then [] else [dcUe])) []

/-- The eight-byte blocks of data. -/
def dataBlocks (d : List Byte) : List Nat := (List.range (d.length / 8)).map (fun i => sub d (8 * i) 8)

/-- A BULK WRITE of at most 256 bytes (R293). -/
def State.bulkMsg (s : State) (mcast : Bool) (dest a : Nat) (d : List Byte) : Msg :=
  { cls := clsBulk, mcast := mcast, dest := dest, src := s.chipId, ttl := 0, typ := 1,
    blocks := (d.length * 2 ^ 48 + a % 2 ^ 40) :: dataBlocks d }

/-- The BULK messages of a descriptor: address and data of each. -/
def bulkParts (a : Nat) (d : List Byte) : List (Nat × List Byte) :=
  (List.range (ceilDiv d.length 256)).map (fun i => (a + 256 * i, (d.drop (256 * i)).take 256))

/-- The ports that a broadcast leaves by (R287, R295). -/
def State.bcastPorts (s : State) : List Nat := if s.is F.ULT_STATUS_TOO_DEEP then [] else s.downPorts

/-- DMA_BCAST (R295, R359): the local writes under the guard, and every message on every down-port. -/
def dmaBcast (e : Engine8) (d : List Byte) (ok : Bool) (s : State) : State :=
  s.dmaHostData e.val dmaOpBcast d ok (fun c s =>
    let x := memWrite (.dma e) c.dev d s
    let s := x.2.addSat R.ULT_BULK_DROP x.1.length
    let s := s.each (bulkParts c.dev d) (fun t p => t.sendAll t.bcastPorts (t.bulkMsg true 0 p.1 p.2))
    s.dmaMoved e.val (dropConds x.1) [])

/-- A unicast message leaves, on port 4 where this chip is the target (R290). -/
def State.sendAny (s : State) (m : Msg) : State := if s.route m.dest = .here then s.sendOn 4 m else s.sendTo m

/-- DMA_REMOTE (R359): unicast messages to chip DEST; each is acknowledged. -/
def dmaRemote (e : Engine8) (d : List Byte) (ok : Bool) (s : State) : State :=
  s.dmaHostData e.val dmaOpRemote d ok (fun c s =>
    let ps := bulkParts c.dev d
    let s := s.each ps (fun t p => t.sendAny (t.bulkMsg false c.dest p.1 p.2))
    s.dmaMoved e.val [] (ps.map (·.1)))

/-! ## Meanings -/

def execMemoryWrite (r : Req) (addr : Nat) (data : List Byte) (s : State) : Host.Outcome State Fault Refusal :=
  .next (memoryWrite r addr data s)
def execMemoryRead (r : Req) (addr n : Nat) (ce ue : List Nat) (s : State) : Host.Outcome State Fault Refusal :=
  .next (memoryRead r addr n ce ue s)
def execStoreBufferDrain (n : Core) (s : State) : Host.Outcome State Fault Refusal := .next (sbDrain n s)
def execDmaH2d (e : Engine8) (d : List Byte) (ok : Bool) (s : State) : Host.Outcome State Fault Refusal := .next (dmaH2d e d ok s)
def execDmaD2h (e : Engine8) (ce ue : List Nat) (s : State) : Host.Outcome State Fault Refusal := .next (dmaD2h e ce ue s)
def execDmaBcast (e : Engine8) (d : List Byte) (ok : Bool) (s : State) : Host.Outcome State Fault Refusal :=
  .next (dmaBcast e d ok s)
def execDmaRemote (e : Engine8) (d : List Byte) (ok : Bool) (s : State) : Host.Outcome State Fault Refusal :=
  .next (dmaRemote e d ok s)

end Sys2Proof.Machine
end

