-- ==== Sys2Proof/Machine/UltMsgs.lean ====
section
/-!
DEFINITION. Management and bulk messages of the Ulten fabric (chapter 10): register accesses at a target and their answers,
memory writes and their acknowledgements.
-/

namespace Sys2Proof.Machine

/-! ## Register accesses (R290, R294) -/

/-- The block of an answer: [63:56] tag, [35:32] status, [31:0] data. -/
def rspBlock (tag status data : Nat) : Nat := tag % 256 * 2 ^ 56 + status % 16 * 2 ^ 32 + data % 2 ^ 32

/-- A request is taken here, routed on, or dropped at the root and answered with UNROUTABLE (R290); a chip that is too deep forwards
nothing (R287). The data of that answer are not stated. -/
def State.mgmtIn (s : State) (m : Msg) (rsp tag : Nat) (f : State → State) : State :=
  match s.route m.dest with
  | .here => f s
  | .port _ => if s.is F.ULT_STATUS_TOO_DEEP then s else s.sendTo m
  | .none =>
    if s.isRoot then
      let b := (s.bump R.ULT_UNROUTABLE).freeBits 32
      b.2.sendAny (b.2.mgmtMsg m.src rsp [rspBlock tag rmtUnroutable (if rsp = 2 then b.1 else 0)])
    else s

/-- RD_REQ (R294): the register is read here as requester 0x13, and the answer leaves. -/
def rdReq (dest src tag off : Nat) (s : State) : State :=
  s.mgmtIn { cls := clsMgmt, mcast := false, dest := dest, src := src, ttl := 0, typ := 1, blocks := [mgmtHead tag off] } 2 tag
    (fun s =>
      let s := registerRead .ulten (off % 2 ^ 27) s
      s.sendAny (s.mgmtMsg src 2 [rspBlock tag rmtOk (s.rq .ulten).rword.toNat]))

/-- WR_REQ (R294). -/
def wrReq (dest src tag off : Nat) (v : Word) (s : State) : State :=
  s.mgmtIn { cls := clsMgmt, mcast := false, dest := dest, src := src, ttl := 0, typ := 3, blocks := [mgmtHead tag off, v.toNat] }
    4 tag (fun s =>
      let s := registerWrite .ulten (off % 2 ^ 27) 4 v.toNat s
      s.sendAny (s.mgmtMsg src 4 [rspBlock tag rmtOk 0]))

/-- An answer completes the remote access whose tag it carries. -/
def State.rspIn (s : State) (wr : Bool) (tag status : Nat) (data : Word) : State :=
  match s.ult.mgmt with
  | some q =>
    if q.tag = tag ∧ q.wr = wr ∧ s.is F.ULT_RMT_STATUS_BUSY then
      s.rmtDone (status % 16) (if wr ∨ status ≠ rmtOk then none else some data.toNat)
    else s
  | none => s

/-- RD_RSP (R294). -/
def rdRsp (dest src tag status : Nat) (data : Word) (s : State) : State :=
  s.unicastIn { cls := clsMgmt, mcast := false, dest := dest, src := src, ttl := 0, typ := 2,
                blocks := [rspBlock tag status data.toNat] } (fun s => s.rspIn false tag status data)

/-- WR_RSP (R294). -/
def wrRsp (dest src tag status : Nat) (s : State) : State :=
  s.unicastIn { cls := clsMgmt, mcast := false, dest := dest, src := src, ttl := 0, typ := 4, blocks := [rspBlock tag status 0] }
    (fun s => s.rspIn true tag status 0)

/-- MGMT_TIMEOUT (R294): no answer within ULT_MGMT_TMO.US µs. -/
def mgmtTimeout (s : State) : State := if s.is F.ULT_RMT_STATUS_BUSY then s.rmtLost else s

/-! ## Memory writes (R295) -/

/-- The length of a BULK WRITE (R293). -/
def bulkLenOk (n : Nat) : Bool := 8 ≤ n && n ≤ 256 && n % 8 == 0

/-- A broadcast WRITE is written here under the guard and leaves on every down-port; beats that cannot be written are counted. -/
def writeBcast (src a : Nat) (d : List Byte) (s : State) : State :=
  let x := memWrite .ulten a d s
  let s := x.2.addSat R.ULT_BULK_DROP x.1.length
  s.sendAll s.bcastPorts { s.bulkMsg true 0 a d with src := src }

/-- The block of an acknowledgement. R293 gives bits [35:32] to the status and to the address, so those four are free. -/
def State.ackBlock (s : State) (a : Nat) : Nat × State :=
  let b := s.freeBits 4
  (a % 2 ^ 40 / 2 ^ 36 * 2 ^ 36 + b.1 * 2 ^ 32 + a % 2 ^ 32, b.2)

/-- A unicast WRITE is written here and acknowledged, or routed on. -/
def writeUnicast (dest src a : Nat) (d : List Byte) (s : State) : State :=
  s.unicastIn { s.bulkMsg false dest a d with src := src } (fun s =>
    let x := memWrite .ulten a d s
    let b := x.2.ackBlock a
    b.2.sendAny { cls := clsBulk, mcast := false, dest := src, src := b.2.chipId, ttl := 0, typ := 2, blocks := [b.1] })

/-- WRITE (R295). -/
def bulkWrite (mcast : Bool) (dest src a : Nat) (d : List Byte) (s : State) : State :=
  if !bulkLenOk d.length then s
  else if mcast then writeBcast src a d s
  else writeUnicast dest src a d s

/-- The engine whose REMOTE descriptor waits for the acknowledgement of an address at a chip. -/
def State.ackEngine (s : State) (src a : Nat) : Option Nat :=
  engineNums.find? (fun e => (s.dmaOf e).acks.contains a && (match (s.dmaOf e).cur with
    | some d => d.dest == src
    | none => false))

/-- WRITE_ACK (R295, R360): an acknowledgement with its status reaches the sender; on its way it keeps its block. -/
def writeAck (dest src a status block : Nat) (s : State) : State :=
  match s.route dest with
  | .here =>
    let s := { s with ult := { s.ult with acks := s.ult.acks ++ [(a, status)] } }
    match s.ackEngine src a with
    | some e => s.updDma e (fun x => { x with
        acks := x.acks.erase a
        conds := if status = 0 then x.conds else x.conds ++ [dcRemoteErr] })
    | none => s
  | _ =>
    if s.is F.ULT_STATUS_TOO_DEEP then s
    else s.sendTo { cls := clsBulk, mcast := false, dest := dest, src := src, ttl := 0, typ := 2, blocks := [block] }

/-! ## Meanings -/

def execRdReq (dest src tag off : Nat) (s : State) : Host.Outcome State Fault Refusal := .next (rdReq dest src tag off s)
def execRdRsp (dest src tag status : Nat) (data : Word) (s : State) : Host.Outcome State Fault Refusal :=
  .next (rdRsp dest src tag status data s)
def execWrReq (dest src tag off : Nat) (data : Word) (s : State) : Host.Outcome State Fault Refusal :=
  .next (wrReq dest src tag off data s)
def execWrRsp (dest src tag status : Nat) (s : State) : Host.Outcome State Fault Refusal := .next (wrRsp dest src tag status s)
def execMgmtTimeout (s : State) : Host.Outcome State Fault Refusal := .next (mgmtTimeout s)
def execWrite (mcast : Bool) (dest src addr : Nat) (data : List Byte) (s : State) : Host.Outcome State Fault Refusal :=
  .next (bulkWrite mcast dest src addr data s)
def execWriteAck (dest src addr status block : Nat) (s : State) : Host.Outcome State Fault Refusal :=
  .next (writeAck dest src addr status block s)

end Sys2Proof.Machine
end

