-- ==== Sys2Proof/Machine/Boot.lean ====
section
/-!
DEFINITION. Start-up (chapter 17): the image and its checks, the boot stages, configuration records, READY, the update requests
of mailbox 0, and register accesses over JTAG (chapter 18).
-/

namespace Sys2Proof.Machine

/-! ## The image (R432 to R435) -/

/-- Bytes of an image by offset from the slot start and length. -/
abbrev Img := Nat → Nat → List Byte

/-- Bytes of a slot, and the header. -/
def slotSize : Nat := 0x800000
def hdrSize : Nat := 0x240

/-- The image that a slot of the flash holds. -/
def State.slotImg (s : State) (slot : Nat) : Img := fun a n => s.flashRd (slotSize * slot + a) n

/-- An image given as its bytes. -/
def listImg (l : List Byte) : Img := fun a n => (l.drop a).take n

/-- Section types (R433). -/
def secChip : Nat := 1
def secPins : Nat := 2
def secTrims : Nat := 3
def secMicro : Nat := 4
def secMgmt : Nat := 5
def secSite : Nat := 6

/-- A section table entry: type, offset, length, and its 16 bytes. -/
structure Sec where
  typ : Nat
  off : Nat
  len : Nat
  raw : List Byte
  deriving DecidableEq, Repr

/-- Entry `i` of the section table of a header. -/
def secAt (h : List Byte) (i : Nat) : Sec :=
  let r := (h.drop (0xE0 + 16 * i)).take 16
  { typ := sub r 0 1, off := sub r 4 4, len := sub r 8 4, raw := r }

/-- The sections in use. -/
def secsOf (h : List Byte) : List Sec := (List.range (sub h 0x14 1)).map (secAt h)

/-- First byte after a payload rounded to 64, where its signature starts, and the end of the signature. -/
def Sec.sigOff (x : Sec) : Nat := x.off + 64 * ceilDiv x.len 64
def Sec.stop (x : Sec) : Nat := x.sigOff + 96

/-- LENGTH of a section (R433). -/
def Sec.lenOk (x : Sec) : Bool :=
  if x.typ = secChip then 8 ≤ x.len && x.len ≤ 8388032
  else if x.typ = secPins then x.len == 2176
  else if x.typ = secTrims then x.len == 12416
  else if x.typ = secMicro then x.len == 131072
  else if x.typ = secMgmt then 16 ≤ x.len && x.len ≤ 524304
  else x.typ == secSite && 144 ≤ x.len

/-- An entry of the table is well formed. -/
def Sec.ok (x : Sec) (total : Nat) : Bool :=
  x.lenOk && x.off % 64 == 0 && hdrSize ≤ x.off && x.stop ≤ total && sub x.raw 1 3 == 0 && sub x.raw 12 4 == 0

/-- The format of the header (R432, R433). -/
def hdrOk (h : List Byte) : Bool :=
  let total := sub h 0x10 4
  let nsec := sub h 0x14 1
  let l := secsOf h
  sub h 0 4 == 0x4D49584C && sub h 4 2 == 1 && sub h 6 2 == hdrSize && 3 ≤ nsec && nsec ≤ 6 && total ≤ slotSize &&
    sub h 0x15 1 < 64 && sub h 0x16 10 == 0 && sub h (0xE0 + 16 * nsec) (16 * (16 - nsec)) == 0 &&
    l.all (fun x => x.ok total) &&
    (l.map (·.typ)).dedup.length == l.length &&
    l.all (fun x => l.all (fun y => x.typ == y.typ || !overlaps (x.off, x.stop - x.off) (y.off, y.stop - y.off))) &&
    [secMgmt, secMicro, secChip].all (fun t => l.any (fun x => x.typ == t))

/-- The keys of a header. -/
def ownerKey (h : List Byte) : List Byte := (h.drop 0x20).take 96
def vendorKey (h : List Byte) : List Byte := (h.drop 0x80).take 96

/-- The keys match their fused hashes; blank owner fuses accept any owner key (R434). -/
def keysOk (h : List Byte) : Bool :=
  Config.sha384 (vendorKey h) == Config.fuseVendorHash &&
    (Config.fuseOwnerBlank || Config.sha384 (ownerKey h) == Config.fuseOwnerHash)

/-- Boot error codes (R428). -/
def beFlash : Nat := 1
def beHeader : Nat := 2
def beKey : Nat := 3
def beSig : Nat := 4
def beRollback : Nat := 5
def beSection : Nat := 6
def beRefclk : Nat := 7
def bePll : Nat := 8
def beHbm : Nat := 9
def beRecord : Nat := 10
def beRefused : Nat := 11
def bePoll : Nat := 12

/-- The checks of the header but ROLLBACK, in the order of R435: the error, if any. -/
def hdrErr (h : List Byte) : Option Nat :=
  if !hdrOk h then some beHeader
  else if !keysOk h then some beKey
  else if !Config.ecdsaOk (ownerKey h) (h.take 0x1E0) ((h.drop 0x1E0).take 96) then some beSig
  else none

/-- The checks of the header (R435). -/
def hdrCheck (h : List Byte) (counter : Nat) : Option Nat :=
  match hdrErr h with
  | some e => some e
  | none => if sub h 0xC 4 < counter then some beRollback else none

/-- The section of a type. -/
def secOf (h : List Byte) (typ : Nat) : Option Sec := (secsOf h).find? (fun x => x.typ == typ)

/-- The signature of a section, over its entry and its payload (R433, R434). -/
def secSigOk (img : Img) (h : List Byte) (x : Sec) : Bool :=
  let key := if x.typ = secMicro ∨ x.typ = secMgmt then vendorKey h else ownerKey h
  Config.ecdsaOk key (x.raw ++ img x.off x.len) (img x.sigOff 96)

/-! ## Section contents (R436 to R442) -/

/-- MGMT_FW (R436). -/
def mgmtFwOk (p : List Byte) : Bool := sub p 8 4 == p.length - 16

/-- MICROCODE (R145, R437). -/
def microOk (p : List Byte) : Bool :=
  sub p 4 12 == 0 && (List.range 19).all (fun i => sub p (16 * (i + 1)) 16 < 2 ^ 14) && sub p 320 3776 == 0

/-- PIN_MAP (R438): bank voltages, and channel words that R193 would not refuse. -/
def pinMapOk (p : List Byte) : Bool :=
  (List.range 32).all (fun k => let v := sub p (4 * k) 4; v == 0 || (600 ≤ v && v ≤ 1800)) &&
    (List.range 512).all (fun c => sub p (0x80 + 4 * c) 1 % 128 ≤ 64)

/-- A number lies within ± a limit. -/
def within (v : Int) (m : Nat) : Bool := decide (v.natAbs ≤ m)

/-- CLUSTER_TRIMS (R439): the limits of R403. -/
def trimsOk (p : List Byte) : Bool :=
  (List.range 512).all (fun c =>
    let w := sub p (0x80 + 24 * c) 4
    within (sext 12 (w % 2 ^ 12)) 2000 && within (sext 10 (w / 2 ^ 12 % 2 ^ 10)) 333 &&
      (List.range 5).all (fun i =>
        let g := sub p (0x84 + 24 * c + 4 * i) 4
        within (sext 16 (g / 2 ^ 16)) 10000 && within (sext 16 (g % 2 ^ 16)) 166))

/-- A segment lies wholly inside core shared SRAM or one TCM (R440). -/
def segOk (a n : Nat) : Bool :=
  (0x0D00000000 ≤ a && a + n ≤ 0x0D00400000) ||
    (List.range 16).any (fun c => tcmBase c ≤ a && a + n ≤ tcmBase c + 0x20000)

/-- The segments of SITE_FW from an offset: address and data, none where one is malformed (R440). -/
def segsOf (p : List Byte) : Nat → Nat → Option (List (Nat × List Byte))
  | 0, _ => some []
  | k + 1, o =>
    let a := sub p o 5
    let n := sub p (o + 8) 4
    if o + 16 + n ≤ p.length ∧ segOk a n ∧ sub p (o + 5) 3 = 0 then
      (segsOf p k (o + 16 + 8 * ceilDiv n 8)).map (fun l => (a, (p.drop (o + 16)).take n) :: l)
    else none

/-- SITE_FW's segments. -/
def siteSegs (p : List Byte) : Option (List (Nat × List Byte)) := segsOf p (sub p 6 2) 144

/-- The format of a section other than CHIP_CONFIG, whose records are checked as they run. -/
def secFmtOk (typ : Nat) (p : List Byte) : Bool :=
  if typ = secMgmt then mgmtFwOk p
  else if typ = secMicro then microOk p
  else if typ = secPins then pinMapOk p
  else if typ = secTrims then trimsOk p
  else if typ = secSite then (siteSegs p).isSome
  else true

/-- A configuration record (R441). -/
inductive Rec where
  | fin
  | reg (off : Nat) (v : Word)
  | mem (a : Nat) (d : List Byte)
  | poll (off mask want : Nat)
  | fill (a n : Nat) (v : Word)
  deriving DecidableEq, Repr

/-- A register that a REG or POLL record may name (R442). -/
def recRegOk (off : Nat) : Bool :=
  !(0x4700000 ≤ off && off < 0x5000000) && !(R.SEQ_UCS_ADDR ≤ off && off ≤ R.SEQ_UCS_DATAk 3)

/-- A range that a MEM or FILL record may name (R442). -/
def recMemOk (a n : Nat) : Bool :=
  (beats a n).all (fun b => match regionOf b.1 with
    | .hbm => true
    | .shelf => true
    | .capture => true
    | .sram => true
    | .tcm => true
    | _ => false)

/-- The record at an offset of CHIP_CONFIG and the offset of the next one; none where it breaks R441 or R442. -/
def recAt (p : List Byte) (o : Nat) : Option (Rec × Nat) :=
  let n := sub p (o + 2) 2
  let b := fun i k => sub p (o + 4 + i) k
  let next := o + 8 * ceilDiv (4 + n) 8
  if p.length < o + 4 + n then none
  else
    match sub p o 1 with
    | 0 => if n = 0 ∧ p.length ≤ next then some (.fin, next) else none
    | 1 => if n = 8 ∧ recRegOk (b 0 4) then some (.reg (b 0 4) (BitVec.ofNat 32 (b 4 4)), next) else none
    | 2 => if 8 ≤ n ∧ recMemOk (b 0 5) (n - 8) then some (.mem (b 0 5) ((p.drop (o + 12)).take (n - 8)), next) else none
    | 3 => if n = 16 ∧ recRegOk (b 0 4) then some (.poll (b 0 4) (b 4 4) (b 8 4), next) else none
    | 4 =>
      if n = 16 ∧ b 8 4 % 4 = 0 ∧ recMemOk (b 0 5) (b 8 4) then some (.fill (b 0 5) (b 8 4) (BitVec.ofNat 32 (b 12 4)), next)
      else none
    | _ => none

/-- Every record from an offset is well formed, and END is the last (R441, R442). -/
def recsOk (p : List Byte) : Nat → Nat → Bool
  | 0, _ => false
  | k + 1, o =>
    match recAt p o with
    | some (.fin, _) => true
    | some (_, n) => recsOk p k n
    | none => false

/-! ## Failures (R428) -/

/-- BOOT_STAGE.STAGE values (R427). -/
def bsRom : Nat := 1
def bsFlash : Nat := 2
def bsSelect : Nat := 3
def bsHeader : Nat := 4
def bsMgmt : Nat := 5
def bsClocks : Nat := 6
def bsLoad : Nat := 7
def bsHbm : Nat := 8
def bsConfig : Nat := 9
def bsFinal : Nat := 10
def bsHold : Nat := 11
def bsReady : Nat := 15
def bsFailed : Nat := 0xFF

/-- The boot is in a stage. -/
def State.atStage (s : State) (st : Nat) : Bool := s.get F.BOOT_STAGE_STAGE == st
def State.setStage (s : State) (st : Nat) : State := s.put F.BOOT_STAGE_STAGE st

/-- The error is one of a slot. -/
def slotError (e : Nat) : Bool := (beHeader ≤ e && e ≤ beSection) || (beRecord ≤ e && e ≤ bePoll)

/-- Where an error is; a location that the spec does not fix is a free value. -/
def State.errLoc (s : State) (typ idx : Option Nat) : State :=
  let s := match typ with
    | some t => s.put F.BOOT_ERR_LOC_TYPE t
    | none => let b := s.freeBits 8; b.2.put F.BOOT_ERR_LOC_TYPE b.1
  match idx with
  | some i => s.put F.BOOT_ERR_LOC_INDEX i
  | none => let b := s.freeBits 24; b.2.put F.BOOT_ERR_LOC_INDEX b.1

/-- The boot takes a slot from HEADER on. -/
def State.trySlot (s : State) (slot : Nat) : State :=
  let s := { s with boot := { s.boot with
    slot := slot
    tried := s.boot.tried ++ [slot]
    loadDone := false
    hbmDone := false
    recIdx := 0
    recOff := 0
    start := 0 } }
  (s.put F.BOOT_STATUS_SLOT slot).setStage bsHeader

/-- A failure: the other slot is tried, or the boot ends in FAILED (R428). -/
def State.bootFail (s : State) (e : Nat) (typ idx : Option Nat) : State :=
  let s := ((s.put F.BOOT_STAGE_ERR e).errLoc typ idx).logEvent logBoot
  let other := 1 - s.boot.slot
  if slotError e ∧ s.get F.BOOT_STRAP_BOOTSEL = 0 ∧ !s.boot.tried.contains other then
    (((s.put F.BOOT_STAGE_FIRST_ERR e).put F.BOOT_STATUS_FALLBACK 1).trySlot other).ledgerShow
  else (s.setStage bsFailed).put F.BOOT_STATUS_FAILED 1

/-! ## ROM to HEADER (R427 to R435, R457) -/

/-- BOOT_ROM_DONE (R457): the boot counter advances at the exit from ROM, and the fuses are read. -/
def bootRomDone (s : State) : State :=
  if s.atStage bsRom then
    (((s.wrapInc ⟨R.MGS_KA_BOOTS, 31, 0⟩).put F.BOOT_STATUS_OWNER_BLANK (b2n Config.fuseOwnerBlank)).setStage bsFlash)
  else s

/-- BOOT_FLASH_DISCOVERY (R429, R430): what the flash's SFDP table offers: size, highest clock in MHz, quad fast read. -/
def bootFlash (found : Bool) (sizeLog2 mhz : Nat) (quad : Bool) (s : State) : State :=
  if s.atStage bsFlash then
    let s := if found then
        ((s.put F.BOOT_FLASH_SIZE_LOG2 sizeLog2).put F.BOOT_FLASH_MHZ (min 100 mhz)).put F.BOOT_FLASH_WIDTH (b2n quad)
      else s
    if !found ∨ sizeLog2 < 25 then s.bootFail beFlash none none
    else if s.get F.BOOT_STRAP_BOOTSEL = 3 then (s.put F.BOOT_STATUS_HOLD 1).setStage bsHold
    else s.setStage bsSelect
  else s

/-- IMAGE_VER of a slot whose header is valid, else 0. -/
def State.slotVer (s : State) (slot : Nat) : Nat :=
  let h := s.slotImg slot 0 hdrSize
  if (hdrErr h).isNone then sub h 8 4 else 0

/-- BOOT_SLOT_A_VER and BOOT_SLOT_B_VER. -/
def State.slotVers (s : State) : State := (s.putN R.BOOT_SLOT_A_VER (s.slotVer 0)).putN R.BOOT_SLOT_B_VER (s.slotVer 1)

/-- A change of the ledger is due to be committed (R462, R464). -/
def State.ledgerSet (s : State) (f : Ledger → Ledger) : State :=
  { s with mgmt := { s.mgmt with ledger := f s.mgmt.ledger, commit := true } }

/-- The slot of the normal policy (R431): the trial counter counts, or a trial that has failed three times is given up. -/
def State.policySlot (s : State) : Nat × State :=
  let l := s.mgmt.ledger
  let n := s.get F.BOOT_TRIAL_CNT_COUNT
  if !l.trial then (l.slot, s)
  else if n < 3 then (l.slot, s.put F.BOOT_TRIAL_CNT_COUNT (n + 1))
  else
    let s := s.ledgerSet (fun l => { l with slot := 1 - l.slot, trial := false })
    let s := (s.put F.BOOT_TRIAL_CNT_COUNT 0).put F.BOOT_STATUS_TRIAL_FAILED 1
    (1 - l.slot, (s.put F.BOOT_EVENT_TRIAL_FAILED 1).logEvent logBoot)

/-- What BOOT_SELECT reads first: the ledger, the log, both headers, and the loss of VBAT (R429, R459, R463). -/
def State.selectPrep (s : State) : State :=
  let t := s.ledgerFind.logFind.slotVers
  let u := t.when t.mgmt.vbatLost (fun t => t.put F.BOOT_TRIAL_CNT_VBAT_RESET 1)
  { u with mgmt := { u.mgmt with vbatLost := false } }

/-- The slot that is tried first: BOOTSEL forces one, else the normal policy chooses (R430, R431). -/
def State.firstSlot (s : State) : Nat × State :=
  match s.get F.BOOT_STRAP_BOOTSEL with
  | 1 => (0, s)
  | 2 => (1, s)
  | _ => s.policySlot

/-- BOOT_SELECT (R429 to R431, R459, R463). -/
def bootSelect (s : State) : State :=
  if s.atStage bsSelect then
    let p := s.selectPrep.firstSlot
    (p.2.trySlot p.1).ledgerShow
  else s

/-- BOOT_HEADER (R435, R444). -/
def bootHeader (s : State) : State :=
  if s.atStage bsHeader then
    let h := s.slotImg s.boot.slot 0 hdrSize
    match hdrCheck h s.mgmt.ledger.rb with
    | some e => s.bootFail e (some 0) none
    | none =>
      let s := (s.putN R.GLB_IMAGE_VER (sub h 8 4)).putN R.BOOT_ROLLBACK (sub h 0xC 4)
      let s := if s.is F.GLB_STATUS_COMPAT_STRAP then s else s.putN R.GLB_COMPAT (sub h 0x15 1)
      s.setStage bsMgmt
  else s

/-! ## MGMT_FW, CLOCKS and LOAD (R436 to R440, R445) -/

/-- First address of management SRAM in the internal map. -/
def mgmtSram : Nat := regBase + 0x5800000

/-- MGMT_FW is loaded (R436). -/
def applyMgmtFw (p : List Byte) (s : State) : State := (s.wrBytes mgmtSram (p.drop 16)).putN R.BOOT_MGMT_VER (sub p 0 4)

/-- MICROCODE is loaded (R146, R437). -/
def applyMicro (p : List Byte) (s : State) : State :=
  let u := (List.range 8192).foldl (fun t w => Tab.set 0 w (sub p (16 * w) 16) t) []
  { s with ucs := u }.putN R.SEQ_UCODE_VER (sub p 0 4)

/-- PIN_MAP is applied (R438). -/
def applyPinMap (p : List Byte) (s : State) : State :=
  let s := s.each (List.range 32) (fun t k => t.put (F.CLU_k_BANK_CFG_VNOM k) (sub p (4 * k) 2))
  s.each (List.range 512) (fun t c =>
    t.plainWrite (R.CLU_k_CH_j_CFG (c / 16) (c % 16)) (BitVec.ofNat 32 (sub p (0x80 + 4 * c) 4)))

/-- CLUSTER_TRIMS are applied (R439). -/
def applyTrims (p : List Byte) (s : State) : State :=
  let s := s.each (List.range 32) (fun t k => t.put (F.CAL_CL_k_DRIFT_D_FULL k) (sub p (4 * k) 2))
  s.each (List.range 512) (fun t c =>
    let k := c / 16
    let j := c % 16
    let w := BitVec.ofNat 32 (sub p (0x80 + 24 * c) 4)
    let t := (t.put (F.CAL_CL_k_CH_j_TRIM_ZTRIM k j) (bitsOf w 31 24)).put (F.CAL_CL_k_CH_j_TRIM_CMP_OFS k j) (bitsOf w 21 12)
    let t := t.put (F.CAL_CL_k_CH_j_TRIM_DESKEW k j) (bitsOf w 11 0)
    t.each (List.range 5) (fun u i =>
      let g := sub p (0x84 + 24 * c + 4 * i) 4
      (u.slewSet k (48 + 10 * j + 2 * i) (sext 16 (g / 2 ^ 16))).slewSet k (49 + 10 * j + 2 * i) (sext 16 (g % 2 ^ 16))))

/-- SITE_FW is loaded (R440). -/
def applySiteFw (p : List Byte) (s : State) : State :=
  let s := { s.putN R.BOOT_SITEFW_VER (sub p 0 4) with boot := { s.boot with start := sub p 4 2 } }
  let s := s.each (List.range 16) (fun t n =>
    let a := sub p (16 + 8 * n) 8
    if a = 0 then t else t.putPair (R.SCHED_CORE_n_RESET_PC_LO n) a)
  s.each ((siteSegs p).getD []) (fun t x => t.wrBytes x.1 x.2)

/-- A section is checked and applied: its signature, its format, its content. Answers the error. -/
def State.takeSec (s : State) (img : Img) (h : List Byte) (typ : Nat) : Option Nat × State :=
  match secOf h typ with
  | none => (none, s)
  | some x =>
    let p := img x.off x.len
    if !secSigOk img h x then (some beSig, s)
    else if !secFmtOk typ p then (some beSection, s)
    else
      (none,
        if typ = secMgmt then applyMgmtFw p s
        else if typ = secMicro then applyMicro p s
        else if typ = secPins then applyPinMap p s
        else if typ = secTrims then applyTrims p s
        else if typ = secSite then applySiteFw p s
        else s)

/-- Sections in order, up to the first error: its type and code. -/
def takeSecs (img : Img) (h : List Byte) : List Nat → State → Option (Nat × Nat) × State
  | [], s => (none, s)
  | t :: l, s =>
    match s.takeSec img h t with
    | (some e, u) => (some (t, e), u)
    | (none, u) => takeSecs img h l u

/-- The sections that LOAD takes, in the order of R435. -/
def loadOrder : List Nat := [secMicro, secPins, secTrims, secSite, secChip]

/-- BOOT_MGMT_FW. -/
def bootMgmtFw (s : State) : State :=
  if s.atStage bsMgmt then
    let img := s.slotImg s.boot.slot
    match takeSecs img (img 0 hdrSize) [secMgmt] s with
    | (some (t, e), u) => u.bootFail e (some t) none
    | (none, u) => u.setStage bsClocks
  else s

/-- BOOT_CLOCKS: REFCLK is in window and every PLL is locked; Ulten bring-up starts (R427). -/
def bootClocks (s : State) : State :=
  if s.atStage bsClocks then
    let s := (s.put F.CLK_REF_STATUS_PRESENT 1).put F.CLK_REF_STATUS_FREQ_OK 1
    let s := (s.putN R.CLK_SYS_LOCK 0xF).putN R.CLK_PLL_LOCK 0xFFFFFFFF
    let s := s.setStage bsLoad
    s.each (List.range 8) (fun t i => if t.ulNormal (i / 2) ∧ t.ulState (i / 2) (i % 2) = ulDisabled then
      t.ulEnter (i / 2) (i % 2) ulDetect else t)
  else s

/-- BOOT_NO_REFCLK and BOOT_PLL_LOCK_TIMEOUT (R428). -/
def bootNoRefclk (s : State) : State := if s.atStage bsClocks then s.bootFail beRefclk none none else s
def bootPllTimeout (s : State) : State := if s.atStage bsClocks then s.bootFail bePll none none else s

/-- LOAD and HBM_TRAIN run side by side (R427). -/
def State.inLoad (s : State) : Bool := s.atStage bsLoad || s.atStage bsHbm

/-- BOOT_LOAD. -/
def bootLoad (s : State) : State :=
  if s.inLoad ∧ !s.boot.loadDone then
    let img := s.slotImg s.boot.slot
    match takeSecs img (img 0 hdrSize) loadOrder s with
    | (some (t, e), u) => u.bootFail e (some t) none
    | (none, u) => { u with boot := { u.boot with loadDone := true } }.setStage (if u.boot.hbmDone then bsConfig else bsHbm)
  else s

/-- BOOT_HBM_TRAIN. -/
def bootHbmTrain (ok : Bool) (s : State) : State :=
  if s.inLoad ∧ !s.boot.hbmDone then
    if ok then
      let s := (s.put F.MEMC_STATUS_TRAINED 1).putN R.BOOT_TIME_HBM (s.now / 1000)
      { s with boot := { s.boot with hbmDone := true } }.setStage (if s.boot.loadDone then bsConfig else bsLoad)
    else s.bootFail beHbm none none
  else s

/-! ## CONFIG (R441 to R443) -/

/-- The payload of CHIP_CONFIG of the slot in work. -/
def State.chipConfig (s : State) : List Byte :=
  let img := s.slotImg s.boot.slot
  match secOf (img 0 hdrSize) secChip with
  | some x => img x.off x.len
  | none => []

/-- The counters of refusals (R443). -/
def State.refusals (s : State) : List Nat :=
  [R.GLB_ERR_ENUM, R.GLB_ERR_UNMAPPED, R.GLB_ERR_SIZE, R.DRW_CMD_REFUSED, R.TSET_CMD_REFUSED].map s.num

/-- A refusal was counted between two states. -/
def refusedSince (a b : State) : Bool := (a.refusals.zip b.refusals).any (fun p => p.1 < p.2)

/-- A failure at the record in work. -/
def State.recFail (s : State) (e : Nat) : State := s.bootFail e (some secChip) (some s.boot.recIdx)

/-- The next record runs if it is of the kind that a command stands for: `f` gives the state after it and whether it is done. A
malformed record fails at any of the commands. -/
def State.runRec (s : State) (f : Rec → Option (State × Bool)) : State :=
  if s.atStage bsConfig then
    match recAt s.chipConfig s.boot.recOff with
    | none => s.recFail beRecord
    | some (x, next) =>
      match f x with
      | none => s
      | some (t, done) =>
        if refusedSince s t then t.recFail beRefused
        else if done then { t with boot := { t.boot with recIdx := t.boot.recIdx + 1, recOff := next } }
        else t
  else s

/-- CONFIG_REG (R442). -/
def configReg (s : State) : State :=
  s.runRec (fun x => match x with
    | .reg off v => some (registerWrite .mgmt off 4 v.toNat s, true)
    | _ => none)

/-- CONFIG_MEM. -/
def configMem (s : State) : State :=
  s.runRec (fun x => match x with
    | .mem a d => some ((memWrite .mgmt a d s).2, true)
    | _ => none)

/-- CONFIG_POLL: one read of the register; the record is done where the masked value is the expected one. -/
def configPoll (s : State) : State :=
  s.runRec (fun x => match x with
    | .poll off mask want =>
      let t := registerRead .mgmt off s
      some (t, Nat.land (t.rq .mgmt).rword.toNat mask == want)
    | _ => none)

/-- CONFIG_POLL_TIMEOUT (R428). -/
def configPollTimeout (s : State) : State :=
  if s.atStage bsConfig then
    match recAt s.chipConfig s.boot.recOff with
    | some (.poll _ _ _, _) => s.recFail bePoll
    | _ => s
  else s

/-- CONFIG_FILL. -/
def configFill (s : State) : State :=
  s.runRec (fun x => match x with
    | .fill a n v => some ((memWrite .mgmt a ((List.range (n / 4)).flatMap (fun _ => leBytes 4 v.toNat)) s).2, true)
    | _ => none)

/-- CONFIG_END: the list is done, and FINAL begins. -/
def configEnd (s : State) : State :=
  s.runRec (fun x => match x with
    | .fin => some (s.setStage bsFinal, true)
    | _ => none)

/-! ## FINAL (R377, R445, R446) -/

/-- Every command that a record started has completed, no calibration runs or waits, every PLL is locked (R445). -/
def State.finalQuiet (s : State) : Bool :=
  !s.is F.DRW_CMD_STATUS_BUSY && !s.is F.TSET_CMD_STATUS_BUSY && s.noneArmed &&
    siteNums.all (fun n => (s.siteOf n).cmd == 0) && !s.is F.CAL_SPAN_STATUS_BUSY &&
    clusterNums.all (fun k => s.calActive k == 0 && [actTdc, actLevel, actFull].all (fun a => s.nib k a != nibDeferred)) &&
    s.num R.CLK_SYS_LOCK == 0xF && s.num R.CLK_PLL_LOCK == 0xFFFFFFFF && !s.is F.MEMC_STATUS_RETRAINING

/-- A set is dirty. -/
def State.anyDirty (s : State) : Bool := (List.range 8).any (fun w => s.num (R.TSET_DIRTY_MAP_w w) != 0)

/-- TIME_SEED (R377). -/
def State.timeSeed (s : State) : State :=
  let valid := s.is F.MGS_KA_STATUS_RTC_VALID
  let c := s.now / 10 * 10
  let sec := if valid then s.rtcSec else 0
  let s := s.each (List.range 4) (fun t i =>
    let t := (t.putPair (R.TIME_TB_i_OFFSET_LO i) (toBits 64 ((sec : Int) * 10 ^ 9 - c))).putN (R.TIME_TB_i_RATE i) 0
    t.updTb i (fun _ => { anchor := c, frac := 0 }))
  (s.put F.TIME_STATUS_SEEDED 1).when (!valid) (fun t => t.put F.TIME_STATUS_RTC_INVALID 1)

/-- CRC-32C of the control store (R445). -/
def State.ucsCrc (s : State) : Nat := crc32c ((List.range 8192).flatMap (fun w => leBytes 16 (Tab.get 0 s.ucs w)))

/-- READY (R426, R445). -/
def State.becomeReady (s : State) : State :=
  let s := (s.timeSeed.setTj (s.hottest / (8 : Rat))).tjRaise
  let s := (s.put F.SEQ_UCS_STATUS_LOADED 1).putN R.SEQ_UCODE_CRC s.ucsCrc
  let s := s.each (bitList 16 s.boot.start) (fun t n => coreRunWrite n 1 t)
  let s := (s.put F.GLB_STATUS_READY 1).put F.BOOT_EVENT_READY 1
  let s := ((s.putN R.BOOT_TIME_READY (s.now / 1000)).setStage bsReady).logEvent logBoot
  let s := s.put F.MGS_SAFE_STATUS_SRC (setBitN (s.get F.MGS_SAFE_STATUS_SRC) ssReset false)
  if s.get F.MGS_SAFE_STATUS_SRC = 0 then s.safeLeave else s

/-- BOOT_FINAL (R445, R446). -/
def bootFinal (s : State) : State :=
  if s.atStage bsFinal ∧ s.finalQuiet then
    if s.anyDirty then s.bootFail beRefused none none else s.becomeReady
  else s

/-! ## Updates (R448) -/

/-- Result codes of mailbox 0. -/
def upOk : Nat := 0
def upBadRequest : Nat := 1
def upBadImage : Nat := 2
def upBadSig : Nat := 3
def upRollback : Nat := 4
def upFlash : Nat := 5
def upNotStaged : Nat := 6
def upNotTrial : Nat := 7
def upArmed : Nat := 8
def upUe : Nat := 9

/-- The operations. -/
def opStage : Nat := 1
def opActivate : Nat := 2
def opConfirm : Nat := 3
def opReboot : Nat := 4

/-- The request in a block. -/
def updReqOf (l : List Byte) : UpdReq := { op := sub l 0 1, flags := sub l 1 1, len := sub l 4 4, addr := sub l 8 8 }

/-- Every byte of a range is in the map of R20. -/
def State.rangeMapped (s : State) (a n : Nat) : Bool :=
  (beats a n).all (fun b =>
    match regionOf b.1 with
    | .none => false
    | .reg => (regPieces (b.1 - regBase) b.2).all (fun p => s.regMapped (p.1 / 4 * 4))
    | _ => true)

/-- The request is one that BAD_REQUEST answers. -/
def State.updBad (s : State) (l : List Byte) : Bool :=
  let u := updReqOf l
  u.op == 0 || opReboot < u.op || 2 ≤ u.flags || sub l 2 2 != 0 || sub l 16 48 != 0 || 2 ^ 40 ≤ u.addr ||
    (u.op == opStage && (u.len == 0 || slotSize < u.len || !s.rangeMapped u.addr u.len))

/-- The management core takes the notice in mailbox 0 where no request is in progress: the request block that it points to. -/
def State.updTake (s : State) : Option (List Byte × State) :=
  if s.ready ∧ s.boot.upd.isNone ∧ s.is (F.MBX_m_STATUS_FULL 0) ∧ s.get (F.MBX_m_CFG_RX 0) = reqCode .mgmt then
    let p := s.pair (R.MBX_m_NOTICE_LO 0)
    let x := memRead .mgmt p 64 [] [] (mbxTake .mgmt 0 s)
    some (x.1.data, x.2)
  else none

/-- A request is in progress. -/
def State.updBegin (s : State) (l : List Byte) : State :=
  let u := updReqOf l
  let s := { s with boot := { s.boot with upd := some u, updWait := none } }
  (s.put F.BOOT_UPD_STATUS_BUSY 1).put F.BOOT_UPD_STATUS_OP u.op

/-- The request ends with a result code. -/
def State.updResult (s : State) (code : Nat) : State := { s with boot := { s.boot with updWait := some code } }

/-- A request of one operation is taken and performed; the commands of other operations leave it in the mailbox. -/
def State.updRun (s : State) (op : Nat) (f : UpdReq → State → State) : State :=
  match s.updTake with
  | none => s
  | some (l, t) => if s.updBad l ∨ (updReqOf l).op ≠ op then s else f (updReqOf l) (t.updBegin l)

/-- The result code of a boot error. -/
def updCode (e : Nat) : Nat := if e = beKey ∨ e = beSig then upBadSig else if e = beRollback then upRollback else upBadImage

/-- The first error of the sections of an image. -/
def secsErr (img : Img) (h : List Byte) : List Nat → Option Nat
  | [] => none
  | t :: l =>
    match secOf h t with
    | none => secsErr img h l
    | some x =>
      let p := img x.off x.len
      if !secSigOk img h x then some beSig
      else if !secFmtOk t p ∨ (t = secChip ∧ !recsOk p p.length 0) then some beSection
      else secsErr img h l

/-- The result code of checking an image as HEADER and LOAD would. -/
def stageCheck (l : List Byte) (counter : Nat) : Nat :=
  let img := listImg l
  let h := img 0 hdrSize
  match hdrCheck h counter with
  | some e => updCode e
  | none =>
    if l.length < sub h 0x10 4 then upBadImage
    else
      match secsErr img h (secMgmt :: loadOrder) with
      | some e => updCode e
      | none => upOk

/-- UPDATE_STAGE. `bad` is what the slot not booted holds where erase, program or read-back failed. -/
def updateStage (ce ue : List Nat) (bad : Option (List Byte)) (s : State) : State :=
  s.updRun opStage (fun u s =>
    let x := memRead .mgmt u.addr u.len ce ue s
    let s := x.2
    if !x.1.ue.isEmpty then s.updResult upUe
    else
      let code := stageCheck x.1.data s.mgmt.ledger.rb
      if code ≠ upOk then s.updResult code
      else
        let base := slotSize * (1 - s.boot.slot)
        let s := s.flashErase base slotSize
        match bad with
        | none => (s.flashWr base x.1.data).slotVers.updResult upOk
        | some d => (s.flashWr base (d.take slotSize)).slotVers.updResult upFlash)

/-- UPDATE_ACTIVATE. -/
def updateActivate (s : State) : State :=
  s.updRun opActivate (fun _ s =>
    let other := 1 - s.boot.slot
    let img := s.slotImg other
    let h := img 0 hdrSize
    if (hdrErr h).isSome ∨ (secsOf h).any (fun x => !secSigOk img h x) then s.updResult upNotStaged
    else ((s.ledgerSet (fun l => { l with slot := other, trial := true })).put F.BOOT_TRIAL_CNT_COUNT 0).updResult upOk)

/-- UPDATE_CONFIRM. -/
def updateConfirm (s : State) : State :=
  s.updRun opConfirm (fun _ s =>
    let l := s.mgmt.ledger
    if !l.trial ∨ l.slot ≠ s.boot.slot then s.updResult upNotTrial
    else ((s.ledgerSet (fun l => { l with trial := false, rb := max l.rb (s.num R.BOOT_ROLLBACK) })).put
      F.BOOT_TRIAL_CNT_COUNT 0).updResult upOk)

/-- UPDATE_REBOOT. -/
def updateReboot (s : State) : State :=
  s.updRun opReboot (fun u s => if !s.noneArmed ∧ u.flags = 0 then s.updResult upArmed else s.updResult upOk)

/-- UPDATE_BAD_REQUEST. -/
def updateBadRequest (s : State) : State :=
  match s.updTake with
  | none => s
  | some (l, t) => if s.updBad l then (t.updBegin l).updResult upBadRequest else s

/-- UPDATE_DONE: the result is acknowledged; a change of the ledger is committed before (R448, R462). -/
def updateDone (s : State) : State :=
  match s.boot.upd, s.boot.updWait with
  | some u, some code =>
    if (u.op = opActivate ∨ u.op = opConfirm) ∧ s.mgmt.commit then s
    else
      let s := mbxAck .mgmt 0 (BitVec.ofNat 32 code) s
      let s := ((s.put F.BOOT_UPD_STATUS_ACK_CODE code).put F.BOOT_UPD_STATUS_BUSY 0).put F.BOOT_EVENT_UPD_DONE 1
      { s with boot := { s.boot with
        upd := none
        updWait := none
        reboot := s.boot.reboot || (u.op == opReboot && code == upOk) } }
  | _, _ => s

/-! ## JTAG register access (R468) -/

/-- REG_ACCESS is available for an offset. -/
def State.jtagOk (s : State) (off : Nat) : Bool :=
  if s.atStage bsFailed then (0x4700000 ≤ off && off < 0x6000000) || s.is F.BOOT_STATUS_OWNER_BLANK
  else s.is F.BOOT_STATUS_OWNER_BLANK || s.atStage bsHold

/-- JTAG_REG_ACCESS: one register access as requester 0x10; where it is not available it returns 0 and writes nothing. -/
def jtagRegAccess (wr : Option Word) (off : Nat) (s : State) : State :=
  if s.jtagOk off ∧ inRegSpace off then
    match wr with
    | some v => (regStore .mgmt off 4 v s).tapLoad tapReg []
    | none =>
      let s := registerRead .mgmt off s
      s.tapLoad tapReg (bitsLsb 32 (s.rq .mgmt).rword.toNat)
  else s.tapLoad tapReg (if wr.isSome then [] else bitsLsb 32 0)

/-! ## Meanings -/

def execBootRomDone (s : State) : Host.Outcome State Fault Refusal := .next (bootRomDone s)
def execBootFlashDiscovery (found : Bool) (sizeLog2 mhz : Nat) (quad : Bool) (s : State) : Host.Outcome State Fault Refusal :=
  .next (bootFlash found sizeLog2 mhz quad s)
def execBootSelect (s : State) : Host.Outcome State Fault Refusal := .next (bootSelect s)
def execBootHeader (s : State) : Host.Outcome State Fault Refusal := .next (bootHeader s)
def execBootMgmtFw (s : State) : Host.Outcome State Fault Refusal := .next (bootMgmtFw s)
def execBootClocks (s : State) : Host.Outcome State Fault Refusal := .next (bootClocks s)
def execBootNoRefclk (s : State) : Host.Outcome State Fault Refusal := .next (bootNoRefclk s)
def execBootPllLockTimeout (s : State) : Host.Outcome State Fault Refusal := .next (bootPllTimeout s)
def execBootLoad (s : State) : Host.Outcome State Fault Refusal := .next (bootLoad s)
def execBootHbmTrain (ok : Bool) (s : State) : Host.Outcome State Fault Refusal := .next (bootHbmTrain ok s)
def execConfigReg (s : State) : Host.Outcome State Fault Refusal := .next (configReg s)
def execConfigMem (s : State) : Host.Outcome State Fault Refusal := .next (configMem s)
def execConfigPoll (s : State) : Host.Outcome State Fault Refusal := .next (configPoll s)
def execConfigPollTimeout (s : State) : Host.Outcome State Fault Refusal := .next (configPollTimeout s)
def execConfigFill (s : State) : Host.Outcome State Fault Refusal := .next (configFill s)
def execConfigEnd (s : State) : Host.Outcome State Fault Refusal := .next (configEnd s)
def execBootFinal (s : State) : Host.Outcome State Fault Refusal := .next (bootFinal s)
def execUpdateStage (ce ue : List Nat) (bad : Option (List Byte)) (s : State) : Host.Outcome State Fault Refusal :=
  .next (updateStage ce ue bad s)
def execUpdateActivate (s : State) : Host.Outcome State Fault Refusal := .next (updateActivate s)
def execUpdateConfirm (s : State) : Host.Outcome State Fault Refusal := .next (updateConfirm s)
def execUpdateReboot (s : State) : Host.Outcome State Fault Refusal := .next (updateReboot s)
def execUpdateBadRequest (s : State) : Host.Outcome State Fault Refusal := .next (updateBadRequest s)
def execUpdateDone (s : State) : Host.Outcome State Fault Refusal := .next (updateDone s)
def execJtagRegAccess (wr : Option Word) (off : Nat) (s : State) : Host.Outcome State Fault Refusal :=
  .next (jtagRegAccess wr off s)

end Sys2Proof.Machine
end

