-- ==== Sys2Proof/Machine/Dispatch.lean ====
section
/-! DEFINITION. The dispatcher: one arm per command, a direct call of its meaning. -/
namespace Sys2Proof.Machine
/-- The effect of a command on everything but the queue. -/
def exec (i : Instr) (s : State) : Host.Outcome State Fault Refusal :=
  match i with
  | .registerWrite r off size v => Sys2Proof.Machine.execRegisterWrite r off size v s
  | .rcRead r off => Sys2Proof.Machine.execRcRead r off s
  | .pairLoRead r off => Sys2Proof.Machine.execPairLoRead r off s
  | .pairHiRead r off => Sys2Proof.Machine.execPairHiRead r off s
  | .pairHiWrite r off v => Sys2Proof.Machine.execPairHiWrite r off v s
  | .pairLoWrite r off v => Sys2Proof.Machine.execPairLoWrite r off v s
  | .memoryWrite r addr data => Sys2Proof.Machine.execMemoryWrite r addr data s
  | .memoryRead r addr n ce ue => Sys2Proof.Machine.execMemoryRead r addr n ce ue s
  | .eccWriteback burst => Sys2Proof.Machine.execEccWriteback burst s
  | .refclkLost => Sys2Proof.Machine.execRefclkLost s
  | .refclkFreqErr ppm => Sys2Proof.Machine.execRefclkFreqErr ppm s
  | .refclkInWindow => Sys2Proof.Machine.execRefclkInWindow s
  | .switchToRecovered => Sys2Proof.Machine.execSwitchToRecovered s
  | .refclkReturn => Sys2Proof.Machine.execRefclkReturn s
  | .clusterPllUnlock k => Sys2Proof.Machine.execClusterPllUnlock k s
  | .clusterPllRelock k => Sys2Proof.Machine.execClusterPllRelock k s
  | .drwNop tag => Sys2Proof.Machine.execDrwNop tag s
  | .commit tag id => Sys2Proof.Machine.execCommit tag id s
  | .retire tag id => Sys2Proof.Machine.execRetire tag id s
  | .pin tag id => Sys2Proof.Machine.execPin tag id s
  | .unpin tag id => Sys2Proof.Machine.execUnpin tag id s
  | .shelfAlloc tag => Sys2Proof.Machine.execShelfAlloc tag s
  | .shelfFree tag => Sys2Proof.Machine.execShelfFree tag s
  | .drwCmdDone => Sys2Proof.Machine.execDrwCmdDone s
  | .artInsert n id => Sys2Proof.Machine.execArtInsert n id s
  | .strmFetchIssue n st => Sys2Proof.Machine.execStrmFetchIssue n st s
  | .strmFetchComplete n ix ce ue => Sys2Proof.Machine.execStrmFetchComplete n ix ce ue s
  | .readinessPoint n => Sys2Proof.Machine.execReadinessPoint n s
  | .frameBoundary n => Sys2Proof.Machine.execFrameBoundary n s
  | .ledgerPctWrite v => Sys2Proof.Machine.execLedgerPctWrite v s
  | .memcEnqueue r wr addr len level => Sys2Proof.Machine.execMemcEnqueue r wr addr len level s
  | .inorderExit p b => Sys2Proof.Machine.execInorderExit p b s
  | .refreshInterval => Sys2Proof.Machine.execRefreshInterval s
  | .refreshIssue p b => Sys2Proof.Machine.execRefreshIssue p b s
  | .refreshAllBank p => Sys2Proof.Machine.execRefreshAllBank p s
  | .stackTempChange t => Sys2Proof.Machine.execStackTempChange t s
  | .retrainSessionStart => Sys2Proof.Machine.execRetrainSessionStart s
  | .retrainSlice start => Sys2Proof.Machine.execRetrainSlice start s
  | .retrainSessionEnd ok => Sys2Proof.Machine.execRetrainSessionEnd ok s
  | .memcRetrainStart p => Sys2Proof.Machine.execMemcRetrainStart p s
  | .memcRetrainEnableWrite v => Sys2Proof.Machine.execMemcRetrainEnableWrite v s
  | .pcPowerEnter p => Sys2Proof.Machine.execPcPowerEnter p s
  | .pcWake p => Sys2Proof.Machine.execPcWake p s
  | .pcWakeDone p => Sys2Proof.Machine.execPcWakeDone p s
  | .engineContextSwitch e => Sys2Proof.Machine.execEngineContextSwitch e s
  | .runaheadResume n p => Sys2Proof.Machine.execRunaheadResume n p s
  | .directoryReadDone n p => Sys2Proof.Machine.execDirectoryReadDone n p s
  | .ilistFetchDone n p ix cnt ce ue => Sys2Proof.Machine.execIlistFetchDone n p ix cnt ce ue s
  | .vec n p parity => Sys2Proof.Machine.execVec n p parity s
  | .rpt n p parity => Sys2Proof.Machine.execRpt n p parity s
  | .loop n p parity => Sys2Proof.Machine.execLoop n p parity s
  | .endl n p parity => Sys2Proof.Machine.execEndl n p parity s
  | .jmp n p parity => Sys2Proof.Machine.execJmp n p parity s
  | .jmpc n p parity => Sys2Proof.Machine.execJmpc n p parity s
  | .call n p parity => Sys2Proof.Machine.execCall n p parity s
  | .ret n p parity => Sys2Proof.Machine.execRet n p parity s
  | .matchwait n p parity => Sys2Proof.Machine.execMatchwait n p parity s
  | .tset n p parity => Sys2Proof.Machine.execTset n p parity s
  | .levels n p parity => Sys2Proof.Machine.execLevels n p parity s
  | .captMark n p parity => Sys2Proof.Machine.execCaptMark n p parity s
  | .captEnable n p parity => Sys2Proof.Machine.execCaptEnable n p parity s
  | .captDisable n p parity => Sys2Proof.Machine.execCaptDisable n p parity s
  | .captTrig n p parity => Sys2Proof.Machine.execCaptTrig n p parity s
  | .signalSched n p parity => Sys2Proof.Machine.execSignalSched n p parity s
  | .signalDoorbell n p parity => Sys2Proof.Machine.execSignalDoorbell n p parity s
  | .transitSpan n p parity => Sys2Proof.Machine.execTransitSpan n p parity s
  | .transitDomain n p parity => Sys2Proof.Machine.execTransitDomain n p parity s
  | .flag n p parity => Sys2Proof.Machine.execFlag n p parity s
  | .halt n p parity => Sys2Proof.Machine.execHalt n p parity s
  | .keep n p parity => Sys2Proof.Machine.execKeep n p parity s
  | .xlmarkStart n p parity => Sys2Proof.Machine.execXlmarkStart n p parity s
  | .xlmarkStop n p parity => Sys2Proof.Machine.execXlmarkStop n p parity s
  | .xlmarkMark n p parity => Sys2Proof.Machine.execXlmarkMark n p parity s
  | .waitcore n p parity => Sys2Proof.Machine.execWaitcore n p parity s
  | .undefinedOpcode n p => Sys2Proof.Machine.execUndefinedOpcode n p s
  | .granuleBoundary n => Sys2Proof.Machine.execGranuleBoundary n s
  | .branchDecision n => Sys2Proof.Machine.execBranchDecision n s
  | .matchwaitTimeout n => Sys2Proof.Machine.execMatchwaitTimeout n s
  | .waitcoreTimeout n => Sys2Proof.Machine.execWaitcoreTimeout n s
  | .seqAbort n => Sys2Proof.Machine.execSeqAbort n s
  | .coreFlagSet n m => Sys2Proof.Machine.execCoreFlagSet n m s
  | .coreFlagClear n m => Sys2Proof.Machine.execCoreFlagClear n m s
  | .ucsWordWrite v => Sys2Proof.Machine.execUcsWordWrite v s
  | .tsetEntryWrite c t w v => Sys2Proof.Machine.execTsetEntryWrite c t w v s
  | .tsetNop tag => Sys2Proof.Machine.execTsetNop tag s
  | .tsetCommit tag t => Sys2Proof.Machine.execTsetCommit tag t s
  | .tsetCmdDone => Sys2Proof.Machine.execTsetCmdDone s
  | .ecLoadDone k => Sys2Proof.Machine.execEcLoadDone k s
  | .bankVnomWrite k v => Sys2Proof.Machine.execBankVnomWrite k v s
  | .bankOutOfWindow k mv => Sys2Proof.Machine.execBankOutOfWindow k mv s
  | .bankInWindow k mv => Sys2Proof.Machine.execBankInWindow k mv s
  | .levelWrite k j t w v => Sys2Proof.Machine.execLevelWrite k j t w v s
  | .settleEnd c => Sys2Proof.Machine.execSettleEnd c s
  | .ocpDetect c => Sys2Proof.Machine.execOcpDetect c s
  | .ppmuCtrlWrite k j v => Sys2Proof.Machine.execPpmuCtrlWrite k j v s
  | .ppmuForceWrite k j v => Sys2Proof.Machine.execPpmuForceWrite k j v s
  | .ppmuVclampWrite k j v => Sys2Proof.Machine.execPpmuVclampWrite k j v s
  | .ppmuLimit k j => Sys2Proof.Machine.execPpmuLimit k j s
  | .mcSliceEnd k conv => Sys2Proof.Machine.execMcSliceEnd k conv s
  | .vectorResult n obs => Sys2Proof.Machine.execVectorResult n obs s
  | .failRecordWrite n => Sys2Proof.Machine.execFailRecordWrite n s
  | .triggerEvaluate n => Sys2Proof.Machine.execTriggerEvaluate n s
  | .triggerTimerExpire n k => Sys2Proof.Machine.execTriggerTimerExpire n k s
  | .triggerCounterDone n k => Sys2Proof.Machine.execTriggerCounterDone n k s
  | .holdoffEnd n => Sys2Proof.Machine.execHoldoffEnd n s
  | .captRecordWrite n => Sys2Proof.Machine.execCaptRecordWrite n s
  | .spillBlockCopy n => Sys2Proof.Machine.execSpillBlockCopy n s
  | .spillFlush n => Sys2Proof.Machine.execSpillFlush n s
  | .siteDone n => Sys2Proof.Machine.execSiteDone n s
  | .tdcArm k u => Sys2Proof.Machine.execTdcArm k u s
  | .tdcAbort k u => Sys2Proof.Machine.execTdcAbort k u s
  | .tdcStartEdge k u c p fall => Sys2Proof.Machine.execTdcStartEdge k u c p fall s
  | .tdcStopEdge k u c p fall => Sys2Proof.Machine.execTdcStopEdge k u c p fall s
  | .tdcWindowClose k u => Sys2Proof.Machine.execTdcWindowClose k u s
  | .tdcHistRearm k u => Sys2Proof.Machine.execTdcHistRearm k u s
  | .siteNop n => Sys2Proof.Machine.execSiteNop n s
  | .siteArm n => Sys2Proof.Machine.execSiteArm n s
  | .siteArmDone n => Sys2Proof.Machine.execSiteArmDone n s
  | .siteDisarm n => Sys2Proof.Machine.execSiteDisarm n s
  | .siteDisarmDone n => Sys2Proof.Machine.execSiteDisarmDone n s
  | .siteGo n => Sys2Proof.Machine.execSiteGo n s
  | .goSchedule n => Sys2Proof.Machine.execGoSchedule n s
  | .siteStart n => Sys2Proof.Machine.execSiteStart n s
  | .goTimeout n => Sys2Proof.Machine.execGoTimeout n s
  | .goReq k ttl sp src => Sys2Proof.Machine.execGoReq k ttl sp src s
  | .goReady dest src sp idx lat chips => Sys2Proof.Machine.execGoReady dest src sp idx lat chips s
  | .go k ttl sp src t => Sys2Proof.Machine.execGo k ttl sp src t s
  | .goCancel k ttl sp src => Sys2Proof.Machine.execGoCancel k ttl sp src s
  | .arrive dest src sp idx => Sys2Proof.Machine.execArrive dest src sp idx s
  | .release k ttl sp src t => Sys2Proof.Machine.execRelease k ttl sp src t s
  | .dtArrive src site => Sys2Proof.Machine.execDtArrive src site s
  | .dtRelease src t => Sys2Proof.Machine.execDtRelease src t s
  | .transitResume n => Sys2Proof.Machine.execTransitResume n s
  | .transitTimeout n => Sys2Proof.Machine.execTransitTimeout n s
  | .flags k ttl sp src idx q bits notice => Sys2Proof.Machine.execFlags k ttl sp src idx q bits notice s
  | .spanFlagDeadline n => Sys2Proof.Machine.execSpanFlagDeadline n s
  | .heartbeatTimer n => Sys2Proof.Machine.execHeartbeatTimer n s
  | .heartbeat k ttl sp src idx => Sys2Proof.Machine.execHeartbeat k ttl sp src idx s
  | .memberLost n idx => Sys2Proof.Machine.execMemberLost n idx s
  | .halted k ttl sp src idx word => Sys2Proof.Machine.execHalted k ttl sp src idx word s
  | .spanResultTimeout n => Sys2Proof.Machine.execSpanResultTimeout n s
  | .enumWaitExpire => Sys2Proof.Machine.execEnumWaitExpire s
  | .ultEnumStart => Sys2Proof.Machine.execUltEnumStart s
  | .enumReport k size => Sys2Proof.Machine.execEnumReport k size s
  | .enumAssign k base => Sys2Proof.Machine.execEnumAssign k base s
  | .ultRmtRead => Sys2Proof.Machine.execUltRmtRead s
  | .ultRmtWrite => Sys2Proof.Machine.execUltRmtWrite s
  | .rdReq dest src tag off => Sys2Proof.Machine.execRdReq dest src tag off s
  | .rdRsp dest src tag status data => Sys2Proof.Machine.execRdRsp dest src tag status data s
  | .wrReq dest src tag off data => Sys2Proof.Machine.execWrReq dest src tag off data s
  | .wrRsp dest src tag status => Sys2Proof.Machine.execWrRsp dest src tag status s
  | .mgmtTimeout => Sys2Proof.Machine.execMgmtTimeout s
  | .write mcast dest src addr data => Sys2Proof.Machine.execWrite mcast dest src addr data s
  | .writeAck dest src addr status block => Sys2Proof.Machine.execWriteAck dest src addr status block s
  | .ultBadMessage k crc beats => Sys2Proof.Machine.execUltBadMessage k crc beats s
  | .ultPortCtrlWrite k v => Sys2Proof.Machine.execUltPortCtrlWrite k v s
  | .ultPortRetrain k => Sys2Proof.Machine.execUltPortRetrain k s
  | .ultBitslip k m bits => Sys2Proof.Machine.execUltBitslip k m bits s
  | .ultLanePartnerDetect k m => Sys2Proof.Machine.execUltLanePartnerDetect k m s
  | .ultLaneBlockLock k m => Sys2Proof.Machine.execUltLaneBlockLock k m s
  | .ultLaneStateTimeout k m => Sys2Proof.Machine.execUltLaneStateTimeout k m s
  | .ultLaneCapsDone k m id depth port top => Sys2Proof.Machine.execUltLaneCapsDone k m id depth port top s
  | .ultLaneRateStepDone k m => Sys2Proof.Machine.execUltLaneRateStepDone k m s
  | .ultEqRequest k m w => Sys2Proof.Machine.execUltEqRequest k m w s
  | .ultEqDone k m => Sys2Proof.Machine.execUltEqDone k m s
  | .ultBerCheckDone k m ok => Sys2Proof.Machine.execUltBerCheckDone k m ok s
  | .ultLaneLockLost k m => Sys2Proof.Machine.execUltLaneLockLost k m s
  | .xlCtrlWrite n v g => Sys2Proof.Machine.execXlCtrlWrite n v g s
  | .xlStart n g => Sys2Proof.Machine.execXlStart n g s
  | .xlStop n g => Sys2Proof.Machine.execXlStop n g s
  | .xlErrClr n g => Sys2Proof.Machine.execXlErrClr n g s
  | .xlBitslip n g => Sys2Proof.Machine.execXlBitslip n g s
  | .xlMark n g => Sys2Proof.Machine.execXlMark n g s
  | .xlRetrain n g => Sys2Proof.Machine.execXlRetrain n g s
  | .xlEyeStart n g => Sys2Proof.Machine.execXlEyeStart n g s
  | .xlEyeAbort n g => Sys2Proof.Machine.execXlEyeAbort n g s
  | .xlEyePointDone n cnt => Sys2Proof.Machine.execXlEyePointDone n cnt s
  | .xlPllLock n => Sys2Proof.Machine.execXlPllLock n s
  | .xlTrainDone n pre post => Sys2Proof.Machine.execXlTrainDone n pre post s
  | .xlTrainTimeout n => Sys2Proof.Machine.execXlTrainTimeout n s
  | .xlPrbsLock n g => Sys2Proof.Machine.execXlPrbsLock n g s
  | .xlLockLoss n g => Sys2Proof.Machine.execXlLockLoss n g s
  | .xlSigLoss n g => Sys2Proof.Machine.execXlSigLoss n g s
  | .xlErrThresh n g => Sys2Proof.Machine.execXlErrThresh n g s
  | .xlPayloadEnd n g => Sys2Proof.Machine.execXlPayloadEnd n g s
  | .xlmarkLaneAct n g => Sys2Proof.Machine.execXlmarkLaneAct n g s
  | .xlHaltStop n g => Sys2Proof.Machine.execXlHaltStop n g s
  | .xlEventFlagSet n => Sys2Proof.Machine.execXlEventFlagSet n s
  | .coreRunWrite n v => Sys2Proof.Machine.execCoreRunWrite n v s
  | .storeBufferDrain n => Sys2Proof.Machine.execStoreBufferDrain n s
  | .coreFence n pred succ => Sys2Proof.Machine.execCoreFence n pred succ s
  | .coreFenceI n => Sys2Proof.Machine.execCoreFenceI n s
  | .coreAmo n op dbl aq rl rd rs1 rs2 => Sys2Proof.Machine.execCoreAmo n op dbl aq rl rd rs1 rs2 s
  | .coreLr n dbl aq rl rd rs1 => Sys2Proof.Machine.execCoreLr n dbl aq rl rd rs1 s
  | .coreSc n dbl aq rl rd rs1 rs2 => Sys2Proof.Machine.execCoreSc n dbl aq rl rd rs1 rs2 s
  | .coreWfi n => Sys2Proof.Machine.execCoreWfi n s
  | .coreFastTrap n mret => Sys2Proof.Machine.execCoreFastTrap n mret s
  | .mtimecmpMatch n => Sys2Proof.Machine.execMtimecmpMatch n s
  | .schedEnqueue r v => Sys2Proof.Machine.execSchedEnqueue r v s
  | .schedTake r n => Sys2Proof.Machine.execSchedTake r n s
  | .schedDone n v => Sys2Proof.Machine.execSchedDone n v s
  | .schedCoreCfgWrite n v => Sys2Proof.Machine.execSchedCoreCfgWrite n v s
  | .intcSourceRise ix => Sys2Proof.Machine.execIntcSourceRise ix s
  | .intcSourceFall ix => Sys2Proof.Machine.execIntcSourceFall ix s
  | .intcSetpend w v => Sys2Proof.Machine.execIntcSetpend w v s
  | .intcPendClear w v => Sys2Proof.Machine.execIntcPendClear w v s
  | .intcSrcCfgWrite ix tgt v => Sys2Proof.Machine.execIntcSrcCfgWrite ix tgt v s
  | .intcClaim r t => Sys2Proof.Machine.execIntcClaim r t s
  | .intcEoi t v => Sys2Proof.Machine.execIntcEoi t v s
  | .intcPush t v => Sys2Proof.Machine.execIntcPush t v s
  | .pcieConfigRequest reg wr => Sys2Proof.Machine.execPcieConfigRequest reg wr s
  | .pcieReset linkDown => Sys2Proof.Machine.execPcieReset linkDown s
  | .pciePerst low => Sys2Proof.Machine.execPciePerst low s
  | .dmaEnableWrite e v => Sys2Proof.Machine.execDmaEnableWrite e v s
  | .dmaAbort e => Sys2Proof.Machine.execDmaAbort e s
  | .dmaTailWrite e v => Sys2Proof.Machine.execDmaTailWrite e v s
  | .dmaDescriptorFetch e d ok => Sys2Proof.Machine.execDmaDescriptorFetch e d ok s
  | .dmaH2d e d ok => Sys2Proof.Machine.execDmaH2d e d ok s
  | .dmaD2h e ce ue => Sys2Proof.Machine.execDmaD2h e ce ue s
  | .dmaBcast e d ok => Sys2Proof.Machine.execDmaBcast e d ok s
  | .dmaRemote e d ok => Sys2Proof.Machine.execDmaRemote e d ok s
  | .dmaRemoteAckTimeout e => Sys2Proof.Machine.execDmaRemoteAckTimeout e s
  | .dmaDescriptorDone e => Sys2Proof.Machine.execDmaDescriptorDone e s
  | .msixSend v => Sys2Proof.Machine.execMsixSend v s
  | .mbxPost r m v => Sys2Proof.Machine.execMbxPost r m v s
  | .mbxTake r m => Sys2Proof.Machine.execMbxTake r m s
  | .mbxTimeout m => Sys2Proof.Machine.execMbxTimeout m s
  | .mbxAck r m v => Sys2Proof.Machine.execMbxAck r m v s
  | .dbH2dSet w v => Sys2Proof.Machine.execDbH2dSet w v s
  | .dbH2dClr w v => Sys2Proof.Machine.execDbH2dClr w v s
  | .dbD2hSet w v => Sys2Proof.Machine.execDbD2hSet w v s
  | .dbD2hClr w v => Sys2Proof.Machine.execDbD2hClr w v s
  | .timeRateWrite ix v => Sys2Proof.Machine.execTimeRateWrite ix v s
  | .timeOffsetWrite r ix v => Sys2Proof.Machine.execTimeOffsetWrite r ix v s
  | .timeAdjWrite r ix v => Sys2Proof.Machine.execTimeAdjWrite r ix v s
  | .timeTbNsRead r ix => Sys2Proof.Machine.execTimeTbNsRead r ix s
  | .tsqFind r v => Sys2Proof.Machine.execTsqFind r v s
  | .syncSendTimer => Sys2Proof.Machine.execSyncSendTimer s
  | .sync k t corr res => Sys2Proof.Machine.execSync k t corr res s
  | .echoTimer => Sys2Proof.Machine.execEchoTimer s
  | .echoReq k t res => Sys2Proof.Machine.execEchoReq k t res s
  | .echoRsp k t res => Sys2Proof.Machine.execEchoRsp k t res s
  | .syncMissed => Sys2Proof.Machine.execSyncMissed s
  | .fallbackStep => Sys2Proof.Machine.execFallbackStep s
  | .ethFrameTransmit d => Sys2Proof.Machine.execEthFrameTransmit d s
  | .ethFrameReceive d ok => Sys2Proof.Machine.execEthFrameReceive d ok s
  | .govEvaluation => Sys2Proof.Machine.execGovEvaluation s
  | .admissionRequest n => Sys2Proof.Machine.execAdmissionRequest n s
  | .xchkBad => Sys2Proof.Machine.execXchkBad s
  | .durOver n => Sys2Proof.Machine.execDurOver n s
  | .calRequestTdcCd k noqueue => Sys2Proof.Machine.execCalRequestTdcCd k noqueue s
  | .calRequestLevelDac k noqueue => Sys2Proof.Machine.execCalRequestLevelDac k noqueue s
  | .calRequestClusterFull k noqueue => Sys2Proof.Machine.execCalRequestClusterFull k noqueue s
  | .calCancel k acts => Sys2Proof.Machine.execCalCancel k acts s
  | .calActivityEnd k bad hits vals => Sys2Proof.Machine.execCalActivityEnd k bad hits vals s
  | .calSlewTick k site => Sys2Proof.Machine.execCalSlewTick k site s
  | .calSpanStart n noqueue => Sys2Proof.Machine.execCalSpanStart n noqueue s
  | .spanSkewHold n => Sys2Proof.Machine.execSpanSkewHold n s
  | .spanSkewBusyTimeout => Sys2Proof.Machine.execSpanSkewBusyTimeout s
  | .spanSkewEnd up bad => Sys2Proof.Machine.execSpanSkewEnd up bad s
  | .ephRead counts => Sys2Proof.Machine.execEphRead counts s
  | .ephRecord => Sys2Proof.Machine.execEphRecord s
  | .pwrgoodRise => Sys2Proof.Machine.execPwrgoodRise s
  | .pwrgoodFall => Sys2Proof.Machine.execPwrgoodFall s
  | .rstNRise compatN root bootsel => Sys2Proof.Machine.execRstNRise compatN root bootsel s
  | .rstNPulse compatN root bootsel => Sys2Proof.Machine.execRstNPulse compatN root bootsel s
  | .bootResetWrite v => Sys2Proof.Machine.execBootResetWrite v s
  | .softwareReset => Sys2Proof.Machine.execSoftwareReset s
  | .bootRomDone => Sys2Proof.Machine.execBootRomDone s
  | .bootFlashDiscovery found sizeLog2 mhz quad => Sys2Proof.Machine.execBootFlashDiscovery found sizeLog2 mhz quad s
  | .bootSelect => Sys2Proof.Machine.execBootSelect s
  | .bootHeader => Sys2Proof.Machine.execBootHeader s
  | .bootMgmtFw => Sys2Proof.Machine.execBootMgmtFw s
  | .bootClocks => Sys2Proof.Machine.execBootClocks s
  | .bootNoRefclk => Sys2Proof.Machine.execBootNoRefclk s
  | .bootPllLockTimeout => Sys2Proof.Machine.execBootPllLockTimeout s
  | .bootLoad => Sys2Proof.Machine.execBootLoad s
  | .bootHbmTrain ok => Sys2Proof.Machine.execBootHbmTrain ok s
  | .configReg => Sys2Proof.Machine.execConfigReg s
  | .configMem => Sys2Proof.Machine.execConfigMem s
  | .configPoll => Sys2Proof.Machine.execConfigPoll s
  | .configPollTimeout => Sys2Proof.Machine.execConfigPollTimeout s
  | .configFill => Sys2Proof.Machine.execConfigFill s
  | .configEnd => Sys2Proof.Machine.execConfigEnd s
  | .bootFinal => Sys2Proof.Machine.execBootFinal s
  | .updateStage ce ue bad => Sys2Proof.Machine.execUpdateStage ce ue bad s
  | .updateActivate => Sys2Proof.Machine.execUpdateActivate s
  | .updateConfirm => Sys2Proof.Machine.execUpdateConfirm s
  | .updateReboot => Sys2Proof.Machine.execUpdateReboot s
  | .updateBadRequest => Sys2Proof.Machine.execUpdateBadRequest s
  | .updateDone => Sys2Proof.Machine.execUpdateDone s
  | .peSafeNAssert => Sys2Proof.Machine.execPeSafeNAssert s
  | .peSafeNRelease => Sys2Proof.Machine.execPeSafeNRelease s
  | .thermalTrip => Sys2Proof.Machine.execThermalTrip s
  | .safeForceWrite v => Sys2Proof.Machine.execSafeForceWrite v s
  | .safeExit => Sys2Proof.Machine.execSafeExit s
  | .wdtEnable v => Sys2Proof.Machine.execWdtEnable v s
  | .wdtKick r v => Sys2Proof.Machine.execWdtKick r v s
  | .wdtExpire => Sys2Proof.Machine.execWdtExpire s
  | .wdtReset => Sys2Proof.Machine.execWdtReset s
  | .sensorRefresh diodes mv => Sys2Proof.Machine.execSensorRefresh diodes mv s
  | .railCurrentSense cur => Sys2Proof.Machine.execRailCurrentSense cur s
  | .vbatLoss => Sys2Proof.Machine.execVbatLoss s
  | .kaRtcWrite r v => Sys2Proof.Machine.execKaRtcWrite r v s
  | .kaClr r v => Sys2Proof.Machine.execKaClr r v s
  | .logAppend r v => Sys2Proof.Machine.execLogAppend r v s
  | .logRdIdxWrite v => Sys2Proof.Machine.execLogRdIdxWrite v s
  | .logRecordWrite => Sys2Proof.Machine.execLogRecordWrite s
  | .ledgerCommit got => Sys2Proof.Machine.execLedgerCommit got s
  | .ledgerHoursTimer => Sys2Proof.Machine.execLedgerHoursTimer s
  | .uartRxByte b stop => Sys2Proof.Machine.execUartRxByte b stop s
  | .uartDataWrite v => Sys2Proof.Machine.execUartDataWrite v s
  | .uartDataRead r => Sys2Proof.Machine.execUartDataRead r s
  | .smbReadSafeStatus => Sys2Proof.Machine.execSmbReadSafeStatus s
  | .smbReadTemp => Sys2Proof.Machine.execSmbReadTemp s
  | .smbReadBootStage => Sys2Proof.Machine.execSmbReadBootStage s
  | .smbReadId => Sys2Proof.Machine.execSmbReadId s
  | .smbReadChipId => Sys2Proof.Machine.execSmbReadChipId s
  | .smbAlertResponse => Sys2Proof.Machine.execSmbAlertResponse s
  | .jtagTapReset => Sys2Proof.Machine.execJtagTapReset s
  | .jtagBypass tdi => Sys2Proof.Machine.execJtagBypass tdi s
  | .jtagIdcode => Sys2Proof.Machine.execJtagIdcode s
  | .jtagSamplePreload cells load => Sys2Proof.Machine.execJtagSamplePreload cells load s
  | .jtagExtest cells load => Sys2Proof.Machine.execJtagExtest cells load s
  | .jtagClamp tdi => Sys2Proof.Machine.execJtagClamp tdi s
  | .jtagHighz tdi => Sys2Proof.Machine.execJtagHighz tdi s
  | .jtagRegAccess wr off => Sys2Proof.Machine.execJtagRegAccess wr off s
  | .vidStep => Sys2Proof.Machine.execVidStep s
  | .internalResetRelease compatN root bootsel => Sys2Proof.Machine.execInternalResetRelease compatN root bootsel s
  | .pcieLinkUp width speed => Sys2Proof.Machine.execPcieLinkUp width speed s
  | .uartTxByteSent => Sys2Proof.Machine.execUartTxByteSent s
  | .coreTrap n intr code tval => Sys2Proof.Machine.execCoreTrap n intr code tval s
  | .spanSkewBarrier off => Sys2Proof.Machine.execSpanSkewBarrier off s

end Sys2Proof.Machine
end

