-- ==== Sys2Proof/Machine/Step.lean ====
section
/-!
DEFINITION. The step of the block: the command at the front of the queue runs; on an empty queue one nanosecond passes.
-/

namespace Sys2Proof.Machine

/-- One step. With a command in front, its effect on the state with the queue's rest. On an empty queue the block idles and
the counter of every time base goes on by 1 ns (R372; DESIGN CHOICE, assumption 2). -/
def step (s : State) : Host.Outcome State Fault Refusal :=
  match s.pending with
  | [] => .next { s with now := s.now + 1 }
  | c :: rest => exec c { s with pending := rest }

/-- `s` with the command that a word spells in front of its queue; no row of the table gives bits, so no word spells one. -/
def State.withFetchWord (s : State) (nbits w : Nat) : State :=
  match decodeTableWord nbits w with
  | none => s
  | some c => { s with pending := c :: s.pending }

end Sys2Proof.Machine
end

