-- ==== Sys2Proof/Safety.lean ====
section
/-!
DEFINITION. The words that the statements about the machine use: how a command completes, what a step leaves alone, and the form
that every state of a run keeps.
-/

namespace Sys2Proof.Machine

/-- The command completes from `s`: it answers a next state, and `P` holds of that state. -/
def Completes (c : Instr) (s : State) (P : State → Prop) : Prop := ∃ t, exec c s = .next t ∧ P t

/-- Every register word but those at the listed offsets is the same in both states. -/
def RegsBut (l : List Nat) (s t : State) : Prop := ∀ o, o ∉ l → t.word o = s.word o

/-- Every byte of the memory map but the `n` bytes from `a` reads the same in both states. -/
def MemBut (a n : Nat) (s t : State) : Prop := ∀ b, b < a ∨ a + n ≤ b → t.rdByte b = s.rdByte b

/-- The form that every state of a run keeps: memory and register words are canonical tables, so that equal contents are
equal data. -/
abbrev State.Inv (s : State) : Prop := Memory.wf s.mem = true ∧ Tab.wf resetWord s.regs = true

/-- The path `p` of the run-ahead of context `n`: the fall-through path, or that of a prefetch. -/
abbrev State.path (s : State) (n : Nat) (p : Option Nat) : Option Path := pathOf (s.seqOf n) p

/-- Path `x` may execute the instruction at its program counter now (R109, R112), and that instruction is the defined word `w`,
which no rule of R115 to R118 turns into a halt. -/
abbrev State.issues (s : State) (n : Nat) (p : Option Nat) (x : Path) (w : Nat) : Prop :=
  s.path n p = some x ∧ s.canRun n x = true ∧ x.wordAt = some { word := w } ∧ opDefined (opcodeOf w) = true ∧
    s.wordFault w = none

/-- A path but for the reason why it waits. -/
def Path.core (x : Path) : Path := { x with stop := .none }

/-- The path as an instruction takes it up: with the serial number of this execution. -/
def State.numbered (s : State) (n : Nat) (x : Path) : Path := { x with tag := (s.seqOf n).ser }

/-- Nothing but context `n`, its engine, the queues of set loads of its own clusters and the registers that show it changes, and
no other context. A shadow that is filled asks for the set it was computed with (R110, R130), which is what a queue can gain. -/
def SeqOnly (n : Nat) (s t : State) : Prop :=
  t = { s with regs := t.regs, seq := t.seq, eng := t.eng, ts := { s.ts with loads := t.ts.loads } } ∧
    (∀ m, m ≠ n → t.seqOf m = s.seqOf m) ∧ (∀ k, k ∉ s.siteClus n → t.loadsOf k = s.loadsOf k) ∧
    RegsBut [R.SEQ_CTX_n_PC_DRW n, R.SEQ_CTX_n_PC_IDX n, R.SEQ_CTX_n_CURSOR n, R.STRM_SITE_n_FLAGS n] s t

/-- What the comparators detected for the compares that count of the oldest vector not yet judged, which is of granule `g`: the
sample of each, none where an answer is wanting (R216, R217, R221). -/
def State.verdicts (s : State) (n : Nat) (g : Gran) (obs : List Obs) : List (Option Sample) :=
  ((s.vecCompares n g (s.playOf n).judged).filter (fun p => p.2.2 == .no)).map (fun p => judge obs p.1 p.2.1)

/-- The commands that store nothing in the memory map, in any form. -/
def storesNothing (c : Instr) : Bool :=
  match c with
  | .registerWrite .. => false
  | .rcRead .. => false
  | .pairLoRead .. => false
  | .pairHiRead .. => false
  | .pairHiWrite .. => false
  | .pairLoWrite .. => false
  | .memoryWrite .. => false
  | .memoryRead .. => false
  | .eccWriteback .. => true
  | .refclkLost => true
  | .refclkFreqErr .. => true
  | .refclkInWindow => true
  | .switchToRecovered => true
  | .refclkReturn => true
  | .clusterPllUnlock .. => true
  | .clusterPllRelock .. => true
  | .drwNop .. => true
  | .commit .. => true
  | .retire .. => true
  | .pin .. => true
  | .unpin .. => true
  | .shelfAlloc .. => true
  | .shelfFree .. => true
  | .drwCmdDone => false
  | .artInsert .. => true
  | .strmFetchIssue .. => true
  | .strmFetchComplete .. => true
  | .readinessPoint .. => true
  | .frameBoundary .. => false
  | .ledgerPctWrite .. => true
  | .memcEnqueue .. => true
  | .inorderExit .. => true
  | .refreshInterval => true
  | .refreshIssue .. => true
  | .refreshAllBank .. => true
  | .stackTempChange .. => true
  | .retrainSessionStart => true
  | .retrainSlice .. => true
  | .retrainSessionEnd .. => true
  | .memcRetrainStart .. => true
  | .memcRetrainEnableWrite .. => true
  | .pcPowerEnter .. => true
  | .pcWake .. => true
  | .pcWakeDone .. => true
  | .engineContextSwitch .. => true
  | .runaheadResume .. => true
  | .directoryReadDone .. => true
  | .ilistFetchDone .. => true
  | .vec .. => true
  | .rpt .. => true
  | .loop .. => true
  | .endl .. => true
  | .jmp .. => true
  | .jmpc .. => true
  | .call .. => true
  | .ret .. => true
  | .matchwait .. => true
  | .tset .. => true
  | .levels .. => true
  | .captMark .. => true
  | .captEnable .. => true
  | .captDisable .. => true
  | .captTrig .. => true
  | .signalSched .. => true
  | .signalDoorbell .. => true
  | .transitSpan .. => true
  | .transitDomain .. => true
  | .flag .. => true
  | .halt .. => true
  | .keep .. => true
  | .xlmarkStart .. => true
  | .xlmarkStop .. => true
  | .xlmarkMark .. => true
  | .waitcore .. => true
  | .undefinedOpcode .. => true
  | .granuleBoundary .. => false
  | .branchDecision .. => true
  | .matchwaitTimeout .. => true
  | .waitcoreTimeout .. => true
  | .seqAbort .. => true
  | .coreFlagSet .. => true
  | .coreFlagClear .. => true
  | .ucsWordWrite .. => true
  | .tsetEntryWrite .. => true
  | .tsetNop .. => true
  | .tsetCommit .. => true
  | .tsetCmdDone => true
  | .ecLoadDone .. => true
  | .bankVnomWrite .. => true
  | .bankOutOfWindow .. => true
  | .bankInWindow .. => true
  | .levelWrite .. => true
  | .settleEnd .. => true
  | .ocpDetect .. => true
  | .ppmuCtrlWrite .. => true
  | .ppmuForceWrite .. => true
  | .ppmuVclampWrite .. => true
  | .ppmuLimit .. => true
  | .mcSliceEnd .. => true
  | .vectorResult .. => false
  | .failRecordWrite .. => false
  | .triggerEvaluate .. => true
  | .triggerTimerExpire .. => true
  | .triggerCounterDone .. => true
  | .holdoffEnd .. => true
  | .captRecordWrite .. => false
  | .spillBlockCopy .. => false
  | .spillFlush .. => false
  | .siteDone .. => true
  | .tdcArm .. => true
  | .tdcAbort .. => true
  | .tdcStartEdge .. => true
  | .tdcStopEdge .. => true
  | .tdcWindowClose .. => true
  | .tdcHistRearm .. => true
  | .siteNop .. => true
  | .siteArm .. => true
  | .siteArmDone .. => true
  | .siteDisarm .. => true
  | .siteDisarmDone .. => true
  | .siteGo .. => true
  | .goSchedule .. => true
  | .siteStart .. => true
  | .goTimeout .. => true
  | .goReq .. => true
  | .goReady .. => true
  | .go .. => true
  | .goCancel .. => true
  | .arrive .. => true
  | .release .. => true
  | .dtArrive .. => true
  | .dtRelease .. => true
  | .transitResume .. => true
  | .transitTimeout .. => true
  | .flags .. => true
  | .spanFlagDeadline .. => true
  | .heartbeatTimer .. => true
  | .heartbeat .. => true
  | .memberLost .. => true
  | .halted .. => true
  | .spanResultTimeout .. => true
  | .enumWaitExpire => true
  | .ultEnumStart => true
  | .enumReport .. => true
  | .enumAssign .. => true
  | .ultRmtRead => true
  | .ultRmtWrite => true
  | .rdReq .. => false
  | .rdRsp .. => true
  | .wrReq .. => false
  | .wrRsp .. => true
  | .mgmtTimeout => true
  | .write .. => false
  | .writeAck .. => true
  | .ultBadMessage .. => true
  | .ultPortCtrlWrite .. => true
  | .ultPortRetrain .. => true
  | .ultBitslip .. => true
  | .ultLanePartnerDetect .. => true
  | .ultLaneBlockLock .. => true
  | .ultLaneStateTimeout .. => true
  | .ultLaneCapsDone .. => true
  | .ultLaneRateStepDone .. => true
  | .ultEqRequest .. => true
  | .ultEqDone .. => true
  | .ultBerCheckDone .. => true
  | .ultLaneLockLost .. => true
  | .xlCtrlWrite .. => true
  | .xlStart .. => true
  | .xlStop .. => true
  | .xlErrClr .. => true
  | .xlBitslip .. => true
  | .xlMark .. => true
  | .xlRetrain .. => true
  | .xlEyeStart .. => true
  | .xlEyeAbort .. => true
  | .xlEyePointDone .. => false
  | .xlPllLock .. => true
  | .xlTrainDone .. => true
  | .xlTrainTimeout .. => true
  | .xlPrbsLock .. => true
  | .xlLockLoss .. => true
  | .xlSigLoss .. => true
  | .xlErrThresh .. => true
  | .xlPayloadEnd .. => true
  | .xlmarkLaneAct .. => true
  | .xlHaltStop .. => true
  | .xlEventFlagSet .. => true
  | .coreRunWrite .. => false
  | .storeBufferDrain .. => false
  | .coreFence .. => true
  | .coreFenceI .. => true
  | .coreAmo .. => false
  | .coreLr .. => true
  | .coreSc .. => false
  | .coreWfi .. => true
  | .coreFastTrap .. => true
  | .mtimecmpMatch .. => true
  | .schedEnqueue .. => false
  | .schedTake .. => false
  | .schedDone .. => false
  | .schedCoreCfgWrite .. => false
  | .intcSourceRise .. => false
  | .intcSourceFall .. => true
  | .intcSetpend .. => false
  | .intcPendClear .. => true
  | .intcSrcCfgWrite .. => false
  | .intcClaim .. => true
  | .intcEoi .. => true
  | .intcPush .. => true
  | .pcieConfigRequest .. => true
  | .pcieReset .. => true
  | .pciePerst .. => true
  | .dmaEnableWrite .. => true
  | .dmaAbort .. => true
  | .dmaTailWrite .. => true
  | .dmaDescriptorFetch .. => true
  | .dmaH2d .. => false
  | .dmaD2h .. => false
  | .dmaBcast .. => false
  | .dmaRemote .. => true
  | .dmaRemoteAckTimeout .. => true
  | .dmaDescriptorDone .. => true
  | .msixSend .. => true
  | .mbxPost .. => true
  | .mbxTake .. => true
  | .mbxTimeout .. => true
  | .mbxAck .. => true
  | .dbH2dSet .. => true
  | .dbH2dClr .. => true
  | .dbD2hSet .. => true
  | .dbD2hClr .. => true
  | .timeRateWrite .. => true
  | .timeOffsetWrite .. => true
  | .timeAdjWrite .. => true
  | .timeTbNsRead .. => true
  | .tsqFind .. => true
  | .syncSendTimer => true
  | .sync .. => true
  | .echoTimer => true
  | .echoReq .. => true
  | .echoRsp .. => true
  | .syncMissed => true
  | .fallbackStep => true
  | .ethFrameTransmit .. => true
  | .ethFrameReceive .. => true
  | .govEvaluation => false
  | .admissionRequest .. => true
  | .xchkBad => true
  | .durOver .. => true
  | .calRequestTdcCd .. => true
  | .calRequestLevelDac .. => true
  | .calRequestClusterFull .. => true
  | .calCancel .. => true
  | .calActivityEnd .. => true
  | .calSlewTick .. => true
  | .calSpanStart .. => true
  | .spanSkewHold .. => true
  | .spanSkewBusyTimeout => true
  | .spanSkewEnd .. => true
  | .ephRead .. => true
  | .ephRecord => true
  | .pwrgoodRise => true
  | .pwrgoodFall => false
  | .rstNRise .. => false
  | .rstNPulse .. => false
  | .bootResetWrite .. => false
  | .softwareReset => false
  | .bootRomDone => true
  | .bootFlashDiscovery .. => true
  | .bootSelect => true
  | .bootHeader => true
  | .bootMgmtFw => false
  | .bootClocks => true
  | .bootNoRefclk => true
  | .bootPllLockTimeout => true
  | .bootLoad => false
  | .bootHbmTrain .. => true
  | .configReg => false
  | .configMem => false
  | .configPoll => false
  | .configPollTimeout => true
  | .configFill => false
  | .configEnd => true
  | .bootFinal => false
  | .updateStage .. => false
  | .updateActivate => false
  | .updateConfirm => false
  | .updateReboot => false
  | .updateBadRequest => false
  | .updateDone => true
  | .peSafeNAssert => true
  | .peSafeNRelease => true
  | .thermalTrip => true
  | .safeForceWrite .. => true
  | .safeExit => true
  | .wdtEnable .. => true
  | .wdtKick .. => true
  | .wdtExpire => true
  | .wdtReset => false
  | .sensorRefresh .. => true
  | .railCurrentSense .. => true
  | .vbatLoss => true
  | .kaRtcWrite .. => true
  | .kaClr .. => true
  | .logAppend .. => true
  | .logRdIdxWrite .. => true
  | .logRecordWrite => true
  | .ledgerCommit .. => true
  | .ledgerHoursTimer => true
  | .uartRxByte .. => true
  | .uartDataWrite .. => true
  | .uartDataRead .. => true
  | .smbReadSafeStatus => true
  | .smbReadTemp => true
  | .smbReadBootStage => true
  | .smbReadId => true
  | .smbReadChipId => true
  | .smbAlertResponse => true
  | .jtagTapReset => true
  | .jtagBypass .. => true
  | .jtagIdcode => true
  | .jtagSamplePreload .. => true
  | .jtagExtest .. => true
  | .jtagClamp .. => true
  | .jtagHighz .. => true
  | .jtagRegAccess .. => false
  | .vidStep => true
  | .internalResetRelease .. => false
  | .pcieLinkUp .. => true
  | .uartTxByteSent => true
  | .coreTrap .. => true
  | .spanSkewBarrier .. => true

end Sys2Proof.Machine
end

