-- ==== Sys2Proof/Certificates/Slice0/Obligations.lean ====
section
/-!
DEFINITION. The statements about the block, from the spec's rules. A statement about commands is a list of clauses: under the
clause's conditions on the state and the operands alone, the command answers a next state, and the clause says what that
state holds and what it keeps.
-/

open Sys2Proof Sys2Proof.Machine

/-- R2, R14, R15, R16: what REGISTER_WRITE does, form by form, and what it leaves alone. -/
def Obligations.RegisterWrites : Prop :=
  (∀ s : State, ∀ (r : Req) (k : Fin 4) (v : Nat), v < 2 ^ 32 → 
    exec (.registerWrite r (R.GLB_SCRATCHk k) 4 v) s = .next (s.putN (R.GLB_SCRATCHk k) v)) ∧
  (∀ s : State, ∀ (r : Req) (v : Nat), 
    exec (.registerWrite r R.GLB_ID 4 v) s = .next (s)) ∧
  (∀ s : State, ∀ (r : Req) (v : Nat), v < 2 ^ 32 → 
    Completes (.registerWrite r R.DRW_EVENT 4 v) s (fun t => (∀ i, i < 5 → t.bit R.DRW_EVENT i = (s.bit R.DRW_EVENT i && !v.testBit i)) ∧
      RegsBut [R.DRW_EVENT] s t ∧
      t = { s with regs := t.regs })) ∧
  (∀ s : State, ∀ (r : Req) (n : Site) (v : Nat), s.compat 3 = false → v < 2 ^ 32 → (v / 2 ^ 16 % 128 = 0 ∨ 65 ≤ v / 2 ^ 16 % 128) → v % 4 ≠ 3 → 
    Completes (.registerWrite r (R.STRM_SITE_n_CFG n) 4 v) s (fun t => t.get (F.STRM_SITE_n_CFG_FIFO_UNITS n) = s.get (F.STRM_SITE_n_CFG_FIFO_UNITS n) ∧
      t.get (F.STRM_SITE_n_CFG_POLICY n) = v % 4 ∧
      t.get (F.STRM_SITE_n_CFG_ADMIT_BEST_EFFORT n) = v / 16 % 2 ∧
      t.num R.GLB_ERR_ENUM = min satMax (s.num R.GLB_ERR_ENUM + 1) ∧
      RegsBut [R.STRM_SITE_n_CFG n, R.GLB_ERR_ENUM] s t ∧
      t = { s with regs := t.regs })) ∧
  (∀ s : State, ∀ (r : Req) (off : Nat) (size : Nat) (v : Nat), off < 2 ^ 27 → (size = 1 ∨ size = 2 ∨ size = 4 ∧ off % 4 ≠ 0) → 
    Completes (.registerWrite r off size v) s (fun t => t.num R.GLB_ERR_SIZE = min satMax (s.num R.GLB_ERR_SIZE + 1) ∧
      t.pair R.GLB_ERR_ADDR_LO = 0x2000000000 + off ∧
      t.get F.GLB_ERR_SRC_REQ = reqCode r ∧
      RegsBut [R.GLB_ERR_ADDR_LO, R.GLB_ERR_ADDR_LO + 4, R.GLB_ERR_SRC, R.GLB_ERR_SIZE] s t ∧
      t = { s with regs := t.regs })) ∧
  (∀ s : State, ∀ (r : Req) (off : Nat) (v : Nat), off < 2 ^ 27 → off % 4 = 0 → s.regMapped off = false → 
    Completes (.registerWrite r off 4 v) s (fun t => t.num R.GLB_ERR_UNMAPPED = min satMax (s.num R.GLB_ERR_UNMAPPED + 1) ∧
      t.pair R.GLB_ERR_ADDR_LO = 0x2000000000 + off ∧
      t.get F.GLB_ERR_SRC_REQ = reqCode r ∧
      RegsBut [R.GLB_ERR_ADDR_LO, R.GLB_ERR_ADDR_LO + 4, R.GLB_ERR_SRC, R.GLB_ERR_UNMAPPED] s t ∧
      t = { s with regs := t.regs })) ∧
  (∀ s : State, ∀ (r : Req) (off : Nat) (v : Nat), off + 4 < 2 ^ 27 → 
    Completes (.registerWrite r off 8 v) s (fun t => (∃ u, exec (.registerWrite r off 4 (v % 2 ^ 32)) s = .next u ∧ exec (.registerWrite r (off + 4) 4 (v / 2 ^ 32)) u = .next t)))

/-- R4, R17 to R19: PAIR_HI_WRITE, PAIR_LO_WRITE, PAIR_LO_READ, PAIR_HI_READ, RC_READ, with what each leaves alone. -/
def Obligations.PairAccesses : Prop :=
  (∀ s : State, ∀ (r : Req) (off : Nat) (v : Word), isPairHi off = true → 
    exec (.pairHiWrite r off v) s = .next (s.updRq r (fun q => { q with staged := v }))) ∧
  (∀ s : State, ∀ (r : Req) (off : Nat), isPairHi off = true → 
    exec (.pairHiRead r off) s = .next (s.updRq r (fun q => { q with rword := q.snap }))) ∧
  (∀ s : State, ∀ (r : Req) (v : Word), 
    Completes (.pairLoWrite r R.DRW_CMD_ARG_LO v) s (fun t => t.word R.DRW_CMD_ARG_LO = v ∧
      t.num R.DRW_CMD_ARG_HI = (s.rq r).staged.toNat % 256 + s.num R.DRW_CMD_ARG_HI / 256 * 256 ∧
      t.rq r = { s.rq r with staged := 0 } ∧
      RegsBut [R.DRW_CMD_ARG_LO, R.DRW_CMD_ARG_HI] s t ∧
      t = { s with regs := t.regs, req := t.req })) ∧
  (∀ s : State, ∀ (r : Req), 
    exec (.pairLoRead r R.DRW_CMD_RESULT_LO) s = .next (s.updRq r (fun q => { q with snap := s.word R.DRW_CMD_RESULT_HI, rword := s.word R.DRW_CMD_RESULT_LO }))) ∧
  (∀ s : State, ∀ (r : Req), 
    Completes (.rcRead r R.GLB_ERR_ENUM) s (fun t => (t.rq r).rword = s.word R.GLB_ERR_ENUM ∧
      t.num R.GLB_ERR_ENUM = 0 ∧
      RegsBut [R.GLB_ERR_ENUM] s t ∧
      t = { s with regs := t.regs, req := t.req }))

/-- R20, R51, R98, R333: MEMORY_WRITE, MEMORY_READ and ECC_WRITEBACK. The stored bytes are the write's own range. -/
def Obligations.MemoryAccesses : Prop :=
  (∀ s : State, ∀ (r : Req) (a : Nat) (d : List Byte), (∀ n, r ≠ .core n) → 0xD00000000 ≤ a → a + d.length ≤ 0xD00400000 → 
    Completes (.memoryWrite r a d) s (fun t => (∀ i (h : i < d.length), t.rdByte (a + i) = d[i]) ∧
      MemBut a d.length s t ∧
      t = { s with mem := t.mem, hart := t.hart })) ∧
  (∀ s : State, ∀ (r : Req) (a : Nat) (d : List Byte), (∀ n, r ≠ .core n) → r ≠ .device → 0xC02000000 ≤ a → a + d.length ≤ 0xC05000000 → d ≠ [] → a / 64 = (a + d.length - 1) / 64 → s.artHits (a, d.length) ≠ [] → 
    Completes (.memoryWrite r a d) s (fun t => t.num R.DRW_GUARD_DROP = min satMax (s.num R.DRW_GUARD_DROP + 1) ∧
      t.pair R.DRW_GUARD_LAST_LO = a / 64 * 64 ∧
      t.get F.DRW_GUARD_LAST_SRC_REQ = reqCode r ∧
      t.get F.DRW_EVENT_GUARD_DROP = 1 ∧
      RegsBut [R.DRW_GUARD_DROP, R.DRW_GUARD_LAST_LO, R.DRW_GUARD_LAST_LO + 4, R.DRW_GUARD_LAST_SRC, R.DRW_EVENT] s t ∧
      t = { s with regs := t.regs })) ∧
  (∀ s : State, ∀ (r : Req) (a : Nat) (d : List Byte), (∀ n, r ≠ .core n) → 0xC00000000 ≤ a → a + d.length ≤ 0xC02000000 → d ≠ [] → a / 64 = (a + d.length - 1) / 64 → 
    exec (.memoryWrite r a d) s = .next (s.bump R.GLB_ERR_FIFO_WR)) ∧
  (∀ s : State, ∀ (n : Core) (a : Nat) (d : List Byte), s.coreLive n = true → (d.length = 1 ∨ d.length = 2 ∨ d.length = 4 ∨ d.length = 8) → a % d.length = 0 → (s.hartOf n).sb.length < 8 → 
    exec (.memoryWrite (.core n) a d) s = .next (s.updHart n (fun h => { h with sb := h.sb ++ [{ addr := a, data := d }] }))) ∧
  (∀ s : State, ∀ (r : Req) (a : Nat) (n : Nat) (ce : List Nat) (ue : List Nat), (∀ n, r ≠ .core n) → 0xD00000000 ≤ a → a + n ≤ 0xD00400000 → 
    Completes (.memoryRead r a n ce ue) s (fun t => (t.rq r).rbytes = s.rdBytes a n ∧
      t = { s with req := t.req, memc := t.memc })) ∧
  (∀ s : State, ∀ (b : Nat), s.memc.writebacks.contains b = true → (s.bankOf (hbmLoc (32 * b)).pc (hbmLoc (32 * b)).bank).busy = false → 
    Completes (.eccWriteback b) s (fun t => t.memc.writebacks.contains b = false ∧
      t.memc.ceBursts.contains b = false ∧
      t = { s with memc := t.memc }))

/-- R23 to R29: REFCLK_LOST, REFCLK_FREQ_ERR, REFCLK_IN_WINDOW, SWITCH_TO_RECOVERED, REFCLK_RETURN, CLUSTER_PLL_UNLOCK, CLUSTER_PLL_RELOCK. -/
def Obligations.ClockCommands : Prop :=
  (∀ s : State, s.get F.CLK_REF_STATUS_PRESENT = 1 → s.get F.CLK_REF_STATUS_USING_RECOVERED = 0 → 
    Completes (.refclkLost) s (fun t => t.get F.CLK_REF_STATUS_PRESENT = 0 ∧
      t.get F.CLK_REF_STATUS_FREQ_OK = 0 ∧
      t.get F.CLK_REF_STATUS_LOST = 1 ∧
      t.get F.CLK_REF_STATUS_HOLDOVER = 1 ∧
      t.num R.CLK_REF_LOSS_CNT = min satMax (s.num R.CLK_REF_LOSS_CNT + 1) ∧
      t = { s with regs := t.regs, cal := t.cal })) ∧
  (∀ s : State, s.get F.CLK_REF_STATUS_PRESENT = 1 → s.get F.CLK_REF_STATUS_USING_RECOVERED = 1 → 
    Completes (.refclkLost) s (fun t => t.get F.CLK_REF_STATUS_PRESENT = 0 ∧
      t.get F.CLK_REF_STATUS_LOST = 1 ∧
      t.get F.CLK_REF_STATUS_HOLDOVER = s.get F.CLK_REF_STATUS_HOLDOVER ∧
      RegsBut [R.CLK_REF_STATUS, R.CLK_REF_LOSS_CNT] s t ∧
      t = { s with regs := t.regs })) ∧
  (∀ s : State, ∀ (ppm : Int), s.get F.CLK_REF_STATUS_PRESENT = 1 → s.get F.CLK_REF_STATUS_FREQ_OK = 1 → s.get F.CLK_REF_STATUS_USING_RECOVERED = 0 → 
    Completes (.refclkFreqErr ppm) s (fun t => t.get F.CLK_REF_STATUS_FREQ_OK = 0 ∧
      t.get F.CLK_REF_STATUS_FREQ_ERR = 1 ∧
      t.get F.CLK_REF_STATUS_HOLDOVER = 1 ∧
      t.num R.CLK_REF_LOSS_CNT = min satMax (s.num R.CLK_REF_LOSS_CNT + 1) ∧
      t = { s with regs := t.regs, cal := t.cal })) ∧
  (∀ s : State, s.get F.CLK_REF_STATUS_USING_RECOVERED = 0 → s.get F.CLK_REF_CTRL_SRC_SEL ≠ 2 → 
    Completes (.refclkInWindow) s (fun t => t.get F.CLK_REF_STATUS_PRESENT = 1 ∧
      t.get F.CLK_REF_STATUS_FREQ_OK = 1 ∧
      t.get F.CLK_REF_STATUS_HOLDOVER = 0 ∧
      RegsBut [R.CLK_REF_STATUS] s t ∧
      t = { s with regs := t.regs })) ∧
  (∀ s : State, s.get F.CLK_REF_STATUS_USING_RECOVERED = 1 → 
    Completes (.refclkInWindow) s (fun t => t.get F.CLK_REF_STATUS_FREQ_OK = 1 ∧
      t.get F.CLK_REF_STATUS_REF_BACK = 1 ∧
      t.get F.CLK_REF_STATUS_USING_RECOVERED = 1 ∧
      RegsBut [R.CLK_REF_STATUS] s t ∧
      t = { s with regs := t.regs })) ∧
  (∀ s : State, ∀ (u : Port), s.get F.CLK_REF_STATUS_HOLDOVER = 1 → s.get F.CLK_REF_STATUS_USING_RECOVERED = 0 → s.get F.CLK_REF_CTRL_SRC_SEL ≠ 0 → s.upPort = some u.val → s.isRoot = false → 
    Completes (.switchToRecovered) s (fun t => t.get F.CLK_REF_STATUS_HOLDOVER = 0 ∧
      t.get F.CLK_REF_STATUS_USING_RECOVERED = 1 ∧
      t.get F.CLK_REF_STATUS_UP_PORT = u ∧
      t.num R.CLK_SWITCH_CNT = min satMax (s.num R.CLK_SWITCH_CNT + 1) ∧
      RegsBut [R.CLK_REF_STATUS, R.CLK_SWITCH_CNT] s t ∧
      t = { s with regs := t.regs })) ∧
  (∀ s : State, s.get F.CLK_REF_CTRL_SRC_SEL = 1 → s.get F.CLK_REF_CTRL_RETURN_EN = 1 → s.get F.CLK_REF_STATUS_FREQ_OK = 1 → s.get F.CLK_REF_STATUS_USING_RECOVERED = 1 → s.noneArmed = true → 
    Completes (.refclkReturn) s (fun t => t.get F.CLK_REF_STATUS_USING_RECOVERED = 0 ∧
      t.get F.CLK_REF_STATUS_UP_PORT = 7 ∧
      t.get F.CLK_REF_STATUS_HOLDOVER = 0 ∧
      t.num R.CLK_SWITCH_CNT = min satMax (s.num R.CLK_SWITCH_CNT + 1) ∧
      RegsBut [R.CLK_REF_STATUS, R.CLK_SWITCH_CNT] s t ∧
      t = { s with regs := t.regs })) ∧
  (∀ s : State, ∀ (k : Cluster), s.bit R.CLK_PLL_LOCK k = true → 
    Completes (.clusterPllUnlock k) s (fun t => t.bit R.CLK_PLL_LOCK k = false ∧
      t.bit R.CLK_PLL_UNLOCK k = true ∧
      (∀ n : Site, s.siteState n = 3 → s.siteClu n k = true → t.bit (R.FAIL_SITE_n_RESULT n) 20 = true ∧ t.bit (R.FAIL_SITE_n_RESULT n) 31 = false) ∧
      t = { s with regs := t.regs })) ∧
  (∀ s : State, ∀ (k : Cluster), 
    exec (.clusterPllRelock k) s = .next (s.putBit R.CLK_PLL_LOCK k true))

/-- R42, R43, R45: DRW_NOP, COMMIT, RETIRE, PIN, UNPIN, SHELF_ALLOC, SHELF_FREE, with the frame of each. COMMIT also reads the entry, which ECC may count (R98, R99). -/
def Obligations.DrawerCommandAcceptance : Prop :=
  (∀ s : State, ∀ (tag : Set8), s.get F.DRW_CMD_STATUS_BUSY = 0 → 
    Completes (.drwNop tag) s (fun t => t.get F.DRW_CMD_STATUS_BUSY = 1 ∧
      t.get F.DRW_CMD_STATUS_TAG = tag ∧
      t.get F.DRW_CMD_STATUS_OP = 0 ∧
      t.drw.cmdId = 0 ∧
      t.drw.cmdArg = s.pair R.DRW_CMD_ARG_LO ∧
      RegsBut [R.DRW_CMD_STATUS] s t ∧
      t = { s with regs := t.regs, drw := t.drw })) ∧
  (∀ s : State, ∀ (tag : Set8) (id : DrawerId), s.get F.DRW_CMD_STATUS_BUSY = 0 → 
    Completes (.retire tag id) s (fun t => t.get F.DRW_CMD_STATUS_BUSY = 1 ∧
      t.get F.DRW_CMD_STATUS_TAG = tag ∧
      t.get F.DRW_CMD_STATUS_OP = 2 ∧
      t.drw.cmdId = id ∧
      t.drw.cmdArg = s.pair R.DRW_CMD_ARG_LO ∧
      RegsBut [R.DRW_CMD_STATUS] s t ∧
      t = { s with regs := t.regs, drw := t.drw })) ∧
  (∀ s : State, ∀ (tag : Set8) (id : DrawerId), s.get F.DRW_CMD_STATUS_BUSY = 0 → 
    Completes (.pin tag id) s (fun t => t.get F.DRW_CMD_STATUS_BUSY = 1 ∧
      t.get F.DRW_CMD_STATUS_TAG = tag ∧
      t.get F.DRW_CMD_STATUS_OP = 3 ∧
      t.drw.cmdId = id ∧
      t.drw.cmdArg = s.pair R.DRW_CMD_ARG_LO ∧
      RegsBut [R.DRW_CMD_STATUS] s t ∧
      t = { s with regs := t.regs, drw := t.drw })) ∧
  (∀ s : State, ∀ (tag : Set8) (id : DrawerId), s.get F.DRW_CMD_STATUS_BUSY = 0 → 
    Completes (.unpin tag id) s (fun t => t.get F.DRW_CMD_STATUS_BUSY = 1 ∧
      t.get F.DRW_CMD_STATUS_TAG = tag ∧
      t.get F.DRW_CMD_STATUS_OP = 4 ∧
      t.drw.cmdId = id ∧
      t.drw.cmdArg = s.pair R.DRW_CMD_ARG_LO ∧
      RegsBut [R.DRW_CMD_STATUS] s t ∧
      t = { s with regs := t.regs, drw := t.drw })) ∧
  (∀ s : State, ∀ (tag : Set8), s.get F.DRW_CMD_STATUS_BUSY = 0 → 
    Completes (.shelfAlloc tag) s (fun t => t.get F.DRW_CMD_STATUS_BUSY = 1 ∧
      t.get F.DRW_CMD_STATUS_TAG = tag ∧
      t.get F.DRW_CMD_STATUS_OP = 5 ∧
      t.drw.cmdId = 0 ∧
      t.drw.cmdArg = s.pair R.DRW_CMD_ARG_LO ∧
      RegsBut [R.DRW_CMD_STATUS] s t ∧
      t = { s with regs := t.regs, drw := t.drw })) ∧
  (∀ s : State, ∀ (tag : Set8), s.get F.DRW_CMD_STATUS_BUSY = 0 → 
    Completes (.shelfFree tag) s (fun t => t.get F.DRW_CMD_STATUS_BUSY = 1 ∧
      t.get F.DRW_CMD_STATUS_TAG = tag ∧
      t.get F.DRW_CMD_STATUS_OP = 6 ∧
      t.drw.cmdId = 0 ∧
      t.drw.cmdArg = s.pair R.DRW_CMD_ARG_LO ∧
      RegsBut [R.DRW_CMD_STATUS] s t ∧
      t = { s with regs := t.regs, drw := t.drw })) ∧
  (∀ s : State, ∀ (tag : Set8) (id : DrawerId), s.get F.DRW_CMD_STATUS_BUSY = 0 → 
    Completes (.commit tag id) s (fun t => t.get F.DRW_CMD_STATUS_BUSY = 1 ∧
      t.get F.DRW_CMD_STATUS_TAG = tag ∧
      t.get F.DRW_CMD_STATUS_OP = 1 ∧
      t.drw.cmdId = id ∧
      t.drw.latched = s.rdBytes (entryAddr id) 64 ∧
      t.mem = s.mem)) ∧
  (∀ s : State, ∀ (tag : Set8), s.get F.DRW_CMD_STATUS_BUSY = 1 → 
    exec (.drwNop tag) s = .next ((s.bump R.DRW_CMD_REFUSED).put F.DRW_EVENT_CMD_REFUSED 1)) ∧
  (∀ s : State, ∀ (tag : Set8) (id : DrawerId), s.get F.DRW_CMD_STATUS_BUSY = 1 → 
    exec (.retire tag id) s = .next ((s.bump R.DRW_CMD_REFUSED).put F.DRW_EVENT_CMD_REFUSED 1)) ∧
  (∀ s : State, ∀ (tag : Set8) (id : DrawerId), s.get F.DRW_CMD_STATUS_BUSY = 1 → 
    exec (.pin tag id) s = .next ((s.bump R.DRW_CMD_REFUSED).put F.DRW_EVENT_CMD_REFUSED 1)) ∧
  (∀ s : State, ∀ (tag : Set8) (id : DrawerId), s.get F.DRW_CMD_STATUS_BUSY = 1 → 
    exec (.unpin tag id) s = .next ((s.bump R.DRW_CMD_REFUSED).put F.DRW_EVENT_CMD_REFUSED 1)) ∧
  (∀ s : State, ∀ (tag : Set8), s.get F.DRW_CMD_STATUS_BUSY = 1 → 
    exec (.shelfAlloc tag) s = .next ((s.bump R.DRW_CMD_REFUSED).put F.DRW_EVENT_CMD_REFUSED 1)) ∧
  (∀ s : State, ∀ (tag : Set8), s.get F.DRW_CMD_STATUS_BUSY = 1 → 
    exec (.shelfFree tag) s = .next ((s.bump R.DRW_CMD_REFUSED).put F.DRW_EVENT_CMD_REFUSED 1)) ∧
  (∀ s : State, ∀ (tag : Set8) (id : DrawerId), s.get F.DRW_CMD_STATUS_BUSY = 1 → 
    exec (.commit tag id) s = .next ((s.bump R.DRW_CMD_REFUSED).put F.DRW_EVENT_CMD_REFUSED 1))

/-- R43, R44, R47, R50, R54: the results by command, the byte each stores, and the rest unchanged. -/
def Obligations.DrawerCompletion : Prop :=
  (∀ s : State, s.get F.DRW_CMD_STATUS_BUSY = 1 → s.get F.DRW_CMD_STATUS_OP = 0 → 
    Completes (.drwCmdDone) s (fun t => t.get F.DRW_CMD_STATUS_BUSY = 0 ∧
      t.get F.DRW_EVENT_CMD_DONE = 1 ∧
      t.get F.DRW_CMD_STATUS_RESULT = 0 ∧
      t.pair R.DRW_CMD_RESULT_LO = 0 ∧
      RegsBut [R.DRW_CMD_STATUS, R.DRW_EVENT, R.DRW_CMD_RESULT_LO, R.DRW_CMD_RESULT_LO + 4] s t ∧
      t = { s with regs := t.regs, drw := t.drw })) ∧
  (∀ s : State, s.get F.DRW_CMD_STATUS_BUSY = 1 → drwResult s ≠ 0 → 
    Completes (.drwCmdDone) s (fun t => t.get F.DRW_CMD_STATUS_BUSY = 0 ∧
      t.get F.DRW_EVENT_CMD_DONE = 1 ∧
      t.get F.DRW_CMD_STATUS_RESULT = drwResult s % 256 ∧
      t.drw.allocs = s.drw.allocs ∧
      RegsBut [R.DRW_CMD_STATUS, R.DRW_EVENT, R.DRW_CMD_RESULT_LO, R.DRW_CMD_RESULT_LO + 4] s t ∧
      t = { s with regs := t.regs, drw := t.drw })) ∧
  (∀ s : State, s.get F.DRW_CMD_STATUS_BUSY = 1 → s.get F.DRW_CMD_STATUS_OP = 2 → s.drw.cmdId ≠ 0 → s.drw.cmdId < 2 ^ 20 → s.committed s.drw.cmdId = true → s.artHas s.drw.cmdId = false → s.pinned s.drw.cmdId = false → 
    Completes (.drwCmdDone) s (fun t => t.get F.DRW_CMD_STATUS_BUSY = 0 ∧
      t.get F.DRW_EVENT_CMD_DONE = 1 ∧
      t.get F.DRW_CMD_STATUS_RESULT = 0 ∧
      t.committed s.drw.cmdId = false ∧
      t.num R.DRW_GEN = (s.num R.DRW_GEN + 1) % 2 ^ 32 ∧
      t.num R.DRW_COMMITTED_CNT = s.num R.DRW_COMMITTED_CNT - 1 ∧
      MemBut (entryAddr s.drw.cmdId + 13) 1 s t)) ∧
  (∀ s : State, s.get F.DRW_CMD_STATUS_BUSY = 1 → s.get F.DRW_CMD_STATUS_OP = 3 → s.drw.cmdId ≠ 0 → s.drw.cmdId < 2 ^ 20 → s.committed s.drw.cmdId = true → 
    Completes (.drwCmdDone) s (fun t => t.get F.DRW_CMD_STATUS_BUSY = 0 ∧
      t.get F.DRW_EVENT_CMD_DONE = 1 ∧
      t.get F.DRW_CMD_STATUS_RESULT = 0 ∧
      t.pinned s.drw.cmdId = true ∧
      t.committed s.drw.cmdId = true ∧
      MemBut (entryAddr s.drw.cmdId + 13) 1 s t)) ∧
  (∀ s : State, s.get F.DRW_CMD_STATUS_BUSY = 1 → s.get F.DRW_CMD_STATUS_OP = 4 → s.drw.cmdId ≠ 0 → s.drw.cmdId < 2 ^ 20 → s.committed s.drw.cmdId = true → s.laneUses s.drw.cmdId = false → 
    Completes (.drwCmdDone) s (fun t => t.get F.DRW_CMD_STATUS_BUSY = 0 ∧
      t.get F.DRW_EVENT_CMD_DONE = 1 ∧
      t.get F.DRW_CMD_STATUS_RESULT = 0 ∧
      t.pinned s.drw.cmdId = false ∧
      t.committed s.drw.cmdId = true ∧
      MemBut (entryAddr s.drw.cmdId + 13) 1 s t)) ∧
  (∀ s : State, ∀ (p : Nat), s.get F.DRW_CMD_STATUS_BUSY = 1 → s.get F.DRW_CMD_STATUS_OP = 5 → 1 ≤ s.drw.cmdArg → s.drw.cmdArg ≤ 12288 → findRun s.drw.allocs s.drw.cmdArg = some p → 
    Completes (.drwCmdDone) s (fun t => t.get F.DRW_CMD_STATUS_BUSY = 0 ∧
      t.get F.DRW_EVENT_CMD_DONE = 1 ∧
      t.get F.DRW_CMD_STATUS_RESULT = 0 ∧
      t.pair R.DRW_CMD_RESULT_LO = 0xC02000000 + 4096 * p ∧
      t.drw.allocs = s.drw.allocs ++ [(p, s.drw.cmdArg)] ∧
      (∀ i, p ≤ i → i < p + s.drw.cmdArg → t.bit (R.DRW_SHELF_MAP_w (i / 32)) (i % 32) = true) ∧
      t = { s with regs := t.regs, drw := t.drw })) ∧
  (∀ s : State, ∀ (p : Nat) (k : Nat), s.get F.DRW_CMD_STATUS_BUSY = 1 → s.get F.DRW_CMD_STATUS_OP = 6 → s.drw.cmdArg = 0xC02000000 + 4096 * p → p < 12288 → s.drw.allocs = [(p, k)] → k ≤ 12288 → s.pagesUsed p k = false → 
    Completes (.drwCmdDone) s (fun t => t.get F.DRW_CMD_STATUS_BUSY = 0 ∧
      t.get F.DRW_EVENT_CMD_DONE = 1 ∧
      t.get F.DRW_CMD_STATUS_RESULT = 0 ∧
      t.drw.allocs = [] ∧
      t.num R.DRW_SHELF_FREE_PAGES = 12288 ∧
      (∀ i, p ≤ i → i < p + k → t.bit (R.DRW_SHELF_MAP_w (i / 32)) (i % 32) = false) ∧
      t = { s with regs := t.regs, drw := t.drw })) ∧
  (∀ s : State, ∀ (n : Site) (id : DrawerId) (i : Nat) (q : Nat), (s.seqOf n).sels.find? (fun x => x.id == id.val) = some ⟨id, q⟩ → (artSlots n).find? (fun j => !s.artValid j) = some i → 
    Completes (.artInsert n id) s (fun t => t.get (F.DRW_ART_n_VALID i) = 1 ∧
      t.get (F.DRW_ART_n_ID i) = id ∧
      t.get (F.DRW_ART_n_SITE i) = n ∧
      t.get (F.DRW_ART_n_PLAYING i) = 0 ∧
      (Tab.get {} t.art i).ranges = (s.entry id).ranges.filter (fun r => r.2 != 0) ∧
      RegsBut [R.DRW_ART_n i, R.DRW_GUARD_RACE_CNT] s t ∧
      t = { s with regs := t.regs, art := t.art, seq := t.seq }))

/-- R46. LEN_GRAN of a drawer whose data area lies on the shelf may be below 16 (R36), so MINLEN_OK is stated from LEN_GRAN. -/
def Obligations.SuccessfulCommit : Prop :=
  (∀ s : State, s.get F.DRW_CMD_STATUS_BUSY = 1 → s.get F.DRW_CMD_STATUS_OP = 1 → s.drw.cmdId < 2 ^ 20 → drwResult s = 0 → s.num R.DRW_COMMITTED_CNT < 2 ^ 20 → 
    Completes (.drwCmdDone) s (fun t => (t.entry s.drw.cmdId).flags.testBit 3 = decide (16 ≤ (s.entry s.drw.cmdId).len) ∧
      (t.entry s.drw.cmdId).flags.testBit 2 = !(s.entry s.drw.cmdId).flags.testBit 2 ∧
      t.pinned s.drw.cmdId = false ∧
      (t.entry s.drw.cmdId).shelf = (s.entry s.drw.cmdId).shelf ∧
      t.committed s.drw.cmdId = true ∧
      t.num R.DRW_GEN = (s.num R.DRW_GEN + 1) % 2 ^ 32 ∧
      t.num R.DRW_COMMITTED_CNT = s.num R.DRW_COMMITTED_CNT + 1 ∧
      t.get F.DRW_CMD_STATUS_RESULT = 0 ∧
      MemBut (entryAddr s.drw.cmdId + 13) 1 s t))

/-- R47. That the drawer's data and instruction list stay is the frame over all of memory. -/
def Obligations.SuccessfulRetire : Prop :=
  (∀ s : State, s.get F.DRW_CMD_STATUS_BUSY = 1 → s.get F.DRW_CMD_STATUS_OP = 2 → s.drw.cmdId < 2 ^ 20 → drwResult s = 0 → 0 < s.num R.DRW_COMMITTED_CNT → 
    Completes (.drwCmdDone) s (fun t => t.committed s.drw.cmdId = false ∧
      (t.entry s.drw.cmdId).flags.testBit 3 = false ∧
      t.num R.DRW_GEN = (s.num R.DRW_GEN + 1) % 2 ^ 32 ∧
      t.num R.DRW_COMMITTED_CNT = s.num R.DRW_COMMITTED_CNT - 1 ∧
      t.dirProtected (entryAddr s.drw.cmdId) = false ∧
      t.get F.DRW_CMD_STATUS_RESULT = 0 ∧
      MemBut (entryAddr s.drw.cmdId + 13) 1 s t))

/-- R60, R64, R65, R69, R75: STRM_FETCH_ISSUE, STRM_FETCH_COMPLETE, READINESS_POINT, LEDGER_PCT_WRITE. -/
def Obligations.StreamCommands : Prop :=
  (∀ s : State, ∀ (n : Site) (st : Nat) (r : FetchReq), (s.strmOf n).rate ≠ 0 → nextRequest s n st = some r → s.is (F.STRM_SITE_n_FLAGS_ARMED n) = true → r.len + (s.strmOf n).fill + ((s.strmOf n).flight.map (·.len)).sum ≤ 65536 * (s.strmOf n).units → 10 * r.len ≤ (s.strmOf n).creditNow s.now → 
    Completes (.strmFetchIssue n st) s (fun t => (t.strmOf n).flight = (s.strmOf n).flight ++ [r] ∧
      (t.strmOf n).credit = (s.strmOf n).creditNow s.now - 10 * r.len ∧
      (∀ m : Site, m ≠ n → t.strmOf m = s.strmOf m) ∧
      t = { s with strm := t.strm })) ∧
  (∀ s : State, ∀ (n : Site) (i : Nat) (r : FetchReq), (s.strmOf n).flight[i]? = some r → (s.strmOf n).streams.any (fun p => p.1 == r.stream) = false → 
    Completes (.strmFetchComplete n i [] []) s (fun t => (t.strmOf n).flight = (s.strmOf n).flight.eraseIdx i ∧
      (t.strmOf n).streams = (s.strmOf n).streams ∧
      t.mem = s.mem)) ∧
  (∀ s : State, ∀ (n : Site) (i : Nat) (r : FetchReq), (s.strmOf n).flight[i]? = some r → r.late = false → (s.strmOf n).streams.any (fun p => p.1 == r.stream) = true → (Tab.get {} (s.strmOf n).streams r.stream).base ≤ r.pos → s.memc.ceBursts = [] → s.memc.ueBursts = [] → (r.chunks.flatMap (fun p => s.rdBytes p.1 p.2)) ≠ [] → 
    Completes (.strmFetchComplete n i [] []) s (fun t => (t.strmOf n).flight = (s.strmOf n).flight.eraseIdx i ∧
      (Tab.get {} (t.strmOf n).streams r.stream).segs = insSeg { pos := r.pos, data := (r.chunks.flatMap (fun p => s.rdBytes p.1 p.2)), bad := [] } (Tab.get {} (s.strmOf n).streams r.stream).segs ∧
      t.num (R.STRM_SITE_n_FILL n) = (t.strmOf n).fill % 2 ^ 32 ∧
      RegsBut [R.STRM_SITE_n_FILL n, R.STRM_SITE_n_FLAGS n, R.STRM_SITE_n_LATE_DROP n] s t ∧
      t.mem = s.mem)) ∧
  (∀ s : State, ∀ (n : Site), s.siteState n = 3 → 
    Completes (.readinessPoint n) s (fun t => (t.strmOf n).nextReady = some ((framesReady s n (16 - (s.playOf n).inFrame) 16).1 && (framesReady s n (16 - (s.playOf n).inFrame) 16).2) ∧
      (t.strmOf n).flight = (s.strmOf n).flight ∧
      t = { s with regs := t.regs, strm := t.strm, ts := t.ts })) ∧
  (∀ s : State, ∀ (v : Word), 50 ≤ v.toNat % 128 → v.toNat % 128 ≤ 90 → 
    Completes (.ledgerPctWrite v) s (fun t => t.get F.STRM_LEDGER_CTRL_PCT = v.toNat % 128 ∧
      t.get F.STRM_LEDGER_GUAR_GUAR = 12288 * (v.toNat % 128) / 100 - s.get F.STRM_LEDGER_RSV_REFRESH - s.get F.STRM_LEDGER_RSV_RETRAIN ∧
      t.get F.STRM_STATUS_LEDGER_OVER = b2n (decide (t.get F.STRM_LEDGER_GUAR_GUAR < s.get F.STRM_LEDGER_SUM_SUM)) ∧
      RegsBut [R.STRM_LEDGER_CTRL, R.STRM_LEDGER_GUAR, R.STRM_STATUS, R.STRM_EVENT] s t ∧
      t = { s with regs := t.regs }))

/-- R90, R93, R95, R96: MEMC_ENQUEUE, INORDER_EXIT, REFRESH_INTERVAL, REFRESH_ISSUE, REFRESH_ALL_BANK, STACK_TEMP_CHANGE. -/
def Obligations.QueuesAndRefresh : Prop :=
  (∀ s : State, ∀ (r : Req) (a : Nat) (level : Nat), a < 0x8FFFFFF00 → a % 256 = 0 → s.memc.held = [] → (s.bankOf (hbmLoc a).pc (hbmLoc a).bank).reads.length < 8 → 
    Completes (.memcEnqueue r false a 64 level) s (fun t => (t.bankOf (hbmLoc a).pc (hbmLoc a).bank).reads = (s.bankOf (hbmLoc a).pc (hbmLoc a).bank).reads ++ [{ row := (hbmLoc a).row, wr := false, level := level, seq := s.memc.seq, addr := a, len := 64 }] ∧
      t.memc.seq = s.memc.seq + 1 ∧
      t = { s with regs := t.regs, memc := t.memc })) ∧
  (∀ s : State, ∀ (r : Req) (wr : Bool) (a : Nat) (level : Nat), a < 0x8FFFFFF00 → a % 256 = 0 → s.memc.held ≠ [] → 
    Completes (.memcEnqueue r wr a 64 level) s (fun t => t.memc.held = s.memc.held ++ [(a, 64, wr, level)] ∧
      t = { s with memc := t.memc })) ∧
  (∀ s : State, ∀ (p : Cluster) (b : Fin 48), (s.bankOf p b).inOrder.isSome = true → s.memc.held = [] → 
    Completes (.inorderExit p b) s (fun t => (t.bankOf p b).inOrder = none ∧
      t = { s with regs := t.regs, memc := t.memc })) ∧
  (∀ s : State, s.memc.banks = [] → 
    exec (.refreshInterval) s = .next (s)) ∧
  (∀ s : State, ∀ (k : Nat) (b : Bank), s.memc.banks = [(k, b)] → b.openRow.isSome = true → s.pcState (k / 48) < 2 → 
    Completes (.refreshInterval) s (fun t => (Tab.get {} t.memc.banks k).debt = b.debt + 1 ∧
      RegsBut [R.MEMC_REF_DEBT_MAX] s t ∧
      t = { s with regs := t.regs, memc := t.memc })) ∧
  (∀ s : State, ∀ (p : Cluster) (b : Fin 48), (s.bankOf p b).debt ≠ 0 → (s.bankOf p b).busy = false → 
    Completes (.refreshIssue p b) s (fun t => (t.bankOf p b).debt = (s.bankOf p b).debt - 1 ∧
      (t.bankOf p b).openRow = none ∧
      t = { s with memc := t.memc })) ∧
  (∀ s : State, ∀ (p : Cluster) (b : Fin 48), 8 ≤ (s.bankOf p b).debt → 
    Completes (.refreshAllBank p) s (fun t => (∀ j : Fin 48, (t.bankOf p j).debt = 0 ∧ (t.bankOf p j).openRow = none) ∧
      t.num R.MEMC_REFAB_CNT = min satMax (s.num R.MEMC_REFAB_CNT + 1) ∧
      t.get F.MEMC_EVENT_REFAB = 1 ∧
      RegsBut [R.MEMC_REFAB_CNT, R.MEMC_EVENT] s t ∧
      t = { s with regs := t.regs, memc := t.memc })) ∧
  (∀ s : State, ∀ (x : Int), -128 ≤ x → x ≤ 127 → 
    Completes (.stackTempChange x) s (fun t => (t.get F.MEMC_TEMP_TEMP : Int) = x % 256 ∧
      t.get F.MEMC_STATUS_TEMP_HIGH = b2n (decide (85 < x)) ∧
      RegsBut [R.MEMC_TEMP, R.MEMC_STATUS, R.MEMC_EVENT] s t ∧
      t = { s with regs := t.regs }))

/-- R101 to R107: RETRAIN_SESSION_START, RETRAIN_SESSION_END, RETRAIN_SLICE, MEMC_RETRAIN_START, MEMC_RETRAIN_ENABLE_WRITE, PC_POWER_ENTER, PC_WAKE, PC_WAKE_DONE. -/
def Obligations.RetrainAndPower : Prop :=
  (∀ s : State, ∀ (p : Cluster), s.get F.MEMC_RETRAIN_CTRL_ENABLE = 1 → s.get F.MEMC_STATUS_RETRAINING = 0 → s.memc.turn = p.val → s.pcState p ≤ 1 → 
    Completes (.retrainSessionStart) s (fun t => t.get F.MEMC_STATUS_RETRAINING = 1 ∧
      t.get F.MEMC_STATUS_RETRAIN_PC = p ∧
      t.memc.turn = (p.val + 1) % 32 ∧
      RegsBut [R.MEMC_STATUS] s t ∧
      t = { s with regs := t.regs, memc := t.memc })) ∧
  (∀ s : State, ∀ (start : Bool), s.get F.MEMC_STATUS_RETRAINING = 1 → 
    Completes (.retrainSlice start) s (fun t => t.get (F.MEMC_PC_p_STATE_TRAINING (s.get F.MEMC_STATUS_RETRAIN_PC)) = b2n start ∧
      t.memc.slices = s.memc.slices + b2n start ∧
      RegsBut [R.MEMC_PC_p_STATE (s.get F.MEMC_STATUS_RETRAIN_PC)] s t ∧
      t = { s with regs := t.regs, memc := t.memc })) ∧
  (∀ s : State, ∀ (p : Cluster), s.get F.MEMC_STATUS_RETRAINING = 0 → 
    Completes (.memcRetrainStart p) s (fun t => t.get F.MEMC_STATUS_RETRAINING = 1 ∧
      t.get F.MEMC_STATUS_RETRAIN_PC = p ∧
      RegsBut [R.MEMC_STATUS] s t ∧
      t = { s with regs := t.regs, memc := t.memc })) ∧
  (∀ s : State, ∀ (p : Cluster), s.get F.MEMC_STATUS_RETRAINING = 1 → 
    exec (.memcRetrainStart p) s = .next ({ s with memc := { s.memc with startReq := some p.val } })) ∧
  (∀ s : State, ∀ (v : Word), 10 ≤ v.toNat / 2 ^ 16 → 
    Completes (.memcRetrainEnableWrite v) s (fun t => t.get F.MEMC_RETRAIN_CTRL_ENABLE = v.toNat % 2 ∧
      t.get F.MEMC_RETRAIN_CTRL_INTERVAL = v.toNat / 2 ^ 16 ∧
      t.get F.STRM_LEDGER_RSV_RETRAIN = (if v.toNat % 2 = 1 then 384 else 0) ∧
      t.get F.STRM_LEDGER_GUAR_GUAR = (12288 * s.get F.STRM_LEDGER_CTRL_PCT / 100 - s.get F.STRM_LEDGER_RSV_REFRESH - t.get F.STRM_LEDGER_RSV_RETRAIN) % 2 ^ 16 ∧
      t = { s with regs := t.regs })) ∧
  (∀ s : State, ∀ (p : Cluster), s.pcBusy p = false → (s.pcOf p).waking = false → s.get (F.MEMC_PC_p_STATE_TRAINING p) = 0 → s.pcState p < s.deepest → 
    Completes (.pcPowerEnter p) s (fun t => t.pcState p = s.deepest ∧
      (∀ j : Fin 48, (t.bankOf p j).openRow = none) ∧
      RegsBut [R.MEMC_PC_p_STATE p] s t ∧
      t = { s with regs := t.regs, memc := t.memc })) ∧
  (∀ s : State, ∀ (p : Cluster), s.pcState p ≠ 0 → 
    Completes (.pcWake p) s (fun t => (t.pcOf p).waking = true ∧
      t.get (F.MEMC_PC_p_STATE_TRAINING p) = (if 2 ≤ s.pcState p then 1 else s.get (F.MEMC_PC_p_STATE_TRAINING p)) ∧
      RegsBut [R.MEMC_PC_p_STATE p] s t ∧
      t = { s with regs := t.regs, memc := t.memc })) ∧
  (∀ s : State, ∀ (p : Cluster), (s.pcOf p).waking = true → 
    Completes (.pcWakeDone p) s (fun t => (t.pcOf p).waking = false ∧
      t.pcState p = 0 ∧
      t.get (F.MEMC_PC_p_STATE_TRAINING p) = 0 ∧
      RegsBut [R.MEMC_PC_p_STATE p] s t ∧
      t = { s with regs := t.regs, memc := t.memc })) ∧
  (∀ s : State, s.get F.MEMC_STATUS_RETRAINING = 1 → s.memc.startReq = none → 
    Completes (.retrainSessionEnd false) s (fun t => t.num R.MEMC_RETRAIN_FAIL = min satMax (s.num R.MEMC_RETRAIN_FAIL + 1) ∧
      t.get F.MEMC_EVENT_RETRAIN_FAIL = 1 ∧
      t.num R.MEMC_RETRAIN_CNT = min satMax (s.num R.MEMC_RETRAIN_CNT + 1) ∧
      t.get F.MEMC_STATUS_RETRAINING = 0 ∧
      t.memc = s.memc ∧
      RegsBut [R.MEMC_STATUS, R.MEMC_PC_p_STATE (s.get F.MEMC_STATUS_RETRAIN_PC), R.MEMC_RETRAIN_CNT, R.MEMC_RETRAIN_FAIL, R.MEMC_EVENT] s t ∧
      t = { s with regs := t.regs })) ∧
  (∀ s : State, s.get F.MEMC_STATUS_RETRAINING = 1 → s.memc.startReq = none → 
    Completes (.retrainSessionEnd true) s (fun t => t.num R.MEMC_RETRAIN_FAIL = s.num R.MEMC_RETRAIN_FAIL ∧
      t.num R.MEMC_RETRAIN_CNT = min satMax (s.num R.MEMC_RETRAIN_CNT + 1) ∧
      t.get F.MEMC_STATUS_RETRAINING = 0 ∧
      RegsBut [R.MEMC_STATUS, R.MEMC_PC_p_STATE (s.get F.MEMC_STATUS_RETRAIN_PC), R.MEMC_RETRAIN_CNT] s t ∧
      t = { s with regs := t.regs }))

/-- R164, R169, R172 to R176: TSET_ENTRY_WRITE, TSET_NOP, TSET_COMMIT, TSET_CMD_DONE, EC_LOAD_DONE. -/
def Obligations.TimingSetCommands : Prop :=
  (∀ s : State, ∀ (c : Channel) (x : Set8) (w : Fin 6) (v : Word), s.compat 0 = false → s.committing x = false → 
    Completes (.tsetEntryWrite c x ⟨w.val + 1, by omega⟩ v) s (fun t => t.word (R.TSET_ENT_c_s_Wi c x w) = v ∧
      t.ts.dirtyEnt.contains (256 * c.val + x) = true ∧
      t.bit (R.TSET_DIRTY_MAP_w (x / 32)) (x % 32) = true ∧
      RegsBut [R.TSET_ENT_c_s_Wi c x w, R.TSET_DIRTY_MAP_w (x / 32)] s t ∧
      t = { s with regs := t.regs, ts := t.ts })) ∧
  (∀ s : State, ∀ (c : Channel) (x : Set8) (w : Fin 8) (v : Word), s.compat 0 = false → s.committing x = true → 
    exec (.tsetEntryWrite c x w v) s = .next ((s.bump R.TSET_WP_DROP).put F.TSET_EVENT_WP_DROP 1)) ∧
  (∀ s : State, ∀ (tag : Set8), s.get F.TSET_CMD_STATUS_BUSY = 0 → 
    Completes (.tsetNop tag) s (fun t => t.get F.TSET_CMD_STATUS_BUSY = 1 ∧
      t.get F.TSET_CMD_STATUS_OP = 0 ∧
      t.get F.TSET_CMD_STATUS_TAG = tag ∧
      RegsBut [R.TSET_CMD_STATUS] s t ∧
      t = { s with regs := t.regs, ts := t.ts })) ∧
  (∀ s : State, ∀ (tag : Set8), s.get F.TSET_CMD_STATUS_BUSY = 1 → 
    exec (.tsetNop tag) s = .next ((s.bump R.TSET_CMD_REFUSED).put F.TSET_EVENT_CMD_REFUSED 1)) ∧
  (∀ s : State, ∀ (tag : Set8) (x : Set8), s.get F.TSET_CMD_STATUS_BUSY = 0 → 
    Completes (.tsetCommit tag x) s (fun t => t.get F.TSET_CMD_STATUS_BUSY = 1 ∧
      t.get F.TSET_CMD_STATUS_OP = 1 ∧
      t.get F.TSET_CMD_STATUS_TAG = tag ∧
      RegsBut [R.TSET_CMD_STATUS] s t ∧
      t = { s with regs := t.regs, ts := t.ts })) ∧
  (∀ s : State, ∀ (tag : Set8) (x : Set8), s.get F.TSET_CMD_STATUS_BUSY = 1 → 
    exec (.tsetCommit tag x) s = .next ((s.bump R.TSET_CMD_REFUSED).put F.TSET_EVENT_CMD_REFUSED 1)) ∧
  (∀ s : State, s.get F.TSET_CMD_STATUS_BUSY = 1 → s.get F.TSET_CMD_STATUS_OP = 0 → 
    Completes (.tsetCmdDone) s (fun t => t.get F.TSET_CMD_STATUS_BUSY = 0 ∧
      t.get F.TSET_CMD_STATUS_RESULT = 0 ∧
      t.get F.TSET_EVENT_CMD_DONE = 1 ∧
      RegsBut [R.TSET_CMD_STATUS, R.TSET_EVENT] s t ∧
      t = { s with regs := t.regs })) ∧
  (∀ s : State, ∀ (code : Nat) (loc : Nat), s.get F.TSET_CMD_STATUS_BUSY = 1 → s.get F.TSET_CMD_STATUS_OP = 1 → tsetCheck s s.ts.cmdSet = some (code, loc) → 
    Completes (.tsetCmdDone) s (fun t => t.get F.TSET_CMD_STATUS_BUSY = 0 ∧
      t.get F.TSET_CMD_STATUS_RESULT = code % 256 ∧
      t.num R.TSET_ERR_LOC = loc % 2 ^ 32 ∧
      t.get F.TSET_EVENT_CMD_DONE = 1 ∧
      RegsBut [R.TSET_CMD_STATUS, R.TSET_EVENT, R.TSET_ERR_LOC] s t ∧
      t = { s with regs := t.regs })) ∧
  (∀ s : State, ∀ (x : Set8), s.get F.TSET_CMD_STATUS_BUSY = 1 → s.get F.TSET_CMD_STATUS_OP = 1 → s.ts.cmdSet = x.val → tsetCheck s x = none → 
    Completes (.tsetCmdDone) s (fun t => t.get F.TSET_CMD_STATUS_BUSY = 0 ∧
      t.get F.TSET_CMD_STATUS_RESULT = 0 ∧
      t.get (F.TSET_GEN_s_GEN x) = (s.get (F.TSET_GEN_s_GEN x) + 1) % 2 ^ 16 ∧
      t.bit (R.TSET_DIRTY_MAP_w (x / 32)) (x % 32) = false ∧
      (∀ e, e % 256 = x.val → t.ts.dirtyEnt.contains e = false ∧ t.ts.dirtyPer.contains e = false) ∧
      t = { s with regs := t.regs, ts := t.ts })) ∧
  (∀ s : State, ∀ (k : Cluster) (n : Nat) (x : Nat) (i : Nat) (rest : List (Nat × Nat)), n < 64 → x < 256 → s.loadsOf k = (n, x) :: rest → s.pickSlot k (s.portion k n) = some i → s.loadDirty k n x = false → 
    Completes (.ecLoadDone k) s (fun t => t.loadsOf k = rest ∧
      t.num (R.CLU_k_EC_LOADS k) = min satMax (s.num (R.CLU_k_EC_LOADS k) + 1) ∧
      t.get (F.CLU_k_EC_SLOT_i_VALID k i) = 1 ∧
      t.get (F.CLU_k_EC_SLOT_i_SET k i) = x ∧
      t.get (F.CLU_k_EC_SLOT_i_SITE k i) = n ∧
      t.get (F.CLU_k_EC_SLOT_i_DIRTY_COPY k i) = 0 ∧
      (t.slotOf k i).per = s.masterPer n x ∧
      t = { s with regs := t.regs, ts := t.ts }))

/-- R109, R110, R113, R119, R124 to R126, R240, R243, R322: LEVELS, CAPT_MARK, CAPT_ENABLE, CAPT_DISABLE, CAPT_TRIG, SIGNAL_SCHED, SIGNAL_DOORBELL, FLAG, XLMARK_START, XLMARK_STOP, XLMARK_MARK. -/
def Obligations.InstructionsThatOnlyPlay : Prop :=
  (∀ s : State, ∀ (n : Site) (p : Option Nat) (x : Path) (w : Nat), s.issues n p x w → isOp opLevels w = true → 
    Completes (.levels n p false) s (fun t => (t.path n p).map Path.core = some { (s.numbered n x).push (.eff (.levels (wf w 2 0))) with idx := x.idx + 1 } ∧
      (t.engOf (n % 16)).slice = (s.engOf (n % 16)).slice + cyclesOf w ∧
      SeqOnly n s t)) ∧
  (∀ s : State, ∀ (n : Site) (p : Option Nat) (x : Path) (w : Nat), s.issues n p x w → isCapt 0 w = true → 
    Completes (.captMark n p false) s (fun t => (t.path n p).map Path.core = some { (s.numbered n x).push (.eff (.captMark (wf w 15 8))) with idx := x.idx + 1 } ∧
      (t.engOf (n % 16)).slice = (s.engOf (n % 16)).slice + cyclesOf w ∧
      SeqOnly n s t)) ∧
  (∀ s : State, ∀ (n : Site) (p : Option Nat) (x : Path) (w : Nat), s.issues n p x w → isCapt 1 w = true → 
    Completes (.captEnable n p false) s (fun t => (t.path n p).map Path.core = some { (s.numbered n x).push (.eff (.captEnable)) with idx := x.idx + 1 } ∧
      (t.engOf (n % 16)).slice = (s.engOf (n % 16)).slice + cyclesOf w ∧
      SeqOnly n s t)) ∧
  (∀ s : State, ∀ (n : Site) (p : Option Nat) (x : Path) (w : Nat), s.issues n p x w → isCapt 2 w = true → 
    Completes (.captDisable n p false) s (fun t => (t.path n p).map Path.core = some { (s.numbered n x).push (.eff (.captDisable)) with idx := x.idx + 1 } ∧
      (t.engOf (n % 16)).slice = (s.engOf (n % 16)).slice + cyclesOf w ∧
      SeqOnly n s t)) ∧
  (∀ s : State, ∀ (n : Site) (p : Option Nat) (x : Path) (w : Nat), s.issues n p x w → isCapt 3 w = true → 
    Completes (.captTrig n p false) s (fun t => (t.path n p).map Path.core = some { (s.numbered n x).push (.eff (.captTrig)) with idx := x.idx + 1 } ∧
      (t.engOf (n % 16)).slice = (s.engOf (n % 16)).slice + cyclesOf w ∧
      SeqOnly n s t)) ∧
  (∀ s : State, ∀ (n : Site) (p : Option Nat) (x : Path) (w : Nat), s.issues n p x w → isSignal 0 w = true → 
    Completes (.signalSched n p false) s (fun t => (t.path n p).map Path.core = some { (s.numbered n x).push (.eff (.sigSched (wf w 37 32))) with idx := x.idx + 1 } ∧
      (t.engOf (n % 16)).slice = (s.engOf (n % 16)).slice + cyclesOf w ∧
      SeqOnly n s t)) ∧
  (∀ s : State, ∀ (n : Site) (p : Option Nat) (x : Path) (w : Nat), s.issues n p x w → isSignal 1 w = true → 
    Completes (.signalDoorbell n p false) s (fun t => (t.path n p).map Path.core = some { (s.numbered n x).push (.eff (.sigDoorbell (wf w 37 32))) with idx := x.idx + 1 } ∧
      (t.engOf (n % 16)).slice = (s.engOf (n % 16)).slice + cyclesOf w ∧
      SeqOnly n s t)) ∧
  (∀ s : State, ∀ (n : Site) (p : Option Nat) (x : Path) (w : Nat), s.issues n p x w → isOp opFlag w = true → 
    Completes (.flag n p false) s (fun t => (t.path n p).map Path.core = some { (s.numbered n x).push (.eff (.flagClr (Nat.land (wf w 8 0) 0x1F3))) with idx := x.idx + 1 } ∧
      (t.engOf (n % 16)).slice = (s.engOf (n % 16)).slice + cyclesOf w ∧
      SeqOnly n s t)) ∧
  (∀ s : State, ∀ (n : Site) (p : Option Nat) (x : Path) (w : Nat), s.issues n p x w → isXlmark 0 w = true → 
    Completes (.xlmarkStart n p false) s (fun t => (t.path n p).map Path.core = some { (s.numbered n x).push (.eff (.xlmark 0 (wf w 36 32) (wf w 15 0))) with idx := x.idx + 1 } ∧
      (t.engOf (n % 16)).slice = (s.engOf (n % 16)).slice + cyclesOf w ∧
      SeqOnly n s t)) ∧
  (∀ s : State, ∀ (n : Site) (p : Option Nat) (x : Path) (w : Nat), s.issues n p x w → isXlmark 1 w = true → 
    Completes (.xlmarkStop n p false) s (fun t => (t.path n p).map Path.core = some { (s.numbered n x).push (.eff (.xlmark 1 (wf w 36 32) (wf w 15 0))) with idx := x.idx + 1 } ∧
      (t.engOf (n % 16)).slice = (s.engOf (n % 16)).slice + cyclesOf w ∧
      SeqOnly n s t)) ∧
  (∀ s : State, ∀ (n : Site) (p : Option Nat) (x : Path) (w : Nat), s.issues n p x w → isXlmark 2 w = true → 
    Completes (.xlmarkMark n p false) s (fun t => (t.path n p).map Path.core = some { (s.numbered n x).push (.eff (.xlmark 2 (wf w 36 32) (wf w 15 0))) with idx := x.idx + 1 } ∧
      (t.engOf (n % 16)).slice = (s.engOf (n % 16)).slice + cyclesOf w ∧
      SeqOnly n s t))

/-- R110, R119 to R123, R132: VEC, RPT, KEEP, TSET, LOOP, ENDL on a path whose granules are not blocked by locked slots; VEC with a parity error of the control store. -/
def Obligations.InstructionsThatMoveTheCursor : Prop :=
  (∀ s : State, ∀ (n : Site) (p : Option Nat) (x : Path) (w : Nat) (g : Nat), s.issues n p x w → isOp opVec w = true → s.setBlocked n x.tset = false → 0 < g → g = (if wf w 31 0 = 0 then x.ent.len - x.cursor else wf w 31 0) → x.cursor + g ≤ x.ent.len → 
    Completes (.vec n p false) s (fun t => (t.path n p).map Path.core = some { ((s.numbered n x).push (.run x.strm x.cursor g x.ent)).grow g (s.pathPer n x) with cursor := x.cursor + g, idx := x.idx + 1 } ∧
      (t.engOf (n % 16)).slice = (s.engOf (n % 16)).slice + 4 ∧
      (t = { s with regs := t.regs, seq := t.seq, eng := t.eng, ts := t.ts } ∧ (∀ m, m ≠ n.val → t.seqOf m = s.seqOf m)))) ∧
  (∀ s : State, ∀ (n : Site) (p : Option Nat) (x : Path) (w : Nat), s.issues n p x w → isOp opVec w = true → 
    Completes (.vec n p true) s (fun t => t.path n p = some { ((s.numbered n x).pad (s.pathPer n x)).push (.eff (.fault hcIllegal false)) with stop := .done } ∧
      t.num R.SEQ_UCS_PARITY = min satMax (s.num R.SEQ_UCS_PARITY + 1) ∧
      t.get F.SEQ_EVENT_UCS_PARITY = 1 ∧
      t.mem = s.mem)) ∧
  (∀ s : State, ∀ (n : Site) (p : Option Nat) (x : Path) (w : Nat), s.issues n p x w → isOp opRpt w = true → s.setBlocked n x.tset = false → 0 < wf w 15 0 → x.cursor + wf w 15 0 ≤ x.ent.len → 
    Completes (.rpt n p false) s (fun t => (t.path n p).map Path.core = some { ((List.range (wf w 39 16)).foldl (fun y _ => y.push (.run x.strm x.cursor (wf w 15 0) x.ent)) (s.numbered n x)).grow (wf w 39 16 * wf w 15 0) (s.pathPer n x) with cursor := x.cursor + wf w 15 0, idx := x.idx + 1 } ∧
      (t.engOf (n % 16)).slice = (s.engOf (n % 16)).slice + 4 + wf w 39 16 ∧
      (t = { s with regs := t.regs, seq := t.seq, eng := t.eng, ts := t.ts } ∧ (∀ m, m ≠ n.val → t.seqOf m = s.seqOf m)))) ∧
  (∀ s : State, ∀ (n : Site) (p : Option Nat) (x : Path) (w : Nat), s.issues n p x w → isOp opKeep w = true → s.setBlocked n x.tset = false → 
    Completes (.keep n p false) s (fun t => (t.path n p).map Path.core = some { ((s.numbered n x).push (.hold (wf w 31 0) false)).grow (wf w 31 0) (s.pathPer n x) with idx := x.idx + 1 } ∧
      (t = { s with regs := t.regs, seq := t.seq, eng := t.eng, ts := t.ts } ∧ (∀ m, m ≠ n.val → t.seqOf m = s.seqOf m)))) ∧
  (∀ s : State, ∀ (n : Site) (p : Option Nat) (x : Path) (w : Nat), s.issues n p x w → isOp opTset w = true → 
    Completes (.tset n p false) s (fun t => (t.path n p).map Path.core = some { (s.numbered n x).push (.eff (.tset (wf w 7 0))) with idx := x.idx + 1, tset := wf w 7 0 } ∧
      SeqOnly n s t)) ∧
  (∀ s : State, ∀ (n : Site) (p : Option Nat) (x : Path) (w : Nat), s.issues n p x w → isOp opLoop w = true → p = none → x.loops.length < 8 → 
    Completes (.loop n p false) s (fun t => (t.path n p).map Path.core = some { ((s.numbered n x).pad (s.pathPer n x)).push (.eff .step) with loops := { count := wf w 31 0, drw := x.ent.id, idx := x.idx + 1, cursor := x.cursor, rewind := wf w 55 55 == 1 } :: x.loops, idx := x.idx + 1 } ∧
      SeqOnly n s t)) ∧
  (∀ s : State, ∀ (n : Site) (p : Option Nat) (x : Path) (w : Nat), s.issues n p x w → isOp opLoop w = true → p = none → 8 ≤ x.loops.length → 
    Completes (.loop n p false) s (fun t => t.path n p = some { (((s.numbered n x).pad (s.pathPer n x)).pad (s.pathPer n x)).push (.eff (.fault hcLoopNest false)) with stop := .done } ∧
      SeqOnly n s t)) ∧
  (∀ s : State, ∀ (n : Site) (p : Option Nat) (x : Path) (w : Nat) (top : LoopEnt) (rest : List LoopEnt), s.issues n p x w → isOp opEndl w = true → x.loops = top :: rest → top.count = 1 → 
    Completes (.endl n p false) s (fun t => (t.path n p).map Path.core = some { ((s.numbered n x).pad (s.pathPer n x)).push (.eff .step) with loops := rest, idx := x.idx + 1 } ∧
      SeqOnly n s t)) ∧
  (∀ s : State, ∀ (n : Site) (p : Option Nat) (x : Path) (w : Nat) (top : LoopEnt) (rest : List LoopEnt), s.issues n p x w → isOp opEndl w = true → x.loops = top :: rest → top.count ≠ 1 → top.drw = x.ent.id → 
    Completes (.endl n p false) s (fun t => (t.path n p).map Path.core = some { ((s.numbered n x).pad (s.pathPer n x)).push (.eff .step) with loops := { top with count := top.count - 1 } :: rest, idx := top.idx, cursor := (if top.rewind then top.cursor else x.cursor) } ∧
      SeqOnly n s t)) ∧
  (∀ s : State, ∀ (n : Site) (p : Option Nat) (x : Path) (w : Nat), s.issues n p x w → isOp opEndl w = true → x.loops = [] → p = none → 
    Completes (.endl n p false) s (fun t => (t.path n p).map Path.core = some { ((s.numbered n x).pad (s.pathPer n x)).push (.eff .endlEmpty) with idx := x.idx + 1 } ∧
      SeqOnly n s t))

/-- R120, R122, R128 to R132, R138: JMP, JMPC, CALL, RET on the fall-through path. -/
def Obligations.InstructionsThatChangeDrawers : Prop :=
  (∀ s : State, ∀ (n : Site) (x : Path) (w : Nat), s.issues n none x w → isOp opJmp w = true → s.committed (wf w 43 24) = true → wf w 43 24 ≠ 0 → s.ctxHolds n (wf w 43 24) = true → 
    Completes (.jmp n none false) s (fun t => t.path n none = some { ((s.numbered n x).pad (s.pathPer n x)).push (.eff .step) with stop := .dir (wf w 43 24) (wf w 23 0) } ∧
      SeqOnly n s t)) ∧
  (∀ s : State, ∀ (n : Site) (x : Path) (w : Nat), s.issues n none x w → isOp opJmp w = true → s.committed (wf w 43 24) = true → wf w 43 24 ≠ 0 → s.ctxHolds n (wf w 43 24) = false → s.ctxHeld n < 4 → 
    Completes (.jmp n none false) s (fun t => t.path n none = some { ((s.numbered n x).pad (s.pathPer n x)).push (.eff .step) with stop := .dir (wf w 43 24) (wf w 23 0) } ∧
      (t.seqOf n).sels = (s.seqOf n).sels ++ [⟨wf w 43 24, s.logMark⟩] ∧
      SeqOnly n s t)) ∧
  (∀ s : State, ∀ (n : Site) (x : Path) (w : Nat), s.issues n none x w → isOp opJmp w = true → s.committed (wf w 43 24) = false → 
    Completes (.jmp n none false) s (fun t => t.path n none = some { ((((s.numbered n x).pad (s.pathPer n x)).push (.eff .step)).pad (s.pathPer n x)).push (.eff (.fault hcMissing false)) with stop := .done } ∧
      SeqOnly n s t)) ∧
  (∀ s : State, ∀ (n : Site) (x : Path) (w : Nat), s.issues n none x w → isOp opCall w = true → s.committed (wf w 43 24) = true → wf w 43 24 ≠ 0 → s.ctxHolds n (wf w 43 24) = true → x.calls.length < 16 → 
    Completes (.call n none false) s (fun t => t.path n none = some { ((s.numbered n x).pad (s.pathPer n x)).push (.eff .step) with calls := { drw := x.ent.id, idx := x.idx + 1, cursor := x.cursor, depth := x.loops.length } :: x.calls, stop := .dir (wf w 43 24) (wf w 23 0) } ∧
      SeqOnly n s t)) ∧
  (∀ s : State, ∀ (n : Site) (x : Path) (w : Nat), s.issues n none x w → isOp opCall w = true → 16 ≤ x.calls.length → 
    Completes (.call n none false) s (fun t => t.path n none = some { (((s.numbered n x).pad (s.pathPer n x)).pad (s.pathPer n x)).push (.eff (.fault hcStackOver false)) with stop := .done } ∧
      SeqOnly n s t)) ∧
  (∀ s : State, ∀ (n : Site) (x : Path) (w : Nat) (e : CallEnt) (rest : List CallEnt), s.issues n none x w → isOp opRet w = true → x.calls = e :: rest → e.drw = x.ent.id → 
    Completes (.ret n none false) s (fun t => (t.path n none).map Path.core = some { ((s.numbered n x).pad (s.pathPer n x)).push (.eff .step) with calls := rest, loops := x.loops.drop (x.loops.length - e.depth), idx := e.idx, cursor := e.cursor } ∧
      SeqOnly n s t)) ∧
  (∀ s : State, ∀ (n : Site) (x : Path) (w : Nat), s.issues n none x w → isOp opRet w = true → x.calls = [] → 
    Completes (.ret n none false) s (fun t => t.path n none = some { ((s.numbered n x).pad (s.pathPer n x)).push (.eff (.fault hcStackUnder false)) with stop := .done } ∧
      SeqOnly n s t)) ∧
  (∀ s : State, ∀ (n : Site) (x : Path) (w : Nat), s.issues n none x w → isOp opJmpc w = true → 
    Completes (.jmpc n none false) s (fun t => (t.path n none).map (fun y => (y.items, y.idx, y.cursor, y.loops, y.calls)) = some ((((s.numbered n x).pad (s.pathPer n x)).push (.eff (.jmpc (wf w 51 48) (wf w 55 55 == 1) (wf w 43 24) (wf w 23 0) x.loops x.calls))).items, x.idx + 1, x.cursor, x.loops, x.calls) ∧
      (t.path n none).map (·.shadow) = some (some (max 1 (s.shadowTime n ((s.numbered n x).pad (s.pathPer n x)).lastTset (wf w 51 48) (s.onSpan n && (wf w 51 48 == 2 || wf w 51 48 == 3))).toNat)) ∧
      (t.seqOf n).pfs.any (fun q => q.key == .target (wf w 43 24) (wf w 23 0)) = true ∧
      t.mem = s.mem))

/-- R115 to R118, R127, R134 to R138: MATCHWAIT, WAITCORE, TRANSIT_SPAN, TRANSIT_DOMAIN, HALT, UNDEFINED_OPCODE. -/
def Obligations.InstructionsThatWait : Prop :=
  (∀ s : State, ∀ (n : Site) (x : Path) (w : Nat), s.issues n none x w → isOp opMatchwait w = true → s.committed (wf w 35 16) = true → wf w 35 16 ≠ 0 → s.ctxHolds n (wf w 35 16) = true → 
    Completes (.matchwait n none false) s (fun t => t.path n none = some { ((s.numbered n x).pad (s.pathPer n x)) with shadow := none, stop := .loopDir (wf w 35 16) } ∧
      SeqOnly n s t)) ∧
  (∀ s : State, ∀ (n : Site) (x : Path) (w : Nat), s.issues n none x w → isOp opWaitcore w = true → s.setBlocked n x.tset = false → 
    Completes (.waitcore n none false) s (fun t => (t.path n none).map (fun y => (y.items, y.idx, y.stop)) = some ((((s.numbered n x).pad (s.pathPer n x)).push (.eff (.waitCore (wf w 55 55 == 1) (wf w 54 52) (wf w 31 0) (wf w 47 32)))).items, x.idx, Stop.wait) ∧
      (t.seqOf n).pfs.any (fun q => q.key == .cont x.ent.id (x.idx + 1)) = true ∧
      (t.seqOf n).pfs.any (fun q => q.key == .cont x.ent.id (wf w 47 32)) = true ∧
      t.mem = s.mem)) ∧
  (∀ s : State, ∀ (n : Site) (x : Path) (w : Nat), s.issues n none x w → isTransit 0 w = true → s.setBlocked n x.tset = false → 
    Completes (.transitSpan n none false) s (fun t => t.path n none = some { ((s.numbered n x).pad (s.pathPer n x)).push (.eff (.transit 0 (wf w 31 0))) with idx := x.idx + 1, stop := .wait } ∧
      (t = { s with regs := t.regs, seq := t.seq, eng := t.eng, ts := t.ts } ∧ (∀ m, m ≠ n.val → t.seqOf m = s.seqOf m)))) ∧
  (∀ s : State, ∀ (n : Site) (x : Path) (w : Nat), s.issues n none x w → isTransit 1 w = true → s.setBlocked n x.tset = false → 
    Completes (.transitDomain n none false) s (fun t => t.path n none = some { ((s.numbered n x).pad (s.pathPer n x)).push (.eff (.transit 1 (wf w 31 0))) with idx := x.idx + 1, stop := .wait } ∧
      (t = { s with regs := t.regs, seq := t.seq, eng := t.eng, ts := t.ts } ∧ (∀ m, m ≠ n.val → t.seqOf m = s.seqOf m)))) ∧
  (∀ s : State, ∀ (n : Site) (x : Path) (w : Nat), s.issues n none x w → isOp opHalt w = true → 
    Completes (.halt n none false) s (fun t => t.path n none = some { ((s.numbered n x).pad (s.pathPer n x)).push (.eff (.halt (wf w 7 0))) with stop := .done } ∧
      SeqOnly n s t)) ∧
  (∀ s : State, ∀ (n : Site) (p : Option Nat) (x : Path) (v : IWord), s.path n p = some x → s.canRun n x = true → x.wordAt = some v → v.undef = true → 
    Completes (.undefinedOpcode n p) s (fun t => t.path n p = some { ((s.numbered n x).pad (s.pathPer n x)).push (.eff (.fault hcIllegal v.poison)) with stop := .done } ∧
      SeqOnly n s t)) ∧
  (∀ s : State, ∀ (n : Site) (p : Option Nat) (x : Path) (w : Nat), s.path n p = some x → s.canRun n x = true → x.wordAt = some { word := w } → isOp opKeep w = true → s.wordFault w = some hcReserved → 
    Completes (.keep n p false) s (fun t => t.path n p = some { ((s.numbered n x).pad (s.pathPer n x)).push (.eff (.fault hcReserved false)) with stop := .done } ∧
      SeqOnly n s t))

/-- R109, R112, R113, R122, R124, R139, R146, R494: ENGINE_CONTEXT_SWITCH, DIRECTORY_READ_DONE, ILIST_FETCH_DONE, RUNAHEAD_RESUME, CORE_FLAG_SET, CORE_FLAG_CLEAR, UCS_WORD_WRITE. -/
def Obligations.RunAheadServices : Prop :=
  (∀ s : State, ∀ (e : Core) (q : Nat), q = ((s.engOf e).cur + 1) % 4 → s.ctxActive (e + 16 * q) = true → s.ctxActive (e + 16 * (s.engOf e).cur) = false → (s.engOf e).cur < 4 → 
    exec (.engineContextSwitch e) s = .next (s.updEng e (fun g => { cur := q, slice := 0, cycles := g.cycles + 2 }))) ∧
  (∀ s : State, ∀ (n : Site) (p : Option Nat) (x : Path) (id : Nat) (g : Nat), s.path n p = some x → x.stop = .dir id g → (s.entry id).type ≠ 2 → s.memc.ceBursts = [] → s.memc.ueBursts = [] → 
    Completes (.directoryReadDone n p) s (fun t => (t.path n p).map Path.core = some (x.at (s.entry id) 0 g).core ∧
      t.mem = s.mem ∧
      (∀ m, m ≠ n.val → t.seqOf m = s.seqOf m))) ∧
  (∀ s : State, ∀ (n : Site) (p : Option Nat) (x : Path) (i : Nat) (k : Nat), s.path n p = some x → x.stop = .ilist → i + k ≤ x.ent.ilen → s.memc.ceBursts = [] → s.memc.ueBursts = [] → 
    Completes (.ilistFetchDone n p i k [] []) s (fun t => (t.path n p).map Path.core = some { x.core with ibuf := (List.range k).map (fun j => (i + j, { word := s.rdLe (x.ent.iaddr + 8 * i + 8 * j) 8 : IWord })) ++ x.ibuf } ∧
      t.mem = s.mem)) ∧
  (∀ s : State, ∀ (n : Site) (x : Path), s.path n none = some x → x.stop = .full → granCount x.items < s.fullAt n → (x.ibuf.lookup x.idx).isSome = true → 
    Completes (.runaheadResume n none) s (fun t => t.path n none = some x.core ∧
      SeqOnly n s t)) ∧
  (∀ s : State, ∀ (n : Site) (m : Fin 16), 
    Completes (.coreFlagSet n m) s (fun t => (∀ i : Fin 4, t.flag n (4 + i) = (s.flag n (4 + i) || m.val.testBit i)) ∧
      t.flag n 0 = s.flag n 0 ∧ t.flag n 1 = s.flag n 1 ∧ t.flag n 8 = s.flag n 8 ∧
      RegsBut [R.SEQ_CTX_n_FLAGS n] s t ∧
      t = { s with regs := t.regs })) ∧
  (∀ s : State, ∀ (n : Site) (m : Fin 16), 
    Completes (.coreFlagClear n m) s (fun t => (∀ i : Fin 4, t.flag n (4 + i) = (s.flag n (4 + i) && !m.val.testBit i)) ∧
      t.flag n 0 = s.flag n 0 ∧ t.flag n 1 = s.flag n 1 ∧ t.flag n 8 = s.flag n 8 ∧
      RegsBut [R.SEQ_CTX_n_FLAGS n] s t ∧
      t = { s with regs := t.regs })) ∧
  (∀ s : State, ∀ (v : Word), s.ready = false → 
    Completes (.ucsWordWrite v) s (fun t => Tab.get 0 t.ucs (s.get F.SEQ_UCS_ADDR_ADDR) = s.num (R.SEQ_UCS_DATAk 0) + 2 ^ 32 * s.num (R.SEQ_UCS_DATAk 1) + 2 ^ 64 * s.num (R.SEQ_UCS_DATAk 2) + 2 ^ 96 * v.toNat ∧
      t.get F.SEQ_UCS_ADDR_ADDR = (s.get F.SEQ_UCS_ADDR_ADDR + 1) % (2 ^ (F.SEQ_UCS_ADDR_ADDR.hi + 1)) ∧
      RegsBut [R.SEQ_UCS_ADDR, R.SEQ_UCS_DATAk 3] s t ∧
      t = { s with regs := t.regs, ucs := t.ucs }))

/-- R58, R78, R79, R83, R110, R151: FRAME_BOUNDARY and GRANULE_BOUNDARY, with a hold entry at the front of the play queue. -/
def Obligations.PlayBoundaries : Prop :=
  (∀ s : State, ∀ (n : Site) (i : Item) (is : List Item) (k : Nat), s.siteState n = 3 → (s.playOf n).on = true → (s.playOf n).decs = [] → (s.playOf n).wait = .none → (s.playOf n).taken = none → (s.seqOf n).thermal = false → (s.seqOf n).spanLost = false → (s.seqOf n).abort = false → (s.playOf n).rep = [] → (s.playOf n).inFrame = 16 → (s.seqOf n).main.items = i :: is → i.body = .hold k false → (s.strmOf n).nextReady = some true → 
    Completes (.frameBoundary n) s (fun t => (t.playOf n).nGran = (s.playOf n).nGran + 1 ∧
      (t.playOf n).inFrame = 1 ∧
      (t.playOf n).frames = (s.playOf n).frames + 1 ∧
      (t.playOf n).fmode = .normal ∧
      (t.playOf n).judging.length = (s.playOf n).judging.length + 1 ∧
      t.siteState n = 3 ∧
      t.num (R.STRM_SITE_n_FRAME n) = (if (s.playOf n).nGran = 0 then s.num (R.STRM_SITE_n_FRAME n) else min satMax (s.num (R.STRM_SITE_n_FRAME n) + 1)) ∧
      t.mem = s.mem ∧ t.now = s.now)) ∧
  (∀ s : State, ∀ (n : Site) (i : Item) (is : List Item) (k : Nat), s.siteState n = 3 → (s.playOf n).on = true → (s.playOf n).decs = [] → (s.playOf n).wait = .none → (s.playOf n).taken = none → (s.seqOf n).thermal = false → (s.seqOf n).spanLost = false → (s.seqOf n).abort = false → (s.playOf n).rep = [] → (s.playOf n).inFrame = 16 → (s.seqOf n).main.items = i :: is → i.body = .hold k false → (s.strmOf n).nextReady = some false → (s.strmOf n).policy = 0 → 
    Completes (.frameBoundary n) s (fun t => (t.playOf n).nGran = (s.playOf n).nGran + 1 ∧
      (t.playOf n).inFrame = 1 ∧
      (t.playOf n).fmode = .lost ∧
      t.num (R.STRM_SITE_n_STARVE_CNT n) = min satMax (s.num (R.STRM_SITE_n_STARVE_CNT n) + 1) ∧
      t.num R.STRM_STARVE_TOTAL = min satMax (s.num R.STRM_STARVE_TOTAL + 1) ∧
      t.get F.STRM_EVENT_STARVE = 1 ∧
      t.bit (R.FAIL_SITE_n_RESULT n) 16 = true ∧
      t.bit (R.FAIL_SITE_n_RESULT n) 31 = false ∧
      t.mem = s.mem ∧ t.now = s.now)) ∧
  (∀ s : State, ∀ (n : Site) (i : Item) (is : List Item) (k : Nat), s.siteState n = 3 → (s.playOf n).on = true → (s.playOf n).decs = [] → (s.playOf n).wait = .none → (s.playOf n).taken = none → (s.seqOf n).thermal = false → (s.seqOf n).spanLost = false → (s.seqOf n).abort = false → (s.playOf n).rep = [] → (s.playOf n).inFrame = 16 → (s.seqOf n).main.items = i :: is → i.body = .hold k false → (s.strmOf n).nextReady = some false → (s.strmOf n).policy = 1 → 
    Completes (.frameBoundary n) s (fun t => (t.playOf n).nGran = (s.playOf n).nGran + 1 ∧
      (t.playOf n).fmode = .pause ∧
      (t.playOf n).rep.length = 15 ∧
      (t.playOf n).frames = (s.playOf n).frames ∧
      t.num (R.STRM_SITE_n_SLIP_CNT n) = min satMax (s.num (R.STRM_SITE_n_SLIP_CNT n) + 1) ∧
      t.num (R.STRM_SITE_n_STARVE_CNT n) = s.num (R.STRM_SITE_n_STARVE_CNT n) ∧
      t.mem = s.mem ∧ t.now = s.now)) ∧
  (∀ s : State, ∀ (n : Site) (i : Item) (is : List Item) (k : Nat), s.siteState n = 3 → (s.playOf n).on = true → (s.playOf n).decs = [] → (s.playOf n).wait = .none → (s.playOf n).taken = none → (s.seqOf n).thermal = false → (s.seqOf n).spanLost = false → (s.seqOf n).abort = false → (s.playOf n).rep = [] → (s.playOf n).inFrame < 16 → (s.seqOf n).main.items = i :: is → i.body = .hold k false → 
    Completes (.granuleBoundary n) s (fun t => (t.playOf n).nGran = (s.playOf n).nGran + 1 ∧
      (t.playOf n).inFrame = (s.playOf n).inFrame + 1 ∧
      (t.playOf n).frames = (s.playOf n).frames ∧
      (t.playOf n).gStart = (s.playOf n).gStart + 32 * s.sitePer n (s.playOf n).tset ∧
      (t.seqOf n).main.items = (if k ≤ 1 then is else { i with body := .hold (k - 1) false } :: is) ∧
      (t.playOf n).instr = i.tag ∧
      t.mem = s.mem ∧ t.now = s.now)) ∧
  (∀ s : State, ∀ (n : Site) (g : Gran) (rest : List Gran), s.siteState n = 3 → (s.playOf n).on = true → (s.playOf n).decs = [] → (s.playOf n).wait = .none → (s.playOf n).taken = none → (s.seqOf n).thermal = false → (s.seqOf n).spanLost = false → (s.seqOf n).abort = false → (s.playOf n).rep = g :: rest → 
    Completes (.granuleBoundary n) s (fun t => (t.playOf n).nGran = (s.playOf n).nGran + 1 ∧
      (t.playOf n).rep = rest ∧
      (t.playOf n).inFrame = (s.playOf n).inFrame ∧
      (t.seqOf n).main.items = (s.seqOf n).main.items ∧
      t.mem = s.mem ∧ t.now = s.now))

/-- R127, R143, R144, R228: GRANULE_BOUNDARY with HALT at the front, SEQ_ABORT. -/
def Obligations.HaltsAndAborts : Prop :=
  (∀ s : State, ∀ (n : Site) (i : Item) (is : List Item) (code : Fin 256), s.siteState n = 3 → (s.playOf n).on = true → (s.playOf n).decs = [] → (s.playOf n).wait = .none → (s.playOf n).taken = none → (s.seqOf n).thermal = false → (s.seqOf n).spanLost = false → (s.seqOf n).abort = false → (s.playOf n).rep = [] → (s.playOf n).inFrame < 16 → (s.seqOf n).main.items = i :: is → i.body = .eff (.halt code) → i.drw < 2 ^ 20 → i.idx < 2 ^ 16 → 
    Completes (.granuleBoundary n) s (fun t => t.siteState n = 5 ∧
      (t.seqOf n).halted = true ∧
      t.get (F.SEQ_CTX_n_EVENT_HALT n) = 1 ∧
      t.bit (R.FAIL_SITE_n_RESULT n) 28 = true ∧
      (t.playOf n).on = false ∧
      t.get (F.SEQ_CTX_n_STATE_HALT_CODE n) = code ∧
      t.num (R.SEQ_CTX_n_HALT_DRW n) = i.drw ∧
      t.num (R.SEQ_CTX_n_HALT_IDX n) = i.idx)) ∧
  (∀ s : State, ∀ (n : Site), s.siteState n = 3 → 
    exec (.seqAbort n) s = .next (s.updSeq n (fun c => { c with abort := true }))) ∧
  (∀ s : State, ∀ (n : Site), (s.siteState n = 1 ∨ s.siteState n = 2 ∨ s.siteState n = 4) → 
    Completes (.seqAbort n) s (fun t => t.siteState n = 5 ∧
      (t.seqOf n).halted = true ∧
      t.get (F.SEQ_CTX_n_EVENT_HALT n) = 1 ∧
      t.bit (R.FAIL_SITE_n_RESULT n) 28 = true ∧
      (t.playOf n).on = false ∧
      t.get (F.SEQ_CTX_n_STATE_HALT_CODE n) = 0x17))

/-- R128, R131, R134, R136, R140: BRANCH_DECISION, MATCHWAIT_TIMEOUT, WAITCORE_TIMEOUT. -/
def Obligations.DecisionsAndWaits : Prop :=
  (∀ s : State, ∀ (n : Site) (d : Decision) (rest : List Decision) (v : Bool), (s.playOf n).decs = d :: rest → d.wait = false → s.decValue n d = some v → v = d.neg → 
    Completes (.branchDecision n) s (fun t => (t.playOf n).decs = rest ∧
      (t.playOf n).taken = (s.playOf n).taken ∧
      t.num (R.SEQ_CTX_n_TAKEN n) = s.num (R.SEQ_CTX_n_TAKEN n) ∧
      t.siteState n = s.siteState n ∧
      t.mem = s.mem ∧ t.now = s.now)) ∧
  (∀ s : State, ∀ (n : Site) (d : Decision) (rest : List Decision) (v : Bool), (s.playOf n).decs = d :: rest → d.wait = false → s.decValue n d = some v → v ≠ d.neg → 
    Completes (.branchDecision n) s (fun t => (t.playOf n).decs = [] ∧
      t.num (R.SEQ_CTX_n_TAKEN n) = min satMax (s.num (R.SEQ_CTX_n_TAKEN n) + 1) ∧
      t.siteState n = s.siteState n ∧
      t.mem = s.mem ∧ t.now = s.now)) ∧
  (∀ s : State, ∀ (n : Site) (d : Decision) (rest : List Decision) (sp : Bool) (co : Bool) (ps : Nat) (pa : Nat) (g : Nat) (drw : Nat) (len : Nat) (ba : Nat) (ma : Nat) (ix : Nat) (ti : Nat), (s.playOf n).decs = d :: rest → d.wait = true → d.last = true → s.decValue n d = some false → (s.playOf n).wait = .mat sp ps pa g drw len ba ma co ix ti none → 
    Completes (.matchwaitTimeout n) s (fun t => t.get (F.SEQ_CTX_n_EVENT_TIMEOUT n) = 1 ∧
      (t.playOf n).wait = .mat sp ps pa g drw len ba ma co ix ti (some d.left) ∧
      (t.playOf n).decs = [] ∧
      t.num (R.SEQ_CTX_n_TAKEN n) = s.num (R.SEQ_CTX_n_TAKEN n) ∧
      t.mem = s.mem ∧ t.now = s.now)) ∧
  (∀ s : State, ∀ (n : Site) (cl : Bool) (sel : Nat) (tm : Nat) (t0 : Nat) (ix : Nat) (ti : Nat) (cn : Nat) (left : Nat), s.siteState n = 3 → (s.siteOf n).role ≠ 2 → (s.playOf n).wait = .core cl sel tm t0 ix ti cn none → s.flag n (4 + sel) = false → s.coreTimeout n = some left → 
    Completes (.waitcoreTimeout n) s (fun t => t.get (F.SEQ_CTX_n_EVENT_TIMEOUT n) = 1 ∧
      (t.playOf n).wait = .core cl sel tm t0 ix ti cn (some left) ∧
      t.num (R.SEQ_CTX_n_TAKEN n) = s.num (R.SEQ_CTX_n_TAKEN n) ∧
      t.mem = s.mem ∧ t.now = s.now))

/-- R182, R183, R185, R186, R188, R191, R195, R196: BANK_VNOM_WRITE, BANK_OUT_OF_WINDOW, BANK_IN_WINDOW, LEVEL_WRITE, SETTLE_END, OCP_DETECT. -/
def Obligations.BanksAndLevels : Prop :=
  (∀ s : State, ∀ (k : Cluster) (v : Word), s.cluArmed k = false → 600 ≤ v.toNat % 4096 → v.toNat % 4096 ≤ 1800 → 
    Completes (.bankVnomWrite k v) s (fun t => t.get (F.CLU_k_BANK_CFG_VNOM k) = v.toNat % 4096 ∧
      RegsBut [R.CLU_k_BANK_CFG k, R.CLU_k_BANK_STATUS k] s t ∧
      t = { s with regs := t.regs })) ∧
  (∀ s : State, ∀ (k : Cluster) (v : Word), s.cluArmed k = true → 
    exec (.bankVnomWrite k v) s = .next ((s.bump (R.CLU_k_WR_DROP k)).put (F.CLU_k_EVENT_WR_DROP k) 1)) ∧
  (∀ s : State, ∀ (k : Cluster) (mv : Fin 4096), s.get (F.CLU_k_BANK_STATUS_IN_WINDOW k) = 1 → bankIn (s.get (F.CLU_k_BANK_CFG_VNOM k)) mv = false → 
    Completes (.bankOutOfWindow k mv) s (fun t => t.get (F.CLU_k_BANK_STATUS_IN_WINDOW k) = 0 ∧
      t.get (F.CLU_k_EVENT_BANK_FAULT k) = 1 ∧
      t.num (R.CLU_k_BANK_FAULT_CNT k) = min satMax (s.num (R.CLU_k_BANK_FAULT_CNT k) + 1) ∧
      t.get (F.CLU_k_BANK_STATUS_VMEAS k) = mv ∧
      (∀ n : Site, s.siteClu n k = true → t.bit (R.FAIL_SITE_n_RESULT n) 21 = true ∧ t.bit (R.FAIL_SITE_n_RESULT n) 31 = false) ∧
      t = { s with regs := t.regs })) ∧
  (∀ s : State, ∀ (k : Cluster) (mv : Fin 4096), s.get (F.CLU_k_BANK_STATUS_IN_WINDOW k) = 0 → s.get (F.CLU_k_BANK_CFG_VNOM k) ≠ 0 → bankIn (s.get (F.CLU_k_BANK_CFG_VNOM k)) mv = true → 
    Completes (.bankInWindow k mv) s (fun t => t.get (F.CLU_k_BANK_STATUS_IN_WINDOW k) = 1 ∧
      (∀ j : Chan16, (t.chanOf (16 * k + j)).settling s.nowQ = true) ∧
      RegsBut [R.CLU_k_BANK_STATUS k] s t ∧
      t = { s with regs := t.regs, chan := t.chan })) ∧
  (∀ s : State, ∀ (k : Cluster) (j : Chan16) (x : Fin 8) (w : Fin 5) (v : Word), (s.chanOf (16 * k + j)).ls ≠ x.val → v.toNat % 2 ^ 16 ≤ 65000 → 
    Completes (.levelWrite k j x w v) s (fun t => t.num (lsOff (16 * k + j) x w) % 2 ^ 16 = v.toNat % 2 ^ 16 ∧
      RegsBut [lsOff (16 * k + j) x w] s t ∧
      t = { s with regs := t.regs })) ∧
  (∀ s : State, ∀ (k : Cluster) (j : Chan16) (x : Fin 8) (w : Fin 5) (v : Word), (s.chanOf (16 * k + j)).ls = x.val → v.toNat % 2 ^ 16 ≤ 65000 → s.vclamp k < v.toNat % 2 ^ 16 → 
    Completes (.levelWrite k j x w v) s (fun t => t.num (lsOff (16 * k + j) x w) % 2 ^ 16 = v.toNat % 2 ^ 16 ∧
      t.num (R.CLU_k_CLAMP_CNT k) = min satMax (s.num (R.CLU_k_CLAMP_CNT k) + 1) ∧
      t.get (F.CLU_k_EVENT_CLAMP k) = 1 ∧
      t.get (F.CLU_k_CH_j_STATUS_CLAMPED k j) = 1 ∧
      (t.chanOf (16 * k + j)).settling s.nowQ = true ∧
      t = { s with regs := t.regs, chan := t.chan })) ∧
  (∀ s : State, ∀ (c : Channel) (w : Nat × Nat), (s.chanOf c).settle = some w → 
    Completes (.settleEnd c) s (fun t => (t.chanOf c).settle = none ∧
      (t.chanOf c).settled = (s.chanOf c).settled ++ [w] ∧
      (∀ d : Channel, d ≠ c → t.chanOf d = s.chanOf d) ∧
      t = { s with chan := t.chan })) ∧
  (∀ s : State, ∀ (c : Channel), 
    Completes (.ocpDetect c) s (fun t => t.get (F.CLU_k_CH_j_STATUS_OCP (c / 16) (c % 16)) = 1 ∧
      t.get (F.CLU_k_EVENT_OCP (c / 16)) = 1 ∧
      RegsBut [R.CLU_k_CH_j_STATUS (c / 16) (c % 16), R.CLU_k_EVENT (c / 16)] s t ∧
      t = { s with regs := t.regs }))

/-- R199 to R206: PPMU_CTRL_WRITE, PPMU_FORCE_WRITE, PPMU_VCLAMP_WRITE, PPMU_LIMIT, MC_SLICE_END. -/
def Obligations.ParametricUnits : Prop :=
  (∀ s : State, ∀ (k : Cluster) (j : Chan16) (v : Word), s.chanSite (16 * k + j) = none → v.toNat % 4 ≠ 3 → (v.toNat % 4 = 1 → forceBad (s.get (F.CLU_k_PP_j_FORCE_VALUE k j)) = false) → 
    Completes (.ppmuCtrlWrite k j v) s (fun t => t.get (F.CLU_k_PP_j_CTRL_MODE k j) = v.toNat % 4 ∧
      t.get (F.CLU_k_PP_j_CTRL_RANGE k j) = v.toNat / 4 % 4 ∧
      RegsBut [R.CLU_k_PP_j_CTRL k j] s t ∧
      t = { s with regs := t.regs })) ∧
  (∀ s : State, ∀ (k : Cluster) (j : Chan16) (v : Word), (s.chanSite (16 * k + j)).isSome = true → (v.toNat % 4 = 1 ∨ v.toNat % 4 = 2) → 
    exec (.ppmuCtrlWrite k j v) s = .next ((s.bump (R.CLU_k_WR_DROP k)).put (F.CLU_k_EVENT_WR_DROP k) 1)) ∧
  (∀ s : State, ∀ (k : Cluster) (j : Chan16) (v : Word), (s.get (F.CLU_k_PP_j_CTRL_MODE k j) = 1 → forceBad (v.toNat % 2 ^ 18) = false) → 
    Completes (.ppmuForceWrite k j v) s (fun t => t.get (F.CLU_k_PP_j_FORCE_VALUE k j) = v.toNat % 2 ^ 18 ∧
      RegsBut [R.CLU_k_PP_j_FORCE k j] s t ∧
      t = { s with regs := t.regs })) ∧
  (∀ s : State, ∀ (k : Cluster) (j : Chan16) (v : Word), v.toNat / 2 ^ 16 ≤ 65000 → v.toNat % 2 ^ 16 ≤ v.toNat / 2 ^ 16 → 
    Completes (.ppmuVclampWrite k j v) s (fun t => t.get (F.CLU_k_PP_j_VCLAMP_HI k j) = v.toNat / 2 ^ 16 ∧
      t.get (F.CLU_k_PP_j_VCLAMP_LO k j) = v.toNat % 2 ^ 16 ∧
      RegsBut [R.CLU_k_PP_j_VCLAMP k j] s t ∧
      t = { s with regs := t.regs })) ∧
  (∀ s : State, ∀ (k : Cluster) (j : Chan16) (v : Word), v.toNat / 2 ^ 16 ≤ 65000 → v.toNat % 2 ^ 16 ≤ 65000 → v.toNat / 2 ^ 16 < v.toNat % 2 ^ 16 → 
    exec (.ppmuVclampWrite k j v) s = .next (s.bump R.GLB_ERR_ENUM)) ∧
  (∀ s : State, ∀ (k : Cluster) (j : Chan16), s.ppMode (16 * k + j) ≠ 0 → s.get (F.CLU_k_MC_STATUS_CUR_CH k) = j → 
    Completes (.ppmuLimit k j) s (fun t => t.get (F.CLU_k_EVENT_PPMU_CLAMP k) = 1 ∧
      (Tab.get {} t.mc k).clampSeen = true ∧
      RegsBut [R.CLU_k_EVENT k] s t ∧
      t = { s with regs := t.regs, mc := t.mc })) ∧
  (∀ s : State, ∀ (k : Cluster) (conv : List Int) (j : Nat), s.get (F.CLU_k_MC_STATUS_RUNNING k) = 1 → conv.length = 2 ^ s.get (F.CLU_k_MC_TIMING_AVG k) → s.get (F.CLU_k_MC_STATUS_CUR_CH k) = j → s.calHolds k = false → 
    Completes (.mcSliceEnd k conv) s (fun t => t.get (F.CLU_k_PP_j_RESULT_CODE k j) = toBits 18 (meanCode conv) ∧
      t.get (F.CLU_k_PP_j_RESULT_CLAMP k j) = b2n (Tab.get {} s.mc k).clampSeen ∧
      t.get (F.CLU_k_PP_j_RESULT_SEQ k j) = (s.get (F.CLU_k_PP_j_RESULT_SEQ k j) + 1) % 2 ^ ((F.CLU_k_PP_j_RESULT_SEQ k j).hi + 1 - (F.CLU_k_PP_j_RESULT_SEQ k j).lo) ∧
      (Tab.get {} t.mc k).clampSeen = false ∧
      RegsBut [R.CLU_k_PP_j_RESULT k j, R.CLU_k_MC_STATUS k] s t ∧
      t = { s with regs := t.regs, mc := t.mc }))

/-- R221 to R227: VECTOR_RESULT, FAIL_RECORD_WRITE. The compares that count and what they detect are those of R216, R217 and R220 (State.verdicts). -/
def Obligations.VectorVerdicts : Prop :=
  (∀ s : State, ∀ (n : Site) (obs : List Obs) (g : Gran) (rest : List Gran), (s.playOf n).judging = g :: rest → (s.captOf n).evValid = false → (s.verdicts n g obs).all Option.isSome = true → (s.verdicts n g obs).any (fun a => a.any (fun b => b.failed)) = true → g.comp = false → (s.playOf n).failFrom ≤ g.vnum + (s.playOf n).judged → 
    Completes (.vectorResult n obs) s (fun t => t.bit (R.FAIL_SITE_n_RESULT n) 29 = true ∧
      t.bit (R.FAIL_SITE_n_RESULT n) 30 = false ∧
      t.num (R.FAIL_SITE_n_FVEC_CNT n) = min satMax (s.num (R.FAIL_SITE_n_FVEC_CNT n) + 1) ∧
      t.flag n 0 = true ∧
      (t.playOf n).judged = (if (s.playOf n).judged = 31 then 0 else (s.playOf n).judged + 1) ∧
      (t.captOf n).evValid = true ∧
      (t.captOf n).evFail = true ∧
      (t.captOf n).evVec = g.vnum + (s.playOf n).judged ∧
      t.mem = s.mem)) ∧
  (∀ s : State, ∀ (n : Site) (obs : List Obs) (g : Gran) (rest : List Gran), (s.playOf n).judging = g :: rest → (s.captOf n).evValid = false → (s.verdicts n g obs).all Option.isSome = true → (s.verdicts n g obs).any (fun a => a.any (fun b => b.failed)) = false → (s.verdicts n g obs) ≠ [] → g.comp = false → (s.captOf n).matchMode = 0 → (s.playOf n).matchFrom ≤ g.vnum + (s.playOf n).judged → 
    Completes (.vectorResult n obs) s (fun t => t.bit (R.FAIL_SITE_n_RESULT n) 29 = s.bit (R.FAIL_SITE_n_RESULT n) 29 ∧
      t.num (R.FAIL_SITE_n_FVEC_CNT n) = s.num (R.FAIL_SITE_n_FVEC_CNT n) ∧
      t.flag n 0 = s.flag n 0 ∧
      t.flag n 1 = true ∧
      (t.playOf n).judged = (if (s.playOf n).judged = 31 then 0 else (s.playOf n).judged + 1) ∧
      (t.captOf n).evValid = true ∧
      (t.captOf n).evFail = false ∧
      (t.captOf n).failQ = (s.captOf n).failQ ∧
      t.mem = s.mem)) ∧
  (∀ s : State, ∀ (n : Site) (r : List Byte) (rest : List (List Byte)), (s.captOf n).failQ = r :: rest → 
    Completes (.failRecordWrite n) s (fun t => t.rdBytes ((s.captOf n).addr + s.num (R.FAIL_SITE_n_REC_CNT n) * s.failSize) r.length = r ∧
      MemBut ((s.captOf n).addr + s.num (R.FAIL_SITE_n_REC_CNT n) * s.failSize) r.length s t ∧
      (t.captOf n).failQ = rest ∧
      t.num (R.FAIL_SITE_n_REC_CNT n) = (s.num (R.FAIL_SITE_n_REC_CNT n) + 1) % 2 ^ 32 ∧
      t = { s with regs := t.regs, mem := t.mem, capt := t.capt }))

/-- R234 to R238: TRIGGER_EVALUATE, TRIGGER_TIMER_EXPIRE, TRIGGER_COUNTER_DONE, HOLDOFF_END. -/
def Obligations.TriggerSequencer : Prop :=
  (∀ s : State, ∀ (n : Site), (s.captOf n).evValid = true → (s.captOf n).evPhase = 2 → (s.captOf n).event (fldOf (F.CAPT_SITE_n_TRIG_ST_s_TRANS_EV_A n (s.get (F.CAPT_SITE_n_STATUS_TSTATE n))) ((s.captOf n).trans.getD (s.get (F.CAPT_SITE_n_STATUS_TSTATE n)) 0)) = true → 
    Completes (.triggerEvaluate n) s (fun t => t.get (F.CAPT_SITE_n_STATUS_TSTATE n) = fldOf (F.CAPT_SITE_n_TRIG_ST_s_TRANS_NEXT_A n (s.get (F.CAPT_SITE_n_STATUS_TSTATE n))) ((s.captOf n).trans.getD (s.get (F.CAPT_SITE_n_STATUS_TSTATE n)) 0) ∧
      (t.captOf n).evValid = false ∧
      (t.captOf n).holdFrom = none ∧ (t.captOf n).holdCnt = 0 ∧
      t.mem = s.mem ∧
      t.playOf n = s.playOf n)) ∧
  (∀ s : State, ∀ (n : Site), (s.captOf n).evValid = true → (s.captOf n).evPhase = 3 → 
    Completes (.triggerEvaluate n) s (fun t => t.get (F.CAPT_SITE_n_STATUS_TSTATE n) = (s.get (F.CAPT_SITE_n_STATUS_TSTATE n)) ∧
      (t.captOf n).evValid = false ∧
      t.mem = s.mem)) ∧
  (∀ s : State, ∀ (n : Site) (k : Fin 4), (s.captOf n).evValid = true → (s.captOf n).evPhase = 0 → (s.captOf n).tmrExpires k = true → (s.captOf n).tmrHit.length = 4 → (s.captOf n).tmrDue.length = 4 → 
    Completes (.triggerTimerExpire n k) s (fun t => (t.captOf n).tmrDue.getD k none = none ∧
      (t.captOf n).tmrHit.getD k false = true ∧
      t.bit (R.CAPT_SITE_n_STATUS n) (12 + k) = false ∧
      RegsBut [R.CAPT_SITE_n_STATUS n] s t ∧
      t = { s with regs := t.regs, capt := t.capt })) ∧
  (∀ s : State, ∀ (n : Site) (k : Fin 4), (s.captOf n).evValid = true → (s.captOf n).evPhase = 0 → ((s.evalStep2 n).captOf n).cntDone.getD k false = true → (s.captOf n).cntDone.length = 4 → (s.captOf n).cntLimit.getD k 0 < 2 ^ 32 → 
    Completes (.triggerCounterDone n k) s (fun t => t.num (R.CAPT_SITE_n_CNT_k n k) = (s.captOf n).cntLimit.getD k 0 ∧
      s.num (R.CAPT_SITE_n_CNT_k n k) + 1 = (s.captOf n).cntLimit.getD k 0 ∧
      (t.captOf n).evPhase = 1 ∧
      t.mem = s.mem)) ∧
  (∀ s : State, ∀ (n : Site) (f : Nat), (s.captOf n).evValid = true → (s.captOf n).evPhase = 1 → fldOf (F.CAPT_SITE_n_TRIG_ST_s_HOLD_MODE n (s.get (F.CAPT_SITE_n_STATUS_TSTATE n))) ((s.captOf n).holds.getD (s.get (F.CAPT_SITE_n_STATUS_TSTATE n)) 0) = 1 → fldOf (F.CAPT_SITE_n_TRIG_ST_s_HOLD_COUNT n (s.get (F.CAPT_SITE_n_STATUS_TSTATE n))) ((s.captOf n).holds.getD (s.get (F.CAPT_SITE_n_STATUS_TSTATE n)) 0) ≠ 0 → (s.captOf n).holdFrom = some f → f + 32000 * fldOf (F.CAPT_SITE_n_TRIG_ST_s_HOLD_COUNT n (s.get (F.CAPT_SITE_n_STATUS_TSTATE n))) ((s.captOf n).holds.getD (s.get (F.CAPT_SITE_n_STATUS_TSTATE n)) 0) ≤ (s.captOf n).evPos → (s.captOf n).holdOver = false → 
    Completes (.holdoffEnd n) s (fun t => (t.captOf n).holdOver = true ∧
      (t.captOf n).evPhase = 2 ∧
      t = { s with capt := t.capt }))

/-- R230, R244, R245: CAPT_RECORD_WRITE, SPILL_BLOCK_COPY, SPILL_FLUSH, SITE_DONE. The bytes stored are at captAddr and in the spill region. -/
def Obligations.CaptureRecords : Prop :=
  (∀ s : State, ∀ (n : Site) (r : List Byte) (rest : List (List Byte)), (s.captOf n).captQ = r :: rest → 
    Completes (.captRecordWrite n) s (fun t => t.rdBytes (s.captAddr (s.captOf n) (s.captOf n).bytes) r.length = r ∧
      MemBut (s.captAddr (s.captOf n) (s.captOf n).bytes) r.length s t ∧
      (t.captOf n).captQ = rest ∧
      (t.captOf n).bytes = (s.captOf n).bytes + 32 ∧
      t.num (R.CAPT_SITE_n_REC_CNT n) = min satMax (s.num (R.CAPT_SITE_n_REC_CNT n) + 1) ∧
      t = { s with regs := t.regs, mem := t.mem, capt := t.capt })) ∧
  (∀ s : State, ∀ (n : Site), (s.captOf n).mode = 2 → (s.captOf n).copied + 4096 ≤ (s.captOf n).bytes → 
    Completes (.spillBlockCopy n) s (fun t => t.rdBytes ((s.captOf n).spillBase + (s.captOf n).copied) 4096 = s.rdBytes (s.captAddr (s.captOf n) (s.captOf n).copied) 4096 ∧
      MemBut ((s.captOf n).spillBase + (s.captOf n).copied) 4096 s t ∧
      (t.captOf n).copied = (s.captOf n).copied + 4096 ∧
      t.num (R.CAPT_SITE_n_SPILL_OFF n) = min satMax (s.num (R.CAPT_SITE_n_SPILL_OFF n) + 4096) ∧
      t = { s with regs := t.regs, mem := t.mem, capt := t.capt })) ∧
  (∀ s : State, ∀ (n : Site), (s.captOf n).mode = 2 → s.siteState n = 5 → s.allJudged n = true → (s.captOf n).captQ = [] → s.get (F.CAPT_SITE_n_STATUS_FLUSHED n) = 0 → (s.captOf n).bytes = (s.captOf n).copied → 
    exec (.spillFlush n) s = .next (s.put (F.CAPT_SITE_n_STATUS_FLUSHED n) 1)) ∧
  (∀ s : State, ∀ (n : Site), (s.captOf n).mode = 2 → s.siteState n = 5 → s.allJudged n = true → (s.captOf n).captQ = [] → s.get (F.CAPT_SITE_n_STATUS_FLUSHED n) = 0 → (s.captOf n).copied < (s.captOf n).bytes → (s.captOf n).bytes < (s.captOf n).copied + 4096 → 
    Completes (.spillFlush n) s (fun t => t.get (F.CAPT_SITE_n_STATUS_FLUSHED n) = 1 ∧
      (t.captOf n).copied = (s.captOf n).copied + 4096 ∧
      (t.captOf n).bytes = (s.captOf n).copied + 4096 ∧
      t = { s with regs := t.regs, mem := t.mem, capt := t.capt })) ∧
  (∀ s : State, ∀ (n : Site), s.siteState n = 5 → s.allJudged n = true → (s.captOf n).failQ = [] → (s.captOf n).captQ = [] → (s.captOf n).stopped = false → ((s.captOf n).mode ≠ 2 ∨ s.get (F.CAPT_SITE_n_STATUS_FLUSHED n) = 1) → 
    Completes (.siteDone n) s (fun t => t.bit (if n.val < 32 then R.FAIL_DONE_LO else R.FAIL_DONE_HI) (n % 32) = true ∧
      t.get F.FAIL_EVENT_DONE = 1 ∧
      RegsBut [R.FAIL_DONE_LO, R.FAIL_DONE_HI, R.FAIL_EVENT] s t ∧
      t = { s with regs := t.regs, capt := t.capt }))

/-- R249, R256 to R263: TDC_ARM, TDC_ABORT, TDC_START_EDGE, TDC_STOP_EDGE, TDC_WINDOW_CLOSE, TDC_HIST_REARM. -/
def Obligations.IntervalMeasurement : Prop :=
  (∀ s : State, ∀ (k : Cluster) (u : Fin 4), s.get (F.CLU_k_TDC_u_STATUS_STATE k u) ≠ 1 → s.get (F.CLU_k_TDC_u_STATUS_STATE k u) ≠ 2 → s.get (F.CAL_CL_k_STATE_ACTIVE k) ≠ 1 → s.get (F.CLU_k_TDC_u_OPEN_NS k u) ≤ s.get (F.CLU_k_TDC_u_CLOSE_NS k u) → 
    Completes (.tdcArm k u) s (fun t => t.get (F.CLU_k_TDC_u_STATUS_STATE k u) = 1 ∧
      t.get (F.CLU_k_TDC_u_STATUS_ARM_ERR k u) = 0 ∧
      t.get (F.CLU_k_TDC_u_STATUS_COUNT k u) = 0 ∧
      t.num (R.CLU_k_TDC_u_MISSED k u) = 0 ∧
      t.num (R.CLU_k_TDC_u_HIST_CNT k u) = 0 ∧
      (t.tdcOf k u).openNs = s.num (R.CLU_k_TDC_u_OPEN k u) ∧
      (t.tdcOf k u).closeNs = s.num (R.CLU_k_TDC_u_CLOSE k u) ∧
      (t.tdcOf k u).stopMax = s.get (F.CLU_k_TDC_u_CFG_STOP_MAX k u) ∧
      t = { s with regs := t.regs, tdc := t.tdc })) ∧
  (∀ s : State, ∀ (k : Cluster) (u : Fin 4), (s.get (F.CLU_k_TDC_u_STATUS_STATE k u) = 1 ∨ s.get (F.CLU_k_TDC_u_STATUS_STATE k u) = 2) → 
    exec (.tdcArm k u) s = .next (s.put (F.CLU_k_TDC_u_STATUS_ARM_ERR k u) 1)) ∧
  (∀ s : State, ∀ (k : Cluster) (u : Fin 4), s.get (F.CLU_k_TDC_u_STATUS_STATE k u) ≠ 1 → s.get (F.CLU_k_TDC_u_STATUS_STATE k u) ≠ 2 → s.get (F.CAL_CL_k_STATE_ACTIVE k) = 1 → 
    exec (.tdcArm k u) s = .next (s.put (F.CLU_k_TDC_u_STATUS_ARM_ERR k u) 2)) ∧
  (∀ s : State, ∀ (k : Cluster) (u : Fin 4), s.get (F.CLU_k_TDC_u_STATUS_STATE k u) ≠ 1 → s.get (F.CLU_k_TDC_u_STATUS_STATE k u) ≠ 2 → s.get (F.CAL_CL_k_STATE_ACTIVE k) ≠ 1 → s.get (F.CLU_k_TDC_u_CLOSE_NS k u) < s.get (F.CLU_k_TDC_u_OPEN_NS k u) → 
    exec (.tdcArm k u) s = .next (s.put (F.CLU_k_TDC_u_STATUS_ARM_ERR k u) 3)) ∧
  (∀ s : State, ∀ (k : Cluster) (u : Fin 4), (s.get (F.CLU_k_TDC_u_STATUS_STATE k u) = 1 ∨ s.get (F.CLU_k_TDC_u_STATUS_STATE k u) = 2) → 
    Completes (.tdcAbort k u) s (fun t => t.get (F.CLU_k_TDC_u_STATUS_STATE k u) = 4 ∧
      t.get (F.CLU_k_TDC_u_STATUS_ABORT_CAUSE k u) = 1 ∧
      t.bit (R.CLU_k_TDC_EVENT k) (4 + u) = true ∧
      t = { s with regs := t.regs, tdc := t.tdc })) ∧
  (∀ s : State, ∀ (k : Cluster) (u : Fin 4) (c : Nat) (p : Fin 384) (fall : Bool), s.get (F.CLU_k_TDC_u_STATUS_STATE k u) = 1 → s.srcFires k (s.tdcOf k u).startSrc = true → edgeOk (s.tdcOf k u).startSrc (s.tdcOf k u).startPol fall = true → (s.tdcOf k u).dead (s.tdcTime k u c p) = false → 
    Completes (.tdcStartEdge k u c p fall) s (fun t => t.get (F.CLU_k_TDC_u_STATUS_STATE k u) = 2 ∧
      (t.tdcOf k u).start = s.tdcTime k u c p ∧
      (t.tdcOf k u).lastEdge = some (s.tdcTime k u c p) ∧
      t.pair (R.CLU_k_TDC_u_START_TIME_LO k u) = s.now % 2 ^ 64 ∧
      t = { s with regs := t.regs, tdc := t.tdc })) ∧
  (∀ s : State, ∀ (k : Cluster) (u : Fin 4) (c : Nat) (p : Fin 384) (fall : Bool), s.get (F.CLU_k_TDC_u_STATUS_STATE k u) = 1 → s.srcFires k (s.tdcOf k u).startSrc = true → edgeOk (s.tdcOf k u).startSrc (s.tdcOf k u).startPol fall = true → (s.tdcOf k u).dead (s.tdcTime k u c p) = true → 
    exec (.tdcStartEdge k u c p fall) s = .next (s.bump (R.CLU_k_TDC_u_MISSED k u))) ∧
  (∀ s : State, ∀ (k : Cluster) (u : Fin 4) (c : Nat) (p : Fin 384) (fall : Bool) (i : Nat), s.get (F.CLU_k_TDC_u_STATUS_STATE k u) = 2 → (s.tdcOf k u).rearm = false → s.srcFires k (s.tdcOf k u).stopSrc = true → edgeOk (s.tdcOf k u).stopSrc (s.tdcOf k u).stopPol fall = true → (s.tdcOf k u).dead (s.tdcTime k u c p) = false → s.tdcTime k u c p = (s.tdcOf k u).start + i → 8000 * (s.tdcOf k u).openNs ≤ i → i ≤ 8000 * (s.tdcOf k u).closeNs → s.get (F.CLU_k_TDC_u_STATUS_COUNT k u) < (s.tdcOf k u).stopMax → s.get (F.CLU_k_TDC_u_STATUS_COUNT k u) < 16 → (s.tdcOf k u).endFull = false → 
    Completes (.tdcStopEdge k u c p fall) s (fun t => t.num (R.CLU_k_TDC_u_STOP_i_LO k u (s.get (F.CLU_k_TDC_u_STATUS_COUNT k u))) = i % 2 ^ 32 ∧
      t.num (R.CLU_k_TDC_u_STOP_i_HI k u (s.get (F.CLU_k_TDC_u_STATUS_COUNT k u))) = i / 2 ^ 32 % 2 ^ 12 + 2 ^ 16 * b2n fall ∧
      t.get (F.CLU_k_TDC_u_STATUS_COUNT k u) = s.get (F.CLU_k_TDC_u_STATUS_COUNT k u) + 1 ∧
      t.get (F.CLU_k_TDC_u_STATUS_STATE k u) = 2 ∧
      RegsBut [R.CLU_k_TDC_u_STATUS k u, R.CLU_k_TDC_u_STOP_i_LO k u (s.get (F.CLU_k_TDC_u_STATUS_COUNT k u)), R.CLU_k_TDC_u_STOP_i_HI k u (s.get (F.CLU_k_TDC_u_STATUS_COUNT k u))] s t ∧
      t = { s with regs := t.regs, tdc := t.tdc })) ∧
  (∀ s : State, ∀ (k : Cluster) (u : Fin 4), s.get (F.CLU_k_TDC_u_STATUS_STATE k u) = 2 → (s.tdcOf k u).rearm = false → (s.tdcOf k u).hist = false → 
    Completes (.tdcWindowClose k u) s (fun t => t.get (F.CLU_k_TDC_u_STATUS_STATE k u) = 3 ∧
      t.bit (R.CLU_k_TDC_EVENT k) u = true ∧
      t.get (F.CLU_k_TDC_u_STATUS_COUNT k u) = s.get (F.CLU_k_TDC_u_STATUS_COUNT k u) ∧
      t = { s with regs := t.regs, tdc := t.tdc })) ∧
  (∀ s : State, ∀ (k : Cluster) (u : Fin 4), s.get (F.CLU_k_TDC_u_STATUS_STATE k u) = 2 → (s.tdcOf k u).rearm = false → (s.tdcOf k u).hist = true → 
    Completes (.tdcWindowClose k u) s (fun t => t.get (F.CLU_k_TDC_u_STATUS_STATE k u) = 2 ∧
      (t.tdcOf k u).rearm = true ∧
      t = { s with regs := t.regs, tdc := t.tdc })) ∧
  (∀ s : State, ∀ (k : Cluster) (u : Fin 4) (b : Fin 256), s.get (F.CLU_k_TDC_u_STATUS_STATE k u) = 2 → (s.tdcOf k u).rearm = true → s.get (F.CLU_k_TDC_u_STATUS_COUNT k u) ≠ 0 → (s.tdcOf k u).histBase ≤ (s.num (R.CLU_k_TDC_u_STOP_i_LO k u 0) + 2 ^ 32 * s.get (F.CLU_k_TDC_u_STOP_i_HI_INTERVAL k u 0)) → ((s.num (R.CLU_k_TDC_u_STOP_i_LO k u 0) + 2 ^ 32 * s.get (F.CLU_k_TDC_u_STOP_i_HI_INTERVAL k u 0)) - (s.tdcOf k u).histBase) / 2 ^ (s.tdcOf k u).binw = b → (s.tdcOf k u).histN = 0 → 
    Completes (.tdcHistRearm k u) s (fun t => t.num (R.CLU_k_TDC_u_HBIN_b k u b) = min satMax (s.num (R.CLU_k_TDC_u_HBIN_b k u b) + 1) ∧
      t.num (R.CLU_k_TDC_u_HIST_CNT k u) = min satMax (s.num (R.CLU_k_TDC_u_HIST_CNT k u) + 1) ∧
      t.get (F.CLU_k_TDC_u_STATUS_STATE k u) = 1 ∧
      t.get (F.CLU_k_TDC_u_STATUS_COUNT k u) = 0 ∧
      (t.tdcOf k u).rearm = false ∧
      RegsBut [R.CLU_k_TDC_u_HBIN_b k u b, R.CLU_k_TDC_u_HIST_CNT k u, R.CLU_k_TDC_u_STATUS k u] s t ∧
      t = { s with regs := t.regs, tdc := t.tdc }))

/-- R265, R267, R268, R228, R302: SITE_NOP, SITE_ARM, SITE_ARM_DONE, SITE_DISARM, SITE_DISARM_DONE. -/
def Obligations.SiteArmAndDisarm : Prop :=
  (∀ s : State, ∀ (n : Site), s.get (F.SITE_n_STATUS_BUSY n) = 0 → 
    exec (.siteNop n) s = .next (s)) ∧
  (∀ s : State, ∀ (n : Site), s.get (F.SITE_n_STATUS_BUSY n) = 1 → 
    exec (.siteNop n) s = .next (s.put (F.SITE_n_EVENT_CMD_REFUSED n) 1)) ∧
  (∀ s : State, ∀ (n : Site), s.get (F.SITE_n_STATUS_BUSY n) = 1 → 
    exec (.siteArm n) s = .next (s.put (F.SITE_n_EVENT_CMD_REFUSED n) 1)) ∧
  (∀ s : State, ∀ (n : Site), s.get (F.SITE_n_STATUS_BUSY n) = 1 → 
    exec (.siteDisarm n) s = .next (s.put (F.SITE_n_EVENT_CMD_REFUSED n) 1)) ∧
  (∀ s : State, ∀ (n : Site), s.get (F.SITE_n_STATUS_BUSY n) = 1 → 
    exec (.siteGo n) s = .next (s.put (F.SITE_n_EVENT_CMD_REFUSED n) 1)) ∧
  (∀ s : State, ∀ (n : Site), s.get (F.SITE_n_STATUS_BUSY n) = 0 → s.siteCheck n ≤ 1 → 
    Completes (.siteArm n) s (fun t => t.get (F.SITE_n_STATUS_BUSY n) = 1 ∧
      (t.siteOf n).cmd = 1 ∧
      (t.siteOf n).armRes = s.siteCheck n ∧
      (t.siteOf n).octs = bitList 64 (s.pair (R.SITE_n_OCT_LO n)) ∧
      (t.siteOf n).role = s.get (F.SITE_n_SPAN_ROLE n) ∧
      t.siteState n = s.siteState n ∧
      t.mem = s.mem)) ∧
  (∀ s : State, ∀ (n : Site), s.get (F.SITE_n_STATUS_BUSY n) = 0 → 2 ≤ s.siteCheck n → 
    Completes (.siteArm n) s (fun t => t.get (F.SITE_n_STATUS_BUSY n) = 1 ∧
      (t.siteOf n).cmd = 1 ∧
      (t.siteOf n).armRes = s.siteCheck n ∧
      (t.siteOf n).octs = (s.siteOf n).octs ∧
      t.siteState n = s.siteState n ∧
      t.mem = s.mem)) ∧
  (∀ s : State, ∀ (n : Site), (s.siteOf n).cmd = 1 → (s.siteOf n).armRes ≤ 1 → 
    Completes (.siteArmDone n) s (fun t => t.siteState n = 1 ∧
      t.get (F.SITE_n_STATUS_BUSY n) = 0 ∧
      t.get (F.SITE_n_EVENT_CMD_DONE n) = 1 ∧
      t.get (F.SITE_n_STATUS_ARM_RESULT n) = (s.siteOf n).armRes ∧
      (t.siteOf n).octs = (s.siteOf n).octs ∧
      t.num (R.FAIL_SITE_n_RESULT n) = 2 ^ 31 ∧
      t.num (R.FAIL_SITE_n_FVEC_CNT n) = 0 ∧
      (t.seqOf n).halted = false ∧
      t.mem = s.mem)) ∧
  (∀ s : State, ∀ (n : Site), (s.siteOf n).cmd = 1 → 2 ≤ (s.siteOf n).armRes → (s.siteOf n).armRes < 256 → 
    Completes (.siteArmDone n) s (fun t => t.siteState n = s.siteState n ∧
      t.get (F.SITE_n_STATUS_BUSY n) = 0 ∧
      t.get (F.SITE_n_EVENT_CMD_DONE n) = 1 ∧
      t.get (F.SITE_n_STATUS_ARM_RESULT n) = (s.siteOf n).armRes ∧
      RegsBut [R.SITE_n_STATUS n, R.SITE_n_EVENT n] s t ∧
      t = { s with regs := t.regs, site := t.site })) ∧
  (∀ s : State, ∀ (n : Site), s.get (F.SITE_n_STATUS_BUSY n) = 0 → (s.siteState n = 0 ∨ s.siteState n = 1 ∨ s.siteState n = 5) → 
    Completes (.siteDisarm n) s (fun t => t.get (F.SITE_n_STATUS_BUSY n) = 1 ∧
      (t.siteOf n).cmd = 2 ∧
      t.siteState n = s.siteState n ∧
      t.mem = s.mem)) ∧
  (∀ s : State, ∀ (n : Site), (s.siteOf n).cmd = 2 → (s.siteState n = 0 ∨ s.siteState n = 1 ∨ s.siteState n = 5) → 
    Completes (.siteDisarmDone n) s (fun t => t.siteState n = 0 ∧
      t.get (F.SITE_n_STATUS_BUSY n) = 0 ∧
      t.get (F.SITE_n_EVENT_CMD_DONE n) = 1 ∧
      t.siteOf n = {} ∧
      (s.siteState n ≠ 0 → t.seqOf n = {} ∧ t.strmOf n = {} ∧ t.get (F.GOV_SITE_n_STATUS_STATE n) = 0) ∧
      t.mem = s.mem))

/-- R272 to R274: SITE_GO, GO_SCHEDULE, SITE_START, GO_TIMEOUT, GO_REQ, GO_READY, GO, GO_CANCEL. -/
def Obligations.GoHandshake : Prop :=
  (∀ s : State, ∀ (n : Site), s.get (F.SITE_n_STATUS_BUSY n) = 0 → s.siteState n = 1 → (s.siteOf n).role = 0 → 
    Completes (.siteGo n) s (fun t => t.siteState n = 2 ∧
      (t.siteOf n).goAt = s.now ∧
      (t.siteOf n).tgo = none ∧
      RegsBut [R.SITE_n_STATUS n, R.SEQ_CTX_n_STATE n] s t ∧
      t = { s with regs := t.regs, site := t.site })) ∧
  (∀ s : State, ∀ (n : Site), s.get (F.SITE_n_STATUS_BUSY n) = 0 → s.siteState n ≠ 1 → 
    exec (.siteGo n) s = .next ((s.put (F.SITE_n_STATUS_GO_RESULT n) 2).put (F.SITE_n_EVENT_CMD_DONE n) 1)) ∧
  (∀ s : State, ∀ (n : Site), s.get (F.SITE_n_STATUS_BUSY n) = 0 → s.siteState n = 1 → (s.siteOf n).role = 2 → 
    exec (.siteGo n) s = .next ((s.put (F.SITE_n_STATUS_GO_RESULT n) 3).put (F.SITE_n_EVENT_CMD_DONE n) 1)) ∧
  (∀ s : State, ∀ (n : Site), s.siteState n = 2 → (s.siteOf n).tgo = none → (s.siteOf n).readySent = false → s.cal.span.goWaits = false → s.goReady n = true → (s.siteOf n).role = 0 → 
    exec (.goSchedule n) s = .next (s.updSite n (fun x => { x with tgo := some (ceilTo 10 (s.tbVal 0 + 100 * s.get (F.SITE_n_GO_CFG_LEAD n))) }))) ∧
  (∀ s : State, ∀ (n : Site), s.siteState n = 2 → (s.siteOf n).tgo = none → (s.siteOf n).readySent = false → s.cal.span.goWaits = false → s.goReady n = true → (s.siteOf n).role = 2 → 
    Completes (.goSchedule n) s (fun t => (t.siteOf n).readySent = true ∧
      t.siteState n = 2 ∧
      (t.siteOf n).tgo = none ∧
      t = { s with regs := t.regs, site := t.site, ult := t.ult })) ∧
  (∀ s : State, ∀ (n : Site) (g : Nat), (s.siteOf n).tgo = some g → s.siteState n = 2 → 
    Completes (.siteStart n) s (fun t => t.siteState n = 3 ∧
      t.pair (R.SITE_n_T0_LO n) = g % 2 ^ 64 ∧
      t.get (F.SITE_n_STATUS_GO_RESULT n) = 1 ∧
      t.get (F.SITE_n_EVENT_CMD_DONE n) = 1 ∧
      (t.playOf n).on = true ∧ (t.playOf n).origin = 32000 * s.now ∧ (t.playOf n).gStart = 0 ∧ (t.playOf n).inFrame = 16 ∧
      (t.siteOf n).tgo = none ∧
      t = { s with regs := t.regs, site := t.site, seq := t.seq })) ∧
  (∀ s : State, ∀ (n : Site), s.siteState n = 2 → (s.siteOf n).role = 1 → (s.siteOf n).tgo = none → s.get (F.SITE_n_GO_CFG_TMO n) ≠ 0 → 
    Completes (.goTimeout n) s (fun t => t.siteState n = 1 ∧
      t.get (F.SITE_n_STATUS_GO_RESULT n) = 4 ∧
      t.get (F.SITE_n_EVENT_CMD_DONE n) = 1 ∧
      (t.siteOf n).answers = [] ∧
      t.mem = s.mem)) ∧
  (∀ s : State, ∀ (n : Site) (k : Port) (ttl : Nat) (sp : Nat) (src : Nat), s.spanSite sp = some n.val → s.siteState n = 1 → (s.siteOf n).role = 2 → 
    Completes (.goReq k ttl sp src) s (fun t => t.siteState n = 2 ∧
      (t.siteOf n).goAt = s.now ∧
      (t.siteOf n).readySent = false ∧
      RegsBut [R.SITE_n_STATUS n, R.SEQ_CTX_n_STATE n] s t ∧
      t = { s with regs := t.regs, site := t.site, ult := t.ult })) ∧
  (∀ s : State, ∀ (n : Site) (k : Port) (ttl : Nat) (sp : Nat) (src : Nat) (g : Nat), s.spanSite sp = some n.val → s.siteState n = 2 → (s.siteOf n).role = 2 → s.tbVal 0 + 100 ≤ g → 
    Completes (.go k ttl sp src g) s (fun t => (t.siteOf n).tgo = some g ∧
      t = { s with site := t.site, ult := t.ult })) ∧
  (∀ s : State, ∀ (n : Site) (k : Port) (ttl : Nat) (sp : Nat) (src : Nat) (g : Nat), s.spanSite sp = some n.val → s.siteState n = 2 → (s.siteOf n).role = 2 → g < s.tbVal 0 + 100 → 
    Completes (.go k ttl sp src g) s (fun t => t.siteState n = 5 ∧
      t.get (F.SITE_n_STATUS_GO_RESULT n) = 6 ∧
      t.get (F.SITE_n_EVENT_GO_LATE n) = 1 ∧
      t.get (F.SEQ_CTX_n_STATE_HALT_CODE n) = 0x17)) ∧
  (∀ s : State, ∀ (n : Site) (k : Port) (ttl : Nat) (sp : Nat) (src : Nat), s.spanSite sp = some n.val → s.siteState n = 2 → (s.siteOf n).role = 2 → 
    Completes (.goCancel k ttl sp src) s (fun t => t.siteState n = 1 ∧
      (t.siteOf n).tgo = none ∧
      RegsBut [R.SITE_n_STATUS n, R.SEQ_CTX_n_STATE n] s t ∧
      t = { s with regs := t.regs, site := t.site, ult := t.ult })) ∧
  (∀ s : State, ∀ (n : Site) (dest : Nat) (src : Nat) (sp : Nat) (idx : Nat) (lat : Nat) (chips : Nat), s.route dest = .here → s.spanSite sp = some n.val → s.siteState n = 2 → (s.siteOf n).role = 1 → (s.siteOf n).tgo = none → (s.siteOf n).answers.any (fun a => a.1 == idx) = false → lat = s.get (F.SEQ_CTX_n_SPAN_LAT_NS n) → chips = (s.siteOf n).chips → (s.siteOf n).answers.length + 1 < chips → 
    Completes (.goReady dest src sp idx lat chips) s (fun t => (t.siteOf n).answers = (s.siteOf n).answers ++ [(idx, lat, chips)] ∧
      t.siteState n = 2 ∧
      (t.siteOf n).tgo = none ∧
      t = { s with site := t.site })) ∧
  (∀ s : State, ∀ (n : Site) (dest : Nat) (src : Nat) (sp : Nat) (idx : Nat) (lat : Nat) (chips : Nat), s.route dest = .here → s.spanSite sp = some n.val → s.siteState n = 2 → (s.siteOf n).role = 1 → (s.siteOf n).tgo = none → (s.siteOf n).answers.any (fun a => a.1 == idx) = false → lat = s.get (F.SEQ_CTX_n_SPAN_LAT_NS n) → chips = (s.siteOf n).chips → chips ≤ (s.siteOf n).answers.length + 1 → 
    Completes (.goReady dest src sp idx lat chips) s (fun t => (t.siteOf n).tgo = some (ceilTo 10 (s.tbVal 0 + 100 * s.get (F.SITE_n_GO_CFG_LEAD n))) ∧
      t.siteState n = 2 ∧
      t = { s with site := t.site, ult := t.ult })) ∧
  (∀ s : State, ∀ (n : Site) (dest : Nat) (src : Nat) (sp : Nat) (idx : Nat) (lat : Nat) (chips : Nat), s.route dest = .here → s.spanSite sp = some n.val → s.siteState n = 2 → (s.siteOf n).role = 1 → (s.siteOf n).tgo = none → (s.siteOf n).answers.any (fun a => a.1 == idx) = false → (lat ≠ s.get (F.SEQ_CTX_n_SPAN_LAT_NS n) ∨ chips ≠ (s.siteOf n).chips) → 
    Completes (.goReady dest src sp idx lat chips) s (fun t => t.siteState n = 1 ∧
      t.get (F.SITE_n_STATUS_GO_RESULT n) = 5 ∧
      (t.siteOf n).answers = [] ∧
      (t.siteOf n).tgo = none))

/-- R137, R275 to R278: ARRIVE, RELEASE, DT_ARRIVE, DT_RELEASE, TRANSIT_RESUME, TRANSIT_TIMEOUT. -/
def Obligations.TransitBarriers : Prop :=
  (∀ s : State, ∀ (n : Site) (dest : Nat) (src : Nat) (sp : Nat) (idx : Nat), s.route dest = .here → s.spanSite sp = some n.val → (s.siteOf n).role = 1 → (s.siteOf n).arrivals.contains idx = false → (s.siteOf n).arrivals.length + 1 < (s.siteOf n).chips → 
    Completes (.arrive dest src sp idx) s (fun t => (t.siteOf n).arrivals = (s.siteOf n).arrivals ++ [idx] ∧
      (t.siteOf n).trel = (s.siteOf n).trel ∧
      t = { s with site := t.site })) ∧
  (∀ s : State, ∀ (n : Site) (k : Port) (ttl : Nat) (sp : Nat) (src : Nat) (g : Nat) (tm : Nat) (t0 : Nat), s.spanSite sp = some n.val → (s.playOf n).wait = .trStop 0 tm t0 → (s.siteOf n).arrived = true → s.tbVal 0 + 100 ≤ g → 
    Completes (.release k ttl sp src g) s (fun t => (t.siteOf n).trel = some g ∧
      t = { s with site := t.site, ult := t.ult })) ∧
  (∀ s : State, ∀ (n : Site) (k : Port) (ttl : Nat) (sp : Nat) (src : Nat) (g : Nat) (tm : Nat) (t0 : Nat), s.spanSite sp = some n.val → (s.playOf n).wait = .trStop 0 tm t0 → (s.siteOf n).arrived = true → g < s.tbVal 0 + 100 → 
    Completes (.release k ttl sp src g) s (fun t => (t.siteOf n).trel = some (ceilTo 10 (s.tbVal 0 + 100)) ∧
      t.get (F.SITE_n_EVENT_TRANSIT_LATE n) = 1 ∧
      t.bit (R.FAIL_SITE_n_RESULT n) 19 = true ∧
      t.bit (R.FAIL_SITE_n_RESULT n) 31 = false ∧
      RegsBut [R.FAIL_SITE_n_RESULT n, R.SITE_n_EVENT n] s t ∧
      t = { s with regs := t.regs, site := t.site, ult := t.ult })) ∧
  (∀ s : State, ∀ (src : Nat) (m : Site), s.isRoot = true → s.num R.ULT_DT_ARRIVED + 1 < s.get F.ULT_DT_EXPECT_COUNT → 
    exec (.dtArrive src m) s = .next (s.putN R.ULT_DT_ARRIVED (s.num R.ULT_DT_ARRIVED + 1))) ∧
  (∀ s : State, ∀ (src : Nat) (m : Site) (u : Nat), s.isRoot = false → s.upPort = some u → s.get F.ULT_STATUS_TOO_DEEP = 0 → 
    Completes (.dtArrive src m) s (fun t => t.ult.sent = s.ult.sent ++ [(u, { cls := clsTransit, mcast := false, dest := 0, src := src, ttl := 0, typ := 7, blocks := [m.val] })] ∧
      t = { s with ult := t.ult })) ∧
  (∀ s : State, ∀ (n : Site) (src : Nat) (g : Nat) (tm : Nat) (t0 : Nat), (s.playOf n).wait = .trStop 1 tm t0 → (s.siteOf n).arrived = true → s.tbVal 0 + 100 ≤ g → 
    Completes (.dtRelease src g) s (fun t => (t.siteOf n).trel = some g ∧
      t.mem = s.mem ∧
      t.siteState n = s.siteState n)) ∧
  (∀ s : State, ∀ (n : Site) (g : Nat), (s.siteOf n).trel = some g → s.siteState n = 4 → 
    Completes (.transitResume n) s (fun t => t.siteState n = 3 ∧
      t.pair (R.SITE_n_T0_LO n) = g % 2 ^ 64 ∧
      (t.siteOf n).trel = none ∧
      (t.siteOf n).arrived = false ∧
      (t.playOf n).wait = .none ∧
      (t.playOf n).origin = 32000 * s.now ∧
      t = { s with regs := t.regs, site := t.site, seq := t.seq })) ∧
  (∀ s : State, ∀ (n : Site) (sc : Nat) (tm : Nat) (t0 : Nat), (s.playOf n).wait = .trStop sc tm t0 → s.siteState n = 4 → 
    Completes (.transitTimeout n) s (fun t => t.siteState n = 5 ∧
      t.get (F.SEQ_CTX_n_STATE_HALT_CODE n) = 0x14 ∧
      t.get (F.SEQ_CTX_n_EVENT_HALT n) = 1 ∧
      t.num (R.SEQ_CTX_n_HALT_IDX n) = (s.playOf n).trAt.2 % 2 ^ 32))

/-- R279 to R286: FLAGS, SPAN_FLAG_DEADLINE, HEARTBEAT_TIMER, HEARTBEAT, MEMBER_LOST, HALTED, SPAN_RESULT_TIMEOUT. -/
def Obligations.SpanFlagsAndLoss : Prop :=
  (∀ s : State, ∀ (n : Site) (k : Port) (ttl : Nat) (sp : Nat) (src : Nat) (idx : Nat) (q : Nat) (bits : Nat), s.spanSite sp = some n.val → s.siteState n = 3 → s.flagOpen n q = true → 
    Completes (.flags k ttl sp src idx q bits none) s (fun t => (t.siteOf n).flagsIn = (s.siteOf n).flagsIn.filter (fun f => !(f.1 == q && f.2.1 == idx)) ++ [(q, idx, bits)] ∧
      Tab.get 0 (t.siteOf n).heard idx = s.now ∧
      t = { s with site := t.site, ult := t.ult })) ∧
  (∀ s : State, ∀ (n : Site) (k : Port) (ttl : Nat) (sp : Nat) (src : Nat) (idx : Nat) (q : Nat) (bits : Nat), s.spanSite sp = some n.val → s.siteState n = 3 → s.flagOpen n q = false → 
    Completes (.flags k ttl sp src idx q bits none) s (fun t => t.num (R.SITE_n_SLIP_CNT n) = min satMax (s.num (R.SITE_n_SLIP_CNT n) + 1) ∧
      (t.siteOf n).flagsIn = (s.siteOf n).flagsIn ∧
      RegsBut [R.SITE_n_SLIP_CNT n] s t ∧
      t = { s with regs := t.regs, site := t.site, ult := t.ult })) ∧
  (∀ s : State, ∀ (n : Site) (d : Decision) (q : Nat), (s.playOf n).decs.find? (fun d => d.seq.isSome && d.comb.isNone) = some d → d.known (s.playOf n) = true → d.flag = 2 → d.seq = some q → q < 2 ^ 16 → (∀ i, i < (s.siteOf n).chips → i = (s.siteOf n).index ∨ ((s.siteOf n).valuesOf q).any (fun g => g.1 == i) = true) → 
    Completes (.spanFlagDeadline n) s (fun t => (∀ e ∈ (t.playOf n).decs, e.seq = d.seq → e.comb = some (d.fail || ((s.siteOf n).valuesOf q).any (fun g => g.2.testBit 0))) ∧
      (t.playOf n).decs.length = (s.playOf n).decs.length ∧
      t = { s with site := t.site, seq := t.seq })) ∧
  (∀ s : State, ∀ (n : Site), s.armed n = true → (s.siteOf n).role ≠ 0 → 
    Completes (.heartbeatTimer n) s (fun t => t.ult.sent = s.ult.sent ++ ((List.range 4).filter s.portLive).map (fun k => (k, { cls := clsFlag, mcast := true, dest := (s.siteOf n).spanId, src := s.chipId, ttl := (s.siteOf n).hops, typ := 2, blocks := [(s.siteOf n).spanId * 2 ^ 48 + (s.siteOf n).index * 2 ^ 40] })) ∧
      t = { s with ult := t.ult })) ∧
  (∀ s : State, ∀ (n : Site) (k : Port) (ttl : Nat) (sp : Nat) (src : Nat) (idx : Nat), s.spanSite sp = some n.val → 
    Completes (.heartbeat k ttl sp src idx) s (fun t => Tab.get 0 (t.siteOf n).heard idx = s.now ∧
      t = { s with site := t.site, ult := t.ult })) ∧
  (∀ s : State, ∀ (n : Site) (idx : Set8), s.siteState n = 3 → (s.siteOf n).role ≠ 0 → idx.val < (s.siteOf n).chips → idx.val ≠ (s.siteOf n).index → (s.siteOf n).lost.contains idx.val = false → 
    Completes (.memberLost n idx) s (fun t => t.bit (R.SITE_n_MISS_MAP_w n (idx / 32)) (idx % 32) = true ∧
      t.get (F.SITE_n_EVENT_MEMBER_LOST n) = 1 ∧
      (t.siteOf n).lost = (s.siteOf n).lost ++ [idx.val] ∧
      (t.seqOf n).spanLost = true ∧
      t.siteState n = 3 ∧
      t.mem = s.mem)) ∧
  (∀ s : State, ∀ (n : Site) (k : Port) (ttl : Nat) (sp : Nat) (src : Nat) (idx : Nat) (w : Word), s.spanSite sp = some n.val → s.siteState n = 3 → 
    Completes (.halted k ttl sp src idx w) s (fun t => Tab.get 0 (t.siteOf n).words idx = w.toNat ∧
      (t.seqOf n).spanLost = true ∧
      t.siteState n = 3 ∧
      t = { s with site := t.site, seq := t.seq, ult := t.ult })) ∧
  (∀ s : State, ∀ (n : Site), (s.siteOf n).role = 1 → s.siteState n = 5 → (s.siteOf n).spanDone = false → 
    Completes (.spanResultTimeout n) s (fun t => t.num (R.SITE_n_SPAN_RESULT n) = spanWord (s.siteOf n).chips (s.siteOf n).words % 2 ^ 32 ∧
      t.get (F.SITE_n_EVENT_SPAN_DONE n) = 1 ∧
      (t.siteOf n).spanDone = true ∧
      RegsBut [R.SITE_n_SPAN_RESULT n, R.SITE_n_EVENT n] s t ∧
      t = { s with regs := t.regs, site := t.site }))

/-- R287 to R290, R294: ENUM_WAIT_EXPIRE, ULT_ENUM_START, ENUM_REPORT, ENUM_ASSIGN, ULT_RMT_READ, ULT_RMT_WRITE, RD_REQ, RD_RSP, WR_REQ, WR_RSP, MGMT_TIMEOUT. -/
def Obligations.EnumerationAndRemoteAccesses : Prop :=
  (∀ s : State, s.ready = true → s.isRoot = true → s.autoId = true → s.downPorts = [] → 
    Completes (.enumWaitExpire) s (fun t => t.get F.ULT_STATUS_CHIP_ID = 0 ∧
      t.get F.ULT_STATUS_ID_VALID = 1 ∧
      t.get F.GLB_CHIP_ID_CHIP_ID = 0 ∧
      t.get F.GLB_CHIP_ID_VALID = 1 ∧
      t.get F.ULT_EVENT_ENUM_DONE = 1 ∧
      RegsBut [R.ULT_STATUS, R.GLB_CHIP_ID, R.ULT_EVENT, R.ULT_ROUTE_EN] s t ∧
      t = { s with regs := t.regs, ult := t.ult })) ∧
  (∀ s : State, s.isRoot = true → s.autoId = true → s.downPorts = [] → 
    Completes (.ultEnumStart) s (fun t => t.get F.ULT_STATUS_CHIP_ID = 0 ∧
      t.get F.ULT_STATUS_ID_VALID = 1 ∧
      t.get F.GLB_CHIP_ID_CHIP_ID = 0 ∧
      t.get F.GLB_CHIP_ID_VALID = 1 ∧
      t.get F.ULT_EVENT_ENUM_DONE = 1 ∧
      RegsBut [R.ULT_STATUS, R.GLB_CHIP_ID, R.ULT_EVENT, R.ULT_ROUTE_EN] s t ∧
      t = { s with regs := t.regs, ult := t.ult })) ∧
  (∀ s : State, s.isRoot = false → 
    exec (.ultEnumStart) s = .next (s)) ∧
  (∀ s : State, ∀ (k : Port) (z : Nat), s.autoId = true → s.downPorts.contains k.val = true → s.isRoot = true → s.ult.enumBusy = false → 
    Completes (.enumReport k z) s (fun t => (t.portOf k).subtree = some z ∧
      (t.portOf k).partnerDepth = (s.portOf k).partnerDepth ∧
      t = { s with ult := t.ult })) ∧
  (∀ s : State, ∀ (k : Port) (b : Nat), s.autoId = true → s.isRoot = false → s.upPort = some k.val → s.get F.ULT_STATUS_TOO_DEEP = 0 → s.downPorts = [] → b < 2 ^ 16 → 
    Completes (.enumAssign k b) s (fun t => t.get F.ULT_STATUS_CHIP_ID = b ∧
      t.get F.ULT_STATUS_ID_VALID = 1 ∧
      t.get F.GLB_CHIP_ID_CHIP_ID = b ∧
      t.get F.GLB_CHIP_ID_VALID = 1 ∧
      t.get F.ULT_EVENT_ENUM_DONE = 1 ∧
      RegsBut [R.ULT_STATUS, R.GLB_CHIP_ID, R.ULT_EVENT, R.ULT_ROUTE_EN] s t ∧
      t = { s with regs := t.regs, ult := t.ult } ∧
      t.num R.ULT_ROUTE_EN = 0)) ∧
  (∀ s : State, ∀ (k : Port), s.get F.ULT_RMT_STATUS_BUSY = 0 → s.route (s.get F.ULT_RMT_ID_ID) = .port k → s.portLive k = true → 
    Completes (.ultRmtRead) s (fun t => t.get F.ULT_RMT_STATUS_BUSY = 1 ∧
      (t.ult.mgmt.map (fun q => (q.tag, q.wr))) = some (s.ult.tag % 256, false) ∧
      t.ult.sent = s.ult.sent ++ [(k.val, { cls := clsMgmt, mcast := false, dest := s.get F.ULT_RMT_ID_ID, src := s.chipId, ttl := 0, typ := 1, blocks := [mgmtHead (s.ult.tag % 256) (s.get F.ULT_RMT_ADDR_OFF)] })] ∧
      RegsBut [R.ULT_RMT_STATUS] s t ∧
      t = { s with regs := t.regs, ult := t.ult })) ∧
  (∀ s : State, s.get F.ULT_RMT_STATUS_BUSY = 1 → 
    exec (.ultRmtRead) s = .next (s)) ∧
  (∀ s : State, ∀ (k : Port), s.get F.ULT_RMT_STATUS_BUSY = 0 → s.route (s.get F.ULT_RMT_ID_ID) = .port k → s.portLive k = true → 
    Completes (.ultRmtWrite) s (fun t => t.get F.ULT_RMT_STATUS_BUSY = 1 ∧
      (t.ult.mgmt.map (fun q => (q.tag, q.wr))) = some (s.ult.tag % 256, true) ∧
      t.ult.sent = s.ult.sent ++ [(k.val, { cls := clsMgmt, mcast := false, dest := s.get F.ULT_RMT_ID_ID, src := s.chipId, ttl := 0, typ := 3, blocks := [mgmtHead (s.ult.tag % 256) (s.get F.ULT_RMT_ADDR_OFF), s.num R.ULT_RMT_DATA] })] ∧
      RegsBut [R.ULT_RMT_STATUS] s t ∧
      t = { s with regs := t.regs, ult := t.ult })) ∧
  (∀ s : State, s.get F.ULT_RMT_STATUS_BUSY = 1 → 
    exec (.ultRmtWrite) s = .next (s)) ∧
  (∀ s : State, ∀ (dest : Nat) (src : Nat) (tag : Nat) (k : Port) (m : Fin 4), s.route dest = .here → s.route src = .port k → s.portLive k = true → 
    Completes (.rdReq dest src tag (R.GLB_SCRATCHk m)) s (fun t => t.ult.sent = s.ult.sent ++ [(k.val, { cls := clsMgmt, mcast := false, dest := src, src := s.chipId, ttl := 0, typ := 2, blocks := [tag % 256 * 2 ^ 56 + s.num (R.GLB_SCRATCHk m)] })] ∧
      t = { s with req := t.req, ult := t.ult })) ∧
  (∀ s : State, ∀ (dest : Nat) (src : Nat) (tag : Nat) (v : Word) (k : Port) (m : Fin 4), s.route dest = .here → s.route src = .port k → s.portLive k = true → 
    Completes (.wrReq dest src tag (R.GLB_SCRATCHk m) v) s (fun t => t.word (R.GLB_SCRATCHk m) = v ∧
      t.ult.sent = s.ult.sent ++ [(k.val, { cls := clsMgmt, mcast := false, dest := src, src := s.chipId, ttl := 0, typ := 4, blocks := [tag % 256 * 2 ^ 56] })] ∧
      RegsBut [R.GLB_SCRATCHk m] s t ∧
      t = { s with regs := t.regs, ult := t.ult })) ∧
  (∀ s : State, ∀ (dest : Nat) (src : Nat) (tag : Nat) (d : Word) (q : MgmtReq), s.route dest = .here → s.ult.mgmt = some q → q.tag = tag → q.wr = false → s.get F.ULT_RMT_STATUS_BUSY = 1 → 
    Completes (.rdRsp dest src tag 0 d) s (fun t => t.num R.ULT_RMT_STATUS = 0 ∧
      t.word R.ULT_RMT_DATA = d ∧
      t.get F.ULT_EVENT_RMT_DONE = 1 ∧
      t.ult.mgmt = none ∧
      RegsBut [R.ULT_RMT_STATUS, R.ULT_RMT_DATA, R.ULT_EVENT] s t ∧
      t = { s with regs := t.regs, ult := t.ult })) ∧
  (∀ s : State, ∀ (dest : Nat) (src : Nat) (tag : Nat) (st : Nat) (q : MgmtReq), s.route dest = .here → s.ult.mgmt = some q → q.tag = tag → q.wr = true → s.get F.ULT_RMT_STATUS_BUSY = 1 → st < 4 → 
    Completes (.wrRsp dest src tag st) s (fun t => t.num R.ULT_RMT_STATUS = st ∧
      t.get F.ULT_EVENT_RMT_DONE = 1 ∧
      t.ult.mgmt = none ∧
      RegsBut [R.ULT_RMT_STATUS, R.ULT_EVENT] s t ∧
      t = { s with regs := t.regs, ult := t.ult })) ∧
  (∀ s : State, ∀ (q : MgmtReq), s.ult.mgmt = some q → s.get F.ULT_RMT_STATUS_BUSY = 1 → 
    Completes (.mgmtTimeout) s (fun t => t.num R.ULT_RMT_STATUS = 2 ∧
      (q.wr = false → t.num R.ULT_RMT_DATA = 0xFFFFFFFF) ∧
      (q.wr = true → t.num R.ULT_RMT_DATA = s.num R.ULT_RMT_DATA) ∧
      t.get F.ULT_EVENT_RMT_DONE = 1 ∧
      t.ult.mgmt = none ∧
      RegsBut [R.ULT_RMT_STATUS, R.ULT_RMT_DATA, R.ULT_EVENT] s t))

/-- R291 to R293, R295: WRITE, WRITE_ACK and ULT_BAD_MESSAGE; the stored bytes are those of the message, here into the core shared SRAM. -/
def Obligations.BulkWrites : Prop :=
  (∀ s : State, ∀ (dest : Nat) (src : Nat) (a : Nat) (d : List Byte) (k : Port), d.length % 8 = 0 → 8 ≤ d.length → d.length ≤ 256 → 0xD00000000 ≤ a → a + d.length ≤ 0xD00400000 → s.route dest = .here → s.route src = .port k → s.portLive k = true → 
    Completes (.write false dest src a d) s (fun t => (∀ i (h : i < d.length), t.rdByte (a + i) = d[i]) ∧
      MemBut a d.length s t ∧
      t.ult.sent.length = s.ult.sent.length + 1 ∧
      t = { s with mem := t.mem, hart := t.hart, ult := t.ult, free := t.free })) ∧
  (∀ s : State, ∀ (dest : Nat) (src : Nat) (a : Nat) (d : List Byte) (k : Port), d.length % 8 = 0 → 8 ≤ d.length → d.length ≤ 256 → s.route dest = .port k → s.portLive k = true → s.get F.ULT_STATUS_TOO_DEEP = 0 → 
    exec (.write false dest src a d) s = .next (s.sendOn k { s.bulkMsg false dest a d with src := src })) ∧
  (∀ s : State, ∀ (dest : Nat) (src : Nat) (a : Nat) (d : List Byte), d.length % 8 = 0 → 8 ≤ d.length → d.length ≤ 256 → 0xD00000000 ≤ a → a + d.length ≤ 0xD00400000 → 
    Completes (.write true dest src a d) s (fun t => (∀ i (h : i < d.length), t.rdByte (a + i) = d[i]) ∧
      MemBut a d.length s t ∧
      t.ult.sent = s.ult.sent ++ s.bcastPorts.map (fun k => (k, { s.bulkMsg true 0 a d with src := src })) ∧
      t.num R.ULT_BULK_DROP = s.num R.ULT_BULK_DROP)) ∧
  (∀ s : State, ∀ (mc : Bool) (dest : Nat) (src : Nat) (a : Nat) (d : List Byte), (d.length % 8 ≠ 0 ∨ d.length < 8 ∨ 256 < d.length) → 
    exec (.write mc dest src a d) s = .next (s)) ∧
  (∀ s : State, ∀ (dest : Nat) (src : Nat) (a : Nat) (st : Nat) (b : Nat) (e : Engine8), s.route dest = .here → s.ackEngine src a = some e.val → 
    Completes (.writeAck dest src a st b) s (fun t => t.ult.acks = s.ult.acks ++ [(a, st)] ∧
      (t.dmaOf e).acks = (s.dmaOf e).acks.erase a ∧
      (t.dmaOf e).conds = (if st = 0 then (s.dmaOf e).conds else (s.dmaOf e).conds ++ [dcRemoteErr]) ∧
      (t.dmaOf e).cur = (s.dmaOf e).cur ∧
      t = { s with ult := t.ult, host := t.host })) ∧
  (∀ s : State, ∀ (dest : Nat) (src : Nat) (a : Nat) (st : Nat) (b : Nat) (k : Port), s.route dest = .port k → s.portLive k = true → s.get F.ULT_STATUS_TOO_DEEP = 0 → 
    exec (.writeAck dest src a st b) s = .next (s.sendOn k { cls := clsBulk, mcast := false, dest := dest, src := src, ttl := 0, typ := 2, blocks := [b] })) ∧
  (∀ s : State, ∀ (k : Port) (n : Nat), 
    exec (.ultBadMessage k true n) s = .next ((s.bump (R.ULT_Pk_CRC_ERR k)).addSat R.ULT_BULK_DROP n)) ∧
  (∀ s : State, ∀ (k : Port) (n : Nat), 
    exec (.ultBadMessage k false n) s = .next (s.bump (R.ULT_Pk_BAD_MSG k)))

/-- R296 to R300: the ULT_PORT and ULT_LANE commands; the other lane of the port and all other ports keep their lane states. -/
def Obligations.UltenLanes : Prop :=
  (∀ s : State, ∀ (k : Port) (v : Word), (s.plainWrite (R.ULT_Pk_CTRL k) v).get (F.ULT_Pk_CTRL_ENABLE k) = 1 → (s.plainWrite (R.ULT_Pk_CTRL k) v).get (F.ULT_Pk_CTRL_MODE k) = 0 → 
    Completes (.ultPortCtrlWrite k v) s (fun t => (∀ m : PLane, s.ulState k m = 0 → t.ulState k m = 1) ∧
      (∀ m : PLane, s.ulState k m ≠ 0 → s.ulState k m ≠ 9 → t.ulState k m = s.ulState k m) ∧
      (∀ j : Port, ∀ i : PLane, j ≠ k → t.ulState j i = s.ulState j i) ∧
      t.mem = s.mem)) ∧
  (∀ s : State, ∀ (k : Port) (v : Word), (s.plainWrite (R.ULT_Pk_CTRL k) v).get (F.ULT_Pk_CTRL_ENABLE k) = 0 → 
    Completes (.ultPortCtrlWrite k v) s (fun t => (∀ m : PLane, t.ulState k m = 0) ∧
      (∀ j : Port, ∀ i : PLane, j ≠ k → t.ulState j i = s.ulState j i) ∧
      t.mem = s.mem)) ∧
  (∀ s : State, ∀ (k : Port) (v : Word), (s.plainWrite (R.ULT_Pk_CTRL k) v).get (F.ULT_Pk_CTRL_ENABLE k) = 1 → (s.plainWrite (R.ULT_Pk_CTRL k) v).get (F.ULT_Pk_CTRL_MODE k) = 1 → 
    Completes (.ultPortCtrlWrite k v) s (fun t => (∀ m : PLane, t.ulState k m = 9) ∧
      (∀ j : Port, ∀ i : PLane, j ≠ k → t.ulState j i = s.ulState j i) ∧
      t.mem = s.mem)) ∧
  (∀ s : State, ∀ (k : Port), s.ulNormal k = true → 
    Completes (.ultPortRetrain k) s (fun t => (∀ m : PLane, t.ulState k m = 1) ∧
      (∀ j : Port, ∀ i : PLane, j ≠ k → t.ulState j i = s.ulState j i) ∧
      t.mem = s.mem)) ∧
  (∀ s : State, ∀ (k : Port) (m : PLane) (b : BitVec 66), s.ulState k m = 9 → 
    Completes (.ultBitslip k m b) s (fun t => t.pair (R.ULT_Pk_Lm_RAW_RX_LO k m) = b.toNat % 2 ^ 64 ∧
      t.num (R.ULT_Pk_Lm_RAW_SYNC k m) = b.toNat / 2 ^ 64 ∧
      RegsBut [R.ULT_Pk_Lm_RAW_RX_LO k m, R.ULT_Pk_Lm_RAW_RX_LO k m + 4, R.ULT_Pk_Lm_RAW_SYNC k m] s t ∧
      t = { s with regs := t.regs })) ∧
  (∀ s : State, ∀ (k : Port) (m : PLane), s.ulState k m = 1 → 
    Completes (.ultLanePartnerDetect k m) s (fun t => t.ulState k m = 2 ∧
      (t.ulaneOf k m).rate = 0 ∧
      (∀ j : Port, ∀ i : PLane, (j, i) ≠ (k, m) → t.ulState j i = s.ulState j i) ∧
      t = { s with regs := t.regs, ult := t.ult, free := t.free })) ∧
  (∀ s : State, ∀ (k : Port) (m : PLane), s.ulState k m = 2 → 
    Completes (.ultLaneBlockLock k m) s (fun t => t.ulState k m = 3 ∧
      (∀ j : Port, ∀ i : PLane, (j, i) ≠ (k, m) → t.ulState j i = s.ulState j i) ∧
      t = { s with regs := t.regs, ult := t.ult, free := t.free })) ∧
  (∀ s : State, ∀ (k : Port) (m : PLane), s.ulState k m = 8 → 
    Completes (.ultLaneBlockLock k m) s (fun t => t.ulState k m = 7 ∧
      (∀ j : Port, ∀ i : PLane, (j, i) ≠ (k, m) → t.ulState j i = s.ulState j i) ∧
      t = { s with regs := t.regs, ult := t.ult, free := t.free })) ∧
  (∀ s : State, ∀ (k : Port) (m : PLane), (s.ulState k m = 2 ∨ s.ulState k m = 3 ∨ s.ulState k m = 4 ∨ s.ulState k m = 6) → 
    Completes (.ultLaneStateTimeout k m) s (fun t => t.ulState k m = 1 ∧
      (∀ j : Port, ∀ i : PLane, (j, i) ≠ (k, m) → t.ulState j i = s.ulState j i) ∧
      t = { s with regs := t.regs, ult := t.ult, free := t.free })) ∧
  (∀ s : State, ∀ (k : Port) (m : PLane), s.ulState k m = 8 → 
    Completes (.ultLaneStateTimeout k m) s (fun t => t.ulState k m = s.get (F.ULT_Pk_CTRL_AUTO_RETRAIN k) ∧
      (∀ j : Port, ∀ i : PLane, (j, i) ≠ (k, m) → t.ulState j i = s.ulState j i) ∧
      t = { s with regs := t.regs, ult := t.ult, free := t.free })) ∧
  (∀ s : State, ∀ (k : Port) (m : PLane) (i : Nat) (d : Nat) (port : Nat) (top : Nat), s.ulState k m = 3 → i < 2 ^ 16 → 
    Completes (.ultLaneCapsDone k m (some i) (some d) port top) s (fun t => t.ulState k m = (if min (min top 4) (s.get (F.ULT_Pk_CTRL_MAX_RATE k)) = 0 then 7 else 4) ∧
      t.get (F.ULT_Pk_STATUS_PARTNER_ID k) = i ∧
      t.get (F.ULT_Pk_STATUS_PARTNER_VALID k) = 1 ∧
      (t.ulaneOf k m).top = min (min top 4) (s.get (F.ULT_Pk_CTRL_MAX_RATE k)) ∧
      (t.portOf k).partnerDepth = some d ∧
      (t.portOf k).partnerPort = port ∧
      (∀ j : Port, ∀ i : PLane, (j, i) ≠ (k, m) → t.ulState j i = s.ulState j i) ∧
      t = { s with regs := t.regs, ult := t.ult, free := t.free })) ∧
  (∀ s : State, ∀ (k : Port) (m : PLane) (port : Nat) (top : Nat), s.ulState k m = 3 → 
    Completes (.ultLaneCapsDone k m none none port top) s (fun t => t.ulState k m = (if min (min top 4) (s.get (F.ULT_Pk_CTRL_MAX_RATE k)) = 0 then 7 else 4) ∧
      t.get (F.ULT_Pk_STATUS_PARTNER_VALID k) = 0 ∧
      (t.portOf k).partnerDepth = none ∧
      (∀ j : Port, ∀ i : PLane, (j, i) ≠ (k, m) → t.ulState j i = s.ulState j i) ∧
      t = { s with regs := t.regs, ult := t.ult, free := t.free })) ∧
  (∀ s : State, ∀ (k : Port) (m : PLane), s.ulState k m = 4 → 
    Completes (.ultLaneRateStepDone k m) s (fun t => t.ulState k m = 5 ∧
      (t.ulaneOf k m).rate = (s.ulaneOf k m).rate + 1 ∧
      t.get (F.ULT_Pk_Lm_FFE_PRE k m) = 0 ∧
      t.get (F.ULT_Pk_Lm_FFE_POST k m) = 4 ∧
      (t.ulaneOf k m).prevPre = s.get (F.ULT_Pk_Lm_FFE_PRE k m) ∧
      (t.ulaneOf k m).prevPost = s.get (F.ULT_Pk_Lm_FFE_POST k m) ∧
      (∀ j : Port, ∀ i : PLane, (j, i) ≠ (k, m) → t.ulState j i = s.ulState j i) ∧
      t = { s with regs := t.regs, ult := t.ult, free := t.free })) ∧
  (∀ s : State, ∀ (k : Port) (m : PLane) (w : BitVec 16) (c : Nat × Nat), s.ulState k m = 5 → w.getLsbD 15 = true → presetOf (w.toNat / 2 ^ 12 % 8) = c → 
    Completes (.ultEqRequest k m w) s (fun t => t.get (F.ULT_Pk_Lm_FFE_PRE k m) = c.1 ∧
      t.get (F.ULT_Pk_Lm_FFE_POST k m) = c.2 ∧
      (t.ulaneOf k m).status = 0x8000 ∧
      RegsBut [R.ULT_Pk_Lm_FFE k m] s t ∧
      t = { s with regs := t.regs, ult := t.ult })) ∧
  (∀ s : State, ∀ (k : Port) (m : PLane) (w : BitVec 16), s.ulState k m = 5 → w.toNat = 0x0040 → s.get (F.ULT_Pk_Lm_FFE_PRE k m) < 8 → s.get (F.ULT_Pk_Lm_FFE_PRE k m) + s.get (F.ULT_Pk_Lm_FFE_POST k m) < 20 → 
    Completes (.ultEqRequest k m w) s (fun t => t.get (F.ULT_Pk_Lm_FFE_PRE k m) = s.get (F.ULT_Pk_Lm_FFE_PRE k m) + 1 ∧
      t.get (F.ULT_Pk_Lm_FFE_POST k m) = s.get (F.ULT_Pk_Lm_FFE_POST k m) ∧
      (t.ulaneOf k m).status = 0x40 ∧
      RegsBut [R.ULT_Pk_Lm_FFE k m] s t)) ∧
  (∀ s : State, ∀ (k : Port) (m : PLane) (w : BitVec 16), s.ulState k m = 5 → w.toNat = 0x0020 → s.get (F.ULT_Pk_Lm_FFE_POST k m) = 0 → 
    Completes (.ultEqRequest k m w) s (fun t => t.get (F.ULT_Pk_Lm_FFE_PRE k m) = s.get (F.ULT_Pk_Lm_FFE_PRE k m) ∧
      t.get (F.ULT_Pk_Lm_FFE_POST k m) = 0 ∧
      (t.ulaneOf k m).status = 0x20 ∧
      RegsBut [R.ULT_Pk_Lm_FFE k m] s t)) ∧
  (∀ s : State, ∀ (k : Port) (m : PLane), s.ulState k m = 5 → 
    Completes (.ultEqDone k m) s (fun t => t.ulState k m = 6 ∧
      (∀ j : Port, ∀ i : PLane, (j, i) ≠ (k, m) → t.ulState j i = s.ulState j i) ∧
      t = { s with regs := t.regs, ult := t.ult, free := t.free })) ∧
  (∀ s : State, ∀ (k : Port) (m : PLane), s.ulState k m = 6 → 
    Completes (.ultBerCheckDone k m true) s (fun t => t.ulState k m = (if (s.ulaneOf k m).top ≤ (s.ulaneOf k m).rate then 7 else 4) ∧
      (t.ulaneOf k m).rate = (s.ulaneOf k m).rate ∧
      (∀ j : Port, ∀ i : PLane, (j, i) ≠ (k, m) → t.ulState j i = s.ulState j i) ∧
      t = { s with regs := t.regs, ult := t.ult, free := t.free })) ∧
  (∀ s : State, ∀ (k : Port) (m : PLane), s.ulState k m = 6 → (s.ulaneOf k m).prevPre < 16 → (s.ulaneOf k m).prevPost < 32 → 
    Completes (.ultBerCheckDone k m false) s (fun t => t.ulState k m = 7 ∧
      (t.ulaneOf k m).rate = (s.ulaneOf k m).rate - 1 ∧
      t.get (F.ULT_Pk_Lm_FFE_PRE k m) = (s.ulaneOf k m).prevPre ∧
      t.get (F.ULT_Pk_Lm_FFE_POST k m) = (s.ulaneOf k m).prevPost ∧
      t.num (R.ULT_Pk_BER_FALLBACK k) = min satMax (s.num (R.ULT_Pk_BER_FALLBACK k) + 1) ∧
      (∀ j : Port, ∀ i : PLane, (j, i) ≠ (k, m) → t.ulState j i = s.ulState j i) ∧
      t = { s with regs := t.regs, ult := t.ult, free := t.free })) ∧
  (∀ s : State, ∀ (k : Port) (m : PLane), s.ulState k m = 7 → 
    Completes (.ultLaneLockLost k m) s (fun t => t.ulState k m = 8 ∧
      (∀ j : Port, ∀ i : PLane, (j, i) ≠ (k, m) → t.ulState j i = s.ulState j i) ∧
      t.mem = s.mem))

/-- R303 to R305, R310, R312, R315 to R320, R322, R324: the XL commands; every other lane keeps its registers. -/
def Obligations.ExpressLaneCommands : Prop :=
  (∀ s : State, ∀ (n : Lane) (v : Word) (g : XlSeen), ((s.plainWrite (R.XL_n_CTRL n) v).get (F.XL_n_CTRL_ENABLE n)) = 1 → s.get (F.XL_n_CTRL_ENABLE n) = 0 → s.safe = false → (s.plainWrite (R.XL_n_CTRL n) v).get (F.XL_n_CTRL_TRAIN n) = 0 → 
    Completes (.xlCtrlWrite n v g) s (fun t => t.xlState n = 1 ∧
      RegsBut [R.GLB_ERR_ENUM, R.XL_n_CTRL n, R.XL_n_STATUS n, R.XL_n_EVENT n, R.XL_n_EYE_STATUS n, R.XL_n_RX_WORD_LO n, R.XL_n_RX_WORD_LO n + 4, R.XL_n_BITS_LO n, R.XL_n_BITS_LO n + 4, R.XL_n_BERR_LO n, R.XL_n_BERR_LO n + 4, R.XL_n_MARK_TAG n, R.XL_n_MARK_TX_LO n, R.XL_n_MARK_TX_LO n + 4, R.XL_n_MARK_TIME_LO n, R.XL_n_MARK_TIME_LO n + 4, R.XL_n_CMD_REFUSED n] s t ∧
      (∀ m, m ≠ n.val → t.laneOf m = s.laneOf m) ∧
      t = { s with regs := t.regs, xl := t.xl })) ∧
  (∀ s : State, ∀ (n : Lane) (v : Word) (g : XlSeen), ((s.plainWrite (R.XL_n_CTRL n) v).get (F.XL_n_CTRL_ENABLE n)) = 1 → s.get (F.XL_n_CTRL_ENABLE n) = 0 → s.safe = false → (s.plainWrite (R.XL_n_CTRL n) v).get (F.XL_n_CTRL_TRAIN n) = 1 → 
    Completes (.xlCtrlWrite n v g) s (fun t => t.xlState n = 2 ∧
      t.get (F.XL_n_STATUS_TRAIN_DONE n) = 0 ∧
      RegsBut [R.GLB_ERR_ENUM, R.XL_n_CTRL n, R.XL_n_STATUS n, R.XL_n_EVENT n, R.XL_n_EYE_STATUS n, R.XL_n_RX_WORD_LO n, R.XL_n_RX_WORD_LO n + 4, R.XL_n_BITS_LO n, R.XL_n_BITS_LO n + 4, R.XL_n_BERR_LO n, R.XL_n_BERR_LO n + 4, R.XL_n_MARK_TAG n, R.XL_n_MARK_TX_LO n, R.XL_n_MARK_TX_LO n + 4, R.XL_n_MARK_TIME_LO n, R.XL_n_MARK_TIME_LO n + 4, R.XL_n_CMD_REFUSED n] s t ∧
      (∀ m, m ≠ n.val → t.laneOf m = s.laneOf m) ∧
      t = { s with regs := t.regs, xl := t.xl })) ∧
  (∀ s : State, ∀ (n : Lane) (v : Word) (g : XlSeen), ((s.plainWrite (R.XL_n_CTRL n) v).get (F.XL_n_CTRL_ENABLE n)) = 1 → s.get (F.XL_n_CTRL_ENABLE n) = 0 → s.safe = true → 
    Completes (.xlCtrlWrite n v g) s (fun t => t.xlState n = 4 ∧
      RegsBut [R.GLB_ERR_ENUM, R.XL_n_CTRL n, R.XL_n_STATUS n, R.XL_n_EVENT n, R.XL_n_EYE_STATUS n, R.XL_n_RX_WORD_LO n, R.XL_n_RX_WORD_LO n + 4, R.XL_n_BITS_LO n, R.XL_n_BITS_LO n + 4, R.XL_n_BERR_LO n, R.XL_n_BERR_LO n + 4, R.XL_n_MARK_TAG n, R.XL_n_MARK_TX_LO n, R.XL_n_MARK_TX_LO n + 4, R.XL_n_MARK_TIME_LO n, R.XL_n_MARK_TIME_LO n + 4, R.XL_n_CMD_REFUSED n] s t ∧
      (∀ m, m ≠ n.val → t.laneOf m = s.laneOf m) ∧
      t = { s with regs := t.regs, xl := t.xl })) ∧
  (∀ s : State, ∀ (n : Lane) (v : Word) (g : XlSeen), ((s.plainWrite (R.XL_n_CTRL n) v).get (F.XL_n_CTRL_ENABLE n)) = 0 → s.get (F.XL_n_CTRL_ENABLE n) = 1 → 
    Completes (.xlCtrlWrite n v g) s (fun t => t.xlState n = 0 ∧
      t.get (F.XL_n_STATUS_PLL_LOCK n) = 0 ∧
      t.get (F.XL_n_STATUS_LOCK n) = 0 ∧
      (t.laneOf n).checker = false ∧
      (t.laneOf n).txOn = false ∧
      RegsBut [R.GLB_ERR_ENUM, R.XL_n_CTRL n, R.XL_n_STATUS n, R.XL_n_EVENT n, R.XL_n_EYE_STATUS n, R.XL_n_RX_WORD_LO n, R.XL_n_RX_WORD_LO n + 4, R.XL_n_BITS_LO n, R.XL_n_BITS_LO n + 4, R.XL_n_BERR_LO n, R.XL_n_BERR_LO n + 4, R.XL_n_MARK_TAG n, R.XL_n_MARK_TX_LO n, R.XL_n_MARK_TX_LO n + 4, R.XL_n_MARK_TIME_LO n, R.XL_n_MARK_TIME_LO n + 4, R.XL_n_CMD_REFUSED n] s t ∧
      (∀ m, m ≠ n.val → t.laneOf m = s.laneOf m) ∧
      t = { s with regs := t.regs, xl := t.xl })) ∧
  (∀ s : State, ∀ (n : Lane) (g : XlSeen), s.get (F.XL_n_CTRL_ENABLE n) = 1 → s.safe = false → s.badLaneDrawer n = false → s.xlState n ≠ 2 → 
    Completes (.xlStart n g) s (fun t => t.xlState n = 3 ∧
      t.get (F.XL_n_STATUS_CMD_RESULT n) = 0 ∧
      t.pair (R.XL_n_BITS_LO n) = 0 ∧
      t.pair (R.XL_n_BERR_LO n) = 0 ∧
      t.get (F.XL_n_MARK_TAG_COUNT n) = 0 ∧
      (t.laneOf n).rate = s.get (F.XL_n_CTRL_RATE n) ∧
      (t.laneOf n).txSrc = s.get (F.XL_n_SRC_TX_SRC n) ∧
      (t.laneOf n).rxSrc = s.get (F.XL_n_SRC_RX_SRC n) ∧
      (t.laneOf n).checker = (s.get (F.XL_n_SRC_RX_SRC n) != 0) ∧
      RegsBut [R.XL_n_STATUS n, R.XL_n_EVENT n, R.XL_n_EYE_STATUS n, R.XL_n_RX_WORD_LO n, R.XL_n_RX_WORD_LO n + 4, R.XL_n_BITS_LO n, R.XL_n_BITS_LO n + 4, R.XL_n_BERR_LO n, R.XL_n_BERR_LO n + 4, R.XL_n_MARK_TAG n, R.XL_n_MARK_TX_LO n, R.XL_n_MARK_TX_LO n + 4, R.XL_n_MARK_TIME_LO n, R.XL_n_MARK_TIME_LO n + 4, R.XL_n_CMD_REFUSED n] s t ∧
      (∀ m, m ≠ n.val → t.laneOf m = s.laneOf m) ∧
      t = { s with regs := t.regs, xl := t.xl })) ∧
  (∀ s : State, ∀ (n : Lane) (g : XlSeen), s.get (F.XL_n_CTRL_ENABLE n) = 1 → s.safe = false → s.badLaneDrawer n = false → s.xlState n = 2 → 
    Completes (.xlStart n g) s (fun t => t.xlState n = 2 ∧
      t.get (F.XL_n_STATUS_CMD_RESULT n) = 0 ∧
      (t.laneOf n).pendStart = true ∧
      (t.laneOf n).pendKeep = false ∧
      RegsBut [R.XL_n_STATUS n, R.XL_n_EVENT n, R.XL_n_EYE_STATUS n, R.XL_n_RX_WORD_LO n, R.XL_n_RX_WORD_LO n + 4, R.XL_n_BITS_LO n, R.XL_n_BITS_LO n + 4, R.XL_n_BERR_LO n, R.XL_n_BERR_LO n + 4, R.XL_n_MARK_TAG n, R.XL_n_MARK_TX_LO n, R.XL_n_MARK_TX_LO n + 4, R.XL_n_MARK_TIME_LO n, R.XL_n_MARK_TIME_LO n + 4, R.XL_n_CMD_REFUSED n] s t ∧
      (∀ m, m ≠ n.val → t.laneOf m = s.laneOf m) ∧
      t = { s with regs := t.regs, xl := t.xl })) ∧
  (∀ s : State, ∀ (n : Lane) (g : XlSeen), s.get (F.XL_n_CTRL_ENABLE n) = 1 → s.safe = false → s.badLaneDrawer n = true → 
    Completes (.xlStart n g) s (fun t => t.xlState n = s.xlState n ∧
      t.get (F.XL_n_STATUS_CMD_RESULT n) = 2 ∧
      t.bit (R.XL_n_EVENT n) 7 = true ∧
      t.num (R.XL_n_CMD_REFUSED n) = min satMax (s.num (R.XL_n_CMD_REFUSED n) + 1) ∧
      RegsBut [R.XL_n_STATUS n, R.XL_n_EVENT n, R.XL_n_EYE_STATUS n, R.XL_n_RX_WORD_LO n, R.XL_n_RX_WORD_LO n + 4, R.XL_n_BITS_LO n, R.XL_n_BITS_LO n + 4, R.XL_n_BERR_LO n, R.XL_n_BERR_LO n + 4, R.XL_n_MARK_TAG n, R.XL_n_MARK_TX_LO n, R.XL_n_MARK_TX_LO n + 4, R.XL_n_MARK_TIME_LO n, R.XL_n_MARK_TIME_LO n + 4, R.XL_n_CMD_REFUSED n] s t ∧
      (∀ m, m ≠ n.val → t.laneOf m = s.laneOf m) ∧
      t = { s with regs := t.regs, xl := t.xl })) ∧
  (∀ s : State, ∀ (n : Lane) (g : XlSeen), s.get (F.XL_n_CTRL_ENABLE n) = 1 → s.safe = false → 
    Completes (.xlStop n g) s (fun t => t.xlState n = 1 ∧
      t.get (F.XL_n_STATUS_CMD_RESULT n) = 0 ∧
      (t.laneOf n).txOn = false ∧
      (t.laneOf n).checker = false ∧
      t.get (F.XL_n_STATUS_LOCK n) = 0 ∧
      RegsBut [R.XL_n_STATUS n, R.XL_n_EVENT n, R.XL_n_EYE_STATUS n, R.XL_n_RX_WORD_LO n, R.XL_n_RX_WORD_LO n + 4, R.XL_n_BITS_LO n, R.XL_n_BITS_LO n + 4, R.XL_n_BERR_LO n, R.XL_n_BERR_LO n + 4, R.XL_n_MARK_TAG n, R.XL_n_MARK_TX_LO n, R.XL_n_MARK_TX_LO n + 4, R.XL_n_MARK_TIME_LO n, R.XL_n_MARK_TIME_LO n + 4, R.XL_n_CMD_REFUSED n] s t ∧
      (∀ m, m ≠ n.val → t.laneOf m = s.laneOf m) ∧
      t = { s with regs := t.regs, xl := t.xl })) ∧
  (∀ s : State, ∀ (n : Lane) (g : XlSeen), 
    Completes (.xlErrClr n g) s (fun t => t.pair (R.XL_n_BITS_LO n) = 0 ∧
      t.pair (R.XL_n_BERR_LO n) = 0 ∧
      t.get (F.XL_n_STATUS_CMD_RESULT n) = 0 ∧
      t.xlState n = s.xlState n ∧
      RegsBut [R.XL_n_STATUS n, R.XL_n_EVENT n, R.XL_n_EYE_STATUS n, R.XL_n_RX_WORD_LO n, R.XL_n_RX_WORD_LO n + 4, R.XL_n_BITS_LO n, R.XL_n_BITS_LO n + 4, R.XL_n_BERR_LO n, R.XL_n_BERR_LO n + 4, R.XL_n_MARK_TAG n, R.XL_n_MARK_TX_LO n, R.XL_n_MARK_TX_LO n + 4, R.XL_n_MARK_TIME_LO n, R.XL_n_MARK_TIME_LO n + 4, R.XL_n_CMD_REFUSED n] s t ∧
      (∀ m, m ≠ n.val → t.laneOf m = s.laneOf m) ∧
      t = { s with regs := t.regs, xl := t.xl })) ∧
  (∀ s : State, ∀ (n : Lane) (g : XlSeen), s.get (F.XL_n_CTRL_ENABLE n) = 1 → s.safe = false → 
    Completes (.xlBitslip n g) s (fun t => t.get (F.XL_n_STATUS_SLIP n) = (s.get (F.XL_n_STATUS_SLIP n) + 1) % 64 ∧
      t.get (F.XL_n_STATUS_CMD_RESULT n) = 0 ∧
      t.xlState n = s.xlState n ∧
      RegsBut [R.XL_n_STATUS n, R.XL_n_EVENT n, R.XL_n_EYE_STATUS n, R.XL_n_RX_WORD_LO n, R.XL_n_RX_WORD_LO n + 4, R.XL_n_BITS_LO n, R.XL_n_BITS_LO n + 4, R.XL_n_BERR_LO n, R.XL_n_BERR_LO n + 4, R.XL_n_MARK_TAG n, R.XL_n_MARK_TX_LO n, R.XL_n_MARK_TX_LO n + 4, R.XL_n_MARK_TIME_LO n, R.XL_n_MARK_TIME_LO n + 4, R.XL_n_CMD_REFUSED n] s t ∧
      (∀ m, m ≠ n.val → t.laneOf m = s.laneOf m) ∧
      t = { s with regs := t.regs, xl := t.xl })) ∧
  (∀ s : State, ∀ (n : Lane) (g : XlSeen), s.get (F.XL_n_CTRL_ENABLE n) = 1 → s.safe = false → 
    Completes (.xlMark n g) s (fun t => t.pair (R.XL_n_MARK_TX_LO n) = g.sent % 2 ^ 48 ∧
      t.pair (R.XL_n_MARK_TIME_LO n) = s.now % 2 ^ 64 ∧
      t.get (F.XL_n_MARK_TAG_TAG n) = s.get (F.XL_n_MARK_TAG_TAG n) ∧
      t.bit (R.XL_n_EVENT n) 3 = true ∧
      t.get (F.XL_n_STATUS_CMD_RESULT n) = 0 ∧
      t.xlState n = s.xlState n ∧
      RegsBut [R.XL_n_STATUS n, R.XL_n_EVENT n, R.XL_n_EYE_STATUS n, R.XL_n_RX_WORD_LO n, R.XL_n_RX_WORD_LO n + 4, R.XL_n_BITS_LO n, R.XL_n_BITS_LO n + 4, R.XL_n_BERR_LO n, R.XL_n_BERR_LO n + 4, R.XL_n_MARK_TAG n, R.XL_n_MARK_TX_LO n, R.XL_n_MARK_TX_LO n + 4, R.XL_n_MARK_TIME_LO n, R.XL_n_MARK_TIME_LO n + 4, R.XL_n_CMD_REFUSED n] s t ∧
      (∀ m, m ≠ n.val → t.laneOf m = s.laneOf m) ∧
      t = { s with regs := t.regs, xl := t.xl })) ∧
  (∀ s : State, ∀ (n : Lane) (g : XlSeen), s.get (F.XL_n_CTRL_ENABLE n) = 1 → s.safe = false → s.get (F.XL_n_CTRL_TRAIN n) = 1 → 
    Completes (.xlRetrain n g) s (fun t => t.xlState n = 2 ∧
      t.get (F.XL_n_STATUS_TRAIN_DONE n) = 0 ∧
      t.get (F.XL_n_STATUS_CMD_RESULT n) = 0 ∧
      RegsBut [R.XL_n_STATUS n, R.XL_n_EVENT n, R.XL_n_EYE_STATUS n, R.XL_n_RX_WORD_LO n, R.XL_n_RX_WORD_LO n + 4, R.XL_n_BITS_LO n, R.XL_n_BITS_LO n + 4, R.XL_n_BERR_LO n, R.XL_n_BERR_LO n + 4, R.XL_n_MARK_TAG n, R.XL_n_MARK_TX_LO n, R.XL_n_MARK_TX_LO n + 4, R.XL_n_MARK_TIME_LO n, R.XL_n_MARK_TIME_LO n + 4, R.XL_n_CMD_REFUSED n] s t ∧
      (∀ m, m ≠ n.val → t.laneOf m = s.laneOf m) ∧
      t = { s with regs := t.regs, xl := t.xl })) ∧
  (∀ s : State, ∀ (n : Lane) (g : XlSeen), s.get (F.XL_n_CTRL_ENABLE n) = 1 → s.safe = false → s.get (F.XL_n_CTRL_TRAIN n) = 0 → 
    Completes (.xlRetrain n g) s (fun t => t.xlState n = s.xlState n ∧
      t.get (F.XL_n_STATUS_CMD_RESULT n) = 7 ∧
      t.bit (R.XL_n_EVENT n) 7 = true ∧
      RegsBut [R.XL_n_STATUS n, R.XL_n_EVENT n, R.XL_n_EYE_STATUS n, R.XL_n_RX_WORD_LO n, R.XL_n_RX_WORD_LO n + 4, R.XL_n_BITS_LO n, R.XL_n_BITS_LO n + 4, R.XL_n_BERR_LO n, R.XL_n_BERR_LO n + 4, R.XL_n_MARK_TAG n, R.XL_n_MARK_TX_LO n, R.XL_n_MARK_TX_LO n + 4, R.XL_n_MARK_TIME_LO n, R.XL_n_MARK_TIME_LO n + 4, R.XL_n_CMD_REFUSED n] s t ∧
      (∀ m, m ≠ n.val → t.laneOf m = s.laneOf m) ∧
      t = { s with regs := t.regs, xl := t.xl })) ∧
  (∀ s : State, ∀ (n : Lane) (g : XlSeen), s.get (F.XL_n_CTRL_ENABLE n) = 1 → s.safe = false → s.xlState n = 3 → s.get (F.XL_n_STATUS_LOCK n) = 1 → s.eyeRangeOk (s.pair (R.XL_n_EYE_BASE_LO n)) = true → s.get (F.XL_n_STATUS_EYE_BUSY n) = 0 → 
    Completes (.xlEyeStart n g) s (fun t => t.get (F.XL_n_STATUS_EYE_BUSY n) = 1 ∧
      t.num (R.XL_n_EYE_STATUS n) = 0 ∧
      (t.laneOf n).eyeBase = s.pair (R.XL_n_EYE_BASE_LO n) ∧
      (t.laneOf n).dwell = s.get (F.XL_n_EYE_CFG_DWELL n) ∧
      t.get (F.XL_n_STATUS_CMD_RESULT n) = 0 ∧
      RegsBut [R.XL_n_STATUS n, R.XL_n_EVENT n, R.XL_n_EYE_STATUS n, R.XL_n_RX_WORD_LO n, R.XL_n_RX_WORD_LO n + 4, R.XL_n_BITS_LO n, R.XL_n_BITS_LO n + 4, R.XL_n_BERR_LO n, R.XL_n_BERR_LO n + 4, R.XL_n_MARK_TAG n, R.XL_n_MARK_TX_LO n, R.XL_n_MARK_TX_LO n + 4, R.XL_n_MARK_TIME_LO n, R.XL_n_MARK_TIME_LO n + 4, R.XL_n_CMD_REFUSED n] s t ∧
      (∀ m, m ≠ n.val → t.laneOf m = s.laneOf m) ∧
      t = { s with regs := t.regs, xl := t.xl })) ∧
  (∀ s : State, ∀ (n : Lane) (g : XlSeen), s.get (F.XL_n_CTRL_ENABLE n) = 1 → s.safe = false → (s.xlState n ≠ 3 ∨ s.get (F.XL_n_STATUS_LOCK n) = 0) → 
    Completes (.xlEyeStart n g) s (fun t => t.get (F.XL_n_STATUS_CMD_RESULT n) = 4 ∧
      t.get (F.XL_n_STATUS_EYE_BUSY n) = s.get (F.XL_n_STATUS_EYE_BUSY n) ∧
      RegsBut [R.XL_n_STATUS n, R.XL_n_EVENT n, R.XL_n_EYE_STATUS n, R.XL_n_RX_WORD_LO n, R.XL_n_RX_WORD_LO n + 4, R.XL_n_BITS_LO n, R.XL_n_BITS_LO n + 4, R.XL_n_BERR_LO n, R.XL_n_BERR_LO n + 4, R.XL_n_MARK_TAG n, R.XL_n_MARK_TX_LO n, R.XL_n_MARK_TX_LO n + 4, R.XL_n_MARK_TIME_LO n, R.XL_n_MARK_TIME_LO n + 4, R.XL_n_CMD_REFUSED n] s t ∧
      (∀ m, m ≠ n.val → t.laneOf m = s.laneOf m) ∧
      t = { s with regs := t.regs, xl := t.xl })) ∧
  (∀ s : State, ∀ (n : Lane) (g : XlSeen), s.get (F.XL_n_CTRL_ENABLE n) = 1 → s.safe = false → s.xlState n = 3 → s.get (F.XL_n_STATUS_LOCK n) = 1 → s.eyeRangeOk (s.pair (R.XL_n_EYE_BASE_LO n)) = false → 
    Completes (.xlEyeStart n g) s (fun t => t.get (F.XL_n_STATUS_CMD_RESULT n) = 5 ∧
      t.get (F.XL_n_STATUS_EYE_BUSY n) = s.get (F.XL_n_STATUS_EYE_BUSY n) ∧
      RegsBut [R.XL_n_STATUS n, R.XL_n_EVENT n, R.XL_n_EYE_STATUS n, R.XL_n_RX_WORD_LO n, R.XL_n_RX_WORD_LO n + 4, R.XL_n_BITS_LO n, R.XL_n_BITS_LO n + 4, R.XL_n_BERR_LO n, R.XL_n_BERR_LO n + 4, R.XL_n_MARK_TAG n, R.XL_n_MARK_TX_LO n, R.XL_n_MARK_TX_LO n + 4, R.XL_n_MARK_TIME_LO n, R.XL_n_MARK_TIME_LO n + 4, R.XL_n_CMD_REFUSED n] s t ∧
      (∀ m, m ≠ n.val → t.laneOf m = s.laneOf m) ∧
      t = { s with regs := t.regs, xl := t.xl })) ∧
  (∀ s : State, ∀ (n : Lane) (g : XlSeen), s.get (F.XL_n_CTRL_ENABLE n) = 1 → s.safe = false → s.get (F.XL_n_STATUS_EYE_BUSY n) = 1 → 
    Completes (.xlEyeAbort n g) s (fun t => t.get (F.XL_n_STATUS_EYE_BUSY n) = 0 ∧
      t.get (F.XL_n_EYE_STATUS_ABORTED n) = 1 ∧
      t.get (F.XL_n_STATUS_CMD_RESULT n) = 0 ∧
      t.xlState n = s.xlState n ∧
      RegsBut [R.XL_n_STATUS n, R.XL_n_EVENT n, R.XL_n_EYE_STATUS n, R.XL_n_RX_WORD_LO n, R.XL_n_RX_WORD_LO n + 4, R.XL_n_BITS_LO n, R.XL_n_BITS_LO n + 4, R.XL_n_BERR_LO n, R.XL_n_BERR_LO n + 4, R.XL_n_MARK_TAG n, R.XL_n_MARK_TX_LO n, R.XL_n_MARK_TX_LO n + 4, R.XL_n_MARK_TIME_LO n, R.XL_n_MARK_TIME_LO n + 4, R.XL_n_CMD_REFUSED n] s t ∧
      (∀ m, m ≠ n.val → t.laneOf m = s.laneOf m) ∧
      t = { s with regs := t.regs, xl := t.xl })) ∧
  (∀ s : State, ∀ (n : Lane) (g : XlSeen), s.get (F.XL_n_CTRL_ENABLE n) = 0 → 
    Completes (.xlStart n g) s (fun t => t.get (F.XL_n_STATUS_CMD_RESULT n) = 1 ∧
      t.bit (R.XL_n_EVENT n) 7 = true ∧
      t.num (R.XL_n_CMD_REFUSED n) = min satMax (s.num (R.XL_n_CMD_REFUSED n) + 1) ∧
      t.xlState n = s.xlState n ∧
      RegsBut [R.XL_n_STATUS n, R.XL_n_EVENT n, R.XL_n_EYE_STATUS n, R.XL_n_RX_WORD_LO n, R.XL_n_RX_WORD_LO n + 4, R.XL_n_BITS_LO n, R.XL_n_BITS_LO n + 4, R.XL_n_BERR_LO n, R.XL_n_BERR_LO n + 4, R.XL_n_MARK_TAG n, R.XL_n_MARK_TX_LO n, R.XL_n_MARK_TX_LO n + 4, R.XL_n_MARK_TIME_LO n, R.XL_n_MARK_TIME_LO n + 4, R.XL_n_CMD_REFUSED n] s t ∧
      (∀ m, m ≠ n.val → t.laneOf m = s.laneOf m) ∧
      t = { s with regs := t.regs, xl := t.xl })) ∧
  (∀ s : State, ∀ (n : Lane) (g : XlSeen), s.get (F.XL_n_CTRL_ENABLE n) = 1 → s.safe = true → 
    Completes (.xlStart n g) s (fun t => t.get (F.XL_n_STATUS_CMD_RESULT n) = 3 ∧
      t.bit (R.XL_n_EVENT n) 7 = true ∧
      t.xlState n = s.xlState n ∧
      RegsBut [R.XL_n_STATUS n, R.XL_n_EVENT n, R.XL_n_EYE_STATUS n, R.XL_n_RX_WORD_LO n, R.XL_n_RX_WORD_LO n + 4, R.XL_n_BITS_LO n, R.XL_n_BITS_LO n + 4, R.XL_n_BERR_LO n, R.XL_n_BERR_LO n + 4, R.XL_n_MARK_TAG n, R.XL_n_MARK_TX_LO n, R.XL_n_MARK_TX_LO n + 4, R.XL_n_MARK_TIME_LO n, R.XL_n_MARK_TIME_LO n + 4, R.XL_n_CMD_REFUSED n] s t ∧
      (∀ m, m ≠ n.val → t.laneOf m = s.laneOf m) ∧
      t = { s with regs := t.regs, xl := t.xl })) ∧
  (∀ s : State, ∀ (n : Lane) (g : XlSeen), s.get (F.XL_n_CTRL_ENABLE n) = 0 → 
    Completes (.xlStop n g) s (fun t => t.get (F.XL_n_STATUS_CMD_RESULT n) = 1 ∧
      t.bit (R.XL_n_EVENT n) 7 = true ∧
      t.num (R.XL_n_CMD_REFUSED n) = min satMax (s.num (R.XL_n_CMD_REFUSED n) + 1) ∧
      t.xlState n = s.xlState n ∧
      RegsBut [R.XL_n_STATUS n, R.XL_n_EVENT n, R.XL_n_EYE_STATUS n, R.XL_n_RX_WORD_LO n, R.XL_n_RX_WORD_LO n + 4, R.XL_n_BITS_LO n, R.XL_n_BITS_LO n + 4, R.XL_n_BERR_LO n, R.XL_n_BERR_LO n + 4, R.XL_n_MARK_TAG n, R.XL_n_MARK_TX_LO n, R.XL_n_MARK_TX_LO n + 4, R.XL_n_MARK_TIME_LO n, R.XL_n_MARK_TIME_LO n + 4, R.XL_n_CMD_REFUSED n] s t ∧
      (∀ m, m ≠ n.val → t.laneOf m = s.laneOf m) ∧
      t = { s with regs := t.regs, xl := t.xl })) ∧
  (∀ s : State, ∀ (n : Lane) (g : XlSeen), s.get (F.XL_n_CTRL_ENABLE n) = 1 → s.safe = true → 
    Completes (.xlStop n g) s (fun t => t.get (F.XL_n_STATUS_CMD_RESULT n) = 3 ∧
      t.bit (R.XL_n_EVENT n) 7 = true ∧
      t.xlState n = s.xlState n ∧
      RegsBut [R.XL_n_STATUS n, R.XL_n_EVENT n, R.XL_n_EYE_STATUS n, R.XL_n_RX_WORD_LO n, R.XL_n_RX_WORD_LO n + 4, R.XL_n_BITS_LO n, R.XL_n_BITS_LO n + 4, R.XL_n_BERR_LO n, R.XL_n_BERR_LO n + 4, R.XL_n_MARK_TAG n, R.XL_n_MARK_TX_LO n, R.XL_n_MARK_TX_LO n + 4, R.XL_n_MARK_TIME_LO n, R.XL_n_MARK_TIME_LO n + 4, R.XL_n_CMD_REFUSED n] s t ∧
      (∀ m, m ≠ n.val → t.laneOf m = s.laneOf m) ∧
      t = { s with regs := t.regs, xl := t.xl })) ∧
  (∀ s : State, ∀ (n : Lane) (g : XlSeen), s.get (F.XL_n_CTRL_ENABLE n) = 0 → 
    Completes (.xlBitslip n g) s (fun t => t.get (F.XL_n_STATUS_CMD_RESULT n) = 1 ∧
      t.bit (R.XL_n_EVENT n) 7 = true ∧
      t.num (R.XL_n_CMD_REFUSED n) = min satMax (s.num (R.XL_n_CMD_REFUSED n) + 1) ∧
      t.xlState n = s.xlState n ∧
      RegsBut [R.XL_n_STATUS n, R.XL_n_EVENT n, R.XL_n_EYE_STATUS n, R.XL_n_RX_WORD_LO n, R.XL_n_RX_WORD_LO n + 4, R.XL_n_BITS_LO n, R.XL_n_BITS_LO n + 4, R.XL_n_BERR_LO n, R.XL_n_BERR_LO n + 4, R.XL_n_MARK_TAG n, R.XL_n_MARK_TX_LO n, R.XL_n_MARK_TX_LO n + 4, R.XL_n_MARK_TIME_LO n, R.XL_n_MARK_TIME_LO n + 4, R.XL_n_CMD_REFUSED n] s t ∧
      (∀ m, m ≠ n.val → t.laneOf m = s.laneOf m) ∧
      t = { s with regs := t.regs, xl := t.xl })) ∧
  (∀ s : State, ∀ (n : Lane) (g : XlSeen), s.get (F.XL_n_CTRL_ENABLE n) = 1 → s.safe = true → 
    Completes (.xlBitslip n g) s (fun t => t.get (F.XL_n_STATUS_CMD_RESULT n) = 3 ∧
      t.bit (R.XL_n_EVENT n) 7 = true ∧
      t.xlState n = s.xlState n ∧
      RegsBut [R.XL_n_STATUS n, R.XL_n_EVENT n, R.XL_n_EYE_STATUS n, R.XL_n_RX_WORD_LO n, R.XL_n_RX_WORD_LO n + 4, R.XL_n_BITS_LO n, R.XL_n_BITS_LO n + 4, R.XL_n_BERR_LO n, R.XL_n_BERR_LO n + 4, R.XL_n_MARK_TAG n, R.XL_n_MARK_TX_LO n, R.XL_n_MARK_TX_LO n + 4, R.XL_n_MARK_TIME_LO n, R.XL_n_MARK_TIME_LO n + 4, R.XL_n_CMD_REFUSED n] s t ∧
      (∀ m, m ≠ n.val → t.laneOf m = s.laneOf m) ∧
      t = { s with regs := t.regs, xl := t.xl })) ∧
  (∀ s : State, ∀ (n : Lane) (g : XlSeen), s.get (F.XL_n_CTRL_ENABLE n) = 0 → 
    Completes (.xlMark n g) s (fun t => t.get (F.XL_n_STATUS_CMD_RESULT n) = 1 ∧
      t.bit (R.XL_n_EVENT n) 7 = true ∧
      t.num (R.XL_n_CMD_REFUSED n) = min satMax (s.num (R.XL_n_CMD_REFUSED n) + 1) ∧
      t.xlState n = s.xlState n ∧
      RegsBut [R.XL_n_STATUS n, R.XL_n_EVENT n, R.XL_n_EYE_STATUS n, R.XL_n_RX_WORD_LO n, R.XL_n_RX_WORD_LO n + 4, R.XL_n_BITS_LO n, R.XL_n_BITS_LO n + 4, R.XL_n_BERR_LO n, R.XL_n_BERR_LO n + 4, R.XL_n_MARK_TAG n, R.XL_n_MARK_TX_LO n, R.XL_n_MARK_TX_LO n + 4, R.XL_n_MARK_TIME_LO n, R.XL_n_MARK_TIME_LO n + 4, R.XL_n_CMD_REFUSED n] s t ∧
      (∀ m, m ≠ n.val → t.laneOf m = s.laneOf m) ∧
      t = { s with regs := t.regs, xl := t.xl })) ∧
  (∀ s : State, ∀ (n : Lane) (g : XlSeen), s.get (F.XL_n_CTRL_ENABLE n) = 1 → s.safe = true → 
    Completes (.xlMark n g) s (fun t => t.get (F.XL_n_STATUS_CMD_RESULT n) = 3 ∧
      t.bit (R.XL_n_EVENT n) 7 = true ∧
      t.xlState n = s.xlState n ∧
      RegsBut [R.XL_n_STATUS n, R.XL_n_EVENT n, R.XL_n_EYE_STATUS n, R.XL_n_RX_WORD_LO n, R.XL_n_RX_WORD_LO n + 4, R.XL_n_BITS_LO n, R.XL_n_BITS_LO n + 4, R.XL_n_BERR_LO n, R.XL_n_BERR_LO n + 4, R.XL_n_MARK_TAG n, R.XL_n_MARK_TX_LO n, R.XL_n_MARK_TX_LO n + 4, R.XL_n_MARK_TIME_LO n, R.XL_n_MARK_TIME_LO n + 4, R.XL_n_CMD_REFUSED n] s t ∧
      (∀ m, m ≠ n.val → t.laneOf m = s.laneOf m) ∧
      t = { s with regs := t.regs, xl := t.xl })) ∧
  (∀ s : State, ∀ (n : Lane) (g : XlSeen), s.get (F.XL_n_CTRL_ENABLE n) = 0 → 
    Completes (.xlRetrain n g) s (fun t => t.get (F.XL_n_STATUS_CMD_RESULT n) = 1 ∧
      t.bit (R.XL_n_EVENT n) 7 = true ∧
      t.num (R.XL_n_CMD_REFUSED n) = min satMax (s.num (R.XL_n_CMD_REFUSED n) + 1) ∧
      t.xlState n = s.xlState n ∧
      RegsBut [R.XL_n_STATUS n, R.XL_n_EVENT n, R.XL_n_EYE_STATUS n, R.XL_n_RX_WORD_LO n, R.XL_n_RX_WORD_LO n + 4, R.XL_n_BITS_LO n, R.XL_n_BITS_LO n + 4, R.XL_n_BERR_LO n, R.XL_n_BERR_LO n + 4, R.XL_n_MARK_TAG n, R.XL_n_MARK_TX_LO n, R.XL_n_MARK_TX_LO n + 4, R.XL_n_MARK_TIME_LO n, R.XL_n_MARK_TIME_LO n + 4, R.XL_n_CMD_REFUSED n] s t ∧
      (∀ m, m ≠ n.val → t.laneOf m = s.laneOf m) ∧
      t = { s with regs := t.regs, xl := t.xl })) ∧
  (∀ s : State, ∀ (n : Lane) (g : XlSeen), s.get (F.XL_n_CTRL_ENABLE n) = 1 → s.safe = true → 
    Completes (.xlRetrain n g) s (fun t => t.get (F.XL_n_STATUS_CMD_RESULT n) = 3 ∧
      t.bit (R.XL_n_EVENT n) 7 = true ∧
      t.xlState n = s.xlState n ∧
      RegsBut [R.XL_n_STATUS n, R.XL_n_EVENT n, R.XL_n_EYE_STATUS n, R.XL_n_RX_WORD_LO n, R.XL_n_RX_WORD_LO n + 4, R.XL_n_BITS_LO n, R.XL_n_BITS_LO n + 4, R.XL_n_BERR_LO n, R.XL_n_BERR_LO n + 4, R.XL_n_MARK_TAG n, R.XL_n_MARK_TX_LO n, R.XL_n_MARK_TX_LO n + 4, R.XL_n_MARK_TIME_LO n, R.XL_n_MARK_TIME_LO n + 4, R.XL_n_CMD_REFUSED n] s t ∧
      (∀ m, m ≠ n.val → t.laneOf m = s.laneOf m) ∧
      t = { s with regs := t.regs, xl := t.xl })) ∧
  (∀ s : State, ∀ (n : Lane) (g : XlSeen), s.get (F.XL_n_CTRL_ENABLE n) = 0 → 
    Completes (.xlEyeStart n g) s (fun t => t.get (F.XL_n_STATUS_CMD_RESULT n) = 1 ∧
      t.bit (R.XL_n_EVENT n) 7 = true ∧
      t.num (R.XL_n_CMD_REFUSED n) = min satMax (s.num (R.XL_n_CMD_REFUSED n) + 1) ∧
      t.xlState n = s.xlState n ∧
      RegsBut [R.XL_n_STATUS n, R.XL_n_EVENT n, R.XL_n_EYE_STATUS n, R.XL_n_RX_WORD_LO n, R.XL_n_RX_WORD_LO n + 4, R.XL_n_BITS_LO n, R.XL_n_BITS_LO n + 4, R.XL_n_BERR_LO n, R.XL_n_BERR_LO n + 4, R.XL_n_MARK_TAG n, R.XL_n_MARK_TX_LO n, R.XL_n_MARK_TX_LO n + 4, R.XL_n_MARK_TIME_LO n, R.XL_n_MARK_TIME_LO n + 4, R.XL_n_CMD_REFUSED n] s t ∧
      (∀ m, m ≠ n.val → t.laneOf m = s.laneOf m) ∧
      t = { s with regs := t.regs, xl := t.xl })) ∧
  (∀ s : State, ∀ (n : Lane) (g : XlSeen), s.get (F.XL_n_CTRL_ENABLE n) = 1 → s.safe = true → 
    Completes (.xlEyeStart n g) s (fun t => t.get (F.XL_n_STATUS_CMD_RESULT n) = 3 ∧
      t.bit (R.XL_n_EVENT n) 7 = true ∧
      t.xlState n = s.xlState n ∧
      RegsBut [R.XL_n_STATUS n, R.XL_n_EVENT n, R.XL_n_EYE_STATUS n, R.XL_n_RX_WORD_LO n, R.XL_n_RX_WORD_LO n + 4, R.XL_n_BITS_LO n, R.XL_n_BITS_LO n + 4, R.XL_n_BERR_LO n, R.XL_n_BERR_LO n + 4, R.XL_n_MARK_TAG n, R.XL_n_MARK_TX_LO n, R.XL_n_MARK_TX_LO n + 4, R.XL_n_MARK_TIME_LO n, R.XL_n_MARK_TIME_LO n + 4, R.XL_n_CMD_REFUSED n] s t ∧
      (∀ m, m ≠ n.val → t.laneOf m = s.laneOf m) ∧
      t = { s with regs := t.regs, xl := t.xl })) ∧
  (∀ s : State, ∀ (n : Lane) (g : XlSeen), s.get (F.XL_n_CTRL_ENABLE n) = 0 → 
    Completes (.xlEyeAbort n g) s (fun t => t.get (F.XL_n_STATUS_CMD_RESULT n) = 1 ∧
      t.bit (R.XL_n_EVENT n) 7 = true ∧
      t.num (R.XL_n_CMD_REFUSED n) = min satMax (s.num (R.XL_n_CMD_REFUSED n) + 1) ∧
      t.xlState n = s.xlState n ∧
      RegsBut [R.XL_n_STATUS n, R.XL_n_EVENT n, R.XL_n_EYE_STATUS n, R.XL_n_RX_WORD_LO n, R.XL_n_RX_WORD_LO n + 4, R.XL_n_BITS_LO n, R.XL_n_BITS_LO n + 4, R.XL_n_BERR_LO n, R.XL_n_BERR_LO n + 4, R.XL_n_MARK_TAG n, R.XL_n_MARK_TX_LO n, R.XL_n_MARK_TX_LO n + 4, R.XL_n_MARK_TIME_LO n, R.XL_n_MARK_TIME_LO n + 4, R.XL_n_CMD_REFUSED n] s t ∧
      (∀ m, m ≠ n.val → t.laneOf m = s.laneOf m) ∧
      t = { s with regs := t.regs, xl := t.xl })) ∧
  (∀ s : State, ∀ (n : Lane) (g : XlSeen), s.get (F.XL_n_CTRL_ENABLE n) = 1 → s.safe = true → 
    Completes (.xlEyeAbort n g) s (fun t => t.get (F.XL_n_STATUS_CMD_RESULT n) = 3 ∧
      t.bit (R.XL_n_EVENT n) 7 = true ∧
      t.xlState n = s.xlState n ∧
      RegsBut [R.XL_n_STATUS n, R.XL_n_EVENT n, R.XL_n_EYE_STATUS n, R.XL_n_RX_WORD_LO n, R.XL_n_RX_WORD_LO n + 4, R.XL_n_BITS_LO n, R.XL_n_BITS_LO n + 4, R.XL_n_BERR_LO n, R.XL_n_BERR_LO n + 4, R.XL_n_MARK_TAG n, R.XL_n_MARK_TX_LO n, R.XL_n_MARK_TX_LO n + 4, R.XL_n_MARK_TIME_LO n, R.XL_n_MARK_TIME_LO n + 4, R.XL_n_CMD_REFUSED n] s t ∧
      (∀ m, m ≠ n.val → t.laneOf m = s.laneOf m) ∧
      t = { s with regs := t.regs, xl := t.xl }))

/-- R303, R307 to R311, R315, R320 to R326: the events of a lane. -/
def Obligations.ExpressLaneEvents : Prop :=
  (∀ s : State, ∀ (n : Lane), s.get (F.XL_n_CTRL_ENABLE n) = 1 → 
    Completes (.xlPllLock n) s (fun t => t.get (F.XL_n_STATUS_PLL_LOCK n) = 1 ∧
      (t.laneOf n).txOn = ((s.laneOf n).txOn || s.xlState n == 3) ∧
      RegsBut [R.XL_n_STATUS n, R.XL_n_EVENT n, R.XL_n_EYE_STATUS n, R.XL_n_RX_WORD_LO n, R.XL_n_RX_WORD_LO n + 4, R.XL_n_BITS_LO n, R.XL_n_BITS_LO n + 4, R.XL_n_BERR_LO n, R.XL_n_BERR_LO n + 4, R.XL_n_MARK_TAG n, R.XL_n_MARK_TX_LO n, R.XL_n_MARK_TX_LO n + 4, R.XL_n_MARK_TIME_LO n, R.XL_n_MARK_TIME_LO n + 4, R.XL_n_CMD_REFUSED n] s t ∧
      (∀ m, m ≠ n.val → t.laneOf m = s.laneOf m) ∧
      t = { s with regs := t.regs, xl := t.xl })) ∧
  (∀ s : State, ∀ (n : Lane) (a : Nat) (b : Nat), s.xlState n = 2 → (s.laneOf n).pendStart = false → a ≤ 8 → b ≤ 16 → a + b ≤ 20 → 
    Completes (.xlTrainDone n a b) s (fun t => t.xlState n = 1 ∧
      t.get (F.XL_n_STATUS_TRAIN_DONE n) = 1 ∧
      t.get (F.XL_n_FFE_PRE n) = a ∧
      t.get (F.XL_n_FFE_POST n) = b ∧
      RegsBut [R.XL_n_STATUS n, R.XL_n_EYE_STATUS n, R.XL_n_FFE n, R.XL_n_EVENT n] s t ∧
      t = { s with regs := t.regs, xl := t.xl })) ∧
  (∀ s : State, ∀ (n : Lane) (a : Nat) (b : Nat), s.xlState n = 2 → (s.laneOf n).pendStart = true → s.badLaneDrawer n = false → a ≤ 8 → b ≤ 16 → a + b ≤ 20 → 
    Completes (.xlTrainDone n a b) s (fun t => t.xlState n = 3 ∧
      t.get (F.XL_n_STATUS_TRAIN_DONE n) = 1 ∧
      (t.laneOf n).pendStart = false ∧
      ((s.laneOf n).pendKeep = false → t.pair (R.XL_n_BERR_LO n) = 0) ∧
      t.mem = s.mem)) ∧
  (∀ s : State, ∀ (n : Lane), s.xlState n = 2 → (s.laneOf n).pendStart = false → 
    Completes (.xlTrainTimeout n) s (fun t => t.xlState n = 1 ∧
      t.get (F.XL_n_STATUS_TRAIN_DONE n) = s.get (F.XL_n_STATUS_TRAIN_DONE n) ∧
      t.bit (R.XL_n_EVENT n) 5 = true ∧
      RegsBut [R.XL_n_STATUS n, R.XL_n_EYE_STATUS n, R.XL_n_FFE n, R.XL_n_EVENT n] s t ∧
      t = { s with regs := t.regs, xl := t.xl })) ∧
  (∀ s : State, ∀ (n : Lane) (g : XlSeen), s.prbsOn n = true → 
    Completes (.xlPrbsLock n g) s (fun t => t.get (F.XL_n_STATUS_LOCK n) = 1 ∧
      t.xlState n = 3 ∧
      RegsBut [R.XL_n_STATUS n, R.XL_n_EVENT n, R.XL_n_EYE_STATUS n, R.XL_n_RX_WORD_LO n, R.XL_n_RX_WORD_LO n + 4, R.XL_n_BITS_LO n, R.XL_n_BITS_LO n + 4, R.XL_n_BERR_LO n, R.XL_n_BERR_LO n + 4, R.XL_n_MARK_TAG n, R.XL_n_MARK_TX_LO n, R.XL_n_MARK_TX_LO n + 4, R.XL_n_MARK_TIME_LO n, R.XL_n_MARK_TIME_LO n + 4, R.XL_n_CMD_REFUSED n] s t ∧
      (∀ m, m ≠ n.val → t.laneOf m = s.laneOf m) ∧
      t = { s with regs := t.regs, xl := t.xl })) ∧
  (∀ s : State, ∀ (n : Lane) (g : XlSeen), s.prbsOn n = true → s.get (F.XL_n_STATUS_LOCK n) = 1 → 
    Completes (.xlLockLoss n g) s (fun t => t.get (F.XL_n_STATUS_LOCK n) = 0 ∧
      t.num (R.XL_n_LOCK_LOSS n) = min satMax (s.num (R.XL_n_LOCK_LOSS n) + 1) ∧
      t.bit (R.XL_n_EVENT n) 1 = true ∧
      t.get (F.XL_n_STATUS_EYE_BUSY n) = 0 ∧
      t.xlState n = 3 ∧
      t = { s with regs := t.regs, xl := t.xl })) ∧
  (∀ s : State, ∀ (n : Lane) (g : XlSeen), s.xlState n = 3 → (s.laneOf n).checker = true → 
    Completes (.xlSigLoss n g) s (fun t => t.get (F.XL_n_STATUS_SIG_DET n) = 0 ∧
      t.bit (R.XL_n_EVENT n) 2 = true ∧
      t.xlState n = 3 ∧
      RegsBut [R.XL_n_STATUS n, R.XL_n_EVENT n, R.XL_n_EYE_STATUS n, R.XL_n_RX_WORD_LO n, R.XL_n_RX_WORD_LO n + 4, R.XL_n_BITS_LO n, R.XL_n_BITS_LO n + 4, R.XL_n_BERR_LO n, R.XL_n_BERR_LO n + 4, R.XL_n_MARK_TAG n, R.XL_n_MARK_TX_LO n, R.XL_n_MARK_TX_LO n + 4, R.XL_n_MARK_TIME_LO n, R.XL_n_MARK_TIME_LO n + 4, R.XL_n_CMD_REFUSED n] s t ∧
      (∀ m, m ≠ n.val → t.laneOf m = s.laneOf m) ∧
      t = { s with regs := t.regs, xl := t.xl })) ∧
  (∀ s : State, ∀ (n : Lane) (g : XlSeen) (old : Nat), s.xlState n = 3 → (s.laneOf n).checker = true → s.get (F.XL_n_STATUS_LOCK n) = 1 → old = s.pair (R.XL_n_BERR_LO n) → s.num (R.XL_n_ERR_THRESH n) ≠ 0 → old < s.num (R.XL_n_ERR_THRESH n) → s.num (R.XL_n_ERR_THRESH n) ≤ old + g.errs → g.errs ≤ g.bits → old + g.errs < 2 ^ 48 → s.pair (R.XL_n_BITS_LO n) + g.bits < 2 ^ 48 → 
    Completes (.xlErrThresh n g) s (fun t => t.bit (R.XL_n_EVENT n) 0 = true ∧
      t.pair (R.XL_n_BERR_LO n) = old + g.errs ∧
      t.pair (R.XL_n_BITS_LO n) = s.pair (R.XL_n_BITS_LO n) + g.bits ∧
      t.pair (R.XL_n_RX_WORD_LO n) = g.rx.toNat ∧
      RegsBut [R.XL_n_STATUS n, R.XL_n_EVENT n, R.XL_n_EYE_STATUS n, R.XL_n_RX_WORD_LO n, R.XL_n_RX_WORD_LO n + 4, R.XL_n_BITS_LO n, R.XL_n_BITS_LO n + 4, R.XL_n_BERR_LO n, R.XL_n_BERR_LO n + 4, R.XL_n_MARK_TAG n, R.XL_n_MARK_TX_LO n, R.XL_n_MARK_TX_LO n + 4, R.XL_n_MARK_TIME_LO n, R.XL_n_MARK_TIME_LO n + 4, R.XL_n_CMD_REFUSED n] s t ∧
      (∀ m, m ≠ n.val → t.laneOf m = s.laneOf m) ∧
      t = { s with regs := t.regs, xl := t.xl })) ∧
  (∀ s : State, ∀ (n : Lane) (g : XlSeen), s.xlState n = 3 → (s.laneOf n).txSrc = 7 → (s.laneOf n).loop ≠ 2 → (s.laneOf n).payloadEnded = false → (s.laneOf n).repeat_ = false → 
    Completes (.xlPayloadEnd n g) s (fun t => t.bit (R.XL_n_EVENT n) 4 = true ∧
      (t.laneOf n).payloadEnded = true ∧
      t.xlState n = 3 ∧
      RegsBut [R.XL_n_STATUS n, R.XL_n_EVENT n, R.XL_n_EYE_STATUS n, R.XL_n_RX_WORD_LO n, R.XL_n_RX_WORD_LO n + 4, R.XL_n_BITS_LO n, R.XL_n_BITS_LO n + 4, R.XL_n_BERR_LO n, R.XL_n_BERR_LO n + 4, R.XL_n_MARK_TAG n, R.XL_n_MARK_TX_LO n, R.XL_n_MARK_TX_LO n + 4, R.XL_n_MARK_TIME_LO n, R.XL_n_MARK_TIME_LO n + 4, R.XL_n_CMD_REFUSED n] s t ∧
      (∀ m, m ≠ n.val → t.laneOf m = s.laneOf m) ∧
      t = { s with regs := t.regs, xl := t.xl })) ∧
  (∀ s : State, ∀ (n : Lane) (g : XlSeen), s.xlState n = 3 → (s.laneOf n).repeat_ = true → 
    Completes (.xlPayloadEnd n g) s (fun t => (t.laneOf n).payloadEnded = (s.laneOf n).payloadEnded ∧
      t.xlState n = 3 ∧
      t.bit (R.XL_n_EVENT n) 4 = s.bit (R.XL_n_EVENT n) 4 ∧
      RegsBut [R.XL_n_STATUS n, R.XL_n_EVENT n, R.XL_n_EYE_STATUS n, R.XL_n_RX_WORD_LO n, R.XL_n_RX_WORD_LO n + 4, R.XL_n_BITS_LO n, R.XL_n_BITS_LO n + 4, R.XL_n_BERR_LO n, R.XL_n_BERR_LO n + 4, R.XL_n_MARK_TAG n, R.XL_n_MARK_TX_LO n, R.XL_n_MARK_TX_LO n + 4, R.XL_n_MARK_TIME_LO n, R.XL_n_MARK_TIME_LO n + 4, R.XL_n_CMD_REFUSED n] s t ∧
      (∀ m, m ≠ n.val → t.laneOf m = s.laneOf m) ∧
      t = { s with regs := t.regs, xl := t.xl })) ∧
  (∀ s : State, ∀ (n : Lane) (cnt : Nat) (p : Nat), s.get (F.XL_n_STATUS_EYE_BUSY n) = 1 → p = s.get (F.XL_n_EYE_STATUS_POINTS n) → p < 8191 → (s.laneOf n).dwell < 32 → 
    Completes (.xlEyePointDone n cnt) s (fun t => (∀ i : Fin 4, t.rdByte ((s.laneOf n).eyeBase + 4 * p + i) = BitVec.ofNat 8 (min cnt (2 ^ (s.laneOf n).dwell) / 256 ^ i.val % 256)) ∧
      MemBut ((s.laneOf n).eyeBase + 4 * p) 4 s t ∧
      t.get (F.XL_n_EYE_STATUS_POINTS n) = p + 1 ∧
      t.get (F.XL_n_STATUS_EYE_BUSY n) = 1 ∧
      RegsBut [R.XL_n_EYE_STATUS n] s t ∧
      t = { s with regs := t.regs, mem := t.mem, hart := t.hart })) ∧
  (∀ s : State, ∀ (n : Lane) (cnt : Nat), s.get (F.XL_n_STATUS_EYE_BUSY n) = 1 → s.get (F.XL_n_EYE_STATUS_POINTS n) = 8191 → 
    Completes (.xlEyePointDone n cnt) s (fun t => t.get (F.XL_n_EYE_STATUS_POINTS n) = 8192 ∧
      t.get (F.XL_n_STATUS_EYE_BUSY n) = 0 ∧
      t.bit (R.XL_n_EVENT n) 6 = true ∧
      MemBut ((s.laneOf n).eyeBase + 32764) 4 s t)) ∧
  (∀ s : State, ∀ (n : Lane) (g : XlSeen) (a : LaneAct) (l : List LaneAct), s.get (F.XL_n_CTRL_ENABLE n) = 1 → s.safe = false → (s.laneOf n).acts = a :: l → a.act = 1 → a.arg.testBit 0 = false → 
    Completes (.xlmarkLaneAct n g) s (fun t => t.xlState n = 1 ∧
      (t.laneOf n).acts = l ∧
      (t.laneOf n).txOn = false ∧
      RegsBut [R.XL_n_STATUS n, R.XL_n_EVENT n, R.XL_n_EYE_STATUS n, R.XL_n_RX_WORD_LO n, R.XL_n_RX_WORD_LO n + 4, R.XL_n_BITS_LO n, R.XL_n_BITS_LO n + 4, R.XL_n_BERR_LO n, R.XL_n_BERR_LO n + 4, R.XL_n_MARK_TAG n, R.XL_n_MARK_TX_LO n, R.XL_n_MARK_TX_LO n + 4, R.XL_n_MARK_TIME_LO n, R.XL_n_MARK_TIME_LO n + 4, R.XL_n_CMD_REFUSED n] s t ∧
      (∀ m, m ≠ n.val → t.laneOf m = s.laneOf m) ∧
      t = { s with regs := t.regs, xl := t.xl })) ∧
  (∀ s : State, ∀ (n : Lane) (g : XlSeen) (a : LaneAct) (l : List LaneAct), s.get (F.XL_n_CTRL_ENABLE n) = 1 → s.safe = false → (s.laneOf n).acts = a :: l → a.act = 1 → a.arg.testBit 0 = true → s.xlState n = 3 → 
    Completes (.xlmarkLaneAct n g) s (fun t => t.xlState n = 3 ∧
      (t.laneOf n).acts = l ∧
      (t.laneOf n).checker = false ∧
      RegsBut [R.XL_n_STATUS n, R.XL_n_EVENT n, R.XL_n_EYE_STATUS n, R.XL_n_RX_WORD_LO n, R.XL_n_RX_WORD_LO n + 4, R.XL_n_BITS_LO n, R.XL_n_BITS_LO n + 4, R.XL_n_BERR_LO n, R.XL_n_BERR_LO n + 4, R.XL_n_MARK_TAG n, R.XL_n_MARK_TX_LO n, R.XL_n_MARK_TX_LO n + 4, R.XL_n_MARK_TIME_LO n, R.XL_n_MARK_TIME_LO n + 4, R.XL_n_CMD_REFUSED n] s t ∧
      (∀ m, m ≠ n.val → t.laneOf m = s.laneOf m) ∧
      t = { s with regs := t.regs, xl := t.xl })) ∧
  (∀ s : State, ∀ (n : Lane) (g : XlSeen) (a : LaneAct) (l : List LaneAct), s.get (F.XL_n_CTRL_ENABLE n) = 1 → s.safe = false → (s.laneOf n).acts = a :: l → a.act = 2 → a.arg < 2 ^ 8 → 
    Completes (.xlmarkLaneAct n g) s (fun t => (t.laneOf n).acts = l ∧
      t.get (F.XL_n_MARK_TAG_TAG n) = a.arg ∧
      t.pair (R.XL_n_MARK_TIME_LO n) = a.tb % 2 ^ 64 ∧
      t.pair (R.XL_n_MARK_TX_LO n) = g.sent % 2 ^ 48 ∧
      t.bit (R.XL_n_EVENT n) 3 = true ∧
      t.xlState n = s.xlState n ∧
      RegsBut [R.XL_n_STATUS n, R.XL_n_EVENT n, R.XL_n_EYE_STATUS n, R.XL_n_RX_WORD_LO n, R.XL_n_RX_WORD_LO n + 4, R.XL_n_BITS_LO n, R.XL_n_BITS_LO n + 4, R.XL_n_BERR_LO n, R.XL_n_BERR_LO n + 4, R.XL_n_MARK_TAG n, R.XL_n_MARK_TX_LO n, R.XL_n_MARK_TX_LO n + 4, R.XL_n_MARK_TIME_LO n, R.XL_n_MARK_TIME_LO n + 4, R.XL_n_CMD_REFUSED n] s t ∧
      (∀ m, m ≠ n.val → t.laneOf m = s.laneOf m) ∧
      t = { s with regs := t.regs, xl := t.xl })) ∧
  (∀ s : State, ∀ (n : Lane) (g : XlSeen) (a : LaneAct) (l : List LaneAct), s.get (F.XL_n_CTRL_ENABLE n) = 1 → s.safe = false → (s.laneOf n).acts = a :: l → a.act = 0 → s.badLaneDrawer n = false → s.xlState n ≠ 2 → 
    Completes (.xlmarkLaneAct n g) s (fun t => t.xlState n = 3 ∧
      (t.laneOf n).acts = l ∧
      (a.arg.testBit 0 = false → t.pair (R.XL_n_BITS_LO n) = 0) ∧
      RegsBut [R.XL_n_STATUS n, R.XL_n_EVENT n, R.XL_n_EYE_STATUS n, R.XL_n_RX_WORD_LO n, R.XL_n_RX_WORD_LO n + 4, R.XL_n_BITS_LO n, R.XL_n_BITS_LO n + 4, R.XL_n_BERR_LO n, R.XL_n_BERR_LO n + 4, R.XL_n_MARK_TAG n, R.XL_n_MARK_TX_LO n, R.XL_n_MARK_TX_LO n + 4, R.XL_n_MARK_TIME_LO n, R.XL_n_MARK_TIME_LO n + 4, R.XL_n_CMD_REFUSED n] s t ∧
      (∀ m, m ≠ n.val → t.laneOf m = s.laneOf m) ∧
      t = { s with regs := t.regs, xl := t.xl })) ∧
  (∀ s : State, ∀ (n : Lane) (g : XlSeen), (s.laneOf n).haltStop = true → (s.xlState n = 3 ∨ s.xlState n = 2) → 
    Completes (.xlHaltStop n g) s (fun t => t.xlState n = 1 ∧
      (t.laneOf n).haltStop = false ∧
      RegsBut [R.XL_n_STATUS n, R.XL_n_EVENT n, R.XL_n_EYE_STATUS n, R.XL_n_RX_WORD_LO n, R.XL_n_RX_WORD_LO n + 4, R.XL_n_BITS_LO n, R.XL_n_BITS_LO n + 4, R.XL_n_BERR_LO n, R.XL_n_BERR_LO n + 4, R.XL_n_MARK_TAG n, R.XL_n_MARK_TX_LO n, R.XL_n_MARK_TX_LO n + 4, R.XL_n_MARK_TIME_LO n, R.XL_n_MARK_TIME_LO n + 4, R.XL_n_CMD_REFUSED n] s t ∧
      (∀ m, m ≠ n.val → t.laneOf m = s.laneOf m) ∧
      t = { s with regs := t.regs, xl := t.xl })) ∧
  (∀ s : State, ∀ (n : Lane) (m : Site), Nat.land (s.laneOf n).flagged (s.get (F.XL_n_FLAG_EN_EN n)) ≠ 0 → s.get (F.XL_n_BIND_OWNED n) = 1 → s.get (F.XL_n_BIND_SITE n) = m → 
    Completes (.xlEventFlagSet n) s (fun t => t.flag m 8 = true ∧
      (t.laneOf n).flagged = 0 ∧
      RegsBut [R.SEQ_CTX_n_FLAGS m] s t ∧
      t = { s with regs := t.regs, xl := t.xl, capt := t.capt })) ∧
  (∀ s : State, ∀ (n : Lane), s.get (F.XL_n_BIND_OWNED n) = 0 → 
    exec (.xlEventFlagSet n) s = .next (s.updLane n (fun x => { x with flagged := 0 })))

/-- R329 to R334, R350: the CORE commands, STORE_BUFFER_DRAIN and MTIMECMP_MATCH. SC answers 1 where it fails (the model's choice, PRESUMED: log entry 40). -/
def Obligations.SiteCores : Prop :=
  (∀ s : State, ∀ (n : Core) (v : Word), s.get (F.SCHED_CORE_n_CTRL_RUN n) = 0 → bitsOf v 0 0 = 1 → s.get (F.SCHED_CORE_n_CFG_SCHED_EN n) = 0 → 
    Completes (.coreRunWrite n v) s (fun t => t.get (F.SCHED_CORE_n_CTRL_RUN n) = 1 ∧
      (t.hartOf n).pc = BitVec.ofNat 64 (s.pair (R.SCHED_CORE_n_RESET_PC_LO n)) ∧
      (t.hartOf n).user = false ∧
      (t.hartOf n).resv = none ∧
      (t.hartOf n).x = (s.hartOf n).x ∧
      t.get (F.SCHED_CORE_n_STATUS_RUNNING n) = 1 ∧
      (∀ m, m ≠ n.val → t.hartOf m = s.hartOf m) ∧
      RegsBut [R.SCHED_CORE_n_CTRL n, R.SCHED_CORE_n_STATUS n] s t ∧
      t = { s with regs := t.regs, hart := t.hart })) ∧
  (∀ s : State, ∀ (n : Core) (v : Word), s.get (F.SCHED_CORE_n_CTRL_RUN n) = 1 → bitsOf v 0 0 = 0 → (s.slotOfCore n).slot = none → (s.slotOfCore n).svc = none → 
    Completes (.coreRunWrite n v) s (fun t => t.get (F.SCHED_CORE_n_CTRL_RUN n) = 0 ∧
      (t.hartOf n).wfi = false ∧
      (t.hartOf n).resv = none ∧
      (t.hartOf n).sb = (s.hartOf n).sb ∧
      t.get (F.SCHED_CORE_n_STATUS_RUNNING n) = 0 ∧
      RegsBut [R.SCHED_CORE_n_CTRL n, R.SCHED_CORE_n_STATUS n] s t)) ∧
  (∀ s : State, ∀ (n : Core) (e : Store) (l : List Store), (s.hartOf n).sb = e :: l → 0xD00000000 ≤ e.addr → e.addr + e.data.length ≤ 0xD00400000 → 
    Completes (.storeBufferDrain n) s (fun t => (t.hartOf n).sb = l ∧
      (t.hartOf n).x = (s.hartOf n).x ∧
      (∀ i (h : i < e.data.length), t.rdByte (e.addr + i) = e.data[i]) ∧
      MemBut e.addr e.data.length s t ∧
      t = { s with mem := t.mem, hart := t.hart })) ∧
  (∀ s : State, ∀ (n : Core), (s.hartOf n).sb = [] → 
    exec (.storeBufferDrain n) s = .next (s)) ∧
  (∀ s : State, ∀ (n : Core) (p : Fin 16) (q : Fin 16), s.coreLive n = true → ((p.val.testBit 0 && q.val.testBit 1) = false ∨ (s.hartOf n).sb = []) → 
    exec (.coreFence n p q) s = .next (s.updHart n Hart.retire)) ∧
  (∀ s : State, ∀ (n : Core) (p : Fin 16) (q : Fin 16), p.val.testBit 0 = true → q.val.testBit 1 = true → (s.hartOf n).sb ≠ [] → 
    exec (.coreFence n p q) s = .next (s)) ∧
  (∀ s : State, ∀ (n : Core), s.coreLive n = true → 
    Completes (.coreFenceI n) s (fun t => (t.hartOf n).pc = (s.hartOf n).pc + 4 ∧
      (t.hartOf n).icache = [] ∧
      (t.hartOf n).x = (s.hartOf n).x ∧
      (∀ m, m ≠ n.val → t.hartOf m = s.hartOf m) ∧
      t = { s with hart := t.hart })) ∧
  (∀ s : State, ∀ (n : Core) (aq : Bool) (rl : Bool) (rd : Fin 32) (r1 : Fin 32) (r2 : Fin 32) (a : Nat), s.coreLive n = true → a = ((s.hartOf n).get r1).toNat → 0xD00000000 ≤ a → a % 8 = 0 → a + 8 ≤ 0xD00400000 → (s.hartOf n).amoReady rl a 8 = true → 
    Completes (.coreAmo n .add true aq rl rd r1 r2) s (fun t => t.rdLe a 8 = (s.rdLe a 8 + ((s.hartOf n).get r2).toNat) % 2 ^ 64 ∧
      MemBut a 8 s t ∧
      (rd.val ≠ 0 → ((t.hartOf n).get rd).toNat = s.rdLe a 8) ∧
      (t.hartOf n).pc = (s.hartOf n).pc + 4 ∧
      t = { s with mem := t.mem, hart := t.hart })) ∧
  (∀ s : State, ∀ (n : Core) (aq : Bool) (rl : Bool) (rd : Fin 32) (r1 : Fin 32) (r2 : Fin 32) (a : Nat), s.coreLive n = true → a = ((s.hartOf n).get r1).toNat → 0xD00000000 ≤ a → a % 4 = 0 → a + 4 ≤ 0xD00400000 → (s.hartOf n).amoReady rl a 4 = true → 
    Completes (.coreAmo n .swap false aq rl rd r1 r2) s (fun t => t.rdLe a 4 = ((s.hartOf n).get r2).toNat % 2 ^ 32 ∧
      MemBut a 4 s t ∧
      (rd.val ≠ 0 → (t.hartOf n).get rd = (BitVec.ofNat 32 (s.rdLe a 4)).signExtend 64) ∧
      (t.hartOf n).pc = (s.hartOf n).pc + 4)) ∧
  (∀ s : State, ∀ (n : Core) (op : AmoOp) (aq : Bool) (rl : Bool) (rd : Fin 32) (r1 : Fin 32) (r2 : Fin 32) (a : Nat), s.coreLive n = true → a = ((s.hartOf n).get r1).toNat → 0xD00000000 ≤ a → a % 8 = 0 → a + 8 ≤ 0xD00400000 → (s.hartOf n).amoReady rl a 8 = true → 
    Completes (.coreAmo n op true aq rl rd r1 r2) s (fun t => t.rdLe a 8 = (amoOp op 64 (BitVec.ofNat 64 (s.rdLe a 8)) ((s.hartOf n).get r2)).toNat ∧
      MemBut a 8 s t ∧
      (t.hartOf n).sb = (s.hartOf n).sb)) ∧
  (∀ s : State, ∀ (n : Core) (op : AmoOp) (aq : Bool) (rl : Bool) (rd : Fin 32) (r1 : Fin 32) (r2 : Fin 32), s.coreLive n = true → ((s.hartOf n).get r1).toNat % 8 ≠ 0 → 
    exec (.coreAmo n op true aq rl rd r1 r2) s = .next (s.trap n false 6 ((s.hartOf n).get r1))) ∧
  (∀ s : State, ∀ (n : Core) (aq : Bool) (rl : Bool) (rd : Fin 32) (r1 : Fin 32) (a : Nat), s.coreLive n = true → a = ((s.hartOf n).get r1).toNat → 0xD00000000 ≤ a → a % 8 = 0 → a + 8 ≤ 0xD00400000 → (s.hartOf n).amoReady rl a 8 = true → 
    Completes (.coreLr n true aq rl rd r1) s (fun t => (t.hartOf n).resv = some (a / 64 * 64) ∧
      (rd.val ≠ 0 → ((t.hartOf n).get rd).toNat = s.rdLe a 8) ∧
      (t.hartOf n).pc = (s.hartOf n).pc + 4 ∧
      (∀ m, m ≠ n.val → t.hartOf m = s.hartOf m) ∧
      t = { s with hart := t.hart })) ∧
  (∀ s : State, ∀ (n : Core) (aq : Bool) (rl : Bool) (rd : Fin 32) (r1 : Fin 32) (r2 : Fin 32) (a : Nat), s.coreLive n = true → a = ((s.hartOf n).get r1).toNat → 0xD00000000 ≤ a → a % 8 = 0 → a + 8 ≤ 0xD00400000 → (s.hartOf n).amoReady rl a 8 = true → (s.hartOf n).resv = some (a / 64 * 64) → 
    Completes (.coreSc n true aq rl rd r1 r2) s (fun t => t.rdLe a 8 = ((s.hartOf n).get r2).toNat ∧
      MemBut a 8 s t ∧
      (t.hartOf n).get rd = 0 ∧
      (t.hartOf n).resv = none ∧
      (t.hartOf n).pc = (s.hartOf n).pc + 4 ∧
      t = { s with mem := t.mem, hart := t.hart })) ∧
  (∀ s : State, ∀ (n : Core) (aq : Bool) (rl : Bool) (rd : Fin 32) (r1 : Fin 32) (r2 : Fin 32) (a : Nat), s.coreLive n = true → a = ((s.hartOf n).get r1).toNat → 0xD00000000 ≤ a → a % 8 = 0 → a + 8 ≤ 0xD00400000 → (s.hartOf n).amoReady rl a 8 = true → (s.hartOf n).resv ≠ some (a / 64 * 64) → 
    Completes (.coreSc n true aq rl rd r1 r2) s (fun t => (rd.val ≠ 0 → (t.hartOf n).get rd = 1) ∧
      (t.hartOf n).resv = none ∧
      (t.hartOf n).pc = (s.hartOf n).pc + 4 ∧
      t = { s with hart := t.hart })) ∧
  (∀ s : State, ∀ (n : Core), s.coreLive n = true → s.wfiInt n = false → (s.slotOfCore n).slot = none → 
    Completes (.coreWfi n) s (fun t => (t.hartOf n).wfi = true ∧
      (t.hartOf n).pc = (s.hartOf n).pc + 4 ∧
      t.get (F.SCHED_CORE_n_STATUS_WFI n) = 1 ∧
      (∀ m, m ≠ n.val → t.hartOf m = s.hartOf m) ∧
      RegsBut [R.SCHED_CORE_n_STATUS n] s t ∧
      t = { s with regs := t.regs, hart := t.hart })) ∧
  (∀ s : State, ∀ (n : Core), s.coreLive n = true → (s.slotOfCore n).slot ≠ none → 
    exec (.coreWfi n) s = .next (s.updHart n Hart.retire)) ∧
  (∀ s : State, ∀ (n : Core) (c : Nat) (tv : BitVec 64), s.coreLive n = true → excOk (s.hartOf n).user c = true → 
    Completes (.coreTrap n false c tv) s (fun t => (t.hartOf n).mepc = (s.hartOf n).pc ∧
      (t.hartOf n).mcause = BitVec.ofNat 64 c ∧
      (t.hartOf n).mtval = tv ∧
      (t.hartOf n).user = false ∧
      msBit (t.hartOf n).mstatus 3 = false ∧
      msBit (t.hartOf n).mstatus 7 = msBit (s.hartOf n).mstatus 3 ∧
      msBit (t.hartOf n).mstatus 11 = !(s.hartOf n).user ∧
      (t.hartOf n).pc = BitVec.ofNat 64 ((s.hartOf n).mtvec.toNat / 4 * 4) ∧
      (t.hartOf n).resv = none ∧
      (t.hartOf n).x = (s.hartOf n).x ∧
      (∀ m, m ≠ n.val → t.hartOf m = s.hartOf m) ∧
      t = { s with regs := t.regs, hart := t.hart })) ∧
  (∀ s : State, ∀ (n : Core) (tv : BitVec 64), s.coreUp n = true → s.intTaken n 7 = true → 
    Completes (.coreTrap n true 7 tv) s (fun t => (t.hartOf n).mcause = BitVec.ofNat 64 (2 ^ 63 + 7) ∧
      (t.hartOf n).mepc = (s.hartOf n).pc ∧
      (t.hartOf n).wfi = false ∧
      (t.hartOf n).resv = none)) ∧
  (∀ s : State, ∀ (n : Core), s.coreUp n = true → s.int2 = true → s.intTaken n 16 = true → 
    Completes (.coreFastTrap n false) s (fun t => (t.hartOf n).mcause = BitVec.ofNat 64 (2 ^ 63 + 16) ∧
      (t.hartOf n).mepc = (s.hartOf n).pc ∧
      (t.hartOf n).resv = none ∧
      (∀ i : Fin 16, (t.hartOf n).get i = (s.hartOf n).get i))) ∧
  (∀ s : State, ∀ (n : Core), s.coreUp n = true → s.int2 = true → (s.hartOf n).user = false → (s.hartOf n).mcause ≠ BitVec.ofNat 64 (2 ^ 63 + 16) → 
    Completes (.coreFastTrap n true) s (fun t => (t.hartOf n).pc = (s.hartOf n).mepc ∧
      msBit (t.hartOf n).mstatus 3 = msBit (s.hartOf n).mstatus 7 ∧
      (t.hartOf n).user = !msBit (s.hartOf n).mstatus 12 ∧
      (t.hartOf n).x = (s.hartOf n).x ∧
      (t.hartOf n).resv = none ∧
      t = { s with hart := t.hart })) ∧
  (∀ s : State, ∀ (n : Core), s.pair (R.SCHED_CORE_n_MTIMECMP_LO n) ≤ s.now → (s.hartOf n).wfi = false → 
    exec (.mtimecmpMatch n) s = .next (s.updHart n (fun h => { h with mtip := true }))) ∧
  (∀ s : State, ∀ (n : Core), s.now < s.pair (R.SCHED_CORE_n_MTIMECMP_LO n) → 
    exec (.mtimecmpMatch n) s = .next (s.updHart n (fun h => { h with mtip := false })))

/-- R335 to R343: SCHED_ENQUEUE, SCHED_TAKE, SCHED_DONE, SCHED_CORE_CFG_WRITE. -/
def Obligations.WorkScheduler : Prop :=
  (∀ s : State, ∀ (r : Req) (v : Word) (i : WItem), i = { bytes := (List.range 8).flatMap (fun k => leBytes 4 (Tab.get 0 (Tab.set 0 7 v (s.rq r).itemW) k).toNat) } → i.flow ≠ 0xFFFF → s.flowCount i.flow < s.get F.SCHED_FLOW_MAX_COUNT → s.get F.SCHED_CTRL_EN = 1 → s.readyCount < 4096 → (∀ q : Core, s.canFill q = false) → 
    Completes (.schedEnqueue r v) s (fun t => t.ready_ i.prio = s.ready_ i.prio ++ [i] ∧
      (∀ p, p ≠ i.prio → t.ready_ p = s.ready_ p) ∧
      (t.rq r).enqResult.toNat % 256 = 1 ∧
      (t.rq r).enqResult.toNat / 2 ^ 24 = ((s.rq r).enqResult.toNat / 2 ^ 24 + 1) % 256 ∧
      RegsBut [R.SCHED_FILL, R.SCHED_FILL_Pp 0, R.SCHED_FILL_Pp 1, R.SCHED_FILL_Pp 2, R.SCHED_FILL_Pp 3] s t ∧
      t = { s with regs := t.regs, sched := t.sched, req := t.req })) ∧
  (∀ s : State, ∀ (r : Req) (v : Word) (i : WItem), i = { bytes := (List.range 8).flatMap (fun k => leBytes 4 (Tab.get 0 (Tab.set 0 7 v (s.rq r).itemW) k).toNat) } → (i.flow = 0xFFFF ∨ s.get F.SCHED_FLOW_MAX_COUNT ≤ s.flowCount i.flow) → 
    Completes (.schedEnqueue r v) s (fun t => t.num R.SCHED_REFUSED_FLOW = min satMax (s.num R.SCHED_REFUSED_FLOW + 1) ∧
      t.get F.SCHED_EVENT_REFUSED = 1 ∧
      (t.rq r).enqResult.toNat % 256 = 3 ∧
      (t.rq r).enqResult.toNat / 2 ^ 24 = ((s.rq r).enqResult.toNat / 2 ^ 24 + 1) % 256 ∧
      RegsBut [R.SCHED_REFUSED_FLOW, R.SCHED_EVENT] s t ∧
      t = { s with regs := t.regs, req := t.req })) ∧
  (∀ s : State, ∀ (r : Req) (v : Word) (i : WItem), i = { bytes := (List.range 8).flatMap (fun k => leBytes 4 (Tab.get 0 (Tab.set 0 7 v (s.rq r).itemW) k).toNat) } → i.flow ≠ 0xFFFF → s.flowCount i.flow < s.get F.SCHED_FLOW_MAX_COUNT → (s.get F.SCHED_CTRL_EN = 0 ∨ 4096 ≤ s.readyCount) → 
    Completes (.schedEnqueue r v) s (fun t => t.num R.SCHED_REFUSED_FULL = min satMax (s.num R.SCHED_REFUSED_FULL + 1) ∧
      t.get F.SCHED_EVENT_REFUSED = 1 ∧
      (t.rq r).enqResult.toNat % 256 = 2 ∧
      (t.rq r).enqResult.toNat / 2 ^ 24 = ((s.rq r).enqResult.toNat / 2 ^ 24 + 1) % 256 ∧
      RegsBut [R.SCHED_REFUSED_FULL, R.SCHED_EVENT] s t ∧
      t = { s with regs := t.regs, req := t.req })) ∧
  (∀ s : State, ∀ (r : Req) (n : Core) (i : WItem), (s.slotOfCore n).svc = none → (s.slotOfCore n).slot = some i → s.get (F.SCHED_CORE_n_CFG_SCHED_EN n) = 0 → 
    Completes (.schedTake r n) s (fun t => ((t.rq r).rword.toNat = 2 ^ 31 + (s.slotOfCore n).buf % 2 * 2 ^ 30 + i.flow ∨ 2 ≤ (s.slotOfCore n).buf) ∧
      (t.slotOfCore n).svc = some i ∧
      (t.slotOfCore n).slot = none ∧
      (t.slotOfCore n).buf = 1 - (s.slotOfCore n).buf ∧
      t.num (R.SCHED_CORE_n_ITEMS n) = min satMax (s.num (R.SCHED_CORE_n_ITEMS n) + 1) ∧
      t.get (F.SCHED_CORE_n_STATUS_CUR_FLOW n) = i.flow ∧
      RegsBut [R.SCHED_CORE_n_ITEMS n, R.SCHED_CORE_n_STATUS n] s t ∧
      t = { s with regs := t.regs, sched := t.sched, req := t.req })) ∧
  (∀ s : State, ∀ (r : Req) (n : Core), (s.slotOfCore n).svc = none → (s.slotOfCore n).slot = none → 
    Completes (.schedTake r n) s (fun t => (t.rq r).rword = 0 ∧
      t.slotOfCore n = s.slotOfCore n ∧
      RegsBut [R.SCHED_CORE_n_STATUS n] s t)) ∧
  (∀ s : State, ∀ (n : Core) (v : Word) (i : WItem), bitsOf v 0 0 = 1 → (s.slotOfCore n).svc = some i → (∀ q : Core, s.canFill q = false) → 
    Completes (.schedDone n v) s (fun t => (t.slotOfCore n).svc = none ∧
      (t.slotOfCore n).slot = (s.slotOfCore n).slot ∧
      t.get (F.SCHED_CORE_n_STATUS_IN_SERVICE n) = 0 ∧
      RegsBut [R.SCHED_CORE_n_STATUS n] s t ∧
      t = { s with regs := t.regs, sched := t.sched })) ∧
  (∀ s : State, ∀ (n : Core) (v : Word), bitsOf v 0 0 = 0 → 
    exec (.schedDone n v) s = .next (s)) ∧
  (∀ s : State, ∀ (n : Core) (v : Word), bitsOf v 31 31 = s.get (F.SCHED_CORE_n_CFG_SCHED_EN n) → bitsOf v 16 0 % 64 = 0 → 
    Completes (.schedCoreCfgWrite n v) s (fun t => t.get (F.SCHED_CORE_n_CFG_PRIO_MASK n) = bitsOf v 23 20 ∧
      t.get (F.SCHED_CORE_n_CFG_SLOT_OFF n) = bitsOf v 16 0 ∧
      t.get (F.SCHED_CORE_n_CFG_SCHED_EN n) = bitsOf v 31 31 ∧
      RegsBut [R.SCHED_CORE_n_CFG n] s t ∧
      t = { s with regs := t.regs })) ∧
  (∀ s : State, ∀ (n : Core) (v : Word), bitsOf v 31 31 = s.get (F.SCHED_CORE_n_CFG_SCHED_EN n) → bitsOf v 16 0 % 64 ≠ 0 → 
    Completes (.schedCoreCfgWrite n v) s (fun t => t.get (F.SCHED_CORE_n_CFG_SLOT_OFF n) = s.get (F.SCHED_CORE_n_CFG_SLOT_OFF n) ∧
      t.get (F.SCHED_CORE_n_CFG_PRIO_MASK n) = bitsOf v 23 20 ∧
      t.num R.GLB_ERR_ENUM = min satMax (s.num R.GLB_ERR_ENUM + 1) ∧
      RegsBut [R.SCHED_CORE_n_CFG n, R.GLB_ERR_ENUM] s t))

/-- R344 to R350: the INTC commands, in the scheme of this chip (R350 holds elsewhere). -/
def Obligations.InterruptController : Prop :=
  (∀ s : State, ∀ (i : Set8), s.srcLevel i = true → s.intc.level.testBit i = false → s.srcLatches i = true → 
    Completes (.intcSourceRise i) s (fun t => t.intc.level.testBit i = true ∧
      t.num (R.INTC_SRC_s_CNT i) = min 255 (s.num (R.INTC_SRC_s_CNT i) + 1) ∧
      t.intc.latch.testBit i = true ∧
      t.bit (R.INTC_ACTIVE_w (i / 32)) (i % 32) = s.bit (R.INTC_ACTIVE_w (i / 32)) (i % 32))) ∧
  (∀ s : State, ∀ (i : Set8), s.srcLevel i = true → s.intc.level.testBit i = false → s.srcLatches i = false → 
    Completes (.intcSourceRise i) s (fun t => t.intc.level.testBit i = true ∧
      t.intc.latch = s.intc.latch ∧
      t.num (R.INTC_SRC_s_CNT i) = min 255 (s.num (R.INTC_SRC_s_CNT i) + 1))) ∧
  (∀ s : State, ∀ (i : Set8), s.srcLevel i = false → s.intc.level.testBit i = true → s.srcLatches i = false → s.intc.soft.testBit i = false → 
    Completes (.intcSourceFall i) s (fun t => t.intc.level.testBit i = false ∧
      t.num (R.INTC_SRC_s_ROUTE i) = 0 ∧
      t.intc.latch = s.intc.latch ∧
      RegsBut [R.INTC_SRC_s_ROUTE i] s t ∧
      t = { s with regs := t.regs, intc := t.intc })) ∧
  (∀ s : State, ∀ (i : Set8), s.srcLevel i = false → s.intc.level.testBit i = true → s.srcLatches i = true → s.intc.latch.testBit i = true → srcExists i = true → 
    Completes (.intcSourceFall i) s (fun t => t.intc.level.testBit i = false ∧
      t.intc.latch = s.intc.latch ∧
      t = { s with intc := t.intc })) ∧
  (∀ s : State, ∀ (w : Fin 8) (b : Fin 32) (v : Word), v.toNat = 2 ^ b.val → srcExists (32 * w + b) = true → s.srcLatches (32 * w + b) = true → 
    Completes (.intcSetpend w v) s (fun t => t.intc.latch.testBit (32 * w + b) = true ∧
      t.num (R.INTC_SRC_s_CNT (32 * w + b)) = min 255 (s.num (R.INTC_SRC_s_CNT (32 * w + b)) + 1) ∧
      t.intc.level = s.intc.level ∧
      t.intc.soft = s.intc.soft)) ∧
  (∀ s : State, ∀ (w : Fin 8) (b : Fin 32) (v : Word), v.toNat = 2 ^ b.val → srcExists (32 * w + b) = false → 
    exec (.intcSetpend w v) s = .next (s)) ∧
  (∀ s : State, ∀ (w : Fin 8) (b : Fin 32) (v : Word), v.toNat = 2 ^ b.val → s.srcLatches (32 * w + b) = true → 
    Completes (.intcPendClear w v) s (fun t => t.intc.latch.testBit (32 * w + b) = false ∧
      t.num (R.INTC_SRC_s_ROUTE (32 * w + b)) = 0 ∧
      t.intc.level = s.intc.level ∧
      RegsBut [R.INTC_SRC_s_ROUTE (32 * w + b)] s t ∧
      t = { s with regs := t.regs, intc := t.intc })) ∧
  (∀ s : State, ∀ (i : Set8) (v : Word), s.int2 = false → bitsOf v (F.INTC_SRC_s_CFG_PRIO i).hi (F.INTC_SRC_s_CFG_PRIO i).lo = 0 → 
    Completes (.intcSrcCfgWrite i false v) s (fun t => t.num (R.INTC_SRC_s_ROUTE i) = 0 ∧
      t.get (F.INTC_SRC_s_CFG_PRIO i) = 0 ∧
      t.intc = s.intc ∧
      t.mem = s.mem)) ∧
  (∀ s : State, ∀ (r : Req) (g : Target) (i : Nat) (p : Nat), (s.stackOf g).length < 16 → s.hpend g = (p, i) → i ≠ 0 → s.srcLatches i = true → 
    Completes (.intcClaim r g) s (fun t => (t.rq r).rword.toNat = i % 2 ^ 32 ∧
      t.intc.latch.testBit i = false ∧
      t.bit (R.INTC_ACTIVE_w (i / 32)) (i % 32) = true ∧
      t.num (R.INTC_SRC_s_ROUTE i) = 0 ∧
      t.stackOf g = { prio := p, src := some i } :: s.stackOf g ∧
      (∀ u, u ≠ g.val → t.stackOf u = s.stackOf u) ∧
      t = { s with regs := t.regs, intc := t.intc, req := t.req })) ∧
  (∀ s : State, ∀ (r : Req) (g : Target), (s.stackOf g).length < 16 → (s.hpend g).2 = 0 → 
    exec (.intcClaim r g) s = .next (s.updRq r (fun q => { q with rword := 0 }))) ∧
  (∀ s : State, ∀ (r : Req) (g : Target), 16 ≤ (s.stackOf g).length → 
    exec (.intcClaim r g) s = .next ((s.bump (R.INTC_TGT_t_STK_ERR g)).updRq r (fun q => { q with rword := 0 }))) ∧
  (∀ s : State, ∀ (g : Target) (v : Word) (e : StkEnt) (l : List StkEnt), bitsOf v 0 0 = 1 → s.stackOf g = e :: l → e.src = none → s.int2 = false → 
    Completes (.intcEoi g v) s (fun t => t.stackOf g = l ∧
      t.get (F.INTC_TGT_t_RUN_DEPTH g) = l.length % 32 ∧
      (∀ u, u ≠ g.val → t.stackOf u = s.stackOf u) ∧
      t.mem = s.mem)) ∧
  (∀ s : State, ∀ (g : Target) (v : Word) (e : StkEnt) (l : List StkEnt) (i : Set8), bitsOf v 0 0 = 1 → s.stackOf g = e :: l → e.src = some i.val → s.int2 = false → 
    Completes (.intcEoi g v) s (fun t => t.stackOf g = l ∧
      t.bit (R.INTC_ACTIVE_w (i / 32)) (i % 32) = false ∧
      t.intc.latch = s.intc.latch)) ∧
  (∀ s : State, ∀ (g : Target) (v : Word), bitsOf v 0 0 = 1 → s.stackOf g = [] → 
    exec (.intcEoi g v) s = .next (s.bump (R.INTC_TGT_t_STK_ERR g))) ∧
  (∀ s : State, ∀ (g : Target) (v : Word), bitsOf v 3 0 ≠ 0 → s.int2 = false → (s.stackOf g).length < 16 → 
    Completes (.intcPush g v) s (fun t => t.stackOf g = { prio := bitsOf v 3 0, src := none } :: s.stackOf g ∧
      t.get (F.INTC_TGT_t_RUN_PRIO g) = bitsOf v 3 0 ∧
      (∀ u, u ≠ g.val → t.stackOf u = s.stackOf u) ∧
      RegsBut [R.INTC_TGT_t_RUN g] s t ∧
      t = { s with regs := t.regs, intc := t.intc })) ∧
  (∀ s : State, ∀ (g : Target) (v : Word), bitsOf v 3 0 ≠ 0 → s.int2 = false → 16 ≤ (s.stackOf g).length → 
    exec (.intcPush g v) s = .next (s.bump (R.INTC_TGT_t_STK_ERR g))) ∧
  (∀ s : State, ∀ (g : Target) (v : Word), bitsOf v 3 0 = 0 → 
    exec (.intcPush g v) s = .next (s.enumRefused))

/-- R353, R354, R356, R362, R369, R426, R481: PCIE_CONFIG_REQUEST, PCIE_RESET, PCIE_PERST, PCIE_LINK_UP, MSIX_SEND, DB_H2D_SET, DB_H2D_CLR, DB_D2H_SET, DB_D2H_CLR. -/
def Obligations.HostEndpoint : Prop :=
  (∀ s : State, ∀ (reg : Nat) (wr : Option Word), s.ready = false → 
    Completes (.pcieConfigRequest reg wr) s (fun t => t.host.rsp = .retry ∧
      t.host.cfg = s.host.cfg ∧
      t = { s with host := t.host })) ∧
  (∀ s : State, s.ready = true → 
    Completes (.pcieConfigRequest 0 none) s (fun t => t.host.rsp = .word (BitVec.ofNat 32 (0x5120 * 2 ^ 16 + Config.fuseVendor.toNat)) ∧
      t = { s with host := t.host })) ∧
  (∀ s : State, ∀ (reg : Nat), s.ready = true → reg ≠ 0 → reg ≠ 2 → 
    Completes (.pcieConfigRequest reg none) s (fun t => t.host.rsp = .word (Tab.get 0 s.host.cfg reg) ∧
      t.host.cfg = s.host.cfg ∧
      t = { s with host := t.host })) ∧
  (∀ s : State, ∀ (reg : Nat) (v : Word), s.ready = true → reg ≠ 0 → reg ≠ 2 → 
    Completes (.pcieConfigRequest reg (some v)) s (fun t => Tab.get 0 t.host.cfg reg = v ∧
      t.host.rsp = .done ∧
      (∀ k, k ≠ reg → Tab.get 0 t.host.cfg k = Tab.get 0 s.host.cfg k) ∧
      t = { s with host := t.host })) ∧
  (∀ s : State, ∀ (d : Bool), 
    Completes (.pcieReset d) s (fun t => (∀ e : Engine8, t.get (F.HOSTIF_DMA_e_CTRL_ENABLE e) = 0 ∧ t.get (F.HOSTIF_DMA_e_STATUS_BUSY e) = 0 ∧ (t.dmaOf e).cur = none) ∧
      t.num (R.HOSTIF_MSIX_PBA_w 0) = 0 ∧ t.num (R.HOSTIF_MSIX_PBA_w 1) = 0 ∧
      t.get F.HOSTIF_EVENT_LINK_DOWN = 1 ∧
      t.num R.HOSTIF_LINK = (if d then 0 else s.num R.HOSTIF_LINK) ∧
      t = { s with regs := t.regs, host := t.host })) ∧
  (∀ s : State, 
    Completes (.pciePerst true) s (fun t => (∀ e : Engine8, t.get (F.HOSTIF_DMA_e_CTRL_ENABLE e) = 0 ∧ t.get (F.HOSTIF_DMA_e_STATUS_BUSY e) = 0 ∧ (t.dmaOf e).cur = none) ∧
      t.num (R.HOSTIF_MSIX_PBA_w 0) = 0 ∧ t.num (R.HOSTIF_MSIX_PBA_w 1) = 0 ∧
      t.get F.HOSTIF_EVENT_LINK_DOWN = 1 ∧
      t.num R.HOSTIF_LINK = 0 ∧
      t.pins.perstN = false ∧
      t.mem = s.mem)) ∧
  (∀ s : State, 
    exec (.pciePerst false) s = .next ({ s with pins := { s.pins with perstN := true } })) ∧
  (∀ s : State, ∀ (w : Fin 16) (g : Fin 16), s.pins.perstN = true → (w.val = 1 ∨ w.val = 2 ∨ w.val = 4 ∨ w.val = 8) → 1 ≤ g.val → g.val ≤ 5 → 
    Completes (.pcieLinkUp w g) s (fun t => t.get F.HOSTIF_LINK_UP = 1 ∧
      t.get F.HOSTIF_LINK_WIDTH = w ∧
      t.get F.HOSTIF_LINK_SPEED = g ∧
      RegsBut [R.HOSTIF_LINK] s t ∧
      t = { s with regs := t.regs })) ∧
  (∀ s : State, ∀ (v : Fin 64), s.bit (R.HOSTIF_MSIX_PBA_w (v / 32)) (v % 32) = true → s.bit (R.HOSTIF_MSIX_TABLE_v_i v 3) 0 = false → 
    Completes (.msixSend v) s (fun t => t.host.out = s.host.out ++ [(s.num (R.HOSTIF_MSIX_TABLE_v_i v 0) + 2 ^ 32 * s.num (R.HOSTIF_MSIX_TABLE_v_i v 1), leBytes 4 (s.num (R.HOSTIF_MSIX_TABLE_v_i v 2)))] ∧
      t.bit (R.HOSTIF_MSIX_PBA_w (v / 32)) (v % 32) = false ∧
      (∀ b : Fin 32, b.val ≠ v % 32 → t.bit (R.HOSTIF_MSIX_PBA_w (v / 32)) b = s.bit (R.HOSTIF_MSIX_PBA_w (v / 32)) b) ∧
      RegsBut [R.HOSTIF_MSIX_PBA_w (v / 32)] s t ∧
      t = { s with regs := t.regs, host := t.host })) ∧
  (∀ s : State, ∀ (v : Fin 64), (s.bit (R.HOSTIF_MSIX_PBA_w (v / 32)) (v % 32) = false ∨ s.bit (R.HOSTIF_MSIX_TABLE_v_i v 3) 0 = true) → 
    exec (.msixSend v) s = .next (s)) ∧
  (∀ s : State, ∀ (w : Fin 2) (v : Word), 
    Completes (.dbH2dSet w v) s (fun t => t.word (R.MBX_DB_H2D_SET_w w) = s.word (R.MBX_DB_H2D_SET_w w) ||| v ∧
      RegsBut [R.MBX_DB_H2D_SET_w w] s t ∧
      t = { s with regs := t.regs })) ∧
  (∀ s : State, ∀ (w : Fin 2) (v : Word), 
    Completes (.dbH2dClr w v) s (fun t => t.word (R.MBX_DB_H2D_SET_w w) = s.word (R.MBX_DB_H2D_SET_w w) &&& ~~~v ∧
      RegsBut [R.MBX_DB_H2D_SET_w w] s t ∧
      t = { s with regs := t.regs })) ∧
  (∀ s : State, ∀ (w : Fin 2) (v : Word), 
    Completes (.dbD2hSet w v) s (fun t => t.word (R.MBX_DB_D2H_SET_w w) = s.word (R.MBX_DB_D2H_SET_w w) ||| v ∧
      RegsBut [R.MBX_DB_D2H_SET_w w, R.HOSTIF_MSIX_PBA_w 0, R.HOSTIF_MSIX_PBA_w 1] s t ∧
      t = { s with regs := t.regs })) ∧
  (∀ s : State, ∀ (w : Fin 2) (v : Word), 
    Completes (.dbD2hClr w v) s (fun t => t.word (R.MBX_DB_D2H_SET_w w) = s.word (R.MBX_DB_D2H_SET_w w) &&& ~~~v ∧
      RegsBut [R.MBX_DB_D2H_SET_w w] s t ∧
      t = { s with regs := t.regs }))

/-- R357 to R361, R370: the DMA commands; the stored bytes are those of the descriptor, here in the core shared SRAM. -/
def Obligations.DmaEngines : Prop :=
  (∀ s : State, ∀ (e : Engine8) (v : Word), s.get (F.HOSTIF_DMA_e_CTRL_ENABLE e) = 0 → (s.plainWrite (R.HOSTIF_DMA_e_CTRL e) v).get (F.HOSTIF_DMA_e_CTRL_ENABLE e) = 1 → bitsOf v 30 30 = 0 → 
    Completes (.dmaEnableWrite e v) s (fun t => (t.dmaOf e).ring = s.pair (R.HOSTIF_DMA_e_RING_LO e) / 4096 * 4096 ∧
      (t.dmaOf e).log2 = t.get (F.HOSTIF_DMA_e_CTRL_RING_LOG2 e) ∧
      t.get (F.HOSTIF_DMA_e_CTRL_ENABLE e) = 1 ∧
      (t.dmaOf e).cur = (s.dmaOf e).cur ∧
      RegsBut [R.HOSTIF_DMA_e_CTRL e, R.GLB_ERR_ENUM] s t ∧
      t = { s with regs := t.regs, host := t.host })) ∧
  (∀ s : State, ∀ (e : Engine8), 
    Completes (.dmaAbort e) s (fun t => t.get (F.HOSTIF_DMA_e_CTRL_ENABLE e) = 0 ∧
      t.get (F.HOSTIF_DMA_e_STATUS_BUSY e) = 0 ∧
      (t.dmaOf e).cur = none ∧ (t.dmaOf e).acks = [] ∧ (t.dmaOf e).conds = [] ∧
      t.get (F.HOSTIF_DMA_e_HEAD_IDX e) = s.get (F.HOSTIF_DMA_e_HEAD_IDX e) ∧
      RegsBut [R.HOSTIF_DMA_e_CTRL e, R.HOSTIF_DMA_e_STATUS e] s t ∧
      t = { s with regs := t.regs, host := t.host })) ∧
  (∀ s : State, ∀ (e : Engine8) (v : Word), bitsOf v 30 30 = 1 → 
    Completes (.dmaEnableWrite e v) s (fun t => t.get (F.HOSTIF_DMA_e_CTRL_ENABLE e) = 0 ∧
      t.get (F.HOSTIF_DMA_e_STATUS_BUSY e) = 0 ∧
      (t.dmaOf e).cur = none ∧ (t.dmaOf e).acks = [] ∧ (t.dmaOf e).conds = [])) ∧
  (∀ s : State, ∀ (e : Engine8) (v : Word), 
    Completes (.dmaTailWrite e v) s (fun t => t.get (F.HOSTIF_DMA_e_TAIL_IDX e) = bitsOf v (F.HOSTIF_DMA_e_TAIL_IDX e).hi 0 ∧
      RegsBut [R.HOSTIF_DMA_e_TAIL e] s t ∧
      t = { s with regs := t.regs })) ∧
  (∀ s : State, ∀ (e : Engine8) (l : List Byte), s.get (F.HOSTIF_DMA_e_CTRL_ENABLE e) = 1 → s.ringBusy e = true → (s.dmaOf e).cur = none → l.length = 32 → descBad l (descOf l s.host.fetches) = false → 
    Completes (.dmaDescriptorFetch e l true) s (fun t => (t.dmaOf e).cur = some (descOf l s.host.fetches) ∧
      (t.dmaOf e).moved = false ∧
      (t.dmaOf e).conds = [] ∧
      t.get (F.HOSTIF_DMA_e_STATUS_BUSY e) = 1 ∧
      RegsBut [R.HOSTIF_DMA_e_STATUS e] s t ∧
      t = { s with regs := t.regs, host := t.host })) ∧
  (∀ s : State, ∀ (e : Engine8) (l : List Byte), s.get (F.HOSTIF_DMA_e_CTRL_ENABLE e) = 1 → s.ringBusy e = true → (s.dmaOf e).cur = none → l.length = 32 → descBad l (descOf l s.host.fetches) = true → 
    Completes (.dmaDescriptorFetch e l true) s (fun t => (t.dmaOf e).moved = true ∧
      (t.dmaOf e).conds = [1] ∧
      t.get (F.HOSTIF_DMA_e_STATUS_BUSY e) = 1 ∧
      RegsBut [R.HOSTIF_DMA_e_STATUS e] s t)) ∧
  (∀ s : State, ∀ (e : Engine8) (l : List Byte), s.get (F.HOSTIF_DMA_e_CTRL_ENABLE e) = 1 → s.ringBusy e = true → (s.dmaOf e).cur = none → l.length = 32 → 
    Completes (.dmaDescriptorFetch e l false) s (fun t => (t.dmaOf e).moved = true ∧
      (t.dmaOf e).conds = [5] ∧
      t.num R.HOSTIF_CPL_ERR = min satMax (s.num R.HOSTIF_CPL_ERR + 1) ∧
      t.get F.HOSTIF_EVENT_HOST_ERR = 1 ∧
      t.get (F.HOSTIF_DMA_e_STATUS_BUSY e) = 1)) ∧
  (∀ s : State, ∀ (e : Engine8) (c : DmaDesc) (d : List Byte), s.dmaStart e 0 = some c → 0xD00000000 ≤ c.dev → c.dev + c.len ≤ 0xD00400000 → d.length = c.len → 
    Completes (.dmaH2d e d true) s (fun t => (t.dmaOf e).moved = true ∧
      (t.dmaOf e).conds = (s.dmaOf e).conds ∧
      (t.dmaOf e).acks = [] ∧
      (t.dmaOf e).cur = some c ∧
      (∀ i (h : i < d.length), t.rdByte (c.dev + i) = d[i]) ∧
      MemBut c.dev c.len s t ∧
      t = { s with mem := t.mem, hart := t.hart, host := t.host })) ∧
  (∀ s : State, ∀ (e : Engine8) (c : DmaDesc) (d : List Byte), s.dmaStart e 0 = some c → 
    Completes (.dmaH2d e d false) s (fun t => (t.dmaOf e).moved = true ∧
      (t.dmaOf e).conds = (s.dmaOf e).conds ++ [5] ∧
      t.num R.HOSTIF_CPL_ERR = min satMax (s.num R.HOSTIF_CPL_ERR + 1) ∧
      t.mem = s.mem)) ∧
  (∀ s : State, ∀ (e : Engine8) (c : DmaDesc) (ce : List Nat) (ue : List Nat), s.dmaStart e 1 = some c → 0xD00000000 ≤ c.dev → c.dev + c.len ≤ 0xD00400000 → c.dev / 64 = (c.dev + c.len - 1) / 64 → 0 < c.len → 
    Completes (.dmaD2h e ce ue) s (fun t => (t.dmaOf e).moved = true ∧
      (t.dmaOf e).conds = (s.dmaOf e).conds ∧
      (t.dmaOf e).acks = [] ∧
      (t.dmaOf e).cur = some c ∧
      t.host.out = s.host.out ++ [(c.host, s.rdBytes c.dev c.len)] ∧
      t.mem = s.mem)) ∧
  (∀ s : State, ∀ (e : Engine8) (c : DmaDesc) (d : List Byte), s.dmaStart e 2 = some c → c.len ≤ 256 → 0 < c.len → 0xD00000000 ≤ c.dev → c.dev + c.len ≤ 0xD00400000 → d.length = c.len → 
    Completes (.dmaBcast e d true) s (fun t => (t.dmaOf e).moved = true ∧
      (t.dmaOf e).conds = (s.dmaOf e).conds ∧
      (t.dmaOf e).acks = [] ∧
      (t.dmaOf e).cur = some c ∧
      (∀ i (h : i < d.length), t.rdByte (c.dev + i) = d[i]) ∧
      MemBut c.dev c.len s t ∧
      t.ult.sent = s.ult.sent ++ s.bcastPorts.map (fun k => (k, s.bulkMsg true 0 c.dev d)) ∧
      t.num R.ULT_BULK_DROP = min satMax (s.num R.ULT_BULK_DROP))) ∧
  (∀ s : State, ∀ (e : Engine8) (c : DmaDesc) (d : List Byte) (k : Port), s.dmaStart e 3 = some c → c.len ≤ 256 → 0 < c.len → d.length = c.len → s.route c.dest = .port k → s.portLive k = true → 
    Completes (.dmaRemote e d true) s (fun t => (t.dmaOf e).moved = true ∧
      (t.dmaOf e).acks = [c.dev] ∧
      t.ult.sent = s.ult.sent ++ [(k.val, s.bulkMsg false c.dest c.dev d)] ∧
      t = { s with host := t.host, ult := t.ult })) ∧
  (∀ s : State, ∀ (e : Engine8), (s.dmaOf e).acks ≠ [] → 
    exec (.dmaRemoteAckTimeout e) s = .next (s.updDma e (fun x => { x with conds := x.conds ++ [6], acks := [] }))) ∧
  (∀ s : State, ∀ (e : Engine8) (c : DmaDesc) (h : Nat), (s.dmaOf e).cur = some c → (s.dmaOf e).moved = true → (s.dmaOf e).acks = [] → (s.dmaOf e).conds = [] → h = s.get (F.HOSTIF_DMA_e_HEAD_IDX e) % 2 ^ (s.dmaOf e).log2 → (s.dmaOf e).log2 ≤ 15 → 
    Completes (.dmaDescriptorDone e) s (fun t => t.host.out = s.host.out ++ [((s.dmaOf e).ring + 32 * h + 0x18, [0, 0, 0, 0x80])] ∧
      t.get (F.HOSTIF_DMA_e_HEAD_IDX e) = (h + 1) % 2 ^ (s.dmaOf e).log2 ∧
      t.get (F.HOSTIF_DMA_e_STATUS_LAST_CODE e) = 0 ∧
      t.num (R.HOSTIF_DMA_e_DONE_CNT e) = min satMax (s.num (R.HOSTIF_DMA_e_DONE_CNT e) + 1) ∧
      t.num (R.HOSTIF_DMA_e_ERR_CNT e) = s.num (R.HOSTIF_DMA_e_ERR_CNT e) ∧
      (t.dmaOf e).cur = none ∧
      t.get (F.HOSTIF_DMA_e_STATUS_BUSY e) = 0 ∧
      (c.flags.testBit 0 = true → t.bit (R.HOSTIF_DMA_e_EVENT e) 0 = true) ∧
      t = { s with regs := t.regs, host := t.host })) ∧
  (∀ s : State, ∀ (e : Engine8) (c : DmaDesc) (a : Nat) (l : List Nat), (s.dmaOf e).cur = some c → (s.dmaOf e).moved = true → (s.dmaOf e).acks = [] → (s.dmaOf e).conds = a :: l → 1 ≤ a → a ≤ 6 → (∀ x ∈ l, a ≤ x) → 
    Completes (.dmaDescriptorDone e) s (fun t => t.get (F.HOSTIF_DMA_e_STATUS_LAST_CODE e) = a ∧
      t.num (R.HOSTIF_DMA_e_ERR_CNT e) = min satMax (s.num (R.HOSTIF_DMA_e_ERR_CNT e) + 1) ∧
      t.bit (R.HOSTIF_DMA_e_EVENT e) 1 = true ∧
      t.get F.HOSTIF_EVENT_DMA_ERR = 1 ∧
      (s.get (F.HOSTIF_DMA_e_CTRL_HALT_ON_ERR e) = 1 → t.get (F.HOSTIF_DMA_e_CTRL_ENABLE e) = 0)))

/-- R363 to R368: MBX_POST, MBX_TAKE, MBX_TIMEOUT, MBX_ACK. -/
def Obligations.Mailboxes : Prop :=
  (∀ s : State, ∀ (r : Req) (m : Mailbox) (v : Word), s.get (F.MBX_m_STATUS_FULL m) = 0 → 
    Completes (.mbxPost r m v) s (fun t => t.word (R.MBX_m_NOTICE_LO m) = v ∧
      t.word (R.MBX_m_NOTICE_HI m) = (s.rq r).staged ∧
      (t.rq r).staged = 0 ∧
      t.get (F.MBX_m_STATUS_FULL m) = 1 ∧
      t.get (F.MBX_m_STATUS_SRC m) = reqCode r ∧
      t.get (F.MBX_m_RX_EVENT_NOTICE m) = 1 ∧
      (t.mbxOf m).timer = some (s.now, s.get (F.MBX_m_CFG_TMO m)) ∧
      t.num (R.MBX_m_COLL_CNT m) = s.num (R.MBX_m_COLL_CNT m) ∧
      RegsBut [R.HOSTIF_MSIX_PBA_w 0, R.HOSTIF_MSIX_PBA_w 1, R.MBX_m_NOTICE_LO m, R.MBX_m_NOTICE_HI m, R.MBX_m_STATUS m, R.MBX_m_RX_EVENT m, R.MBX_m_COLL_CNT m] s t ∧
      t = { s with regs := t.regs, req := t.req, host := t.host })) ∧
  (∀ s : State, ∀ (r : Req) (m : Mailbox) (v : Word), s.get (F.MBX_m_STATUS_FULL m) = 1 → 
    Completes (.mbxPost r m v) s (fun t => t.word (R.MBX_m_NOTICE_LO m) = v ∧
      t.word (R.MBX_m_NOTICE_HI m) = (s.rq r).staged ∧
      (t.rq r).staged = 0 ∧
      t.get (F.MBX_m_STATUS_FULL m) = 1 ∧
      t.get (F.MBX_m_STATUS_SRC m) = reqCode r ∧
      t.get (F.MBX_m_RX_EVENT_NOTICE m) = 1 ∧
      (t.mbxOf m).timer = some (s.now, s.get (F.MBX_m_CFG_TMO m)) ∧
      t.get (F.MBX_m_RX_EVENT_COLLISION m) = 1 ∧
      t.num (R.MBX_m_COLL_CNT m) = min satMax (s.num (R.MBX_m_COLL_CNT m) + 1) ∧
      RegsBut [R.HOSTIF_MSIX_PBA_w 0, R.HOSTIF_MSIX_PBA_w 1, R.MBX_m_NOTICE_LO m, R.MBX_m_NOTICE_HI m, R.MBX_m_STATUS m, R.MBX_m_RX_EVENT m, R.MBX_m_COLL_CNT m] s t)) ∧
  (∀ s : State, ∀ (r : Req) (m : Mailbox), reqCode r = s.get (F.MBX_m_CFG_RX m) → s.get (F.MBX_m_STATUS_FULL m) = 1 → 
    Completes (.mbxTake r m) s (fun t => (t.rq r).rword = s.word (R.MBX_m_NOTICE_LO m) ∧
      (t.rq r).snap = s.word (R.MBX_m_NOTICE_HI m) ∧
      t.get (F.MBX_m_STATUS_FULL m) = 0 ∧
      t.get (F.MBX_m_STATUS_ACK_PEND m) = 1 ∧
      t.get (F.MBX_m_STATUS_TAKEN_SRC m) = s.get (F.MBX_m_STATUS_SRC m) ∧
      (t.mbxOf m).timer = none ∧
      RegsBut [R.MBX_m_STATUS m] s t ∧
      t = { s with regs := t.regs, req := t.req, host := t.host })) ∧
  (∀ s : State, ∀ (r : Req) (m : Mailbox), reqCode r ≠ s.get (F.MBX_m_CFG_RX m) → 
    Completes (.mbxTake r m) s (fun t => (t.rq r).rword = s.word (R.MBX_m_NOTICE_LO m) ∧
      (t.rq r).snap = s.word (R.MBX_m_NOTICE_HI m) ∧
      t = { s with req := t.req })) ∧
  (∀ s : State, ∀ (m : Mailbox), (s.mbxOf m).timer ≠ none → s.get (F.MBX_m_STATUS_FULL m) = 1 → 
    Completes (.mbxTimeout m) s (fun t => t.get (F.MBX_m_TX_EVENT_TIMEOUT m) = 1 ∧
      t.num (R.MBX_m_TMO_CNT m) = min satMax (s.num (R.MBX_m_TMO_CNT m) + 1) ∧
      (t.mbxOf m).timer = none ∧
      t.get (F.MBX_m_STATUS_FULL m) = 1 ∧
      RegsBut [R.HOSTIF_MSIX_PBA_w 0, R.HOSTIF_MSIX_PBA_w 1, R.MBX_m_TX_EVENT m, R.MBX_m_TMO_CNT m] s t ∧
      t = { s with regs := t.regs, host := t.host })) ∧
  (∀ s : State, ∀ (r : Req) (m : Mailbox) (v : Word), reqCode r = s.get (F.MBX_m_CFG_RX m) → s.get (F.MBX_m_STATUS_ACK_PEND m) = 1 → 
    Completes (.mbxAck r m v) s (fun t => t.get (F.MBX_m_STATUS_ACK_CODE m) = bitsOf v 15 0 ∧
      t.get (F.MBX_m_STATUS_ACK_PEND m) = 0 ∧
      t.get (F.MBX_m_TX_EVENT_ACKED m) = 1 ∧
      RegsBut [R.HOSTIF_MSIX_PBA_w 0, R.HOSTIF_MSIX_PBA_w 1, R.MBX_m_STATUS m, R.MBX_m_TX_EVENT m] s t ∧
      t = { s with regs := t.regs, host := t.host })) ∧
  (∀ s : State, ∀ (r : Req) (m : Mailbox) (v : Word), (reqCode r ≠ s.get (F.MBX_m_CFG_RX m) ∨ s.get (F.MBX_m_STATUS_ACK_PEND m) = 0) → 
    exec (.mbxAck r m v) s = .next (s.bump R.MBX_ACK_DROP))

/-- R373 to R385, R469: the TIME, SYNC, ECHO, TSQ, FALLBACK and ETH commands. A fold keeps its fraction (the model's state, R374). -/
def Obligations.TimeBases : Prop :=
  (∀ s : State, ∀ (i : Fin 4) (v : Word), i.val ≠ 0 → 
    Completes (.timeRateWrite i v) s (fun t => t.word (R.TIME_TB_i_RATE i) = v ∧
      t.pair (R.TIME_TB_i_OFFSET_LO i) = toBits 64 (s.tbOffset i + s.tbCorr i / 2 ^ 44) ∧
      Tab.get {} t.tb i = { anchor := s.now, frac := (s.tbCorr i % 2 ^ 44).toNat } ∧
      RegsBut [R.TIME_TB_i_RATE i, R.TIME_TB_i_OFFSET_LO i, R.TIME_TB_i_OFFSET_LO i + 4] s t ∧
      t = { s with regs := t.regs, tb := t.tb })) ∧
  (∀ s : State, ∀ (v : Word), 
    exec (.timeRateWrite 0 v) s = .next (s.bump R.TIME_WR_DROP)) ∧
  (∀ s : State, ∀ (r : Req) (i : Fin 4) (v : Word), i.val ≠ 0 → 
    Completes (.timeOffsetWrite r i v) s (fun t => t.pair (R.TIME_TB_i_OFFSET_LO i) = v.toNat + 2 ^ 32 * (s.rq r).staged.toNat ∧
      (t.rq r).staged = 0 ∧
      (Tab.get {} t.tb i).anchor = s.now ∧
      RegsBut [R.TIME_TB_i_OFFSET_LO i, R.TIME_TB_i_OFFSET_LO i + 4] s t ∧
      t = { s with regs := t.regs, req := t.req, tb := t.tb })) ∧
  (∀ s : State, ∀ (r : Req) (v : Word), s.tb0Governed = false → 
    Completes (.timeOffsetWrite r 0 v) s (fun t => t.pair (R.TIME_TB_i_OFFSET_LO 0) = toBits 64 (nearest10 (sext 64 (v.toNat + 2 ^ 32 * (s.rq r).staged.toNat))) ∧
      (t.rq r).staged = 0)) ∧
  (∀ s : State, ∀ (r : Req) (i : Fin 4) (v : Word), i.val ≠ 0 → 
    Completes (.timeAdjWrite r i v) s (fun t => t.pair (R.TIME_TB_i_OFFSET_LO i) = (s.pair (R.TIME_TB_i_OFFSET_LO i) + (v.toNat + 2 ^ 32 * (s.rq r).staged.toNat)) % 2 ^ 64 ∧
      (t.rq r).staged = 0 ∧
      RegsBut [R.TIME_TB_i_OFFSET_LO i, R.TIME_TB_i_OFFSET_LO i + 4] s t ∧
      t = { s with regs := t.regs, req := t.req })) ∧
  (∀ s : State, ∀ (r : Req) (v : Word), s.tb0Governed = true → 
    Completes (.timeOffsetWrite r 0 v) s (fun t => t.num R.TIME_WR_DROP = min satMax (s.num R.TIME_WR_DROP + 1) ∧
      (t.rq r).staged = 0 ∧
      RegsBut [R.TIME_WR_DROP] s t ∧
      t = { s with regs := t.regs, req := t.req })) ∧
  (∀ s : State, ∀ (r : Req) (v : Word), s.tb0Governed = true → 
    Completes (.timeAdjWrite r 0 v) s (fun t => t.num R.TIME_WR_DROP = min satMax (s.num R.TIME_WR_DROP + 1) ∧
      (t.rq r).staged = 0 ∧
      RegsBut [R.TIME_WR_DROP] s t ∧
      t = { s with regs := t.regs, req := t.req })) ∧
  (∀ s : State, ∀ (r : Req) (i : Fin 4), s.legacy = false → 
    Completes (.timeTbNsRead r i) s (fun t => (t.rq r).rword.toNat = s.tbVal i % 10 ^ 9 ∧
      (Tab.get 0 (t.rq r).secl i).toNat = s.tbVal i / 10 ^ 9 % 2 ^ 32 ∧
      (Tab.get 0 (t.rq r).sech i).toNat = s.tbVal i / 10 ^ 9 / 2 ^ 32 % 2 ^ 16 ∧
      t = { s with req := t.req })) ∧
  (∀ s : State, ∀ (r : Req) (i : Fin 4), s.legacy = true → 
    Completes (.timeTbNsRead r i) s (fun t => (t.rq r).rword.toNat = s.tbVal i % 2 ^ 32 ∧
      Tab.get 0 (t.rq r).secl i = 0 ∧
      Tab.get 0 (t.rq r).sech i = 0)) ∧
  (∀ s : State, ∀ (r : Req) (v : Word) (x : TsEntry), bitsOf v 31 31 = 0 → s.time.tsq.find? (fun e => e.typ == bitsOf v 19 16 && e.seq == bitsOf v 15 0) = some x → s.time.tsq.length ≤ 16 → 
    Completes (.tsqFind r v) s (fun t => t.time.tsq = s.time.tsq.erase x ∧
      t.get F.TIME_TSQ_STATUS_COUNT = (s.time.tsq.erase x).length ∧
      (t.rq r).tsqEnt.toNat = (2 ^ 31 + 2 ^ 16 * x.typ + x.seq) % 2 ^ 32 ∧
      (t.rq r).tsqNs.toNat = x.ns % 2 ^ 32 ∧
      (t.rq r).tsqSecl.toNat = x.secl % 2 ^ 32 ∧
      RegsBut [R.TIME_TSQ_STATUS] s t)) ∧
  (∀ s : State, ∀ (r : Req) (v : Word), s.time.tsq = [] → 
    Completes (.tsqFind r v) s (fun t => (t.rq r).tsqEnt = 0 ∧ (t.rq r).tsqNs = 0 ∧ (t.rq r).tsqSecl = 0 ∧ (t.rq r).tsqSech = 0 ∧
      t = { s with req := t.req })) ∧
  (∀ s : State, s.isRoot = true → 
    exec (.syncSendTimer) s = .next (s.sendAll s.downPorts { cls := 2, mcast := false, dest := 0, src := s.chipId, ttl := 0, typ := 1, blocks := [s.tbVal 0, 0] })) ∧
  (∀ s : State, s.isRoot = false → 
    exec (.syncSendTimer) s = .next (s)) ∧
  (∀ s : State, ∀ (k : Port) (g : Nat) (c : Nat) (res : Nat), s.isRoot = false → s.upPort = some k.val → (c + s.get (F.ULT_Pk_LAT_PS k)) % 1000 = 0 → g + (c + s.get (F.ULT_Pk_LAT_PS k)) / 1000 = s.tbVal 0 → s.tbVal 0 < 2 ^ 63 → s.get F.TIME_CTRL_FALLBACK = 0 → s.get F.TIME_STATUS_FALLBACK_ACTIVE = 0 → s.get F.ULT_STATUS_TOO_DEEP = 0 → s.time.clean < 3 → 
    Completes (.sync k g c res) s (fun t => t.num R.TIME_TB0_ERR = 0 ∧
      t.get F.TIME_STATUS_HOLDOVER = 0 ∧
      t.time.clean = s.time.clean + 1 ∧
      t.get F.TIME_STATUS_LOCKED = s.get F.TIME_STATUS_LOCKED ∧
      t.ult.sent = s.ult.sent ++ s.downPorts.map (fun p => (p, { cls := 2, mcast := false, dest := 0, src := s.chipId, ttl := 0, typ := 1, blocks := [g, (c + s.get (F.ULT_Pk_LAT_PS k) + res) % 2 ^ 48] })) ∧
      RegsBut [R.TIME_TB0_ERR, R.TIME_STATUS] s t)) ∧
  (∀ s : State, ∀ (k : Port) (g : Nat) (c : Nat) (res : Nat), s.isRoot = false → s.upPort = some k.val → (c + s.get (F.ULT_Pk_LAT_PS k)) % 1000 = 0 → g + (c + s.get (F.ULT_Pk_LAT_PS k)) / 1000 = s.tbVal 0 → s.tbVal 0 < 2 ^ 63 → s.get F.TIME_CTRL_FALLBACK = 0 → s.get F.TIME_STATUS_FALLBACK_ACTIVE = 0 → s.get F.ULT_STATUS_TOO_DEEP = 0 → 3 ≤ s.time.clean → 
    Completes (.sync k g c res) s (fun t => t.get F.TIME_STATUS_LOCKED = 1 ∧
      t.time.clean = 4 ∧
      t.pair (R.TIME_TB_i_OFFSET_LO 0) = s.pair (R.TIME_TB_i_OFFSET_LO 0))) ∧
  (∀ s : State, ∀ (k : Port) (g : Nat) (c : Nat) (res : Nat), (s.isRoot = true ∨ s.upPort ≠ some k.val) → 
    exec (.sync k g c res) s = .next (s)) ∧
  (∀ s : State, 
    exec (.echoTimer) s = .next (s.sendAll ((List.range 4).filter s.portLive) { cls := 2, mcast := false, dest := 0, src := s.chipId, ttl := 0, typ := 2, blocks := [s.now % 2 ^ 64] })) ∧
  (∀ s : State, ∀ (k : Port) (g : Nat) (res : Nat), s.portLive k = true → 
    exec (.echoReq k g res) s = .next (s.sendOn k { cls := 2, mcast := false, dest := 0, src := s.chipId, ttl := 0, typ := 3, blocks := [g, res % 2 ^ 32] })) ∧
  (∀ s : State, ∀ (k : Port) (g : Nat) (res : Nat) (x : Nat), 2 * x + res + 1000 * g = 1000 * s.now → x < 2 ^ 20 → 
    Completes (.echoRsp k g res) s (fun t => t.get (F.ULT_Pk_LAT_PS k) = x ∧
      t.get (F.ULT_Pk_STATUS_LONG k) = (if 20000 < x then 1 else 0) ∧
      RegsBut [R.ULT_Pk_LAT k, R.ULT_Pk_STATUS k] s t ∧
      t = { s with regs := t.regs })) ∧
  (∀ s : State, s.isRoot = false → s.get F.TIME_STATUS_HOLDOVER = 0 → s.get F.TIME_CTRL_FALLBACK = 0 → s.get F.TIME_STATUS_FALLBACK_ACTIVE = 0 → 
    Completes (.syncMissed) s (fun t => t.get F.TIME_STATUS_HOLDOVER = 1 ∧
      t.get F.TIME_EVENT_HOLDOVER = 1 ∧
      t.get F.TIME_STATUS_LOCKED = 0 ∧
      t.num R.TIME_SYNC_MISS = min satMax (s.num R.TIME_SYNC_MISS + 1) ∧
      t.time.clean = 0 ∧
      RegsBut [R.TIME_STATUS, R.TIME_EVENT, R.TIME_SYNC_MISS] s t ∧
      t = { s with regs := t.regs, time := t.time })) ∧
  (∀ s : State, s.get F.TIME_STATUS_FALLBACK_ACTIVE = 1 → s.get F.TIME_CTRL_FALLBACK = 0 → 
    exec (.fallbackStep) s = .next (s)) ∧
  (∀ s : State, ∀ (d : Int), s.get F.TIME_STATUS_FALLBACK_ACTIVE = 1 → d = nearest10 (sext 64 (toBits 64 ((s.tbVal (s.get F.TIME_CTRL_FALLBACK) : Int) - s.tbVal 0))) → d ≠ 0 → 
    Completes (.fallbackStep) s (fun t => t.pair (R.TIME_TB_i_OFFSET_LO 0) = toBits 64 (s.tbOffset 0 + d) ∧
      t.num R.TIME_STEP_CNT = min satMax (s.num R.TIME_STEP_CNT + 1) ∧
      t.get F.TIME_EVENT_STEP = 1 ∧
      t.get F.TIME_STATUS_LOCKED = 0 ∧
      t.time.clean = 0)) ∧
  (∀ s : State, ∀ (d : List Byte), s.ptpEvent d = none → 
    exec (.ethFrameTransmit d) s = .next ({ s with time := { s.time with frames := s.time.frames ++ [d] } })) ∧
  (∀ s : State, ∀ (d : List Byte) (h : Nat), s.ptpEvent d = some (h, 1) → s.time.tsq.length < 16 → 
    Completes (.ethFrameTransmit d) s (fun t => t.time.frames = s.time.frames ++ [d] ∧
      t.time.tsq.length = s.time.tsq.length + 1 ∧
      (∃ x, t.time.tsq = s.time.tsq ++ [x] ∧ x.typ = 1 ∧ x.seq = frameBe d (h + 30) 2) ∧
      t.get F.TIME_TSQ_STATUS_COUNT = s.time.tsq.length + 1 ∧
      t.get F.TIME_EVENT_TSQ_AVAIL = 1)) ∧
  (∀ s : State, ∀ (d : List Byte) (ok : Bool), s.ptpEvent d = none → 
    Completes (.ethFrameReceive d ok) s (fun t => t.mgmt.eth = s.mgmt.eth ++ [leBytes 2 d.length ++ leBytes 2 (if ok then 1 else 0) ++ List.replicate 12 0 ++ d] ∧
      t = { s with mgmt := t.mgmt }))

/-- R387, R388, R394 to R396: GOV_EVALUATION, ADMISSION_REQUEST, XCHK_BAD, DUR_OVER. The parts of the modelled power are free values (the spec gives their maxima and no formula). -/
def Obligations.Governor : Prop :=
  (∀ s : State, s.gov.queue = [] → 
    Completes (.govEvaluation) s (fun t => t.gov.evals = s.gov.evals + 1 ∧
      t.get F.GOV_PWR_MODEL_P ≤ 1590 ∧
      t.get F.GOV_BASE_PWR_P ≤ t.get F.GOV_PWR_MODEL_P ∧
      t.gov.queue = [] ∧
      ((t.gov.bad = 0 ∧ t.gov.good = min 100 (s.gov.good + 1)) ∨ (t.gov.good = 0 ∧ t.gov.bad = min 100 (s.gov.bad + 1))) ∧
      t.cal = s.cal ∧ t.ult = s.ult ∧ t.tb = s.tb)) ∧
  (∀ s : State, ∀ (n : Site), s.gov.queue = [] → s.siteState n = 2 → s.get (F.GOV_SITE_n_STATUS_STATE n) ≠ 2 → (s.govOf n).resume = false → s.get F.GOV_STATUS_ADMIT_HOLD = 0 → max s.pGov s.pCharged + s.chargeNow n ≤ s.get F.GOV_BUDGET_BUDGET * 100000 → 
    Completes (.admissionRequest n) s (fun t => t.get (F.GOV_SITE_n_STATUS_STATE n) = 2 ∧
      t.get (F.GOV_SITE_n_STATUS_BURST n) = s.get (F.GOV_SITE_n_STATUS_BURST n) ∧
      (t.govOf n).charge = max (s.govOf n).charge (s.chargeNow n) ∧
      (t.govOf n).since = s.now ∧
      t.gov.queue = [] ∧
      t.siteState n = 2)) ∧
  (∀ s : State, ∀ (n : Site), s.gov.queue = [] → s.siteState n = 2 → s.get (F.GOV_SITE_n_STATUS_STATE n) ≠ 2 → (s.govOf n).resume = false → s.get F.GOV_STATUS_ADMIT_HOLD = 1 → 
    Completes (.admissionRequest n) s (fun t => t.get (F.GOV_SITE_n_STATUS_STATE n) = 1 ∧
      t.gov.queue = [n.val] ∧
      t.num R.GOV_ADMIT_WAIT_CNT = min satMax (s.num R.GOV_ADMIT_WAIT_CNT + 1) ∧
      (t.govOf n).charge = (s.govOf n).charge ∧
      RegsBut [R.GOV_SITE_n_STATUS n, R.GOV_ADMIT_WAIT_CNT] s t ∧
      t = { s with regs := t.regs, gov := t.gov })) ∧
  (∀ s : State, ∀ (n : Site), s.gov.queue = [] → s.siteState n ≠ 2 → s.siteState n ≠ 4 → 
    exec (.admissionRequest n) s = .next (s)) ∧
  (∀ s : State, 100 ≤ s.gov.bad → 
    Completes (.xchkBad) s (fun t => t.get F.GOV_STATUS_XCHK_BAD = 1 ∧
      t.get F.GOV_EVENT_XCHK = 1 ∧
      t.num R.GOV_XCHK_CNT = min satMax (s.num R.GOV_XCHK_CNT + 1) ∧
      RegsBut [R.GOV_STATUS, R.GOV_EVENT, R.GOV_XCHK_CNT] s t ∧
      t = { s with regs := t.regs, gov := t.gov })) ∧
  (∀ s : State, s.gov.bad < 100 → 
    exec (.xchkBad) s = .next (s)) ∧
  (∀ s : State, ∀ (n : Site), s.get (F.GOV_SITE_n_STATUS_BURST n) = 1 → s.siteState n = 3 → s.get (F.GOV_SITE_n_STATUS_DUR_OVER n) = 0 → 
    Completes (.durOver n) s (fun t => t.get (F.GOV_SITE_n_STATUS_DUR_OVER n) = 1 ∧
      t.get F.GOV_EVENT_DUR_OVER = 1 ∧
      t.siteState n = 3 ∧
      RegsBut [R.GOV_SITE_n_STATUS n, R.GOV_EVENT] s t ∧
      t = { s with regs := t.regs })) ∧
  (∀ s : State, ∀ (n : Site), s.get (F.GOV_SITE_n_STATUS_DUR_OVER n) = 1 → 
    exec (.durOver n) s = .next (s))

/-- R252, R253, R403 to R410: the CAL commands of clusters. -/
def Obligations.CalibrationRequests : Prop :=
  (∀ s : State, ∀ (k : Cluster) (nq : Bool), s.nib k 1 ≠ 1 → s.nib k 1 ≠ 2 → s.nib k 1 ≠ 11 → s.spanClu k = false → s.calActive k = 0 → s.calRefusal k 1 = none → 
    Completes (.calRequestTdcCd k nq) s (fun t => t.nib k 1 = 1 ∧
      t.calActive k = 1 ∧
      (t.calOf k).since = s.now ∧
      (t.calOf k).applying = false ∧
      t.mem = s.mem)) ∧
  (∀ s : State, ∀ (k : Cluster) (nq : Bool), (s.nib k 1 = 1 ∨ s.nib k 1 = 2 ∨ s.nib k 1 = 11) → 
    exec (.calRequestTdcCd k nq) s = .next (s.bump R.CAL_DUP_CNT)) ∧
  (∀ s : State, ∀ (k : Cluster), s.nib k 1 ≠ 1 → s.nib k 1 ≠ 2 → s.nib k 1 ≠ 11 → s.spanClu k = false → s.calActive k ≠ 0 → s.calRefusal k 1 = none → 
    Completes (.calRequestTdcCd k false) s (fun t => t.nib k 1 = 2 ∧
      t.calActive k = s.calActive k ∧
      RegsBut [R.CAL_CL_k_ACT k] s t ∧
      t = { s with regs := t.regs })) ∧
  (∀ s : State, ∀ (k : Cluster), s.nib k 1 ≠ 1 → s.nib k 1 ≠ 2 → s.nib k 1 ≠ 11 → s.spanClu k = false → s.calActive k ≠ 0 → s.calRefusal k 1 = none → 
    Completes (.calRequestTdcCd k true) s (fun t => t.nib k 1 = 5 ∧
      t.num R.CAL_REFUSED_CNT = min satMax (s.num R.CAL_REFUSED_CNT + 1) ∧
      t.calActive k = s.calActive k ∧
      RegsBut [R.CAL_CL_k_ACT k, R.CAL_REFUSED_CNT] s t ∧
      t = { s with regs := t.regs })) ∧
  (∀ s : State, ∀ (k : Cluster) (nq : Bool), s.nib k 2 ≠ 1 → s.nib k 2 ≠ 2 → s.nib k 2 ≠ 11 → s.spanClu k = false → s.calActive k = 0 → s.calRefusal k 2 = none → 
    Completes (.calRequestLevelDac k nq) s (fun t => t.nib k 2 = 1 ∧
      t.calActive k = 2 ∧
      (t.calOf k).since = s.now ∧
      (t.calOf k).applying = false ∧
      t.mem = s.mem ∧
      t.get (F.CLU_k_MC_STATUS_CAL k) = (if s.get (F.CLU_k_MC_STATUS_RUNNING k) = 0 then 1 else s.get (F.CLU_k_MC_STATUS_CAL k)))) ∧
  (∀ s : State, ∀ (k : Cluster) (nq : Bool), (s.nib k 2 = 1 ∨ s.nib k 2 = 2 ∨ s.nib k 2 = 11) → 
    exec (.calRequestLevelDac k nq) s = .next (s.bump R.CAL_DUP_CNT)) ∧
  (∀ s : State, ∀ (k : Cluster), s.nib k 2 ≠ 1 → s.nib k 2 ≠ 2 → s.nib k 2 ≠ 11 → s.spanClu k = false → s.calActive k ≠ 0 → s.calRefusal k 2 = none → 
    Completes (.calRequestLevelDac k false) s (fun t => t.nib k 2 = 2 ∧
      t.calActive k = s.calActive k ∧
      RegsBut [R.CAL_CL_k_ACT k] s t ∧
      t = { s with regs := t.regs })) ∧
  (∀ s : State, ∀ (k : Cluster), s.nib k 2 ≠ 1 → s.nib k 2 ≠ 2 → s.nib k 2 ≠ 11 → s.spanClu k = false → s.calActive k ≠ 0 → s.calRefusal k 2 = none → 
    Completes (.calRequestLevelDac k true) s (fun t => t.nib k 2 = 5 ∧
      t.num R.CAL_REFUSED_CNT = min satMax (s.num R.CAL_REFUSED_CNT + 1) ∧
      t.calActive k = s.calActive k ∧
      RegsBut [R.CAL_CL_k_ACT k, R.CAL_REFUSED_CNT] s t ∧
      t = { s with regs := t.regs })) ∧
  (∀ s : State, ∀ (k : Cluster) (nq : Bool) (r : Nat), s.nib k 2 ≠ 1 → s.nib k 2 ≠ 2 → s.nib k 2 ≠ 11 → s.spanClu k = false → s.calRefusal k 2 = some r → 
    Completes (.calRequestLevelDac k nq) s (fun t => t.nib k 2 = r ∧
      t.num R.CAL_REFUSED_CNT = min satMax (s.num R.CAL_REFUSED_CNT + 1) ∧
      ((s.safe = true → r = 8) ∧ (s.safe = false → s.get (F.CLU_k_BANK_CFG_VNOM k) = 0 → r = 7) ∧ (r = 6 ∨ r = 7 ∨ r = 8)) ∧
      RegsBut [R.CAL_CL_k_ACT k, R.CAL_REFUSED_CNT] s t ∧
      t = { s with regs := t.regs })) ∧
  (∀ s : State, ∀ (k : Cluster) (nq : Bool), s.nib k 3 ≠ 1 → s.nib k 3 ≠ 2 → s.nib k 3 ≠ 11 → s.spanClu k = false → s.calActive k = 0 → s.calRefusal k 3 = none → 
    Completes (.calRequestClusterFull k nq) s (fun t => t.nib k 3 = 1 ∧
      t.calActive k = 3 ∧
      (t.calOf k).since = s.now ∧
      (t.calOf k).applying = false ∧
      t.mem = s.mem ∧
      t.get (F.CLU_k_MC_STATUS_CAL k) = (if s.get (F.CLU_k_MC_STATUS_RUNNING k) = 0 then 1 else s.get (F.CLU_k_MC_STATUS_CAL k)))) ∧
  (∀ s : State, ∀ (k : Cluster) (nq : Bool), (s.nib k 3 = 1 ∨ s.nib k 3 = 2 ∨ s.nib k 3 = 11) → 
    exec (.calRequestClusterFull k nq) s = .next (s.bump R.CAL_DUP_CNT)) ∧
  (∀ s : State, ∀ (k : Cluster), s.nib k 3 ≠ 1 → s.nib k 3 ≠ 2 → s.nib k 3 ≠ 11 → s.spanClu k = false → s.calActive k ≠ 0 → s.calRefusal k 3 = none → 
    Completes (.calRequestClusterFull k false) s (fun t => t.nib k 3 = 2 ∧
      t.calActive k = s.calActive k ∧
      RegsBut [R.CAL_CL_k_ACT k] s t ∧
      t = { s with regs := t.regs })) ∧
  (∀ s : State, ∀ (k : Cluster), s.nib k 3 ≠ 1 → s.nib k 3 ≠ 2 → s.nib k 3 ≠ 11 → s.spanClu k = false → s.calActive k ≠ 0 → s.calRefusal k 3 = none → 
    Completes (.calRequestClusterFull k true) s (fun t => t.nib k 3 = 5 ∧
      t.num R.CAL_REFUSED_CNT = min satMax (s.num R.CAL_REFUSED_CNT + 1) ∧
      t.calActive k = s.calActive k ∧
      RegsBut [R.CAL_CL_k_ACT k, R.CAL_REFUSED_CNT] s t ∧
      t = { s with regs := t.regs })) ∧
  (∀ s : State, ∀ (k : Cluster) (nq : Bool) (r : Nat), s.nib k 3 ≠ 1 → s.nib k 3 ≠ 2 → s.nib k 3 ≠ 11 → s.spanClu k = false → s.calRefusal k 3 = some r → 
    Completes (.calRequestClusterFull k nq) s (fun t => t.nib k 3 = r ∧
      t.num R.CAL_REFUSED_CNT = min satMax (s.num R.CAL_REFUSED_CNT + 1) ∧
      ((s.safe = true → r = 8) ∧ (s.safe = false → s.get (F.CLU_k_BANK_CFG_VNOM k) = 0 → r = 7) ∧ (r = 6 ∨ r = 7 ∨ r = 8)) ∧
      RegsBut [R.CAL_CL_k_ACT k, R.CAL_REFUSED_CNT] s t ∧
      t = { s with regs := t.regs })) ∧
  (∀ s : State, ∀ (k : Cluster) (q : Fin 8), s.nib k 3 = 2 → q.val.testBit 2 = true → 
    Completes (.calCancel k q) s (fun t => t.nib k 3 = 10 ∧
      (q.val.testBit 0 = false → t.nib k 1 = s.nib k 1) ∧
      (q.val.testBit 1 = false → t.nib k 2 = s.nib k 2) ∧
      t.calActive k = s.calActive k ∧
      RegsBut [R.CAL_CL_k_ACT k] s t ∧
      t = { s with regs := t.regs })) ∧
  (∀ s : State, ∀ (k : Cluster) (h : List (List Nat)) (v : List Int), s.calActive k = 1 → (s.calOf k).applying = false → h.length = 4 → (∀ l ∈ h, l.length = 384) → s.nib k 1 = 1 ∧ s.nib k 2 = 0 ∧ s.nib k 3 = 0 → s.get (F.CLU_k_MC_STATUS_CAL k) = 0 → 
    Completes (.calActivityEnd k true h v) s (fun t => t.nib k 1 = 4 ∧
      t.calActive k = 0 ∧
      (∀ u : Fin 4, t.get (F.CLU_k_TDC_u_CAL_FAIL k u) = 1 ∧ t.get (F.CLU_k_TDC_u_CAL_VALID k u) = s.get (F.CLU_k_TDC_u_CAL_VALID k u)) ∧
      t.get (F.CLU_k_TDC_EVENT_CAL_FAIL k) = 1 ∧
      t.get F.CAL_EVENT_DONE = 1 ∧
      t.get F.CAL_EVENT_FAIL = 1 ∧
      t.num R.CAL_FAIL_CNT = min satMax (s.num R.CAL_FAIL_CNT + 1) ∧
      t.num (R.CLU_k_TDC_CAL_CNT k) = min satMax (s.num (R.CLU_k_TDC_CAL_CNT k) + 1))) ∧
  (∀ s : State, ∀ (k : Cluster) (h : List (List Nat)) (v : List Int), s.calActive k = 3 → (s.calOf k).applying = false → (s.calOf k).refBad = false → s.refValid = true → v.length = 48 → (v.zipIdx.any (fun p => slewBad p.2 p.1)) = false → 
    Completes (.calActivityEnd k false h v) s (fun t => (t.calOf k).applying = true ∧
      (∀ i : Fin 48, Tab.get 0 (t.calOf k).target i = v.getD i 0) ∧
      t.get (F.CAL_CL_k_STATE_SLEWING k) = 1 ∧
      t.calActive k = 3 ∧
      RegsBut [R.CAL_CL_k_STATE k] s t ∧
      t = { s with regs := t.regs, cal := t.cal })) ∧
  (∀ s : State, ∀ (k : Cluster) (h : List (List Nat)) (v : List Int), s.calActive k = 2 → (s.calOf k).applying = false → v.length = 160 → s.nib k 1 = 0 ∧ s.nib k 2 = 1 ∧ s.nib k 3 = 0 → s.get (F.CLU_k_MC_STATUS_CAL k) = 0 → 
    Completes (.calActivityEnd k true h v) s (fun t => t.nib k 2 = 4 ∧
      t.calActive k = 0 ∧
      (t.calOf k).level = (s.calOf k).level ∧
      t.get F.CAL_EVENT_FAIL = 1 ∧
      t.num R.CAL_FAIL_CNT = min satMax (s.num R.CAL_FAIL_CNT + 1))) ∧
  (∀ s : State, ∀ (k : Cluster) (i : Nat) (v : Int), (s.calOf k).target = [(i, v)] → i < 16 → s.slewsHere k none i = true → v ≤ 2000 → s.slewNow k i + 1 < v → 
    Completes (.calSlewTick k none) s (fun t => t.slewNow k i = s.slewNow k i + 1 ∧
      (t.calOf k).target = [(i, v)])) ∧
  (∀ s : State, ∀ (k : Cluster) (m : Site) (i : Nat) (v : Int), (s.calOf k).target = [(i, v)] → s.slewsHere k (some m.val) i = false → s.slewNow k i ≠ v → s.cal.span.site = none → 
    Completes (.calSlewTick k (some m.val)) s (fun t => t.slewNow k i = s.slewNow k i ∧
      (t.calOf k).target = [(i, v)]))

/-- R403, R412 to R419: CAL_SPAN_START, SPAN_SKEW_HOLD, SPAN_SKEW_BARRIER, SPAN_SKEW_BUSY_TIMEOUT, SPAN_SKEW_END, EPH_READ, EPH_RECORD. -/
def Obligations.SpanSkewAndEphemeris : Prop :=
  (∀ s : State, ∀ (n : Site) (q : Bool), (if s.armed n then (s.siteOf n).role else s.get (F.SITE_n_SPAN_ROLE n)) ≠ 1 → 
    Completes (.calSpanStart n q) s (fun t => t.get F.CAL_SPAN_STATUS_RESULT = 6 ∧
      t.get F.CAL_SPAN_STATUS_SITE = n ∧
      t.cal = s.cal ∧
      RegsBut [R.CAL_SPAN_STATUS] s t ∧
      t = { s with regs := t.regs })) ∧
  (∀ s : State, ∀ (n : Site) (q : Bool), (s.siteOf n).role = 1 → s.armed n = true → s.siteState n ≠ 1 → 
    Completes (.calSpanStart n q) s (fun t => t.get F.CAL_SPAN_STATUS_RESULT = 7 ∧
      t.cal = s.cal ∧
      RegsBut [R.CAL_SPAN_STATUS] s t ∧
      t = { s with regs := t.regs })) ∧
  (∀ s : State, ∀ (n : Site) (q : Bool) (k : Cluster), (s.siteOf n).role = 1 → s.siteState n = 1 → s.armed n = true → s.cal.span.site = none → s.siteClus n = [k.val] → s.calActive k = 0 → 
    Completes (.calSpanStart n q) s (fun t => t.get F.CAL_SPAN_STATUS_RESULT = 2 ∧
      t.get F.CAL_SPAN_STATUS_BUSY = 1 ∧
      t.cal.span.site = some n.val ∧
      t.cal.span.holds = true ∧
      t.calActive k = 4 ∧
      t.cal.span.count = 0 ∧
      RegsBut [R.CAL_SPAN_STATUS, R.CAL_CL_k_STATE k] s t ∧
      t = { s with regs := t.regs, cal := t.cal })) ∧
  (∀ s : State, ∀ (n : Site) (k : Cluster), (s.siteOf n).role = 1 → s.siteState n = 1 → s.armed n = true → s.cal.span.site = none → s.siteClus n = [k.val] → s.calActive k ≠ 0 → 
    Completes (.calSpanStart n true) s (fun t => t.get F.CAL_SPAN_STATUS_RESULT = 4 ∧
      t.get F.CAL_SPAN_STATUS_BUSY = 0 ∧
      t.cal.span.site = none ∧
      t.get F.CAL_EVENT_SPAN_DONE = 1 ∧
      t.calActive k = s.calActive k)) ∧
  (∀ s : State, ∀ (n : Site) (k : Cluster), (s.siteOf n).role = 2 → s.siteState n = 1 → s.cal.span.site = none → s.siteClus n = [k.val] → s.calActive k = 0 → 
    Completes (.spanSkewHold n) s (fun t => t.cal.span.site = some n.val ∧
      t.cal.span.holds = true ∧
      t.calActive k = 4 ∧
      t.get F.CAL_SPAN_STATUS_BUSY = 1 ∧
      t = { s with regs := t.regs, cal := t.cal })) ∧
  (∀ s : State, ∀ (n : Site) (off : Int), s.cal.span.site = some n.val → s.cal.span.holds = true → s.cal.span.count < 3968 → (s.siteOf n).role ≠ 1 → 
    Completes (.spanSkewBarrier off) s (fun t => t.cal.span.sum = s.cal.span.sum + off ∧
      t.cal.span.count = s.cal.span.count + 1 ∧
      t.get F.CAL_SPAN_STATUS_RESULT = 1 ∧
      RegsBut [R.CAL_SPAN_STATUS] s t ∧
      t = { s with regs := t.regs, cal := t.cal })) ∧
  (∀ s : State, ∀ (n : Site), s.cal.span.site = some n.val → s.cal.span.count = 0 → s.cal.span.applying = false → 
    Completes (.spanSkewBusyTimeout) s (fun t => t.get F.CAL_SPAN_STATUS_RESULT = 4 ∧
      t.get F.CAL_SPAN_STATUS_BUSY = 0 ∧
      t.cal.span.site = none)) ∧
  (∀ s : State, ∀ (n : Site) (up : Int) (q : Int), s.cal.span.site = some n.val → s.cal.span.holds = true → s.cal.span.applying = false → s.cal.span.count = 3968 → s.cal.span.refBad = false → s.refValid = true → -(up * 3968 + s.cal.span.sum) = q * (2 * 3968) → q.natAbs ≤ 800 → q ≠ sext 16 (s.get (F.CAL_SITE_n_SKEW_SKEW n)) → 
    Completes (.spanSkewEnd up false) s (fun t => t.cal.span.applying = true ∧
      t.cal.span.target = q ∧
      t.get (F.CAL_SITE_n_SKEW_VALID n) = 1 ∧
      t.get (F.CAL_SITE_n_SKEW_SKEW n) = s.get (F.CAL_SITE_n_SKEW_SKEW n) ∧
      t = { s with regs := t.regs, cal := t.cal })) ∧
  (∀ s : State, ∀ (n : Site) (up : Int), s.cal.span.site = some n.val → s.cal.span.holds = true → s.cal.span.applying = false → 
    Completes (.spanSkewEnd up true) s (fun t => t.get F.CAL_SPAN_STATUS_RESULT = 8 ∧
      t.cal.span.site = none ∧
      t.get F.CAL_EVENT_FAIL = 1 ∧
      t.get (F.CAL_SITE_n_SKEW_SKEW n) = s.get (F.CAL_SITE_n_SKEW_SKEW n))) ∧
  (∀ s : State, ∀ (l : List (Nat × Nat)), s.refValid = false → 
    exec (.ephRead l) s = .next (s.bump R.CAL_EPH_SKIP)) ∧
  (∀ s : State, ∀ (l : List (Nat × Nat)), s.refValid = true → l.length = 32 → 
    Completes (.ephRead l) s (fun t => (∀ k : Cluster, ∀ d : Int, driftOf k (l.getD k (0, 0)) = some d → -32768 ≤ d → d < 32768 → t.driftNow k = d) ∧
      (∃ w : Cluster, t.get F.CAL_EPH_STATUS_WORST = w.val ∧ sext 16 (t.get F.CAL_EPH_DMAX_PPM) = t.driftNow w ∧ ∀ k : Cluster, t.driftNow k ≤ t.driftNow w) ∧
      (∀ k : Cluster, (t.calOf k).reads = (s.calOf k).reads + 1) ∧
      t.mem = s.mem)) ∧
  (∀ s : State, (∀ k : Cluster, (s.calOf k).reads ≠ 0) → 
    Completes (.ephRecord) s (fun t => t.mgmt.ledger.ephTotal = s.mgmt.ledger.ephTotal + 1 ∧
      t.mgmt.ledger.ephCount = min 64 (s.mgmt.ledger.ephCount + 1) ∧
      t.mgmt.ledger.ephNext = (s.mgmt.ledger.ephNext + 1) % 64 ∧
      t.num R.CAL_EPH_RECORDS = (s.mgmt.ledger.ephTotal + 1) % 2 ^ 32 ∧
      t.get F.CAL_EVENT_EPH_RECORD = 1 ∧
      t.mgmt.commit = true ∧
      (∀ k : Cluster, (t.calOf k).reads = 0 ∧ (t.calOf k).sum = 0) ∧
      t.mem = s.mem))

/-- R423 to R425, R444, R448, R457: PWRGOOD_RISE, PWRGOOD_FALL, RST_N_RISE, RST_N_PULSE, INTERNAL_RESET_RELEASE, BOOT_RESET_WRITE, SOFTWARE_RESET. That memory lists nothing is the model's choice (log entry 3). -/
def Obligations.Resets : Prop :=
  (∀ s : State, s.pins.pwrgood = false → 
    Completes (.pwrgoodRise) s (fun t => t.pins = { s.pins with pwrgood := true } ∧
      RegsBut [R.MGS_KA_STATUS] s t ∧
      t = { s with regs := t.regs, pins := t.pins, free := t.free })) ∧
  (∀ s : State, 
    Completes (.pwrgoodFall) s (fun t => RegsBut [R.BOOT_STRAP, R.BOOT_RESET_CAUSE, R.BOOT_STAGE, R.GLB_STATUS, R.GLB_COMPAT, R.ULT_STATUS, R.BOOT_TRIAL_CNT, R.MGS_SAFE_STATUS, R.MGS_KA_STATUS, R.MGS_KA_BOOTS] State.reset t ∧
      t.mem = [] ∧
      t.mgmt.flash = s.mgmt.flash ∧
      t.num R.MGS_KA_BOOTS = s.num R.MGS_KA_BOOTS ∧
      t.now = 0 ∧
      t.seq = [] ∧ t.strm = [] ∧ t.site = [] ∧ t.hart = [] ∧ t.sched = {} ∧ t.intc = {} ∧ t.ult = {} ∧ t.gov = {} ∧
      t.pins.pwrgood = false ∧
      t.get F.BOOT_RESET_CAUSE_CAUSE = 0 ∧
      t.get F.BOOT_STAGE_STAGE = 0)) ∧
  (∀ s : State, ∀ (c : Bool) (r : Bool) (b : Fin 4), s.pins.pwrgood = true → s.pins.rstN = false → 
    Completes (.rstNRise c r b) s (fun t => RegsBut [R.BOOT_STRAP, R.BOOT_RESET_CAUSE, R.BOOT_STAGE, R.GLB_STATUS, R.GLB_COMPAT, R.ULT_STATUS, R.BOOT_TRIAL_CNT, R.MGS_SAFE_STATUS, R.MGS_KA_STATUS, R.MGS_KA_BOOTS] State.reset t ∧
      t.mem = [] ∧
      t.mgmt.flash = s.mgmt.flash ∧
      t.num R.MGS_KA_BOOTS = s.num R.MGS_KA_BOOTS ∧
      t.now = 0 ∧
      t.seq = [] ∧ t.strm = [] ∧ t.site = [] ∧ t.hart = [] ∧ t.sched = {} ∧ t.intc = {} ∧ t.ult = {} ∧ t.gov = {} ∧
      t.get F.BOOT_STAGE_STAGE = 1 ∧
      t.get F.BOOT_RESET_CAUSE_CAUSE = (if s.boot.first then 0 else 1) ∧
      t.get F.BOOT_STRAP_BOOTSEL = b ∧
      t.get F.ULT_STATUS_ROOT = b2n r ∧
      t.get F.GLB_STATUS_COMPAT_STRAP = b2n !c ∧
      (c = false → t.num R.GLB_COMPAT = 0x3F) ∧
      (c = true → t.num R.GLB_COMPAT = State.reset.num R.GLB_COMPAT) ∧
      t.boot.first = false ∧
      t.mgmt.logQ.length = 1)) ∧
  (∀ s : State, ∀ (c : Bool) (r : Bool) (b : Fin 4), s.pins.pwrgood = true → 
    Completes (.rstNPulse c r b) s (fun t => RegsBut [R.BOOT_STRAP, R.BOOT_RESET_CAUSE, R.BOOT_STAGE, R.GLB_STATUS, R.GLB_COMPAT, R.ULT_STATUS, R.BOOT_TRIAL_CNT, R.MGS_SAFE_STATUS, R.MGS_KA_STATUS, R.MGS_KA_BOOTS] State.reset t ∧
      t.mem = [] ∧
      t.mgmt.flash = s.mgmt.flash ∧
      t.num R.MGS_KA_BOOTS = s.num R.MGS_KA_BOOTS ∧
      t.now = 0 ∧
      t.seq = [] ∧ t.strm = [] ∧ t.site = [] ∧ t.hart = [] ∧ t.sched = {} ∧ t.intc = {} ∧ t.ult = {} ∧ t.gov = {} ∧
      t.get F.BOOT_STAGE_STAGE = 1 ∧
      t.get F.BOOT_RESET_CAUSE_CAUSE = (if s.boot.first then 0 else 1) ∧
      t.get F.BOOT_STRAP_BOOTSEL = b ∧
      t.get F.ULT_STATUS_ROOT = b2n r ∧
      t.get F.GLB_STATUS_COMPAT_STRAP = b2n !c ∧
      (c = false → t.num R.GLB_COMPAT = 0x3F) ∧
      (c = true → t.num R.GLB_COMPAT = State.reset.num R.GLB_COMPAT) ∧
      t.boot.first = false ∧
      t.mgmt.logQ.length = 1)) ∧
  (∀ s : State, ∀ (c : Bool) (r : Bool) (b : Fin 4), s.pins.pwrgood = true → s.pins.rstN = true → s.boot.first = true → 
    Completes (.internalResetRelease c r b) s (fun t => RegsBut [R.BOOT_STRAP, R.BOOT_RESET_CAUSE, R.BOOT_STAGE, R.GLB_STATUS, R.GLB_COMPAT, R.ULT_STATUS, R.BOOT_TRIAL_CNT, R.MGS_SAFE_STATUS, R.MGS_KA_STATUS, R.MGS_KA_BOOTS] State.reset t ∧
      t.mem = [] ∧
      t.mgmt.flash = s.mgmt.flash ∧
      t.num R.MGS_KA_BOOTS = s.num R.MGS_KA_BOOTS ∧
      t.now = 0 ∧
      t.seq = [] ∧ t.strm = [] ∧ t.site = [] ∧ t.hart = [] ∧ t.sched = {} ∧ t.intc = {} ∧ t.ult = {} ∧ t.gov = {} ∧
      t.get F.BOOT_STAGE_STAGE = 1 ∧
      t.get F.BOOT_RESET_CAUSE_CAUSE = 0 ∧
      t.get F.BOOT_STRAP_BOOTSEL = b ∧
      t.get F.ULT_STATUS_ROOT = b2n r ∧
      t.get F.GLB_STATUS_COMPAT_STRAP = b2n !c ∧
      (c = false → t.num R.GLB_COMPAT = 0x3F) ∧
      (c = true → t.num R.GLB_COMPAT = State.reset.num R.GLB_COMPAT) ∧
      t.boot.first = false ∧
      t.mgmt.logQ.length = 1)) ∧
  (∀ s : State, ∀ (v : Word), bitsOf v 31 16 = 0xA5C3 → bitsOf v 0 0 = 1 → 
    Completes (.bootResetWrite v) s (fun t => RegsBut [R.BOOT_STRAP, R.BOOT_RESET_CAUSE, R.BOOT_STAGE, R.GLB_STATUS, R.GLB_COMPAT, R.ULT_STATUS, R.BOOT_TRIAL_CNT, R.MGS_SAFE_STATUS, R.MGS_KA_STATUS, R.MGS_KA_BOOTS] State.reset t ∧
      t.mem = [] ∧
      t.mgmt.flash = s.mgmt.flash ∧
      t.num R.MGS_KA_BOOTS = s.num R.MGS_KA_BOOTS ∧
      t.now = 0 ∧
      t.seq = [] ∧ t.strm = [] ∧ t.site = [] ∧ t.hart = [] ∧ t.sched = {} ∧ t.intc = {} ∧ t.ult = {} ∧ t.gov = {} ∧
      t.get F.BOOT_STAGE_STAGE = 1 ∧
      t.get F.BOOT_RESET_CAUSE_CAUSE = 2 ∧
      t.get F.BOOT_STRAP_BOOTSEL = s.get F.BOOT_STRAP_BOOTSEL ∧
      t.get F.ULT_STATUS_ROOT = s.get F.BOOT_STRAP_ULT_ROOT)) ∧
  (∀ s : State, ∀ (v : Word), bitsOf v 31 16 ≠ 0xA5C3 → 
    exec (.bootResetWrite v) s = .next (s.bump R.BOOT_RESET_REJ)) ∧
  (∀ s : State, s.boot.reboot = true → 
    Completes (.softwareReset) s (fun t => RegsBut [R.BOOT_STRAP, R.BOOT_RESET_CAUSE, R.BOOT_STAGE, R.GLB_STATUS, R.GLB_COMPAT, R.ULT_STATUS, R.BOOT_TRIAL_CNT, R.MGS_SAFE_STATUS, R.MGS_KA_STATUS, R.MGS_KA_BOOTS] State.reset t ∧
      t.mem = [] ∧
      t.mgmt.flash = s.mgmt.flash ∧
      t.num R.MGS_KA_BOOTS = s.num R.MGS_KA_BOOTS ∧
      t.now = 0 ∧
      t.seq = [] ∧ t.strm = [] ∧ t.site = [] ∧ t.hart = [] ∧ t.sched = {} ∧ t.intc = {} ∧ t.ult = {} ∧ t.gov = {} ∧
      t.get F.BOOT_STAGE_STAGE = 1 ∧
      t.get F.BOOT_RESET_CAUSE_CAUSE = 2 ∧
      t.get F.BOOT_STRAP_BOOTSEL = s.get F.BOOT_STRAP_BOOTSEL ∧
      t.get F.ULT_STATUS_ROOT = s.get F.BOOT_STRAP_ULT_ROOT)) ∧
  (∀ s : State, s.boot.reboot = false → 
    exec (.softwareReset) s = .next (s))

/-- R426 to R446: the BOOT commands. Whether a header or a section passes depends on the fuses and on the opaque hash and signature checks (free values). -/
def Obligations.BootStages : Prop :=
  (∀ s : State, s.get F.BOOT_STAGE_STAGE = 1 → 
    Completes (.bootRomDone) s (fun t => t.get F.BOOT_STAGE_STAGE = 2 ∧
      t.num R.MGS_KA_BOOTS = (s.num R.MGS_KA_BOOTS + 1) % 2 ^ 32 ∧
      RegsBut [R.MGS_KA_BOOTS, R.BOOT_STATUS, R.BOOT_STAGE] s t ∧
      t = { s with regs := t.regs })) ∧
  (∀ s : State, ∀ (z : Nat) (m : Nat) (q : Bool), s.get F.BOOT_STAGE_STAGE = 2 → 25 ≤ z → z < 64 → s.get F.BOOT_STRAP_BOOTSEL ≠ 3 → 
    Completes (.bootFlashDiscovery true z m q) s (fun t => t.get F.BOOT_STAGE_STAGE = 3 ∧
      t.get F.BOOT_FLASH_SIZE_LOG2 = z ∧
      t.get F.BOOT_FLASH_MHZ = min 100 m ∧
      t.get F.BOOT_FLASH_WIDTH = b2n q ∧
      RegsBut [R.BOOT_FLASH, R.BOOT_STAGE] s t ∧
      t = { s with regs := t.regs })) ∧
  (∀ s : State, ∀ (z : Nat) (m : Nat) (q : Bool), s.get F.BOOT_STAGE_STAGE = 2 → 25 ≤ z → s.get F.BOOT_STRAP_BOOTSEL = 3 → 
    Completes (.bootFlashDiscovery true z m q) s (fun t => t.get F.BOOT_STAGE_STAGE = 11 ∧
      t.get F.BOOT_STATUS_HOLD = 1)) ∧
  (∀ s : State, ∀ (z : Nat) (m : Nat) (q : Bool), s.get F.BOOT_STAGE_STAGE = 2 → 
    Completes (.bootFlashDiscovery false z m q) s (fun t => t.get F.BOOT_STAGE_STAGE = 255 ∧
      t.get F.BOOT_STAGE_ERR = 1 ∧
      t.get F.BOOT_STATUS_FAILED = 1)) ∧
  (∀ s : State, s.get F.BOOT_STAGE_STAGE = 3 → s.get F.BOOT_STRAP_BOOTSEL = 1 → 
    Completes (.bootSelect) s (fun t => t.get F.BOOT_STAGE_STAGE = 4 ∧
      t.get F.BOOT_STATUS_SLOT = 0 ∧
      t.boot.slot = 0 ∧
      t.boot.tried = s.boot.tried ++ [0] ∧
      t.mem = s.mem ∧
      t.mgmt.flash = s.mgmt.flash)) ∧
  (∀ s : State, s.get F.BOOT_STAGE_STAGE = 3 → s.get F.BOOT_STRAP_BOOTSEL = 2 → 
    Completes (.bootSelect) s (fun t => t.get F.BOOT_STAGE_STAGE = 4 ∧
      t.get F.BOOT_STATUS_SLOT = 1 ∧
      t.boot.slot = 1 ∧
      t.boot.tried = s.boot.tried ++ [1] ∧
      t.mem = s.mem ∧
      t.mgmt.flash = s.mgmt.flash)) ∧
  (∀ s : State, s.get F.BOOT_STAGE_STAGE = 4 → 
    Completes (.bootHeader) s (fun t => (hdrCheck (s.slotImg s.boot.slot 0 0x240) s.mgmt.ledger.rb = none → t.get F.BOOT_STAGE_STAGE = 5 ∧ t.num R.GLB_IMAGE_VER = sub (s.slotImg s.boot.slot 0 0x240) 8 4 ∧ t.num R.BOOT_ROLLBACK = sub (s.slotImg s.boot.slot 0 0x240) 0xC 4) ∧
      (∀ e, hdrCheck (s.slotImg s.boot.slot 0 0x240) s.mgmt.ledger.rb = some e → t.get F.BOOT_STAGE_ERR = e % 256 ∧ t.get F.BOOT_ERR_LOC_TYPE = 0 ∧ (t.get F.BOOT_STAGE_STAGE = 255 ∨ t.get F.BOOT_STAGE_STAGE = 4)) ∧
      t.mem = s.mem)) ∧
  (∀ s : State, s.get F.BOOT_STAGE_STAGE = 5 → secOf (s.slotImg s.boot.slot 0 0x240) 5 = none → 
    Completes (.bootMgmtFw) s (fun t => t.get F.BOOT_STAGE_STAGE = 6 ∧
      RegsBut [R.BOOT_STAGE] s t ∧
      t = { s with regs := t.regs })) ∧
  (∀ s : State, ∀ (x : Sec), s.get F.BOOT_STAGE_STAGE = 5 → secOf (s.slotImg s.boot.slot 0 0x240) 5 = some x → mgmtFwOk (s.slotImg s.boot.slot x.off x.len) = true → 16 ≤ x.len → 
    Completes (.bootMgmtFw) s (fun t => (secSigOk (s.slotImg s.boot.slot) (s.slotImg s.boot.slot 0 0x240) x = true → t.get F.BOOT_STAGE_STAGE = 6 ∧ t.num R.BOOT_MGMT_VER = sub (s.slotImg s.boot.slot x.off x.len) 0 4 ∧ t.rdBytes 0x2005800000 (x.len - 16) = (s.slotImg s.boot.slot x.off x.len).drop 16) ∧
      (secSigOk (s.slotImg s.boot.slot) (s.slotImg s.boot.slot 0 0x240) x = false → t.get F.BOOT_STAGE_ERR = 4 ∧ t.get F.BOOT_ERR_LOC_TYPE = 5))) ∧
  (∀ s : State, s.get F.BOOT_STAGE_STAGE = 6 → 
    Completes (.bootClocks) s (fun t => t.get F.BOOT_STAGE_STAGE = 7 ∧
      t.num R.CLK_PLL_LOCK = 0xFFFFFFFF ∧
      t.num R.CLK_SYS_LOCK = 0xF ∧
      t.get F.CLK_REF_STATUS_PRESENT = 1 ∧
      t.get F.CLK_REF_STATUS_FREQ_OK = 1 ∧
      t.mem = s.mem)) ∧
  (∀ s : State, s.get F.BOOT_STAGE_STAGE = 6 → 
    Completes (.bootNoRefclk) s (fun t => t.get F.BOOT_STAGE_STAGE = 255 ∧
      t.get F.BOOT_STAGE_ERR = 7 ∧
      t.get F.BOOT_STATUS_FAILED = 1)) ∧
  (∀ s : State, s.get F.BOOT_STAGE_STAGE = 6 → 
    Completes (.bootPllLockTimeout) s (fun t => t.get F.BOOT_STAGE_STAGE = 255 ∧
      t.get F.BOOT_STAGE_ERR = 8 ∧
      t.get F.BOOT_STATUS_FAILED = 1)) ∧
  (∀ s : State, (s.get F.BOOT_STAGE_STAGE = 7 ∨ s.get F.BOOT_STAGE_STAGE = 8) → s.boot.loadDone = false → (∀ y ∈ loadOrder, secOf (s.slotImg s.boot.slot 0 0x240) y = none) → 
    Completes (.bootLoad) s (fun t => t.boot.loadDone = true ∧
      (s.boot.hbmDone = false → t.get F.BOOT_STAGE_STAGE = 8) ∧
      (s.boot.hbmDone = true → t.get F.BOOT_STAGE_STAGE = 9) ∧
      RegsBut [R.BOOT_STAGE] s t)) ∧
  (∀ s : State, (s.get F.BOOT_STAGE_STAGE = 7 ∨ s.get F.BOOT_STAGE_STAGE = 8) → s.boot.hbmDone = false → 
    Completes (.bootHbmTrain true) s (fun t => t.boot.hbmDone = true ∧
      t.get F.MEMC_STATUS_TRAINED = 1 ∧
      t.num R.BOOT_TIME_HBM = s.now / 1000 % 2 ^ 32 ∧
      (s.boot.loadDone = true → t.get F.BOOT_STAGE_STAGE = 9) ∧
      (s.boot.loadDone = false → t.get F.BOOT_STAGE_STAGE = 7))) ∧
  (∀ s : State, (s.get F.BOOT_STAGE_STAGE = 7 ∨ s.get F.BOOT_STAGE_STAGE = 8) → s.boot.hbmDone = false → 
    Completes (.bootHbmTrain false) s (fun t => t.get F.BOOT_STAGE_STAGE = 255 ∧
      t.get F.BOOT_STAGE_ERR = 9)) ∧
  (∀ s : State, s.get F.BOOT_STAGE_STAGE = 10 → s.finalQuiet = true → s.anyDirty = false → 
    Completes (.bootFinal) s (fun t => t.get F.GLB_STATUS_READY = 1 ∧
      t.get F.BOOT_EVENT_READY = 1 ∧
      t.get F.BOOT_STAGE_STAGE = 15 ∧
      t.get F.SEQ_UCS_STATUS_LOADED = 1 ∧
      t.get F.TIME_STATUS_SEEDED = 1 ∧
      t.num R.BOOT_TIME_READY = s.now / 1000 % 2 ^ 32 ∧
      (∀ m : Core, s.boot.start.testBit m = true → t.coreUp m = true))) ∧
  (∀ s : State, s.get F.BOOT_STAGE_STAGE = 10 → s.finalQuiet = true → s.anyDirty = true → 
    Completes (.bootFinal) s (fun t => t.get F.BOOT_STAGE_ERR = 11 ∧
      t.get F.GLB_STATUS_READY = s.get F.GLB_STATUS_READY))

/-- R441 to R443, R428: the CONFIG commands. -/
def Obligations.ConfigurationRecords : Prop :=
  (∀ s : State, ∀ (m : Fin 4) (v : Word) (nx : Nat), s.get F.BOOT_STAGE_STAGE = 9 → recAt s.chipConfig s.boot.recOff = some (.reg (R.GLB_SCRATCHk m) v, nx) → 
    Completes (.configReg) s (fun t => t.word (R.GLB_SCRATCHk m) = v ∧
      RegsBut [R.GLB_SCRATCHk m] s t ∧
      t.boot.recIdx = s.boot.recIdx + 1 ∧
      t.boot.recOff = nx ∧
      t = { s with regs := t.regs, boot := t.boot })) ∧
  (∀ s : State, ∀ (a : Nat) (d : List Byte) (nx : Nat), s.get F.BOOT_STAGE_STAGE = 9 → recAt s.chipConfig s.boot.recOff = some (.mem a d, nx) → 0xD00000000 ≤ a → a + d.length ≤ 0xD00400000 → 
    Completes (.configMem) s (fun t => (∀ i (h : i < d.length), t.rdByte (a + i) = d[i]) ∧
      MemBut a d.length s t ∧
      t.boot.recIdx = s.boot.recIdx + 1 ∧
      t.boot.recOff = nx ∧
      t = { s with mem := t.mem, hart := t.hart, boot := t.boot })) ∧
  (∀ s : State, ∀ (a : Nat) (n : Nat) (v : Word) (nx : Nat), s.get F.BOOT_STAGE_STAGE = 9 → recAt s.chipConfig s.boot.recOff = some (.fill a n v, nx) → 0xD00000000 ≤ a → a + n ≤ 0xD00400000 → n % 4 = 0 → 
    Completes (.configFill) s (fun t => (∀ i : Nat, i < n → t.rdByte (a + i) = BitVec.ofNat 8 (v.toNat / 256 ^ (i % 4))) ∧
      MemBut a n s t ∧
      t.boot.recIdx = s.boot.recIdx + 1 ∧
      t.boot.recOff = nx)) ∧
  (∀ s : State, ∀ (m : Fin 4) (k : Nat) (w : Nat) (nx : Nat), s.get F.BOOT_STAGE_STAGE = 9 → recAt s.chipConfig s.boot.recOff = some (.poll (R.GLB_SCRATCHk m) k w, nx) → Nat.land (s.num (R.GLB_SCRATCHk m)) k = w → 
    Completes (.configPoll) s (fun t => t.boot.recIdx = s.boot.recIdx + 1 ∧
      t.boot.recOff = nx ∧
      t = { s with req := t.req, boot := t.boot })) ∧
  (∀ s : State, ∀ (m : Fin 4) (k : Nat) (w : Nat) (nx : Nat), s.get F.BOOT_STAGE_STAGE = 9 → recAt s.chipConfig s.boot.recOff = some (.poll (R.GLB_SCRATCHk m) k w, nx) → Nat.land (s.num (R.GLB_SCRATCHk m)) k ≠ w → 
    Completes (.configPoll) s (fun t => t = { s with req := t.req })) ∧
  (∀ s : State, ∀ (o : Nat) (k : Nat) (w : Nat) (nx : Nat), s.get F.BOOT_STAGE_STAGE = 9 → recAt s.chipConfig s.boot.recOff = some (.poll o k w, nx) → 
    Completes (.configPollTimeout) s (fun t => t.get F.BOOT_STAGE_ERR = 12 ∧
      t.get F.BOOT_ERR_LOC_TYPE = 1 ∧
      t.get F.BOOT_ERR_LOC_INDEX = s.boot.recIdx % 2 ^ 24 ∧
      t.mem = s.mem)) ∧
  (∀ s : State, ∀ (nx : Nat), s.get F.BOOT_STAGE_STAGE = 9 → recAt s.chipConfig s.boot.recOff = some (.fin, nx) → 
    Completes (.configEnd) s (fun t => t.get F.BOOT_STAGE_STAGE = 10 ∧
      t.boot.recIdx = s.boot.recIdx + 1 ∧
      t.boot.recOff = nx ∧
      RegsBut [R.BOOT_STAGE] s t)) ∧
  (∀ s : State, s.get F.BOOT_STAGE_STAGE = 9 → recAt s.chipConfig s.boot.recOff = none → 
    Completes (.configReg) s (fun t => t.get F.BOOT_STAGE_ERR = 10 ∧
      t.get F.BOOT_ERR_LOC_TYPE = 1 ∧
      t.get F.BOOT_ERR_LOC_INDEX = s.boot.recIdx % 2 ^ 24 ∧
      t.mem = s.mem)) ∧
  (∀ s : State, s.get F.BOOT_STAGE_STAGE = 9 → recAt s.chipConfig s.boot.recOff = none → 
    Completes (.configMem) s (fun t => t.get F.BOOT_STAGE_ERR = 10 ∧
      t.get F.BOOT_ERR_LOC_TYPE = 1 ∧
      t.get F.BOOT_ERR_LOC_INDEX = s.boot.recIdx % 2 ^ 24 ∧
      t.mem = s.mem)) ∧
  (∀ s : State, s.get F.BOOT_STAGE_STAGE = 9 → recAt s.chipConfig s.boot.recOff = none → 
    Completes (.configPoll) s (fun t => t.get F.BOOT_STAGE_ERR = 10 ∧
      t.get F.BOOT_ERR_LOC_TYPE = 1 ∧
      t.get F.BOOT_ERR_LOC_INDEX = s.boot.recIdx % 2 ^ 24 ∧
      t.mem = s.mem)) ∧
  (∀ s : State, s.get F.BOOT_STAGE_STAGE = 9 → recAt s.chipConfig s.boot.recOff = none → 
    Completes (.configFill) s (fun t => t.get F.BOOT_STAGE_ERR = 10 ∧
      t.get F.BOOT_ERR_LOC_TYPE = 1 ∧
      t.get F.BOOT_ERR_LOC_INDEX = s.boot.recIdx % 2 ^ 24 ∧
      t.mem = s.mem)) ∧
  (∀ s : State, s.get F.BOOT_STAGE_STAGE = 9 → recAt s.chipConfig s.boot.recOff = none → 
    Completes (.configEnd) s (fun t => t.get F.BOOT_STAGE_ERR = 10 ∧
      t.get F.BOOT_ERR_LOC_TYPE = 1 ∧
      t.get F.BOOT_ERR_LOC_INDEX = s.boot.recIdx % 2 ^ 24 ∧
      t.mem = s.mem)) ∧
  (∀ s : State, ∀ (v : Word) (nx : Nat), s.get F.BOOT_STAGE_STAGE = 9 → recAt s.chipConfig s.boot.recOff = some (.reg 0x7FFFFFC v, nx) → 
    Completes (.configReg) s (fun t => t.get F.BOOT_STAGE_ERR = 11 ∧
      t.get F.BOOT_ERR_LOC_TYPE = 1 ∧
      t.get F.BOOT_ERR_LOC_INDEX = s.boot.recIdx % 2 ^ 24 ∧
      t.mem = s.mem))

/-- R448: the UPDATE commands. -/
def Obligations.UpdateRequests : Prop :=
  (∀ s : State, ∀ (l : List Byte) (u : State), s.updTake = some (l, u) → s.updBad l = false → (updReqOf l).op = 2 → 
    Completes (.updateActivate) s (fun t => t.get F.BOOT_UPD_STATUS_BUSY = 1 ∧
      t.boot.upd = some (updReqOf l) ∧
      t.get (F.MBX_m_STATUS_FULL 0) = 0 ∧
      (hdrErr (u.slotImg (1 - s.boot.slot) 0 0x240) ≠ none → t.boot.updWait = some 6 ∧ t.mgmt.ledger = s.mgmt.ledger) ∧
      (t.boot.updWait = some 0 → t.mgmt.ledger.slot = 1 - s.boot.slot ∧ t.mgmt.ledger.trial = true ∧ t.mgmt.commit = true ∧ t.get F.BOOT_TRIAL_CNT_COUNT = 0) ∧
      t.mgmt.flash = s.mgmt.flash)) ∧
  (∀ s : State, ∀ (l : List Byte) (u : State), s.updTake = some (l, u) → s.updBad l = false → (updReqOf l).op = 3 → (s.mgmt.ledger.trial = false ∨ s.mgmt.ledger.slot ≠ s.boot.slot) → 
    Completes (.updateConfirm) s (fun t => t.get F.BOOT_UPD_STATUS_BUSY = 1 ∧
      t.boot.upd = some (updReqOf l) ∧
      t.get (F.MBX_m_STATUS_FULL 0) = 0 ∧
      t.boot.updWait = some 7 ∧
      t.mgmt.ledger = s.mgmt.ledger)) ∧
  (∀ s : State, ∀ (l : List Byte) (u : State), s.updTake = some (l, u) → s.updBad l = false → (updReqOf l).op = 3 → s.mgmt.ledger.trial = true → s.mgmt.ledger.slot = s.boot.slot → 
    Completes (.updateConfirm) s (fun t => t.get F.BOOT_UPD_STATUS_BUSY = 1 ∧
      t.boot.upd = some (updReqOf l) ∧
      t.get (F.MBX_m_STATUS_FULL 0) = 0 ∧
      t.boot.updWait = some 0 ∧
      t.mgmt.ledger.trial = false ∧
      t.mgmt.ledger.rb = max s.mgmt.ledger.rb (s.num R.BOOT_ROLLBACK) ∧
      t.mgmt.commit = true)) ∧
  (∀ s : State, ∀ (l : List Byte) (u : State), s.updTake = some (l, u) → s.updBad l = false → (updReqOf l).op = 4 → s.noneArmed = true → 
    Completes (.updateReboot) s (fun t => t.get F.BOOT_UPD_STATUS_BUSY = 1 ∧
      t.boot.upd = some (updReqOf l) ∧
      t.get (F.MBX_m_STATUS_FULL 0) = 0 ∧
      t.boot.updWait = some 0)) ∧
  (∀ s : State, ∀ (l : List Byte) (u : State), s.updTake = some (l, u) → s.updBad l = false → (updReqOf l).op = 4 → s.noneArmed = false → (updReqOf l).flags = 0 → 
    Completes (.updateReboot) s (fun t => t.get F.BOOT_UPD_STATUS_BUSY = 1 ∧
      t.boot.upd = some (updReqOf l) ∧
      t.get (F.MBX_m_STATUS_FULL 0) = 0 ∧
      t.boot.updWait = some 8)) ∧
  (∀ s : State, ∀ (l : List Byte) (u : State), s.updTake = some (l, u) → s.updBad l = true → 
    Completes (.updateBadRequest) s (fun t => t.get F.BOOT_UPD_STATUS_BUSY = 1 ∧
      t.boot.upd = some (updReqOf l) ∧
      t.get (F.MBX_m_STATUS_FULL 0) = 0 ∧
      t.boot.updWait = some 1)) ∧
  (∀ s : State, ∀ (l : List Byte) (u : State) (d : List Byte), s.updTake = some (l, u) → s.updBad l = false → (updReqOf l).op = 1 → 0xD00000000 ≤ (updReqOf l).addr → (updReqOf l).addr + (updReqOf l).len ≤ 0xD00400000 → d = u.rdBytes (updReqOf l).addr (updReqOf l).len → 
    Completes (.updateStage [] [] none) s (fun t => t.get F.BOOT_UPD_STATUS_BUSY = 1 ∧
      t.boot.upd = some (updReqOf l) ∧
      t.get (F.MBX_m_STATUS_FULL 0) = 0 ∧
      t.boot.updWait = some (stageCheck d s.mgmt.ledger.rb) ∧
      (stageCheck d s.mgmt.ledger.rb ≠ 0 → t.mgmt.flash = s.mgmt.flash) ∧
      (stageCheck d s.mgmt.ledger.rb = 0 → t.slotImg (1 - s.boot.slot) 0 d.length = d) ∧
      t.mem = s.mem)) ∧
  (∀ s : State, ∀ (q : UpdReq) (c : Nat), s.boot.upd = some q → s.boot.updWait = some c → c < 16 → (q.op ≠ 2 ∧ q.op ≠ 3 ∨ s.mgmt.commit = false) → s.get (F.MBX_m_CFG_RX 0) = 16 → s.get (F.MBX_m_STATUS_ACK_PEND 0) = 1 → 
    Completes (.updateDone) s (fun t => t.get (F.MBX_m_STATUS_ACK_CODE 0) = c ∧
      t.get (F.MBX_m_STATUS_ACK_PEND 0) = 0 ∧
      t.get F.BOOT_UPD_STATUS_ACK_CODE = c ∧
      t.get F.BOOT_UPD_STATUS_BUSY = 0 ∧
      t.get F.BOOT_EVENT_UPD_DONE = 1 ∧
      t.boot.upd = none ∧
      (q.op = 4 → c = 0 → t.boot.reboot = true) ∧
      t.mgmt = s.mgmt)) ∧
  (∀ s : State, ∀ (q : UpdReq), s.boot.upd = some q → (q.op = 2 ∨ q.op = 3) → s.mgmt.commit = true → 
    exec (.updateDone) s = .next (s))

/-- R214, R305, R450 to R452: PE_SAFE_N_ASSERT, PE_SAFE_N_RELEASE, THERMAL_TRIP, SAFE_FORCE_WRITE, SAFE_EXIT. -/
def Obligations.SafeState : Prop :=
  (∀ s : State, s.safe = false → 
    Completes (.peSafeNAssert) s (fun t => (t.get F.MGS_SAFE_STATUS_SRC).testBit 0 = true ∧
      (∀ i : Fin 5, i.val ≠ 0 → (t.get F.MGS_SAFE_STATUS_SRC).testBit i = (s.get F.MGS_SAFE_STATUS_SRC).testBit i) ∧
      t.safe = true ∧
      t.get F.MGS_SAFE_STATUS_ACTIVE = 1 ∧
      t.num R.MGS_SAFE_CNT = min satMax (s.num R.MGS_SAFE_CNT + 1) ∧
      (∀ n : Lane, s.get (F.XL_n_CTRL_ENABLE n) = 1 → t.xlState n = 4) ∧
      (∀ n : Lane, s.get (F.XL_n_CTRL_ENABLE n) = 0 → t.xlState n = s.xlState n) ∧
      t.mem = s.mem ∧
      t.pins.peSafeN = false)) ∧
  (∀ s : State, s.safe = true → 
    Completes (.peSafeNAssert) s (fun t => (t.get F.MGS_SAFE_STATUS_SRC).testBit 0 = true ∧
      (∀ i : Fin 5, i.val ≠ 0 → (t.get F.MGS_SAFE_STATUS_SRC).testBit i = (s.get F.MGS_SAFE_STATUS_SRC).testBit i) ∧
      t.pins.peSafeN = false ∧
      RegsBut [R.MGS_SAFE_STATUS] s t ∧
      t = { s with regs := t.regs, pins := t.pins })) ∧
  (∀ s : State, s.safe = false → 
    Completes (.thermalTrip) s (fun t => (t.get F.MGS_SAFE_STATUS_SRC).testBit 1 = true ∧
      (∀ i : Fin 5, i.val ≠ 1 → (t.get F.MGS_SAFE_STATUS_SRC).testBit i = (s.get F.MGS_SAFE_STATUS_SRC).testBit i) ∧
      t.safe = true ∧
      t.get F.MGS_SAFE_STATUS_ACTIVE = 1 ∧
      t.num R.MGS_SAFE_CNT = min satMax (s.num R.MGS_SAFE_CNT + 1) ∧
      (∀ n : Lane, s.get (F.XL_n_CTRL_ENABLE n) = 1 → t.xlState n = 4) ∧
      (∀ n : Lane, s.get (F.XL_n_CTRL_ENABLE n) = 0 → t.xlState n = s.xlState n) ∧
      t.mem = s.mem ∧
      t.pins.thermtripN = false)) ∧
  (∀ s : State, s.safe = true → 
    Completes (.thermalTrip) s (fun t => (t.get F.MGS_SAFE_STATUS_SRC).testBit 1 = true ∧
      (∀ i : Fin 5, i.val ≠ 1 → (t.get F.MGS_SAFE_STATUS_SRC).testBit i = (s.get F.MGS_SAFE_STATUS_SRC).testBit i) ∧
      t.pins.thermtripN = false ∧
      RegsBut [R.MGS_SAFE_STATUS] s t ∧
      t = { s with regs := t.regs, pins := t.pins })) ∧
  (∀ s : State, ∀ (v : Word), (s.plainWrite R.MGS_SAFE_CTRL v).get F.MGS_SAFE_CTRL_FORCE = 1 → s.safe = false → 
    Completes (.safeForceWrite v) s (fun t => (t.get F.MGS_SAFE_STATUS_SRC).testBit 3 = true ∧
      (∀ i : Fin 5, i.val ≠ 3 → (t.get F.MGS_SAFE_STATUS_SRC).testBit i = (s.get F.MGS_SAFE_STATUS_SRC).testBit i) ∧
      t.safe = true ∧
      t.get F.MGS_SAFE_STATUS_ACTIVE = 1 ∧
      t.num R.MGS_SAFE_CNT = min satMax (s.num R.MGS_SAFE_CNT + 1) ∧
      (∀ n : Lane, s.get (F.XL_n_CTRL_ENABLE n) = 1 → t.xlState n = 4) ∧
      (∀ n : Lane, s.get (F.XL_n_CTRL_ENABLE n) = 0 → t.xlState n = s.xlState n) ∧
      t.mem = s.mem ∧
      t.pins = s.pins)) ∧
  (∀ s : State, ∀ (v : Word), (s.plainWrite R.MGS_SAFE_CTRL v).get F.MGS_SAFE_CTRL_FORCE = 1 → s.safe = true → 
    Completes (.safeForceWrite v) s (fun t => (t.get F.MGS_SAFE_STATUS_SRC).testBit 3 = true ∧
      (∀ i : Fin 5, i.val ≠ 3 → (t.get F.MGS_SAFE_STATUS_SRC).testBit i = (s.get F.MGS_SAFE_STATUS_SRC).testBit i) ∧
      t.pins = s.pins ∧
      RegsBut [R.MGS_SAFE_STATUS, R.MGS_SAFE_CTRL] s t ∧
      t = { s with regs := t.regs, pins := t.pins })) ∧
  (∀ s : State, 
    Completes (.peSafeNRelease) s (fun t => (t.get F.MGS_SAFE_STATUS_SRC).testBit 0 = false ∧
      (∀ i : Fin 5, i.val ≠ 0 → (t.get F.MGS_SAFE_STATUS_SRC).testBit i = (s.get F.MGS_SAFE_STATUS_SRC).testBit i) ∧
      t.safe = s.safe ∧
      t.get F.MGS_SAFE_STATUS_ACTIVE = s.get F.MGS_SAFE_STATUS_ACTIVE ∧
      t.pins.peSafeN = true ∧
      RegsBut [R.MGS_SAFE_STATUS] s t ∧
      t = { s with regs := t.regs, pins := t.pins })) ∧
  (∀ s : State, ∀ (v : Word), (s.plainWrite R.MGS_SAFE_CTRL v).get F.MGS_SAFE_CTRL_FORCE = 0 → 
    Completes (.safeForceWrite v) s (fun t => (t.get F.MGS_SAFE_STATUS_SRC).testBit 3 = false ∧
      (∀ i : Fin 5, i.val ≠ 3 → (t.get F.MGS_SAFE_STATUS_SRC).testBit i = (s.get F.MGS_SAFE_STATUS_SRC).testBit i) ∧
      t.safe = s.safe ∧
      t.get F.MGS_SAFE_STATUS_ACTIVE = s.get F.MGS_SAFE_STATUS_ACTIVE ∧
      RegsBut [R.MGS_SAFE_STATUS, R.MGS_SAFE_CTRL] s t ∧
      t = { s with regs := t.regs })) ∧
  (∀ s : State, s.safe = true → s.get F.MGS_SAFE_STATUS_SRC = 0 → 
    Completes (.safeExit) s (fun t => t.safe = false ∧
      t.get F.MGS_SAFE_STATUS_ACTIVE = 0 ∧
      t.get F.MGS_EVENT_SAFE_EXIT = 1 ∧
      (∀ n : Lane, s.xlState n = 4 → t.xlState n = 1) ∧
      (∀ n : Lane, s.xlState n ≠ 4 → t.xlState n = s.xlState n) ∧
      (∀ k : Cluster, ∀ j : Chan16, t.get (F.CLU_k_PP_j_CTRL_MODE k j) = 0) ∧
      t.mem = s.mem)) ∧
  (∀ s : State, s.get F.MGS_SAFE_STATUS_SRC ≠ 0 → 
    exec (.safeExit) s = .next (s))

/-- R450, R454 to R457, R482: the WDT commands, SENSOR_REFRESH, RAIL_CURRENT_SENSE, VBAT_LOSS, KA_RTC_WRITE, KA_CLR, VID_STEP. -/
def Obligations.WatchdogSensorsKeepAlive : Prop :=
  (∀ s : State, ∀ (v : Word), s.get F.MGS_WDT_CTRL_EN = 0 → (s.plainWrite R.MGS_WDT_CTRL v).get F.MGS_WDT_CTRL_EN = 1 → 
    Completes (.wdtEnable v) s (fun t => t.mgmt.kick = s.now ∧
      t.mgmt.load = (s.plainWrite R.MGS_WDT_CTRL v).get F.MGS_WDT_CTRL_TIMEOUT ∧
      t.get F.MGS_WDT_CTRL_EN = 1 ∧
      RegsBut [R.MGS_WDT_CTRL, R.GLB_ERR_ENUM] s t ∧
      t = { s with regs := t.regs, mgmt := t.mgmt })) ∧
  (∀ s : State, ∀ (v : Word), (s.get F.MGS_WDT_CTRL_EN = 1 ∨ (s.plainWrite R.MGS_WDT_CTRL v).get F.MGS_WDT_CTRL_EN = 0) → 
    exec (.wdtEnable v) s = .next (s.plainWrite R.MGS_WDT_CTRL v)) ∧
  (∀ s : State, ∀ (v : Word), bitsOf v 15 0 = 0x4B1C → s.mgmt.expired = false → 
    Completes (.wdtKick .mgmt v) s (fun t => t.mgmt.kick = s.now ∧
      t.mgmt.load = s.get F.MGS_WDT_CTRL_TIMEOUT ∧
      t = { s with mgmt := t.mgmt })) ∧
  (∀ s : State, ∀ (v : Word), bitsOf v 15 0 ≠ 0x4B1C → s.mgmt.expired = false → 
    Completes (.wdtKick .mgmt v) s (fun t => t.mgmt.expired = true ∧
      t.mgmt.expiredAt = s.now ∧
      t.get F.MGS_EVENT_WDT = 1 ∧
      (t.get F.MGS_SAFE_STATUS_SRC).testBit 2 = true ∧
      t.safe = true ∧
      t.mem = s.mem)) ∧
  (∀ s : State, ∀ (r : Req) (v : Word), r ≠ .mgmt → 
    exec (.wdtKick r v) s = .next (s.bump R.MGS_WDT_REJ)) ∧
  (∀ s : State, s.get F.MGS_WDT_CTRL_EN = 1 → s.mgmt.expired = false → 
    Completes (.wdtExpire) s (fun t => t.mgmt.expired = true ∧
      t.mgmt.expiredAt = s.now ∧
      t.get F.MGS_EVENT_WDT = 1 ∧
      (t.get F.MGS_SAFE_STATUS_SRC).testBit 2 = true ∧
      t.safe = true ∧
      t.mem = s.mem)) ∧
  (∀ s : State, (s.get F.MGS_WDT_CTRL_EN = 0 ∨ s.mgmt.expired = true) → 
    exec (.wdtExpire) s = .next (s)) ∧
  (∀ s : State, s.mgmt.expired = true → s.get F.MGS_WDT_CTRL_RESET_DLY ≠ 0 → 
    Completes (.wdtReset) s (fun t => RegsBut [R.BOOT_STRAP, R.BOOT_RESET_CAUSE, R.BOOT_STAGE, R.GLB_STATUS, R.GLB_COMPAT, R.ULT_STATUS, R.BOOT_TRIAL_CNT, R.MGS_SAFE_STATUS, R.MGS_KA_STATUS, R.MGS_KA_BOOTS] State.reset t ∧
      t.mem = [] ∧
      t.mgmt.flash = s.mgmt.flash ∧
      t.get F.BOOT_RESET_CAUSE_CAUSE = 3 ∧
      t.get F.BOOT_STAGE_STAGE = 1 ∧
      t.mgmt.expired = false)) ∧
  (∀ s : State, ∀ (d : List Int) (m : List Nat), d.length = 64 → m.length = 40 → (∀ x ∈ d, -2048 ≤ x ∧ x < 2048) → (∀ x ∈ m, x < 4096) → 
    Completes (.sensorRefresh d m) s (fun t => (∀ i : Fin 64, sext 12 (t.get (F.MGS_DIODE_i_TEMP i)) = d.getD i 0) ∧
      (∀ j : Fin 40, t.get (F.MGS_VMON_v_MV j) = m.getD j 0) ∧
      (∀ j : Fin 40, m.getD j 0 < s.get (F.MGS_VMON_v_LIM_LO j) → t.get (F.MGS_VMON_v_OUT j) = 1 ∧ t.get F.MGS_EVENT_VMON = 1) ∧
      ((t.hottest ∈ d) ∧ ∀ x ∈ d, x ≤ t.hottest) ∧
      sext 12 (t.get (F.MGS_DIODE_i_TEMP (t.get F.MGS_TEMP_DIODE))) = t.hottest ∧
      t.mem = s.mem)) ∧
  (∀ s : State, ∀ (c : List Nat), c.length = 40 → (∀ x ∈ c, x < 65536) → 
    Completes (.railCurrentSense c) s (fun t => (∀ j : Fin 40, t.get (F.MGS_RAIL_r_I_CURRENT j) = c.getD j 0) ∧
      t = { s with regs := t.regs })) ∧
  (∀ s : State, s.pins.pwrgood = false → 
    Completes (.vbatLoss) s (fun t => t.num R.MGS_KA_BOOTS = 0 ∧
      t.get F.BOOT_TRIAL_CNT_COUNT = 0 ∧
      t.get F.MGS_KA_STATUS_RTC_VALID = 0 ∧
      t.get F.MGS_KA_STATUS_TAMPER = 1 ∧
      t.get F.MGS_KA_STATUS_VBAT_LOW = 1 ∧
      t.mgmt.vbatLost = true ∧
      t.rtcSec = 0 ∧
      RegsBut [R.MGS_KA_BOOTS, R.BOOT_TRIAL_CNT, R.MGS_KA_STATUS] s t ∧
      t = { s with regs := t.regs, mgmt := t.mgmt })) ∧
  (∀ s : State, ∀ (v : Word), 
    Completes (.kaRtcWrite .mgmt v) s (fun t => t.rtcSec = (v.toNat + 2 ^ 32 * (s.rq .mgmt).staged.toNat) % 2 ^ 48 ∧
      t.get F.MGS_KA_STATUS_RTC_VALID = 1 ∧
      (t.rq .mgmt).staged = 0 ∧
      RegsBut [R.MGS_KA_STATUS] s t ∧
      t = { s with regs := t.regs, req := t.req, mgmt := t.mgmt })) ∧
  (∀ s : State, ∀ (r : Req) (v : Word), r ≠ .mgmt → 
    exec (.kaRtcWrite r v) s = .next (s.updRq r (fun q => { q with staged := 0 }))) ∧
  (∀ s : State, ∀ (v : Word), bitsOf v 15 0 = 0x7A11 → 
    exec (.kaClr .mgmt v) s = .next (s.put F.MGS_KA_STATUS_TAMPER 0)) ∧
  (∀ s : State, ∀ (r : Req) (v : Word), (r ≠ .mgmt ∨ bitsOf v 15 0 ≠ 0x7A11) → 
    exec (.kaClr r v) s = .next (s)) ∧
  (∀ s : State, s.ready = true → 
    Completes (.vidStep) s (fun t => t.pins.vid = (if s.pins.vid < Config.fuseVid.val then s.pins.vid + 1 else if Config.fuseVid.val < s.pins.vid then s.pins.vid - 1 else s.pins.vid) ∧
      t = { s with pins := t.pins })) ∧
  (∀ s : State, s.ready = false → 
    exec (.vidStep) s = .next (s))

/-- R458 to R464: LOG_APPEND, LOG_RD_IDX_WRITE, LOG_RECORD_WRITE, LEDGER_COMMIT, LEDGER_HOURS_TIMER. The severity of an appended record is a free value. -/
def Obligations.LogAndLedger : Prop :=
  (∀ s : State, ∀ (r : Req) (v : Word), 0x8000 ≤ bitsOf v 15 0 → s.mgmt.logQ.length < 256 → 
    Completes (.logAppend r v) s (fun t => t.mgmt.logQ.length = s.mgmt.logQ.length + 1 ∧
      t.mgmt.logQ.take s.mgmt.logQ.length = s.mgmt.logQ ∧
      t = { s with mgmt := t.mgmt, free := t.free })) ∧
  (∀ s : State, ∀ (r : Req) (v : Word), 0x8000 ≤ bitsOf v 15 0 → 256 ≤ s.mgmt.logQ.length → 
    Completes (.logAppend r v) s (fun t => t.num R.MGS_LOG_LOST = min satMax (s.num R.MGS_LOG_LOST + 1) ∧
      t.get F.MGS_EVENT_LOG_LOST = 1 ∧
      t.mgmt.logQ = s.mgmt.logQ ∧
      RegsBut [R.MGS_LOG_LOST, R.MGS_EVENT] s t)) ∧
  (∀ s : State, ∀ (r : Req) (v : Word), bitsOf v 15 0 < 0x8000 → 
    exec (.logAppend r v) s = .next (s.enumRefused)) ∧
  (∀ s : State, ∀ (b : List Byte) (l : List (List Byte)) (i : Nat) (q : Nat), s.mgmt.logQ = b :: l → b.length = 56 → s.logSlots ≠ 0 → i = s.mgmt.logStart → q = s.mgmt.logNext % 2 ^ 32 → i % 64 ≠ 0 → 
    Completes (.logRecordWrite) s (fun t => t.flashRd (0x1020000 + 64 * i) 64 = (let r := leBytes 4 q ++ b; r ++ leBytes 4 (crc32c r)) ∧
      (∀ a, a < 0x1020000 + 64 * i ∨ 0x1020000 + 64 * i + 64 ≤ a → t.flashByte a = s.flashByte a) ∧
      t.mgmt.logQ = l ∧
      t.mgmt.logNext = q + 1 ∧
      t.mgmt.logStart = (i + 1) % s.logSlots ∧
      t.num R.MGS_LOG_NEWEST = q ∧
      t = { s with regs := t.regs, mgmt := t.mgmt })) ∧
  (∀ s : State, ∀ (b : List Byte) (l : List (List Byte)) (i : Nat) (q : Nat), s.mgmt.logQ = b :: l → b.length = 56 → s.logSlots ≠ 0 → i = s.mgmt.logStart → q = s.mgmt.logNext % 2 ^ 32 → i % 64 = 0 → 
    Completes (.logRecordWrite) s (fun t => t.flashRd (0x1020000 + 64 * i) 64 = (let r := leBytes 4 q ++ b; r ++ leBytes 4 (crc32c r)) ∧
      (∀ a, 0x1020000 + 64 * i + 64 ≤ a → a < 0x1020000 + 64 * i + 4096 → t.flashByte a = 0xFF) ∧
      (∀ a, a < 0x1020000 + 64 * i ∨ 0x1020000 + 64 * i + 4096 ≤ a → t.flashByte a = s.flashByte a) ∧
      t.mgmt.logQ = l)) ∧
  (∀ s : State, s.mgmt.logQ = [] → 
    exec (.logRecordWrite) s = .next (s)) ∧
  (∀ s : State, ∀ (v : Word) (i : Nat) (d : List Byte), s.logUsed = [i] → s.logAt i = some d → sub d 0 4 = v.toNat → 
    Completes (.logRdIdxWrite v) s (fun t => t.word R.MGS_LOG_RD_IDX = v ∧
      t.get F.MGS_LOG_RD_STATUS_VALID = 1 ∧
      (∀ w : Fin 16, t.num (R.MGS_LOG_RD_Dw w) = sub d (4 * w) 4) ∧
      t = { s with regs := t.regs })) ∧
  (∀ s : State, ∀ (v : Word), s.logUsed = [] → 
    Completes (.logRdIdxWrite v) s (fun t => t.word R.MGS_LOG_RD_IDX = v ∧
      t.get F.MGS_LOG_RD_STATUS_VALID = 0 ∧
      RegsBut [R.MGS_LOG_RD_IDX, R.MGS_LOG_RD_STATUS] s t ∧
      t = { s with regs := t.regs })) ∧
  (∀ s : State, ∀ (k : Nat), s.mgmt.commit = true → s.flashSize ≠ 0 → k = (if s.get F.MGS_LEDGER_STATUS_VALID = 0 then 0 else 1 - s.get F.MGS_LEDGER_STATUS_BANK) → 
    Completes (.ledgerCommit none) s (fun t => t.flashRd (bankBase k) 0x10000 = (let d := s.bankBytes ((s.num R.MGS_LEDGER_SEQ + 1) % 2 ^ 32); d ++ leBytes 4 (crc32c d)) ∧
      (∀ a, a < bankBase k ∨ bankBase k + 0x10000 ≤ a → t.flashByte a = s.flashByte a) ∧
      t.get F.MGS_LEDGER_STATUS_BANK = k % 2 ∧
      t.num R.MGS_LEDGER_SEQ = (s.num R.MGS_LEDGER_SEQ + 1) % 2 ^ 32 ∧
      t.mgmt.commit = false ∧
      t.mgmt.ledger = s.mgmt.ledger ∧
      t.mem = s.mem)) ∧
  (∀ s : State, ∀ (k : Nat) (d : List Byte), s.mgmt.commit = true → s.flashSize ≠ 0 → k = (if s.get F.MGS_LEDGER_STATUS_VALID = 0 then 0 else 1 - s.get F.MGS_LEDGER_STATUS_BANK) → 
    Completes (.ledgerCommit (some d)) s (fun t => t.num R.MGS_LEDGER_FAIL = min satMax (s.num R.MGS_LEDGER_FAIL + 1) ∧
      t.get F.MGS_EVENT_LEDGER_FAIL = 1 ∧
      t.get F.MGS_LEDGER_STATUS_BANK = s.get F.MGS_LEDGER_STATUS_BANK ∧
      t.num R.MGS_LEDGER_SEQ = s.num R.MGS_LEDGER_SEQ ∧
      (∀ a, a < bankBase k ∨ bankBase k + 0x10000 ≤ a → t.flashByte a = s.flashByte a) ∧
      t.mgmt.commit = false)) ∧
  (∀ s : State, ∀ (g : Option (List Byte)), s.mgmt.commit = false → 
    exec (.ledgerCommit g) s = .next (s)) ∧
  (∀ s : State, 
    exec (.ledgerHoursTimer) s = .next ({ s with mgmt := { s.mgmt with commit := true } }))

/-- R465 to R468: the UART, SMB and JTAG commands. The packet error code is CRC-8 of polynomial 0x07 (PRESUMED, log entry 35). -/
def Obligations.ConsoleSmbusTap : Prop :=
  (∀ s : State, ∀ (b : Byte), s.get F.MGS_UART_CTRL_EN = 1 → s.mgmt.rx.length < 64 → 
    Completes (.uartRxByte b true) s (fun t => t.mgmt.rx = s.mgmt.rx ++ [b] ∧
      t.get F.MGS_UART_STATUS_RX_FILL = s.mgmt.rx.length + 1 ∧
      RegsBut [R.MGS_UART_STATUS] s t ∧
      t = { s with regs := t.regs, mgmt := t.mgmt })) ∧
  (∀ s : State, ∀ (b : Byte), s.get F.MGS_UART_CTRL_EN = 1 → 64 ≤ s.mgmt.rx.length → 
    exec (.uartRxByte b true) s = .next ((s.put F.MGS_UART_STATUS_OVERRUN 1).bump R.MGS_UART_ERR)) ∧
  (∀ s : State, ∀ (b : Byte), s.get F.MGS_UART_CTRL_EN = 1 → 
    exec (.uartRxByte b false) s = .next ((s.put (if b = 0 then F.MGS_UART_STATUS_BREAK else F.MGS_UART_STATUS_FRAME_ERR) 1).bump R.MGS_UART_ERR)) ∧
  (∀ s : State, ∀ (b : Byte) (p : Bool), s.get F.MGS_UART_CTRL_EN = 0 → 
    exec (.uartRxByte b p) s = .next (s)) ∧
  (∀ s : State, ∀ (v : Word), s.mgmt.tx.length < 64 → 
    Completes (.uartDataWrite v) s (fun t => t.mgmt.tx = s.mgmt.tx ++ [BitVec.ofNat 8 (bitsOf v 7 0)] ∧
      t.get F.MGS_UART_STATUS_TX_FILL = s.mgmt.tx.length + 1 ∧
      RegsBut [R.MGS_UART_STATUS] s t ∧
      t = { s with regs := t.regs, mgmt := t.mgmt })) ∧
  (∀ s : State, ∀ (r : Req) (b : Byte) (l : List Byte), s.mgmt.rx = b :: l → l.length < 64 → 
    Completes (.uartDataRead r) s (fun t => (t.rq r).rword.toNat = 256 + b.toNat ∧
      t.mgmt.rx = l ∧
      t.get F.MGS_UART_STATUS_RX_FILL = l.length ∧
      RegsBut [R.MGS_UART_STATUS] s t ∧
      t = { s with regs := t.regs, req := t.req, mgmt := t.mgmt })) ∧
  (∀ s : State, ∀ (r : Req), s.mgmt.rx = [] → 
    exec (.uartDataRead r) s = .next (s.updRq r (fun q => { q with rword := 0 }))) ∧
  (∀ s : State, ∀ (b : Byte) (l : List Byte), s.mgmt.tx = b :: l → l.length < 64 → 
    Completes (.uartTxByteSent) s (fun t => t.mgmt.tx = l ∧
      t.pins.uartTx = s.pins.uartTx ++ [b] ∧
      t.get F.MGS_UART_STATUS_TX_FILL = l.length ∧
      RegsBut [R.MGS_UART_STATUS] s t)) ∧
  (∀ s : State, s.get F.MGS_SMB_CFG_PEC = 0 → 
    Completes (.smbReadSafeStatus) s (fun t => t.mgmt.smb = leBytes 1 (s.num R.MGS_SAFE_STATUS) ∧
      t = { s with mgmt := { s.mgmt with smb := t.mgmt.smb } })) ∧
  (∀ s : State, s.get F.MGS_SMB_CFG_PEC = 1 → 
    Completes (.smbReadSafeStatus) s (fun t => t.mgmt.smb = leBytes 1 (s.num R.MGS_SAFE_STATUS) ++ [BitVec.ofNat 8 (([BitVec.ofNat 8 (2 * s.get F.MGS_SMB_CFG_ADDR), 1, BitVec.ofNat 8 (2 * s.get F.MGS_SMB_CFG_ADDR + 1)] ++ (leBytes 1 (s.num R.MGS_SAFE_STATUS))).foldl pecByte 0)] ∧
      t.regs = s.regs)) ∧
  (∀ s : State, s.get F.MGS_SMB_CFG_PEC = 0 → 
    Completes (.smbReadTemp) s (fun t => t.mgmt.smb = leBytes 1 (s.get F.MGS_TEMP_MAX) ∧
      t = { s with mgmt := { s.mgmt with smb := t.mgmt.smb } })) ∧
  (∀ s : State, s.get F.MGS_SMB_CFG_PEC = 1 → 
    Completes (.smbReadTemp) s (fun t => t.mgmt.smb = leBytes 1 (s.get F.MGS_TEMP_MAX) ++ [BitVec.ofNat 8 (([BitVec.ofNat 8 (2 * s.get F.MGS_SMB_CFG_ADDR), 2, BitVec.ofNat 8 (2 * s.get F.MGS_SMB_CFG_ADDR + 1)] ++ (leBytes 1 (s.get F.MGS_TEMP_MAX))).foldl pecByte 0)] ∧
      t.regs = s.regs)) ∧
  (∀ s : State, s.get F.MGS_SMB_CFG_PEC = 0 → 
    Completes (.smbReadBootStage) s (fun t => t.mgmt.smb = leBytes 1 (s.get F.BOOT_STAGE_STAGE) ++ leBytes 1 (s.get F.BOOT_STAGE_ERR) ∧
      t = { s with mgmt := { s.mgmt with smb := t.mgmt.smb } })) ∧
  (∀ s : State, s.get F.MGS_SMB_CFG_PEC = 1 → 
    Completes (.smbReadBootStage) s (fun t => t.mgmt.smb = leBytes 1 (s.get F.BOOT_STAGE_STAGE) ++ leBytes 1 (s.get F.BOOT_STAGE_ERR) ++ [BitVec.ofNat 8 (([BitVec.ofNat 8 (2 * s.get F.MGS_SMB_CFG_ADDR), 3, BitVec.ofNat 8 (2 * s.get F.MGS_SMB_CFG_ADDR + 1)] ++ (leBytes 1 (s.get F.BOOT_STAGE_STAGE) ++ leBytes 1 (s.get F.BOOT_STAGE_ERR))).foldl pecByte 0)] ∧
      t.regs = s.regs)) ∧
  (∀ s : State, s.get F.MGS_SMB_CFG_PEC = 0 → 
    Completes (.smbReadId) s (fun t => t.mgmt.smb = leBytes 1 4 ++ leBytes 4 (s.num R.GLB_ID) ∧
      t = { s with mgmt := { s.mgmt with smb := t.mgmt.smb } })) ∧
  (∀ s : State, s.get F.MGS_SMB_CFG_PEC = 1 → 
    Completes (.smbReadId) s (fun t => t.mgmt.smb = leBytes 1 4 ++ leBytes 4 (s.num R.GLB_ID) ++ [BitVec.ofNat 8 (([BitVec.ofNat 8 (2 * s.get F.MGS_SMB_CFG_ADDR), 4, BitVec.ofNat 8 (2 * s.get F.MGS_SMB_CFG_ADDR + 1)] ++ (leBytes 1 4 ++ leBytes 4 (s.num R.GLB_ID))).foldl pecByte 0)] ∧
      t.regs = s.regs)) ∧
  (∀ s : State, s.get F.MGS_SMB_CFG_PEC = 0 → 
    Completes (.smbReadChipId) s (fun t => t.mgmt.smb = leBytes 1 3 ++ leBytes 2 (s.get F.GLB_CHIP_ID_CHIP_ID) ++ leBytes 1 (s.get F.GLB_CHIP_ID_VALID) ∧
      t = { s with mgmt := { s.mgmt with smb := t.mgmt.smb } })) ∧
  (∀ s : State, s.get F.MGS_SMB_CFG_PEC = 1 → 
    Completes (.smbReadChipId) s (fun t => t.mgmt.smb = leBytes 1 3 ++ leBytes 2 (s.get F.GLB_CHIP_ID_CHIP_ID) ++ leBytes 1 (s.get F.GLB_CHIP_ID_VALID) ++ [BitVec.ofNat 8 (([BitVec.ofNat 8 (2 * s.get F.MGS_SMB_CFG_ADDR), 5, BitVec.ofNat 8 (2 * s.get F.MGS_SMB_CFG_ADDR + 1)] ++ (leBytes 1 3 ++ leBytes 2 (s.get F.GLB_CHIP_ID_CHIP_ID) ++ leBytes 1 (s.get F.GLB_CHIP_ID_VALID))).foldl pecByte 0)] ∧
      t.regs = s.regs)) ∧
  (∀ s : State, s.safe = true → 
    Completes (.smbAlertResponse) s (fun t => t.mgmt.smb = leBytes 1 (2 * s.get F.MGS_SMB_CFG_ADDR) ∧
      t.regs = s.regs)) ∧
  (∀ s : State, s.safe = false → s.hottest < 8 * s.get F.GOV_TJ_CFG_ADMIT → 
    Completes (.smbAlertResponse) s (fun t => t.mgmt.smb = [] ∧
      t.regs = s.regs)) ∧
  (∀ s : State, 
    Completes (.jtagTapReset) s (fun t => t.mgmt.tap.ir = 2 ∧
      t.mgmt.tap.bsr = s.mgmt.tap.bsr ∧
      t = { s with mgmt := { s.mgmt with tap := t.mgmt.tap } })) ∧
  (∀ s : State, ∀ (d : List Bool), d ≠ [] → 
    Completes (.jtagBypass d) s (fun t => t.mgmt.tap.ir = 3 ∧
      t.mgmt.tap.out = false :: d.dropLast ∧
      t.mgmt.tap.bsr = s.mgmt.tap.bsr ∧
      t = { s with mgmt := { s.mgmt with tap := t.mgmt.tap } })) ∧
  (∀ s : State, ∀ (d : List Bool), d ≠ [] → 
    Completes (.jtagClamp d) s (fun t => t.mgmt.tap.ir = 4 ∧
      t.mgmt.tap.out = false :: d.dropLast ∧
      t.mgmt.tap.bsr = s.mgmt.tap.bsr ∧
      t = { s with mgmt := { s.mgmt with tap := t.mgmt.tap } })) ∧
  (∀ s : State, ∀ (d : List Bool), d ≠ [] → 
    Completes (.jtagHighz d) s (fun t => t.mgmt.tap.ir = 5 ∧
      t.mgmt.tap.out = false :: d.dropLast ∧
      t.mgmt.tap.bsr = s.mgmt.tap.bsr ∧
      t = { s with mgmt := { s.mgmt with tap := t.mgmt.tap } })) ∧
  (∀ s : State, 
    Completes (.jtagIdcode) s (fun t => t.mgmt.tap.ir = 2 ∧
      t.mgmt.tap.out.length = 32 ∧
      t.mgmt.tap.out.head? = some true ∧
      t = { s with mgmt := { s.mgmt with tap := t.mgmt.tap } })) ∧
  (∀ s : State, ∀ (d : List Bool) (e : List Bool), 
    Completes (.jtagSamplePreload d e) s (fun t => t.mgmt.tap.ir = 1 ∧
      t.mgmt.tap.out = d ∧
      t.mgmt.tap.bsr = e ∧
      t = { s with mgmt := { s.mgmt with tap := t.mgmt.tap } })) ∧
  (∀ s : State, ∀ (d : List Bool) (e : List Bool), 
    Completes (.jtagExtest d e) s (fun t => t.mgmt.tap.ir = 0 ∧
      t.mgmt.tap.out = d ∧
      t.mgmt.tap.bsr = e ∧
      t = { s with mgmt := { s.mgmt with tap := t.mgmt.tap } })) ∧
  (∀ s : State, ∀ (m : Fin 4), s.jtagOk (R.GLB_SCRATCHk m) = true → 
    Completes (.jtagRegAccess none (R.GLB_SCRATCHk m)) s (fun t => t.mgmt.tap.ir = 6 ∧
      t.mgmt.tap.out = (List.range 32).map (s.num (R.GLB_SCRATCHk m)).testBit ∧
      t.regs = s.regs)) ∧
  (∀ s : State, ∀ (m : Fin 4) (v : Word), s.jtagOk (R.GLB_SCRATCHk m) = true → 
    Completes (.jtagRegAccess (some v) (R.GLB_SCRATCHk m)) s (fun t => t.word (R.GLB_SCRATCHk m) = v ∧
      RegsBut [R.GLB_SCRATCHk m] s t ∧
      t.mem = s.mem)) ∧
  (∀ s : State, ∀ (o : Nat) (v : Word), s.jtagOk o = false → 
    Completes (.jtagRegAccess (some v) o) s (fun t => t.mgmt.tap.ir = 6 ∧
      t = { s with mgmt := { s.mgmt with tap := t.mgmt.tap } }))

/-- The queue of the block's commands is first in, first out; each takes effect as a whole before the next (95_what_each_step_holds.md). -/
def Obligations.StepRunsTheFrontCommand : Prop :=
  ∀ (c : Instr) (rest : List Instr) (s : State), step { s with pending := c :: rest } = exec c { s with pending := rest }

/-- R372; DESIGN CHOICE, log entry 2. -/
def Obligations.IdleStepCountsTime : Prop :=
  ∀ s : State, s.pending = [] → step s = .next { s with now := s.now + 1 }

/-- The queue is the model's own; no rule of the spec lets a command change which commands wait. -/
def Obligations.QueueUntouched : Prop :=
  ∀ (c : Instr) (s : State), ∃ t, exec c s = .next t ∧ t.pending = s.pending

/-- The frame of all of memory for the forms that store nothing; the forms that store have theirs in their own statements. -/
def Obligations.MemoryFrame : Prop :=
  ∀ (c : Instr) (s t : State), storesNothing c = true → exec c s = .next t → t.mem = s.mem ∧ ∀ a, t.rdByte a = s.rdByte a

/-- The canonical form is the model's own representation of memory and registers (log entry 3). -/
def Obligations.FormAtReset : Prop :=
  State.reset.Inv

/-- The canonical form is the model's own representation of memory and registers (log entry 3). -/
def Obligations.StepKeepsForm : Prop :=
  ∀ s t : State, s.Inv → step s = .next t → t.Inv

/-- R28, R87, R108, R148, R149, R215, R247, R264, R301, R302, R327, R351, R370, R371, R386, R400, R421, R470: the reset columns. -/
def Obligations.ResetValues : Prop :=
  State.reset.get F.CLK_REF_CTRL_SRC_SEL = 1 ∧
  State.reset.get F.STRM_CTRL_BURST = 16 ∧
  State.reset.get F.STRM_LEDGER_CTRL_PCT = 80 ∧
  (∀ (n : Site), State.reset.get (F.STRM_SITE_n_CFG_FIFO_UNITS n) = 1) ∧
  State.reset.get F.MEMC_RETRAIN_CTRL_INTERVAL = 100 ∧
  State.reset.get F.MEMC_PWR_CTRL_IDLE = 100 ∧
  State.reset.get F.SEQ_SLICE_MIN_RUN = 64 ∧
  (∀ (n : Site), State.reset.get (F.SEQ_CTX_n_CFG_SPEC_FRAMES n) = 16) ∧
  (∀ (n : Site), State.reset.get (F.FAIL_SITE_n_CFG_REC_MAX n) = 256) ∧
  (∀ (k : Cluster), State.reset.get (F.CLU_k_MC_TIMING_SETTLE k) = 2) ∧
  (∀ (k : Cluster) (u : Fin 4), State.reset.get (F.CLU_k_TDC_u_CLOSE_NS k u) = 1000000) ∧
  State.reset.get F.ULT_MGMT_TMO_US = 100 ∧
  (∀ (k : Port), State.reset.get (F.ULT_Pk_CTRL_MAX_RATE k) = 4) ∧
  (∀ (n : Site), State.reset.get (F.SITE_n_GO_CFG_LEAD n) = 40) ∧
  (∀ (n : Lane), State.reset.get (F.XL_n_CTRL_RATE n) = 125) ∧
  State.reset.get F.SCHED_FLOW_MAX_COUNT = 64 ∧
  (∀ (e : Engine8), State.reset.get (F.HOSTIF_DMA_e_CTRL_RING_LOG2 e) = 4) ∧
  (∀ (m : Mailbox), State.reset.get (F.MBX_m_CFG_RX m) = 16) ∧
  (∀ (m : Mailbox), State.reset.get (F.MBX_m_CFG_TMO m) = 1000) ∧
  State.reset.get F.TIME_SYNC_CFG_INTERVAL = 1000 ∧
  State.reset.get F.GOV_BUDGET_BUDGET = 1400 ∧
  State.reset.get F.GOV_TJ_CFG_ADMIT = 104 ∧
  State.reset.get F.CAL_EPH_CFG_RECAL_PPM = 2000 ∧
  State.reset.get F.MGS_WDT_CTRL_TIMEOUT = 1000
end

