-- ==== Sys2Proof/Laws/Tab.lean ====
section
/-! SUPPORT. Laws of sparse tables: read after write, and the canonical form that every write keeps. -/

namespace Sys2Proof.Machine

theorem Tab.get_nil {α : Type} (d : α) (i : Nat) : Tab.get d [] i = d := rfl

theorem Tab.get_ins {α : Type} (d : α) (i : Nat) (x : α) (t : Tab α) (j : Nat) :
    Tab.get d (Tab.ins i x t) j = if j = i then x else Tab.get d t j := by
  induction t with
  | nil => simp [Tab.ins, Tab.get]
  | cons p t ih =>
    obtain ⟨k, v⟩ := p
    simp only [Tab.ins]
    split
    · simp [Tab.get]
    · split
      · subst_vars; simp only [Tab.get]; split <;> simp_all
      · simp only [Tab.get, ih]
        by_cases h : j = k
        · subst h; have : j ≠ i := by omega
          simp [this]
        · simp [h]

theorem Tab.get_del {α : Type} (d : α) (i : Nat) (t : Tab α) (j : Nat) :
    Tab.get d (Tab.del i t) j = if j = i then d else Tab.get d t j := by
  induction t with
  | nil => simp [Tab.del, Tab.get]
  | cons p t ih =>
    obtain ⟨k, v⟩ := p
    by_cases hk : k = i
    · have e : Tab.del i ((k, v) :: t) = Tab.del i t := by simp [Tab.del, hk]
      rw [e, ih]
      by_cases hj : j = i
      · simp [hj]
      · have : j ≠ k := by omega
        simp [hj, Tab.get, this]
    · have e : Tab.del i ((k, v) :: t) = (k, v) :: Tab.del i t := by simp [Tab.del, hk]
      rw [e]
      simp only [Tab.get, ih]
      by_cases hj : j = k
      · subst hj; simp [hk]
      · simp [hj]

/-- Read after write: the written key has the written value and every other key keeps its value. -/
theorem Tab.get_set {α : Type} [DecidableEq α] (d e : α) (i : Nat) (x : α) (t : Tab α) (j : Nat) (h : j = i → d = e) :
    Tab.get d (Tab.set e i x t) j = if j = i then x else Tab.get d t j := by
  unfold Tab.set
  split
  · rw [Tab.get_del]; split
    · subst_vars; exact h rfl
    · rfl
  · exact Tab.get_ins d i x t j

@[simp] theorem Tab.get_set_same {α : Type} [DecidableEq α] (d : α) (i : Nat) (x : α) (t : Tab α) :
    Tab.get d (Tab.set d i x t) i = x := by simp [Tab.get_set]

theorem Tab.get_set_ne {α : Type} [DecidableEq α] (d e : α) (i : Nat) (x : α) (t : Tab α) (j : Nat) (h : j ≠ i) :
    Tab.get d (Tab.set e i x t) j = Tab.get d t j := by
  rw [Tab.get_set _ _ _ _ _ _ (fun e => absurd e h)]; simp [h]

theorem Tab.all_ins {α : Type} (P : Nat × α → Bool) (i : Nat) (x : α) (t : Tab α) (h : t.all P = true) (hx : P (i, x) = true) :
    (Tab.ins i x t).all P = true := by
  induction t with
  | nil => simpa [Tab.ins] using hx
  | cons p t ih =>
    obtain ⟨k, v⟩ := p
    simp only [List.all_cons, Bool.and_eq_true] at h
    simp only [Tab.ins]
    split
    · simp [hx, h.1, h.2]
    · split
      · simp [hx, h.2]
      · simp [h.1, ih h.2]

/-- Inserting a value that is not the key's default keeps the canonical form. -/
theorem Tab.wf_ins {α : Type} [DecidableEq α] (d : Nat → α) (i : Nat) (x : α) (t : Tab α) (h : Tab.wf d t = true)
    (hx : x ≠ d i) : Tab.wf d (Tab.ins i x t) = true := by
  induction t with
  | nil => simp [Tab.ins, Tab.wf, hx]
  | cons p t ih =>
    obtain ⟨k, v⟩ := p
    simp only [Tab.wf, Bool.and_eq_true, decide_eq_true_eq] at h
    obtain ⟨⟨hv, ha⟩, ht⟩ := h
    simp only [Tab.ins]
    split
    · rename_i hik
      have hall : t.all (fun p => decide (i < p.1)) = true := by
        rw [List.all_eq_true] at ha ⊢
        intro p hp; have := ha p hp; simp only [decide_eq_true_eq] at this ⊢; omega
      simp only [Tab.wf, Bool.and_eq_true, decide_eq_true_eq, List.all_cons]
      exact ⟨⟨hx, hik, hall⟩, ⟨hv, ha⟩, ht⟩
    · split
      · subst_vars
        simp only [Tab.wf, Bool.and_eq_true, decide_eq_true_eq]
        exact ⟨⟨hx, ha⟩, ht⟩
      · simp only [Tab.wf, Bool.and_eq_true, decide_eq_true_eq]
        exact ⟨⟨hv, Tab.all_ins _ _ _ _ ha (by simp only [decide_eq_true_eq]; omega)⟩, ih ht⟩

/-- Dropping a key keeps the canonical form. -/
theorem Tab.wf_del {α : Type} [DecidableEq α] (d : Nat → α) (i : Nat) (t : Tab α) (h : Tab.wf d t = true) :
    Tab.wf d (Tab.del i t) = true := by
  induction t with
  | nil => rfl
  | cons p t ih =>
    obtain ⟨k, v⟩ := p
    simp only [Tab.wf, Bool.and_eq_true, decide_eq_true_eq] at h
    obtain ⟨⟨hv, ha⟩, ht⟩ := h
    by_cases hk : k = i
    · have e : Tab.del i ((k, v) :: t) = Tab.del i t := by simp [Tab.del, hk]
      rw [e]; exact ih ht
    · have e : Tab.del i ((k, v) :: t) = (k, v) :: Tab.del i t := by simp [Tab.del, hk]
      rw [e]
      simp only [Tab.wf, Bool.and_eq_true, decide_eq_true_eq]
      refine ⟨⟨hv, ?_⟩, ih ht⟩
      rw [List.all_eq_true] at ha ⊢
      intro p hp
      exact ha p (List.mem_filter.mp hp).1

/-- A write keeps the canonical form. -/
theorem Tab.wf_set {α : Type} [DecidableEq α] (d : Nat → α) (i : Nat) (x : α) (t : Tab α) (h : Tab.wf d t = true) :
    Tab.wf d (Tab.set (d i) i x t) = true := by
  unfold Tab.set
  split
  · exact Tab.wf_del d i t h
  · exact Tab.wf_ins d i x t h ‹_›

end Sys2Proof.Machine
end

