-- ==== Sys2Proof/Laws/State.lean ====
section
/-! SUPPORT. What every named update of the state leaves alone: one lemma per update and field. -/

namespace Sys2Proof.Machine

namespace State

@[simp] theorem setWord_mem (s : State) (o : Nat) (v : Word) : (s.setWord o v).mem = s.mem := rfl
@[simp] theorem setWord_now (s : State) (o : Nat) (v : Word) : (s.setWord o v).now = s.now := rfl
@[simp] theorem setWord_pending (s : State) (o : Nat) (v : Word) : (s.setWord o v).pending = s.pending := rfl
@[simp] theorem setWord_free (s : State) (o : Nat) (v : Word) : (s.setWord o v).free = s.free := rfl
@[simp] theorem setWord_req (s : State) (o : Nat) (v : Word) : (s.setWord o v).req = s.req := rfl
@[simp] theorem setWord_pins (s : State) (o : Nat) (v : Word) : (s.setWord o v).pins = s.pins := rfl
@[simp] theorem setWord_drw (s : State) (o : Nat) (v : Word) : (s.setWord o v).drw = s.drw := rfl
@[simp] theorem setWord_art (s : State) (o : Nat) (v : Word) : (s.setWord o v).art = s.art := rfl
@[simp] theorem setWord_strm (s : State) (o : Nat) (v : Word) : (s.setWord o v).strm = s.strm := rfl
@[simp] theorem setWord_memc (s : State) (o : Nat) (v : Word) : (s.setWord o v).memc = s.memc := rfl
@[simp] theorem setWord_seq (s : State) (o : Nat) (v : Word) : (s.setWord o v).seq = s.seq := rfl
@[simp] theorem setWord_eng (s : State) (o : Nat) (v : Word) : (s.setWord o v).eng = s.eng := rfl
@[simp] theorem setWord_ucs (s : State) (o : Nat) (v : Word) : (s.setWord o v).ucs = s.ucs := rfl
@[simp] theorem setWord_ts (s : State) (o : Nat) (v : Word) : (s.setWord o v).ts = s.ts := rfl
@[simp] theorem setWord_chan (s : State) (o : Nat) (v : Word) : (s.setWord o v).chan = s.chan := rfl
@[simp] theorem setWord_mc (s : State) (o : Nat) (v : Word) : (s.setWord o v).mc = s.mc := rfl
@[simp] theorem setWord_capt (s : State) (o : Nat) (v : Word) : (s.setWord o v).capt = s.capt := rfl
@[simp] theorem setWord_site (s : State) (o : Nat) (v : Word) : (s.setWord o v).site = s.site := rfl
@[simp] theorem setWord_ult (s : State) (o : Nat) (v : Word) : (s.setWord o v).ult = s.ult := rfl
@[simp] theorem setWord_tdc (s : State) (o : Nat) (v : Word) : (s.setWord o v).tdc = s.tdc := rfl
@[simp] theorem setWord_xl (s : State) (o : Nat) (v : Word) : (s.setWord o v).xl = s.xl := rfl
@[simp] theorem setWord_gov (s : State) (o : Nat) (v : Word) : (s.setWord o v).gov = s.gov := rfl
@[simp] theorem setWord_tb (s : State) (o : Nat) (v : Word) : (s.setWord o v).tb = s.tb := rfl
@[simp] theorem setWord_hart (s : State) (o : Nat) (v : Word) : (s.setWord o v).hart = s.hart := rfl
@[simp] theorem setWord_sched (s : State) (o : Nat) (v : Word) : (s.setWord o v).sched = s.sched := rfl
@[simp] theorem setWord_intc (s : State) (o : Nat) (v : Word) : (s.setWord o v).intc = s.intc := rfl
@[simp] theorem setWord_host (s : State) (o : Nat) (v : Word) : (s.setWord o v).host = s.host := rfl
@[simp] theorem setWord_cal (s : State) (o : Nat) (v : Word) : (s.setWord o v).cal = s.cal := rfl
@[simp] theorem setWord_time (s : State) (o : Nat) (v : Word) : (s.setWord o v).time = s.time := rfl
@[simp] theorem setWord_boot (s : State) (o : Nat) (v : Word) : (s.setWord o v).boot = s.boot := rfl
@[simp] theorem setWord_mgmt (s : State) (o : Nat) (v : Word) : (s.setWord o v).mgmt = s.mgmt := rfl
@[simp] theorem put_mem (s : State) (f : Fld) (v : Nat) : (s.put f v).mem = s.mem := rfl
@[simp] theorem put_now (s : State) (f : Fld) (v : Nat) : (s.put f v).now = s.now := rfl
@[simp] theorem put_pending (s : State) (f : Fld) (v : Nat) : (s.put f v).pending = s.pending := rfl
@[simp] theorem put_free (s : State) (f : Fld) (v : Nat) : (s.put f v).free = s.free := rfl
@[simp] theorem put_req (s : State) (f : Fld) (v : Nat) : (s.put f v).req = s.req := rfl
@[simp] theorem put_pins (s : State) (f : Fld) (v : Nat) : (s.put f v).pins = s.pins := rfl
@[simp] theorem put_drw (s : State) (f : Fld) (v : Nat) : (s.put f v).drw = s.drw := rfl
@[simp] theorem put_art (s : State) (f : Fld) (v : Nat) : (s.put f v).art = s.art := rfl
@[simp] theorem put_strm (s : State) (f : Fld) (v : Nat) : (s.put f v).strm = s.strm := rfl
@[simp] theorem put_memc (s : State) (f : Fld) (v : Nat) : (s.put f v).memc = s.memc := rfl
@[simp] theorem put_seq (s : State) (f : Fld) (v : Nat) : (s.put f v).seq = s.seq := rfl
@[simp] theorem put_eng (s : State) (f : Fld) (v : Nat) : (s.put f v).eng = s.eng := rfl
@[simp] theorem put_ucs (s : State) (f : Fld) (v : Nat) : (s.put f v).ucs = s.ucs := rfl
@[simp] theorem put_ts (s : State) (f : Fld) (v : Nat) : (s.put f v).ts = s.ts := rfl
@[simp] theorem put_chan (s : State) (f : Fld) (v : Nat) : (s.put f v).chan = s.chan := rfl
@[simp] theorem put_mc (s : State) (f : Fld) (v : Nat) : (s.put f v).mc = s.mc := rfl
@[simp] theorem put_capt (s : State) (f : Fld) (v : Nat) : (s.put f v).capt = s.capt := rfl
@[simp] theorem put_site (s : State) (f : Fld) (v : Nat) : (s.put f v).site = s.site := rfl
@[simp] theorem put_ult (s : State) (f : Fld) (v : Nat) : (s.put f v).ult = s.ult := rfl
@[simp] theorem put_tdc (s : State) (f : Fld) (v : Nat) : (s.put f v).tdc = s.tdc := rfl
@[simp] theorem put_xl (s : State) (f : Fld) (v : Nat) : (s.put f v).xl = s.xl := rfl
@[simp] theorem put_gov (s : State) (f : Fld) (v : Nat) : (s.put f v).gov = s.gov := rfl
@[simp] theorem put_tb (s : State) (f : Fld) (v : Nat) : (s.put f v).tb = s.tb := rfl
@[simp] theorem put_hart (s : State) (f : Fld) (v : Nat) : (s.put f v).hart = s.hart := rfl
@[simp] theorem put_sched (s : State) (f : Fld) (v : Nat) : (s.put f v).sched = s.sched := rfl
@[simp] theorem put_intc (s : State) (f : Fld) (v : Nat) : (s.put f v).intc = s.intc := rfl
@[simp] theorem put_host (s : State) (f : Fld) (v : Nat) : (s.put f v).host = s.host := rfl
@[simp] theorem put_cal (s : State) (f : Fld) (v : Nat) : (s.put f v).cal = s.cal := rfl
@[simp] theorem put_time (s : State) (f : Fld) (v : Nat) : (s.put f v).time = s.time := rfl
@[simp] theorem put_boot (s : State) (f : Fld) (v : Nat) : (s.put f v).boot = s.boot := rfl
@[simp] theorem put_mgmt (s : State) (f : Fld) (v : Nat) : (s.put f v).mgmt = s.mgmt := rfl
@[simp] theorem putN_mem (s : State) (o v : Nat) : (s.putN o v).mem = s.mem := rfl
@[simp] theorem putN_now (s : State) (o v : Nat) : (s.putN o v).now = s.now := rfl
@[simp] theorem putN_pending (s : State) (o v : Nat) : (s.putN o v).pending = s.pending := rfl
@[simp] theorem putN_free (s : State) (o v : Nat) : (s.putN o v).free = s.free := rfl
@[simp] theorem putN_req (s : State) (o v : Nat) : (s.putN o v).req = s.req := rfl
@[simp] theorem putN_pins (s : State) (o v : Nat) : (s.putN o v).pins = s.pins := rfl
@[simp] theorem putN_drw (s : State) (o v : Nat) : (s.putN o v).drw = s.drw := rfl
@[simp] theorem putN_art (s : State) (o v : Nat) : (s.putN o v).art = s.art := rfl
@[simp] theorem putN_strm (s : State) (o v : Nat) : (s.putN o v).strm = s.strm := rfl
@[simp] theorem putN_memc (s : State) (o v : Nat) : (s.putN o v).memc = s.memc := rfl
@[simp] theorem putN_seq (s : State) (o v : Nat) : (s.putN o v).seq = s.seq := rfl
@[simp] theorem putN_eng (s : State) (o v : Nat) : (s.putN o v).eng = s.eng := rfl
@[simp] theorem putN_ucs (s : State) (o v : Nat) : (s.putN o v).ucs = s.ucs := rfl
@[simp] theorem putN_ts (s : State) (o v : Nat) : (s.putN o v).ts = s.ts := rfl
@[simp] theorem putN_chan (s : State) (o v : Nat) : (s.putN o v).chan = s.chan := rfl
@[simp] theorem putN_mc (s : State) (o v : Nat) : (s.putN o v).mc = s.mc := rfl
@[simp] theorem putN_capt (s : State) (o v : Nat) : (s.putN o v).capt = s.capt := rfl
@[simp] theorem putN_site (s : State) (o v : Nat) : (s.putN o v).site = s.site := rfl
@[simp] theorem putN_ult (s : State) (o v : Nat) : (s.putN o v).ult = s.ult := rfl
@[simp] theorem putN_tdc (s : State) (o v : Nat) : (s.putN o v).tdc = s.tdc := rfl
@[simp] theorem putN_xl (s : State) (o v : Nat) : (s.putN o v).xl = s.xl := rfl
@[simp] theorem putN_gov (s : State) (o v : Nat) : (s.putN o v).gov = s.gov := rfl
@[simp] theorem putN_tb (s : State) (o v : Nat) : (s.putN o v).tb = s.tb := rfl
@[simp] theorem putN_hart (s : State) (o v : Nat) : (s.putN o v).hart = s.hart := rfl
@[simp] theorem putN_sched (s : State) (o v : Nat) : (s.putN o v).sched = s.sched := rfl
@[simp] theorem putN_intc (s : State) (o v : Nat) : (s.putN o v).intc = s.intc := rfl
@[simp] theorem putN_host (s : State) (o v : Nat) : (s.putN o v).host = s.host := rfl
@[simp] theorem putN_cal (s : State) (o v : Nat) : (s.putN o v).cal = s.cal := rfl
@[simp] theorem putN_time (s : State) (o v : Nat) : (s.putN o v).time = s.time := rfl
@[simp] theorem putN_boot (s : State) (o v : Nat) : (s.putN o v).boot = s.boot := rfl
@[simp] theorem putN_mgmt (s : State) (o v : Nat) : (s.putN o v).mgmt = s.mgmt := rfl
@[simp] theorem putBit_mem (s : State) (o i : Nat) (b : Bool) : (s.putBit o i b).mem = s.mem := rfl
@[simp] theorem putBit_now (s : State) (o i : Nat) (b : Bool) : (s.putBit o i b).now = s.now := rfl
@[simp] theorem putBit_pending (s : State) (o i : Nat) (b : Bool) : (s.putBit o i b).pending = s.pending := rfl
@[simp] theorem putBit_free (s : State) (o i : Nat) (b : Bool) : (s.putBit o i b).free = s.free := rfl
@[simp] theorem putBit_req (s : State) (o i : Nat) (b : Bool) : (s.putBit o i b).req = s.req := rfl
@[simp] theorem putBit_pins (s : State) (o i : Nat) (b : Bool) : (s.putBit o i b).pins = s.pins := rfl
@[simp] theorem putBit_drw (s : State) (o i : Nat) (b : Bool) : (s.putBit o i b).drw = s.drw := rfl
@[simp] theorem putBit_art (s : State) (o i : Nat) (b : Bool) : (s.putBit o i b).art = s.art := rfl
@[simp] theorem putBit_strm (s : State) (o i : Nat) (b : Bool) : (s.putBit o i b).strm = s.strm := rfl
@[simp] theorem putBit_memc (s : State) (o i : Nat) (b : Bool) : (s.putBit o i b).memc = s.memc := rfl
@[simp] theorem putBit_seq (s : State) (o i : Nat) (b : Bool) : (s.putBit o i b).seq = s.seq := rfl
@[simp] theorem putBit_eng (s : State) (o i : Nat) (b : Bool) : (s.putBit o i b).eng = s.eng := rfl
@[simp] theorem putBit_ucs (s : State) (o i : Nat) (b : Bool) : (s.putBit o i b).ucs = s.ucs := rfl
@[simp] theorem putBit_ts (s : State) (o i : Nat) (b : Bool) : (s.putBit o i b).ts = s.ts := rfl
@[simp] theorem putBit_chan (s : State) (o i : Nat) (b : Bool) : (s.putBit o i b).chan = s.chan := rfl
@[simp] theorem putBit_mc (s : State) (o i : Nat) (b : Bool) : (s.putBit o i b).mc = s.mc := rfl
@[simp] theorem putBit_capt (s : State) (o i : Nat) (b : Bool) : (s.putBit o i b).capt = s.capt := rfl
@[simp] theorem putBit_site (s : State) (o i : Nat) (b : Bool) : (s.putBit o i b).site = s.site := rfl
@[simp] theorem putBit_ult (s : State) (o i : Nat) (b : Bool) : (s.putBit o i b).ult = s.ult := rfl
@[simp] theorem putBit_tdc (s : State) (o i : Nat) (b : Bool) : (s.putBit o i b).tdc = s.tdc := rfl
@[simp] theorem putBit_xl (s : State) (o i : Nat) (b : Bool) : (s.putBit o i b).xl = s.xl := rfl
@[simp] theorem putBit_gov (s : State) (o i : Nat) (b : Bool) : (s.putBit o i b).gov = s.gov := rfl
@[simp] theorem putBit_tb (s : State) (o i : Nat) (b : Bool) : (s.putBit o i b).tb = s.tb := rfl
@[simp] theorem putBit_hart (s : State) (o i : Nat) (b : Bool) : (s.putBit o i b).hart = s.hart := rfl
@[simp] theorem putBit_sched (s : State) (o i : Nat) (b : Bool) : (s.putBit o i b).sched = s.sched := rfl
@[simp] theorem putBit_intc (s : State) (o i : Nat) (b : Bool) : (s.putBit o i b).intc = s.intc := rfl
@[simp] theorem putBit_host (s : State) (o i : Nat) (b : Bool) : (s.putBit o i b).host = s.host := rfl
@[simp] theorem putBit_cal (s : State) (o i : Nat) (b : Bool) : (s.putBit o i b).cal = s.cal := rfl
@[simp] theorem putBit_time (s : State) (o i : Nat) (b : Bool) : (s.putBit o i b).time = s.time := rfl
@[simp] theorem putBit_boot (s : State) (o i : Nat) (b : Bool) : (s.putBit o i b).boot = s.boot := rfl
@[simp] theorem putBit_mgmt (s : State) (o i : Nat) (b : Bool) : (s.putBit o i b).mgmt = s.mgmt := rfl
@[simp] theorem addSat_mem (s : State) (o k : Nat) : (s.addSat o k).mem = s.mem := rfl
@[simp] theorem addSat_now (s : State) (o k : Nat) : (s.addSat o k).now = s.now := rfl
@[simp] theorem addSat_pending (s : State) (o k : Nat) : (s.addSat o k).pending = s.pending := rfl
@[simp] theorem addSat_free (s : State) (o k : Nat) : (s.addSat o k).free = s.free := rfl
@[simp] theorem addSat_req (s : State) (o k : Nat) : (s.addSat o k).req = s.req := rfl
@[simp] theorem addSat_pins (s : State) (o k : Nat) : (s.addSat o k).pins = s.pins := rfl
@[simp] theorem addSat_drw (s : State) (o k : Nat) : (s.addSat o k).drw = s.drw := rfl
@[simp] theorem addSat_art (s : State) (o k : Nat) : (s.addSat o k).art = s.art := rfl
@[simp] theorem addSat_strm (s : State) (o k : Nat) : (s.addSat o k).strm = s.strm := rfl
@[simp] theorem addSat_memc (s : State) (o k : Nat) : (s.addSat o k).memc = s.memc := rfl
@[simp] theorem addSat_seq (s : State) (o k : Nat) : (s.addSat o k).seq = s.seq := rfl
@[simp] theorem addSat_eng (s : State) (o k : Nat) : (s.addSat o k).eng = s.eng := rfl
@[simp] theorem addSat_ucs (s : State) (o k : Nat) : (s.addSat o k).ucs = s.ucs := rfl
@[simp] theorem addSat_ts (s : State) (o k : Nat) : (s.addSat o k).ts = s.ts := rfl
@[simp] theorem addSat_chan (s : State) (o k : Nat) : (s.addSat o k).chan = s.chan := rfl
@[simp] theorem addSat_mc (s : State) (o k : Nat) : (s.addSat o k).mc = s.mc := rfl
@[simp] theorem addSat_capt (s : State) (o k : Nat) : (s.addSat o k).capt = s.capt := rfl
@[simp] theorem addSat_site (s : State) (o k : Nat) : (s.addSat o k).site = s.site := rfl
@[simp] theorem addSat_ult (s : State) (o k : Nat) : (s.addSat o k).ult = s.ult := rfl
@[simp] theorem addSat_tdc (s : State) (o k : Nat) : (s.addSat o k).tdc = s.tdc := rfl
@[simp] theorem addSat_xl (s : State) (o k : Nat) : (s.addSat o k).xl = s.xl := rfl
@[simp] theorem addSat_gov (s : State) (o k : Nat) : (s.addSat o k).gov = s.gov := rfl
@[simp] theorem addSat_tb (s : State) (o k : Nat) : (s.addSat o k).tb = s.tb := rfl
@[simp] theorem addSat_hart (s : State) (o k : Nat) : (s.addSat o k).hart = s.hart := rfl
@[simp] theorem addSat_sched (s : State) (o k : Nat) : (s.addSat o k).sched = s.sched := rfl
@[simp] theorem addSat_intc (s : State) (o k : Nat) : (s.addSat o k).intc = s.intc := rfl
@[simp] theorem addSat_host (s : State) (o k : Nat) : (s.addSat o k).host = s.host := rfl
@[simp] theorem addSat_cal (s : State) (o k : Nat) : (s.addSat o k).cal = s.cal := rfl
@[simp] theorem addSat_time (s : State) (o k : Nat) : (s.addSat o k).time = s.time := rfl
@[simp] theorem addSat_boot (s : State) (o k : Nat) : (s.addSat o k).boot = s.boot := rfl
@[simp] theorem addSat_mgmt (s : State) (o k : Nat) : (s.addSat o k).mgmt = s.mgmt := rfl
@[simp] theorem bump_mem (s : State) (o : Nat) : (s.bump o).mem = s.mem := rfl
@[simp] theorem bump_now (s : State) (o : Nat) : (s.bump o).now = s.now := rfl
@[simp] theorem bump_pending (s : State) (o : Nat) : (s.bump o).pending = s.pending := rfl
@[simp] theorem bump_free (s : State) (o : Nat) : (s.bump o).free = s.free := rfl
@[simp] theorem bump_req (s : State) (o : Nat) : (s.bump o).req = s.req := rfl
@[simp] theorem bump_pins (s : State) (o : Nat) : (s.bump o).pins = s.pins := rfl
@[simp] theorem bump_drw (s : State) (o : Nat) : (s.bump o).drw = s.drw := rfl
@[simp] theorem bump_art (s : State) (o : Nat) : (s.bump o).art = s.art := rfl
@[simp] theorem bump_strm (s : State) (o : Nat) : (s.bump o).strm = s.strm := rfl
@[simp] theorem bump_memc (s : State) (o : Nat) : (s.bump o).memc = s.memc := rfl
@[simp] theorem bump_seq (s : State) (o : Nat) : (s.bump o).seq = s.seq := rfl
@[simp] theorem bump_eng (s : State) (o : Nat) : (s.bump o).eng = s.eng := rfl
@[simp] theorem bump_ucs (s : State) (o : Nat) : (s.bump o).ucs = s.ucs := rfl
@[simp] theorem bump_ts (s : State) (o : Nat) : (s.bump o).ts = s.ts := rfl
@[simp] theorem bump_chan (s : State) (o : Nat) : (s.bump o).chan = s.chan := rfl
@[simp] theorem bump_mc (s : State) (o : Nat) : (s.bump o).mc = s.mc := rfl
@[simp] theorem bump_capt (s : State) (o : Nat) : (s.bump o).capt = s.capt := rfl
@[simp] theorem bump_site (s : State) (o : Nat) : (s.bump o).site = s.site := rfl
@[simp] theorem bump_ult (s : State) (o : Nat) : (s.bump o).ult = s.ult := rfl
@[simp] theorem bump_tdc (s : State) (o : Nat) : (s.bump o).tdc = s.tdc := rfl
@[simp] theorem bump_xl (s : State) (o : Nat) : (s.bump o).xl = s.xl := rfl
@[simp] theorem bump_gov (s : State) (o : Nat) : (s.bump o).gov = s.gov := rfl
@[simp] theorem bump_tb (s : State) (o : Nat) : (s.bump o).tb = s.tb := rfl
@[simp] theorem bump_hart (s : State) (o : Nat) : (s.bump o).hart = s.hart := rfl
@[simp] theorem bump_sched (s : State) (o : Nat) : (s.bump o).sched = s.sched := rfl
@[simp] theorem bump_intc (s : State) (o : Nat) : (s.bump o).intc = s.intc := rfl
@[simp] theorem bump_host (s : State) (o : Nat) : (s.bump o).host = s.host := rfl
@[simp] theorem bump_cal (s : State) (o : Nat) : (s.bump o).cal = s.cal := rfl
@[simp] theorem bump_time (s : State) (o : Nat) : (s.bump o).time = s.time := rfl
@[simp] theorem bump_boot (s : State) (o : Nat) : (s.bump o).boot = s.boot := rfl
@[simp] theorem bump_mgmt (s : State) (o : Nat) : (s.bump o).mgmt = s.mgmt := rfl
@[simp] theorem putPair_mem (s : State) (o v : Nat) : (s.putPair o v).mem = s.mem := rfl
@[simp] theorem putPair_now (s : State) (o v : Nat) : (s.putPair o v).now = s.now := rfl
@[simp] theorem putPair_pending (s : State) (o v : Nat) : (s.putPair o v).pending = s.pending := rfl
@[simp] theorem putPair_free (s : State) (o v : Nat) : (s.putPair o v).free = s.free := rfl
@[simp] theorem putPair_req (s : State) (o v : Nat) : (s.putPair o v).req = s.req := rfl
@[simp] theorem putPair_pins (s : State) (o v : Nat) : (s.putPair o v).pins = s.pins := rfl
@[simp] theorem putPair_drw (s : State) (o v : Nat) : (s.putPair o v).drw = s.drw := rfl
@[simp] theorem putPair_art (s : State) (o v : Nat) : (s.putPair o v).art = s.art := rfl
@[simp] theorem putPair_strm (s : State) (o v : Nat) : (s.putPair o v).strm = s.strm := rfl
@[simp] theorem putPair_memc (s : State) (o v : Nat) : (s.putPair o v).memc = s.memc := rfl
@[simp] theorem putPair_seq (s : State) (o v : Nat) : (s.putPair o v).seq = s.seq := rfl
@[simp] theorem putPair_eng (s : State) (o v : Nat) : (s.putPair o v).eng = s.eng := rfl
@[simp] theorem putPair_ucs (s : State) (o v : Nat) : (s.putPair o v).ucs = s.ucs := rfl
@[simp] theorem putPair_ts (s : State) (o v : Nat) : (s.putPair o v).ts = s.ts := rfl
@[simp] theorem putPair_chan (s : State) (o v : Nat) : (s.putPair o v).chan = s.chan := rfl
@[simp] theorem putPair_mc (s : State) (o v : Nat) : (s.putPair o v).mc = s.mc := rfl
@[simp] theorem putPair_capt (s : State) (o v : Nat) : (s.putPair o v).capt = s.capt := rfl
@[simp] theorem putPair_site (s : State) (o v : Nat) : (s.putPair o v).site = s.site := rfl
@[simp] theorem putPair_ult (s : State) (o v : Nat) : (s.putPair o v).ult = s.ult := rfl
@[simp] theorem putPair_tdc (s : State) (o v : Nat) : (s.putPair o v).tdc = s.tdc := rfl
@[simp] theorem putPair_xl (s : State) (o v : Nat) : (s.putPair o v).xl = s.xl := rfl
@[simp] theorem putPair_gov (s : State) (o v : Nat) : (s.putPair o v).gov = s.gov := rfl
@[simp] theorem putPair_tb (s : State) (o v : Nat) : (s.putPair o v).tb = s.tb := rfl
@[simp] theorem putPair_hart (s : State) (o v : Nat) : (s.putPair o v).hart = s.hart := rfl
@[simp] theorem putPair_sched (s : State) (o v : Nat) : (s.putPair o v).sched = s.sched := rfl
@[simp] theorem putPair_intc (s : State) (o v : Nat) : (s.putPair o v).intc = s.intc := rfl
@[simp] theorem putPair_host (s : State) (o v : Nat) : (s.putPair o v).host = s.host := rfl
@[simp] theorem putPair_cal (s : State) (o v : Nat) : (s.putPair o v).cal = s.cal := rfl
@[simp] theorem putPair_time (s : State) (o v : Nat) : (s.putPair o v).time = s.time := rfl
@[simp] theorem putPair_boot (s : State) (o v : Nat) : (s.putPair o v).boot = s.boot := rfl
@[simp] theorem putPair_mgmt (s : State) (o v : Nat) : (s.putPair o v).mgmt = s.mgmt := rfl
@[simp] theorem wrByte_regs (s : State) (a : Nat) (b : Byte) : (s.wrByte a b).regs = s.regs := rfl
@[simp] theorem wrByte_now (s : State) (a : Nat) (b : Byte) : (s.wrByte a b).now = s.now := rfl
@[simp] theorem wrByte_pending (s : State) (a : Nat) (b : Byte) : (s.wrByte a b).pending = s.pending := rfl
@[simp] theorem wrByte_free (s : State) (a : Nat) (b : Byte) : (s.wrByte a b).free = s.free := rfl
@[simp] theorem wrByte_req (s : State) (a : Nat) (b : Byte) : (s.wrByte a b).req = s.req := rfl
@[simp] theorem wrByte_pins (s : State) (a : Nat) (b : Byte) : (s.wrByte a b).pins = s.pins := rfl
@[simp] theorem wrByte_drw (s : State) (a : Nat) (b : Byte) : (s.wrByte a b).drw = s.drw := rfl
@[simp] theorem wrByte_art (s : State) (a : Nat) (b : Byte) : (s.wrByte a b).art = s.art := rfl
@[simp] theorem wrByte_strm (s : State) (a : Nat) (b : Byte) : (s.wrByte a b).strm = s.strm := rfl
@[simp] theorem wrByte_memc (s : State) (a : Nat) (b : Byte) : (s.wrByte a b).memc = s.memc := rfl
@[simp] theorem wrByte_seq (s : State) (a : Nat) (b : Byte) : (s.wrByte a b).seq = s.seq := rfl
@[simp] theorem wrByte_eng (s : State) (a : Nat) (b : Byte) : (s.wrByte a b).eng = s.eng := rfl
@[simp] theorem wrByte_ucs (s : State) (a : Nat) (b : Byte) : (s.wrByte a b).ucs = s.ucs := rfl
@[simp] theorem wrByte_ts (s : State) (a : Nat) (b : Byte) : (s.wrByte a b).ts = s.ts := rfl
@[simp] theorem wrByte_chan (s : State) (a : Nat) (b : Byte) : (s.wrByte a b).chan = s.chan := rfl
@[simp] theorem wrByte_mc (s : State) (a : Nat) (b : Byte) : (s.wrByte a b).mc = s.mc := rfl
@[simp] theorem wrByte_capt (s : State) (a : Nat) (b : Byte) : (s.wrByte a b).capt = s.capt := rfl
@[simp] theorem wrByte_site (s : State) (a : Nat) (b : Byte) : (s.wrByte a b).site = s.site := rfl
@[simp] theorem wrByte_ult (s : State) (a : Nat) (b : Byte) : (s.wrByte a b).ult = s.ult := rfl
@[simp] theorem wrByte_tdc (s : State) (a : Nat) (b : Byte) : (s.wrByte a b).tdc = s.tdc := rfl
@[simp] theorem wrByte_xl (s : State) (a : Nat) (b : Byte) : (s.wrByte a b).xl = s.xl := rfl
@[simp] theorem wrByte_gov (s : State) (a : Nat) (b : Byte) : (s.wrByte a b).gov = s.gov := rfl
@[simp] theorem wrByte_tb (s : State) (a : Nat) (b : Byte) : (s.wrByte a b).tb = s.tb := rfl
@[simp] theorem wrByte_hart (s : State) (a : Nat) (b : Byte) : (s.wrByte a b).hart = s.hart := rfl
@[simp] theorem wrByte_sched (s : State) (a : Nat) (b : Byte) : (s.wrByte a b).sched = s.sched := rfl
@[simp] theorem wrByte_intc (s : State) (a : Nat) (b : Byte) : (s.wrByte a b).intc = s.intc := rfl
@[simp] theorem wrByte_host (s : State) (a : Nat) (b : Byte) : (s.wrByte a b).host = s.host := rfl
@[simp] theorem wrByte_cal (s : State) (a : Nat) (b : Byte) : (s.wrByte a b).cal = s.cal := rfl
@[simp] theorem wrByte_time (s : State) (a : Nat) (b : Byte) : (s.wrByte a b).time = s.time := rfl
@[simp] theorem wrByte_boot (s : State) (a : Nat) (b : Byte) : (s.wrByte a b).boot = s.boot := rfl
@[simp] theorem wrByte_mgmt (s : State) (a : Nat) (b : Byte) : (s.wrByte a b).mgmt = s.mgmt := rfl
@[simp] theorem updRq_regs (s : State) (r : Req) (f : ReqCtx → ReqCtx) : (s.updRq r f).regs = s.regs := rfl
@[simp] theorem updRq_mem (s : State) (r : Req) (f : ReqCtx → ReqCtx) : (s.updRq r f).mem = s.mem := rfl
@[simp] theorem updRq_now (s : State) (r : Req) (f : ReqCtx → ReqCtx) : (s.updRq r f).now = s.now := rfl
@[simp] theorem updRq_pending (s : State) (r : Req) (f : ReqCtx → ReqCtx) : (s.updRq r f).pending = s.pending := rfl
@[simp] theorem updRq_free (s : State) (r : Req) (f : ReqCtx → ReqCtx) : (s.updRq r f).free = s.free := rfl
@[simp] theorem updRq_pins (s : State) (r : Req) (f : ReqCtx → ReqCtx) : (s.updRq r f).pins = s.pins := rfl
@[simp] theorem updRq_drw (s : State) (r : Req) (f : ReqCtx → ReqCtx) : (s.updRq r f).drw = s.drw := rfl
@[simp] theorem updRq_art (s : State) (r : Req) (f : ReqCtx → ReqCtx) : (s.updRq r f).art = s.art := rfl
@[simp] theorem updRq_strm (s : State) (r : Req) (f : ReqCtx → ReqCtx) : (s.updRq r f).strm = s.strm := rfl
@[simp] theorem updRq_memc (s : State) (r : Req) (f : ReqCtx → ReqCtx) : (s.updRq r f).memc = s.memc := rfl
@[simp] theorem updRq_seq (s : State) (r : Req) (f : ReqCtx → ReqCtx) : (s.updRq r f).seq = s.seq := rfl
@[simp] theorem updRq_eng (s : State) (r : Req) (f : ReqCtx → ReqCtx) : (s.updRq r f).eng = s.eng := rfl
@[simp] theorem updRq_ucs (s : State) (r : Req) (f : ReqCtx → ReqCtx) : (s.updRq r f).ucs = s.ucs := rfl
@[simp] theorem updRq_ts (s : State) (r : Req) (f : ReqCtx → ReqCtx) : (s.updRq r f).ts = s.ts := rfl
@[simp] theorem updRq_chan (s : State) (r : Req) (f : ReqCtx → ReqCtx) : (s.updRq r f).chan = s.chan := rfl
@[simp] theorem updRq_mc (s : State) (r : Req) (f : ReqCtx → ReqCtx) : (s.updRq r f).mc = s.mc := rfl
@[simp] theorem updRq_capt (s : State) (r : Req) (f : ReqCtx → ReqCtx) : (s.updRq r f).capt = s.capt := rfl
@[simp] theorem updRq_site (s : State) (r : Req) (f : ReqCtx → ReqCtx) : (s.updRq r f).site = s.site := rfl
@[simp] theorem updRq_ult (s : State) (r : Req) (f : ReqCtx → ReqCtx) : (s.updRq r f).ult = s.ult := rfl
@[simp] theorem updRq_tdc (s : State) (r : Req) (f : ReqCtx → ReqCtx) : (s.updRq r f).tdc = s.tdc := rfl
@[simp] theorem updRq_xl (s : State) (r : Req) (f : ReqCtx → ReqCtx) : (s.updRq r f).xl = s.xl := rfl
@[simp] theorem updRq_gov (s : State) (r : Req) (f : ReqCtx → ReqCtx) : (s.updRq r f).gov = s.gov := rfl
@[simp] theorem updRq_tb (s : State) (r : Req) (f : ReqCtx → ReqCtx) : (s.updRq r f).tb = s.tb := rfl
@[simp] theorem updRq_hart (s : State) (r : Req) (f : ReqCtx → ReqCtx) : (s.updRq r f).hart = s.hart := rfl
@[simp] theorem updRq_sched (s : State) (r : Req) (f : ReqCtx → ReqCtx) : (s.updRq r f).sched = s.sched := rfl
@[simp] theorem updRq_intc (s : State) (r : Req) (f : ReqCtx → ReqCtx) : (s.updRq r f).intc = s.intc := rfl
@[simp] theorem updRq_host (s : State) (r : Req) (f : ReqCtx → ReqCtx) : (s.updRq r f).host = s.host := rfl
@[simp] theorem updRq_cal (s : State) (r : Req) (f : ReqCtx → ReqCtx) : (s.updRq r f).cal = s.cal := rfl
@[simp] theorem updRq_time (s : State) (r : Req) (f : ReqCtx → ReqCtx) : (s.updRq r f).time = s.time := rfl
@[simp] theorem updRq_boot (s : State) (r : Req) (f : ReqCtx → ReqCtx) : (s.updRq r f).boot = s.boot := rfl
@[simp] theorem updRq_mgmt (s : State) (r : Req) (f : ReqCtx → ReqCtx) : (s.updRq r f).mgmt = s.mgmt := rfl
@[simp] theorem updStrm_regs (s : State) (n : Nat) (f : StrmSite → StrmSite) : (s.updStrm n f).regs = s.regs := rfl
@[simp] theorem updStrm_mem (s : State) (n : Nat) (f : StrmSite → StrmSite) : (s.updStrm n f).mem = s.mem := rfl
@[simp] theorem updStrm_now (s : State) (n : Nat) (f : StrmSite → StrmSite) : (s.updStrm n f).now = s.now := rfl
@[simp] theorem updStrm_pending (s : State) (n : Nat) (f : StrmSite → StrmSite) : (s.updStrm n f).pending = s.pending := rfl
@[simp] theorem updStrm_free (s : State) (n : Nat) (f : StrmSite → StrmSite) : (s.updStrm n f).free = s.free := rfl
@[simp] theorem updStrm_req (s : State) (n : Nat) (f : StrmSite → StrmSite) : (s.updStrm n f).req = s.req := rfl
@[simp] theorem updStrm_pins (s : State) (n : Nat) (f : StrmSite → StrmSite) : (s.updStrm n f).pins = s.pins := rfl
@[simp] theorem updStrm_drw (s : State) (n : Nat) (f : StrmSite → StrmSite) : (s.updStrm n f).drw = s.drw := rfl
@[simp] theorem updStrm_art (s : State) (n : Nat) (f : StrmSite → StrmSite) : (s.updStrm n f).art = s.art := rfl
@[simp] theorem updStrm_memc (s : State) (n : Nat) (f : StrmSite → StrmSite) : (s.updStrm n f).memc = s.memc := rfl
@[simp] theorem updStrm_seq (s : State) (n : Nat) (f : StrmSite → StrmSite) : (s.updStrm n f).seq = s.seq := rfl
@[simp] theorem updStrm_eng (s : State) (n : Nat) (f : StrmSite → StrmSite) : (s.updStrm n f).eng = s.eng := rfl
@[simp] theorem updStrm_ucs (s : State) (n : Nat) (f : StrmSite → StrmSite) : (s.updStrm n f).ucs = s.ucs := rfl
@[simp] theorem updStrm_ts (s : State) (n : Nat) (f : StrmSite → StrmSite) : (s.updStrm n f).ts = s.ts := rfl
@[simp] theorem updStrm_chan (s : State) (n : Nat) (f : StrmSite → StrmSite) : (s.updStrm n f).chan = s.chan := rfl
@[simp] theorem updStrm_mc (s : State) (n : Nat) (f : StrmSite → StrmSite) : (s.updStrm n f).mc = s.mc := rfl
@[simp] theorem updStrm_capt (s : State) (n : Nat) (f : StrmSite → StrmSite) : (s.updStrm n f).capt = s.capt := rfl
@[simp] theorem updStrm_site (s : State) (n : Nat) (f : StrmSite → StrmSite) : (s.updStrm n f).site = s.site := rfl
@[simp] theorem updStrm_ult (s : State) (n : Nat) (f : StrmSite → StrmSite) : (s.updStrm n f).ult = s.ult := rfl
@[simp] theorem updStrm_tdc (s : State) (n : Nat) (f : StrmSite → StrmSite) : (s.updStrm n f).tdc = s.tdc := rfl
@[simp] theorem updStrm_xl (s : State) (n : Nat) (f : StrmSite → StrmSite) : (s.updStrm n f).xl = s.xl := rfl
@[simp] theorem updStrm_gov (s : State) (n : Nat) (f : StrmSite → StrmSite) : (s.updStrm n f).gov = s.gov := rfl
@[simp] theorem updStrm_tb (s : State) (n : Nat) (f : StrmSite → StrmSite) : (s.updStrm n f).tb = s.tb := rfl
@[simp] theorem updStrm_hart (s : State) (n : Nat) (f : StrmSite → StrmSite) : (s.updStrm n f).hart = s.hart := rfl
@[simp] theorem updStrm_sched (s : State) (n : Nat) (f : StrmSite → StrmSite) : (s.updStrm n f).sched = s.sched := rfl
@[simp] theorem updStrm_intc (s : State) (n : Nat) (f : StrmSite → StrmSite) : (s.updStrm n f).intc = s.intc := rfl
@[simp] theorem updStrm_host (s : State) (n : Nat) (f : StrmSite → StrmSite) : (s.updStrm n f).host = s.host := rfl
@[simp] theorem updStrm_cal (s : State) (n : Nat) (f : StrmSite → StrmSite) : (s.updStrm n f).cal = s.cal := rfl
@[simp] theorem updStrm_time (s : State) (n : Nat) (f : StrmSite → StrmSite) : (s.updStrm n f).time = s.time := rfl
@[simp] theorem updStrm_boot (s : State) (n : Nat) (f : StrmSite → StrmSite) : (s.updStrm n f).boot = s.boot := rfl
@[simp] theorem updStrm_mgmt (s : State) (n : Nat) (f : StrmSite → StrmSite) : (s.updStrm n f).mgmt = s.mgmt := rfl
@[simp] theorem updSeq_regs (s : State) (n : Nat) (f : SeqCtx → SeqCtx) : (s.updSeq n f).regs = s.regs := rfl
@[simp] theorem updSeq_mem (s : State) (n : Nat) (f : SeqCtx → SeqCtx) : (s.updSeq n f).mem = s.mem := rfl
@[simp] theorem updSeq_now (s : State) (n : Nat) (f : SeqCtx → SeqCtx) : (s.updSeq n f).now = s.now := rfl
@[simp] theorem updSeq_pending (s : State) (n : Nat) (f : SeqCtx → SeqCtx) : (s.updSeq n f).pending = s.pending := rfl
@[simp] theorem updSeq_free (s : State) (n : Nat) (f : SeqCtx → SeqCtx) : (s.updSeq n f).free = s.free := rfl
@[simp] theorem updSeq_req (s : State) (n : Nat) (f : SeqCtx → SeqCtx) : (s.updSeq n f).req = s.req := rfl
@[simp] theorem updSeq_pins (s : State) (n : Nat) (f : SeqCtx → SeqCtx) : (s.updSeq n f).pins = s.pins := rfl
@[simp] theorem updSeq_drw (s : State) (n : Nat) (f : SeqCtx → SeqCtx) : (s.updSeq n f).drw = s.drw := rfl
@[simp] theorem updSeq_art (s : State) (n : Nat) (f : SeqCtx → SeqCtx) : (s.updSeq n f).art = s.art := rfl
@[simp] theorem updSeq_strm (s : State) (n : Nat) (f : SeqCtx → SeqCtx) : (s.updSeq n f).strm = s.strm := rfl
@[simp] theorem updSeq_memc (s : State) (n : Nat) (f : SeqCtx → SeqCtx) : (s.updSeq n f).memc = s.memc := rfl
@[simp] theorem updSeq_eng (s : State) (n : Nat) (f : SeqCtx → SeqCtx) : (s.updSeq n f).eng = s.eng := rfl
@[simp] theorem updSeq_ucs (s : State) (n : Nat) (f : SeqCtx → SeqCtx) : (s.updSeq n f).ucs = s.ucs := rfl
@[simp] theorem updSeq_ts (s : State) (n : Nat) (f : SeqCtx → SeqCtx) : (s.updSeq n f).ts = s.ts := rfl
@[simp] theorem updSeq_chan (s : State) (n : Nat) (f : SeqCtx → SeqCtx) : (s.updSeq n f).chan = s.chan := rfl
@[simp] theorem updSeq_mc (s : State) (n : Nat) (f : SeqCtx → SeqCtx) : (s.updSeq n f).mc = s.mc := rfl
@[simp] theorem updSeq_capt (s : State) (n : Nat) (f : SeqCtx → SeqCtx) : (s.updSeq n f).capt = s.capt := rfl
@[simp] theorem updSeq_site (s : State) (n : Nat) (f : SeqCtx → SeqCtx) : (s.updSeq n f).site = s.site := rfl
@[simp] theorem updSeq_ult (s : State) (n : Nat) (f : SeqCtx → SeqCtx) : (s.updSeq n f).ult = s.ult := rfl
@[simp] theorem updSeq_tdc (s : State) (n : Nat) (f : SeqCtx → SeqCtx) : (s.updSeq n f).tdc = s.tdc := rfl
@[simp] theorem updSeq_xl (s : State) (n : Nat) (f : SeqCtx → SeqCtx) : (s.updSeq n f).xl = s.xl := rfl
@[simp] theorem updSeq_gov (s : State) (n : Nat) (f : SeqCtx → SeqCtx) : (s.updSeq n f).gov = s.gov := rfl
@[simp] theorem updSeq_tb (s : State) (n : Nat) (f : SeqCtx → SeqCtx) : (s.updSeq n f).tb = s.tb := rfl
@[simp] theorem updSeq_hart (s : State) (n : Nat) (f : SeqCtx → SeqCtx) : (s.updSeq n f).hart = s.hart := rfl
@[simp] theorem updSeq_sched (s : State) (n : Nat) (f : SeqCtx → SeqCtx) : (s.updSeq n f).sched = s.sched := rfl
@[simp] theorem updSeq_intc (s : State) (n : Nat) (f : SeqCtx → SeqCtx) : (s.updSeq n f).intc = s.intc := rfl
@[simp] theorem updSeq_host (s : State) (n : Nat) (f : SeqCtx → SeqCtx) : (s.updSeq n f).host = s.host := rfl
@[simp] theorem updSeq_cal (s : State) (n : Nat) (f : SeqCtx → SeqCtx) : (s.updSeq n f).cal = s.cal := rfl
@[simp] theorem updSeq_time (s : State) (n : Nat) (f : SeqCtx → SeqCtx) : (s.updSeq n f).time = s.time := rfl
@[simp] theorem updSeq_boot (s : State) (n : Nat) (f : SeqCtx → SeqCtx) : (s.updSeq n f).boot = s.boot := rfl
@[simp] theorem updSeq_mgmt (s : State) (n : Nat) (f : SeqCtx → SeqCtx) : (s.updSeq n f).mgmt = s.mgmt := rfl
@[simp] theorem updPlay_regs (s : State) (n : Nat) (f : Play → Play) : (s.updPlay n f).regs = s.regs := rfl
@[simp] theorem updPlay_mem (s : State) (n : Nat) (f : Play → Play) : (s.updPlay n f).mem = s.mem := rfl
@[simp] theorem updPlay_now (s : State) (n : Nat) (f : Play → Play) : (s.updPlay n f).now = s.now := rfl
@[simp] theorem updPlay_pending (s : State) (n : Nat) (f : Play → Play) : (s.updPlay n f).pending = s.pending := rfl
@[simp] theorem updPlay_free (s : State) (n : Nat) (f : Play → Play) : (s.updPlay n f).free = s.free := rfl
@[simp] theorem updPlay_req (s : State) (n : Nat) (f : Play → Play) : (s.updPlay n f).req = s.req := rfl
@[simp] theorem updPlay_pins (s : State) (n : Nat) (f : Play → Play) : (s.updPlay n f).pins = s.pins := rfl
@[simp] theorem updPlay_drw (s : State) (n : Nat) (f : Play → Play) : (s.updPlay n f).drw = s.drw := rfl
@[simp] theorem updPlay_art (s : State) (n : Nat) (f : Play → Play) : (s.updPlay n f).art = s.art := rfl
@[simp] theorem updPlay_strm (s : State) (n : Nat) (f : Play → Play) : (s.updPlay n f).strm = s.strm := rfl
@[simp] theorem updPlay_memc (s : State) (n : Nat) (f : Play → Play) : (s.updPlay n f).memc = s.memc := rfl
@[simp] theorem updPlay_eng (s : State) (n : Nat) (f : Play → Play) : (s.updPlay n f).eng = s.eng := rfl
@[simp] theorem updPlay_ucs (s : State) (n : Nat) (f : Play → Play) : (s.updPlay n f).ucs = s.ucs := rfl
@[simp] theorem updPlay_ts (s : State) (n : Nat) (f : Play → Play) : (s.updPlay n f).ts = s.ts := rfl
@[simp] theorem updPlay_chan (s : State) (n : Nat) (f : Play → Play) : (s.updPlay n f).chan = s.chan := rfl
@[simp] theorem updPlay_mc (s : State) (n : Nat) (f : Play → Play) : (s.updPlay n f).mc = s.mc := rfl
@[simp] theorem updPlay_capt (s : State) (n : Nat) (f : Play → Play) : (s.updPlay n f).capt = s.capt := rfl
@[simp] theorem updPlay_site (s : State) (n : Nat) (f : Play → Play) : (s.updPlay n f).site = s.site := rfl
@[simp] theorem updPlay_ult (s : State) (n : Nat) (f : Play → Play) : (s.updPlay n f).ult = s.ult := rfl
@[simp] theorem updPlay_tdc (s : State) (n : Nat) (f : Play → Play) : (s.updPlay n f).tdc = s.tdc := rfl
@[simp] theorem updPlay_xl (s : State) (n : Nat) (f : Play → Play) : (s.updPlay n f).xl = s.xl := rfl
@[simp] theorem updPlay_gov (s : State) (n : Nat) (f : Play → Play) : (s.updPlay n f).gov = s.gov := rfl
@[simp] theorem updPlay_tb (s : State) (n : Nat) (f : Play → Play) : (s.updPlay n f).tb = s.tb := rfl
@[simp] theorem updPlay_hart (s : State) (n : Nat) (f : Play → Play) : (s.updPlay n f).hart = s.hart := rfl
@[simp] theorem updPlay_sched (s : State) (n : Nat) (f : Play → Play) : (s.updPlay n f).sched = s.sched := rfl
@[simp] theorem updPlay_intc (s : State) (n : Nat) (f : Play → Play) : (s.updPlay n f).intc = s.intc := rfl
@[simp] theorem updPlay_host (s : State) (n : Nat) (f : Play → Play) : (s.updPlay n f).host = s.host := rfl
@[simp] theorem updPlay_cal (s : State) (n : Nat) (f : Play → Play) : (s.updPlay n f).cal = s.cal := rfl
@[simp] theorem updPlay_time (s : State) (n : Nat) (f : Play → Play) : (s.updPlay n f).time = s.time := rfl
@[simp] theorem updPlay_boot (s : State) (n : Nat) (f : Play → Play) : (s.updPlay n f).boot = s.boot := rfl
@[simp] theorem updPlay_mgmt (s : State) (n : Nat) (f : Play → Play) : (s.updPlay n f).mgmt = s.mgmt := rfl
@[simp] theorem updEng_regs (s : State) (n : Nat) (f : Engine → Engine) : (s.updEng n f).regs = s.regs := rfl
@[simp] theorem updEng_mem (s : State) (n : Nat) (f : Engine → Engine) : (s.updEng n f).mem = s.mem := rfl
@[simp] theorem updEng_now (s : State) (n : Nat) (f : Engine → Engine) : (s.updEng n f).now = s.now := rfl
@[simp] theorem updEng_pending (s : State) (n : Nat) (f : Engine → Engine) : (s.updEng n f).pending = s.pending := rfl
@[simp] theorem updEng_free (s : State) (n : Nat) (f : Engine → Engine) : (s.updEng n f).free = s.free := rfl
@[simp] theorem updEng_req (s : State) (n : Nat) (f : Engine → Engine) : (s.updEng n f).req = s.req := rfl
@[simp] theorem updEng_pins (s : State) (n : Nat) (f : Engine → Engine) : (s.updEng n f).pins = s.pins := rfl
@[simp] theorem updEng_drw (s : State) (n : Nat) (f : Engine → Engine) : (s.updEng n f).drw = s.drw := rfl
@[simp] theorem updEng_art (s : State) (n : Nat) (f : Engine → Engine) : (s.updEng n f).art = s.art := rfl
@[simp] theorem updEng_strm (s : State) (n : Nat) (f : Engine → Engine) : (s.updEng n f).strm = s.strm := rfl
@[simp] theorem updEng_memc (s : State) (n : Nat) (f : Engine → Engine) : (s.updEng n f).memc = s.memc := rfl
@[simp] theorem updEng_seq (s : State) (n : Nat) (f : Engine → Engine) : (s.updEng n f).seq = s.seq := rfl
@[simp] theorem updEng_ucs (s : State) (n : Nat) (f : Engine → Engine) : (s.updEng n f).ucs = s.ucs := rfl
@[simp] theorem updEng_ts (s : State) (n : Nat) (f : Engine → Engine) : (s.updEng n f).ts = s.ts := rfl
@[simp] theorem updEng_chan (s : State) (n : Nat) (f : Engine → Engine) : (s.updEng n f).chan = s.chan := rfl
@[simp] theorem updEng_mc (s : State) (n : Nat) (f : Engine → Engine) : (s.updEng n f).mc = s.mc := rfl
@[simp] theorem updEng_capt (s : State) (n : Nat) (f : Engine → Engine) : (s.updEng n f).capt = s.capt := rfl
@[simp] theorem updEng_site (s : State) (n : Nat) (f : Engine → Engine) : (s.updEng n f).site = s.site := rfl
@[simp] theorem updEng_ult (s : State) (n : Nat) (f : Engine → Engine) : (s.updEng n f).ult = s.ult := rfl
@[simp] theorem updEng_tdc (s : State) (n : Nat) (f : Engine → Engine) : (s.updEng n f).tdc = s.tdc := rfl
@[simp] theorem updEng_xl (s : State) (n : Nat) (f : Engine → Engine) : (s.updEng n f).xl = s.xl := rfl
@[simp] theorem updEng_gov (s : State) (n : Nat) (f : Engine → Engine) : (s.updEng n f).gov = s.gov := rfl
@[simp] theorem updEng_tb (s : State) (n : Nat) (f : Engine → Engine) : (s.updEng n f).tb = s.tb := rfl
@[simp] theorem updEng_hart (s : State) (n : Nat) (f : Engine → Engine) : (s.updEng n f).hart = s.hart := rfl
@[simp] theorem updEng_sched (s : State) (n : Nat) (f : Engine → Engine) : (s.updEng n f).sched = s.sched := rfl
@[simp] theorem updEng_intc (s : State) (n : Nat) (f : Engine → Engine) : (s.updEng n f).intc = s.intc := rfl
@[simp] theorem updEng_host (s : State) (n : Nat) (f : Engine → Engine) : (s.updEng n f).host = s.host := rfl
@[simp] theorem updEng_cal (s : State) (n : Nat) (f : Engine → Engine) : (s.updEng n f).cal = s.cal := rfl
@[simp] theorem updEng_time (s : State) (n : Nat) (f : Engine → Engine) : (s.updEng n f).time = s.time := rfl
@[simp] theorem updEng_boot (s : State) (n : Nat) (f : Engine → Engine) : (s.updEng n f).boot = s.boot := rfl
@[simp] theorem updEng_mgmt (s : State) (n : Nat) (f : Engine → Engine) : (s.updEng n f).mgmt = s.mgmt := rfl
@[simp] theorem updChan_regs (s : State) (n : Nat) (f : Chan → Chan) : (s.updChan n f).regs = s.regs := rfl
@[simp] theorem updChan_mem (s : State) (n : Nat) (f : Chan → Chan) : (s.updChan n f).mem = s.mem := rfl
@[simp] theorem updChan_now (s : State) (n : Nat) (f : Chan → Chan) : (s.updChan n f).now = s.now := rfl
@[simp] theorem updChan_pending (s : State) (n : Nat) (f : Chan → Chan) : (s.updChan n f).pending = s.pending := rfl
@[simp] theorem updChan_free (s : State) (n : Nat) (f : Chan → Chan) : (s.updChan n f).free = s.free := rfl
@[simp] theorem updChan_req (s : State) (n : Nat) (f : Chan → Chan) : (s.updChan n f).req = s.req := rfl
@[simp] theorem updChan_pins (s : State) (n : Nat) (f : Chan → Chan) : (s.updChan n f).pins = s.pins := rfl
@[simp] theorem updChan_drw (s : State) (n : Nat) (f : Chan → Chan) : (s.updChan n f).drw = s.drw := rfl
@[simp] theorem updChan_art (s : State) (n : Nat) (f : Chan → Chan) : (s.updChan n f).art = s.art := rfl
@[simp] theorem updChan_strm (s : State) (n : Nat) (f : Chan → Chan) : (s.updChan n f).strm = s.strm := rfl
@[simp] theorem updChan_memc (s : State) (n : Nat) (f : Chan → Chan) : (s.updChan n f).memc = s.memc := rfl
@[simp] theorem updChan_seq (s : State) (n : Nat) (f : Chan → Chan) : (s.updChan n f).seq = s.seq := rfl
@[simp] theorem updChan_eng (s : State) (n : Nat) (f : Chan → Chan) : (s.updChan n f).eng = s.eng := rfl
@[simp] theorem updChan_ucs (s : State) (n : Nat) (f : Chan → Chan) : (s.updChan n f).ucs = s.ucs := rfl
@[simp] theorem updChan_ts (s : State) (n : Nat) (f : Chan → Chan) : (s.updChan n f).ts = s.ts := rfl
@[simp] theorem updChan_mc (s : State) (n : Nat) (f : Chan → Chan) : (s.updChan n f).mc = s.mc := rfl
@[simp] theorem updChan_capt (s : State) (n : Nat) (f : Chan → Chan) : (s.updChan n f).capt = s.capt := rfl
@[simp] theorem updChan_site (s : State) (n : Nat) (f : Chan → Chan) : (s.updChan n f).site = s.site := rfl
@[simp] theorem updChan_ult (s : State) (n : Nat) (f : Chan → Chan) : (s.updChan n f).ult = s.ult := rfl
@[simp] theorem updChan_tdc (s : State) (n : Nat) (f : Chan → Chan) : (s.updChan n f).tdc = s.tdc := rfl
@[simp] theorem updChan_xl (s : State) (n : Nat) (f : Chan → Chan) : (s.updChan n f).xl = s.xl := rfl
@[simp] theorem updChan_gov (s : State) (n : Nat) (f : Chan → Chan) : (s.updChan n f).gov = s.gov := rfl
@[simp] theorem updChan_tb (s : State) (n : Nat) (f : Chan → Chan) : (s.updChan n f).tb = s.tb := rfl
@[simp] theorem updChan_hart (s : State) (n : Nat) (f : Chan → Chan) : (s.updChan n f).hart = s.hart := rfl
@[simp] theorem updChan_sched (s : State) (n : Nat) (f : Chan → Chan) : (s.updChan n f).sched = s.sched := rfl
@[simp] theorem updChan_intc (s : State) (n : Nat) (f : Chan → Chan) : (s.updChan n f).intc = s.intc := rfl
@[simp] theorem updChan_host (s : State) (n : Nat) (f : Chan → Chan) : (s.updChan n f).host = s.host := rfl
@[simp] theorem updChan_cal (s : State) (n : Nat) (f : Chan → Chan) : (s.updChan n f).cal = s.cal := rfl
@[simp] theorem updChan_time (s : State) (n : Nat) (f : Chan → Chan) : (s.updChan n f).time = s.time := rfl
@[simp] theorem updChan_boot (s : State) (n : Nat) (f : Chan → Chan) : (s.updChan n f).boot = s.boot := rfl
@[simp] theorem updChan_mgmt (s : State) (n : Nat) (f : Chan → Chan) : (s.updChan n f).mgmt = s.mgmt := rfl
@[simp] theorem updCapt_regs (s : State) (n : Nat) (f : CaptSite → CaptSite) : (s.updCapt n f).regs = s.regs := rfl
@[simp] theorem updCapt_mem (s : State) (n : Nat) (f : CaptSite → CaptSite) : (s.updCapt n f).mem = s.mem := rfl
@[simp] theorem updCapt_now (s : State) (n : Nat) (f : CaptSite → CaptSite) : (s.updCapt n f).now = s.now := rfl
@[simp] theorem updCapt_pending (s : State) (n : Nat) (f : CaptSite → CaptSite) : (s.updCapt n f).pending = s.pending := rfl
@[simp] theorem updCapt_free (s : State) (n : Nat) (f : CaptSite → CaptSite) : (s.updCapt n f).free = s.free := rfl
@[simp] theorem updCapt_req (s : State) (n : Nat) (f : CaptSite → CaptSite) : (s.updCapt n f).req = s.req := rfl
@[simp] theorem updCapt_pins (s : State) (n : Nat) (f : CaptSite → CaptSite) : (s.updCapt n f).pins = s.pins := rfl
@[simp] theorem updCapt_drw (s : State) (n : Nat) (f : CaptSite → CaptSite) : (s.updCapt n f).drw = s.drw := rfl
@[simp] theorem updCapt_art (s : State) (n : Nat) (f : CaptSite → CaptSite) : (s.updCapt n f).art = s.art := rfl
@[simp] theorem updCapt_strm (s : State) (n : Nat) (f : CaptSite → CaptSite) : (s.updCapt n f).strm = s.strm := rfl
@[simp] theorem updCapt_memc (s : State) (n : Nat) (f : CaptSite → CaptSite) : (s.updCapt n f).memc = s.memc := rfl
@[simp] theorem updCapt_seq (s : State) (n : Nat) (f : CaptSite → CaptSite) : (s.updCapt n f).seq = s.seq := rfl
@[simp] theorem updCapt_eng (s : State) (n : Nat) (f : CaptSite → CaptSite) : (s.updCapt n f).eng = s.eng := rfl
@[simp] theorem updCapt_ucs (s : State) (n : Nat) (f : CaptSite → CaptSite) : (s.updCapt n f).ucs = s.ucs := rfl
@[simp] theorem updCapt_ts (s : State) (n : Nat) (f : CaptSite → CaptSite) : (s.updCapt n f).ts = s.ts := rfl
@[simp] theorem updCapt_chan (s : State) (n : Nat) (f : CaptSite → CaptSite) : (s.updCapt n f).chan = s.chan := rfl
@[simp] theorem updCapt_mc (s : State) (n : Nat) (f : CaptSite → CaptSite) : (s.updCapt n f).mc = s.mc := rfl
@[simp] theorem updCapt_site (s : State) (n : Nat) (f : CaptSite → CaptSite) : (s.updCapt n f).site = s.site := rfl
@[simp] theorem updCapt_ult (s : State) (n : Nat) (f : CaptSite → CaptSite) : (s.updCapt n f).ult = s.ult := rfl
@[simp] theorem updCapt_tdc (s : State) (n : Nat) (f : CaptSite → CaptSite) : (s.updCapt n f).tdc = s.tdc := rfl
@[simp] theorem updCapt_xl (s : State) (n : Nat) (f : CaptSite → CaptSite) : (s.updCapt n f).xl = s.xl := rfl
@[simp] theorem updCapt_gov (s : State) (n : Nat) (f : CaptSite → CaptSite) : (s.updCapt n f).gov = s.gov := rfl
@[simp] theorem updCapt_tb (s : State) (n : Nat) (f : CaptSite → CaptSite) : (s.updCapt n f).tb = s.tb := rfl
@[simp] theorem updCapt_hart (s : State) (n : Nat) (f : CaptSite → CaptSite) : (s.updCapt n f).hart = s.hart := rfl
@[simp] theorem updCapt_sched (s : State) (n : Nat) (f : CaptSite → CaptSite) : (s.updCapt n f).sched = s.sched := rfl
@[simp] theorem updCapt_intc (s : State) (n : Nat) (f : CaptSite → CaptSite) : (s.updCapt n f).intc = s.intc := rfl
@[simp] theorem updCapt_host (s : State) (n : Nat) (f : CaptSite → CaptSite) : (s.updCapt n f).host = s.host := rfl
@[simp] theorem updCapt_cal (s : State) (n : Nat) (f : CaptSite → CaptSite) : (s.updCapt n f).cal = s.cal := rfl
@[simp] theorem updCapt_time (s : State) (n : Nat) (f : CaptSite → CaptSite) : (s.updCapt n f).time = s.time := rfl
@[simp] theorem updCapt_boot (s : State) (n : Nat) (f : CaptSite → CaptSite) : (s.updCapt n f).boot = s.boot := rfl
@[simp] theorem updCapt_mgmt (s : State) (n : Nat) (f : CaptSite → CaptSite) : (s.updCapt n f).mgmt = s.mgmt := rfl
@[simp] theorem updSite_regs (s : State) (n : Nat) (f : SiteSt → SiteSt) : (s.updSite n f).regs = s.regs := rfl
@[simp] theorem updSite_mem (s : State) (n : Nat) (f : SiteSt → SiteSt) : (s.updSite n f).mem = s.mem := rfl
@[simp] theorem updSite_now (s : State) (n : Nat) (f : SiteSt → SiteSt) : (s.updSite n f).now = s.now := rfl
@[simp] theorem updSite_pending (s : State) (n : Nat) (f : SiteSt → SiteSt) : (s.updSite n f).pending = s.pending := rfl
@[simp] theorem updSite_free (s : State) (n : Nat) (f : SiteSt → SiteSt) : (s.updSite n f).free = s.free := rfl
@[simp] theorem updSite_req (s : State) (n : Nat) (f : SiteSt → SiteSt) : (s.updSite n f).req = s.req := rfl
@[simp] theorem updSite_pins (s : State) (n : Nat) (f : SiteSt → SiteSt) : (s.updSite n f).pins = s.pins := rfl
@[simp] theorem updSite_drw (s : State) (n : Nat) (f : SiteSt → SiteSt) : (s.updSite n f).drw = s.drw := rfl
@[simp] theorem updSite_art (s : State) (n : Nat) (f : SiteSt → SiteSt) : (s.updSite n f).art = s.art := rfl
@[simp] theorem updSite_strm (s : State) (n : Nat) (f : SiteSt → SiteSt) : (s.updSite n f).strm = s.strm := rfl
@[simp] theorem updSite_memc (s : State) (n : Nat) (f : SiteSt → SiteSt) : (s.updSite n f).memc = s.memc := rfl
@[simp] theorem updSite_seq (s : State) (n : Nat) (f : SiteSt → SiteSt) : (s.updSite n f).seq = s.seq := rfl
@[simp] theorem updSite_eng (s : State) (n : Nat) (f : SiteSt → SiteSt) : (s.updSite n f).eng = s.eng := rfl
@[simp] theorem updSite_ucs (s : State) (n : Nat) (f : SiteSt → SiteSt) : (s.updSite n f).ucs = s.ucs := rfl
@[simp] theorem updSite_ts (s : State) (n : Nat) (f : SiteSt → SiteSt) : (s.updSite n f).ts = s.ts := rfl
@[simp] theorem updSite_chan (s : State) (n : Nat) (f : SiteSt → SiteSt) : (s.updSite n f).chan = s.chan := rfl
@[simp] theorem updSite_mc (s : State) (n : Nat) (f : SiteSt → SiteSt) : (s.updSite n f).mc = s.mc := rfl
@[simp] theorem updSite_capt (s : State) (n : Nat) (f : SiteSt → SiteSt) : (s.updSite n f).capt = s.capt := rfl
@[simp] theorem updSite_ult (s : State) (n : Nat) (f : SiteSt → SiteSt) : (s.updSite n f).ult = s.ult := rfl
@[simp] theorem updSite_tdc (s : State) (n : Nat) (f : SiteSt → SiteSt) : (s.updSite n f).tdc = s.tdc := rfl
@[simp] theorem updSite_xl (s : State) (n : Nat) (f : SiteSt → SiteSt) : (s.updSite n f).xl = s.xl := rfl
@[simp] theorem updSite_gov (s : State) (n : Nat) (f : SiteSt → SiteSt) : (s.updSite n f).gov = s.gov := rfl
@[simp] theorem updSite_tb (s : State) (n : Nat) (f : SiteSt → SiteSt) : (s.updSite n f).tb = s.tb := rfl
@[simp] theorem updSite_hart (s : State) (n : Nat) (f : SiteSt → SiteSt) : (s.updSite n f).hart = s.hart := rfl
@[simp] theorem updSite_sched (s : State) (n : Nat) (f : SiteSt → SiteSt) : (s.updSite n f).sched = s.sched := rfl
@[simp] theorem updSite_intc (s : State) (n : Nat) (f : SiteSt → SiteSt) : (s.updSite n f).intc = s.intc := rfl
@[simp] theorem updSite_host (s : State) (n : Nat) (f : SiteSt → SiteSt) : (s.updSite n f).host = s.host := rfl
@[simp] theorem updSite_cal (s : State) (n : Nat) (f : SiteSt → SiteSt) : (s.updSite n f).cal = s.cal := rfl
@[simp] theorem updSite_time (s : State) (n : Nat) (f : SiteSt → SiteSt) : (s.updSite n f).time = s.time := rfl
@[simp] theorem updSite_boot (s : State) (n : Nat) (f : SiteSt → SiteSt) : (s.updSite n f).boot = s.boot := rfl
@[simp] theorem updSite_mgmt (s : State) (n : Nat) (f : SiteSt → SiteSt) : (s.updSite n f).mgmt = s.mgmt := rfl
@[simp] theorem updBank_regs (s : State) (p b : Nat) (f : Bank → Bank) : (s.updBank p b f).regs = s.regs := rfl
@[simp] theorem updBank_mem (s : State) (p b : Nat) (f : Bank → Bank) : (s.updBank p b f).mem = s.mem := rfl
@[simp] theorem updBank_now (s : State) (p b : Nat) (f : Bank → Bank) : (s.updBank p b f).now = s.now := rfl
@[simp] theorem updBank_pending (s : State) (p b : Nat) (f : Bank → Bank) : (s.updBank p b f).pending = s.pending := rfl
@[simp] theorem updBank_free (s : State) (p b : Nat) (f : Bank → Bank) : (s.updBank p b f).free = s.free := rfl
@[simp] theorem updBank_req (s : State) (p b : Nat) (f : Bank → Bank) : (s.updBank p b f).req = s.req := rfl
@[simp] theorem updBank_pins (s : State) (p b : Nat) (f : Bank → Bank) : (s.updBank p b f).pins = s.pins := rfl
@[simp] theorem updBank_drw (s : State) (p b : Nat) (f : Bank → Bank) : (s.updBank p b f).drw = s.drw := rfl
@[simp] theorem updBank_art (s : State) (p b : Nat) (f : Bank → Bank) : (s.updBank p b f).art = s.art := rfl
@[simp] theorem updBank_strm (s : State) (p b : Nat) (f : Bank → Bank) : (s.updBank p b f).strm = s.strm := rfl
@[simp] theorem updBank_seq (s : State) (p b : Nat) (f : Bank → Bank) : (s.updBank p b f).seq = s.seq := rfl
@[simp] theorem updBank_eng (s : State) (p b : Nat) (f : Bank → Bank) : (s.updBank p b f).eng = s.eng := rfl
@[simp] theorem updBank_ucs (s : State) (p b : Nat) (f : Bank → Bank) : (s.updBank p b f).ucs = s.ucs := rfl
@[simp] theorem updBank_ts (s : State) (p b : Nat) (f : Bank → Bank) : (s.updBank p b f).ts = s.ts := rfl
@[simp] theorem updBank_chan (s : State) (p b : Nat) (f : Bank → Bank) : (s.updBank p b f).chan = s.chan := rfl
@[simp] theorem updBank_mc (s : State) (p b : Nat) (f : Bank → Bank) : (s.updBank p b f).mc = s.mc := rfl
@[simp] theorem updBank_capt (s : State) (p b : Nat) (f : Bank → Bank) : (s.updBank p b f).capt = s.capt := rfl
@[simp] theorem updBank_site (s : State) (p b : Nat) (f : Bank → Bank) : (s.updBank p b f).site = s.site := rfl
@[simp] theorem updBank_ult (s : State) (p b : Nat) (f : Bank → Bank) : (s.updBank p b f).ult = s.ult := rfl
@[simp] theorem updBank_tdc (s : State) (p b : Nat) (f : Bank → Bank) : (s.updBank p b f).tdc = s.tdc := rfl
@[simp] theorem updBank_xl (s : State) (p b : Nat) (f : Bank → Bank) : (s.updBank p b f).xl = s.xl := rfl
@[simp] theorem updBank_gov (s : State) (p b : Nat) (f : Bank → Bank) : (s.updBank p b f).gov = s.gov := rfl
@[simp] theorem updBank_tb (s : State) (p b : Nat) (f : Bank → Bank) : (s.updBank p b f).tb = s.tb := rfl
@[simp] theorem updBank_hart (s : State) (p b : Nat) (f : Bank → Bank) : (s.updBank p b f).hart = s.hart := rfl
@[simp] theorem updBank_sched (s : State) (p b : Nat) (f : Bank → Bank) : (s.updBank p b f).sched = s.sched := rfl
@[simp] theorem updBank_intc (s : State) (p b : Nat) (f : Bank → Bank) : (s.updBank p b f).intc = s.intc := rfl
@[simp] theorem updBank_host (s : State) (p b : Nat) (f : Bank → Bank) : (s.updBank p b f).host = s.host := rfl
@[simp] theorem updBank_cal (s : State) (p b : Nat) (f : Bank → Bank) : (s.updBank p b f).cal = s.cal := rfl
@[simp] theorem updBank_time (s : State) (p b : Nat) (f : Bank → Bank) : (s.updBank p b f).time = s.time := rfl
@[simp] theorem updBank_boot (s : State) (p b : Nat) (f : Bank → Bank) : (s.updBank p b f).boot = s.boot := rfl
@[simp] theorem updBank_mgmt (s : State) (p b : Nat) (f : Bank → Bank) : (s.updBank p b f).mgmt = s.mgmt := rfl
@[simp] theorem updPc_regs (s : State) (p : Nat) (f : PcState → PcState) : (s.updPc p f).regs = s.regs := rfl
@[simp] theorem updPc_mem (s : State) (p : Nat) (f : PcState → PcState) : (s.updPc p f).mem = s.mem := rfl
@[simp] theorem updPc_now (s : State) (p : Nat) (f : PcState → PcState) : (s.updPc p f).now = s.now := rfl
@[simp] theorem updPc_pending (s : State) (p : Nat) (f : PcState → PcState) : (s.updPc p f).pending = s.pending := rfl
@[simp] theorem updPc_free (s : State) (p : Nat) (f : PcState → PcState) : (s.updPc p f).free = s.free := rfl
@[simp] theorem updPc_req (s : State) (p : Nat) (f : PcState → PcState) : (s.updPc p f).req = s.req := rfl
@[simp] theorem updPc_pins (s : State) (p : Nat) (f : PcState → PcState) : (s.updPc p f).pins = s.pins := rfl
@[simp] theorem updPc_drw (s : State) (p : Nat) (f : PcState → PcState) : (s.updPc p f).drw = s.drw := rfl
@[simp] theorem updPc_art (s : State) (p : Nat) (f : PcState → PcState) : (s.updPc p f).art = s.art := rfl
@[simp] theorem updPc_strm (s : State) (p : Nat) (f : PcState → PcState) : (s.updPc p f).strm = s.strm := rfl
@[simp] theorem updPc_seq (s : State) (p : Nat) (f : PcState → PcState) : (s.updPc p f).seq = s.seq := rfl
@[simp] theorem updPc_eng (s : State) (p : Nat) (f : PcState → PcState) : (s.updPc p f).eng = s.eng := rfl
@[simp] theorem updPc_ucs (s : State) (p : Nat) (f : PcState → PcState) : (s.updPc p f).ucs = s.ucs := rfl
@[simp] theorem updPc_ts (s : State) (p : Nat) (f : PcState → PcState) : (s.updPc p f).ts = s.ts := rfl
@[simp] theorem updPc_chan (s : State) (p : Nat) (f : PcState → PcState) : (s.updPc p f).chan = s.chan := rfl
@[simp] theorem updPc_mc (s : State) (p : Nat) (f : PcState → PcState) : (s.updPc p f).mc = s.mc := rfl
@[simp] theorem updPc_capt (s : State) (p : Nat) (f : PcState → PcState) : (s.updPc p f).capt = s.capt := rfl
@[simp] theorem updPc_site (s : State) (p : Nat) (f : PcState → PcState) : (s.updPc p f).site = s.site := rfl
@[simp] theorem updPc_ult (s : State) (p : Nat) (f : PcState → PcState) : (s.updPc p f).ult = s.ult := rfl
@[simp] theorem updPc_tdc (s : State) (p : Nat) (f : PcState → PcState) : (s.updPc p f).tdc = s.tdc := rfl
@[simp] theorem updPc_xl (s : State) (p : Nat) (f : PcState → PcState) : (s.updPc p f).xl = s.xl := rfl
@[simp] theorem updPc_gov (s : State) (p : Nat) (f : PcState → PcState) : (s.updPc p f).gov = s.gov := rfl
@[simp] theorem updPc_tb (s : State) (p : Nat) (f : PcState → PcState) : (s.updPc p f).tb = s.tb := rfl
@[simp] theorem updPc_hart (s : State) (p : Nat) (f : PcState → PcState) : (s.updPc p f).hart = s.hart := rfl
@[simp] theorem updPc_sched (s : State) (p : Nat) (f : PcState → PcState) : (s.updPc p f).sched = s.sched := rfl
@[simp] theorem updPc_intc (s : State) (p : Nat) (f : PcState → PcState) : (s.updPc p f).intc = s.intc := rfl
@[simp] theorem updPc_host (s : State) (p : Nat) (f : PcState → PcState) : (s.updPc p f).host = s.host := rfl
@[simp] theorem updPc_cal (s : State) (p : Nat) (f : PcState → PcState) : (s.updPc p f).cal = s.cal := rfl
@[simp] theorem updPc_time (s : State) (p : Nat) (f : PcState → PcState) : (s.updPc p f).time = s.time := rfl
@[simp] theorem updPc_boot (s : State) (p : Nat) (f : PcState → PcState) : (s.updPc p f).boot = s.boot := rfl
@[simp] theorem updPc_mgmt (s : State) (p : Nat) (f : PcState → PcState) : (s.updPc p f).mgmt = s.mgmt := rfl
@[simp] theorem updSlot_regs (s : State) (k i : Nat) (f : EcSlot → EcSlot) : (s.updSlot k i f).regs = s.regs := rfl
@[simp] theorem updSlot_mem (s : State) (k i : Nat) (f : EcSlot → EcSlot) : (s.updSlot k i f).mem = s.mem := rfl
@[simp] theorem updSlot_now (s : State) (k i : Nat) (f : EcSlot → EcSlot) : (s.updSlot k i f).now = s.now := rfl
@[simp] theorem updSlot_pending (s : State) (k i : Nat) (f : EcSlot → EcSlot) : (s.updSlot k i f).pending = s.pending := rfl
@[simp] theorem updSlot_free (s : State) (k i : Nat) (f : EcSlot → EcSlot) : (s.updSlot k i f).free = s.free := rfl
@[simp] theorem updSlot_req (s : State) (k i : Nat) (f : EcSlot → EcSlot) : (s.updSlot k i f).req = s.req := rfl
@[simp] theorem updSlot_pins (s : State) (k i : Nat) (f : EcSlot → EcSlot) : (s.updSlot k i f).pins = s.pins := rfl
@[simp] theorem updSlot_drw (s : State) (k i : Nat) (f : EcSlot → EcSlot) : (s.updSlot k i f).drw = s.drw := rfl
@[simp] theorem updSlot_art (s : State) (k i : Nat) (f : EcSlot → EcSlot) : (s.updSlot k i f).art = s.art := rfl
@[simp] theorem updSlot_strm (s : State) (k i : Nat) (f : EcSlot → EcSlot) : (s.updSlot k i f).strm = s.strm := rfl
@[simp] theorem updSlot_memc (s : State) (k i : Nat) (f : EcSlot → EcSlot) : (s.updSlot k i f).memc = s.memc := rfl
@[simp] theorem updSlot_seq (s : State) (k i : Nat) (f : EcSlot → EcSlot) : (s.updSlot k i f).seq = s.seq := rfl
@[simp] theorem updSlot_eng (s : State) (k i : Nat) (f : EcSlot → EcSlot) : (s.updSlot k i f).eng = s.eng := rfl
@[simp] theorem updSlot_ucs (s : State) (k i : Nat) (f : EcSlot → EcSlot) : (s.updSlot k i f).ucs = s.ucs := rfl
@[simp] theorem updSlot_chan (s : State) (k i : Nat) (f : EcSlot → EcSlot) : (s.updSlot k i f).chan = s.chan := rfl
@[simp] theorem updSlot_mc (s : State) (k i : Nat) (f : EcSlot → EcSlot) : (s.updSlot k i f).mc = s.mc := rfl
@[simp] theorem updSlot_capt (s : State) (k i : Nat) (f : EcSlot → EcSlot) : (s.updSlot k i f).capt = s.capt := rfl
@[simp] theorem updSlot_site (s : State) (k i : Nat) (f : EcSlot → EcSlot) : (s.updSlot k i f).site = s.site := rfl
@[simp] theorem updSlot_ult (s : State) (k i : Nat) (f : EcSlot → EcSlot) : (s.updSlot k i f).ult = s.ult := rfl
@[simp] theorem updSlot_tdc (s : State) (k i : Nat) (f : EcSlot → EcSlot) : (s.updSlot k i f).tdc = s.tdc := rfl
@[simp] theorem updSlot_xl (s : State) (k i : Nat) (f : EcSlot → EcSlot) : (s.updSlot k i f).xl = s.xl := rfl
@[simp] theorem updSlot_gov (s : State) (k i : Nat) (f : EcSlot → EcSlot) : (s.updSlot k i f).gov = s.gov := rfl
@[simp] theorem updSlot_tb (s : State) (k i : Nat) (f : EcSlot → EcSlot) : (s.updSlot k i f).tb = s.tb := rfl
@[simp] theorem updSlot_hart (s : State) (k i : Nat) (f : EcSlot → EcSlot) : (s.updSlot k i f).hart = s.hart := rfl
@[simp] theorem updSlot_sched (s : State) (k i : Nat) (f : EcSlot → EcSlot) : (s.updSlot k i f).sched = s.sched := rfl
@[simp] theorem updSlot_intc (s : State) (k i : Nat) (f : EcSlot → EcSlot) : (s.updSlot k i f).intc = s.intc := rfl
@[simp] theorem updSlot_host (s : State) (k i : Nat) (f : EcSlot → EcSlot) : (s.updSlot k i f).host = s.host := rfl
@[simp] theorem updSlot_cal (s : State) (k i : Nat) (f : EcSlot → EcSlot) : (s.updSlot k i f).cal = s.cal := rfl
@[simp] theorem updSlot_time (s : State) (k i : Nat) (f : EcSlot → EcSlot) : (s.updSlot k i f).time = s.time := rfl
@[simp] theorem updSlot_boot (s : State) (k i : Nat) (f : EcSlot → EcSlot) : (s.updSlot k i f).boot = s.boot := rfl
@[simp] theorem updSlot_mgmt (s : State) (k i : Nat) (f : EcSlot → EcSlot) : (s.updSlot k i f).mgmt = s.mgmt := rfl
@[simp] theorem updTdc_regs (s : State) (k u : Nat) (f : Tdc → Tdc) : (s.updTdc k u f).regs = s.regs := rfl
@[simp] theorem updTdc_mem (s : State) (k u : Nat) (f : Tdc → Tdc) : (s.updTdc k u f).mem = s.mem := rfl
@[simp] theorem updTdc_now (s : State) (k u : Nat) (f : Tdc → Tdc) : (s.updTdc k u f).now = s.now := rfl
@[simp] theorem updTdc_pending (s : State) (k u : Nat) (f : Tdc → Tdc) : (s.updTdc k u f).pending = s.pending := rfl
@[simp] theorem updTdc_free (s : State) (k u : Nat) (f : Tdc → Tdc) : (s.updTdc k u f).free = s.free := rfl
@[simp] theorem updTdc_req (s : State) (k u : Nat) (f : Tdc → Tdc) : (s.updTdc k u f).req = s.req := rfl
@[simp] theorem updTdc_pins (s : State) (k u : Nat) (f : Tdc → Tdc) : (s.updTdc k u f).pins = s.pins := rfl
@[simp] theorem updTdc_drw (s : State) (k u : Nat) (f : Tdc → Tdc) : (s.updTdc k u f).drw = s.drw := rfl
@[simp] theorem updTdc_art (s : State) (k u : Nat) (f : Tdc → Tdc) : (s.updTdc k u f).art = s.art := rfl
@[simp] theorem updTdc_strm (s : State) (k u : Nat) (f : Tdc → Tdc) : (s.updTdc k u f).strm = s.strm := rfl
@[simp] theorem updTdc_memc (s : State) (k u : Nat) (f : Tdc → Tdc) : (s.updTdc k u f).memc = s.memc := rfl
@[simp] theorem updTdc_seq (s : State) (k u : Nat) (f : Tdc → Tdc) : (s.updTdc k u f).seq = s.seq := rfl
@[simp] theorem updTdc_eng (s : State) (k u : Nat) (f : Tdc → Tdc) : (s.updTdc k u f).eng = s.eng := rfl
@[simp] theorem updTdc_ucs (s : State) (k u : Nat) (f : Tdc → Tdc) : (s.updTdc k u f).ucs = s.ucs := rfl
@[simp] theorem updTdc_ts (s : State) (k u : Nat) (f : Tdc → Tdc) : (s.updTdc k u f).ts = s.ts := rfl
@[simp] theorem updTdc_chan (s : State) (k u : Nat) (f : Tdc → Tdc) : (s.updTdc k u f).chan = s.chan := rfl
@[simp] theorem updTdc_mc (s : State) (k u : Nat) (f : Tdc → Tdc) : (s.updTdc k u f).mc = s.mc := rfl
@[simp] theorem updTdc_capt (s : State) (k u : Nat) (f : Tdc → Tdc) : (s.updTdc k u f).capt = s.capt := rfl
@[simp] theorem updTdc_site (s : State) (k u : Nat) (f : Tdc → Tdc) : (s.updTdc k u f).site = s.site := rfl
@[simp] theorem updTdc_ult (s : State) (k u : Nat) (f : Tdc → Tdc) : (s.updTdc k u f).ult = s.ult := rfl
@[simp] theorem updTdc_xl (s : State) (k u : Nat) (f : Tdc → Tdc) : (s.updTdc k u f).xl = s.xl := rfl
@[simp] theorem updTdc_gov (s : State) (k u : Nat) (f : Tdc → Tdc) : (s.updTdc k u f).gov = s.gov := rfl
@[simp] theorem updTdc_tb (s : State) (k u : Nat) (f : Tdc → Tdc) : (s.updTdc k u f).tb = s.tb := rfl
@[simp] theorem updTdc_hart (s : State) (k u : Nat) (f : Tdc → Tdc) : (s.updTdc k u f).hart = s.hart := rfl
@[simp] theorem updTdc_sched (s : State) (k u : Nat) (f : Tdc → Tdc) : (s.updTdc k u f).sched = s.sched := rfl
@[simp] theorem updTdc_intc (s : State) (k u : Nat) (f : Tdc → Tdc) : (s.updTdc k u f).intc = s.intc := rfl
@[simp] theorem updTdc_host (s : State) (k u : Nat) (f : Tdc → Tdc) : (s.updTdc k u f).host = s.host := rfl
@[simp] theorem updTdc_cal (s : State) (k u : Nat) (f : Tdc → Tdc) : (s.updTdc k u f).cal = s.cal := rfl
@[simp] theorem updTdc_time (s : State) (k u : Nat) (f : Tdc → Tdc) : (s.updTdc k u f).time = s.time := rfl
@[simp] theorem updTdc_boot (s : State) (k u : Nat) (f : Tdc → Tdc) : (s.updTdc k u f).boot = s.boot := rfl
@[simp] theorem updTdc_mgmt (s : State) (k u : Nat) (f : Tdc → Tdc) : (s.updTdc k u f).mgmt = s.mgmt := rfl
@[simp] theorem updLane_regs (s : State) (n : Nat) (f : XLane → XLane) : (s.updLane n f).regs = s.regs := rfl
@[simp] theorem updLane_mem (s : State) (n : Nat) (f : XLane → XLane) : (s.updLane n f).mem = s.mem := rfl
@[simp] theorem updLane_now (s : State) (n : Nat) (f : XLane → XLane) : (s.updLane n f).now = s.now := rfl
@[simp] theorem updLane_pending (s : State) (n : Nat) (f : XLane → XLane) : (s.updLane n f).pending = s.pending := rfl
@[simp] theorem updLane_free (s : State) (n : Nat) (f : XLane → XLane) : (s.updLane n f).free = s.free := rfl
@[simp] theorem updLane_req (s : State) (n : Nat) (f : XLane → XLane) : (s.updLane n f).req = s.req := rfl
@[simp] theorem updLane_pins (s : State) (n : Nat) (f : XLane → XLane) : (s.updLane n f).pins = s.pins := rfl
@[simp] theorem updLane_drw (s : State) (n : Nat) (f : XLane → XLane) : (s.updLane n f).drw = s.drw := rfl
@[simp] theorem updLane_art (s : State) (n : Nat) (f : XLane → XLane) : (s.updLane n f).art = s.art := rfl
@[simp] theorem updLane_strm (s : State) (n : Nat) (f : XLane → XLane) : (s.updLane n f).strm = s.strm := rfl
@[simp] theorem updLane_memc (s : State) (n : Nat) (f : XLane → XLane) : (s.updLane n f).memc = s.memc := rfl
@[simp] theorem updLane_seq (s : State) (n : Nat) (f : XLane → XLane) : (s.updLane n f).seq = s.seq := rfl
@[simp] theorem updLane_eng (s : State) (n : Nat) (f : XLane → XLane) : (s.updLane n f).eng = s.eng := rfl
@[simp] theorem updLane_ucs (s : State) (n : Nat) (f : XLane → XLane) : (s.updLane n f).ucs = s.ucs := rfl
@[simp] theorem updLane_ts (s : State) (n : Nat) (f : XLane → XLane) : (s.updLane n f).ts = s.ts := rfl
@[simp] theorem updLane_chan (s : State) (n : Nat) (f : XLane → XLane) : (s.updLane n f).chan = s.chan := rfl
@[simp] theorem updLane_mc (s : State) (n : Nat) (f : XLane → XLane) : (s.updLane n f).mc = s.mc := rfl
@[simp] theorem updLane_capt (s : State) (n : Nat) (f : XLane → XLane) : (s.updLane n f).capt = s.capt := rfl
@[simp] theorem updLane_site (s : State) (n : Nat) (f : XLane → XLane) : (s.updLane n f).site = s.site := rfl
@[simp] theorem updLane_ult (s : State) (n : Nat) (f : XLane → XLane) : (s.updLane n f).ult = s.ult := rfl
@[simp] theorem updLane_tdc (s : State) (n : Nat) (f : XLane → XLane) : (s.updLane n f).tdc = s.tdc := rfl
@[simp] theorem updLane_gov (s : State) (n : Nat) (f : XLane → XLane) : (s.updLane n f).gov = s.gov := rfl
@[simp] theorem updLane_tb (s : State) (n : Nat) (f : XLane → XLane) : (s.updLane n f).tb = s.tb := rfl
@[simp] theorem updLane_hart (s : State) (n : Nat) (f : XLane → XLane) : (s.updLane n f).hart = s.hart := rfl
@[simp] theorem updLane_sched (s : State) (n : Nat) (f : XLane → XLane) : (s.updLane n f).sched = s.sched := rfl
@[simp] theorem updLane_intc (s : State) (n : Nat) (f : XLane → XLane) : (s.updLane n f).intc = s.intc := rfl
@[simp] theorem updLane_host (s : State) (n : Nat) (f : XLane → XLane) : (s.updLane n f).host = s.host := rfl
@[simp] theorem updLane_cal (s : State) (n : Nat) (f : XLane → XLane) : (s.updLane n f).cal = s.cal := rfl
@[simp] theorem updLane_time (s : State) (n : Nat) (f : XLane → XLane) : (s.updLane n f).time = s.time := rfl
@[simp] theorem updLane_boot (s : State) (n : Nat) (f : XLane → XLane) : (s.updLane n f).boot = s.boot := rfl
@[simp] theorem updLane_mgmt (s : State) (n : Nat) (f : XLane → XLane) : (s.updLane n f).mgmt = s.mgmt := rfl
@[simp] theorem updPort_regs (s : State) (k : Nat) (f : UPort → UPort) : (s.updPort k f).regs = s.regs := rfl
@[simp] theorem updPort_mem (s : State) (k : Nat) (f : UPort → UPort) : (s.updPort k f).mem = s.mem := rfl
@[simp] theorem updPort_now (s : State) (k : Nat) (f : UPort → UPort) : (s.updPort k f).now = s.now := rfl
@[simp] theorem updPort_pending (s : State) (k : Nat) (f : UPort → UPort) : (s.updPort k f).pending = s.pending := rfl
@[simp] theorem updPort_free (s : State) (k : Nat) (f : UPort → UPort) : (s.updPort k f).free = s.free := rfl
@[simp] theorem updPort_req (s : State) (k : Nat) (f : UPort → UPort) : (s.updPort k f).req = s.req := rfl
@[simp] theorem updPort_pins (s : State) (k : Nat) (f : UPort → UPort) : (s.updPort k f).pins = s.pins := rfl
@[simp] theorem updPort_drw (s : State) (k : Nat) (f : UPort → UPort) : (s.updPort k f).drw = s.drw := rfl
@[simp] theorem updPort_art (s : State) (k : Nat) (f : UPort → UPort) : (s.updPort k f).art = s.art := rfl
@[simp] theorem updPort_strm (s : State) (k : Nat) (f : UPort → UPort) : (s.updPort k f).strm = s.strm := rfl
@[simp] theorem updPort_memc (s : State) (k : Nat) (f : UPort → UPort) : (s.updPort k f).memc = s.memc := rfl
@[simp] theorem updPort_seq (s : State) (k : Nat) (f : UPort → UPort) : (s.updPort k f).seq = s.seq := rfl
@[simp] theorem updPort_eng (s : State) (k : Nat) (f : UPort → UPort) : (s.updPort k f).eng = s.eng := rfl
@[simp] theorem updPort_ucs (s : State) (k : Nat) (f : UPort → UPort) : (s.updPort k f).ucs = s.ucs := rfl
@[simp] theorem updPort_ts (s : State) (k : Nat) (f : UPort → UPort) : (s.updPort k f).ts = s.ts := rfl
@[simp] theorem updPort_chan (s : State) (k : Nat) (f : UPort → UPort) : (s.updPort k f).chan = s.chan := rfl
@[simp] theorem updPort_mc (s : State) (k : Nat) (f : UPort → UPort) : (s.updPort k f).mc = s.mc := rfl
@[simp] theorem updPort_capt (s : State) (k : Nat) (f : UPort → UPort) : (s.updPort k f).capt = s.capt := rfl
@[simp] theorem updPort_site (s : State) (k : Nat) (f : UPort → UPort) : (s.updPort k f).site = s.site := rfl
@[simp] theorem updPort_tdc (s : State) (k : Nat) (f : UPort → UPort) : (s.updPort k f).tdc = s.tdc := rfl
@[simp] theorem updPort_xl (s : State) (k : Nat) (f : UPort → UPort) : (s.updPort k f).xl = s.xl := rfl
@[simp] theorem updPort_gov (s : State) (k : Nat) (f : UPort → UPort) : (s.updPort k f).gov = s.gov := rfl
@[simp] theorem updPort_tb (s : State) (k : Nat) (f : UPort → UPort) : (s.updPort k f).tb = s.tb := rfl
@[simp] theorem updPort_hart (s : State) (k : Nat) (f : UPort → UPort) : (s.updPort k f).hart = s.hart := rfl
@[simp] theorem updPort_sched (s : State) (k : Nat) (f : UPort → UPort) : (s.updPort k f).sched = s.sched := rfl
@[simp] theorem updPort_intc (s : State) (k : Nat) (f : UPort → UPort) : (s.updPort k f).intc = s.intc := rfl
@[simp] theorem updPort_host (s : State) (k : Nat) (f : UPort → UPort) : (s.updPort k f).host = s.host := rfl
@[simp] theorem updPort_cal (s : State) (k : Nat) (f : UPort → UPort) : (s.updPort k f).cal = s.cal := rfl
@[simp] theorem updPort_time (s : State) (k : Nat) (f : UPort → UPort) : (s.updPort k f).time = s.time := rfl
@[simp] theorem updPort_boot (s : State) (k : Nat) (f : UPort → UPort) : (s.updPort k f).boot = s.boot := rfl
@[simp] theorem updPort_mgmt (s : State) (k : Nat) (f : UPort → UPort) : (s.updPort k f).mgmt = s.mgmt := rfl
@[simp] theorem updUlane_regs (s : State) (k m : Nat) (f : ULane → ULane) : (s.updUlane k m f).regs = s.regs := rfl
@[simp] theorem updUlane_mem (s : State) (k m : Nat) (f : ULane → ULane) : (s.updUlane k m f).mem = s.mem := rfl
@[simp] theorem updUlane_now (s : State) (k m : Nat) (f : ULane → ULane) : (s.updUlane k m f).now = s.now := rfl
@[simp] theorem updUlane_pending (s : State) (k m : Nat) (f : ULane → ULane) : (s.updUlane k m f).pending = s.pending := rfl
@[simp] theorem updUlane_free (s : State) (k m : Nat) (f : ULane → ULane) : (s.updUlane k m f).free = s.free := rfl
@[simp] theorem updUlane_req (s : State) (k m : Nat) (f : ULane → ULane) : (s.updUlane k m f).req = s.req := rfl
@[simp] theorem updUlane_pins (s : State) (k m : Nat) (f : ULane → ULane) : (s.updUlane k m f).pins = s.pins := rfl
@[simp] theorem updUlane_drw (s : State) (k m : Nat) (f : ULane → ULane) : (s.updUlane k m f).drw = s.drw := rfl
@[simp] theorem updUlane_art (s : State) (k m : Nat) (f : ULane → ULane) : (s.updUlane k m f).art = s.art := rfl
@[simp] theorem updUlane_strm (s : State) (k m : Nat) (f : ULane → ULane) : (s.updUlane k m f).strm = s.strm := rfl
@[simp] theorem updUlane_memc (s : State) (k m : Nat) (f : ULane → ULane) : (s.updUlane k m f).memc = s.memc := rfl
@[simp] theorem updUlane_seq (s : State) (k m : Nat) (f : ULane → ULane) : (s.updUlane k m f).seq = s.seq := rfl
@[simp] theorem updUlane_eng (s : State) (k m : Nat) (f : ULane → ULane) : (s.updUlane k m f).eng = s.eng := rfl
@[simp] theorem updUlane_ucs (s : State) (k m : Nat) (f : ULane → ULane) : (s.updUlane k m f).ucs = s.ucs := rfl
@[simp] theorem updUlane_ts (s : State) (k m : Nat) (f : ULane → ULane) : (s.updUlane k m f).ts = s.ts := rfl
@[simp] theorem updUlane_chan (s : State) (k m : Nat) (f : ULane → ULane) : (s.updUlane k m f).chan = s.chan := rfl
@[simp] theorem updUlane_mc (s : State) (k m : Nat) (f : ULane → ULane) : (s.updUlane k m f).mc = s.mc := rfl
@[simp] theorem updUlane_capt (s : State) (k m : Nat) (f : ULane → ULane) : (s.updUlane k m f).capt = s.capt := rfl
@[simp] theorem updUlane_site (s : State) (k m : Nat) (f : ULane → ULane) : (s.updUlane k m f).site = s.site := rfl
@[simp] theorem updUlane_tdc (s : State) (k m : Nat) (f : ULane → ULane) : (s.updUlane k m f).tdc = s.tdc := rfl
@[simp] theorem updUlane_xl (s : State) (k m : Nat) (f : ULane → ULane) : (s.updUlane k m f).xl = s.xl := rfl
@[simp] theorem updUlane_gov (s : State) (k m : Nat) (f : ULane → ULane) : (s.updUlane k m f).gov = s.gov := rfl
@[simp] theorem updUlane_tb (s : State) (k m : Nat) (f : ULane → ULane) : (s.updUlane k m f).tb = s.tb := rfl
@[simp] theorem updUlane_hart (s : State) (k m : Nat) (f : ULane → ULane) : (s.updUlane k m f).hart = s.hart := rfl
@[simp] theorem updUlane_sched (s : State) (k m : Nat) (f : ULane → ULane) : (s.updUlane k m f).sched = s.sched := rfl
@[simp] theorem updUlane_intc (s : State) (k m : Nat) (f : ULane → ULane) : (s.updUlane k m f).intc = s.intc := rfl
@[simp] theorem updUlane_host (s : State) (k m : Nat) (f : ULane → ULane) : (s.updUlane k m f).host = s.host := rfl
@[simp] theorem updUlane_cal (s : State) (k m : Nat) (f : ULane → ULane) : (s.updUlane k m f).cal = s.cal := rfl
@[simp] theorem updUlane_time (s : State) (k m : Nat) (f : ULane → ULane) : (s.updUlane k m f).time = s.time := rfl
@[simp] theorem updUlane_boot (s : State) (k m : Nat) (f : ULane → ULane) : (s.updUlane k m f).boot = s.boot := rfl
@[simp] theorem updUlane_mgmt (s : State) (k m : Nat) (f : ULane → ULane) : (s.updUlane k m f).mgmt = s.mgmt := rfl
@[simp] theorem updHart_regs (s : State) (n : Nat) (f : Hart → Hart) : (s.updHart n f).regs = s.regs := rfl
@[simp] theorem updHart_mem (s : State) (n : Nat) (f : Hart → Hart) : (s.updHart n f).mem = s.mem := rfl
@[simp] theorem updHart_now (s : State) (n : Nat) (f : Hart → Hart) : (s.updHart n f).now = s.now := rfl
@[simp] theorem updHart_pending (s : State) (n : Nat) (f : Hart → Hart) : (s.updHart n f).pending = s.pending := rfl
@[simp] theorem updHart_free (s : State) (n : Nat) (f : Hart → Hart) : (s.updHart n f).free = s.free := rfl
@[simp] theorem updHart_req (s : State) (n : Nat) (f : Hart → Hart) : (s.updHart n f).req = s.req := rfl
@[simp] theorem updHart_pins (s : State) (n : Nat) (f : Hart → Hart) : (s.updHart n f).pins = s.pins := rfl
@[simp] theorem updHart_drw (s : State) (n : Nat) (f : Hart → Hart) : (s.updHart n f).drw = s.drw := rfl
@[simp] theorem updHart_art (s : State) (n : Nat) (f : Hart → Hart) : (s.updHart n f).art = s.art := rfl
@[simp] theorem updHart_strm (s : State) (n : Nat) (f : Hart → Hart) : (s.updHart n f).strm = s.strm := rfl
@[simp] theorem updHart_memc (s : State) (n : Nat) (f : Hart → Hart) : (s.updHart n f).memc = s.memc := rfl
@[simp] theorem updHart_seq (s : State) (n : Nat) (f : Hart → Hart) : (s.updHart n f).seq = s.seq := rfl
@[simp] theorem updHart_eng (s : State) (n : Nat) (f : Hart → Hart) : (s.updHart n f).eng = s.eng := rfl
@[simp] theorem updHart_ucs (s : State) (n : Nat) (f : Hart → Hart) : (s.updHart n f).ucs = s.ucs := rfl
@[simp] theorem updHart_ts (s : State) (n : Nat) (f : Hart → Hart) : (s.updHart n f).ts = s.ts := rfl
@[simp] theorem updHart_chan (s : State) (n : Nat) (f : Hart → Hart) : (s.updHart n f).chan = s.chan := rfl
@[simp] theorem updHart_mc (s : State) (n : Nat) (f : Hart → Hart) : (s.updHart n f).mc = s.mc := rfl
@[simp] theorem updHart_capt (s : State) (n : Nat) (f : Hart → Hart) : (s.updHart n f).capt = s.capt := rfl
@[simp] theorem updHart_site (s : State) (n : Nat) (f : Hart → Hart) : (s.updHart n f).site = s.site := rfl
@[simp] theorem updHart_ult (s : State) (n : Nat) (f : Hart → Hart) : (s.updHart n f).ult = s.ult := rfl
@[simp] theorem updHart_tdc (s : State) (n : Nat) (f : Hart → Hart) : (s.updHart n f).tdc = s.tdc := rfl
@[simp] theorem updHart_xl (s : State) (n : Nat) (f : Hart → Hart) : (s.updHart n f).xl = s.xl := rfl
@[simp] theorem updHart_gov (s : State) (n : Nat) (f : Hart → Hart) : (s.updHart n f).gov = s.gov := rfl
@[simp] theorem updHart_tb (s : State) (n : Nat) (f : Hart → Hart) : (s.updHart n f).tb = s.tb := rfl
@[simp] theorem updHart_sched (s : State) (n : Nat) (f : Hart → Hart) : (s.updHart n f).sched = s.sched := rfl
@[simp] theorem updHart_intc (s : State) (n : Nat) (f : Hart → Hart) : (s.updHart n f).intc = s.intc := rfl
@[simp] theorem updHart_host (s : State) (n : Nat) (f : Hart → Hart) : (s.updHart n f).host = s.host := rfl
@[simp] theorem updHart_cal (s : State) (n : Nat) (f : Hart → Hart) : (s.updHart n f).cal = s.cal := rfl
@[simp] theorem updHart_time (s : State) (n : Nat) (f : Hart → Hart) : (s.updHart n f).time = s.time := rfl
@[simp] theorem updHart_boot (s : State) (n : Nat) (f : Hart → Hart) : (s.updHart n f).boot = s.boot := rfl
@[simp] theorem updHart_mgmt (s : State) (n : Nat) (f : Hart → Hart) : (s.updHart n f).mgmt = s.mgmt := rfl
@[simp] theorem updCore_regs (s : State) (n : Nat) (f : CoreSlot → CoreSlot) : (s.updCore n f).regs = s.regs := rfl
@[simp] theorem updCore_mem (s : State) (n : Nat) (f : CoreSlot → CoreSlot) : (s.updCore n f).mem = s.mem := rfl
@[simp] theorem updCore_now (s : State) (n : Nat) (f : CoreSlot → CoreSlot) : (s.updCore n f).now = s.now := rfl
@[simp] theorem updCore_pending (s : State) (n : Nat) (f : CoreSlot → CoreSlot) : (s.updCore n f).pending = s.pending := rfl
@[simp] theorem updCore_free (s : State) (n : Nat) (f : CoreSlot → CoreSlot) : (s.updCore n f).free = s.free := rfl
@[simp] theorem updCore_req (s : State) (n : Nat) (f : CoreSlot → CoreSlot) : (s.updCore n f).req = s.req := rfl
@[simp] theorem updCore_pins (s : State) (n : Nat) (f : CoreSlot → CoreSlot) : (s.updCore n f).pins = s.pins := rfl
@[simp] theorem updCore_drw (s : State) (n : Nat) (f : CoreSlot → CoreSlot) : (s.updCore n f).drw = s.drw := rfl
@[simp] theorem updCore_art (s : State) (n : Nat) (f : CoreSlot → CoreSlot) : (s.updCore n f).art = s.art := rfl
@[simp] theorem updCore_strm (s : State) (n : Nat) (f : CoreSlot → CoreSlot) : (s.updCore n f).strm = s.strm := rfl
@[simp] theorem updCore_memc (s : State) (n : Nat) (f : CoreSlot → CoreSlot) : (s.updCore n f).memc = s.memc := rfl
@[simp] theorem updCore_seq (s : State) (n : Nat) (f : CoreSlot → CoreSlot) : (s.updCore n f).seq = s.seq := rfl
@[simp] theorem updCore_eng (s : State) (n : Nat) (f : CoreSlot → CoreSlot) : (s.updCore n f).eng = s.eng := rfl
@[simp] theorem updCore_ucs (s : State) (n : Nat) (f : CoreSlot → CoreSlot) : (s.updCore n f).ucs = s.ucs := rfl
@[simp] theorem updCore_ts (s : State) (n : Nat) (f : CoreSlot → CoreSlot) : (s.updCore n f).ts = s.ts := rfl
@[simp] theorem updCore_chan (s : State) (n : Nat) (f : CoreSlot → CoreSlot) : (s.updCore n f).chan = s.chan := rfl
@[simp] theorem updCore_mc (s : State) (n : Nat) (f : CoreSlot → CoreSlot) : (s.updCore n f).mc = s.mc := rfl
@[simp] theorem updCore_capt (s : State) (n : Nat) (f : CoreSlot → CoreSlot) : (s.updCore n f).capt = s.capt := rfl
@[simp] theorem updCore_site (s : State) (n : Nat) (f : CoreSlot → CoreSlot) : (s.updCore n f).site = s.site := rfl
@[simp] theorem updCore_ult (s : State) (n : Nat) (f : CoreSlot → CoreSlot) : (s.updCore n f).ult = s.ult := rfl
@[simp] theorem updCore_tdc (s : State) (n : Nat) (f : CoreSlot → CoreSlot) : (s.updCore n f).tdc = s.tdc := rfl
@[simp] theorem updCore_xl (s : State) (n : Nat) (f : CoreSlot → CoreSlot) : (s.updCore n f).xl = s.xl := rfl
@[simp] theorem updCore_gov (s : State) (n : Nat) (f : CoreSlot → CoreSlot) : (s.updCore n f).gov = s.gov := rfl
@[simp] theorem updCore_tb (s : State) (n : Nat) (f : CoreSlot → CoreSlot) : (s.updCore n f).tb = s.tb := rfl
@[simp] theorem updCore_hart (s : State) (n : Nat) (f : CoreSlot → CoreSlot) : (s.updCore n f).hart = s.hart := rfl
@[simp] theorem updCore_intc (s : State) (n : Nat) (f : CoreSlot → CoreSlot) : (s.updCore n f).intc = s.intc := rfl
@[simp] theorem updCore_host (s : State) (n : Nat) (f : CoreSlot → CoreSlot) : (s.updCore n f).host = s.host := rfl
@[simp] theorem updCore_cal (s : State) (n : Nat) (f : CoreSlot → CoreSlot) : (s.updCore n f).cal = s.cal := rfl
@[simp] theorem updCore_time (s : State) (n : Nat) (f : CoreSlot → CoreSlot) : (s.updCore n f).time = s.time := rfl
@[simp] theorem updCore_boot (s : State) (n : Nat) (f : CoreSlot → CoreSlot) : (s.updCore n f).boot = s.boot := rfl
@[simp] theorem updCore_mgmt (s : State) (n : Nat) (f : CoreSlot → CoreSlot) : (s.updCore n f).mgmt = s.mgmt := rfl
@[simp] theorem updDma_regs (s : State) (e : Nat) (f : Dma → Dma) : (s.updDma e f).regs = s.regs := rfl
@[simp] theorem updDma_mem (s : State) (e : Nat) (f : Dma → Dma) : (s.updDma e f).mem = s.mem := rfl
@[simp] theorem updDma_now (s : State) (e : Nat) (f : Dma → Dma) : (s.updDma e f).now = s.now := rfl
@[simp] theorem updDma_pending (s : State) (e : Nat) (f : Dma → Dma) : (s.updDma e f).pending = s.pending := rfl
@[simp] theorem updDma_free (s : State) (e : Nat) (f : Dma → Dma) : (s.updDma e f).free = s.free := rfl
@[simp] theorem updDma_req (s : State) (e : Nat) (f : Dma → Dma) : (s.updDma e f).req = s.req := rfl
@[simp] theorem updDma_pins (s : State) (e : Nat) (f : Dma → Dma) : (s.updDma e f).pins = s.pins := rfl
@[simp] theorem updDma_drw (s : State) (e : Nat) (f : Dma → Dma) : (s.updDma e f).drw = s.drw := rfl
@[simp] theorem updDma_art (s : State) (e : Nat) (f : Dma → Dma) : (s.updDma e f).art = s.art := rfl
@[simp] theorem updDma_strm (s : State) (e : Nat) (f : Dma → Dma) : (s.updDma e f).strm = s.strm := rfl
@[simp] theorem updDma_memc (s : State) (e : Nat) (f : Dma → Dma) : (s.updDma e f).memc = s.memc := rfl
@[simp] theorem updDma_seq (s : State) (e : Nat) (f : Dma → Dma) : (s.updDma e f).seq = s.seq := rfl
@[simp] theorem updDma_eng (s : State) (e : Nat) (f : Dma → Dma) : (s.updDma e f).eng = s.eng := rfl
@[simp] theorem updDma_ucs (s : State) (e : Nat) (f : Dma → Dma) : (s.updDma e f).ucs = s.ucs := rfl
@[simp] theorem updDma_ts (s : State) (e : Nat) (f : Dma → Dma) : (s.updDma e f).ts = s.ts := rfl
@[simp] theorem updDma_chan (s : State) (e : Nat) (f : Dma → Dma) : (s.updDma e f).chan = s.chan := rfl
@[simp] theorem updDma_mc (s : State) (e : Nat) (f : Dma → Dma) : (s.updDma e f).mc = s.mc := rfl
@[simp] theorem updDma_capt (s : State) (e : Nat) (f : Dma → Dma) : (s.updDma e f).capt = s.capt := rfl
@[simp] theorem updDma_site (s : State) (e : Nat) (f : Dma → Dma) : (s.updDma e f).site = s.site := rfl
@[simp] theorem updDma_ult (s : State) (e : Nat) (f : Dma → Dma) : (s.updDma e f).ult = s.ult := rfl
@[simp] theorem updDma_tdc (s : State) (e : Nat) (f : Dma → Dma) : (s.updDma e f).tdc = s.tdc := rfl
@[simp] theorem updDma_xl (s : State) (e : Nat) (f : Dma → Dma) : (s.updDma e f).xl = s.xl := rfl
@[simp] theorem updDma_gov (s : State) (e : Nat) (f : Dma → Dma) : (s.updDma e f).gov = s.gov := rfl
@[simp] theorem updDma_tb (s : State) (e : Nat) (f : Dma → Dma) : (s.updDma e f).tb = s.tb := rfl
@[simp] theorem updDma_hart (s : State) (e : Nat) (f : Dma → Dma) : (s.updDma e f).hart = s.hart := rfl
@[simp] theorem updDma_sched (s : State) (e : Nat) (f : Dma → Dma) : (s.updDma e f).sched = s.sched := rfl
@[simp] theorem updDma_intc (s : State) (e : Nat) (f : Dma → Dma) : (s.updDma e f).intc = s.intc := rfl
@[simp] theorem updDma_cal (s : State) (e : Nat) (f : Dma → Dma) : (s.updDma e f).cal = s.cal := rfl
@[simp] theorem updDma_time (s : State) (e : Nat) (f : Dma → Dma) : (s.updDma e f).time = s.time := rfl
@[simp] theorem updDma_boot (s : State) (e : Nat) (f : Dma → Dma) : (s.updDma e f).boot = s.boot := rfl
@[simp] theorem updDma_mgmt (s : State) (e : Nat) (f : Dma → Dma) : (s.updDma e f).mgmt = s.mgmt := rfl
@[simp] theorem updMbx_regs (s : State) (m : Nat) (f : Mbx → Mbx) : (s.updMbx m f).regs = s.regs := rfl
@[simp] theorem updMbx_mem (s : State) (m : Nat) (f : Mbx → Mbx) : (s.updMbx m f).mem = s.mem := rfl
@[simp] theorem updMbx_now (s : State) (m : Nat) (f : Mbx → Mbx) : (s.updMbx m f).now = s.now := rfl
@[simp] theorem updMbx_pending (s : State) (m : Nat) (f : Mbx → Mbx) : (s.updMbx m f).pending = s.pending := rfl
@[simp] theorem updMbx_free (s : State) (m : Nat) (f : Mbx → Mbx) : (s.updMbx m f).free = s.free := rfl
@[simp] theorem updMbx_req (s : State) (m : Nat) (f : Mbx → Mbx) : (s.updMbx m f).req = s.req := rfl
@[simp] theorem updMbx_pins (s : State) (m : Nat) (f : Mbx → Mbx) : (s.updMbx m f).pins = s.pins := rfl
@[simp] theorem updMbx_drw (s : State) (m : Nat) (f : Mbx → Mbx) : (s.updMbx m f).drw = s.drw := rfl
@[simp] theorem updMbx_art (s : State) (m : Nat) (f : Mbx → Mbx) : (s.updMbx m f).art = s.art := rfl
@[simp] theorem updMbx_strm (s : State) (m : Nat) (f : Mbx → Mbx) : (s.updMbx m f).strm = s.strm := rfl
@[simp] theorem updMbx_memc (s : State) (m : Nat) (f : Mbx → Mbx) : (s.updMbx m f).memc = s.memc := rfl
@[simp] theorem updMbx_seq (s : State) (m : Nat) (f : Mbx → Mbx) : (s.updMbx m f).seq = s.seq := rfl
@[simp] theorem updMbx_eng (s : State) (m : Nat) (f : Mbx → Mbx) : (s.updMbx m f).eng = s.eng := rfl
@[simp] theorem updMbx_ucs (s : State) (m : Nat) (f : Mbx → Mbx) : (s.updMbx m f).ucs = s.ucs := rfl
@[simp] theorem updMbx_ts (s : State) (m : Nat) (f : Mbx → Mbx) : (s.updMbx m f).ts = s.ts := rfl
@[simp] theorem updMbx_chan (s : State) (m : Nat) (f : Mbx → Mbx) : (s.updMbx m f).chan = s.chan := rfl
@[simp] theorem updMbx_mc (s : State) (m : Nat) (f : Mbx → Mbx) : (s.updMbx m f).mc = s.mc := rfl
@[simp] theorem updMbx_capt (s : State) (m : Nat) (f : Mbx → Mbx) : (s.updMbx m f).capt = s.capt := rfl
@[simp] theorem updMbx_site (s : State) (m : Nat) (f : Mbx → Mbx) : (s.updMbx m f).site = s.site := rfl
@[simp] theorem updMbx_ult (s : State) (m : Nat) (f : Mbx → Mbx) : (s.updMbx m f).ult = s.ult := rfl
@[simp] theorem updMbx_tdc (s : State) (m : Nat) (f : Mbx → Mbx) : (s.updMbx m f).tdc = s.tdc := rfl
@[simp] theorem updMbx_xl (s : State) (m : Nat) (f : Mbx → Mbx) : (s.updMbx m f).xl = s.xl := rfl
@[simp] theorem updMbx_gov (s : State) (m : Nat) (f : Mbx → Mbx) : (s.updMbx m f).gov = s.gov := rfl
@[simp] theorem updMbx_tb (s : State) (m : Nat) (f : Mbx → Mbx) : (s.updMbx m f).tb = s.tb := rfl
@[simp] theorem updMbx_hart (s : State) (m : Nat) (f : Mbx → Mbx) : (s.updMbx m f).hart = s.hart := rfl
@[simp] theorem updMbx_sched (s : State) (m : Nat) (f : Mbx → Mbx) : (s.updMbx m f).sched = s.sched := rfl
@[simp] theorem updMbx_intc (s : State) (m : Nat) (f : Mbx → Mbx) : (s.updMbx m f).intc = s.intc := rfl
@[simp] theorem updMbx_cal (s : State) (m : Nat) (f : Mbx → Mbx) : (s.updMbx m f).cal = s.cal := rfl
@[simp] theorem updMbx_time (s : State) (m : Nat) (f : Mbx → Mbx) : (s.updMbx m f).time = s.time := rfl
@[simp] theorem updMbx_boot (s : State) (m : Nat) (f : Mbx → Mbx) : (s.updMbx m f).boot = s.boot := rfl
@[simp] theorem updMbx_mgmt (s : State) (m : Nat) (f : Mbx → Mbx) : (s.updMbx m f).mgmt = s.mgmt := rfl

end State

end Sys2Proof.Machine
end

