-- ==== Sys2Proof/Laws/Regs.lean ====
section
/-! SUPPORT. Laws of register words, fields, pairs and memory bytes: read after write, and what a write leaves alone. -/

namespace Sys2Proof.Machine

/-! ## Fields of a word -/

/-- Every bit of a word after a field of it is replaced. -/
theorem testBit_withBits (w : Word) (hi lo v j : Nat) (h : lo ≤ hi) :
    (withBits w hi lo v).toNat.testBit j =
      (decide (j < 32) && if lo ≤ j ∧ j ≤ hi then v.testBit (j - lo) else w.toNat.testBit j) := by
  have e : w.toNat % 2 ^ lo + (v % 2 ^ (hi + 1 - lo)) * 2 ^ lo + w.toNat / 2 ^ (hi + 1) * 2 ^ (hi + 1)
      = 2 ^ lo * (2 ^ (hi + 1 - lo) * (w.toNat / 2 ^ (hi + 1)) + v % 2 ^ (hi + 1 - lo)) + w.toNat % 2 ^ lo := by
    have : 2 ^ (hi + 1) = 2 ^ lo * 2 ^ (hi + 1 - lo) := by rw [← Nat.pow_add]; congr 1; omega
    rw [this]; ring
  unfold withBits
  rw [e, BitVec.toNat_ofNat, Nat.testBit_mod_two_pow, Nat.testBit_two_pow_mul_add _ (Nat.mod_lt _ (Nat.two_pow_pos _))]
  congr 1
  by_cases h1 : j < lo
  · have : ¬ (lo ≤ j ∧ j ≤ hi) := by omega
    simp [h1, this, Nat.testBit_mod_two_pow]
  · rw [if_neg h1, Nat.testBit_two_pow_mul_add _ (Nat.mod_lt _ (Nat.two_pow_pos _))]
    by_cases h2 : j ≤ hi
    · have a : j - lo < hi + 1 - lo := by omega
      have b : lo ≤ j ∧ j ≤ hi := by omega
      simp [a, b, Nat.testBit_mod_two_pow]
    · have a : ¬ j - lo < hi + 1 - lo := by omega
      have b : ¬ (lo ≤ j ∧ j ≤ hi) := by omega
      have c : j - lo - (hi + 1 - lo) + (hi + 1) = j := by omega
      simp only [a, b, if_false, Nat.testBit_div_two_pow, c]

theorem testBit_bitsOf (w : Word) (hi lo j : Nat) :
    (bitsOf w hi lo).testBit j = (decide (j < hi + 1 - lo) && w.toNat.testBit (j + lo)) := by
  simp [bitsOf, Nat.testBit_mod_two_pow, Nat.testBit_div_two_pow]

theorem bitsOf_lt (w : Word) (hi lo : Nat) : bitsOf w hi lo < 2 ^ (hi + 1 - lo) := Nat.mod_lt _ (Nat.two_pow_pos _)

/-- A field reads the value last written to it, cut to its width. -/
theorem bitsOf_withBits (w : Word) (hi lo v : Nat) (h : lo ≤ hi) (h' : hi < 32) :
    bitsOf (withBits w hi lo v) hi lo = v % 2 ^ (hi + 1 - lo) := by
  apply Nat.eq_of_testBit_eq
  intro j
  rw [testBit_bitsOf, testBit_withBits _ _ _ _ _ h, Nat.testBit_mod_two_pow]
  by_cases hj : j < hi + 1 - lo
  · have a : j + lo < 32 := by omega
    have b : lo ≤ j + lo ∧ j + lo ≤ hi := by omega
    simp [hj, a, b]
  · simp [hj]

/-- A field keeps its value when a field that shares no bit with it is written. -/
theorem bitsOf_withBits_ne (w : Word) (hi lo v a b : Nat) (h : lo ≤ hi) (h' : a < 32) (hd : a < lo ∨ hi < b) :
    bitsOf (withBits w hi lo v) a b = bitsOf w a b := by
  apply Nat.eq_of_testBit_eq
  intro j
  rw [testBit_bitsOf, testBit_bitsOf, testBit_withBits _ _ _ _ _ h]
  by_cases hj : j < a + 1 - b
  · have a1 : j + b < 32 := by omega
    have b1 : ¬ (lo ≤ j + b ∧ j + b ≤ hi) := by omega
    simp [hj, a1, b1]
  · simp [hj]

theorem bitsOf_word (w : Word) : bitsOf w 31 0 = w.toNat := by
  have := w.isLt
  simp [bitsOf, Nat.mod_eq_of_lt this]

namespace State

/-! ## Register words -/

/-- A register reads the word last written to it. -/
@[simp] theorem word_setWord (s : State) (o : Nat) (v : Word) : (s.setWord o v).word o = v := by
  simp [State.word, State.setWord]

/-- A register keeps its word when another is written. -/
theorem word_setWord_ne (s : State) (o : Nat) (v : Word) (p : Nat) (h : p ≠ o) : (s.setWord o v).word p = s.word p :=
  Tab.get_set_ne _ _ _ _ _ _ h

@[simp] theorem word_putN (s : State) (o v : Nat) : (s.putN o v).word o = BitVec.ofNat 32 v := word_setWord s o _

theorem word_putN_ne (s : State) (o v p : Nat) (h : p ≠ o) : (s.putN o v).word p = s.word p := word_setWord_ne s o _ p h

@[simp] theorem word_put (s : State) (f : Fld) (v : Nat) : (s.put f v).word f.off = withBits (s.word f.off) f.hi f.lo v :=
  word_setWord s _ _

theorem word_put_ne (s : State) (f : Fld) (v p : Nat) (h : p ≠ f.off) : (s.put f v).word p = s.word p :=
  word_setWord_ne s _ _ p h

theorem word_putBit_ne (s : State) (o i : Nat) (b : Bool) (p : Nat) (h : p ≠ o) : (s.putBit o i b).word p = s.word p :=
  word_setWord_ne s _ _ p h

theorem word_addSat_ne (s : State) (o k p : Nat) (h : p ≠ o) : (s.addSat o k).word p = s.word p := word_setWord_ne s _ _ p h

theorem word_bump_ne (s : State) (o p : Nat) (h : p ≠ o) : (s.bump o).word p = s.word p := word_setWord_ne s _ _ p h

/-! ## Fields -/

/-- A field reads what was last written to it. -/
theorem get_put (s : State) (f : Fld) (v : Nat) (h : f.lo ≤ f.hi) (h' : f.hi < 32) :
    (s.put f v).get f = v % 2 ^ (f.hi + 1 - f.lo) := by
  simp [State.get, bitsOf_withBits _ _ _ _ h h']

/-- A field of another register keeps its value. -/
theorem get_put_off (s : State) (f g : Fld) (v : Nat) (h : g.off ≠ f.off) : (s.put f v).get g = s.get g := by
  simp [State.get, word_put_ne _ _ _ _ h]

/-- A field that shares no bit keeps its value. -/
theorem get_put_bits (s : State) (f g : Fld) (v : Nat) (h : f.lo ≤ f.hi) (h' : g.hi < 32) (hd : g.hi < f.lo ∨ f.hi < g.lo) :
    (s.put f v).get g = s.get g := by
  by_cases ho : g.off = f.off
  · simp [State.get, ho, bitsOf_withBits_ne _ _ _ _ _ _ h h' hd]
  · exact get_put_off s f g v ho

theorem get_setWord_ne (s : State) (o : Nat) (v : Word) (g : Fld) (h : g.off ≠ o) : (s.setWord o v).get g = s.get g := by
  simp [State.get, word_setWord_ne _ _ _ _ h]

theorem get_putN_ne (s : State) (o v : Nat) (g : Fld) (h : g.off ≠ o) : (s.putN o v).get g = s.get g :=
  get_setWord_ne s o _ g h

theorem get_putBit_ne (s : State) (o i : Nat) (b : Bool) (g : Fld) (h : g.off ≠ o) : (s.putBit o i b).get g = s.get g :=
  get_setWord_ne s o _ g h

theorem get_bump_ne (s : State) (o : Nat) (g : Fld) (h : g.off ≠ o) : (s.bump o).get g = s.get g := get_setWord_ne s o _ g h

theorem get_lt (s : State) (f : Fld) : s.get f < 2 ^ (f.hi + 1 - f.lo) := bitsOf_lt _ _ _

/-! ## Whole words as numbers, counters, bits -/

theorem num_lt (s : State) (o : Nat) : s.num o < 2 ^ 32 := (s.word o).isLt

@[simp] theorem num_putN (s : State) (o v : Nat) : (s.putN o v).num o = v % 2 ^ 32 := by simp [State.num]

theorem num_putN_ne (s : State) (o v p : Nat) (h : p ≠ o) : (s.putN o v).num p = s.num p := by
  simp [State.num, word_putN_ne _ _ _ _ h]

theorem num_put_ne (s : State) (f : Fld) (v p : Nat) (h : p ≠ f.off) : (s.put f v).num p = s.num p := by
  simp [State.num, word_put_ne _ _ _ _ h]

theorem num_setWord_ne (s : State) (o : Nat) (v : Word) (p : Nat) (h : p ≠ o) : (s.setWord o v).num p = s.num p := by
  simp [State.num, word_setWord_ne _ _ _ _ h]

/-- A counter that saturates: it adds, and stays at 0xFFFF_FFFF (R5). -/
theorem num_addSat (s : State) (o k : Nat) : (s.addSat o k).num o = min satMax (s.num o + k) := by
  have : min satMax (s.num o + k) < 2 ^ 32 := Nat.lt_of_le_of_lt (Nat.min_le_left _ _) (by decide)
  simp only [State.addSat, num_putN, Nat.mod_eq_of_lt this]

theorem num_bump (s : State) (o : Nat) : (s.bump o).num o = min satMax (s.num o + 1) := num_addSat s o 1

theorem num_bump_ne (s : State) (o p : Nat) (h : p ≠ o) : (s.bump o).num p = s.num p := num_putN_ne s o _ p h

theorem testBit_flip (m r i j : Nat) (m' : Nat) (hr : r < 2 ^ i) (hm : m / 2 = m' / 2) :
    (2 ^ i * m' + r).testBit j = if j = i then decide (m' % 2 = 1) else (2 ^ i * m + r).testBit j := by
  rw [Nat.testBit_two_pow_mul_add _ hr, Nat.testBit_two_pow_mul_add _ hr]
  by_cases h1 : j < i
  · have : j ≠ i := by omega
    simp [h1, this]
  · by_cases h2 : j = i
    · subst h2; simp [Nat.testBit_zero]
    · obtain ⟨k, hk⟩ : ∃ k, j - i = k + 1 := ⟨j - i - 1, by omega⟩
      simp only [h1, h2, if_false, hk, Nat.testBit_succ, hm]

/-- Bit `i` of a number is replaced and every other bit stays. -/
theorem testBit_setBitN (v i : Nat) (b : Bool) (j : Nat) : (setBitN v i b).testBit j = if j = i then b else v.testBit j := by
  obtain ⟨m, r, hr, rfl⟩ : ∃ m r, r < 2 ^ i ∧ v = 2 ^ i * m + r :=
    ⟨v / 2 ^ i, v % 2 ^ i, Nat.mod_lt _ (Nat.two_pow_pos _), (Nat.div_add_mod v (2 ^ i)).symm⟩
  have ht : (2 ^ i * m + r).testBit i = decide (m % 2 = 1) := by
    rw [Nat.testBit_two_pow_mul_add _ hr]; simp [Nat.testBit_zero]
  unfold setBitN
  rw [ht]
  by_cases hm : m % 2 = 1
  · cases b
    · obtain ⟨q, rfl⟩ : ∃ q, m = q + 1 := ⟨m - 1, by omega⟩
      have e : 2 ^ i * (q + 1) + r - 2 ^ i = 2 ^ i * q + r := by rw [Nat.mul_add]; omega
      have h0 : ¬ q % 2 = 1 := by omega
      simp only [hm, decide_true, Bool.true_eq_false, Bool.false_eq_true, if_false, e]
      rw [testBit_flip (q + 1) _ _ _ _ hr (by omega)]
      simp [h0]
    · simp only [hm, decide_true, if_true]
      by_cases hj : j = i
      · subst hj; simp [ht, hm]
      · simp [hj]
  · cases b
    · simp only [hm, decide_false, if_true]
      by_cases hj : j = i
      · subst hj; simp [ht, hm]
      · simp [hj]
    · have e : 2 ^ i * m + r + 2 ^ i = 2 ^ i * (m + 1) + r := by rw [Nat.mul_add]; omega
      have h0 : (m + 1) % 2 = 1 := by omega
      simp only [hm, decide_false, Bool.false_eq_true, if_false, if_true, e]
      rw [testBit_flip m _ _ _ _ hr (by omega)]
      simp [h0]

theorem setBitN_lt (v i : Nat) (b : Bool) (n : Nat) (hv : v < 2 ^ n) (hi : i < n) : setBitN v i b < 2 ^ n := by
  apply Nat.lt_pow_two_of_testBit
  intro j hj
  rw [testBit_setBitN]
  have : j ≠ i := by omega
  simp [this, Nat.testBit_lt_two_pow (Nat.lt_of_lt_of_le hv (Nat.pow_le_pow_right (by omega) hj))]

/-- A bit of a register word reads what was last written to it, and the word's other bits stay. -/
theorem bit_putBit (s : State) (o i j : Nat) (b : Bool) (h : i < 32) :
    (s.putBit o i b).bit o j = if j = i then b else s.bit o j := by
  have : setBitN (s.num o) i b < 2 ^ 32 := setBitN_lt _ _ _ _ (num_lt s o) h
  simp only [State.bit, State.putBit, num_putN, Nat.mod_eq_of_lt this, testBit_setBitN]

theorem bit_putBit_ne (s : State) (o i : Nat) (b : Bool) (p j : Nat) (h : p ≠ o) : (s.putBit o i b).bit p j = s.bit p j := by
  simp [State.bit, State.putBit, num_putN_ne _ _ _ _ h]

theorem bit_putN_ne (s : State) (o v p j : Nat) (h : p ≠ o) : (s.putN o v).bit p j = s.bit p j := by
  simp [State.bit, num_putN_ne _ _ _ _ h]

theorem bit_put_ne (s : State) (f : Fld) (v p j : Nat) (h : p ≠ f.off) : (s.put f v).bit p j = s.bit p j := by
  simp [State.bit, num_put_ne _ _ _ _ h]

/-- A pair register reads what was last written to both its words. -/
theorem pair_putPair (s : State) (o v : Nat) (h : v < 2 ^ 64) : (s.putPair o v).pair o = v := by
  have h1 : o ≠ o + 4 := by omega
  simp only [State.pair, State.putPair, num_putN_ne _ _ _ _ h1, num_putN]
  omega

/-! ## Memory -/

/-- A byte reads what was last written to it; every other byte stays. -/
theorem rdByte_wrByte (s : State) (a : Nat) (b : Byte) (c : Nat) :
    (s.wrByte a b).rdByte c = if c = a then b else s.rdByte c := by
  simp only [State.rdByte, State.wrByte]
  exact Tab.get_set _ _ _ _ _ _ (fun _ => rfl)

/-- A write of bytes leaves every byte outside them alone. -/
theorem rdByte_wrBytes_ne (s : State) (a : Nat) (l : List Byte) (c : Nat) (h : c < a ∨ a + l.length ≤ c) :
    (s.wrBytes a l).rdByte c = s.rdByte c := by
  induction l generalizing s a with
  | nil => rfl
  | cons b bs ih =>
    simp only [List.length_cons] at h
    simp only [State.wrBytes]
    rw [ih _ _ (by omega), rdByte_wrByte]
    have : c ≠ a := by omega
    simp [this]

/-- A write of bytes stores each of them at its address. -/
theorem rdByte_wrBytes (s : State) (a : Nat) (l : List Byte) (i : Nat) (h : i < l.length) :
    (s.wrBytes a l).rdByte (a + i) = l[i] := by
  induction l generalizing s a i with
  | nil => simp at h
  | cons b bs ih =>
    simp only [State.wrBytes]
    cases i with
    | zero => rw [rdByte_wrBytes_ne _ _ _ _ (by omega), rdByte_wrByte]; simp
    | succ k =>
      have := ih (s.wrByte a b) (a + 1) k (by simpa using h)
      simpa [Nat.add_assoc, Nat.add_comm 1 k] using this

/-- Memory keeps its canonical form when a byte is written. -/
theorem wf_wrByte (s : State) (a : Nat) (b : Byte) (h : Memory.wf s.mem = true) : Memory.wf (s.wrByte a b).mem = true :=
  Tab.wf_set (fun _ => memDefault) a b s.mem h

/-- Memory keeps its canonical form when bytes are written. -/
theorem wf_wrBytes (s : State) (a : Nat) (l : List Byte) (h : Memory.wf s.mem = true) :
    Memory.wf (s.wrBytes a l).mem = true := by
  induction l generalizing s a with
  | nil => exact h
  | cons b bs ih => exact ih _ _ (wf_wrByte s a b h)

/-! ## Repeated updates -/

/-- What each update of a fold keeps, the fold keeps. -/
theorem each_keeps {α : Type} (P : State → Prop) (l : List α) (f : State → α → State) (s : State) (h : P s)
    (hf : ∀ t x, P t → P (f t x)) : P (s.each l f) := by
  induction l generalizing s with
  | nil => exact h
  | cons x xs ih => exact ih (f s x) (hf s x h)

/-- What an update keeps, the conditional update keeps. -/
theorem when_keeps (P : State → Prop) (c : Bool) (f : State → State) (s : State) (h : P s) (hf : P s → P (f s)) :
    P (s.when c f) := by
  unfold State.when; split
  · exact hf h
  · exact h

end State

end Sys2Proof.Machine
end

