-- ==== Sys2Proof/Laws/Sequencer.lean ====
section
/-!
SUPPORT. What the shared operations of run-ahead may change: only the context they act on, its engine, the set loads that its
clusters await, and the registers that show it.
-/

namespace Sys2Proof.Machine

/-- The words a context is shown in, other words the same. -/
theorem RegsBut.trans {l : List Nat} {s t u : State} (h : RegsBut l s t) (g : RegsBut l t u) : RegsBut l s u :=
  fun o ho => (g o ho).trans (h o ho)

theorem SeqOnly.refl (n : Nat) (s : State) : SeqOnly n s s := ⟨rfl, fun _ _ => rfl, fun _ _ => rfl, fun _ _ => rfl⟩

/-- Changes of a context follow one another. -/
theorem SeqOnly.trans {n : Nat} {s t u : State} (h : SeqOnly n s t) (g : SeqOnly n t u) : SeqOnly n s u := by
  obtain ⟨h1, h2, h3, h4⟩ := h
  obtain ⟨g1, g2, g3, g4⟩ := g
  have hc : t.siteClus n = s.siteClus n := by rw [h1]; rfl
  refine ⟨?_, fun m hm => (g2 m hm).trans (h2 m hm), fun k hk => (g3 k (hc ▸ hk)).trans (h3 k hk), h4.trans g4⟩
  rw [g1, h1]

theorem seqOnly_updSeq (s : State) (n : Nat) (f : SeqCtx → SeqCtx) : SeqOnly n s (s.updSeq n f) :=
  ⟨rfl, fun _ hm => Tab.get_set_ne _ _ _ _ _ _ hm, fun _ _ => rfl, fun _ _ => rfl⟩

theorem seqOnly_updEng (s : State) (n e : Nat) (f : Engine → Engine) : SeqOnly n s (s.updEng e f) :=
  ⟨rfl, fun _ _ => rfl, fun _ _ => rfl, fun _ _ => rfl⟩

theorem seqOnly_putPath (s : State) (n : Nat) (p : Option Nat) (x : Path) : SeqOnly n s (s.putPath n p x) := seqOnly_updSeq s n _

/-- A register of those that show a context may change. -/
theorem seqOnly_setWord (s : State) (n o : Nat) (v : Word)
    (h : o ∈ [R.SEQ_CTX_n_PC_DRW n, R.SEQ_CTX_n_PC_IDX n, R.SEQ_CTX_n_CURSOR n, R.STRM_SITE_n_FLAGS n]) :
    SeqOnly n s (s.setWord o v) :=
  ⟨rfl, fun _ _ => rfl, fun _ _ => rfl, fun p hp => State.word_setWord_ne s o v p (fun e => hp (e ▸ h))⟩

/-- Asking for a set adds to the loads that the clusters of the site await (R169). -/
theorem seqOnly_requestSet (s : State) (n t : Nat) : SeqOnly n s (s.requestSet n t) := by
  unfold State.requestSet
  have aux : ∀ (l : List Nat) (u : State), SeqOnly n s u → (∀ k ∈ l, k ∈ s.siteClus n) →
      SeqOnly n s (u.each l (fun u k => if (u.ecFind k n t).isSome || (u.loadsOf k).contains (n, t) then u
        else u.setLoads k (u.loadsOf k ++ [(n, t)]))) := by
    intro l
    induction l with
    | nil => intro u hu _; exact hu
    | cons k ks ih =>
      intro u hu hl
      refine ih _ ?_ (fun j hj => hl j (List.mem_cons_of_mem _ hj))
      beta_reduce
      split
      · exact hu
      · obtain ⟨h1, h2, h3, h4⟩ := hu
        refine ⟨?_, h2, fun j hj => ?_, h4⟩
        · conv_lhs => rw [h1]
          rfl
        · have hne : j ≠ k := fun e => hj (e ▸ hl k List.mem_cons_self)
          exact (Tab.get_set_ne _ _ _ _ _ _ hne).trans (h3 j hj)
  exact aux _ s (SeqOnly.refl n s) (fun _ h => h)

theorem seqOnly_when (s : State) (n : Nat) (c : Bool) (f : State → State) (h : SeqOnly n s (f s)) : SeqOnly n s (s.when c f) := by
  unfold State.when; split
  · exact h
  · exact SeqOnly.refl n s

theorem seqOnly_seqShow (s : State) (n : Nat) : SeqOnly n s (s.seqShow n) := by
  unfold State.seqShow
  exact ((seqOnly_setWord s n _ _ (by simp)).trans (seqOnly_setWord _ n _ _ (by simp))).trans (seqOnly_setWord _ n _ _ (by simp))

theorem seqOnly_primeCheck (s : State) (n : Nat) : SeqOnly n s (s.primeCheck n) :=
  seqOnly_when s n _ _ (seqOnly_setWord s n _ _ (by simp [F.STRM_SITE_n_FLAGS_PRIMED]))

/-- An instruction that leaves a path changes its own context alone (R109 to R113). -/
theorem seqOnly_leave (s : State) (n : Nat) (p : Option Nat) (x : Path) : SeqOnly n s (s.leave n p x) := by
  unfold State.leave
  exact (((seqOnly_when s n _ _ (seqOnly_requestSet s n _)).trans (seqOnly_putPath _ n p _)).trans
    (seqOnly_seqShow _ n)).trans (seqOnly_primeCheck _ n)

theorem seqOnly_seqFault (s : State) (n : Nat) (p : Option Nat) (x : Path) (code : Nat) (poison : Bool) :
    SeqOnly n s (s.seqFault n p x code poison) := seqOnly_leave s n p _

theorem seqOnly_charge (s : State) (n k : Nat) : SeqOnly n s (s.charge n k) := seqOnly_updEng s n _ _

/-- What an instruction changes before its own effect: the cycles of its engine and the serial number of executions. -/
theorem seqOnly_started (s : State) (n k : Nat) :
    SeqOnly n s ((s.charge n k).updSeq n (fun c => { c with ser := c.ser + 1 })) :=
  (seqOnly_charge s n k).trans (seqOnly_updSeq _ n _)

/-- An instruction that stands at a path, whose opcode the command names and in which no fault is, runs (R109, R115 to R118). -/
theorem seqInstr_run (ok : Nat → Bool) (run : Nat → Option Nat → Path → Nat → State → State) (n : Nat) (p : Option Nat)
    (s : State) (x : Path) (w : IWord) (hx : pathOf (s.seqOf n) p = some x) (hw : x.wordAt = some w)
    (hr : s.canRun n x = true) (hu : w.undef = false) (ho : ok w.word = true) (hf : s.wordFault w.word = none) :
    seqInstr ok run n p false s = run n p { x with tag := (s.seqOf n).ser } w.word
      ((s.charge n (cyclesOf w.word)).updSeq n (fun c => { c with ser := c.ser + 1 })) := by
  have hs : ((s.charge n (cyclesOf w.word)).updSeq n (fun c => { c with ser := c.ser + 1 })).wordFault w.word = none := hf
  simp only [seqInstr, hx, hw, hr, hu, ho, Bool.not_false, Bool.and_self, if_true]
  simp only [Bool.false_eq_true, if_false]
  rw [show (s.charge n (cyclesOf w.word)).seqOf n = s.seqOf n from rfl, hs]

end Sys2Proof.Machine
end

