-- ==== Sys2Proof/WellFormed.lean ====
section
/-!
DEFINITION. Well-formed commands: what the types of the operands do not already say. Offsets lie in the register space (R2),
byte ranges in the 40-bit internal map (R20), burst numbers inside the access, message fields within their widths (R292,
R293). The meanings are total: they answer ill-formed commands too, and no statement about them assumes the form.
-/

namespace Sys2Proof

/-- The offset of an aligned register word (R2). -/
def wordOff (off : Nat) : Bool := off < 2 ^ 27 && off % 4 == 0

/-- A byte range that is not empty and lies in the internal map (R20). -/
def byteRange (a n : Nat) : Bool := 0 < n && a + n ≤ 2 ^ 40

/-- Numbers of 32-byte bursts that a byte range touches (R98). -/
def inBursts (a n : Nat) (l : List Nat) : Bool := l.all (fun b => a / 32 ≤ b && b ≤ (a + n - 1) / 32)

/-- A value that fits a 16-bit chip or span ID (R289, R269). -/
def chipOk (x : Nat) : Bool := x < 65536

/-- The command is well formed. -/
def Instr.wf (i : Instr) : Bool :=
  match i with
  | .registerWrite _ off size v => off < 2 ^ 27 && (size == 1 || size == 2 || size == 4 || size == 8) && v < 2 ^ (8 * size)
  | .rcRead _ off => wordOff off
  | .pairLoRead _ off => wordOff off
  | .pairHiRead _ off => wordOff off
  | .pairHiWrite _ off _ => wordOff off
  | .pairLoWrite _ off _ => wordOff off
  | .memoryWrite _ a d => byteRange a d.length
  | .memoryRead _ a n ce ue => byteRange a n && inBursts a n ce && inBursts a n ue
  | .eccWriteback b => b < 9 * 2 ^ 27
  | .refclkLost => true
  | .refclkFreqErr _ => true
  | .refclkInWindow => true
  | .switchToRecovered => true
  | .refclkReturn => true
  | .clusterPllUnlock _ => true
  | .clusterPllRelock _ => true
  | .drwNop _ => true
  | .commit _ _ => true
  | .retire _ _ => true
  | .pin _ _ => true
  | .unpin _ _ => true
  | .shelfAlloc _ => true
  | .shelfFree _ => true
  | .drwCmdDone => true
  | .artInsert _ _ => true
  | .strmFetchIssue _ _ => true
  | .strmFetchComplete _ _ _ _ => true
  | .readinessPoint _ => true
  | .frameBoundary _ => true
  | .ledgerPctWrite _ => true
  | .memcEnqueue _ _ a len level => a + len ≤ 36 * 2 ^ 30 && 0 < len && level < 8
  | .inorderExit _ _ => true
  | .refreshInterval => true
  | .refreshIssue _ _ => true
  | .refreshAllBank _ => true
  | .stackTempChange t => decide (-128 ≤ t) && decide (t ≤ 127)
  | .retrainSessionStart => true
  | .retrainSlice _ => true
  | .retrainSessionEnd _ => true
  | .memcRetrainStart _ => true
  | .memcRetrainEnableWrite _ => true
  | .pcPowerEnter _ => true
  | .pcWake _ => true
  | .pcWakeDone _ => true
  | .engineContextSwitch _ => true
  | .runaheadResume _ _ => true
  | .directoryReadDone _ _ => true
  | .ilistFetchDone _ _ _ cnt _ _ => 0 < cnt
  | .vec _ _ _ => true
  | .rpt _ _ _ => true
  | .loop _ _ _ => true
  | .endl _ _ _ => true
  | .jmp _ _ _ => true
  | .jmpc _ _ _ => true
  | .call _ _ _ => true
  | .ret _ _ _ => true
  | .matchwait _ _ _ => true
  | .tset _ _ _ => true
  | .levels _ _ _ => true
  | .captMark _ _ _ => true
  | .captEnable _ _ _ => true
  | .captDisable _ _ _ => true
  | .captTrig _ _ _ => true
  | .signalSched _ _ _ => true
  | .signalDoorbell _ _ _ => true
  | .transitSpan _ _ _ => true
  | .transitDomain _ _ _ => true
  | .flag _ _ _ => true
  | .halt _ _ _ => true
  | .keep _ _ _ => true
  | .xlmarkStart _ _ _ => true
  | .xlmarkStop _ _ _ => true
  | .xlmarkMark _ _ _ => true
  | .waitcore _ _ _ => true
  | .undefinedOpcode _ _ => true
  | .granuleBoundary _ => true
  | .branchDecision _ => true
  | .matchwaitTimeout _ => true
  | .waitcoreTimeout _ => true
  | .seqAbort _ => true
  | .coreFlagSet _ _ => true
  | .coreFlagClear _ _ => true
  | .ucsWordWrite _ => true
  | .tsetEntryWrite _ _ _ _ => true
  | .tsetNop _ => true
  | .tsetCommit _ _ => true
  | .tsetCmdDone => true
  | .ecLoadDone _ => true
  | .bankVnomWrite _ _ => true
  | .bankOutOfWindow _ _ => true
  | .bankInWindow _ _ => true
  | .levelWrite _ _ _ _ _ => true
  | .settleEnd _ => true
  | .ocpDetect _ => true
  | .ppmuCtrlWrite _ _ _ => true
  | .ppmuForceWrite _ _ _ => true
  | .ppmuVclampWrite _ _ _ => true
  | .ppmuLimit _ _ => true
  | .mcSliceEnd _ _ => true
  | .vectorResult _ obs => obs.all (fun o => o.ch < 512 && o.first.length ≤ 2 && o.second.length ≤ 2)
  | .failRecordWrite _ => true
  | .triggerEvaluate _ => true
  | .triggerTimerExpire _ _ => true
  | .triggerCounterDone _ _ => true
  | .holdoffEnd _ => true
  | .captRecordWrite _ => true
  | .spillBlockCopy _ => true
  | .spillFlush _ => true
  | .siteDone _ => true
  | .tdcArm _ _ => true
  | .tdcAbort _ _ => true
  | .tdcStartEdge _ _ _ _ _ => true
  | .tdcStopEdge _ _ _ _ _ => true
  | .tdcWindowClose _ _ => true
  | .tdcHistRearm _ _ => true
  | .siteNop _ => true
  | .siteArm _ => true
  | .siteArmDone _ => true
  | .siteDisarm _ => true
  | .siteDisarmDone _ => true
  | .siteGo _ => true
  | .goSchedule _ => true
  | .siteStart _ => true
  | .goTimeout _ => true
  | .goReq _ ttl sp src => ttl < 32 && chipOk sp && chipOk src
  | .goReady dest src sp idx lat chips => chipOk dest && chipOk src && chipOk sp && idx < 256 && lat < 65536 && chips < 512
  | .go _ ttl sp src t => ttl < 32 && chipOk sp && chipOk src && t < 2 ^ 64
  | .goCancel _ ttl sp src => ttl < 32 && chipOk sp && chipOk src
  | .arrive dest src sp idx => chipOk dest && chipOk src && chipOk sp && idx < 256
  | .release _ ttl sp src t => ttl < 32 && chipOk sp && chipOk src && t < 2 ^ 64
  | .dtArrive src _ => chipOk src
  | .dtRelease src t => chipOk src && t < 2 ^ 64
  | .transitResume _ => true
  | .transitTimeout _ => true
  | .flags _ ttl sp src idx q bits notice => ttl < 32 && chipOk sp && chipOk src && idx < 256 && q < 65536 && bits < 512 && notice.all (fun g => g < 2 ^ 32)
  | .spanFlagDeadline _ => true
  | .heartbeatTimer _ => true
  | .heartbeat _ ttl sp src idx => ttl < 32 && chipOk sp && chipOk src && idx < 256
  | .memberLost _ _ => true
  | .halted _ ttl sp src idx _ => ttl < 32 && chipOk sp && chipOk src && idx < 256
  | .spanResultTimeout _ => true
  | .enumWaitExpire => true
  | .ultEnumStart => true
  | .enumReport _ size => size < 131072
  | .enumAssign _ base => chipOk base
  | .ultRmtRead => true
  | .ultRmtWrite => true
  | .rdReq dest src tag off => chipOk dest && chipOk src && tag < 256 && off < 2 ^ 27
  | .rdRsp dest src tag status _ => chipOk dest && chipOk src && tag < 256 && status < 16
  | .wrReq dest src tag off _ => chipOk dest && chipOk src && tag < 256 && off < 2 ^ 27
  | .wrRsp dest src tag status => chipOk dest && chipOk src && tag < 256 && status < 16
  | .mgmtTimeout => true
  | .write _ dest src addr data => chipOk dest && chipOk src && byteRange addr data.length && data.length ≤ 256 && data.length % 8 == 0
  | .writeAck dest src addr status block => chipOk dest && chipOk src && addr < 2 ^ 40 && status < 16 && block < 2 ^ 64
  | .ultBadMessage _ _ beats => 0 < beats
  | .ultPortCtrlWrite _ _ => true
  | .ultPortRetrain _ => true
  | .ultBitslip _ _ _ => true
  | .ultLanePartnerDetect _ _ => true
  | .ultLaneBlockLock _ _ => true
  | .ultLaneStateTimeout _ _ => true
  | .ultLaneCapsDone _ _ id depth port top => id.all chipOk && depth.all (fun x => x < 256) && port < 4 && top < 16
  | .ultLaneRateStepDone _ _ => true
  | .ultEqRequest _ _ _ => true
  | .ultEqDone _ _ => true
  | .ultBerCheckDone _ _ _ => true
  | .ultLaneLockLost _ _ => true
  | .xlCtrlWrite _ _ _ => true
  | .xlStart _ _ => true
  | .xlStop _ _ => true
  | .xlErrClr _ _ => true
  | .xlBitslip _ _ => true
  | .xlMark _ _ => true
  | .xlRetrain _ _ => true
  | .xlEyeStart _ _ => true
  | .xlEyeAbort _ _ => true
  | .xlEyePointDone _ _ => true
  | .xlPllLock _ => true
  | .xlTrainDone _ pre post => pre < 16 && post < 16
  | .xlTrainTimeout _ => true
  | .xlPrbsLock _ _ => true
  | .xlLockLoss _ _ => true
  | .xlSigLoss _ _ => true
  | .xlErrThresh _ _ => true
  | .xlPayloadEnd _ _ => true
  | .xlmarkLaneAct _ _ => true
  | .xlHaltStop _ _ => true
  | .xlEventFlagSet _ => true
  | .coreRunWrite _ _ => true
  | .storeBufferDrain _ => true
  | .coreFence _ _ _ => true
  | .coreFenceI _ => true
  | .coreAmo _ _ _ _ _ _ _ _ => true
  | .coreLr _ _ _ _ _ _ => true
  | .coreSc _ _ _ _ _ _ _ => true
  | .coreWfi _ => true
  | .coreFastTrap _ _ => true
  | .mtimecmpMatch _ => true
  | .schedEnqueue _ _ => true
  | .schedTake _ _ => true
  | .schedDone _ _ => true
  | .schedCoreCfgWrite _ _ => true
  | .intcSourceRise _ => true
  | .intcSourceFall _ => true
  | .intcSetpend _ _ => true
  | .intcPendClear _ _ => true
  | .intcSrcCfgWrite _ _ _ => true
  | .intcClaim _ _ => true
  | .intcEoi _ _ => true
  | .intcPush _ _ => true
  | .pcieConfigRequest reg _ => reg < 1024
  | .pcieReset _ => true
  | .pciePerst _ => true
  | .dmaEnableWrite _ _ => true
  | .dmaAbort _ => true
  | .dmaTailWrite _ _ => true
  | .dmaDescriptorFetch _ d _ => d.length == 32
  | .dmaH2d _ _ _ => true
  | .dmaD2h _ _ _ => true
  | .dmaBcast _ _ _ => true
  | .dmaRemote _ _ _ => true
  | .dmaRemoteAckTimeout _ => true
  | .dmaDescriptorDone _ => true
  | .msixSend _ => true
  | .mbxPost _ _ _ => true
  | .mbxTake _ _ => true
  | .mbxTimeout _ => true
  | .mbxAck _ _ _ => true
  | .dbH2dSet _ _ => true
  | .dbH2dClr _ _ => true
  | .dbD2hSet _ _ => true
  | .dbD2hClr _ _ => true
  | .timeRateWrite _ _ => true
  | .timeOffsetWrite _ _ _ => true
  | .timeAdjWrite _ _ _ => true
  | .timeTbNsRead _ _ => true
  | .tsqFind _ _ => true
  | .syncSendTimer => true
  | .sync _ t _ _ => t < 2 ^ 64
  | .echoTimer => true
  | .echoReq _ t _ => t < 2 ^ 64
  | .echoRsp _ t _ => t < 2 ^ 64
  | .syncMissed => true
  | .fallbackStep => true
  | .ethFrameTransmit d => !d.isEmpty
  | .ethFrameReceive d _ => !d.isEmpty
  | .govEvaluation => true
  | .admissionRequest _ => true
  | .xchkBad => true
  | .durOver _ => true
  | .calRequestTdcCd _ _ => true
  | .calRequestLevelDac _ _ => true
  | .calRequestClusterFull _ _ => true
  | .calCancel _ _ => true
  | .calActivityEnd _ _ _ _ => true
  | .calSlewTick _ _ => true
  | .calSpanStart _ _ => true
  | .spanSkewHold _ => true
  | .spanSkewBusyTimeout => true
  | .spanSkewEnd _ _ => true
  | .ephRead _ => true
  | .ephRecord => true
  | .pwrgoodRise => true
  | .pwrgoodFall => true
  | .rstNRise _ _ _ => true
  | .rstNPulse _ _ _ => true
  | .bootResetWrite _ => true
  | .softwareReset => true
  | .bootRomDone => true
  | .bootFlashDiscovery _ _ _ _ => true
  | .bootSelect => true
  | .bootHeader => true
  | .bootMgmtFw => true
  | .bootClocks => true
  | .bootNoRefclk => true
  | .bootPllLockTimeout => true
  | .bootLoad => true
  | .bootHbmTrain _ => true
  | .configReg => true
  | .configMem => true
  | .configPoll => true
  | .configPollTimeout => true
  | .configFill => true
  | .configEnd => true
  | .bootFinal => true
  | .updateStage _ _ _ => true
  | .updateActivate => true
  | .updateConfirm => true
  | .updateReboot => true
  | .updateBadRequest => true
  | .updateDone => true
  | .peSafeNAssert => true
  | .peSafeNRelease => true
  | .thermalTrip => true
  | .safeForceWrite _ => true
  | .safeExit => true
  | .wdtEnable _ => true
  | .wdtKick _ _ => true
  | .wdtExpire => true
  | .wdtReset => true
  | .sensorRefresh _ _ => true
  | .railCurrentSense _ => true
  | .vbatLoss => true
  | .kaRtcWrite _ _ => true
  | .kaClr _ _ => true
  | .logAppend _ _ => true
  | .logRdIdxWrite _ => true
  | .logRecordWrite => true
  | .ledgerCommit _ => true
  | .ledgerHoursTimer => true
  | .uartRxByte _ _ => true
  | .uartDataWrite _ => true
  | .uartDataRead _ => true
  | .smbReadSafeStatus => true
  | .smbReadTemp => true
  | .smbReadBootStage => true
  | .smbReadId => true
  | .smbReadChipId => true
  | .smbAlertResponse => true
  | .jtagTapReset => true
  | .jtagBypass _ => true
  | .jtagIdcode => true
  | .jtagSamplePreload _ _ => true
  | .jtagExtest _ _ => true
  | .jtagClamp _ => true
  | .jtagHighz _ => true
  | .jtagRegAccess _ off => wordOff off
  | .vidStep => true
  | .internalResetRelease _ _ _ => true
  | .pcieLinkUp _ _ => true
  | .uartTxByteSent => true
  | .coreTrap _ _ code _ => code < 2 ^ 63
  | .spanSkewBarrier _ => true

end Sys2Proof
end

