-- ==== Sys2Proof/Tests/Slice0.lean ====
section
/-!
SUPPORT. Tests of the model against the spec's worked examples, ill-formed commands that the checks refuse, and for every
statement a state and operands that meet its hypotheses.
-/

set_option maxRecDepth 100000
set_option linter.unusedVariables false
open Sys2Proof Sys2Proof.Machine
namespace Sys2Proof.Tests
/-- Site core 15 runs. -/
abbrev LIVE : State := State.reset.put (F.SCHED_CORE_n_CTRL_RUN 15) 1
/-- A chip whose up-port is P3. -/
abbrev UPPORT : State := State.reset.put F.ULT_STATUS_UP_PORT 3
/-- The entry of a drawer that COMMIT accepts. -/
abbrev ENTRY : List Byte := [0, 16, 0, 0, 0, 0, 0, 0, 16, 0, 0, 0, 1, 0, 1, 0, 1, 0, 0, 0, 0, 0, 0, 0, 0, 32, 0, 0, 0, 0, 0, 0, 7, 0, 0, 0, 0, 0, 0, 0, 0, 0, 0, 0, 0, 0, 0, 0, 0, 0, 0, 0, 0, 0, 0, 0, 0, 0, 0, 0, 70, 56, 36, 1]
/-- A COMMIT of drawer 5 is in progress. -/
abbrev COMMITTING : State :=
  { (State.reset.putN R.DRW_CMD_STATUS 0x80001000).wrBytes (entryAddr 5) ENTRY with drw := { cmdId := 5, latched := ENTRY } }
/-- Site 63 may fetch one slab of drawer 1048575. -/
abbrev FETCH : State :=
  let i : Item := ⟨1048575, 0, .run 0 0 1 { id := 1048575, base := 64, len := 16, type := 1, mask := 1 }, [], [], 0⟩
  (((State.reset.put (F.STRM_SITE_n_FLAGS_ARMED 63) 1).putN (R.STRM_SITE_n_REQ 63) 4096).updStrm 63
    (fun x => { x with units := 1, credit := 655360, rate := 1000 })).updSite 63 (fun x => { x with octs := [0] }) |>.updSeq 63
    (fun c => { c with main := { c.main with items := [i] } })
/-- A path at the second of four instructions of drawer 5, which is the word `w`. -/
abbrev PATH (w : Nat) (f : Path → Path) : Path :=
  f { ent := { id := 5, type := 1, len := 100, mask := 1, ilen := 4 }, idx := 1, stop := .none, ibuf := [(1, { word := w })],
      limit := 256 }
/-- Site 63 is armed, its engine serves it, and path `p` of its context stands at the word `w`. -/
abbrev RUNS (w : Nat) (p : Option Nat) (f : Path → Path) : State :=
  let s := (State.reset.put (F.SITE_n_STATUS_STATE 63) 1).put F.SEQ_UCS_STATUS_LOADED 1
  let s : State := { s with ucs := [(opcodeOf w, 2 ^ 13)], eng := [(15, { cur := 3 })] }
  s.updSeq 63 (fun c => match p with
    | none => { c with main := PATH w f }
    | some _ => { c with pfs := [⟨.target 5 0, PATH w f⟩] })
/-- The same on the fall-through path, with drawers 9 and 10 committed and drawer 9 held by the context. -/
abbrev HELDRUNS (w : Nat) (f : Path → Path) : State :=
  ((RUNS w none f).putN (R.DRW_COMMIT_MAP_w 0) 0x600).updSeq 63 (fun c => { c with sels := [⟨9, 0⟩] })
/-- Site 63 plays, with these entries in its play queue. -/
abbrev PLAYS (k : Nat) (l : List Item) (r : Option Bool) (pol : Nat) : State :=
  ((State.reset.put (F.SITE_n_STATUS_STATE 63) 3).updStrm 63 (fun x => { x with nextReady := r, policy := pol })).updSeq 63
    (fun c => { c with main := { c.main with items := l }, play := { c.play with on := true, inFrame := k, nGran := 7 } })
/-- Site 63 is armed and uses cluster 31. -/
abbrev USES : State := (State.reset.put (F.SITE_n_STATUS_STATE 63) 1).updSite 63 (fun x => { x with octs := [62, 63] })
/-- A granule of site 63 that expects L on channel 504. -/
abbrev JGRAN : Gran :=
  { hold := false, ranks := [0], mask := 1, octets := 1, slabs := [[4]], ents := [{ en := 0x3F }], vnum := 224 }
/-- Site 63 uses octet 63, and the first vector of the granule is to be judged. -/
abbrev JUDGES : State :=
  let s := (State.reset.put (F.SITE_n_STATUS_STATE 63) 3).put (F.CLU_k_BANK_STATUS_IN_WINDOW 31) 1
  ((s.put F.GLB_STATUS_SAFE 0).updSite 63 (fun x => { x with octs := [63] })).updPlay 63 (fun p => { p with judging := [JGRAN] })
/-- The trigger sequencer of site 63 may take arm A, whose event is ALWAYS, to state 5. -/
abbrev TRIGS : State :=
  let w := 2 ^ (F.CAPT_SITE_n_TRIG_ST_s_TRANS_EV_A 63 0).lo + 5 * 2 ^ (F.CAPT_SITE_n_TRIG_ST_s_TRANS_NEXT_A 63 0).lo
  State.reset.updCapt 63 (fun x => { x with evValid := true, evPhase := 2, trans := [w], tmrDue := [none, none, none, none] })
/-- Counter 3 of site 63 counts every vector and is one short of its limit. -/
abbrev COUNTS : State :=
  let w := 2 ^ (F.CAPT_SITE_n_CNT_k_CFG_EV 63 3).lo
  (State.reset.putN (R.CAPT_SITE_n_CNT_k 63 3) 6).updCapt 63 (fun x => { x with
    evValid := true, cntCfg := [0, 0, 0, w], cntLimit := [0, 0, 0, 7], cntDone := [false, false, false, false] })
/-- The state of the trigger sequencer of site 63 holds off for 1 microsecond. -/
abbrev HOLDS : State :=
  let w := 2 ^ (F.CAPT_SITE_n_TRIG_ST_s_HOLD_MODE 63 0).lo + 2 ^ (F.CAPT_SITE_n_TRIG_ST_s_HOLD_COUNT 63 0).lo
  State.reset.updCapt 63 (fun x => { x with
    evValid := true, evPhase := 1, holds := [w], holdFrom := some 0, evPos := 32000 })
/-- Site 63 passes the checks of an arm. -/
abbrev ARMABLE : State :=
  let s := (State.reset.put F.GLB_STATUS_READY 1).put F.GLB_STATUS_SAFE 0
  let s := (s.put (F.CLU_k_BANK_CFG_VNOM 31) 1800).put (F.CLU_k_BANK_STATUS_IN_WINDOW 31) 1
  (s.putN (R.SITE_n_OCT_LO 63 + 4) 0x80000000).put (F.STRM_SITE_n_CFG_FIFO_UNITS 63) 1 |>.put (F.FAIL_SITE_n_CFG_REC_MAX 63) 0
/-- Site 63 in a state, as primary (1) or member (2) of a span of two chips. -/
abbrev SPANS (st role : Nat) : State :=
  (State.reset.put (F.SITE_n_STATUS_STATE 63) st).updSite 63 (fun x => { x with
    role := role, spanId := 7, chips := 2, index := role - 1, hops := 1 })
/-- Site 63 is STARTING and admitted. -/
abbrev READYSITE (role : Nat) : State := (SPANS 2 role).put (F.GOV_SITE_n_STATUS_STATE 63) 2 |>.put (F.SITE_n_GO_CFG_WAIT_PRIMED 63) 0
/-- The chip has the ID 5. -/
abbrev HERE (s : State) : State := (s.put F.ULT_STATUS_ID_VALID 1).put F.ULT_STATUS_CHIP_ID 5
/-- Site 63 waits at a barrier that it has reported to. -/
abbrev WAITS (scope role : Nat) : State :=
  ((SPANS 4 role).updSite 63 (fun x => { x with arrived := true })).updPlay 63 (fun p => { p with wait := .trStop scope 1 0 })
/-- Express lane 127 is enabled and in a state. -/
abbrev LANE (st : Nat) : State :=
  ((State.reset.put F.GLB_STATUS_SAFE 0).put (F.XL_n_CTRL_ENABLE 127) 1).put (F.XL_n_STATUS_STATE 127) st
/-- The same, RUNNING with a locked PRBS checker. -/
abbrev CHECKS : State :=
  ((LANE 3).put (F.XL_n_STATUS_LOCK 127) 1).updLane 127 (fun x => { x with checker := true, rxSrc := 5, rate := 1 })
/-- Site core 15 runs with registers x5 (an address) and x6. -/
abbrev CORE (a b : Nat) (f : Hart → Hart) : State :=
  LIVE.updHart 15 (fun h => f (((h.set 5 (BitVec.ofNat 64 a)).set 6 (BitVec.ofNat 64 b))))
/-- A work item of a flow and a priority. -/
abbrev ITEM (flow prio : Nat) : WItem := ⟨List.replicate 16 0 ++ leBytes 2 flow ++ leBytes 1 prio ++ List.replicate 13 0⟩
/-- The interrupt controller has source 7, of class B and priority 15, assigned to target 16 and pending. -/
abbrev PENDS : State :=
  let s := ((State.reset.put (F.INTC_SRC_s_CFG_CLASS 7) 1).put (F.INTC_SRC_s_CFG_PRIO 7) 15).putN (R.INTC_SRC_s_ROUTE 7) (2 ^ 31 + 16)
  { s with intc := { s.intc with latch := 128 } }
/-- Site core 15 is stopped, and the scheduler does not use it. -/
abbrev IDLECORE : State := State.reset.put (F.SCHED_CORE_n_CFG_SCHED_EN 15) 0
/-- DMA engine 7 has fetched a descriptor `d` with no condition met. -/
abbrev FETCHED (d : DmaDesc) : State := State.reset.updDma 7 (fun x => { x with ring := 0x7000, log2 := 4, cur := some d })
/-- Mailbox 31, whose receiver is the host, is full; the notice came from core 15. -/
abbrev FULLBOX : State :=
  let s := ((State.reset.put (F.MBX_m_CFG_RX 31) 17).put (F.MBX_m_STATUS_FULL 31) 1).put (F.MBX_m_STATUS_SRC 31) 15
  s.updMbx 31 (fun x => { x with timer := some (0, 5) })
/-- The chip follows the SYNCs of its up-port P3. -/
abbrev FOLLOWS : State := UPPORT.put (F.ULT_Pk_STATUS_WIDTH 3) 2
/-- Site 63 is STARTING without admission and has sampled a declared duration. -/
abbrev ASKS : State :=
  (State.reset.put (F.SITE_n_STATUS_STATE 63) 2).put F.GOV_BUDGET_BUDGET 65535
/-- The reference of the chip is valid. -/
abbrev REFOK : State := (State.reset.put F.CLK_REF_STATUS_PRESENT 1).put F.CLK_REF_STATUS_FREQ_OK 1 |>.put F.CLK_REF_STATUS_HOLDOVER 0
/-- Site 63 holds cluster 31 for SPAN_SKEW. -/
abbrev SKEWS (count : Nat) : State :=
  let s : State := { (SPANS 1 1) with cal := { span := { site := some 63, holds := true, count := count } } }
  (s.updSite 63 (fun x => { x with octs := [63] })).put (F.CAL_CL_k_STATE_ACTIVE 31) 4
/-- The boot is in a stage. -/
abbrev STAGE (n : Nat) : State := State.reset.put F.BOOT_STAGE_STAGE n
/-- The flash holds, in slot A, a header with one section: CHIP_CONFIG of the bytes `p` at 0x240. -/
abbrev FLASHREC (p : List Byte) : State :=
  let b := fun (a : Nat) (l : List Byte) => l.zipIdx.map (fun x => (a + x.2, x.1))
  let f := b 0x14 [1] ++ b 0xE0 ([1, 0, 0, 0, 0x40, 2, 0, 0] ++ leBytes 4 p.length) ++ b 0x240 p
  { STAGE 9 with mgmt := { flash := f } }
/-- Mailbox 0 holds a notice for the management core that points to the request block `l` in the core shared SRAM. -/
abbrev REQUEST (l : List Byte) : State :=
  let s := ((State.reset.put F.GLB_STATUS_READY 1).put (F.MBX_m_CFG_RX 0) 16).put (F.MBX_m_STATUS_FULL 0) 1
  (s.putPair (R.MBX_m_NOTICE_LO 0) 0xD00000000).wrBytes 0xD00000000 l
/-- Slot A holds a header with the section MGMT_FW of 17 bytes at 0x240, of stage MGMT_FW. -/
abbrev FWSLOT : State :=
  let b := fun (a : Nat) (l : List Byte) => l.zipIdx.map (fun x => (a + x.2, x.1))
  let f := b 0x14 [1] ++ b 0xE0 [5, 0, 0, 0, 0x40, 2, 0, 0, 17, 0, 0, 0] ++ b 0x240 ([9] ++ List.replicate 7 0 ++ [1] ++ List.replicate 8 0)
  { STAGE 5 with mgmt := { flash := f } }
/-- The next record writes 7 to GLB_SCRATCH0. -/
abbrev SCRREC : State := FLASHREC (List.append [1, 0, 8, 0] (leBytes 4 (R.GLB_SCRATCHk 0) ++ leBytes 4 7))
/-- Ring slot 1 of the log holds the record of number 5. -/
abbrev LOGGED : State :=
  let r : List Byte := leBytes 4 5 ++ List.replicate 56 7
  State.flashWr (State.reset.put F.BOOT_FLASH_SIZE_LOG2 25) (0x1020000 + 64) (r ++ leBytes 4 (crc32c r))

/-! ## The checks on commands refuse ill-formed terms -/

theorem test_wf_registerWrite : (Instr.registerWrite .host (2 ^ 27) 4 0).wf = false ∧ (Instr.registerWrite .host 0 3 0).wf = false ∧ (Instr.registerWrite .host 0 4 (2 ^ 32)).wf = false := by decide
theorem test_wf_rcRead : (Instr.rcRead .host 2).wf = false ∧ (Instr.rcRead .host (2 ^ 27)).wf = false := by decide
theorem test_wf_pairLoRead : (Instr.pairLoRead .host 3).wf = false := by decide
theorem test_wf_pairHiRead : (Instr.pairHiRead .host 1).wf = false := by decide
theorem test_wf_pairHiWrite : (Instr.pairHiWrite .host 2 0).wf = false := by decide
theorem test_wf_pairLoWrite : (Instr.pairLoWrite .host 2 0).wf = false := by decide
theorem test_wf_memoryWrite : (Instr.memoryWrite .host 0 []).wf = false ∧ (Instr.memoryWrite .host (2 ^ 40 - 1) [0, 0]).wf = false := by decide
theorem test_wf_memoryRead : (Instr.memoryRead .host 0 0 [] []).wf = false ∧ (Instr.memoryRead .host 0 32 [1] []).wf = false ∧ (Instr.memoryRead .host 32 32 [] [0]).wf = false := by decide
theorem test_wf_eccWriteback : (Instr.eccWriteback (9 * 2 ^ 27)).wf = false := by decide
theorem test_wf_memcEnqueue : (Instr.memcEnqueue .host true 0 0 0).wf = false ∧ (Instr.memcEnqueue .host true (36 * 2 ^ 30) 1 0).wf = false ∧ (Instr.memcEnqueue .host true 0 1 8).wf = false := by decide
theorem test_wf_stackTempChange : (Instr.stackTempChange 128).wf = false ∧ (Instr.stackTempChange (-129)).wf = false := by decide
theorem test_wf_ilistFetchDone : (Instr.ilistFetchDone 0 none 0 0 [] []).wf = false := by decide
theorem test_wf_vectorResult : (Instr.vectorResult 0 [⟨512, [], []⟩]).wf = false := by decide
theorem test_wf_goReq : (Instr.goReq 0 32 0 0).wf = false ∧ (Instr.goReq 0 0 65536 0).wf = false ∧ (Instr.goReq 0 0 0 65536).wf = false := by decide
theorem test_wf_goReady : (Instr.goReady 65536 0 0 0 0 0).wf = false ∧ (Instr.goReady 0 0 0 256 0 0).wf = false ∧ (Instr.goReady 0 0 0 0 65536 0).wf = false ∧ (Instr.goReady 0 0 0 0 0 512).wf = false := by decide
theorem test_wf_go : (Instr.go 0 32 0 0 0).wf = false ∧ (Instr.go 0 0 0 0 (2 ^ 64)).wf = false := by decide
theorem test_wf_goCancel : (Instr.goCancel 0 32 0 0).wf = false := by decide
theorem test_wf_arrive : (Instr.arrive 0 0 0 256).wf = false := by decide
theorem test_wf_release : (Instr.release 0 0 0 0 (2 ^ 64)).wf = false := by decide
theorem test_wf_dtArrive : (Instr.dtArrive 65536 0).wf = false := by decide
theorem test_wf_dtRelease : (Instr.dtRelease 0 (2 ^ 64)).wf = false := by decide
theorem test_wf_flags : (Instr.flags 0 0 0 0 0 65536 0 none).wf = false ∧ (Instr.flags 0 0 0 0 0 0 512 none).wf = false ∧ (Instr.flags 0 0 0 0 0 0 0 (some (2 ^ 32))).wf = false := by decide
theorem test_wf_heartbeat : (Instr.heartbeat 0 0 0 0 256).wf = false := by decide
theorem test_wf_halted : (Instr.halted 0 0 0 0 256 0).wf = false := by decide
theorem test_wf_enumReport : (Instr.enumReport 0 131072).wf = false := by decide
theorem test_wf_enumAssign : (Instr.enumAssign 0 65536).wf = false := by decide
theorem test_wf_rdReq : (Instr.rdReq 0 0 256 0).wf = false ∧ (Instr.rdReq 0 0 0 (2 ^ 27)).wf = false := by decide
theorem test_wf_rdRsp : (Instr.rdRsp 0 0 0 16 0).wf = false := by decide
theorem test_wf_wrReq : (Instr.wrReq 0 0 0 (2 ^ 27) 0).wf = false := by decide
theorem test_wf_wrRsp : (Instr.wrRsp 0 0 256 0).wf = false := by decide
theorem test_wf_write : (Instr.write true 0 0 0 [0]).wf = false ∧ (Instr.write true 0 0 0 []).wf = false := by decide
theorem test_wf_writeAck : (Instr.writeAck 0 0 (2 ^ 40) 0 0).wf = false := by decide
theorem test_wf_ultBadMessage : (Instr.ultBadMessage 0 true 0).wf = false := by decide
theorem test_wf_ultLaneCapsDone : (Instr.ultLaneCapsDone 0 0 (some 65536) none 0 0).wf = false ∧ (Instr.ultLaneCapsDone 0 0 none none 4 0).wf = false := by decide
theorem test_wf_xlTrainDone : (Instr.xlTrainDone 0 16 0).wf = false := by decide
theorem test_wf_pcieConfigRequest : (Instr.pcieConfigRequest 1024 none).wf = false := by decide
theorem test_wf_dmaDescriptorFetch : (Instr.dmaDescriptorFetch 0 [] true).wf = false := by decide
theorem test_wf_sync : (Instr.sync 0 (2 ^ 64) 0 0).wf = false := by decide
theorem test_wf_echoReq : (Instr.echoReq 0 (2 ^ 64) 0).wf = false := by decide
theorem test_wf_echoRsp : (Instr.echoRsp 0 (2 ^ 64) 0).wf = false := by decide
theorem test_wf_ethFrameTransmit : (Instr.ethFrameTransmit []).wf = false := by decide
theorem test_wf_ethFrameReceive : (Instr.ethFrameReceive [] true).wf = false := by decide
theorem test_wf_jtagRegAccess : (Instr.jtagRegAccess none 1).wf = false := by decide
theorem test_wf_coreTrap : (Instr.coreTrap 0 false (2 ^ 63) 0).wf = false := by decide
theorem test_wf_holds : Instr.wf (.registerWrite .host 0x7FFFFFF 1 255) = true ∧ Instr.wf (.memoryWrite .host (2 ^ 40 - 1) [0]) = true ∧ Instr.wf (.goReady 65535 65535 65535 255 65535 511) = true := by decide

/-! ## Worked examples of the spec -/

/-- Chapter 01, committing a 64-bit value: the write of _HI changes nothing, the write of _LO commits both halves. -/
theorem test_pair_commit :
    let s := registerWrite .host (R.TIME_TB_i_OFFSET_LO 3 + 4) 4 0x12 State.reset
    s.regs = [] ∧ (registerWrite .host (R.TIME_TB_i_OFFSET_LO 3) 4 0x34567890 s).pair (R.TIME_TB_i_OFFSET_LO 3) = 0x1234567890 := by
  decide

/-- Chapter 02, a 40-channel drawer in HBM: the address of the directory entry, and the entry as written. -/
theorem test_directory_entry :
    entryAddr 0xA37 = 0x8FC028DC0 ∧
    decodeEntry 0xA37 (leBytes 8 0x123400000 ++ leBytes 4 0x40 ++ [1, 0] ++ leBytes 2 12 ++ leBytes 8 0x1F ++
      leBytes 8 0x123407800 ++ leBytes 4 41000 ++ List.replicate 28 0) =
      { id := 0xA37, base := 0x123400000, len := 0x40, type := 1, flags := 0, ilen := 12, mask := 0x1F,
        iaddr := 0x123407800, energy := 41000 } := by decide

/-- Chapter 02: the slab of rank 2 in granule 31 starts at 0x123403AE0, and the symbol of CH97 at vector 1000 lies in bits
[5:3] of byte 24. -/
theorem test_symbol_of_ch97 :
    (0x123400000 + 96 * (31 * 5 + 2) : Nat) = 0x123403AE0 ∧
    slabSym (List.append (List.replicate 24 0) [0x28]) 8 1 = 5 ∧ slabSym (List.append (List.replicate 24 0xFF) [0xC7]) 8 1 = 0 := by
  decide

/-- Chapter 03, the largest request against the smallest FIFO, and with 7 units. -/
theorem test_request_size : reqBytes 16 1 21 = 8320 ∧ reqBytes 16 7 21 = 16384 ∧ fetchQuarter 7 21 = 106624 := by decide

/-- Chapter 04, locating one slab byte. -/
theorem test_hbm_location : hbmLoc 0x123403AF8 = { pc := 14, bank := 32, row := 3106, col := 504 } := by decide

/-- Chapter 05, a match loop: the MATCHWAIT word packs SPAN 0, PASSES 100,000, DRAWER 0x200 and TIDX 6. -/
theorem test_matchwait_word :
    opcodeOf 0x09186A0002000006 = opMatchwait ∧ wf 0x09186A0002000006 55 55 = 0 ∧ wf 0x09186A0002000006 54 36 = 100000 ∧
      wf 0x09186A0002000006 35 16 = 0x200 ∧ wf 0x09186A0002000006 15 0 = 6 := by decide

/-- Chapter 05: at a period of 10 ns with a compare edge at 5 ns the shadow of a local flag is one granule. -/
theorem test_shadow_granules : granNeed (32000 * (160 - 5)) 320000 = 1 ∧ granNeed (32000 * 159 + 16000) 64000 = 3 := by decide

/-- Chapter 14, rate and format: the correction after one second, and 10,000,000,000 ns in both formats. -/
theorem test_time_formats :
    longForm 10000000000 = (0, 10, 0) ∧ (10000000000 : Nat) % 2 ^ 32 = 1410065408 ∧
      (43980465 * 10 ^ 9 : Int) / 2 ^ 44 = 2499 := by decide

/-- Chapter 15, a burst admission: at 159 W, from 100 °C, 2900 ms keep below 105 °C and 3100 ms do not. -/
theorem test_burst_decision :
    let s : State := (State.reset.put F.GOV_BASE_PWR_P 0).setTj 100
    s.burstCool 159000000 2900 = some true ∧ s.burstCool 159000000 3100 = some false := by decide +kernel

/-- Chapter 20, one TDC stop register. -/
theorem test_tdc_stop_offset : R.CLU_k_TDC_u_STOP_i_LO 18 2 3 + 4 = 0x14AA11C := by decide

/-- Chapter 13, a receiver that comes back late: the second notice collides, and is the one that is taken. -/
theorem test_mailbox_collision :
    let s := State.reset.put (F.MBX_m_CFG_RX 5) 3
    let s := mbxPost .host 5 2 (mbxPost .host 5 1 s)
    s.get (F.MBX_m_STATUS_FULL 5) = 1 ∧ s.num (R.MBX_m_NOTICE_LO 5) = 2 := by decide

/-- No row of the opcode table has bits, so no word spells a command. -/
theorem test_no_word_decodes : decodeTableWord 64 0x0100000000000040 = none ∧ decodeTableWord 0 0 = none := by decide

/-! ## Witnesses of the hypotheses of the statements -/

theorem witness_RegisterWrites :
    (∃ s : State, ∃ (r : Req) (k : Fin 4) (v : Nat), (v < 2 ^ 32)) ∧
    (∃ s : State, ∃ (r : Req) (v : Nat), (v < 2 ^ 32)) ∧
    (∃ s : State, ∃ (r : Req) (n : Site) (v : Nat), (s.compat 3 = false) ∧ (v < 2 ^ 32) ∧ (v / 2 ^ 16 % 128 = 0 ∨ 65 ≤ v / 2 ^ 16 % 128) ∧ (v % 4 ≠ 3)) ∧
    (∃ s : State, ∃ (r : Req) (off : Nat) (size : Nat) (v : Nat), (off < 2 ^ 27) ∧ (size = 1 ∨ size = 2 ∨ size = 4 ∧ off % 4 ≠ 0)) ∧
    (∃ s : State, ∃ (r : Req) (off : Nat) (v : Nat), (off < 2 ^ 27) ∧ (off % 4 = 0) ∧ (s.regMapped off = false)) ∧
    (∃ s : State, ∃ (r : Req) (off : Nat) (v : Nat), (off + 4 < 2 ^ 27)) :=
  ⟨⟨State.reset, .host, 3, 0xFFFFFFFF, by decide⟩,
   ⟨State.reset, .mgmt, 0xFFFFFFFF, by decide⟩,
   ⟨State.reset, .host, 63, 0x410002, by decide⟩,
   ⟨State.reset, .host, 0x7FFFFFF, 4, 0, by decide⟩,
   ⟨State.reset, .ulten, 0x7FFFFFC, 0, by decide⟩,
   ⟨State.reset, .host, 0x7FFFFF8, 1, by decide⟩⟩

theorem witness_PairAccesses :
    (∃ s : State, ∃ (r : Req) (off : Nat) (v : Word), (isPairHi off = true)) ∧
    (∃ s : State, ∃ (r : Req) (off : Nat), (isPairHi off = true)) :=
  ⟨⟨State.reset, .dma 7, R.DRW_CMD_ARG_HI, 5, by decide⟩,
   ⟨State.reset, .core 15, R.MGS_KA_RTC_LO + 4, by decide⟩⟩

theorem witness_MemoryAccesses :
    (∃ s : State, ∃ (r : Req) (a : Nat) (d : List Byte), (∀ n, r ≠ .core n) ∧ (0xD00000000 ≤ a) ∧ (a + d.length ≤ 0xD00400000)) ∧
    (∃ s : State, ∃ (r : Req) (a : Nat) (d : List Byte), (∀ n, r ≠ .core n) ∧ (r ≠ .device) ∧ (0xC02000000 ≤ a) ∧ (a + d.length ≤ 0xC05000000) ∧ (d ≠ []) ∧ (a / 64 = (a + d.length - 1) / 64) ∧ (s.artHits (a, d.length) ≠ [])) ∧
    (∃ s : State, ∃ (r : Req) (a : Nat) (d : List Byte), (∀ n, r ≠ .core n) ∧ (0xC00000000 ≤ a) ∧ (a + d.length ≤ 0xC02000000) ∧ (d ≠ []) ∧ (a / 64 = (a + d.length - 1) / 64)) ∧
    (∃ s : State, ∃ (n : Core) (a : Nat) (d : List Byte), (s.coreLive n = true) ∧ (d.length = 1 ∨ d.length = 2 ∨ d.length = 4 ∨ d.length = 8) ∧ (a % d.length = 0) ∧ ((s.hartOf n).sb.length < 8)) ∧
    (∃ s : State, ∃ (r : Req) (a : Nat) (n : Nat) (ce : List Nat) (ue : List Nat), (∀ n, r ≠ .core n) ∧ (0xD00000000 ≤ a) ∧ (a + n ≤ 0xD00400000)) ∧
    (∃ s : State, ∃ (b : Nat), (s.memc.writebacks.contains b = true) ∧ ((s.bankOf (hbmLoc (32 * b)).pc (hbmLoc (32 * b)).bank).busy = false)) :=
  ⟨⟨State.reset, .host, 0xD003FFFFF, [1], by decide⟩,
   ⟨{ (State.reset.putN (R.DRW_ART_n 255) (2 ^ 31 + 63 * 2 ^ 24 + 9)) with art := [(255, { ranges := [(0xC04FFFFC0, 64)] })] }, .host, 0xC04FFFFFF, [7], by decide⟩,
   ⟨State.reset, .mgmt, 0xC01FFFFFF, [1], by decide⟩,
   ⟨LIVE, 15, 0xD00000008, [1, 2, 3, 4, 5, 6, 7, 8], by decide⟩,
   ⟨State.reset, .host, 0xD003FFFFF, 1, [], [], by decide⟩,
   ⟨{ State.reset with memc := { writebacks := [5], ceBursts := [5] } }, 5, by decide⟩⟩

theorem witness_ClockCommands :
    (∃ s : State, (s.get F.CLK_REF_STATUS_PRESENT = 1) ∧ (s.get F.CLK_REF_STATUS_USING_RECOVERED = 0)) ∧
    (∃ s : State, (s.get F.CLK_REF_STATUS_PRESENT = 1) ∧ (s.get F.CLK_REF_STATUS_USING_RECOVERED = 1)) ∧
    (∃ s : State, ∃ (ppm : Int), (s.get F.CLK_REF_STATUS_PRESENT = 1) ∧ (s.get F.CLK_REF_STATUS_FREQ_OK = 1) ∧ (s.get F.CLK_REF_STATUS_USING_RECOVERED = 0)) ∧
    (∃ s : State, (s.get F.CLK_REF_STATUS_USING_RECOVERED = 0) ∧ (s.get F.CLK_REF_CTRL_SRC_SEL ≠ 2)) ∧
    (∃ s : State, (s.get F.CLK_REF_STATUS_USING_RECOVERED = 1)) ∧
    (∃ s : State, ∃ (u : Port), (s.get F.CLK_REF_STATUS_HOLDOVER = 1) ∧ (s.get F.CLK_REF_STATUS_USING_RECOVERED = 0) ∧ (s.get F.CLK_REF_CTRL_SRC_SEL ≠ 0) ∧ (s.upPort = some u.val) ∧ (s.isRoot = false)) ∧
    (∃ s : State, (s.get F.CLK_REF_CTRL_SRC_SEL = 1) ∧ (s.get F.CLK_REF_CTRL_RETURN_EN = 1) ∧ (s.get F.CLK_REF_STATUS_FREQ_OK = 1) ∧ (s.get F.CLK_REF_STATUS_USING_RECOVERED = 1) ∧ (s.noneArmed = true)) ∧
    (∃ s : State, ∃ (k : Cluster), (s.bit R.CLK_PLL_LOCK k = true)) :=
  ⟨⟨State.reset.put F.CLK_REF_STATUS_PRESENT 1, by decide⟩,
   ⟨State.reset.putN R.CLK_REF_STATUS 5, by decide⟩,
   ⟨State.reset.putN R.CLK_REF_STATUS 3, -20001, by decide⟩,
   ⟨State.reset, by decide⟩,
   ⟨State.reset.putN R.CLK_REF_STATUS 4, by decide⟩,
   ⟨UPPORT.putN R.CLK_REF_STATUS 8, 3, by decide⟩,
   ⟨State.reset.putN R.CLK_REF_STATUS 6, by decide⟩,
   ⟨State.reset.putN R.CLK_PLL_LOCK 0x80000000, 31, by decide⟩⟩

theorem witness_DrawerCommandAcceptance :
    (∃ s : State, ∃ (tag : Set8), (s.get F.DRW_CMD_STATUS_BUSY = 0)) ∧
    (∃ s : State, ∃ (tag : Set8) (id : DrawerId), (s.get F.DRW_CMD_STATUS_BUSY = 0)) ∧
    (∃ s : State, ∃ (tag : Set8) (id : DrawerId), (s.get F.DRW_CMD_STATUS_BUSY = 0)) ∧
    (∃ s : State, ∃ (tag : Set8) (id : DrawerId), (s.get F.DRW_CMD_STATUS_BUSY = 0)) ∧
    (∃ s : State, ∃ (tag : Set8), (s.get F.DRW_CMD_STATUS_BUSY = 0)) ∧
    (∃ s : State, ∃ (tag : Set8), (s.get F.DRW_CMD_STATUS_BUSY = 0)) ∧
    (∃ s : State, ∃ (tag : Set8) (id : DrawerId), (s.get F.DRW_CMD_STATUS_BUSY = 0)) ∧
    (∃ s : State, ∃ (tag : Set8), (s.get F.DRW_CMD_STATUS_BUSY = 1)) ∧
    (∃ s : State, ∃ (tag : Set8) (id : DrawerId), (s.get F.DRW_CMD_STATUS_BUSY = 1)) ∧
    (∃ s : State, ∃ (tag : Set8) (id : DrawerId), (s.get F.DRW_CMD_STATUS_BUSY = 1)) ∧
    (∃ s : State, ∃ (tag : Set8) (id : DrawerId), (s.get F.DRW_CMD_STATUS_BUSY = 1)) ∧
    (∃ s : State, ∃ (tag : Set8), (s.get F.DRW_CMD_STATUS_BUSY = 1)) ∧
    (∃ s : State, ∃ (tag : Set8), (s.get F.DRW_CMD_STATUS_BUSY = 1)) ∧
    (∃ s : State, ∃ (tag : Set8) (id : DrawerId), (s.get F.DRW_CMD_STATUS_BUSY = 1)) :=
  ⟨⟨State.reset, 255, by decide⟩,
   ⟨State.reset, 255, 1048575, by decide⟩,
   ⟨State.reset, 255, 1048575, by decide⟩,
   ⟨State.reset, 255, 1048575, by decide⟩,
   ⟨State.reset, 255, by decide⟩,
   ⟨State.reset, 255, by decide⟩,
   ⟨State.reset, 255, 1048575, by decide⟩,
   ⟨State.reset.put F.DRW_CMD_STATUS_BUSY 1, 255, by decide⟩,
   ⟨State.reset.put F.DRW_CMD_STATUS_BUSY 1, 255, 1048575, by decide⟩,
   ⟨State.reset.put F.DRW_CMD_STATUS_BUSY 1, 255, 1048575, by decide⟩,
   ⟨State.reset.put F.DRW_CMD_STATUS_BUSY 1, 255, 1048575, by decide⟩,
   ⟨State.reset.put F.DRW_CMD_STATUS_BUSY 1, 255, by decide⟩,
   ⟨State.reset.put F.DRW_CMD_STATUS_BUSY 1, 255, by decide⟩,
   ⟨State.reset.put F.DRW_CMD_STATUS_BUSY 1, 255, 1048575, by decide⟩⟩

theorem witness_DrawerCompletion :
    (∃ s : State, (s.get F.DRW_CMD_STATUS_BUSY = 1) ∧ (s.get F.DRW_CMD_STATUS_OP = 0)) ∧
    (∃ s : State, (s.get F.DRW_CMD_STATUS_BUSY = 1) ∧ (drwResult s ≠ 0)) ∧
    (∃ s : State, (s.get F.DRW_CMD_STATUS_BUSY = 1) ∧ (s.get F.DRW_CMD_STATUS_OP = 2) ∧ (s.drw.cmdId ≠ 0) ∧ (s.drw.cmdId < 2 ^ 20) ∧ (s.committed s.drw.cmdId = true) ∧ (s.artHas s.drw.cmdId = false) ∧ (s.pinned s.drw.cmdId = false)) ∧
    (∃ s : State, (s.get F.DRW_CMD_STATUS_BUSY = 1) ∧ (s.get F.DRW_CMD_STATUS_OP = 3) ∧ (s.drw.cmdId ≠ 0) ∧ (s.drw.cmdId < 2 ^ 20) ∧ (s.committed s.drw.cmdId = true)) ∧
    (∃ s : State, (s.get F.DRW_CMD_STATUS_BUSY = 1) ∧ (s.get F.DRW_CMD_STATUS_OP = 4) ∧ (s.drw.cmdId ≠ 0) ∧ (s.drw.cmdId < 2 ^ 20) ∧ (s.committed s.drw.cmdId = true) ∧ (s.laneUses s.drw.cmdId = false)) ∧
    (∃ s : State, ∃ (p : Nat), (s.get F.DRW_CMD_STATUS_BUSY = 1) ∧ (s.get F.DRW_CMD_STATUS_OP = 5) ∧ (1 ≤ s.drw.cmdArg) ∧ (s.drw.cmdArg ≤ 12288) ∧ (findRun s.drw.allocs s.drw.cmdArg = some p)) ∧
    (∃ s : State, ∃ (p : Nat) (k : Nat), (s.get F.DRW_CMD_STATUS_BUSY = 1) ∧ (s.get F.DRW_CMD_STATUS_OP = 6) ∧ (s.drw.cmdArg = 0xC02000000 + 4096 * p) ∧ (p < 12288) ∧ (s.drw.allocs = [(p, k)]) ∧ (k ≤ 12288) ∧ (s.pagesUsed p k = false)) ∧
    (∃ s : State, ∃ (n : Site) (id : DrawerId) (i : Nat) (q : Nat), ((s.seqOf n).sels.find? (fun x => x.id == id.val) = some ⟨id, q⟩) ∧ ((artSlots n).find? (fun j => !s.artValid j) = some i)) :=
  ⟨⟨State.reset.putN R.DRW_CMD_STATUS 0x80000000, by decide⟩,
   ⟨State.reset.putN R.DRW_CMD_STATUS 0x80002000, by decide⟩,
   ⟨{ ((State.reset.putN R.DRW_CMD_STATUS 0x80002000).putN (R.DRW_COMMIT_MAP_w 32767) 0x80000000) with drw := { cmdId := 1048575 } }, by decide⟩,
   ⟨{ ((State.reset.putN R.DRW_CMD_STATUS 0x80003000).putN (R.DRW_COMMIT_MAP_w 32767) 0x80000000) with drw := { cmdId := 1048575 } }, by decide⟩,
   ⟨{ ((State.reset.putN R.DRW_CMD_STATUS 0x80004000).putN (R.DRW_COMMIT_MAP_w 32767) 0x80000000) with drw := { cmdId := 1048575 } }, by decide⟩,
   ⟨{ State.reset.putN R.DRW_CMD_STATUS 0x80005000 with drw := { cmdArg := 33, allocs := [(3, 4), (60, 1)] } }, 7, by decide⟩,
   ⟨{ State.reset.putN R.DRW_CMD_STATUS 0x80006000 with drw := { cmdArg := 0xC02000000 + 4096 * 12287, allocs := [(12287, 1)] } }, 12287, 1, by decide⟩,
   ⟨State.reset.updSeq 63 (fun c => { c with sels := [⟨1048575, 0⟩] }), 63, 1048575, 252, 0, by decide⟩⟩

theorem witness_SuccessfulCommit :
    (∃ s : State, (s.get F.DRW_CMD_STATUS_BUSY = 1) ∧ (s.get F.DRW_CMD_STATUS_OP = 1) ∧ (s.drw.cmdId < 2 ^ 20) ∧ (drwResult s = 0) ∧ (s.num R.DRW_COMMITTED_CNT < 2 ^ 20)) :=
  ⟨COMMITTING, by decide⟩

theorem witness_SuccessfulRetire :
    (∃ s : State, (s.get F.DRW_CMD_STATUS_BUSY = 1) ∧ (s.get F.DRW_CMD_STATUS_OP = 2) ∧ (s.drw.cmdId < 2 ^ 20) ∧ (drwResult s = 0) ∧ (0 < s.num R.DRW_COMMITTED_CNT)) :=
  ⟨{ ((State.reset.putN R.DRW_CMD_STATUS 0x80002000).putN (R.DRW_COMMIT_MAP_w 32767) 0x80000000).putN R.DRW_COMMITTED_CNT 1 with drw := { cmdId := 1048575 } }, by decide⟩

theorem witness_StreamCommands :
    (∃ s : State, ∃ (n : Site) (st : Nat) (r : FetchReq), ((s.strmOf n).rate ≠ 0) ∧ (nextRequest s n st = some r) ∧ (s.is (F.STRM_SITE_n_FLAGS_ARMED n) = true) ∧ (r.len + (s.strmOf n).fill + ((s.strmOf n).flight.map (·.len)).sum ≤ 65536 * (s.strmOf n).units) ∧ (10 * r.len ≤ (s.strmOf n).creditNow s.now)) ∧
    (∃ s : State, ∃ (n : Site) (i : Nat) (r : FetchReq), ((s.strmOf n).flight[i]? = some r) ∧ ((s.strmOf n).streams.any (fun p => p.1 == r.stream) = false)) ∧
    (∃ s : State, ∃ (n : Site) (i : Nat) (r : FetchReq), ((s.strmOf n).flight[i]? = some r) ∧ (r.late = false) ∧ ((s.strmOf n).streams.any (fun p => p.1 == r.stream) = true) ∧ ((Tab.get {} (s.strmOf n).streams r.stream).base ≤ r.pos) ∧ (s.memc.ceBursts = []) ∧ (s.memc.ueBursts = []) ∧ ((r.chunks.flatMap (fun p => s.rdBytes p.1 p.2)) ≠ [])) ∧
    (∃ s : State, ∃ (n : Site), (s.siteState n = 3)) ∧
    (∃ s : State, ∃ (v : Word), (50 ≤ v.toNat % 128) ∧ (v.toNat % 128 ≤ 90)) :=
  ⟨⟨FETCH, 63, 0, { stream := 0, pos := 0, len := 96, drw := 1048575, chunks := [(64, 96)], late := false }, by decide⟩,
   ⟨State.reset.updStrm 63 (fun x => { x with flight := [{ stream := 1, pos := 0, len := 96, drw := 1, chunks := [], late := false }] }), 63, 0, { stream := 1, pos := 0, len := 96, drw := 1, chunks := [], late := false }, by decide⟩,
   ⟨State.reset.updStrm 63 (fun x => { x with streams := [(0, { base := 0, req := 96 })], flight := [{ stream := 0, pos := 0, len := 96, drw := 1, chunks := [(64, 96)], late := false }] }), 63, 0, { stream := 0, pos := 0, len := 96, drw := 1, chunks := [(64, 96)], late := false }, by decide⟩,
   ⟨State.reset.put (F.SITE_n_STATUS_STATE 63) 3, 63, by decide⟩,
   ⟨State.reset, 90, by decide⟩⟩

theorem witness_QueuesAndRefresh :
    (∃ s : State, ∃ (r : Req) (a : Nat) (level : Nat), (a < 0x8FFFFFF00) ∧ (a % 256 = 0) ∧ (s.memc.held = []) ∧ ((s.bankOf (hbmLoc a).pc (hbmLoc a).bank).reads.length < 8)) ∧
    (∃ s : State, ∃ (r : Req) (wr : Bool) (a : Nat) (level : Nat), (a < 0x8FFFFFF00) ∧ (a % 256 = 0) ∧ (s.memc.held ≠ [])) ∧
    (∃ s : State, ∃ (p : Cluster) (b : Fin 48), ((s.bankOf p b).inOrder.isSome = true) ∧ (s.memc.held = [])) ∧
    (∃ s : State, (s.memc.banks = [])) ∧
    (∃ s : State, ∃ (k : Nat) (b : Bank), (s.memc.banks = [(k, b)]) ∧ (b.openRow.isSome = true) ∧ (s.pcState (k / 48) < 2)) ∧
    (∃ s : State, ∃ (p : Cluster) (b : Fin 48), ((s.bankOf p b).debt ≠ 0) ∧ ((s.bankOf p b).busy = false)) ∧
    (∃ s : State, ∃ (p : Cluster) (b : Fin 48), (8 ≤ (s.bankOf p b).debt)) ∧
    (∃ s : State, ∃ (x : Int), (-128 ≤ x) ∧ (x ≤ 127)) :=
  ⟨⟨State.reset, .host, 0x8FFFFFE00, 2, by decide⟩,
   ⟨{ State.reset with memc := { held := [(0, 64, true, 1)] } }, .host, true, 0, 2, by decide⟩,
   ⟨State.reset.updBank 31 47 (fun b => { b with inOrder := some 0 }), 31, 47, by decide⟩,
   ⟨State.reset, by decide⟩,
   ⟨{ State.reset with memc := { banks := [(1535, { openRow := some 0 })] } }, 1535, { openRow := some 0 }, by decide⟩,
   ⟨State.reset.updBank 31 47 (fun b => { b with debt := 1 }), 31, 47, by decide⟩,
   ⟨State.reset.updBank 31 47 (fun b => { b with debt := 8 }), 31, 47, by decide⟩,
   ⟨State.reset, -128, by decide⟩⟩

theorem witness_RetrainAndPower :
    (∃ s : State, ∃ (p : Cluster), (s.get F.MEMC_RETRAIN_CTRL_ENABLE = 1) ∧ (s.get F.MEMC_STATUS_RETRAINING = 0) ∧ (s.memc.turn = p.val) ∧ (s.pcState p ≤ 1)) ∧
    (∃ s : State, ∃ (start : Bool), (s.get F.MEMC_STATUS_RETRAINING = 1)) ∧
    (∃ s : State, ∃ (p : Cluster), (s.get F.MEMC_STATUS_RETRAINING = 0)) ∧
    (∃ s : State, ∃ (p : Cluster), (s.get F.MEMC_STATUS_RETRAINING = 1)) ∧
    (∃ s : State, ∃ (v : Word), (10 ≤ v.toNat / 2 ^ 16)) ∧
    (∃ s : State, ∃ (p : Cluster), (s.pcBusy p = false) ∧ ((s.pcOf p).waking = false) ∧ (s.get (F.MEMC_PC_p_STATE_TRAINING p) = 0) ∧ (s.pcState p < s.deepest)) ∧
    (∃ s : State, ∃ (p : Cluster), (s.pcState p ≠ 0)) ∧
    (∃ s : State, ∃ (p : Cluster), ((s.pcOf p).waking = true)) ∧
    (∃ s : State, (s.get F.MEMC_STATUS_RETRAINING = 1) ∧ (s.memc.startReq = none)) ∧
    (∃ s : State, (s.get F.MEMC_STATUS_RETRAINING = 1) ∧ (s.memc.startReq = none)) :=
  ⟨⟨{ State.reset with memc := { turn := 31 } }, 31, by decide⟩,
   ⟨State.reset.putN R.MEMC_STATUS 0x7E, true, by decide⟩,
   ⟨State.reset, 31, by decide⟩,
   ⟨State.reset.putN R.MEMC_STATUS 2, 31, by decide⟩,
   ⟨State.reset, 0xFFFF0001, by decide⟩,
   ⟨State.reset, 31, by decide⟩,
   ⟨State.reset.put (F.MEMC_PC_p_STATE_STATE 31) 3, 31, by decide⟩,
   ⟨State.reset.updPc 31 (fun x => { x with waking := true }), 31, by decide⟩,
   ⟨State.reset.putN R.MEMC_STATUS 2, by decide⟩,
   ⟨State.reset.putN R.MEMC_STATUS 2, by decide⟩⟩

theorem witness_TimingSetCommands :
    (∃ s : State, ∃ (c : Channel) (x : Set8) (w : Fin 6) (v : Word), (s.compat 0 = false) ∧ (s.committing x = false)) ∧
    (∃ s : State, ∃ (c : Channel) (x : Set8) (w : Fin 8) (v : Word), (s.compat 0 = false) ∧ (s.committing x = true)) ∧
    (∃ s : State, ∃ (tag : Set8), (s.get F.TSET_CMD_STATUS_BUSY = 0)) ∧
    (∃ s : State, ∃ (tag : Set8), (s.get F.TSET_CMD_STATUS_BUSY = 1)) ∧
    (∃ s : State, ∃ (tag : Set8) (x : Set8), (s.get F.TSET_CMD_STATUS_BUSY = 0)) ∧
    (∃ s : State, ∃ (tag : Set8) (x : Set8), (s.get F.TSET_CMD_STATUS_BUSY = 1)) ∧
    (∃ s : State, (s.get F.TSET_CMD_STATUS_BUSY = 1) ∧ (s.get F.TSET_CMD_STATUS_OP = 0)) ∧
    (∃ s : State, ∃ (code : Nat) (loc : Nat), (s.get F.TSET_CMD_STATUS_BUSY = 1) ∧ (s.get F.TSET_CMD_STATUS_OP = 1) ∧ (tsetCheck s s.ts.cmdSet = some (code, loc))) ∧
    (∃ s : State, ∃ (x : Set8), (s.get F.TSET_CMD_STATUS_BUSY = 1) ∧ (s.get F.TSET_CMD_STATUS_OP = 1) ∧ (s.ts.cmdSet = x.val) ∧ (tsetCheck s x = none)) ∧
    (∃ s : State, ∃ (k : Cluster) (n : Nat) (x : Nat) (i : Nat) (rest : List (Nat × Nat)), (n < 64) ∧ (x < 256) ∧ (s.loadsOf k = (n, x) :: rest) ∧ (s.pickSlot k (s.portion k n) = some i) ∧ (s.loadDirty k n x = false)) :=
  ⟨⟨State.reset, 511, 255, 5, 0xFFFFFFFF, by decide⟩,
   ⟨{ State.reset.putN R.TSET_CMD_STATUS 0x80001000 with ts := { cmdSet := 255 } }, 511, 255, 7, 1, by decide⟩,
   ⟨State.reset, 255, by decide⟩,
   ⟨State.reset.putN R.TSET_CMD_STATUS 0x80000000, 255, by decide⟩,
   ⟨State.reset, 255, 255, by decide⟩,
   ⟨State.reset.putN R.TSET_CMD_STATUS 0x80000000, 255, 255, by decide⟩,
   ⟨State.reset.putN R.TSET_CMD_STATUS 0x80000000, by decide⟩,
   ⟨(State.reset.putN R.TSET_CMD_STATUS 0x80001000).putN (R.TSET_PER_n_s_LO 0 0) 9999, 1, 0x80000000, by decide⟩,
   ⟨{ State.reset.putN R.TSET_CMD_STATUS 0x80001000 with ts := { cmdSet := 255 } }, 255, by decide⟩,
   ⟨{ State.reset with ts := { loads := [(31, [(63, 255)])] } }, 31, 63, 255, 0, [], by decide⟩⟩

theorem witness_InstructionsThatOnlyPlay :
    (∃ s : State, ∃ (n : Site) (p : Option Nat) (x : Path) (w : Nat), (s.issues n p x w) ∧ (isOp opLevels w = true)) ∧
    (∃ s : State, ∃ (n : Site) (p : Option Nat) (x : Path) (w : Nat), (s.issues n p x w) ∧ (isCapt 0 w = true)) ∧
    (∃ s : State, ∃ (n : Site) (p : Option Nat) (x : Path) (w : Nat), (s.issues n p x w) ∧ (isCapt 1 w = true)) ∧
    (∃ s : State, ∃ (n : Site) (p : Option Nat) (x : Path) (w : Nat), (s.issues n p x w) ∧ (isCapt 2 w = true)) ∧
    (∃ s : State, ∃ (n : Site) (p : Option Nat) (x : Path) (w : Nat), (s.issues n p x w) ∧ (isCapt 3 w = true)) ∧
    (∃ s : State, ∃ (n : Site) (p : Option Nat) (x : Path) (w : Nat), (s.issues n p x w) ∧ (isSignal 0 w = true)) ∧
    (∃ s : State, ∃ (n : Site) (p : Option Nat) (x : Path) (w : Nat), (s.issues n p x w) ∧ (isSignal 1 w = true)) ∧
    (∃ s : State, ∃ (n : Site) (p : Option Nat) (x : Path) (w : Nat), (s.issues n p x w) ∧ (isOp opFlag w = true)) ∧
    (∃ s : State, ∃ (n : Site) (p : Option Nat) (x : Path) (w : Nat), (s.issues n p x w) ∧ (isXlmark 0 w = true)) ∧
    (∃ s : State, ∃ (n : Site) (p : Option Nat) (x : Path) (w : Nat), (s.issues n p x w) ∧ (isXlmark 1 w = true)) ∧
    (∃ s : State, ∃ (n : Site) (p : Option Nat) (x : Path) (w : Nat), (s.issues n p x w) ∧ (isXlmark 2 w = true)) :=
  ⟨⟨RUNS 792633534417207303 none (fun x => x), 63, none, PATH 792633534417207303 (fun x => x), 792633534417207303, by decide⟩,
   ⟨RUNS 864691128455200512 none (fun x => x), 63, none, PATH 864691128455200512 (fun x => x), 864691128455200512, by decide⟩,
   ⟨RUNS 864691128455135233 none (fun x => x), 63, none, PATH 864691128455135233 (fun x => x), 864691128455135233, by decide⟩,
   ⟨RUNS 864691128455135234 none (fun x => x), 63, none, PATH 864691128455135234 (fun x => x), 864691128455135234, by decide⟩,
   ⟨RUNS 864691128455135235 none (fun x => x), 63, none, PATH 864691128455135235 (fun x => x), 864691128455135235, by decide⟩,
   ⟨RUNS 936748993076002816 none (fun x => x), 63, none, PATH 936748993076002816 (fun x => x), 936748993076002816, by decide⟩,
   ⟨RUNS 941252592703373312 none (fun x => x), 63, none, PATH 941252592703373312 (fun x => x), 941252592703373312, by decide⟩,
   ⟨RUNS 1080863910568919539 (some 0) (fun x => x), 63, (some 0), PATH 1080863910568919539 (fun x => x), 1080863910568919539, by decide⟩,
   ⟨RUNS 1297036825826689025 none (fun x => x), 63, none, PATH 1297036825826689025 (fun x => x), 1297036825826689025, by decide⟩,
   ⟨RUNS 1297037925338316801 none (fun x => x), 63, none, PATH 1297037925338316801 (fun x => x), 1297037925338316801, by decide⟩,
   ⟨RUNS 1297039024850010111 none (fun x => x), 63, none, PATH 1297039024850010111 (fun x => x), 1297039024850010111, by decide⟩⟩

theorem witness_InstructionsThatMoveTheCursor :
    (∃ s : State, ∃ (n : Site) (p : Option Nat) (x : Path) (w : Nat) (g : Nat), (s.issues n p x w) ∧ (isOp opVec w = true) ∧ (s.setBlocked n x.tset = false) ∧ (0 < g) ∧ (g = (if wf w 31 0 = 0 then x.ent.len - x.cursor else wf w 31 0)) ∧ (x.cursor + g ≤ x.ent.len)) ∧
    (∃ s : State, ∃ (n : Site) (p : Option Nat) (x : Path) (w : Nat), (s.issues n p x w) ∧ (isOp opVec w = true)) ∧
    (∃ s : State, ∃ (n : Site) (p : Option Nat) (x : Path) (w : Nat), (s.issues n p x w) ∧ (isOp opRpt w = true) ∧ (s.setBlocked n x.tset = false) ∧ (0 < wf w 15 0) ∧ (x.cursor + wf w 15 0 ≤ x.ent.len)) ∧
    (∃ s : State, ∃ (n : Site) (p : Option Nat) (x : Path) (w : Nat), (s.issues n p x w) ∧ (isOp opKeep w = true) ∧ (s.setBlocked n x.tset = false)) ∧
    (∃ s : State, ∃ (n : Site) (p : Option Nat) (x : Path) (w : Nat), (s.issues n p x w) ∧ (isOp opTset w = true)) ∧
    (∃ s : State, ∃ (n : Site) (p : Option Nat) (x : Path) (w : Nat), (s.issues n p x w) ∧ (isOp opLoop w = true) ∧ (p = none) ∧ (x.loops.length < 8)) ∧
    (∃ s : State, ∃ (n : Site) (p : Option Nat) (x : Path) (w : Nat), (s.issues n p x w) ∧ (isOp opLoop w = true) ∧ (p = none) ∧ (8 ≤ x.loops.length)) ∧
    (∃ s : State, ∃ (n : Site) (p : Option Nat) (x : Path) (w : Nat) (top : LoopEnt) (rest : List LoopEnt), (s.issues n p x w) ∧ (isOp opEndl w = true) ∧ (x.loops = top :: rest) ∧ (top.count = 1)) ∧
    (∃ s : State, ∃ (n : Site) (p : Option Nat) (x : Path) (w : Nat) (top : LoopEnt) (rest : List LoopEnt), (s.issues n p x w) ∧ (isOp opEndl w = true) ∧ (x.loops = top :: rest) ∧ (top.count ≠ 1) ∧ (top.drw = x.ent.id)) ∧
    (∃ s : State, ∃ (n : Site) (p : Option Nat) (x : Path) (w : Nat), (s.issues n p x w) ∧ (isOp opEndl w = true) ∧ (x.loops = []) ∧ (p = none)) :=
  ⟨⟨RUNS 72057594037927936 (some 0) (fun x => x), 63, (some 0), PATH 72057594037927936 (fun x => x), 72057594037927936, 100, by decide⟩,
   ⟨RUNS 72057594037927939 none (fun x => x), 63, none, PATH 72057594037927939 (fun x => x), 72057594037927939, by decide⟩,
   ⟨RUNS 144115188076052580 none (fun x => x), 63, none, PATH 144115188076052580 (fun x => x), 144115188076052580, by decide⟩,
   ⟨RUNS 1224979102939742207 none (fun x => x), 63, none, PATH 1224979102939742207 (fun x => x), 1224979102939742207, by decide⟩,
   ⟨RUNS 720575940379279615 none (fun x => x), 63, none, PATH 720575940379279615 (fun x => x), 720575940379279615, by decide⟩,
   ⟨RUNS 252201579132747783 none (fun x => x), 63, none, PATH 252201579132747783 (fun x => x), 252201579132747783, by decide⟩,
   ⟨RUNS 216172782113783815 none (fun x => { x with loops := List.replicate 8 ⟨2, 5, 0, 0, false⟩ }), 63, none, PATH 216172782113783815 (fun x => { x with loops := List.replicate 8 ⟨2, 5, 0, 0, false⟩ }), 216172782113783815, by decide⟩,
   ⟨RUNS 288230376151711744 none (fun x => { x with loops := [⟨1, 5, 0, 0, false⟩] }), 63, none, PATH 288230376151711744 (fun x => { x with loops := [⟨1, 5, 0, 0, false⟩] }), 288230376151711744, ⟨1, 5, 0, 0, false⟩, [], by decide⟩,
   ⟨RUNS 288230376151711744 none (fun x => { x with loops := [⟨2, 5, 1, 9, true⟩] }), 63, none, PATH 288230376151711744 (fun x => { x with loops := [⟨2, 5, 1, 9, true⟩] }), 288230376151711744, ⟨2, 5, 1, 9, true⟩, [], by decide⟩,
   ⟨RUNS 288230376151711744 none (fun x => x), 63, none, PATH 288230376151711744 (fun x => x), 288230376151711744, by decide⟩⟩

theorem witness_InstructionsThatChangeDrawers :
    (∃ s : State, ∃ (n : Site) (x : Path) (w : Nat), (s.issues n none x w) ∧ (isOp opJmp w = true) ∧ (s.committed (wf w 43 24) = true) ∧ (wf w 43 24 ≠ 0) ∧ (s.ctxHolds n (wf w 43 24) = true)) ∧
    (∃ s : State, ∃ (n : Site) (x : Path) (w : Nat), (s.issues n none x w) ∧ (isOp opJmp w = true) ∧ (s.committed (wf w 43 24) = true) ∧ (wf w 43 24 ≠ 0) ∧ (s.ctxHolds n (wf w 43 24) = false) ∧ (s.ctxHeld n < 4)) ∧
    (∃ s : State, ∃ (n : Site) (x : Path) (w : Nat), (s.issues n none x w) ∧ (isOp opJmp w = true) ∧ (s.committed (wf w 43 24) = false)) ∧
    (∃ s : State, ∃ (n : Site) (x : Path) (w : Nat), (s.issues n none x w) ∧ (isOp opCall w = true) ∧ (s.committed (wf w 43 24) = true) ∧ (wf w 43 24 ≠ 0) ∧ (s.ctxHolds n (wf w 43 24) = true) ∧ (x.calls.length < 16)) ∧
    (∃ s : State, ∃ (n : Site) (x : Path) (w : Nat), (s.issues n none x w) ∧ (isOp opCall w = true) ∧ (16 ≤ x.calls.length)) ∧
    (∃ s : State, ∃ (n : Site) (x : Path) (w : Nat) (e : CallEnt) (rest : List CallEnt), (s.issues n none x w) ∧ (isOp opRet w = true) ∧ (x.calls = e :: rest) ∧ (e.drw = x.ent.id)) ∧
    (∃ s : State, ∃ (n : Site) (x : Path) (w : Nat), (s.issues n none x w) ∧ (isOp opRet w = true) ∧ (x.calls = [])) ∧
    (∃ s : State, ∃ (n : Site) (x : Path) (w : Nat), (s.issues n none x w) ∧ (isOp opJmpc w = true)) :=
  ⟨⟨HELDRUNS 360287970340634641 (fun x => x), 63, PATH 360287970340634641 (fun x => x), 360287970340634641, by decide⟩,
   ⟨HELDRUNS 360287970357411840 (fun x => x), 63, PATH 360287970357411840 (fun x => x), 360287970357411840, by decide⟩,
   ⟨HELDRUNS 360287970374189056 (fun x => x), 63, PATH 360287970374189056 (fun x => x), 360287970374189056, by decide⟩,
   ⟨HELDRUNS 504403158416490513 (fun x => x), 63, PATH 504403158416490513 (fun x => x), 504403158416490513, by decide⟩,
   ⟨HELDRUNS 504403158416490513 (fun x => { x with calls := List.replicate 16 ⟨5, 0, 0, 0⟩ }), 63, PATH 504403158416490513 (fun x => { x with calls := List.replicate 16 ⟨5, 0, 0, 0⟩ }), 504403158416490513, by decide⟩,
   ⟨HELDRUNS 576460752303423488 (fun x => { x with calls := [⟨5, 2, 9, 0⟩], loops := [⟨2, 5, 0, 0, false⟩] }), 63, PATH 576460752303423488 (fun x => { x with calls := [⟨5, 2, 9, 0⟩], loops := [⟨2, 5, 0, 0, false⟩] }), 576460752303423488, ⟨5, 2, 9, 0⟩, [], by decide⟩,
   ⟨HELDRUNS 576460752303423488 (fun x => x), 63, PATH 576460752303423488 (fun x => x), 576460752303423488, by decide⟩,
   ⟨HELDRUNS 432345564378562577 (fun x => x), 63, PATH 432345564378562577 (fun x => x), 432345564378562577, by decide⟩⟩

theorem witness_InstructionsThatWait :
    (∃ s : State, ∃ (n : Site) (x : Path) (w : Nat), (s.issues n none x w) ∧ (isOp opMatchwait w = true) ∧ (s.committed (wf w 35 16) = true) ∧ (wf w 35 16 ≠ 0) ∧ (s.ctxHolds n (wf w 35 16) = true)) ∧
    (∃ s : State, ∃ (n : Site) (x : Path) (w : Nat), (s.issues n none x w) ∧ (isOp opWaitcore w = true) ∧ (s.setBlocked n x.tset = false)) ∧
    (∃ s : State, ∃ (n : Site) (x : Path) (w : Nat), (s.issues n none x w) ∧ (isTransit 0 w = true) ∧ (s.setBlocked n x.tset = false)) ∧
    (∃ s : State, ∃ (n : Site) (x : Path) (w : Nat), (s.issues n none x w) ∧ (isTransit 1 w = true) ∧ (s.setBlocked n x.tset = false)) ∧
    (∃ s : State, ∃ (n : Site) (x : Path) (w : Nat), (s.issues n none x w) ∧ (isOp opHalt w = true)) ∧
    (∃ s : State, ∃ (n : Site) (p : Option Nat) (x : Path) (v : IWord), (s.path n p = some x) ∧ (s.canRun n x = true) ∧ (x.wordAt = some v) ∧ (v.undef = true)) ∧
    (∃ s : State, ∃ (n : Site) (p : Option Nat) (x : Path) (w : Nat), (s.path n p = some x) ∧ (s.canRun n x = true) ∧ (x.wordAt = some { word := w }) ∧ (isOp opKeep w = true) ∧ (s.wordFault w = some hcReserved)) :=
  ⟨⟨HELDRUNS 648518346341941248 (fun x => x), 63, PATH 648518346341941248 (fun x => x), 648518346341941248, by decide⟩,
   ⟨HELDRUNS 1369094299605532772 (fun x => x), 63, PATH 1369094299605532772 (fun x => x), 1369094299605532772, by decide⟩,
   ⟨HELDRUNS 1008806316530992104 (fun x => x), 63, PATH 1008806316530992104 (fun x => x), 1008806316530992104, by decide⟩,
   ⟨HELDRUNS 1044835113549956072 (fun x => x), 63, PATH 1044835113549956072 (fun x => x), 1044835113549956072, by decide⟩,
   ⟨HELDRUNS 1152921504606847104 (fun x => x), 63, PATH 1152921504606847104 (fun x => x), 1152921504606847104, by decide⟩,
   ⟨RUNS 18374686479671623680 none (fun x => x), 63, none, PATH 18374686479671623680 (fun x => x), { word := 18374686479671623680 }, by decide⟩,
   ⟨RUNS 1224979098644774912 none (fun x => x), 63, none, PATH 1224979098644774912 (fun x => x), 1224979098644774912, by decide⟩⟩

theorem witness_RunAheadServices :
    (∃ s : State, ∃ (e : Core) (q : Nat), (q = ((s.engOf e).cur + 1) % 4) ∧ (s.ctxActive (e + 16 * q) = true) ∧ (s.ctxActive (e + 16 * (s.engOf e).cur) = false) ∧ ((s.engOf e).cur < 4)) ∧
    (∃ s : State, ∃ (n : Site) (p : Option Nat) (x : Path) (id : Nat) (g : Nat), (s.path n p = some x) ∧ (x.stop = .dir id g) ∧ ((s.entry id).type ≠ 2) ∧ (s.memc.ceBursts = []) ∧ (s.memc.ueBursts = [])) ∧
    (∃ s : State, ∃ (n : Site) (p : Option Nat) (x : Path) (i : Nat) (k : Nat), (s.path n p = some x) ∧ (x.stop = .ilist) ∧ (i + k ≤ x.ent.ilen) ∧ (s.memc.ceBursts = []) ∧ (s.memc.ueBursts = [])) ∧
    (∃ s : State, ∃ (n : Site) (x : Path), (s.path n none = some x) ∧ (x.stop = .full) ∧ (granCount x.items < s.fullAt n) ∧ ((x.ibuf.lookup x.idx).isSome = true)) ∧
    (∃ s : State, ∃ (v : Word), (s.ready = false)) :=
  ⟨⟨(RUNS 0 none (fun x => x)).updEng 15 (fun _ => { cur := 2 }), 15, 3, by decide⟩,
   ⟨RUNS 0 none (fun x => { x with stop := .dir 7 3 }), 63, none, PATH 0 (fun x => { x with stop := .dir 7 3 }), 7, 3, by decide⟩,
   ⟨RUNS 0 none (fun x => { x with stop := .ilist, ibuf := [] }), 63, none, PATH 0 (fun x => { x with stop := .ilist, ibuf := [] }), 1, 3, by decide⟩,
   ⟨(RUNS 0 none (fun x => { x with stop := .full })).updStrm 63 (fun y => { y with units := 64 }) |>.updSite 63 (fun y => { y with octs := [0] }), 63, PATH 0 (fun x => { x with stop := .full }), by decide⟩,
   ⟨State.reset, 0xFFFFFFFF, by decide⟩⟩

theorem witness_PlayBoundaries :
    (∃ s : State, ∃ (n : Site) (i : Item) (is : List Item) (k : Nat), (s.siteState n = 3) ∧ ((s.playOf n).on = true) ∧ ((s.playOf n).decs = []) ∧ ((s.playOf n).wait = .none) ∧ ((s.playOf n).taken = none) ∧ ((s.seqOf n).thermal = false) ∧ ((s.seqOf n).spanLost = false) ∧ ((s.seqOf n).abort = false) ∧ ((s.playOf n).rep = []) ∧ ((s.playOf n).inFrame = 16) ∧ ((s.seqOf n).main.items = i :: is) ∧ (i.body = .hold k false) ∧ ((s.strmOf n).nextReady = some true)) ∧
    (∃ s : State, ∃ (n : Site) (i : Item) (is : List Item) (k : Nat), (s.siteState n = 3) ∧ ((s.playOf n).on = true) ∧ ((s.playOf n).decs = []) ∧ ((s.playOf n).wait = .none) ∧ ((s.playOf n).taken = none) ∧ ((s.seqOf n).thermal = false) ∧ ((s.seqOf n).spanLost = false) ∧ ((s.seqOf n).abort = false) ∧ ((s.playOf n).rep = []) ∧ ((s.playOf n).inFrame = 16) ∧ ((s.seqOf n).main.items = i :: is) ∧ (i.body = .hold k false) ∧ ((s.strmOf n).nextReady = some false) ∧ ((s.strmOf n).policy = 0)) ∧
    (∃ s : State, ∃ (n : Site) (i : Item) (is : List Item) (k : Nat), (s.siteState n = 3) ∧ ((s.playOf n).on = true) ∧ ((s.playOf n).decs = []) ∧ ((s.playOf n).wait = .none) ∧ ((s.playOf n).taken = none) ∧ ((s.seqOf n).thermal = false) ∧ ((s.seqOf n).spanLost = false) ∧ ((s.seqOf n).abort = false) ∧ ((s.playOf n).rep = []) ∧ ((s.playOf n).inFrame = 16) ∧ ((s.seqOf n).main.items = i :: is) ∧ (i.body = .hold k false) ∧ ((s.strmOf n).nextReady = some false) ∧ ((s.strmOf n).policy = 1)) ∧
    (∃ s : State, ∃ (n : Site) (i : Item) (is : List Item) (k : Nat), (s.siteState n = 3) ∧ ((s.playOf n).on = true) ∧ ((s.playOf n).decs = []) ∧ ((s.playOf n).wait = .none) ∧ ((s.playOf n).taken = none) ∧ ((s.seqOf n).thermal = false) ∧ ((s.seqOf n).spanLost = false) ∧ ((s.seqOf n).abort = false) ∧ ((s.playOf n).rep = []) ∧ ((s.playOf n).inFrame < 16) ∧ ((s.seqOf n).main.items = i :: is) ∧ (i.body = .hold k false)) ∧
    (∃ s : State, ∃ (n : Site) (g : Gran) (rest : List Gran), (s.siteState n = 3) ∧ ((s.playOf n).on = true) ∧ ((s.playOf n).decs = []) ∧ ((s.playOf n).wait = .none) ∧ ((s.playOf n).taken = none) ∧ ((s.seqOf n).thermal = false) ∧ ((s.seqOf n).spanLost = false) ∧ ((s.seqOf n).abort = false) ∧ ((s.playOf n).rep = g :: rest)) :=
  ⟨⟨PLAYS 16 [⟨5, 1, .hold 20 false, [], [], 9⟩] (some true) 0, 63, ⟨5, 1, .hold 20 false, [], [], 9⟩, [], 20, by decide⟩,
   ⟨PLAYS 16 [⟨5, 1, .hold 20 false, [], [], 9⟩] (some false) 0, 63, ⟨5, 1, .hold 20 false, [], [], 9⟩, [], 20, by decide⟩,
   ⟨PLAYS 16 [⟨5, 1, .hold 20 false, [], [], 9⟩] (some false) 1, 63, ⟨5, 1, .hold 20 false, [], [], 9⟩, [], 20, by decide⟩,
   ⟨PLAYS 15 [⟨5, 1, .hold 20 false, [], [], 9⟩] none 0, 63, ⟨5, 1, .hold 20 false, [], [], 9⟩, [], 20, by decide⟩,
   ⟨(PLAYS 16 [] none 0).updPlay 63 (fun p => { p with rep := [{ paused := true }] }), 63, { paused := true }, [], by decide⟩⟩

theorem witness_HaltsAndAborts :
    (∃ s : State, ∃ (n : Site) (i : Item) (is : List Item) (code : Fin 256), (s.siteState n = 3) ∧ ((s.playOf n).on = true) ∧ ((s.playOf n).decs = []) ∧ ((s.playOf n).wait = .none) ∧ ((s.playOf n).taken = none) ∧ ((s.seqOf n).thermal = false) ∧ ((s.seqOf n).spanLost = false) ∧ ((s.seqOf n).abort = false) ∧ ((s.playOf n).rep = []) ∧ ((s.playOf n).inFrame < 16) ∧ ((s.seqOf n).main.items = i :: is) ∧ (i.body = .eff (.halt code)) ∧ (i.drw < 2 ^ 20) ∧ (i.idx < 2 ^ 16)) ∧
    (∃ s : State, ∃ (n : Site), (s.siteState n = 3)) ∧
    (∃ s : State, ∃ (n : Site), (s.siteState n = 1 ∨ s.siteState n = 2 ∨ s.siteState n = 4)) :=
  ⟨⟨PLAYS 15 [⟨1048575, 65535, .eff (.halt 255), [], [], 9⟩] none 0, 63, ⟨1048575, 65535, .eff (.halt 255), [], [], 9⟩, [], 255, by decide⟩,
   ⟨PLAYS 15 [] none 0, 63, by decide⟩,
   ⟨State.reset.put (F.SITE_n_STATUS_STATE 63) 4, 63, by decide⟩⟩

theorem witness_DecisionsAndWaits :
    (∃ s : State, ∃ (n : Site) (d : Decision) (rest : List Decision) (v : Bool), ((s.playOf n).decs = d :: rest) ∧ (d.wait = false) ∧ (s.decValue n d = some v) ∧ (v = d.neg)) ∧
    (∃ s : State, ∃ (n : Site) (d : Decision) (rest : List Decision) (v : Bool), ((s.playOf n).decs = d :: rest) ∧ (d.wait = false) ∧ (s.decValue n d = some v) ∧ (v ≠ d.neg)) ∧
    (∃ s : State, ∃ (n : Site) (d : Decision) (rest : List Decision) (sp : Bool) (co : Bool) (ps : Nat) (pa : Nat) (g : Nat) (drw : Nat) (len : Nat) (ba : Nat) (ma : Nat) (ix : Nat) (ti : Nat), ((s.playOf n).decs = d :: rest) ∧ (d.wait = true) ∧ (d.last = true) ∧ (s.decValue n d = some false) ∧ ((s.playOf n).wait = .mat sp ps pa g drw len ba ma co ix ti none)) ∧
    (∃ s : State, ∃ (n : Site) (cl : Bool) (sel : Nat) (tm : Nat) (t0 : Nat) (ix : Nat) (ti : Nat) (cn : Nat) (left : Nat), (s.siteState n = 3) ∧ ((s.siteOf n).role ≠ 2) ∧ ((s.playOf n).wait = .core cl sel tm t0 ix ti cn none) ∧ (s.flag n (4 + sel) = false) ∧ (s.coreTimeout n = some left)) :=
  ⟨⟨(PLAYS 15 [] none 0).updPlay 63 (fun p => { p with decs := [{ flag := 4 }] }), 63, { flag := 4 }, [], false, by decide⟩,
   ⟨(PLAYS 15 [] none 0).updPlay 63 (fun p => { p with decs := [{ flag := 4, other := true }] }), 63, { flag := 4, other := true }, [], true, by decide⟩,
   ⟨(PLAYS 15 [] none 0).updPlay 63 (fun p => { p with decs := [{ flag := 1, wait := true, last := true }], wait := .mat false 1 2 0 9 4 0 1 false 1 3 none }), 63, { flag := 1, wait := true, last := true }, [], false, false, 1, 2, 0, 9, 4, 0, 1, 1, 3, by decide⟩,
   ⟨(PLAYS 15 [] none 0).updPlay 63 (fun p => { p with wait := .core true 3 1 0 1 3 4 none }), 63, true, 3, 1, 0, 1, 3, 4, 5120000, by decide⟩⟩

theorem witness_BanksAndLevels :
    (∃ s : State, ∃ (k : Cluster) (v : Word), (s.cluArmed k = false) ∧ (600 ≤ v.toNat % 4096) ∧ (v.toNat % 4096 ≤ 1800)) ∧
    (∃ s : State, ∃ (k : Cluster) (v : Word), (s.cluArmed k = true)) ∧
    (∃ s : State, ∃ (k : Cluster) (mv : Fin 4096), (s.get (F.CLU_k_BANK_STATUS_IN_WINDOW k) = 1) ∧ (bankIn (s.get (F.CLU_k_BANK_CFG_VNOM k)) mv = false)) ∧
    (∃ s : State, ∃ (k : Cluster) (mv : Fin 4096), (s.get (F.CLU_k_BANK_STATUS_IN_WINDOW k) = 0) ∧ (s.get (F.CLU_k_BANK_CFG_VNOM k) ≠ 0) ∧ (bankIn (s.get (F.CLU_k_BANK_CFG_VNOM k)) mv = true)) ∧
    (∃ s : State, ∃ (k : Cluster) (j : Chan16) (x : Fin 8) (w : Fin 5) (v : Word), ((s.chanOf (16 * k + j)).ls ≠ x.val) ∧ (v.toNat % 2 ^ 16 ≤ 65000)) ∧
    (∃ s : State, ∃ (k : Cluster) (j : Chan16) (x : Fin 8) (w : Fin 5) (v : Word), ((s.chanOf (16 * k + j)).ls = x.val) ∧ (v.toNat % 2 ^ 16 ≤ 65000) ∧ (s.vclamp k < v.toNat % 2 ^ 16)) ∧
    (∃ s : State, ∃ (c : Channel) (w : Nat × Nat), ((s.chanOf c).settle = some w)) :=
  ⟨⟨State.reset, 31, 1800, by decide⟩,
   ⟨USES, 31, 6, by decide⟩,
   ⟨USES.put (F.CLU_k_BANK_STATUS_IN_WINDOW 31) 1, 31, 4095, by decide⟩,
   ⟨State.reset.put (F.CLU_k_BANK_CFG_VNOM 31) 1800, 31, 1980, by decide⟩,
   ⟨State.reset, 31, 15, 7, 4, 0xFFFFFDE8, by decide⟩,
   ⟨State.reset, 31, 15, 0, 4, 65000, by decide⟩,
   ⟨State.reset.updChan 511 (fun x => { x with settle := some (0, 8) }), 511, (0, 8), by decide⟩⟩

theorem witness_ParametricUnits :
    (∃ s : State, ∃ (k : Cluster) (j : Chan16) (v : Word), (s.chanSite (16 * k + j) = none) ∧ (v.toNat % 4 ≠ 3) ∧ (v.toNat % 4 = 1 → forceBad (s.get (F.CLU_k_PP_j_FORCE_VALUE k j)) = false)) ∧
    (∃ s : State, ∃ (k : Cluster) (j : Chan16) (v : Word), ((s.chanSite (16 * k + j)).isSome = true) ∧ (v.toNat % 4 = 1 ∨ v.toNat % 4 = 2)) ∧
    (∃ s : State, ∃ (k : Cluster) (j : Chan16) (v : Word), (s.get (F.CLU_k_PP_j_CTRL_MODE k j) = 1 → forceBad (v.toNat % 2 ^ 18) = false)) ∧
    (∃ s : State, ∃ (k : Cluster) (j : Chan16) (v : Word), (v.toNat / 2 ^ 16 ≤ 65000) ∧ (v.toNat % 2 ^ 16 ≤ v.toNat / 2 ^ 16)) ∧
    (∃ s : State, ∃ (k : Cluster) (j : Chan16) (v : Word), (v.toNat / 2 ^ 16 ≤ 65000) ∧ (v.toNat % 2 ^ 16 ≤ 65000) ∧ (v.toNat / 2 ^ 16 < v.toNat % 2 ^ 16)) ∧
    (∃ s : State, ∃ (k : Cluster) (j : Chan16), (s.ppMode (16 * k + j) ≠ 0) ∧ (s.get (F.CLU_k_MC_STATUS_CUR_CH k) = j)) ∧
    (∃ s : State, ∃ (k : Cluster) (conv : List Int) (j : Nat), (s.get (F.CLU_k_MC_STATUS_RUNNING k) = 1) ∧ (conv.length = 2 ^ s.get (F.CLU_k_MC_TIMING_AVG k)) ∧ (s.get (F.CLU_k_MC_STATUS_CUR_CH k) = j) ∧ (s.calHolds k = false)) :=
  ⟨⟨State.reset, 31, 15, 0xD, by decide⟩,
   ⟨USES, 31, 15, 2, by decide⟩,
   ⟨State.reset, 31, 15, 0xFFFFFFFF, by decide⟩,
   ⟨State.reset, 31, 15, 0xFDE8FDE8, by decide⟩,
   ⟨State.reset, 31, 15, 1, by decide⟩,
   ⟨(State.reset.put (F.CLU_k_PP_j_CTRL_MODE 31 15) 2).put (F.CLU_k_MC_STATUS_CUR_CH 31) 15, 31, 15, by decide⟩,
   ⟨(State.reset.put (F.CLU_k_MC_STATUS_RUNNING 31) 1).put (F.CLU_k_MC_STATUS_CUR_CH 31) 15, 31, List.replicate (2 ^ State.reset.get (F.CLU_k_MC_TIMING_AVG 31)) (-5), 15, by decide⟩⟩

theorem witness_VectorVerdicts :
    (∃ s : State, ∃ (n : Site) (obs : List Obs) (g : Gran) (rest : List Gran), ((s.playOf n).judging = g :: rest) ∧ ((s.captOf n).evValid = false) ∧ ((s.verdicts n g obs).all Option.isSome = true) ∧ ((s.verdicts n g obs).any (fun a => a.any (fun b => b.failed)) = true) ∧ (g.comp = false) ∧ ((s.playOf n).failFrom ≤ g.vnum + (s.playOf n).judged)) ∧
    (∃ s : State, ∃ (n : Site) (obs : List Obs) (g : Gran) (rest : List Gran), ((s.playOf n).judging = g :: rest) ∧ ((s.captOf n).evValid = false) ∧ ((s.verdicts n g obs).all Option.isSome = true) ∧ ((s.verdicts n g obs).any (fun a => a.any (fun b => b.failed)) = false) ∧ ((s.verdicts n g obs) ≠ []) ∧ (g.comp = false) ∧ ((s.captOf n).matchMode = 0) ∧ ((s.playOf n).matchFrom ≤ g.vnum + (s.playOf n).judged)) ∧
    (∃ s : State, ∃ (n : Site) (r : List Byte) (rest : List (List Byte)), ((s.captOf n).failQ = r :: rest)) :=
  ⟨⟨JUDGES, 63, [⟨504, [(true, false)], []⟩], JGRAN, [], by decide⟩,
   ⟨JUDGES, 63, [⟨504, [(false, true)], []⟩], JGRAN, [], by decide⟩,
   ⟨State.reset.updCapt 63 (fun x => { x with base := 4095, recMax := 128, failQ := [[1, 2]] }), 63, [1, 2], [], by decide⟩⟩

theorem witness_TriggerSequencer :
    (∃ s : State, ∃ (n : Site), ((s.captOf n).evValid = true) ∧ ((s.captOf n).evPhase = 2) ∧ ((s.captOf n).event (fldOf (F.CAPT_SITE_n_TRIG_ST_s_TRANS_EV_A n (s.get (F.CAPT_SITE_n_STATUS_TSTATE n))) ((s.captOf n).trans.getD (s.get (F.CAPT_SITE_n_STATUS_TSTATE n)) 0)) = true)) ∧
    (∃ s : State, ∃ (n : Site), ((s.captOf n).evValid = true) ∧ ((s.captOf n).evPhase = 3)) ∧
    (∃ s : State, ∃ (n : Site) (k : Fin 4), ((s.captOf n).evValid = true) ∧ ((s.captOf n).evPhase = 0) ∧ ((s.captOf n).tmrExpires k = true) ∧ ((s.captOf n).tmrHit.length = 4) ∧ ((s.captOf n).tmrDue.length = 4)) ∧
    (∃ s : State, ∃ (n : Site) (k : Fin 4), ((s.captOf n).evValid = true) ∧ ((s.captOf n).evPhase = 0) ∧ (((s.evalStep2 n).captOf n).cntDone.getD k false = true) ∧ ((s.captOf n).cntDone.length = 4) ∧ ((s.captOf n).cntLimit.getD k 0 < 2 ^ 32)) ∧
    (∃ s : State, ∃ (n : Site) (f : Nat), ((s.captOf n).evValid = true) ∧ ((s.captOf n).evPhase = 1) ∧ (fldOf (F.CAPT_SITE_n_TRIG_ST_s_HOLD_MODE n (s.get (F.CAPT_SITE_n_STATUS_TSTATE n))) ((s.captOf n).holds.getD (s.get (F.CAPT_SITE_n_STATUS_TSTATE n)) 0) = 1) ∧ (fldOf (F.CAPT_SITE_n_TRIG_ST_s_HOLD_COUNT n (s.get (F.CAPT_SITE_n_STATUS_TSTATE n))) ((s.captOf n).holds.getD (s.get (F.CAPT_SITE_n_STATUS_TSTATE n)) 0) ≠ 0) ∧ ((s.captOf n).holdFrom = some f) ∧ (f + 32000 * fldOf (F.CAPT_SITE_n_TRIG_ST_s_HOLD_COUNT n (s.get (F.CAPT_SITE_n_STATUS_TSTATE n))) ((s.captOf n).holds.getD (s.get (F.CAPT_SITE_n_STATUS_TSTATE n)) 0) ≤ (s.captOf n).evPos) ∧ ((s.captOf n).holdOver = false)) :=
  ⟨⟨TRIGS, 63, by decide⟩,
   ⟨TRIGS.updCapt 63 (fun x => { x with evPhase := 3 }), 63, by decide⟩,
   ⟨TRIGS.updCapt 63 (fun x => { x with evPhase := 0, tmrHit := [false, false, false, false], tmrDue := [none, none, none, some (some 0)] }), 63, 3, by decide⟩,
   ⟨COUNTS, 63, 3, by decide⟩,
   ⟨HOLDS, 63, 0, by decide⟩⟩

theorem witness_CaptureRecords :
    (∃ s : State, ∃ (n : Site) (r : List Byte) (rest : List (List Byte)), ((s.captOf n).captQ = r :: rest)) ∧
    (∃ s : State, ∃ (n : Site), ((s.captOf n).mode = 2) ∧ ((s.captOf n).copied + 4096 ≤ (s.captOf n).bytes)) ∧
    (∃ s : State, ∃ (n : Site), ((s.captOf n).mode = 2) ∧ (s.siteState n = 5) ∧ (s.allJudged n = true) ∧ ((s.captOf n).captQ = []) ∧ (s.get (F.CAPT_SITE_n_STATUS_FLUSHED n) = 0) ∧ ((s.captOf n).bytes = (s.captOf n).copied)) ∧
    (∃ s : State, ∃ (n : Site), ((s.captOf n).mode = 2) ∧ (s.siteState n = 5) ∧ (s.allJudged n = true) ∧ ((s.captOf n).captQ = []) ∧ (s.get (F.CAPT_SITE_n_STATUS_FLUSHED n) = 0) ∧ ((s.captOf n).copied < (s.captOf n).bytes) ∧ ((s.captOf n).bytes < (s.captOf n).copied + 4096)) ∧
    (∃ s : State, ∃ (n : Site), (s.siteState n = 5) ∧ (s.allJudged n = true) ∧ ((s.captOf n).failQ = []) ∧ ((s.captOf n).captQ = []) ∧ ((s.captOf n).stopped = false) ∧ ((s.captOf n).mode ≠ 2 ∨ s.get (F.CAPT_SITE_n_STATUS_FLUSHED n) = 1)) :=
  ⟨⟨State.reset.updCapt 63 (fun x => { x with base := 4095, pages := 1, mode := 1, captQ := [List.replicate 32 7] }), 63, List.replicate 32 7, [], by decide⟩,
   ⟨(State.reset.wrByte 0xC05FFF010 9).updCapt 63 (fun x => { x with base := 4094, pages := 2, mode := 2, copied := 4096, bytes := 8192, spillBase := 65536 }), 63, by decide⟩,
   ⟨(State.reset.put (F.SITE_n_STATUS_STATE 63) 5).updCapt 63 (fun x => { x with mode := 2 }), 63, by decide⟩,
   ⟨(State.reset.put (F.SITE_n_STATUS_STATE 63) 5).updCapt 63 (fun x => { x with mode := 2, pages := 2, bytes := 4064, spillBase := 65536 }), 63, by decide⟩,
   ⟨(State.reset.put (F.SITE_n_STATUS_STATE 63) 5).updCapt 63 (fun x => { x with stopped := false }), 63, by decide⟩⟩

theorem witness_IntervalMeasurement :
    (∃ s : State, ∃ (k : Cluster) (u : Fin 4), (s.get (F.CLU_k_TDC_u_STATUS_STATE k u) ≠ 1) ∧ (s.get (F.CLU_k_TDC_u_STATUS_STATE k u) ≠ 2) ∧ (s.get (F.CAL_CL_k_STATE_ACTIVE k) ≠ 1) ∧ (s.get (F.CLU_k_TDC_u_OPEN_NS k u) ≤ s.get (F.CLU_k_TDC_u_CLOSE_NS k u))) ∧
    (∃ s : State, ∃ (k : Cluster) (u : Fin 4), (s.get (F.CLU_k_TDC_u_STATUS_STATE k u) = 1 ∨ s.get (F.CLU_k_TDC_u_STATUS_STATE k u) = 2)) ∧
    (∃ s : State, ∃ (k : Cluster) (u : Fin 4), (s.get (F.CLU_k_TDC_u_STATUS_STATE k u) ≠ 1) ∧ (s.get (F.CLU_k_TDC_u_STATUS_STATE k u) ≠ 2) ∧ (s.get (F.CAL_CL_k_STATE_ACTIVE k) = 1)) ∧
    (∃ s : State, ∃ (k : Cluster) (u : Fin 4), (s.get (F.CLU_k_TDC_u_STATUS_STATE k u) ≠ 1) ∧ (s.get (F.CLU_k_TDC_u_STATUS_STATE k u) ≠ 2) ∧ (s.get (F.CAL_CL_k_STATE_ACTIVE k) ≠ 1) ∧ (s.get (F.CLU_k_TDC_u_CLOSE_NS k u) < s.get (F.CLU_k_TDC_u_OPEN_NS k u))) ∧
    (∃ s : State, ∃ (k : Cluster) (u : Fin 4), (s.get (F.CLU_k_TDC_u_STATUS_STATE k u) = 1 ∨ s.get (F.CLU_k_TDC_u_STATUS_STATE k u) = 2)) ∧
    (∃ s : State, ∃ (k : Cluster) (u : Fin 4) (c : Nat) (p : Fin 384) (fall : Bool), (s.get (F.CLU_k_TDC_u_STATUS_STATE k u) = 1) ∧ (s.srcFires k (s.tdcOf k u).startSrc = true) ∧ (edgeOk (s.tdcOf k u).startSrc (s.tdcOf k u).startPol fall = true) ∧ ((s.tdcOf k u).dead (s.tdcTime k u c p) = false)) ∧
    (∃ s : State, ∃ (k : Cluster) (u : Fin 4) (c : Nat) (p : Fin 384) (fall : Bool), (s.get (F.CLU_k_TDC_u_STATUS_STATE k u) = 1) ∧ (s.srcFires k (s.tdcOf k u).startSrc = true) ∧ (edgeOk (s.tdcOf k u).startSrc (s.tdcOf k u).startPol fall = true) ∧ ((s.tdcOf k u).dead (s.tdcTime k u c p) = true)) ∧
    (∃ s : State, ∃ (k : Cluster) (u : Fin 4) (c : Nat) (p : Fin 384) (fall : Bool) (i : Nat), (s.get (F.CLU_k_TDC_u_STATUS_STATE k u) = 2) ∧ ((s.tdcOf k u).rearm = false) ∧ (s.srcFires k (s.tdcOf k u).stopSrc = true) ∧ (edgeOk (s.tdcOf k u).stopSrc (s.tdcOf k u).stopPol fall = true) ∧ ((s.tdcOf k u).dead (s.tdcTime k u c p) = false) ∧ (s.tdcTime k u c p = (s.tdcOf k u).start + i) ∧ (8000 * (s.tdcOf k u).openNs ≤ i) ∧ (i ≤ 8000 * (s.tdcOf k u).closeNs) ∧ (s.get (F.CLU_k_TDC_u_STATUS_COUNT k u) < (s.tdcOf k u).stopMax) ∧ (s.get (F.CLU_k_TDC_u_STATUS_COUNT k u) < 16) ∧ ((s.tdcOf k u).endFull = false)) ∧
    (∃ s : State, ∃ (k : Cluster) (u : Fin 4), (s.get (F.CLU_k_TDC_u_STATUS_STATE k u) = 2) ∧ ((s.tdcOf k u).rearm = false) ∧ ((s.tdcOf k u).hist = false)) ∧
    (∃ s : State, ∃ (k : Cluster) (u : Fin 4), (s.get (F.CLU_k_TDC_u_STATUS_STATE k u) = 2) ∧ ((s.tdcOf k u).rearm = false) ∧ ((s.tdcOf k u).hist = true)) ∧
    (∃ s : State, ∃ (k : Cluster) (u : Fin 4) (b : Fin 256), (s.get (F.CLU_k_TDC_u_STATUS_STATE k u) = 2) ∧ ((s.tdcOf k u).rearm = true) ∧ (s.get (F.CLU_k_TDC_u_STATUS_COUNT k u) ≠ 0) ∧ ((s.tdcOf k u).histBase ≤ (s.num (R.CLU_k_TDC_u_STOP_i_LO k u 0) + 2 ^ 32 * s.get (F.CLU_k_TDC_u_STOP_i_HI_INTERVAL k u 0))) ∧ (((s.num (R.CLU_k_TDC_u_STOP_i_LO k u 0) + 2 ^ 32 * s.get (F.CLU_k_TDC_u_STOP_i_HI_INTERVAL k u 0)) - (s.tdcOf k u).histBase) / 2 ^ (s.tdcOf k u).binw = b) ∧ ((s.tdcOf k u).histN = 0)) :=
  ⟨⟨State.reset, 31, 3, by decide⟩,
   ⟨State.reset.put (F.CLU_k_TDC_u_STATUS_STATE 31 3) 2, 31, 3, by decide⟩,
   ⟨State.reset.put (F.CAL_CL_k_STATE_ACTIVE 31) 1, 31, 3, by decide⟩,
   ⟨(State.reset.put (F.CLU_k_TDC_u_OPEN_NS 31 3) 1).put (F.CLU_k_TDC_u_CLOSE_NS 31 3) 0, 31, 3, by decide⟩,
   ⟨State.reset.put (F.CLU_k_TDC_u_STATUS_STATE 31 3) 2, 31, 3, by decide⟩,
   ⟨State.reset.put (F.CLU_k_TDC_u_STATUS_STATE 31 3) 1, 31, 3, 5, 383, false, by decide⟩,
   ⟨(State.reset.put (F.CLU_k_TDC_u_STATUS_STATE 31 3) 1).updTdc 31 3 (fun x => { x with lastEdge := some 20000 }), 31, 3, 5, 383, false, by decide⟩,
   ⟨(State.reset.put (F.CLU_k_TDC_u_STATUS_STATE 31 3) 2).updTdc 31 3 (fun x => { x with closeNs := 10, stopPol := 2, start := 0 }), 31, 3, 10, 0, true, (State.reset.tdcTime 31 3 10 0).toNat, by decide⟩,
   ⟨State.reset.put (F.CLU_k_TDC_u_STATUS_STATE 31 3) 2, 31, 3, by decide⟩,
   ⟨(State.reset.put (F.CLU_k_TDC_u_STATUS_STATE 31 3) 2).updTdc 31 3 (fun x => { x with hist := true }), 31, 3, by decide⟩,
   ⟨(((State.reset.put (F.CLU_k_TDC_u_STATUS_STATE 31 3) 2).put (F.CLU_k_TDC_u_STATUS_COUNT 31 3) 1).putN (R.CLU_k_TDC_u_STOP_i_LO 31 3 0) 1023).updTdc 31 3 (fun x => { x with rearm := true, binw := 2 }), 31, 3, 255, by decide⟩⟩

theorem witness_SiteArmAndDisarm :
    (∃ s : State, ∃ (n : Site), (s.get (F.SITE_n_STATUS_BUSY n) = 0)) ∧
    (∃ s : State, ∃ (n : Site), (s.get (F.SITE_n_STATUS_BUSY n) = 1)) ∧
    (∃ s : State, ∃ (n : Site), (s.get (F.SITE_n_STATUS_BUSY n) = 1)) ∧
    (∃ s : State, ∃ (n : Site), (s.get (F.SITE_n_STATUS_BUSY n) = 1)) ∧
    (∃ s : State, ∃ (n : Site), (s.get (F.SITE_n_STATUS_BUSY n) = 1)) ∧
    (∃ s : State, ∃ (n : Site), (s.get (F.SITE_n_STATUS_BUSY n) = 0) ∧ (s.siteCheck n ≤ 1)) ∧
    (∃ s : State, ∃ (n : Site), (s.get (F.SITE_n_STATUS_BUSY n) = 0) ∧ (2 ≤ s.siteCheck n)) ∧
    (∃ s : State, ∃ (n : Site), ((s.siteOf n).cmd = 1) ∧ ((s.siteOf n).armRes ≤ 1)) ∧
    (∃ s : State, ∃ (n : Site), ((s.siteOf n).cmd = 1) ∧ (2 ≤ (s.siteOf n).armRes) ∧ ((s.siteOf n).armRes < 256)) ∧
    (∃ s : State, ∃ (n : Site), (s.get (F.SITE_n_STATUS_BUSY n) = 0) ∧ (s.siteState n = 0 ∨ s.siteState n = 1 ∨ s.siteState n = 5)) ∧
    (∃ s : State, ∃ (n : Site), ((s.siteOf n).cmd = 2) ∧ (s.siteState n = 0 ∨ s.siteState n = 1 ∨ s.siteState n = 5)) :=
  ⟨⟨State.reset, 63, by decide⟩,
   ⟨State.reset.put (F.SITE_n_STATUS_BUSY 63) 1, 63, by decide⟩,
   ⟨State.reset.put (F.SITE_n_STATUS_BUSY 63) 1, 63, by decide⟩,
   ⟨State.reset.put (F.SITE_n_STATUS_BUSY 63) 1, 63, by decide⟩,
   ⟨State.reset.put (F.SITE_n_STATUS_BUSY 63) 1, 63, by decide⟩,
   ⟨ARMABLE, 63, by decide +kernel⟩,
   ⟨State.reset, 63, by decide⟩,
   ⟨State.reset.updSite 63 (fun x => { x with cmd := 1, octs := [63] }), 63, by decide⟩,
   ⟨State.reset.updSite 63 (fun x => { x with cmd := 1, armRes := 0x0D }), 63, by decide⟩,
   ⟨State.reset.put (F.SITE_n_STATUS_STATE 63) 5, 63, by decide⟩,
   ⟨(State.reset.put (F.SITE_n_STATUS_STATE 63) 5).updSite 63 (fun x => { x with cmd := 2, octs := [63] }), 63, by decide⟩⟩

theorem witness_GoHandshake :
    (∃ s : State, ∃ (n : Site), (s.get (F.SITE_n_STATUS_BUSY n) = 0) ∧ (s.siteState n = 1) ∧ ((s.siteOf n).role = 0)) ∧
    (∃ s : State, ∃ (n : Site), (s.get (F.SITE_n_STATUS_BUSY n) = 0) ∧ (s.siteState n ≠ 1)) ∧
    (∃ s : State, ∃ (n : Site), (s.get (F.SITE_n_STATUS_BUSY n) = 0) ∧ (s.siteState n = 1) ∧ ((s.siteOf n).role = 2)) ∧
    (∃ s : State, ∃ (n : Site), (s.siteState n = 2) ∧ ((s.siteOf n).tgo = none) ∧ ((s.siteOf n).readySent = false) ∧ (s.cal.span.goWaits = false) ∧ (s.goReady n = true) ∧ ((s.siteOf n).role = 0)) ∧
    (∃ s : State, ∃ (n : Site), (s.siteState n = 2) ∧ ((s.siteOf n).tgo = none) ∧ ((s.siteOf n).readySent = false) ∧ (s.cal.span.goWaits = false) ∧ (s.goReady n = true) ∧ ((s.siteOf n).role = 2)) ∧
    (∃ s : State, ∃ (n : Site) (g : Nat), ((s.siteOf n).tgo = some g) ∧ (s.siteState n = 2)) ∧
    (∃ s : State, ∃ (n : Site), (s.siteState n = 2) ∧ ((s.siteOf n).role = 1) ∧ ((s.siteOf n).tgo = none) ∧ (s.get (F.SITE_n_GO_CFG_TMO n) ≠ 0)) ∧
    (∃ s : State, ∃ (n : Site) (k : Port) (ttl : Nat) (sp : Nat) (src : Nat), (s.spanSite sp = some n.val) ∧ (s.siteState n = 1) ∧ ((s.siteOf n).role = 2)) ∧
    (∃ s : State, ∃ (n : Site) (k : Port) (ttl : Nat) (sp : Nat) (src : Nat) (g : Nat), (s.spanSite sp = some n.val) ∧ (s.siteState n = 2) ∧ ((s.siteOf n).role = 2) ∧ (s.tbVal 0 + 100 ≤ g)) ∧
    (∃ s : State, ∃ (n : Site) (k : Port) (ttl : Nat) (sp : Nat) (src : Nat) (g : Nat), (s.spanSite sp = some n.val) ∧ (s.siteState n = 2) ∧ ((s.siteOf n).role = 2) ∧ (g < s.tbVal 0 + 100)) ∧
    (∃ s : State, ∃ (n : Site) (k : Port) (ttl : Nat) (sp : Nat) (src : Nat), (s.spanSite sp = some n.val) ∧ (s.siteState n = 2) ∧ ((s.siteOf n).role = 2)) ∧
    (∃ s : State, ∃ (n : Site) (dest : Nat) (src : Nat) (sp : Nat) (idx : Nat) (lat : Nat) (chips : Nat), (s.route dest = .here) ∧ (s.spanSite sp = some n.val) ∧ (s.siteState n = 2) ∧ ((s.siteOf n).role = 1) ∧ ((s.siteOf n).tgo = none) ∧ ((s.siteOf n).answers.any (fun a => a.1 == idx) = false) ∧ (lat = s.get (F.SEQ_CTX_n_SPAN_LAT_NS n)) ∧ (chips = (s.siteOf n).chips) ∧ ((s.siteOf n).answers.length + 1 < chips)) ∧
    (∃ s : State, ∃ (n : Site) (dest : Nat) (src : Nat) (sp : Nat) (idx : Nat) (lat : Nat) (chips : Nat), (s.route dest = .here) ∧ (s.spanSite sp = some n.val) ∧ (s.siteState n = 2) ∧ ((s.siteOf n).role = 1) ∧ ((s.siteOf n).tgo = none) ∧ ((s.siteOf n).answers.any (fun a => a.1 == idx) = false) ∧ (lat = s.get (F.SEQ_CTX_n_SPAN_LAT_NS n)) ∧ (chips = (s.siteOf n).chips) ∧ (chips ≤ (s.siteOf n).answers.length + 1)) ∧
    (∃ s : State, ∃ (n : Site) (dest : Nat) (src : Nat) (sp : Nat) (idx : Nat) (lat : Nat) (chips : Nat), (s.route dest = .here) ∧ (s.spanSite sp = some n.val) ∧ (s.siteState n = 2) ∧ ((s.siteOf n).role = 1) ∧ ((s.siteOf n).tgo = none) ∧ ((s.siteOf n).answers.any (fun a => a.1 == idx) = false) ∧ (lat ≠ s.get (F.SEQ_CTX_n_SPAN_LAT_NS n) ∨ chips ≠ (s.siteOf n).chips)) :=
  ⟨⟨State.reset.put (F.SITE_n_STATUS_STATE 63) 1, 63, by decide⟩,
   ⟨State.reset, 63, by decide⟩,
   ⟨SPANS 1 2, 63, by decide⟩,
   ⟨READYSITE 0, 63, by decide⟩,
   ⟨READYSITE 2, 63, by decide⟩,
   ⟨(READYSITE 0).updSite 63 (fun x => { x with tgo := some 0x100000010 }), 63, 0x100000010, by decide⟩,
   ⟨(SPANS 2 1).put (F.SITE_n_GO_CFG_TMO 63) 1, 63, by decide⟩,
   ⟨SPANS 1 2, 63, 3, 1, 7, 9, by decide⟩,
   ⟨SPANS 2 2, 63, 3, 1, 7, 9, 2000, by decide⟩,
   ⟨SPANS 2 2, 63, 3, 1, 7, 9, 99, by decide⟩,
   ⟨SPANS 2 2, 63, 3, 1, 7, 9, by decide⟩,
   ⟨(HERE (SPANS 2 1)).updSite 63 (fun x => { x with chips := 3 }), 63, 5, 9, 7, 2, State.reset.get (F.SEQ_CTX_n_SPAN_LAT_NS 63), 3, by decide⟩,
   ⟨(HERE (SPANS 2 1)).updSite 63 (fun x => { x with answers := [(0, 0, 2)] }), 63, 5, 9, 7, 1, State.reset.get (F.SEQ_CTX_n_SPAN_LAT_NS 63), 2, by decide⟩,
   ⟨HERE (SPANS 2 1), 63, 5, 9, 7, 1, 1, 2, by decide⟩⟩

theorem witness_TransitBarriers :
    (∃ s : State, ∃ (n : Site) (dest : Nat) (src : Nat) (sp : Nat) (idx : Nat), (s.route dest = .here) ∧ (s.spanSite sp = some n.val) ∧ ((s.siteOf n).role = 1) ∧ ((s.siteOf n).arrivals.contains idx = false) ∧ ((s.siteOf n).arrivals.length + 1 < (s.siteOf n).chips)) ∧
    (∃ s : State, ∃ (n : Site) (k : Port) (ttl : Nat) (sp : Nat) (src : Nat) (g : Nat) (tm : Nat) (t0 : Nat), (s.spanSite sp = some n.val) ∧ ((s.playOf n).wait = .trStop 0 tm t0) ∧ ((s.siteOf n).arrived = true) ∧ (s.tbVal 0 + 100 ≤ g)) ∧
    (∃ s : State, ∃ (n : Site) (k : Port) (ttl : Nat) (sp : Nat) (src : Nat) (g : Nat) (tm : Nat) (t0 : Nat), (s.spanSite sp = some n.val) ∧ ((s.playOf n).wait = .trStop 0 tm t0) ∧ ((s.siteOf n).arrived = true) ∧ (g < s.tbVal 0 + 100)) ∧
    (∃ s : State, ∃ (src : Nat) (m : Site), (s.isRoot = true) ∧ (s.num R.ULT_DT_ARRIVED + 1 < s.get F.ULT_DT_EXPECT_COUNT)) ∧
    (∃ s : State, ∃ (src : Nat) (m : Site) (u : Nat), (s.isRoot = false) ∧ (s.upPort = some u) ∧ (s.get F.ULT_STATUS_TOO_DEEP = 0)) ∧
    (∃ s : State, ∃ (n : Site) (src : Nat) (g : Nat) (tm : Nat) (t0 : Nat), ((s.playOf n).wait = .trStop 1 tm t0) ∧ ((s.siteOf n).arrived = true) ∧ (s.tbVal 0 + 100 ≤ g)) ∧
    (∃ s : State, ∃ (n : Site) (g : Nat), ((s.siteOf n).trel = some g) ∧ (s.siteState n = 4)) ∧
    (∃ s : State, ∃ (n : Site) (sc : Nat) (tm : Nat) (t0 : Nat), ((s.playOf n).wait = .trStop sc tm t0) ∧ (s.siteState n = 4)) :=
  ⟨⟨HERE (SPANS 4 1), 63, 5, 9, 7, 1, by decide⟩,
   ⟨WAITS 0 2, 63, 3, 1, 7, 9, 2000, 1, 0, by decide⟩,
   ⟨WAITS 0 2, 63, 3, 1, 7, 9, 99, 1, 0, by decide⟩,
   ⟨(State.reset.put F.ULT_STATUS_ROOT 1).put F.ULT_DT_EXPECT_COUNT 2, 9, 63, by decide⟩,
   ⟨UPPORT, 9, 63, 3, by decide⟩,
   ⟨WAITS 1 0, 63, 9, 2000, 1, 0, by decide⟩,
   ⟨(WAITS 0 2).updSite 63 (fun x => { x with trel := some 2000 }), 63, 2000, by decide⟩,
   ⟨WAITS 0 2, 63, 0, 1, 0, by decide⟩⟩

theorem witness_SpanFlagsAndLoss :
    (∃ s : State, ∃ (n : Site) (k : Port) (ttl : Nat) (sp : Nat) (src : Nat) (idx : Nat) (q : Nat) (bits : Nat), (s.spanSite sp = some n.val) ∧ (s.siteState n = 3) ∧ (s.flagOpen n q = true)) ∧
    (∃ s : State, ∃ (n : Site) (k : Port) (ttl : Nat) (sp : Nat) (src : Nat) (idx : Nat) (q : Nat) (bits : Nat), (s.spanSite sp = some n.val) ∧ (s.siteState n = 3) ∧ (s.flagOpen n q = false)) ∧
    (∃ s : State, ∃ (n : Site) (d : Decision) (q : Nat), ((s.playOf n).decs.find? (fun d => d.seq.isSome && d.comb.isNone) = some d) ∧ (d.known (s.playOf n) = true) ∧ (d.flag = 2) ∧ (d.seq = some q) ∧ (q < 2 ^ 16) ∧ (∀ i, i < (s.siteOf n).chips → i = (s.siteOf n).index ∨ ((s.siteOf n).valuesOf q).any (fun g => g.1 == i) = true)) ∧
    (∃ s : State, ∃ (n : Site), (s.armed n = true) ∧ ((s.siteOf n).role ≠ 0)) ∧
    (∃ s : State, ∃ (n : Site) (k : Port) (ttl : Nat) (sp : Nat) (src : Nat) (idx : Nat), (s.spanSite sp = some n.val)) ∧
    (∃ s : State, ∃ (n : Site) (idx : Set8), (s.siteState n = 3) ∧ ((s.siteOf n).role ≠ 0) ∧ (idx.val < (s.siteOf n).chips) ∧ (idx.val ≠ (s.siteOf n).index) ∧ ((s.siteOf n).lost.contains idx.val = false)) ∧
    (∃ s : State, ∃ (n : Site) (k : Port) (ttl : Nat) (sp : Nat) (src : Nat) (idx : Nat) (w : Word), (s.spanSite sp = some n.val) ∧ (s.siteState n = 3)) ∧
    (∃ s : State, ∃ (n : Site), ((s.siteOf n).role = 1) ∧ (s.siteState n = 5) ∧ ((s.siteOf n).spanDone = false)) :=
  ⟨⟨SPANS 3 1, 63, 3, 1, 7, 9, 1, 0, 1, by decide⟩,
   ⟨(SPANS 3 1).updSite 63 (fun x => { x with seqNo := 1 }), 63, 3, 1, 7, 9, 1, 0, 1, by decide⟩,
   ⟨((SPANS 3 1).updSite 63 (fun x => { x with flagsIn := [(4, 1, 1)] })).updPlay 63 (fun p => { p with decs := [{ flag := 2, seq := some 4 }] }), 63, { flag := 2, seq := some 4 }, 4, by decide⟩,
   ⟨SPANS 3 1, 63, by decide⟩,
   ⟨{ SPANS 3 1 with now := 77 }, 63, 3, 1, 7, 9, 1, by decide⟩,
   ⟨SPANS 3 1, 63, 1, by decide⟩,
   ⟨SPANS 3 1, 63, 3, 1, 7, 9, 1, 0x10000018, by decide⟩,
   ⟨SPANS 5 1, 63, by decide⟩⟩

theorem witness_EnumerationAndRemoteAccesses :
    (∃ s : State, (s.ready = true) ∧ (s.isRoot = true) ∧ (s.autoId = true) ∧ (s.downPorts = [])) ∧
    (∃ s : State, (s.isRoot = true) ∧ (s.autoId = true) ∧ (s.downPorts = [])) ∧
    (∃ s : State, (s.isRoot = false)) ∧
    (∃ s : State, ∃ (k : Port) (z : Nat), (s.autoId = true) ∧ (s.downPorts.contains k.val = true) ∧ (s.isRoot = true) ∧ (s.ult.enumBusy = false)) ∧
    (∃ s : State, ∃ (k : Port) (b : Nat), (s.autoId = true) ∧ (s.isRoot = false) ∧ (s.upPort = some k.val) ∧ (s.get F.ULT_STATUS_TOO_DEEP = 0) ∧ (s.downPorts = []) ∧ (b < 2 ^ 16)) ∧
    (∃ s : State, ∃ (k : Port), (s.get F.ULT_RMT_STATUS_BUSY = 0) ∧ (s.route (s.get F.ULT_RMT_ID_ID) = .port k) ∧ (s.portLive k = true)) ∧
    (∃ s : State, (s.get F.ULT_RMT_STATUS_BUSY = 1)) ∧
    (∃ s : State, ∃ (k : Port), (s.get F.ULT_RMT_STATUS_BUSY = 0) ∧ (s.route (s.get F.ULT_RMT_ID_ID) = .port k) ∧ (s.portLive k = true)) ∧
    (∃ s : State, (s.get F.ULT_RMT_STATUS_BUSY = 1)) ∧
    (∃ s : State, ∃ (dest : Nat) (src : Nat) (tag : Nat) (k : Port) (m : Fin 4), (s.route dest = .here) ∧ (s.route src = .port k) ∧ (s.portLive k = true)) ∧
    (∃ s : State, ∃ (dest : Nat) (src : Nat) (tag : Nat) (v : Word) (k : Port) (m : Fin 4), (s.route dest = .here) ∧ (s.route src = .port k) ∧ (s.portLive k = true)) ∧
    (∃ s : State, ∃ (dest : Nat) (src : Nat) (tag : Nat) (d : Word) (q : MgmtReq), (s.route dest = .here) ∧ (s.ult.mgmt = some q) ∧ (q.tag = tag) ∧ (q.wr = false) ∧ (s.get F.ULT_RMT_STATUS_BUSY = 1)) ∧
    (∃ s : State, ∃ (dest : Nat) (src : Nat) (tag : Nat) (st : Nat) (q : MgmtReq), (s.route dest = .here) ∧ (s.ult.mgmt = some q) ∧ (q.tag = tag) ∧ (q.wr = true) ∧ (s.get F.ULT_RMT_STATUS_BUSY = 1) ∧ (st < 4)) ∧
    (∃ s : State, ∃ (q : MgmtReq), (s.ult.mgmt = some q) ∧ (s.get F.ULT_RMT_STATUS_BUSY = 1)) :=
  ⟨⟨(State.reset.put F.ULT_STATUS_ROOT 1).put F.GLB_STATUS_READY 1, by decide⟩,
   ⟨State.reset.put F.ULT_STATUS_ROOT 1, by decide⟩,
   ⟨State.reset, by decide⟩,
   ⟨(State.reset.put F.ULT_STATUS_ROOT 1).put (F.ULT_Pk_STATUS_WIDTH 3) 2, 3, 65535, by decide⟩,
   ⟨UPPORT, 3, 65535, by decide⟩,
   ⟨UPPORT.put (F.ULT_Pk_STATUS_WIDTH 3) 2, 3, by decide⟩,
   ⟨State.reset.put F.ULT_RMT_STATUS_BUSY 1, by decide⟩,
   ⟨UPPORT.put (F.ULT_Pk_STATUS_WIDTH 3) 2, 3, by decide⟩,
   ⟨State.reset.put F.ULT_RMT_STATUS_BUSY 1, by decide⟩,
   ⟨(HERE UPPORT).put (F.ULT_Pk_STATUS_WIDTH 3) 2, 5, 9, 300, 3, 3, by decide⟩,
   ⟨(HERE UPPORT).put (F.ULT_Pk_STATUS_WIDTH 3) 2, 5, 9, 255, 0xFFFFFFFF, 3, 3, by decide⟩,
   ⟨{ HERE (State.reset.put F.ULT_RMT_STATUS_BUSY 1) with ult := { mgmt := some ⟨255, 9, false, 3⟩ } }, 5, 9, 255, 7, ⟨255, 9, false, 3⟩, by decide⟩,
   ⟨{ HERE (State.reset.put F.ULT_RMT_STATUS_BUSY 1) with ult := { mgmt := some ⟨255, 9, true, 3⟩ } }, 5, 9, 255, 3, ⟨255, 9, true, 3⟩, by decide⟩,
   ⟨{ HERE (State.reset.put F.ULT_RMT_STATUS_BUSY 1) with ult := { mgmt := some ⟨255, 9, false, 3⟩ } }, ⟨255, 9, false, 3⟩, by decide⟩⟩

theorem witness_BulkWrites :
    (∃ s : State, ∃ (dest : Nat) (src : Nat) (a : Nat) (d : List Byte) (k : Port), (d.length % 8 = 0) ∧ (8 ≤ d.length) ∧ (d.length ≤ 256) ∧ (0xD00000000 ≤ a) ∧ (a + d.length ≤ 0xD00400000) ∧ (s.route dest = .here) ∧ (s.route src = .port k) ∧ (s.portLive k = true)) ∧
    (∃ s : State, ∃ (dest : Nat) (src : Nat) (a : Nat) (d : List Byte) (k : Port), (d.length % 8 = 0) ∧ (8 ≤ d.length) ∧ (d.length ≤ 256) ∧ (s.route dest = .port k) ∧ (s.portLive k = true) ∧ (s.get F.ULT_STATUS_TOO_DEEP = 0)) ∧
    (∃ s : State, ∃ (dest : Nat) (src : Nat) (a : Nat) (d : List Byte), (d.length % 8 = 0) ∧ (8 ≤ d.length) ∧ (d.length ≤ 256) ∧ (0xD00000000 ≤ a) ∧ (a + d.length ≤ 0xD00400000)) ∧
    (∃ s : State, ∃ (mc : Bool) (dest : Nat) (src : Nat) (a : Nat) (d : List Byte), (d.length % 8 ≠ 0 ∨ d.length < 8 ∨ 256 < d.length)) ∧
    (∃ s : State, ∃ (dest : Nat) (src : Nat) (a : Nat) (st : Nat) (b : Nat) (e : Engine8), (s.route dest = .here) ∧ (s.ackEngine src a = some e.val)) ∧
    (∃ s : State, ∃ (dest : Nat) (src : Nat) (a : Nat) (st : Nat) (b : Nat) (k : Port), (s.route dest = .port k) ∧ (s.portLive k = true) ∧ (s.get F.ULT_STATUS_TOO_DEEP = 0)) :=
  ⟨⟨(HERE UPPORT).put (F.ULT_Pk_STATUS_WIDTH 3) 2, 5, 9, 0xD003FFFF8, [1, 2, 3, 4, 5, 6, 7, 8], 3, by decide⟩,
   ⟨UPPORT.put (F.ULT_Pk_STATUS_WIDTH 3) 2, 5, 9, 0xD003FFFF8, [1, 2, 3, 4, 5, 6, 7, 8], 3, by decide⟩,
   ⟨State.reset, 5, 9, 0xD003FFFF8, [1, 2, 3, 4, 5, 6, 7, 8], by decide⟩,
   ⟨State.reset, true, 0, 0, 0, [1], by decide⟩,
   ⟨HERE (State.reset.updDma 7 (fun x => { x with acks := [64], cur := some ⟨0, 64, 8, 3, 0, 9, 0⟩ })), 5, 9, 64, 1, 0, 7, by decide⟩,
   ⟨UPPORT.put (F.ULT_Pk_STATUS_WIDTH 3) 2, 5, 9, 64, 1, 77, 3, by decide⟩⟩

theorem witness_UltenLanes :
    (∃ s : State, ∃ (k : Port) (v : Word), ((s.plainWrite (R.ULT_Pk_CTRL k) v).get (F.ULT_Pk_CTRL_ENABLE k) = 1) ∧ ((s.plainWrite (R.ULT_Pk_CTRL k) v).get (F.ULT_Pk_CTRL_MODE k) = 0)) ∧
    (∃ s : State, ∃ (k : Port) (v : Word), ((s.plainWrite (R.ULT_Pk_CTRL k) v).get (F.ULT_Pk_CTRL_ENABLE k) = 0)) ∧
    (∃ s : State, ∃ (k : Port) (v : Word), ((s.plainWrite (R.ULT_Pk_CTRL k) v).get (F.ULT_Pk_CTRL_ENABLE k) = 1) ∧ ((s.plainWrite (R.ULT_Pk_CTRL k) v).get (F.ULT_Pk_CTRL_MODE k) = 1)) ∧
    (∃ s : State, ∃ (k : Port), (s.ulNormal k = true)) ∧
    (∃ s : State, ∃ (k : Port) (m : PLane) (b : BitVec 66), (s.ulState k m = 9)) ∧
    (∃ s : State, ∃ (k : Port) (m : PLane), (s.ulState k m = 1)) ∧
    (∃ s : State, ∃ (k : Port) (m : PLane), (s.ulState k m = 2)) ∧
    (∃ s : State, ∃ (k : Port) (m : PLane), (s.ulState k m = 8)) ∧
    (∃ s : State, ∃ (k : Port) (m : PLane), (s.ulState k m = 2 ∨ s.ulState k m = 3 ∨ s.ulState k m = 4 ∨ s.ulState k m = 6)) ∧
    (∃ s : State, ∃ (k : Port) (m : PLane), (s.ulState k m = 8)) ∧
    (∃ s : State, ∃ (k : Port) (m : PLane) (i : Nat) (d : Nat) (port : Nat) (top : Nat), (s.ulState k m = 3) ∧ (i < 2 ^ 16)) ∧
    (∃ s : State, ∃ (k : Port) (m : PLane) (port : Nat) (top : Nat), (s.ulState k m = 3)) ∧
    (∃ s : State, ∃ (k : Port) (m : PLane), (s.ulState k m = 4)) ∧
    (∃ s : State, ∃ (k : Port) (m : PLane) (w : BitVec 16) (c : Nat × Nat), (s.ulState k m = 5) ∧ (w.getLsbD 15 = true) ∧ (presetOf (w.toNat / 2 ^ 12 % 8) = c)) ∧
    (∃ s : State, ∃ (k : Port) (m : PLane) (w : BitVec 16), (s.ulState k m = 5) ∧ (w.toNat = 0x0040) ∧ (s.get (F.ULT_Pk_Lm_FFE_PRE k m) < 8) ∧ (s.get (F.ULT_Pk_Lm_FFE_PRE k m) + s.get (F.ULT_Pk_Lm_FFE_POST k m) < 20)) ∧
    (∃ s : State, ∃ (k : Port) (m : PLane) (w : BitVec 16), (s.ulState k m = 5) ∧ (w.toNat = 0x0020) ∧ (s.get (F.ULT_Pk_Lm_FFE_POST k m) = 0)) ∧
    (∃ s : State, ∃ (k : Port) (m : PLane), (s.ulState k m = 5)) ∧
    (∃ s : State, ∃ (k : Port) (m : PLane), (s.ulState k m = 6)) ∧
    (∃ s : State, ∃ (k : Port) (m : PLane), (s.ulState k m = 6) ∧ ((s.ulaneOf k m).prevPre < 16) ∧ ((s.ulaneOf k m).prevPost < 32)) ∧
    (∃ s : State, ∃ (k : Port) (m : PLane), (s.ulState k m = 7)) :=
  ⟨⟨State.reset, 3, 0xC4000000, by decide⟩,
   ⟨State.reset, 3, 0, by decide⟩,
   ⟨State.reset, 3, 0x90000000, by decide⟩,
   ⟨State.reset.put (F.ULT_Pk_CTRL_ENABLE 3) 1, 3, by decide⟩,
   ⟨(State.reset.put (F.ULT_Pk_Lm_STATE_STATE 3 1) 9), 3, 1, 0x2FFFFFFFFFFFFFFFF, by decide⟩,
   ⟨(State.reset.put (F.ULT_Pk_Lm_STATE_STATE 3 1) 1), 3, 1, by decide⟩,
   ⟨(State.reset.put (F.ULT_Pk_Lm_STATE_STATE 3 1) 2), 3, 1, by decide⟩,
   ⟨(State.reset.put (F.ULT_Pk_Lm_STATE_STATE 3 1) 8), 3, 1, by decide⟩,
   ⟨(State.reset.put (F.ULT_Pk_Lm_STATE_STATE 3 1) 6), 3, 1, by decide⟩,
   ⟨(State.reset.put (F.ULT_Pk_Lm_STATE_STATE 3 1) 8), 3, 1, by decide⟩,
   ⟨(State.reset.put (F.ULT_Pk_Lm_STATE_STATE 3 1) 3), 3, 1, 65535, 1, 2, 7, by decide⟩,
   ⟨(State.reset.put (F.ULT_Pk_Lm_STATE_STATE 3 1) 3), 3, 1, 2, 0, by decide⟩,
   ⟨(State.reset.put (F.ULT_Pk_Lm_STATE_STATE 3 1) 4), 3, 1, by decide⟩,
   ⟨(State.reset.put (F.ULT_Pk_Lm_STATE_STATE 3 1) 5), 3, 1, 0xF000, (4, 12), by decide⟩,
   ⟨(State.reset.put (F.ULT_Pk_Lm_STATE_STATE 3 1) 5), 3, 1, 0x40, by decide⟩,
   ⟨(State.reset.put (F.ULT_Pk_Lm_STATE_STATE 3 1) 5).put (F.ULT_Pk_Lm_FFE_POST 3 1) 0, 3, 1, 0x20, by decide⟩,
   ⟨(State.reset.put (F.ULT_Pk_Lm_STATE_STATE 3 1) 5), 3, 1, by decide⟩,
   ⟨(State.reset.put (F.ULT_Pk_Lm_STATE_STATE 3 1) 6), 3, 1, by decide⟩,
   ⟨(State.reset.put (F.ULT_Pk_Lm_STATE_STATE 3 1) 6), 3, 1, by decide⟩,
   ⟨(State.reset.put (F.ULT_Pk_Lm_STATE_STATE 3 1) 7), 3, 1, by decide⟩⟩

theorem witness_ExpressLaneCommands :
    (∃ s : State, ∃ (n : Lane) (v : Word) (g : XlSeen), (((s.plainWrite (R.XL_n_CTRL n) v).get (F.XL_n_CTRL_ENABLE n)) = 1) ∧ (s.get (F.XL_n_CTRL_ENABLE n) = 0) ∧ (s.safe = false) ∧ ((s.plainWrite (R.XL_n_CTRL n) v).get (F.XL_n_CTRL_TRAIN n) = 0)) ∧
    (∃ s : State, ∃ (n : Lane) (v : Word) (g : XlSeen), (((s.plainWrite (R.XL_n_CTRL n) v).get (F.XL_n_CTRL_ENABLE n)) = 1) ∧ (s.get (F.XL_n_CTRL_ENABLE n) = 0) ∧ (s.safe = false) ∧ ((s.plainWrite (R.XL_n_CTRL n) v).get (F.XL_n_CTRL_TRAIN n) = 1)) ∧
    (∃ s : State, ∃ (n : Lane) (v : Word) (g : XlSeen), (((s.plainWrite (R.XL_n_CTRL n) v).get (F.XL_n_CTRL_ENABLE n)) = 1) ∧ (s.get (F.XL_n_CTRL_ENABLE n) = 0) ∧ (s.safe = true)) ∧
    (∃ s : State, ∃ (n : Lane) (v : Word) (g : XlSeen), (((s.plainWrite (R.XL_n_CTRL n) v).get (F.XL_n_CTRL_ENABLE n)) = 0) ∧ (s.get (F.XL_n_CTRL_ENABLE n) = 1)) ∧
    (∃ s : State, ∃ (n : Lane) (g : XlSeen), (s.get (F.XL_n_CTRL_ENABLE n) = 1) ∧ (s.safe = false) ∧ (s.badLaneDrawer n = false) ∧ (s.xlState n ≠ 2)) ∧
    (∃ s : State, ∃ (n : Lane) (g : XlSeen), (s.get (F.XL_n_CTRL_ENABLE n) = 1) ∧ (s.safe = false) ∧ (s.badLaneDrawer n = false) ∧ (s.xlState n = 2)) ∧
    (∃ s : State, ∃ (n : Lane) (g : XlSeen), (s.get (F.XL_n_CTRL_ENABLE n) = 1) ∧ (s.safe = false) ∧ (s.badLaneDrawer n = true)) ∧
    (∃ s : State, ∃ (n : Lane) (g : XlSeen), (s.get (F.XL_n_CTRL_ENABLE n) = 1) ∧ (s.safe = false)) ∧
    (∃ s : State, ∃ (n : Lane) (g : XlSeen), (s.get (F.XL_n_CTRL_ENABLE n) = 1) ∧ (s.safe = false)) ∧
    (∃ s : State, ∃ (n : Lane) (g : XlSeen), (s.get (F.XL_n_CTRL_ENABLE n) = 1) ∧ (s.safe = false)) ∧
    (∃ s : State, ∃ (n : Lane) (g : XlSeen), (s.get (F.XL_n_CTRL_ENABLE n) = 1) ∧ (s.safe = false) ∧ (s.get (F.XL_n_CTRL_TRAIN n) = 1)) ∧
    (∃ s : State, ∃ (n : Lane) (g : XlSeen), (s.get (F.XL_n_CTRL_ENABLE n) = 1) ∧ (s.safe = false) ∧ (s.get (F.XL_n_CTRL_TRAIN n) = 0)) ∧
    (∃ s : State, ∃ (n : Lane) (g : XlSeen), (s.get (F.XL_n_CTRL_ENABLE n) = 1) ∧ (s.safe = false) ∧ (s.xlState n = 3) ∧ (s.get (F.XL_n_STATUS_LOCK n) = 1) ∧ (s.eyeRangeOk (s.pair (R.XL_n_EYE_BASE_LO n)) = true) ∧ (s.get (F.XL_n_STATUS_EYE_BUSY n) = 0)) ∧
    (∃ s : State, ∃ (n : Lane) (g : XlSeen), (s.get (F.XL_n_CTRL_ENABLE n) = 1) ∧ (s.safe = false) ∧ (s.xlState n ≠ 3 ∨ s.get (F.XL_n_STATUS_LOCK n) = 0)) ∧
    (∃ s : State, ∃ (n : Lane) (g : XlSeen), (s.get (F.XL_n_CTRL_ENABLE n) = 1) ∧ (s.safe = false) ∧ (s.xlState n = 3) ∧ (s.get (F.XL_n_STATUS_LOCK n) = 1) ∧ (s.eyeRangeOk (s.pair (R.XL_n_EYE_BASE_LO n)) = false)) ∧
    (∃ s : State, ∃ (n : Lane) (g : XlSeen), (s.get (F.XL_n_CTRL_ENABLE n) = 1) ∧ (s.safe = false) ∧ (s.get (F.XL_n_STATUS_EYE_BUSY n) = 1)) ∧
    (∃ s : State, ∃ (n : Lane) (g : XlSeen), (s.get (F.XL_n_CTRL_ENABLE n) = 0)) ∧
    (∃ s : State, ∃ (n : Lane) (g : XlSeen), (s.get (F.XL_n_CTRL_ENABLE n) = 1) ∧ (s.safe = true)) ∧
    (∃ s : State, ∃ (n : Lane) (g : XlSeen), (s.get (F.XL_n_CTRL_ENABLE n) = 0)) ∧
    (∃ s : State, ∃ (n : Lane) (g : XlSeen), (s.get (F.XL_n_CTRL_ENABLE n) = 1) ∧ (s.safe = true)) ∧
    (∃ s : State, ∃ (n : Lane) (g : XlSeen), (s.get (F.XL_n_CTRL_ENABLE n) = 0)) ∧
    (∃ s : State, ∃ (n : Lane) (g : XlSeen), (s.get (F.XL_n_CTRL_ENABLE n) = 1) ∧ (s.safe = true)) ∧
    (∃ s : State, ∃ (n : Lane) (g : XlSeen), (s.get (F.XL_n_CTRL_ENABLE n) = 0)) ∧
    (∃ s : State, ∃ (n : Lane) (g : XlSeen), (s.get (F.XL_n_CTRL_ENABLE n) = 1) ∧ (s.safe = true)) ∧
    (∃ s : State, ∃ (n : Lane) (g : XlSeen), (s.get (F.XL_n_CTRL_ENABLE n) = 0)) ∧
    (∃ s : State, ∃ (n : Lane) (g : XlSeen), (s.get (F.XL_n_CTRL_ENABLE n) = 1) ∧ (s.safe = true)) ∧
    (∃ s : State, ∃ (n : Lane) (g : XlSeen), (s.get (F.XL_n_CTRL_ENABLE n) = 0)) ∧
    (∃ s : State, ∃ (n : Lane) (g : XlSeen), (s.get (F.XL_n_CTRL_ENABLE n) = 1) ∧ (s.safe = true)) ∧
    (∃ s : State, ∃ (n : Lane) (g : XlSeen), (s.get (F.XL_n_CTRL_ENABLE n) = 0)) ∧
    (∃ s : State, ∃ (n : Lane) (g : XlSeen), (s.get (F.XL_n_CTRL_ENABLE n) = 1) ∧ (s.safe = true)) :=
  ⟨⟨State.reset.put F.GLB_STATUS_SAFE 0, 127, 0x80000000, ⟨100, 3, 500, 0xFEDCBA9876543210, true⟩, by decide⟩,
   ⟨State.reset.put F.GLB_STATUS_SAFE 0, 127, 0xFFFFFFFF, ⟨100, 3, 500, 0xFEDCBA9876543210, true⟩, by decide⟩,
   ⟨State.reset.put F.GLB_STATUS_SAFE 1, 127, 0x80000000, ⟨100, 3, 500, 0xFEDCBA9876543210, true⟩, by decide⟩,
   ⟨CHECKS, 127, 0, ⟨100, 3, 500, 0xFEDCBA9876543210, true⟩, by decide⟩,
   ⟨CHECKS, 127, ⟨100, 3, 500, 0xFEDCBA9876543210, true⟩, by decide⟩,
   ⟨LANE 2, 127, ⟨100, 3, 500, 0xFEDCBA9876543210, true⟩, by decide⟩,
   ⟨(LANE 1).put (F.XL_n_SRC_TX_SRC 127) 7, 127, ⟨100, 3, 500, 0xFEDCBA9876543210, true⟩, by decide⟩,
   ⟨CHECKS, 127, ⟨100, 3, 500, 0xFEDCBA9876543210, true⟩, by decide⟩,
   ⟨LANE 1, 127, ⟨100, 3, 500, 0xFEDCBA9876543210, true⟩, by decide⟩,
   ⟨CHECKS, 127, ⟨100, 3, 500, 0xFEDCBA9876543210, true⟩, by decide⟩,
   ⟨(LANE 1).put (F.XL_n_CTRL_TRAIN 127) 1, 127, ⟨100, 3, 500, 0xFEDCBA9876543210, true⟩, by decide⟩,
   ⟨LANE 1, 127, ⟨100, 3, 500, 0xFEDCBA9876543210, true⟩, by decide⟩,
   ⟨CHECKS.putPair (R.XL_n_EYE_BASE_LO 127) 0xD003F8000, 127, ⟨100, 3, 500, 0xFEDCBA9876543210, true⟩, by decide⟩,
   ⟨LANE 1, 127, ⟨100, 3, 500, 0xFEDCBA9876543210, true⟩, by decide⟩,
   ⟨CHECKS.putPair (R.XL_n_EYE_BASE_LO 127) 0xD003F8040, 127, ⟨100, 3, 500, 0xFEDCBA9876543210, true⟩, by decide⟩,
   ⟨CHECKS.put (F.XL_n_STATUS_EYE_BUSY 127) 1, 127, ⟨100, 3, 500, 0xFEDCBA9876543210, true⟩, by decide⟩,
   ⟨State.reset, 127, ⟨100, 3, 500, 0xFEDCBA9876543210, true⟩, by decide⟩,
   ⟨(LANE 4).put F.GLB_STATUS_SAFE 1, 127, ⟨100, 3, 500, 0xFEDCBA9876543210, true⟩, by decide⟩,
   ⟨State.reset, 127, ⟨100, 3, 500, 0xFEDCBA9876543210, true⟩, by decide⟩,
   ⟨(LANE 4).put F.GLB_STATUS_SAFE 1, 127, ⟨100, 3, 500, 0xFEDCBA9876543210, true⟩, by decide⟩,
   ⟨State.reset, 127, ⟨100, 3, 500, 0xFEDCBA9876543210, true⟩, by decide⟩,
   ⟨(LANE 4).put F.GLB_STATUS_SAFE 1, 127, ⟨100, 3, 500, 0xFEDCBA9876543210, true⟩, by decide⟩,
   ⟨State.reset, 127, ⟨100, 3, 500, 0xFEDCBA9876543210, true⟩, by decide⟩,
   ⟨(LANE 4).put F.GLB_STATUS_SAFE 1, 127, ⟨100, 3, 500, 0xFEDCBA9876543210, true⟩, by decide⟩,
   ⟨State.reset, 127, ⟨100, 3, 500, 0xFEDCBA9876543210, true⟩, by decide⟩,
   ⟨(LANE 4).put F.GLB_STATUS_SAFE 1, 127, ⟨100, 3, 500, 0xFEDCBA9876543210, true⟩, by decide⟩,
   ⟨State.reset, 127, ⟨100, 3, 500, 0xFEDCBA9876543210, true⟩, by decide⟩,
   ⟨(LANE 4).put F.GLB_STATUS_SAFE 1, 127, ⟨100, 3, 500, 0xFEDCBA9876543210, true⟩, by decide⟩,
   ⟨State.reset, 127, ⟨100, 3, 500, 0xFEDCBA9876543210, true⟩, by decide⟩,
   ⟨(LANE 4).put F.GLB_STATUS_SAFE 1, 127, ⟨100, 3, 500, 0xFEDCBA9876543210, true⟩, by decide⟩⟩

theorem witness_ExpressLaneEvents :
    (∃ s : State, ∃ (n : Lane), (s.get (F.XL_n_CTRL_ENABLE n) = 1)) ∧
    (∃ s : State, ∃ (n : Lane) (a : Nat) (b : Nat), (s.xlState n = 2) ∧ ((s.laneOf n).pendStart = false) ∧ (a ≤ 8) ∧ (b ≤ 16) ∧ (a + b ≤ 20)) ∧
    (∃ s : State, ∃ (n : Lane) (a : Nat) (b : Nat), (s.xlState n = 2) ∧ ((s.laneOf n).pendStart = true) ∧ (s.badLaneDrawer n = false) ∧ (a ≤ 8) ∧ (b ≤ 16) ∧ (a + b ≤ 20)) ∧
    (∃ s : State, ∃ (n : Lane), (s.xlState n = 2) ∧ ((s.laneOf n).pendStart = false)) ∧
    (∃ s : State, ∃ (n : Lane) (g : XlSeen), (s.prbsOn n = true)) ∧
    (∃ s : State, ∃ (n : Lane) (g : XlSeen), (s.prbsOn n = true) ∧ (s.get (F.XL_n_STATUS_LOCK n) = 1)) ∧
    (∃ s : State, ∃ (n : Lane) (g : XlSeen), (s.xlState n = 3) ∧ ((s.laneOf n).checker = true)) ∧
    (∃ s : State, ∃ (n : Lane) (g : XlSeen) (old : Nat), (s.xlState n = 3) ∧ ((s.laneOf n).checker = true) ∧ (s.get (F.XL_n_STATUS_LOCK n) = 1) ∧ (old = s.pair (R.XL_n_BERR_LO n)) ∧ (s.num (R.XL_n_ERR_THRESH n) ≠ 0) ∧ (old < s.num (R.XL_n_ERR_THRESH n)) ∧ (s.num (R.XL_n_ERR_THRESH n) ≤ old + g.errs) ∧ (g.errs ≤ g.bits) ∧ (old + g.errs < 2 ^ 48) ∧ (s.pair (R.XL_n_BITS_LO n) + g.bits < 2 ^ 48)) ∧
    (∃ s : State, ∃ (n : Lane) (g : XlSeen), (s.xlState n = 3) ∧ ((s.laneOf n).txSrc = 7) ∧ ((s.laneOf n).loop ≠ 2) ∧ ((s.laneOf n).payloadEnded = false) ∧ ((s.laneOf n).repeat_ = false)) ∧
    (∃ s : State, ∃ (n : Lane) (g : XlSeen), (s.xlState n = 3) ∧ ((s.laneOf n).repeat_ = true)) ∧
    (∃ s : State, ∃ (n : Lane) (cnt : Nat) (p : Nat), (s.get (F.XL_n_STATUS_EYE_BUSY n) = 1) ∧ (p = s.get (F.XL_n_EYE_STATUS_POINTS n)) ∧ (p < 8191) ∧ ((s.laneOf n).dwell < 32)) ∧
    (∃ s : State, ∃ (n : Lane) (cnt : Nat), (s.get (F.XL_n_STATUS_EYE_BUSY n) = 1) ∧ (s.get (F.XL_n_EYE_STATUS_POINTS n) = 8191)) ∧
    (∃ s : State, ∃ (n : Lane) (g : XlSeen) (a : LaneAct) (l : List LaneAct), (s.get (F.XL_n_CTRL_ENABLE n) = 1) ∧ (s.safe = false) ∧ ((s.laneOf n).acts = a :: l) ∧ (a.act = 1) ∧ (a.arg.testBit 0 = false)) ∧
    (∃ s : State, ∃ (n : Lane) (g : XlSeen) (a : LaneAct) (l : List LaneAct), (s.get (F.XL_n_CTRL_ENABLE n) = 1) ∧ (s.safe = false) ∧ ((s.laneOf n).acts = a :: l) ∧ (a.act = 1) ∧ (a.arg.testBit 0 = true) ∧ (s.xlState n = 3)) ∧
    (∃ s : State, ∃ (n : Lane) (g : XlSeen) (a : LaneAct) (l : List LaneAct), (s.get (F.XL_n_CTRL_ENABLE n) = 1) ∧ (s.safe = false) ∧ ((s.laneOf n).acts = a :: l) ∧ (a.act = 2) ∧ (a.arg < 2 ^ 8)) ∧
    (∃ s : State, ∃ (n : Lane) (g : XlSeen) (a : LaneAct) (l : List LaneAct), (s.get (F.XL_n_CTRL_ENABLE n) = 1) ∧ (s.safe = false) ∧ ((s.laneOf n).acts = a :: l) ∧ (a.act = 0) ∧ (s.badLaneDrawer n = false) ∧ (s.xlState n ≠ 2)) ∧
    (∃ s : State, ∃ (n : Lane) (g : XlSeen), ((s.laneOf n).haltStop = true) ∧ (s.xlState n = 3 ∨ s.xlState n = 2)) ∧
    (∃ s : State, ∃ (n : Lane) (m : Site), (Nat.land (s.laneOf n).flagged (s.get (F.XL_n_FLAG_EN_EN n)) ≠ 0) ∧ (s.get (F.XL_n_BIND_OWNED n) = 1) ∧ (s.get (F.XL_n_BIND_SITE n) = m)) ∧
    (∃ s : State, ∃ (n : Lane), (s.get (F.XL_n_BIND_OWNED n) = 0)) :=
  ⟨⟨LANE 3, 127, by decide⟩,
   ⟨LANE 2, 127, 4, 16, by decide⟩,
   ⟨(LANE 2).updLane 127 (fun x => { x with pendStart := true }), 127, 8, 12, by decide⟩,
   ⟨LANE 2, 127, by decide⟩,
   ⟨CHECKS, 127, ⟨100, 3, 500, 0xFEDCBA9876543210, true⟩, by decide⟩,
   ⟨CHECKS, 127, ⟨100, 3, 500, 0xFEDCBA9876543210, true⟩, by decide⟩,
   ⟨CHECKS, 127, ⟨100, 3, 500, 0xFEDCBA9876543210, true⟩, by decide⟩,
   ⟨CHECKS.putN (R.XL_n_ERR_THRESH 127) 3, 127, ⟨100, 3, 500, 0xFEDCBA9876543210, true⟩, 0, by decide⟩,
   ⟨CHECKS.updLane 127 (fun x => { x with txSrc := 7, repeat_ := false }), 127, ⟨100, 3, 500, 0xFEDCBA9876543210, true⟩, by decide⟩,
   ⟨CHECKS, 127, ⟨100, 3, 500, 0xFEDCBA9876543210, true⟩, by decide⟩,
   ⟨(CHECKS.put (F.XL_n_STATUS_EYE_BUSY 127) 1).updLane 127 (fun x => { x with eyeBase := 0xD00000000, dwell := 16 }), 127, 5, 0, by decide⟩,
   ⟨(CHECKS.put (F.XL_n_STATUS_EYE_BUSY 127) 1).put (F.XL_n_EYE_STATUS_POINTS 127) 8191, 127, 5, by decide⟩,
   ⟨(CHECKS.updLane 127 (fun x => { x with acts := [⟨1, 0, 9⟩] })), 127, ⟨100, 3, 500, 0xFEDCBA9876543210, true⟩, ⟨1, 0, 9⟩, [], by decide⟩,
   ⟨(CHECKS.updLane 127 (fun x => { x with acts := [⟨1, 1, 9⟩] })), 127, ⟨100, 3, 500, 0xFEDCBA9876543210, true⟩, ⟨1, 1, 9⟩, [], by decide⟩,
   ⟨(CHECKS.updLane 127 (fun x => { x with acts := [⟨2, 255, 9⟩] })), 127, ⟨100, 3, 500, 0xFEDCBA9876543210, true⟩, ⟨2, 255, 9⟩, [], by decide⟩,
   ⟨(CHECKS.updLane 127 (fun x => { x with acts := [⟨0, 0, 9⟩] })), 127, ⟨100, 3, 500, 0xFEDCBA9876543210, true⟩, ⟨0, 0, 9⟩, [], by decide⟩,
   ⟨CHECKS.updLane 127 (fun x => { x with haltStop := true }), 127, ⟨100, 3, 500, 0xFEDCBA9876543210, true⟩, by decide⟩,
   ⟨((CHECKS.updLane 127 (fun x => { x with flagged := 1 })).put (F.XL_n_FLAG_EN_EN 127) 255).put (F.XL_n_BIND_OWNED 127) 1 |>.put (F.XL_n_BIND_SITE 127) 63, 127, 63, by decide⟩,
   ⟨State.reset, 127, by decide⟩⟩

theorem witness_SiteCores :
    (∃ s : State, ∃ (n : Core) (v : Word), (s.get (F.SCHED_CORE_n_CTRL_RUN n) = 0) ∧ (bitsOf v 0 0 = 1) ∧ (s.get (F.SCHED_CORE_n_CFG_SCHED_EN n) = 0)) ∧
    (∃ s : State, ∃ (n : Core) (v : Word), (s.get (F.SCHED_CORE_n_CTRL_RUN n) = 1) ∧ (bitsOf v 0 0 = 0) ∧ ((s.slotOfCore n).slot = none) ∧ ((s.slotOfCore n).svc = none)) ∧
    (∃ s : State, ∃ (n : Core) (e : Store) (l : List Store), ((s.hartOf n).sb = e :: l) ∧ (0xD00000000 ≤ e.addr) ∧ (e.addr + e.data.length ≤ 0xD00400000)) ∧
    (∃ s : State, ∃ (n : Core), ((s.hartOf n).sb = [])) ∧
    (∃ s : State, ∃ (n : Core) (p : Fin 16) (q : Fin 16), (s.coreLive n = true) ∧ ((p.val.testBit 0 && q.val.testBit 1) = false ∨ (s.hartOf n).sb = [])) ∧
    (∃ s : State, ∃ (n : Core) (p : Fin 16) (q : Fin 16), (p.val.testBit 0 = true) ∧ (q.val.testBit 1 = true) ∧ ((s.hartOf n).sb ≠ [])) ∧
    (∃ s : State, ∃ (n : Core), (s.coreLive n = true)) ∧
    (∃ s : State, ∃ (n : Core) (aq : Bool) (rl : Bool) (rd : Fin 32) (r1 : Fin 32) (r2 : Fin 32) (a : Nat), (s.coreLive n = true) ∧ (a = ((s.hartOf n).get r1).toNat) ∧ (0xD00000000 ≤ a) ∧ (a % 8 = 0) ∧ (a + 8 ≤ 0xD00400000) ∧ ((s.hartOf n).amoReady rl a 8 = true)) ∧
    (∃ s : State, ∃ (n : Core) (aq : Bool) (rl : Bool) (rd : Fin 32) (r1 : Fin 32) (r2 : Fin 32) (a : Nat), (s.coreLive n = true) ∧ (a = ((s.hartOf n).get r1).toNat) ∧ (0xD00000000 ≤ a) ∧ (a % 4 = 0) ∧ (a + 4 ≤ 0xD00400000) ∧ ((s.hartOf n).amoReady rl a 4 = true)) ∧
    (∃ s : State, ∃ (n : Core) (op : AmoOp) (aq : Bool) (rl : Bool) (rd : Fin 32) (r1 : Fin 32) (r2 : Fin 32) (a : Nat), (s.coreLive n = true) ∧ (a = ((s.hartOf n).get r1).toNat) ∧ (0xD00000000 ≤ a) ∧ (a % 8 = 0) ∧ (a + 8 ≤ 0xD00400000) ∧ ((s.hartOf n).amoReady rl a 8 = true)) ∧
    (∃ s : State, ∃ (n : Core) (op : AmoOp) (aq : Bool) (rl : Bool) (rd : Fin 32) (r1 : Fin 32) (r2 : Fin 32), (s.coreLive n = true) ∧ (((s.hartOf n).get r1).toNat % 8 ≠ 0)) ∧
    (∃ s : State, ∃ (n : Core) (aq : Bool) (rl : Bool) (rd : Fin 32) (r1 : Fin 32) (a : Nat), (s.coreLive n = true) ∧ (a = ((s.hartOf n).get r1).toNat) ∧ (0xD00000000 ≤ a) ∧ (a % 8 = 0) ∧ (a + 8 ≤ 0xD00400000) ∧ ((s.hartOf n).amoReady rl a 8 = true)) ∧
    (∃ s : State, ∃ (n : Core) (aq : Bool) (rl : Bool) (rd : Fin 32) (r1 : Fin 32) (r2 : Fin 32) (a : Nat), (s.coreLive n = true) ∧ (a = ((s.hartOf n).get r1).toNat) ∧ (0xD00000000 ≤ a) ∧ (a % 8 = 0) ∧ (a + 8 ≤ 0xD00400000) ∧ ((s.hartOf n).amoReady rl a 8 = true) ∧ ((s.hartOf n).resv = some (a / 64 * 64))) ∧
    (∃ s : State, ∃ (n : Core) (aq : Bool) (rl : Bool) (rd : Fin 32) (r1 : Fin 32) (r2 : Fin 32) (a : Nat), (s.coreLive n = true) ∧ (a = ((s.hartOf n).get r1).toNat) ∧ (0xD00000000 ≤ a) ∧ (a % 8 = 0) ∧ (a + 8 ≤ 0xD00400000) ∧ ((s.hartOf n).amoReady rl a 8 = true) ∧ ((s.hartOf n).resv ≠ some (a / 64 * 64))) ∧
    (∃ s : State, ∃ (n : Core), (s.coreLive n = true) ∧ (s.wfiInt n = false) ∧ ((s.slotOfCore n).slot = none)) ∧
    (∃ s : State, ∃ (n : Core), (s.coreLive n = true) ∧ ((s.slotOfCore n).slot ≠ none)) ∧
    (∃ s : State, ∃ (n : Core) (c : Nat) (tv : BitVec 64), (s.coreLive n = true) ∧ (excOk (s.hartOf n).user c = true)) ∧
    (∃ s : State, ∃ (n : Core) (tv : BitVec 64), (s.coreUp n = true) ∧ (s.intTaken n 7 = true)) ∧
    (∃ s : State, ∃ (n : Core), (s.coreUp n = true) ∧ (s.int2 = true) ∧ (s.intTaken n 16 = true)) ∧
    (∃ s : State, ∃ (n : Core), (s.coreUp n = true) ∧ (s.int2 = true) ∧ ((s.hartOf n).user = false) ∧ ((s.hartOf n).mcause ≠ BitVec.ofNat 64 (2 ^ 63 + 16))) ∧
    (∃ s : State, ∃ (n : Core), (s.pair (R.SCHED_CORE_n_MTIMECMP_LO n) ≤ s.now) ∧ ((s.hartOf n).wfi = false)) ∧
    (∃ s : State, ∃ (n : Core), (s.now < s.pair (R.SCHED_CORE_n_MTIMECMP_LO n))) :=
  ⟨⟨IDLECORE, 15, 1, by decide⟩,
   ⟨LIVE, 15, 0, by decide⟩,
   ⟨CORE 0 0 (fun h => { h with sb := [⟨0xD003FFFF8, [1, 2, 3, 4, 5, 6, 7, 8]⟩] }), 15, ⟨0xD003FFFF8, [1, 2, 3, 4, 5, 6, 7, 8]⟩, [], by decide⟩,
   ⟨State.reset, 15, by decide⟩,
   ⟨LIVE, 15, 3, 3, by decide⟩,
   ⟨CORE 0 0 (fun h => { h with sb := [⟨0, [1]⟩] }), 15, 3, 3, by decide⟩,
   ⟨LIVE, 15, by decide⟩,
   ⟨CORE 0xD003FFFF8 (2 ^ 64 - 1) id, 15, true, true, 6, 5, 6, 0xD003FFFF8, by decide⟩,
   ⟨CORE 0xD003FFFFC (2 ^ 64 - 1) id, 15, true, true, 6, 5, 6, 0xD003FFFFC, by decide⟩,
   ⟨CORE 0xD003FFFF8 (2 ^ 64 - 1) id, 15, .maxu, true, true, 6, 5, 6, 0xD003FFFF8, by decide⟩,
   ⟨CORE 0xD003FFFF9 0 id, 15, .add, true, true, 6, 5, 6, by decide⟩,
   ⟨CORE 0xD003FFFF8 0 id, 15, true, true, 6, 5, 0xD003FFFF8, by decide⟩,
   ⟨CORE 0xD003FFFF8 7 (fun h => { h with resv := some 0xD003FFFC0 }), 15, true, true, 6, 5, 6, 0xD003FFFF8, by decide⟩,
   ⟨CORE 0xD003FFFF8 7 id, 15, true, true, 6, 5, 6, 0xD003FFFF8, by decide⟩,
   ⟨LIVE, 15, by decide⟩,
   ⟨LIVE.updCore 15 (fun c => { c with slot := some (ITEM 3 0) }), 15, by decide⟩,
   ⟨CORE 0 0 (fun h => { h with mstatus := 8, user := true }), 15, 8, 5, by decide⟩,
   ⟨CORE 0 0 (fun h => { h with mstatus := 8, mie := 128, mtip := true }), 15, 5, by decide⟩,
   ⟨(let s := (CORE 0 0 (fun h => { h with mstatus := 8, mie := 65536 })).putN R.GLB_COMPAT 2; { (s.put (F.INTC_SRC_s_CFG_CLASS 7) 1).putN (R.INTC_SRC_s_ROUTE 7) (2 ^ 31 + 15) with intc := { latch := 128 } }), 15, by decide⟩,
   ⟨(CORE 0 0 id).putN R.GLB_COMPAT 2, 15, by decide⟩,
   ⟨{ (State.reset.putPair (R.SCHED_CORE_n_MTIMECMP_LO 15) 0x100000000) with now := 0x100000000 }, 15, by decide⟩,
   ⟨State.reset.putPair (R.SCHED_CORE_n_MTIMECMP_LO 15) 1, 15, by decide⟩⟩

theorem witness_WorkScheduler :
    (∃ s : State, ∃ (r : Req) (v : Word) (i : WItem), (i = { bytes := (List.range 8).flatMap (fun k => leBytes 4 (Tab.get 0 (Tab.set 0 7 v (s.rq r).itemW) k).toNat) }) ∧ (i.flow ≠ 0xFFFF) ∧ (s.flowCount i.flow < s.get F.SCHED_FLOW_MAX_COUNT) ∧ (s.get F.SCHED_CTRL_EN = 1) ∧ (s.readyCount < 4096) ∧ (∀ q : Core, s.canFill q = false)) ∧
    (∃ s : State, ∃ (r : Req) (v : Word) (i : WItem), (i = { bytes := (List.range 8).flatMap (fun k => leBytes 4 (Tab.get 0 (Tab.set 0 7 v (s.rq r).itemW) k).toNat) }) ∧ (i.flow = 0xFFFF ∨ s.get F.SCHED_FLOW_MAX_COUNT ≤ s.flowCount i.flow)) ∧
    (∃ s : State, ∃ (r : Req) (v : Word) (i : WItem), (i = { bytes := (List.range 8).flatMap (fun k => leBytes 4 (Tab.get 0 (Tab.set 0 7 v (s.rq r).itemW) k).toNat) }) ∧ (i.flow ≠ 0xFFFF) ∧ (s.flowCount i.flow < s.get F.SCHED_FLOW_MAX_COUNT) ∧ (s.get F.SCHED_CTRL_EN = 0 ∨ 4096 ≤ s.readyCount)) ∧
    (∃ s : State, ∃ (r : Req) (n : Core) (i : WItem), ((s.slotOfCore n).svc = none) ∧ ((s.slotOfCore n).slot = some i) ∧ (s.get (F.SCHED_CORE_n_CFG_SCHED_EN n) = 0)) ∧
    (∃ s : State, ∃ (r : Req) (n : Core), ((s.slotOfCore n).svc = none) ∧ ((s.slotOfCore n).slot = none)) ∧
    (∃ s : State, ∃ (n : Core) (v : Word) (i : WItem), (bitsOf v 0 0 = 1) ∧ ((s.slotOfCore n).svc = some i) ∧ (∀ q : Core, s.canFill q = false)) ∧
    (∃ s : State, ∃ (n : Core) (v : Word), (bitsOf v 0 0 = 0)) ∧
    (∃ s : State, ∃ (n : Core) (v : Word), (bitsOf v 31 31 = s.get (F.SCHED_CORE_n_CFG_SCHED_EN n)) ∧ (bitsOf v 16 0 % 64 = 0)) ∧
    (∃ s : State, ∃ (n : Core) (v : Word), (bitsOf v 31 31 = s.get (F.SCHED_CORE_n_CFG_SCHED_EN n)) ∧ (bitsOf v 16 0 % 64 ≠ 0)) :=
  ⟨⟨State.reset.put F.SCHED_CTRL_EN 1 |>.put F.SCHED_FLOW_MAX_COUNT 4, .host, 9, ⟨leBytes 4 0 ++ leBytes 12 0 ++ leBytes 12 0 ++ leBytes 4 9⟩, by decide⟩,
   ⟨State.reset.put F.SCHED_FLOW_MAX_COUNT 0, .host, 9, ⟨leBytes 4 0 ++ leBytes 12 0 ++ leBytes 12 0 ++ leBytes 4 9⟩, by decide⟩,
   ⟨(State.reset.put F.SCHED_FLOW_MAX_COUNT 4).put F.SCHED_CTRL_EN 0, .host, 9, ⟨leBytes 4 0 ++ leBytes 12 0 ++ leBytes 12 0 ++ leBytes 4 9⟩, by decide⟩,
   ⟨IDLECORE.updCore 15 (fun c => { c with slot := some (ITEM 0xFFFE 3), buf := 1 }), .core 15, 15, ITEM 0xFFFE 3, by decide⟩,
   ⟨LIVE, .core 15, 15, by decide⟩,
   ⟨IDLECORE.updCore 15 (fun c => { c with svc := some (ITEM 7 3) }), 15, 1, ITEM 7 3, by decide⟩,
   ⟨State.reset, 15, 2, by decide⟩,
   ⟨IDLECORE, 15, 0x00A1FFC0, by decide⟩,
   ⟨IDLECORE, 15, 0x00A00020, by decide⟩⟩

theorem witness_InterruptController :
    (∃ s : State, ∃ (i : Set8), (s.srcLevel i = true) ∧ (s.intc.level.testBit i = false) ∧ (s.srcLatches i = true)) ∧
    (∃ s : State, ∃ (i : Set8), (s.srcLevel i = true) ∧ (s.intc.level.testBit i = false) ∧ (s.srcLatches i = false)) ∧
    (∃ s : State, ∃ (i : Set8), (s.srcLevel i = false) ∧ (s.intc.level.testBit i = true) ∧ (s.srcLatches i = false) ∧ (s.intc.soft.testBit i = false)) ∧
    (∃ s : State, ∃ (i : Set8), (s.srcLevel i = false) ∧ (s.intc.level.testBit i = true) ∧ (s.srcLatches i = true) ∧ (s.intc.latch.testBit i = true) ∧ (srcExists i = true)) ∧
    (∃ s : State, ∃ (w : Fin 8) (b : Fin 32) (v : Word), (v.toNat = 2 ^ b.val) ∧ (srcExists (32 * w + b) = true) ∧ (s.srcLatches (32 * w + b) = true)) ∧
    (∃ s : State, ∃ (w : Fin 8) (b : Fin 32) (v : Word), (v.toNat = 2 ^ b.val) ∧ (srcExists (32 * w + b) = false)) ∧
    (∃ s : State, ∃ (w : Fin 8) (b : Fin 32) (v : Word), (v.toNat = 2 ^ b.val) ∧ (s.srcLatches (32 * w + b) = true)) ∧
    (∃ s : State, ∃ (i : Set8) (v : Word), (s.int2 = false) ∧ (bitsOf v (F.INTC_SRC_s_CFG_PRIO i).hi (F.INTC_SRC_s_CFG_PRIO i).lo = 0)) ∧
    (∃ s : State, ∃ (r : Req) (g : Target) (i : Nat) (p : Nat), ((s.stackOf g).length < 16) ∧ (s.hpend g = (p, i)) ∧ (i ≠ 0) ∧ (s.srcLatches i = true)) ∧
    (∃ s : State, ∃ (r : Req) (g : Target), ((s.stackOf g).length < 16) ∧ ((s.hpend g).2 = 0)) ∧
    (∃ s : State, ∃ (r : Req) (g : Target), (16 ≤ (s.stackOf g).length)) ∧
    (∃ s : State, ∃ (g : Target) (v : Word) (e : StkEnt) (l : List StkEnt), (bitsOf v 0 0 = 1) ∧ (s.stackOf g = e :: l) ∧ (e.src = none) ∧ (s.int2 = false)) ∧
    (∃ s : State, ∃ (g : Target) (v : Word) (e : StkEnt) (l : List StkEnt) (i : Set8), (bitsOf v 0 0 = 1) ∧ (s.stackOf g = e :: l) ∧ (e.src = some i.val) ∧ (s.int2 = false)) ∧
    (∃ s : State, ∃ (g : Target) (v : Word), (bitsOf v 0 0 = 1) ∧ (s.stackOf g = [])) ∧
    (∃ s : State, ∃ (g : Target) (v : Word), (bitsOf v 3 0 ≠ 0) ∧ (s.int2 = false) ∧ ((s.stackOf g).length < 16)) ∧
    (∃ s : State, ∃ (g : Target) (v : Word), (bitsOf v 3 0 ≠ 0) ∧ (s.int2 = false) ∧ (16 ≤ (s.stackOf g).length)) ∧
    (∃ s : State, ∃ (g : Target) (v : Word), (bitsOf v 3 0 = 0)) :=
  ⟨⟨((State.reset.putN R.DRW_EVENT 1).putN R.DRW_INT_EN 1).put (F.INTC_SRC_s_CFG_CLASS 2) 1, 2, by decide⟩,
   ⟨((State.reset.putN R.DRW_EVENT 1).putN R.DRW_INT_EN 1).put (F.INTC_SRC_s_CFG_CLASS 2) 0, 2, by decide⟩,
   ⟨{ (State.reset.put (F.INTC_SRC_s_CFG_CLASS 2) 0) with intc := { level := 4 } }, 2, by decide⟩,
   ⟨{ (State.reset.put (F.INTC_SRC_s_CFG_CLASS 2) 1) with intc := { level := 4, latch := 4 } }, 2, by decide⟩,
   ⟨State.reset.put (F.INTC_SRC_s_CFG_CLASS 255) 1, 7, 31, 0x80000000, by decide⟩,
   ⟨State.reset, 0, 31, 0x80000000, by decide⟩,
   ⟨{ (State.reset.put (F.INTC_SRC_s_CFG_CLASS 7) 1) with intc := { latch := 128 } }, 0, 7, 128, by decide⟩,
   ⟨PENDS, 7, 0, by decide⟩,
   ⟨PENDS, .core 15, 16, 7, 15, by decide +kernel⟩,
   ⟨State.reset, .core 15, 16, by decide +kernel⟩,
   ⟨{ State.reset with intc := { stack := [(16, List.replicate 16 ⟨15, none⟩)] } }, .core 15, 16, by decide⟩,
   ⟨{ State.reset with intc := { stack := [(16, [⟨15, none⟩, ⟨3, none⟩])] } }, 16, 1, ⟨15, none⟩, [⟨3, none⟩], by decide⟩,
   ⟨{ State.reset with intc := { stack := [(16, [⟨15, some 7⟩])] } }, 16, 1, ⟨15, some 7⟩, [], 7, by decide⟩,
   ⟨State.reset, 16, 1, by decide⟩,
   ⟨State.reset, 16, 15, by decide⟩,
   ⟨{ State.reset with intc := { stack := [(16, List.replicate 16 ⟨15, none⟩)] } }, 16, 15, by decide⟩,
   ⟨State.reset, 16, 16, by decide⟩⟩

theorem witness_HostEndpoint :
    (∃ s : State, ∃ (reg : Nat) (wr : Option Word), (s.ready = false)) ∧
    (∃ s : State, (s.ready = true)) ∧
    (∃ s : State, ∃ (reg : Nat), (s.ready = true) ∧ (reg ≠ 0) ∧ (reg ≠ 2)) ∧
    (∃ s : State, ∃ (reg : Nat) (v : Word), (s.ready = true) ∧ (reg ≠ 0) ∧ (reg ≠ 2)) ∧
    (∃ s : State, ∃ (w : Fin 16) (g : Fin 16), (s.pins.perstN = true) ∧ (w.val = 1 ∨ w.val = 2 ∨ w.val = 4 ∨ w.val = 8) ∧ (1 ≤ g.val) ∧ (g.val ≤ 5)) ∧
    (∃ s : State, ∃ (v : Fin 64), (s.bit (R.HOSTIF_MSIX_PBA_w (v / 32)) (v % 32) = true) ∧ (s.bit (R.HOSTIF_MSIX_TABLE_v_i v 3) 0 = false)) ∧
    (∃ s : State, ∃ (v : Fin 64), (s.bit (R.HOSTIF_MSIX_PBA_w (v / 32)) (v % 32) = false ∨ s.bit (R.HOSTIF_MSIX_TABLE_v_i v 3) 0 = true)) :=
  ⟨⟨State.reset.put F.GLB_STATUS_READY 0, 0, none, by decide⟩,
   ⟨State.reset.put F.GLB_STATUS_READY 1, by decide⟩,
   ⟨State.reset.put F.GLB_STATUS_READY 1, 4, by decide⟩,
   ⟨State.reset.put F.GLB_STATUS_READY 1, 4, 5, by decide⟩,
   ⟨{ State.reset with pins := { State.reset.pins with perstN := true } }, 8, 5, by decide⟩,
   ⟨(State.reset.putBit (R.HOSTIF_MSIX_PBA_w 1) 31 true).putN (R.HOSTIF_MSIX_TABLE_v_i 63 3) 0, 63, by decide⟩,
   ⟨State.reset, 63, by decide⟩⟩

theorem witness_DmaEngines :
    (∃ s : State, ∃ (e : Engine8) (v : Word), (s.get (F.HOSTIF_DMA_e_CTRL_ENABLE e) = 0) ∧ ((s.plainWrite (R.HOSTIF_DMA_e_CTRL e) v).get (F.HOSTIF_DMA_e_CTRL_ENABLE e) = 1) ∧ (bitsOf v 30 30 = 0)) ∧
    (∃ s : State, ∃ (e : Engine8) (v : Word), (bitsOf v 30 30 = 1)) ∧
    (∃ s : State, ∃ (e : Engine8) (l : List Byte), (s.get (F.HOSTIF_DMA_e_CTRL_ENABLE e) = 1) ∧ (s.ringBusy e = true) ∧ ((s.dmaOf e).cur = none) ∧ (l.length = 32) ∧ (descBad l (descOf l s.host.fetches) = false)) ∧
    (∃ s : State, ∃ (e : Engine8) (l : List Byte), (s.get (F.HOSTIF_DMA_e_CTRL_ENABLE e) = 1) ∧ (s.ringBusy e = true) ∧ ((s.dmaOf e).cur = none) ∧ (l.length = 32) ∧ (descBad l (descOf l s.host.fetches) = true)) ∧
    (∃ s : State, ∃ (e : Engine8) (l : List Byte), (s.get (F.HOSTIF_DMA_e_CTRL_ENABLE e) = 1) ∧ (s.ringBusy e = true) ∧ ((s.dmaOf e).cur = none) ∧ (l.length = 32)) ∧
    (∃ s : State, ∃ (e : Engine8) (c : DmaDesc) (d : List Byte), (s.dmaStart e 0 = some c) ∧ (0xD00000000 ≤ c.dev) ∧ (c.dev + c.len ≤ 0xD00400000) ∧ (d.length = c.len)) ∧
    (∃ s : State, ∃ (e : Engine8) (c : DmaDesc) (d : List Byte), (s.dmaStart e 0 = some c)) ∧
    (∃ s : State, ∃ (e : Engine8) (c : DmaDesc) (ce : List Nat) (ue : List Nat), (s.dmaStart e 1 = some c) ∧ (0xD00000000 ≤ c.dev) ∧ (c.dev + c.len ≤ 0xD00400000) ∧ (c.dev / 64 = (c.dev + c.len - 1) / 64) ∧ (0 < c.len)) ∧
    (∃ s : State, ∃ (e : Engine8) (c : DmaDesc) (d : List Byte), (s.dmaStart e 2 = some c) ∧ (c.len ≤ 256) ∧ (0 < c.len) ∧ (0xD00000000 ≤ c.dev) ∧ (c.dev + c.len ≤ 0xD00400000) ∧ (d.length = c.len)) ∧
    (∃ s : State, ∃ (e : Engine8) (c : DmaDesc) (d : List Byte) (k : Port), (s.dmaStart e 3 = some c) ∧ (c.len ≤ 256) ∧ (0 < c.len) ∧ (d.length = c.len) ∧ (s.route c.dest = .port k) ∧ (s.portLive k = true)) ∧
    (∃ s : State, ∃ (e : Engine8), ((s.dmaOf e).acks ≠ [])) ∧
    (∃ s : State, ∃ (e : Engine8) (c : DmaDesc) (h : Nat), ((s.dmaOf e).cur = some c) ∧ ((s.dmaOf e).moved = true) ∧ ((s.dmaOf e).acks = []) ∧ ((s.dmaOf e).conds = []) ∧ (h = s.get (F.HOSTIF_DMA_e_HEAD_IDX e) % 2 ^ (s.dmaOf e).log2) ∧ ((s.dmaOf e).log2 ≤ 15)) ∧
    (∃ s : State, ∃ (e : Engine8) (c : DmaDesc) (a : Nat) (l : List Nat), ((s.dmaOf e).cur = some c) ∧ ((s.dmaOf e).moved = true) ∧ ((s.dmaOf e).acks = []) ∧ ((s.dmaOf e).conds = a :: l) ∧ (1 ≤ a) ∧ (a ≤ 6) ∧ (∀ x ∈ l, a ≤ x)) :=
  ⟨⟨State.reset, 7, 0x80000004, by decide⟩,
   ⟨FETCHED ⟨0, 0xD003FFFF8, 8, 0, 0, 9, 0⟩, 7, 0xC0000004, by decide⟩,
   ⟨((State.reset.put (F.HOSTIF_DMA_e_CTRL_ENABLE 7) 1).put (F.HOSTIF_DMA_e_HEAD_IDX 7) 0).put (F.HOSTIF_DMA_e_TAIL_IDX 7) 1, 7, (List.replicate 8 0 ++ [0xF8, 0xFF, 3, 0, 13, 0, 0, 0, 8] ++ List.replicate 15 0), by decide⟩,
   ⟨((State.reset.put (F.HOSTIF_DMA_e_CTRL_ENABLE 7) 1).put (F.HOSTIF_DMA_e_HEAD_IDX 7) 0).put (F.HOSTIF_DMA_e_TAIL_IDX 7) 1, 7, (List.replicate 32 0), by decide⟩,
   ⟨((State.reset.put (F.HOSTIF_DMA_e_CTRL_ENABLE 7) 1).put (F.HOSTIF_DMA_e_HEAD_IDX 7) 0).put (F.HOSTIF_DMA_e_TAIL_IDX 7) 1, 7, (List.replicate 32 0), by decide⟩,
   ⟨FETCHED ⟨0x1000, 0xD003FFFF8, 8, 0, 0, 9, 0⟩, 7, ⟨0x1000, 0xD003FFFF8, 8, 0, 0, 9, 0⟩, [1, 2, 3, 4, 5, 6, 7, 8], by decide⟩,
   ⟨FETCHED ⟨0x1000, 0xD003FFFF8, 8, 0, 0, 9, 0⟩, 7, ⟨0x1000, 0xD003FFFF8, 8, 0, 0, 9, 0⟩, [1, 2, 3, 4, 5, 6, 7, 8], by decide⟩,
   ⟨FETCHED ⟨0x1000, 0xD003FFFF8, 8, 1, 0, 9, 0⟩, 7, ⟨0x1000, 0xD003FFFF8, 8, 1, 0, 9, 0⟩, [], [], by decide⟩,
   ⟨FETCHED ⟨0x1000, 0xD003FFFF8, 8, 2, 0, 9, 0⟩, 7, ⟨0x1000, 0xD003FFFF8, 8, 2, 0, 9, 0⟩, [1, 2, 3, 4, 5, 6, 7, 8], by decide⟩,
   ⟨FOLLOWS.updDma 7 (fun x => { x with cur := some ⟨0x1000, 0xD003FFFF8, 8, 3, 0, 9, 0⟩ }), 7, ⟨0x1000, 0xD003FFFF8, 8, 3, 0, 9, 0⟩, [1, 2, 3, 4, 5, 6, 7, 8], 3, by decide⟩,
   ⟨State.reset.updDma 7 (fun x => { x with acks := [64] }), 7, by decide⟩,
   ⟨(FETCHED ⟨0x1000, 0xD003FFFF8, 8, 0, 1, 9, 0⟩).updDma 7 (fun x => { x with moved := true }), 7, ⟨0x1000, 0xD003FFFF8, 8, 0, 1, 9, 0⟩, 0, by decide⟩,
   ⟨(FETCHED ⟨0x1000, 0xD003FFFF8, 8, 0, 1, 9, 0⟩).updDma 7 (fun x => { x with moved := true, conds := [2, 5] }), 7, ⟨0x1000, 0xD003FFFF8, 8, 0, 1, 9, 0⟩, 2, [5], by decide⟩⟩

theorem witness_Mailboxes :
    (∃ s : State, ∃ (r : Req) (m : Mailbox) (v : Word), (s.get (F.MBX_m_STATUS_FULL m) = 0)) ∧
    (∃ s : State, ∃ (r : Req) (m : Mailbox) (v : Word), (s.get (F.MBX_m_STATUS_FULL m) = 1)) ∧
    (∃ s : State, ∃ (r : Req) (m : Mailbox), (reqCode r = s.get (F.MBX_m_CFG_RX m)) ∧ (s.get (F.MBX_m_STATUS_FULL m) = 1)) ∧
    (∃ s : State, ∃ (r : Req) (m : Mailbox), (reqCode r ≠ s.get (F.MBX_m_CFG_RX m))) ∧
    (∃ s : State, ∃ (m : Mailbox), ((s.mbxOf m).timer ≠ none) ∧ (s.get (F.MBX_m_STATUS_FULL m) = 1)) ∧
    (∃ s : State, ∃ (r : Req) (m : Mailbox) (v : Word), (reqCode r = s.get (F.MBX_m_CFG_RX m)) ∧ (s.get (F.MBX_m_STATUS_ACK_PEND m) = 1)) ∧
    (∃ s : State, ∃ (r : Req) (m : Mailbox) (v : Word), (reqCode r ≠ s.get (F.MBX_m_CFG_RX m) ∨ s.get (F.MBX_m_STATUS_ACK_PEND m) = 0)) :=
  ⟨⟨State.reset, .core 15, 31, 7, by decide⟩,
   ⟨FULLBOX, .mgmt, 31, 7, by decide⟩,
   ⟨FULLBOX, .host, 31, by decide⟩,
   ⟨FULLBOX, .mgmt, 31, by decide⟩,
   ⟨FULLBOX, 31, by decide⟩,
   ⟨FULLBOX.put (F.MBX_m_STATUS_ACK_PEND 31) 1, .host, 31, 0xFFFF, by decide⟩,
   ⟨FULLBOX, .host, 31, 5, by decide⟩⟩

theorem witness_TimeBases :
    (∃ s : State, ∃ (i : Fin 4) (v : Word), (i.val ≠ 0)) ∧
    (∃ s : State, ∃ (r : Req) (i : Fin 4) (v : Word), (i.val ≠ 0)) ∧
    (∃ s : State, ∃ (r : Req) (v : Word), (s.tb0Governed = false)) ∧
    (∃ s : State, ∃ (r : Req) (i : Fin 4) (v : Word), (i.val ≠ 0)) ∧
    (∃ s : State, ∃ (r : Req) (v : Word), (s.tb0Governed = true)) ∧
    (∃ s : State, ∃ (r : Req) (v : Word), (s.tb0Governed = true)) ∧
    (∃ s : State, ∃ (r : Req) (i : Fin 4), (s.legacy = false)) ∧
    (∃ s : State, ∃ (r : Req) (i : Fin 4), (s.legacy = true)) ∧
    (∃ s : State, ∃ (r : Req) (v : Word) (x : TsEntry), (bitsOf v 31 31 = 0) ∧ (s.time.tsq.find? (fun e => e.typ == bitsOf v 19 16 && e.seq == bitsOf v 15 0) = some x) ∧ (s.time.tsq.length ≤ 16)) ∧
    (∃ s : State, ∃ (r : Req) (v : Word), (s.time.tsq = [])) ∧
    (∃ s : State, (s.isRoot = true)) ∧
    (∃ s : State, (s.isRoot = false)) ∧
    (∃ s : State, ∃ (k : Port) (g : Nat) (c : Nat) (res : Nat), (s.isRoot = false) ∧ (s.upPort = some k.val) ∧ ((c + s.get (F.ULT_Pk_LAT_PS k)) % 1000 = 0) ∧ (g + (c + s.get (F.ULT_Pk_LAT_PS k)) / 1000 = s.tbVal 0) ∧ (s.tbVal 0 < 2 ^ 63) ∧ (s.get F.TIME_CTRL_FALLBACK = 0) ∧ (s.get F.TIME_STATUS_FALLBACK_ACTIVE = 0) ∧ (s.get F.ULT_STATUS_TOO_DEEP = 0) ∧ (s.time.clean < 3)) ∧
    (∃ s : State, ∃ (k : Port) (g : Nat) (c : Nat) (res : Nat), (s.isRoot = false) ∧ (s.upPort = some k.val) ∧ ((c + s.get (F.ULT_Pk_LAT_PS k)) % 1000 = 0) ∧ (g + (c + s.get (F.ULT_Pk_LAT_PS k)) / 1000 = s.tbVal 0) ∧ (s.tbVal 0 < 2 ^ 63) ∧ (s.get F.TIME_CTRL_FALLBACK = 0) ∧ (s.get F.TIME_STATUS_FALLBACK_ACTIVE = 0) ∧ (s.get F.ULT_STATUS_TOO_DEEP = 0) ∧ (3 ≤ s.time.clean)) ∧
    (∃ s : State, ∃ (k : Port) (g : Nat) (c : Nat) (res : Nat), (s.isRoot = true ∨ s.upPort ≠ some k.val)) ∧
    (∃ s : State, ∃ (k : Port) (g : Nat) (res : Nat), (s.portLive k = true)) ∧
    (∃ s : State, ∃ (k : Port) (g : Nat) (res : Nat) (x : Nat), (2 * x + res + 1000 * g = 1000 * s.now) ∧ (x < 2 ^ 20)) ∧
    (∃ s : State, (s.isRoot = false) ∧ (s.get F.TIME_STATUS_HOLDOVER = 0) ∧ (s.get F.TIME_CTRL_FALLBACK = 0) ∧ (s.get F.TIME_STATUS_FALLBACK_ACTIVE = 0)) ∧
    (∃ s : State, (s.get F.TIME_STATUS_FALLBACK_ACTIVE = 1) ∧ (s.get F.TIME_CTRL_FALLBACK = 0)) ∧
    (∃ s : State, ∃ (d : Int), (s.get F.TIME_STATUS_FALLBACK_ACTIVE = 1) ∧ (d = nearest10 (sext 64 (toBits 64 ((s.tbVal (s.get F.TIME_CTRL_FALLBACK) : Int) - s.tbVal 0)))) ∧ (d ≠ 0)) ∧
    (∃ s : State, ∃ (d : List Byte), (s.ptpEvent d = none)) ∧
    (∃ s : State, ∃ (d : List Byte) (h : Nat), (s.ptpEvent d = some (h, 1)) ∧ (s.time.tsq.length < 16)) ∧
    (∃ s : State, ∃ (d : List Byte) (ok : Bool), (s.ptpEvent d = none)) :=
  ⟨⟨State.reset, 3, 0x80000000, by decide⟩,
   ⟨State.reset, .host, 3, 7, by decide⟩,
   ⟨State.reset, .host, 17, by decide⟩,
   ⟨State.reset, .host, 3, 7, by decide⟩,
   ⟨FOLLOWS, .host, 17, by decide⟩,
   ⟨FOLLOWS, .host, 17, by decide⟩,
   ⟨State.reset, .host, 3, by decide⟩,
   ⟨State.reset.put F.TIME_CTRL_FORMAT 1, .host, 3, by decide⟩,
   ⟨{ State.reset with time := { tsq := [⟨0, 7, 1, 2, 3⟩, ⟨1, 7, 999999999, 4, 5⟩] } }, .host, 0x10007, ⟨1, 7, 999999999, 4, 5⟩, by decide⟩,
   ⟨State.reset, .host, 0x80000000, by decide⟩,
   ⟨State.reset.put F.ULT_STATUS_ROOT 1, by decide⟩,
   ⟨State.reset, by decide⟩,
   ⟨{ FOLLOWS with now := 2000 }, 3, 2000, 0, 5, by decide⟩,
   ⟨{ FOLLOWS with now := 2000, time := { clean := 3 } }, 3, 2000, 0, 5, by decide⟩,
   ⟨FOLLOWS, 2, 0, 0, 0, by decide⟩,
   ⟨FOLLOWS, 3, 5, 6, by decide⟩,
   ⟨{ FOLLOWS with now := 2000 }, 3, 1950, 9998, 20001, by decide⟩,
   ⟨FOLLOWS.put F.TIME_STATUS_HOLDOVER 0, by decide⟩,
   ⟨State.reset.put F.TIME_STATUS_FALLBACK_ACTIVE 1, by decide⟩,
   ⟨((State.reset.put F.TIME_STATUS_FALLBACK_ACTIVE 1).put F.TIME_CTRL_FALLBACK 3).putPair (R.TIME_TB_i_OFFSET_LO 3) 17, 20, by decide⟩,
   ⟨State.reset, [1, 2, 3], by decide⟩,
   ⟨(State.reset.put F.TIME_PTP_CFG_EN 1).put F.TIME_PTP_CFG_TRANSPORT 0, (List.replicate 12 0 ++ [0x88, 0xF7, 1] ++ List.replicate 33 0), 14, by decide⟩,
   ⟨State.reset, [1, 2, 3], true, by decide⟩⟩

theorem witness_Governor :
    (∃ s : State, (s.gov.queue = [])) ∧
    (∃ s : State, ∃ (n : Site), (s.gov.queue = []) ∧ (s.siteState n = 2) ∧ (s.get (F.GOV_SITE_n_STATUS_STATE n) ≠ 2) ∧ ((s.govOf n).resume = false) ∧ (s.get F.GOV_STATUS_ADMIT_HOLD = 0) ∧ (max s.pGov s.pCharged + s.chargeNow n ≤ s.get F.GOV_BUDGET_BUDGET * 100000)) ∧
    (∃ s : State, ∃ (n : Site), (s.gov.queue = []) ∧ (s.siteState n = 2) ∧ (s.get (F.GOV_SITE_n_STATUS_STATE n) ≠ 2) ∧ ((s.govOf n).resume = false) ∧ (s.get F.GOV_STATUS_ADMIT_HOLD = 1)) ∧
    (∃ s : State, ∃ (n : Site), (s.gov.queue = []) ∧ (s.siteState n ≠ 2) ∧ (s.siteState n ≠ 4)) ∧
    (∃ s : State, (100 ≤ s.gov.bad)) ∧
    (∃ s : State, (s.gov.bad < 100)) ∧
    (∃ s : State, ∃ (n : Site), (s.get (F.GOV_SITE_n_STATUS_BURST n) = 1) ∧ (s.siteState n = 3) ∧ (s.get (F.GOV_SITE_n_STATUS_DUR_OVER n) = 0)) ∧
    (∃ s : State, ∃ (n : Site), (s.get (F.GOV_SITE_n_STATUS_DUR_OVER n) = 1)) :=
  ⟨⟨State.reset, by decide⟩,
   ⟨ASKS, 63, by decide⟩,
   ⟨ASKS.put F.GOV_STATUS_ADMIT_HOLD 1, 63, by decide⟩,
   ⟨State.reset, 63, by decide⟩,
   ⟨{ State.reset with gov := { bad := 100 } }, by decide⟩,
   ⟨State.reset, by decide⟩,
   ⟨(State.reset.put (F.GOV_SITE_n_STATUS_BURST 63) 1).put (F.SITE_n_STATUS_STATE 63) 3, 63, by decide⟩,
   ⟨State.reset.put (F.GOV_SITE_n_STATUS_DUR_OVER 63) 1, 63, by decide⟩⟩

theorem witness_CalibrationRequests :
    (∃ s : State, ∃ (k : Cluster) (nq : Bool), (s.nib k 1 ≠ 1) ∧ (s.nib k 1 ≠ 2) ∧ (s.nib k 1 ≠ 11) ∧ (s.spanClu k = false) ∧ (s.calActive k = 0) ∧ (s.calRefusal k 1 = none)) ∧
    (∃ s : State, ∃ (k : Cluster) (nq : Bool), (s.nib k 1 = 1 ∨ s.nib k 1 = 2 ∨ s.nib k 1 = 11)) ∧
    (∃ s : State, ∃ (k : Cluster), (s.nib k 1 ≠ 1) ∧ (s.nib k 1 ≠ 2) ∧ (s.nib k 1 ≠ 11) ∧ (s.spanClu k = false) ∧ (s.calActive k ≠ 0) ∧ (s.calRefusal k 1 = none)) ∧
    (∃ s : State, ∃ (k : Cluster), (s.nib k 1 ≠ 1) ∧ (s.nib k 1 ≠ 2) ∧ (s.nib k 1 ≠ 11) ∧ (s.spanClu k = false) ∧ (s.calActive k ≠ 0) ∧ (s.calRefusal k 1 = none)) ∧
    (∃ s : State, ∃ (k : Cluster) (nq : Bool), (s.nib k 2 ≠ 1) ∧ (s.nib k 2 ≠ 2) ∧ (s.nib k 2 ≠ 11) ∧ (s.spanClu k = false) ∧ (s.calActive k = 0) ∧ (s.calRefusal k 2 = none)) ∧
    (∃ s : State, ∃ (k : Cluster) (nq : Bool), (s.nib k 2 = 1 ∨ s.nib k 2 = 2 ∨ s.nib k 2 = 11)) ∧
    (∃ s : State, ∃ (k : Cluster), (s.nib k 2 ≠ 1) ∧ (s.nib k 2 ≠ 2) ∧ (s.nib k 2 ≠ 11) ∧ (s.spanClu k = false) ∧ (s.calActive k ≠ 0) ∧ (s.calRefusal k 2 = none)) ∧
    (∃ s : State, ∃ (k : Cluster), (s.nib k 2 ≠ 1) ∧ (s.nib k 2 ≠ 2) ∧ (s.nib k 2 ≠ 11) ∧ (s.spanClu k = false) ∧ (s.calActive k ≠ 0) ∧ (s.calRefusal k 2 = none)) ∧
    (∃ s : State, ∃ (k : Cluster) (nq : Bool) (r : Nat), (s.nib k 2 ≠ 1) ∧ (s.nib k 2 ≠ 2) ∧ (s.nib k 2 ≠ 11) ∧ (s.spanClu k = false) ∧ (s.calRefusal k 2 = some r)) ∧
    (∃ s : State, ∃ (k : Cluster) (nq : Bool), (s.nib k 3 ≠ 1) ∧ (s.nib k 3 ≠ 2) ∧ (s.nib k 3 ≠ 11) ∧ (s.spanClu k = false) ∧ (s.calActive k = 0) ∧ (s.calRefusal k 3 = none)) ∧
    (∃ s : State, ∃ (k : Cluster) (nq : Bool), (s.nib k 3 = 1 ∨ s.nib k 3 = 2 ∨ s.nib k 3 = 11)) ∧
    (∃ s : State, ∃ (k : Cluster), (s.nib k 3 ≠ 1) ∧ (s.nib k 3 ≠ 2) ∧ (s.nib k 3 ≠ 11) ∧ (s.spanClu k = false) ∧ (s.calActive k ≠ 0) ∧ (s.calRefusal k 3 = none)) ∧
    (∃ s : State, ∃ (k : Cluster), (s.nib k 3 ≠ 1) ∧ (s.nib k 3 ≠ 2) ∧ (s.nib k 3 ≠ 11) ∧ (s.spanClu k = false) ∧ (s.calActive k ≠ 0) ∧ (s.calRefusal k 3 = none)) ∧
    (∃ s : State, ∃ (k : Cluster) (nq : Bool) (r : Nat), (s.nib k 3 ≠ 1) ∧ (s.nib k 3 ≠ 2) ∧ (s.nib k 3 ≠ 11) ∧ (s.spanClu k = false) ∧ (s.calRefusal k 3 = some r)) ∧
    (∃ s : State, ∃ (k : Cluster) (q : Fin 8), (s.nib k 3 = 2) ∧ (q.val.testBit 2 = true)) ∧
    (∃ s : State, ∃ (k : Cluster) (h : List (List Nat)) (v : List Int), (s.calActive k = 1) ∧ ((s.calOf k).applying = false) ∧ (h.length = 4) ∧ (∀ l ∈ h, l.length = 384) ∧ (s.nib k 1 = 1 ∧ s.nib k 2 = 0 ∧ s.nib k 3 = 0) ∧ (s.get (F.CLU_k_MC_STATUS_CAL k) = 0)) ∧
    (∃ s : State, ∃ (k : Cluster) (h : List (List Nat)) (v : List Int), (s.calActive k = 3) ∧ ((s.calOf k).applying = false) ∧ ((s.calOf k).refBad = false) ∧ (s.refValid = true) ∧ (v.length = 48) ∧ ((v.zipIdx.any (fun p => slewBad p.2 p.1)) = false)) ∧
    (∃ s : State, ∃ (k : Cluster) (h : List (List Nat)) (v : List Int), (s.calActive k = 2) ∧ ((s.calOf k).applying = false) ∧ (v.length = 160) ∧ (s.nib k 1 = 0 ∧ s.nib k 2 = 1 ∧ s.nib k 3 = 0) ∧ (s.get (F.CLU_k_MC_STATUS_CAL k) = 0)) ∧
    (∃ s : State, ∃ (k : Cluster) (i : Nat) (v : Int), ((s.calOf k).target = [(i, v)]) ∧ (i < 16) ∧ (s.slewsHere k none i = true) ∧ (v ≤ 2000) ∧ (s.slewNow k i + 1 < v)) ∧
    (∃ s : State, ∃ (k : Cluster) (m : Site) (i : Nat) (v : Int), ((s.calOf k).target = [(i, v)]) ∧ (s.slewsHere k (some m.val) i = false) ∧ (s.slewNow k i ≠ v) ∧ (s.cal.span.site = none)) :=
  ⟨⟨((State.reset.put F.GLB_STATUS_SAFE 0).put (F.CLU_k_BANK_CFG_VNOM 31) 1800).put (F.CLU_k_BANK_STATUS_IN_WINDOW 31) 1, 31, false, by decide⟩,
   ⟨State.reset.putN (R.CAL_CL_k_ACT 31) 0x1110, 31, true, by decide⟩,
   ⟨(((State.reset.put F.GLB_STATUS_SAFE 0).put (F.CLU_k_BANK_CFG_VNOM 31) 1800).put (F.CLU_k_BANK_STATUS_IN_WINDOW 31) 1).put (F.CAL_CL_k_STATE_ACTIVE 31) 1, 31, by decide⟩,
   ⟨(((State.reset.put F.GLB_STATUS_SAFE 0).put (F.CLU_k_BANK_CFG_VNOM 31) 1800).put (F.CLU_k_BANK_STATUS_IN_WINDOW 31) 1).put (F.CAL_CL_k_STATE_ACTIVE 31) 1, 31, by decide⟩,
   ⟨((State.reset.put F.GLB_STATUS_SAFE 0).put (F.CLU_k_BANK_CFG_VNOM 31) 1800).put (F.CLU_k_BANK_STATUS_IN_WINDOW 31) 1, 31, false, by decide⟩,
   ⟨State.reset.putN (R.CAL_CL_k_ACT 31) 0x1110, 31, true, by decide⟩,
   ⟨(((State.reset.put F.GLB_STATUS_SAFE 0).put (F.CLU_k_BANK_CFG_VNOM 31) 1800).put (F.CLU_k_BANK_STATUS_IN_WINDOW 31) 1).put (F.CAL_CL_k_STATE_ACTIVE 31) 1, 31, by decide⟩,
   ⟨(((State.reset.put F.GLB_STATUS_SAFE 0).put (F.CLU_k_BANK_CFG_VNOM 31) 1800).put (F.CLU_k_BANK_STATUS_IN_WINDOW 31) 1).put (F.CAL_CL_k_STATE_ACTIVE 31) 1, 31, by decide⟩,
   ⟨State.reset.put F.GLB_STATUS_SAFE 1, 31, true, 8, by decide⟩,
   ⟨((State.reset.put F.GLB_STATUS_SAFE 0).put (F.CLU_k_BANK_CFG_VNOM 31) 1800).put (F.CLU_k_BANK_STATUS_IN_WINDOW 31) 1, 31, false, by decide⟩,
   ⟨State.reset.putN (R.CAL_CL_k_ACT 31) 0x1110, 31, true, by decide⟩,
   ⟨(((State.reset.put F.GLB_STATUS_SAFE 0).put (F.CLU_k_BANK_CFG_VNOM 31) 1800).put (F.CLU_k_BANK_STATUS_IN_WINDOW 31) 1).put (F.CAL_CL_k_STATE_ACTIVE 31) 1, 31, by decide⟩,
   ⟨(((State.reset.put F.GLB_STATUS_SAFE 0).put (F.CLU_k_BANK_CFG_VNOM 31) 1800).put (F.CLU_k_BANK_STATUS_IN_WINDOW 31) 1).put (F.CAL_CL_k_STATE_ACTIVE 31) 1, 31, by decide⟩,
   ⟨State.reset.put F.GLB_STATUS_SAFE 1, 31, true, 8, by decide⟩,
   ⟨State.reset.putN (R.CAL_CL_k_ACT 31) 0x2000, 31, 4, by decide⟩,
   ⟨(State.reset.put (F.CAL_CL_k_STATE_ACTIVE 31) 1).putN (R.CAL_CL_k_ACT 31) 0x0010, 31, (List.replicate 4 (List.replicate 384 0)), [], by decide⟩,
   ⟨REFOK.put (F.CAL_CL_k_STATE_ACTIVE 31) 3, 31, [], (List.replicate 48 5), by decide⟩,
   ⟨(State.reset.put (F.CAL_CL_k_STATE_ACTIVE 31) 2).putN (R.CAL_CL_k_ACT 31) 0x0100, 31, [], (List.replicate 160 5), by decide⟩,
   ⟨State.reset.updCal 31 (fun c => { c with target := [(15, 5)], applying := true }), 31, 15, 5, by decide⟩,
   ⟨State.reset.updCal 31 (fun c => { c with target := [(15, 5)], applying := true }), 31, 63, 15, 5, by decide⟩⟩

theorem witness_SpanSkewAndEphemeris :
    (∃ s : State, ∃ (n : Site) (q : Bool), ((if s.armed n then (s.siteOf n).role else s.get (F.SITE_n_SPAN_ROLE n)) ≠ 1)) ∧
    (∃ s : State, ∃ (n : Site) (q : Bool), ((s.siteOf n).role = 1) ∧ (s.armed n = true) ∧ (s.siteState n ≠ 1)) ∧
    (∃ s : State, ∃ (n : Site) (q : Bool) (k : Cluster), ((s.siteOf n).role = 1) ∧ (s.siteState n = 1) ∧ (s.armed n = true) ∧ (s.cal.span.site = none) ∧ (s.siteClus n = [k.val]) ∧ (s.calActive k = 0)) ∧
    (∃ s : State, ∃ (n : Site) (k : Cluster), ((s.siteOf n).role = 1) ∧ (s.siteState n = 1) ∧ (s.armed n = true) ∧ (s.cal.span.site = none) ∧ (s.siteClus n = [k.val]) ∧ (s.calActive k ≠ 0)) ∧
    (∃ s : State, ∃ (n : Site) (k : Cluster), ((s.siteOf n).role = 2) ∧ (s.siteState n = 1) ∧ (s.cal.span.site = none) ∧ (s.siteClus n = [k.val]) ∧ (s.calActive k = 0)) ∧
    (∃ s : State, ∃ (n : Site) (off : Int), (s.cal.span.site = some n.val) ∧ (s.cal.span.holds = true) ∧ (s.cal.span.count < 3968) ∧ ((s.siteOf n).role ≠ 1)) ∧
    (∃ s : State, ∃ (n : Site), (s.cal.span.site = some n.val) ∧ (s.cal.span.count = 0) ∧ (s.cal.span.applying = false)) ∧
    (∃ s : State, ∃ (n : Site) (up : Int) (q : Int), (s.cal.span.site = some n.val) ∧ (s.cal.span.holds = true) ∧ (s.cal.span.applying = false) ∧ (s.cal.span.count = 3968) ∧ (s.cal.span.refBad = false) ∧ (s.refValid = true) ∧ (-(up * 3968 + s.cal.span.sum) = q * (2 * 3968)) ∧ (q.natAbs ≤ 800) ∧ (q ≠ sext 16 (s.get (F.CAL_SITE_n_SKEW_SKEW n)))) ∧
    (∃ s : State, ∃ (n : Site) (up : Int), (s.cal.span.site = some n.val) ∧ (s.cal.span.holds = true) ∧ (s.cal.span.applying = false)) ∧
    (∃ s : State, ∃ (l : List (Nat × Nat)), (s.refValid = false)) ∧
    (∃ s : State, ∃ (l : List (Nat × Nat)), (s.refValid = true) ∧ (l.length = 32)) ∧
    (∃ s : State, (∀ k : Cluster, (s.calOf k).reads ≠ 0)) :=
  ⟨⟨State.reset, 63, false, by decide⟩,
   ⟨SPANS 3 1, 63, false, by decide⟩,
   ⟨(SPANS 1 1).updSite 63 (fun x => { x with octs := [63] }), 63, false, 31, by decide⟩,
   ⟨((SPANS 1 1).updSite 63 (fun x => { x with octs := [63] })).put (F.CAL_CL_k_STATE_ACTIVE 31) 1, 63, 31, by decide⟩,
   ⟨(SPANS 1 2).updSite 63 (fun x => { x with octs := [63] }), 63, 31, by decide⟩,
   ⟨(SKEWS 3967).updSite 63 (fun x => { x with role := 2 }), 63, -3, by decide⟩,
   ⟨SKEWS 0, 63, by decide⟩,
   ⟨let s := SKEWS 3968; { s with regs := (((s.put F.CLK_REF_STATUS_PRESENT 1).put F.CLK_REF_STATUS_FREQ_OK 1).put F.CLK_REF_STATUS_HOLDOVER 0).regs }, 63, -1600, 800, by decide⟩,
   ⟨SKEWS 5, 63, 0, by decide⟩,
   ⟨State.reset.putN R.CLK_REF_STATUS 8, [], by decide⟩,
   ⟨REFOK, (List.replicate 32 (1, 1)), by decide⟩,
   ⟨(List.range 32).foldl (fun s k => s.updCal k (fun c => { c with reads := 1, sum := 7 })) State.reset, by decide⟩⟩

theorem witness_Resets :
    (∃ s : State, (s.pins.pwrgood = false)) ∧
    (∃ s : State, ∃ (c : Bool) (r : Bool) (b : Fin 4), (s.pins.pwrgood = true) ∧ (s.pins.rstN = false)) ∧
    (∃ s : State, ∃ (c : Bool) (r : Bool) (b : Fin 4), (s.pins.pwrgood = true)) ∧
    (∃ s : State, ∃ (c : Bool) (r : Bool) (b : Fin 4), (s.pins.pwrgood = true) ∧ (s.pins.rstN = true) ∧ (s.boot.first = true)) ∧
    (∃ s : State, ∃ (v : Word), (bitsOf v 31 16 = 0xA5C3) ∧ (bitsOf v 0 0 = 1)) ∧
    (∃ s : State, ∃ (v : Word), (bitsOf v 31 16 ≠ 0xA5C3)) ∧
    (∃ s : State, (s.boot.reboot = true)) ∧
    (∃ s : State, (s.boot.reboot = false)) :=
  ⟨⟨State.reset, by decide⟩,
   ⟨{ LANE 3 with pins := { pwrgood := true, rstN := false } }, false, true, 2, by decide⟩,
   ⟨{ LANE 3 with pins := { pwrgood := true, rstN := true }, boot := { first := false } }, false, true, 2, by decide⟩,
   ⟨{ LANE 3 with pins := { pwrgood := true, rstN := true } }, false, true, 2, by decide⟩,
   ⟨LANE 3, 0xA5C30001, by decide⟩,
   ⟨State.reset, 1, by decide⟩,
   ⟨{ LANE 3 with boot := { reboot := true } }, by decide⟩,
   ⟨State.reset, by decide⟩⟩

theorem witness_BootStages :
    (∃ s : State, (s.get F.BOOT_STAGE_STAGE = 1)) ∧
    (∃ s : State, ∃ (z : Nat) (m : Nat) (q : Bool), (s.get F.BOOT_STAGE_STAGE = 2) ∧ (25 ≤ z) ∧ (z < 64) ∧ (s.get F.BOOT_STRAP_BOOTSEL ≠ 3)) ∧
    (∃ s : State, ∃ (z : Nat) (m : Nat) (q : Bool), (s.get F.BOOT_STAGE_STAGE = 2) ∧ (25 ≤ z) ∧ (s.get F.BOOT_STRAP_BOOTSEL = 3)) ∧
    (∃ s : State, ∃ (z : Nat) (m : Nat) (q : Bool), (s.get F.BOOT_STAGE_STAGE = 2)) ∧
    (∃ s : State, (s.get F.BOOT_STAGE_STAGE = 3) ∧ (s.get F.BOOT_STRAP_BOOTSEL = 1)) ∧
    (∃ s : State, (s.get F.BOOT_STAGE_STAGE = 3) ∧ (s.get F.BOOT_STRAP_BOOTSEL = 2)) ∧
    (∃ s : State, (s.get F.BOOT_STAGE_STAGE = 4)) ∧
    (∃ s : State, (s.get F.BOOT_STAGE_STAGE = 5) ∧ (secOf (s.slotImg s.boot.slot 0 0x240) 5 = none)) ∧
    (∃ s : State, ∃ (x : Sec), (s.get F.BOOT_STAGE_STAGE = 5) ∧ (secOf (s.slotImg s.boot.slot 0 0x240) 5 = some x) ∧ (mgmtFwOk (s.slotImg s.boot.slot x.off x.len) = true) ∧ (16 ≤ x.len)) ∧
    (∃ s : State, (s.get F.BOOT_STAGE_STAGE = 6)) ∧
    (∃ s : State, (s.get F.BOOT_STAGE_STAGE = 6)) ∧
    (∃ s : State, (s.get F.BOOT_STAGE_STAGE = 6)) ∧
    (∃ s : State, (s.get F.BOOT_STAGE_STAGE = 7 ∨ s.get F.BOOT_STAGE_STAGE = 8) ∧ (s.boot.loadDone = false) ∧ (∀ y ∈ loadOrder, secOf (s.slotImg s.boot.slot 0 0x240) y = none)) ∧
    (∃ s : State, (s.get F.BOOT_STAGE_STAGE = 7 ∨ s.get F.BOOT_STAGE_STAGE = 8) ∧ (s.boot.hbmDone = false)) ∧
    (∃ s : State, (s.get F.BOOT_STAGE_STAGE = 7 ∨ s.get F.BOOT_STAGE_STAGE = 8) ∧ (s.boot.hbmDone = false)) ∧
    (∃ s : State, (s.get F.BOOT_STAGE_STAGE = 10) ∧ (s.finalQuiet = true) ∧ (s.anyDirty = false)) ∧
    (∃ s : State, (s.get F.BOOT_STAGE_STAGE = 10) ∧ (s.finalQuiet = true) ∧ (s.anyDirty = true)) :=
  ⟨⟨STAGE 1, by decide⟩,
   ⟨STAGE 2, 25, 200, true, by decide⟩,
   ⟨(STAGE 2).put F.BOOT_STRAP_BOOTSEL 3, 25, 200, true, by decide⟩,
   ⟨STAGE 2, 25, 200, true, by decide⟩,
   ⟨(STAGE 3).put F.BOOT_STRAP_BOOTSEL 1, by decide⟩,
   ⟨(STAGE 3).put F.BOOT_STRAP_BOOTSEL 2, by decide⟩,
   ⟨STAGE 4, by decide⟩,
   ⟨STAGE 5, by decide +kernel⟩,
   ⟨FWSLOT, ⟨5, 0x240, 17, [5, 0, 0, 0, 0x40, 2, 0, 0, 17, 0, 0, 0, 0xFF, 0xFF, 0xFF, 0xFF]⟩, by decide +kernel⟩,
   ⟨STAGE 6, by decide⟩,
   ⟨STAGE 6, by decide⟩,
   ⟨STAGE 6, by decide⟩,
   ⟨STAGE 7, by decide +kernel⟩,
   ⟨STAGE 7, by decide⟩,
   ⟨STAGE 8, by decide⟩,
   ⟨((STAGE 10).putN R.CLK_SYS_LOCK 0xF).putN R.CLK_PLL_LOCK 0xFFFFFFFF, by decide +kernel⟩,
   ⟨(((STAGE 10).putN R.CLK_SYS_LOCK 0xF).putN R.CLK_PLL_LOCK 0xFFFFFFFF).putN (R.TSET_DIRTY_MAP_w 7) 1, by decide +kernel⟩⟩

theorem witness_ConfigurationRecords :
    (∃ s : State, ∃ (m : Fin 4) (v : Word) (nx : Nat), (s.get F.BOOT_STAGE_STAGE = 9) ∧ (recAt s.chipConfig s.boot.recOff = some (.reg (R.GLB_SCRATCHk m) v, nx))) ∧
    (∃ s : State, ∃ (a : Nat) (d : List Byte) (nx : Nat), (s.get F.BOOT_STAGE_STAGE = 9) ∧ (recAt s.chipConfig s.boot.recOff = some (.mem a d, nx)) ∧ (0xD00000000 ≤ a) ∧ (a + d.length ≤ 0xD00400000)) ∧
    (∃ s : State, ∃ (a : Nat) (n : Nat) (v : Word) (nx : Nat), (s.get F.BOOT_STAGE_STAGE = 9) ∧ (recAt s.chipConfig s.boot.recOff = some (.fill a n v, nx)) ∧ (0xD00000000 ≤ a) ∧ (a + n ≤ 0xD00400000) ∧ (n % 4 = 0)) ∧
    (∃ s : State, ∃ (m : Fin 4) (k : Nat) (w : Nat) (nx : Nat), (s.get F.BOOT_STAGE_STAGE = 9) ∧ (recAt s.chipConfig s.boot.recOff = some (.poll (R.GLB_SCRATCHk m) k w, nx)) ∧ (Nat.land (s.num (R.GLB_SCRATCHk m)) k = w)) ∧
    (∃ s : State, ∃ (m : Fin 4) (k : Nat) (w : Nat) (nx : Nat), (s.get F.BOOT_STAGE_STAGE = 9) ∧ (recAt s.chipConfig s.boot.recOff = some (.poll (R.GLB_SCRATCHk m) k w, nx)) ∧ (Nat.land (s.num (R.GLB_SCRATCHk m)) k ≠ w)) ∧
    (∃ s : State, ∃ (o : Nat) (k : Nat) (w : Nat) (nx : Nat), (s.get F.BOOT_STAGE_STAGE = 9) ∧ (recAt s.chipConfig s.boot.recOff = some (.poll o k w, nx))) ∧
    (∃ s : State, ∃ (nx : Nat), (s.get F.BOOT_STAGE_STAGE = 9) ∧ (recAt s.chipConfig s.boot.recOff = some (.fin, nx))) ∧
    (∃ s : State, (s.get F.BOOT_STAGE_STAGE = 9) ∧ (recAt s.chipConfig s.boot.recOff = none)) ∧
    (∃ s : State, (s.get F.BOOT_STAGE_STAGE = 9) ∧ (recAt s.chipConfig s.boot.recOff = none)) ∧
    (∃ s : State, (s.get F.BOOT_STAGE_STAGE = 9) ∧ (recAt s.chipConfig s.boot.recOff = none)) ∧
    (∃ s : State, (s.get F.BOOT_STAGE_STAGE = 9) ∧ (recAt s.chipConfig s.boot.recOff = none)) ∧
    (∃ s : State, (s.get F.BOOT_STAGE_STAGE = 9) ∧ (recAt s.chipConfig s.boot.recOff = none)) ∧
    (∃ s : State, ∃ (v : Word) (nx : Nat), (s.get F.BOOT_STAGE_STAGE = 9) ∧ (recAt s.chipConfig s.boot.recOff = some (.reg 0x7FFFFFC v, nx))) :=
  ⟨⟨SCRREC, 0, 7, 16, by decide +kernel⟩,
   ⟨FLASHREC [2, 0, 10, 0, 0xFE, 0xFF, 3, 0, 13, 0, 0, 0, 5, 6, 0, 0], 0xD0003FFFE, [5, 6], 16, by decide +kernel⟩,
   ⟨FLASHREC [4, 0, 16, 0, 0, 0, 0, 0, 13, 0, 0, 0, 8, 0, 0, 0, 1, 2, 3, 4, 0, 0, 0, 0], 0xD00000000, 8, 0x04030201, 24, by decide +kernel⟩,
   ⟨FLASHREC (List.append [3, 0, 16, 0] (leBytes 4 (R.GLB_SCRATCHk 3) ++ [0xFF, 0, 0, 0, 0, 0, 0, 0, 0, 0, 0, 0])), 3, 255, 0, 24, by decide +kernel⟩,
   ⟨FLASHREC (List.append [3, 0, 16, 0] (leBytes 4 (R.GLB_SCRATCHk 3) ++ [0xFF, 0, 0, 0, 1, 0, 0, 0, 0, 0, 0, 0])), 3, 255, 1, 24, by decide +kernel⟩,
   ⟨FLASHREC (List.append [3, 0, 16, 0] (leBytes 4 (R.GLB_SCRATCHk 3) ++ [0xFF, 0, 0, 0, 1, 0, 0, 0, 0, 0, 0, 0])), (R.GLB_SCRATCHk 3), 255, 1, 24, by decide +kernel⟩,
   ⟨FLASHREC [0, 0, 0, 0, 0, 0, 0, 0], 8, by decide +kernel⟩,
   ⟨FLASHREC [9, 0, 0, 0, 0, 0, 0, 0], by decide +kernel⟩,
   ⟨FLASHREC [9, 0, 0, 0, 0, 0, 0, 0], by decide +kernel⟩,
   ⟨FLASHREC [9, 0, 0, 0, 0, 0, 0, 0], by decide +kernel⟩,
   ⟨FLASHREC [9, 0, 0, 0, 0, 0, 0, 0], by decide +kernel⟩,
   ⟨FLASHREC [9, 0, 0, 0, 0, 0, 0, 0], by decide +kernel⟩,
   ⟨FLASHREC (List.append [1, 0, 8, 0] (leBytes 4 0x7FFFFFC ++ leBytes 4 7)), 7, 16, by decide +kernel⟩⟩

theorem witness_UpdateRequests :
    (∃ s : State, ∃ (l : List Byte) (u : State), (s.updTake = some (l, u)) ∧ (s.updBad l = false) ∧ ((updReqOf l).op = 2)) ∧
    (∃ s : State, ∃ (l : List Byte) (u : State), (s.updTake = some (l, u)) ∧ (s.updBad l = false) ∧ ((updReqOf l).op = 3) ∧ (s.mgmt.ledger.trial = false ∨ s.mgmt.ledger.slot ≠ s.boot.slot)) ∧
    (∃ s : State, ∃ (l : List Byte) (u : State), (s.updTake = some (l, u)) ∧ (s.updBad l = false) ∧ ((updReqOf l).op = 3) ∧ (s.mgmt.ledger.trial = true) ∧ (s.mgmt.ledger.slot = s.boot.slot)) ∧
    (∃ s : State, ∃ (l : List Byte) (u : State), (s.updTake = some (l, u)) ∧ (s.updBad l = false) ∧ ((updReqOf l).op = 4) ∧ (s.noneArmed = true)) ∧
    (∃ s : State, ∃ (l : List Byte) (u : State), (s.updTake = some (l, u)) ∧ (s.updBad l = false) ∧ ((updReqOf l).op = 4) ∧ (s.noneArmed = false) ∧ ((updReqOf l).flags = 0)) ∧
    (∃ s : State, ∃ (l : List Byte) (u : State), (s.updTake = some (l, u)) ∧ (s.updBad l = true)) ∧
    (∃ s : State, ∃ (l : List Byte) (u : State) (d : List Byte), (s.updTake = some (l, u)) ∧ (s.updBad l = false) ∧ ((updReqOf l).op = 1) ∧ (0xD00000000 ≤ (updReqOf l).addr) ∧ ((updReqOf l).addr + (updReqOf l).len ≤ 0xD00400000) ∧ (d = u.rdBytes (updReqOf l).addr (updReqOf l).len)) ∧
    (∃ s : State, ∃ (q : UpdReq) (c : Nat), (s.boot.upd = some q) ∧ (s.boot.updWait = some c) ∧ (c < 16) ∧ (q.op ≠ 2 ∧ q.op ≠ 3 ∨ s.mgmt.commit = false) ∧ (s.get (F.MBX_m_CFG_RX 0) = 16) ∧ (s.get (F.MBX_m_STATUS_ACK_PEND 0) = 1)) ∧
    (∃ s : State, ∃ (q : UpdReq), (s.boot.upd = some q) ∧ (q.op = 2 ∨ q.op = 3) ∧ (s.mgmt.commit = true)) :=
  ⟨⟨REQUEST (List.append [2, 0, 0, 0] (List.replicate 60 0)), (List.append [2, 0, 0, 0] (List.replicate 60 0)), ((REQUEST (List.append [2, 0, 0, 0] (List.replicate 60 0))).updTake.getD ([], State.reset)).2, by decide +kernel⟩,
   ⟨REQUEST (List.append [3, 0, 0, 0] (List.replicate 60 0)), (List.append [3, 0, 0, 0] (List.replicate 60 0)), ((REQUEST (List.append [3, 0, 0, 0] (List.replicate 60 0))).updTake.getD ([], State.reset)).2, by decide +kernel⟩,
   ⟨{ REQUEST (List.append [3, 0, 0, 0] (List.replicate 60 0)) with mgmt := { ledger := { trial := true } } }, (List.append [3, 0, 0, 0] (List.replicate 60 0)), (({ REQUEST (List.append [3, 0, 0, 0] (List.replicate 60 0)) with mgmt := { ledger := { trial := true } } } : State).updTake.getD ([], State.reset)).2, by decide +kernel⟩,
   ⟨REQUEST (List.append [4, 0, 0, 0] (List.replicate 60 0)), (List.append [4, 0, 0, 0] (List.replicate 60 0)), ((REQUEST (List.append [4, 0, 0, 0] (List.replicate 60 0))).updTake.getD ([], State.reset)).2, by decide +kernel⟩,
   ⟨(REQUEST (List.append [4, 0, 0, 0] (List.replicate 60 0))).put (F.SITE_n_STATUS_STATE 63) 1, (List.append [4, 0, 0, 0] (List.replicate 60 0)), (((REQUEST (List.append [4, 0, 0, 0] (List.replicate 60 0))).put (F.SITE_n_STATUS_STATE 63) 1).updTake.getD ([], State.reset)).2, by decide +kernel⟩,
   ⟨REQUEST (List.append [9, 0, 0, 0] (List.replicate 60 0)), (List.append [9, 0, 0, 0] (List.replicate 60 0)), ((REQUEST (List.append [9, 0, 0, 0] (List.replicate 60 0))).updTake.getD ([], State.reset)).2, by decide +kernel⟩,
   ⟨REQUEST ([1, 0, 0, 0] ++ leBytes 4 576 ++ leBytes 8 0xD00001000 ++ List.replicate 48 0), ([1, 0, 0, 0] ++ leBytes 4 576 ++ leBytes 8 0xD00001000 ++ List.replicate 48 0), ((REQUEST ([1, 0, 0, 0] ++ leBytes 4 576 ++ leBytes 8 0xD00001000 ++ List.replicate 48 0)).updTake.getD ([], State.reset)).2, (List.replicate 576 0), by decide +kernel⟩,
   ⟨{ ((State.reset.put (F.MBX_m_CFG_RX 0) 16).put (F.MBX_m_STATUS_ACK_PEND 0) 1) with boot := { upd := some ⟨4, 0, 0, 0⟩, updWait := some 0 } }, ⟨4, 0, 0, 0⟩, 0, by decide⟩,
   ⟨{ State.reset with boot := { upd := some ⟨2, 0, 0, 0⟩, updWait := some 0 }, mgmt := { commit := true } }, ⟨2, 0, 0, 0⟩, by decide⟩⟩

theorem witness_SafeState :
    (∃ s : State, (s.safe = false)) ∧
    (∃ s : State, (s.safe = true)) ∧
    (∃ s : State, (s.safe = false)) ∧
    (∃ s : State, (s.safe = true)) ∧
    (∃ s : State, ∃ (v : Word), ((s.plainWrite R.MGS_SAFE_CTRL v).get F.MGS_SAFE_CTRL_FORCE = 1) ∧ (s.safe = false)) ∧
    (∃ s : State, ∃ (v : Word), ((s.plainWrite R.MGS_SAFE_CTRL v).get F.MGS_SAFE_CTRL_FORCE = 1) ∧ (s.safe = true)) ∧
    (∃ s : State, ∃ (v : Word), ((s.plainWrite R.MGS_SAFE_CTRL v).get F.MGS_SAFE_CTRL_FORCE = 0)) ∧
    (∃ s : State, (s.safe = true) ∧ (s.get F.MGS_SAFE_STATUS_SRC = 0)) ∧
    (∃ s : State, (s.get F.MGS_SAFE_STATUS_SRC ≠ 0)) :=
  ⟨⟨(LANE 3), by decide⟩,
   ⟨LANE 4 |>.put F.GLB_STATUS_SAFE 1, by decide⟩,
   ⟨(LANE 3), by decide⟩,
   ⟨LANE 4 |>.put F.GLB_STATUS_SAFE 1, by decide⟩,
   ⟨(LANE 3), 0xFFFFFFFF, by decide⟩,
   ⟨LANE 4 |>.put F.GLB_STATUS_SAFE 1, 0xFFFFFFFF, by decide⟩,
   ⟨State.reset, 0, by decide⟩,
   ⟨(LANE 4).put F.GLB_STATUS_SAFE 1 |>.putN R.MGS_SAFE_STATUS 0, by decide +kernel⟩,
   ⟨State.reset.put F.MGS_SAFE_STATUS_SRC 16, by decide⟩⟩

theorem witness_WatchdogSensorsKeepAlive :
    (∃ s : State, ∃ (v : Word), (s.get F.MGS_WDT_CTRL_EN = 0) ∧ ((s.plainWrite R.MGS_WDT_CTRL v).get F.MGS_WDT_CTRL_EN = 1)) ∧
    (∃ s : State, ∃ (v : Word), (s.get F.MGS_WDT_CTRL_EN = 1 ∨ (s.plainWrite R.MGS_WDT_CTRL v).get F.MGS_WDT_CTRL_EN = 0)) ∧
    (∃ s : State, ∃ (v : Word), (bitsOf v 15 0 = 0x4B1C) ∧ (s.mgmt.expired = false)) ∧
    (∃ s : State, ∃ (v : Word), (bitsOf v 15 0 ≠ 0x4B1C) ∧ (s.mgmt.expired = false)) ∧
    (∃ s : State, ∃ (r : Req) (v : Word), (r ≠ .mgmt)) ∧
    (∃ s : State, (s.get F.MGS_WDT_CTRL_EN = 1) ∧ (s.mgmt.expired = false)) ∧
    (∃ s : State, (s.get F.MGS_WDT_CTRL_EN = 0 ∨ s.mgmt.expired = true)) ∧
    (∃ s : State, (s.mgmt.expired = true) ∧ (s.get F.MGS_WDT_CTRL_RESET_DLY ≠ 0)) ∧
    (∃ s : State, ∃ (d : List Int) (m : List Nat), (d.length = 64) ∧ (m.length = 40) ∧ (∀ x ∈ d, -2048 ≤ x ∧ x < 2048) ∧ (∀ x ∈ m, x < 4096)) ∧
    (∃ s : State, ∃ (c : List Nat), (c.length = 40) ∧ (∀ x ∈ c, x < 65536)) ∧
    (∃ s : State, (s.pins.pwrgood = false)) ∧
    (∃ s : State, ∃ (r : Req) (v : Word), (r ≠ .mgmt)) ∧
    (∃ s : State, ∃ (v : Word), (bitsOf v 15 0 = 0x7A11)) ∧
    (∃ s : State, ∃ (r : Req) (v : Word), (r ≠ .mgmt ∨ bitsOf v 15 0 ≠ 0x7A11)) ∧
    (∃ s : State, (s.ready = true)) ∧
    (∃ s : State, (s.ready = false)) :=
  ⟨⟨State.reset, 0xFFFFFFFF, by decide⟩,
   ⟨State.reset, 0, by decide⟩,
   ⟨State.reset, 0x4B1C, by decide⟩,
   ⟨(LANE 3), 1, by decide⟩,
   ⟨State.reset, .host, 0x4B1C, by decide⟩,
   ⟨LANE 3 |>.put F.MGS_WDT_CTRL_EN 1, by decide⟩,
   ⟨State.reset, by decide⟩,
   ⟨{ (LANE 3).put F.MGS_WDT_CTRL_RESET_DLY 1 with mgmt := { expired := true } }, by decide⟩,
   ⟨State.reset, ((List.range 64).map (fun i => (i : Int) - 5)), (List.range 40), by decide +kernel⟩,
   ⟨State.reset, (List.range 40), by decide⟩,
   ⟨State.reset, by decide⟩,
   ⟨State.reset, .host, 5, by decide⟩,
   ⟨State.reset, 0x7A11, by decide⟩,
   ⟨State.reset, .host, 0x7A11, by decide⟩,
   ⟨State.reset.put F.GLB_STATUS_READY 1, by decide⟩,
   ⟨State.reset.put F.GLB_STATUS_READY 0, by decide⟩⟩

theorem witness_LogAndLedger :
    (∃ s : State, ∃ (r : Req) (v : Word), (0x8000 ≤ bitsOf v 15 0) ∧ (s.mgmt.logQ.length < 256)) ∧
    (∃ s : State, ∃ (r : Req) (v : Word), (0x8000 ≤ bitsOf v 15 0) ∧ (256 ≤ s.mgmt.logQ.length)) ∧
    (∃ s : State, ∃ (r : Req) (v : Word), (bitsOf v 15 0 < 0x8000)) ∧
    (∃ s : State, ∃ (b : List Byte) (l : List (List Byte)) (i : Nat) (q : Nat), (s.mgmt.logQ = b :: l) ∧ (b.length = 56) ∧ (s.logSlots ≠ 0) ∧ (i = s.mgmt.logStart) ∧ (q = s.mgmt.logNext % 2 ^ 32) ∧ (i % 64 ≠ 0)) ∧
    (∃ s : State, ∃ (b : List Byte) (l : List (List Byte)) (i : Nat) (q : Nat), (s.mgmt.logQ = b :: l) ∧ (b.length = 56) ∧ (s.logSlots ≠ 0) ∧ (i = s.mgmt.logStart) ∧ (q = s.mgmt.logNext % 2 ^ 32) ∧ (i % 64 = 0)) ∧
    (∃ s : State, (s.mgmt.logQ = [])) ∧
    (∃ s : State, ∃ (v : Word) (i : Nat) (d : List Byte), (s.logUsed = [i]) ∧ (s.logAt i = some d) ∧ (sub d 0 4 = v.toNat)) ∧
    (∃ s : State, ∃ (v : Word), (s.logUsed = [])) ∧
    (∃ s : State, ∃ (k : Nat), (s.mgmt.commit = true) ∧ (s.flashSize ≠ 0) ∧ (k = (if s.get F.MGS_LEDGER_STATUS_VALID = 0 then 0 else 1 - s.get F.MGS_LEDGER_STATUS_BANK))) ∧
    (∃ s : State, ∃ (k : Nat) (d : List Byte), (s.mgmt.commit = true) ∧ (s.flashSize ≠ 0) ∧ (k = (if s.get F.MGS_LEDGER_STATUS_VALID = 0 then 0 else 1 - s.get F.MGS_LEDGER_STATUS_BANK))) ∧
    (∃ s : State, ∃ (g : Option (List Byte)), (s.mgmt.commit = false)) :=
  ⟨⟨State.reset, .core 15, 0xFFFF, by decide⟩,
   ⟨{ State.reset with mgmt := { logQ := List.replicate 256 [] } }, .core 15, 0x8000, by decide⟩,
   ⟨State.reset, .core 15, 0x7FFF, by decide⟩,
   ⟨{ State.reset.put F.BOOT_FLASH_SIZE_LOG2 25 with mgmt := { logQ := [List.replicate 56 7], logStart := 63, logNext := 0xFFFFFFFF } }, (List.replicate 56 7), [], 63, 0xFFFFFFFF, by decide⟩,
   ⟨{ State.reset.put F.BOOT_FLASH_SIZE_LOG2 25 with mgmt := { logQ := [List.replicate 56 7] } }, (List.replicate 56 7), [], 0, 0, by decide⟩,
   ⟨State.reset, by decide⟩,
   ⟨LOGGED, 5, 1, ((LOGGED.logAt 1).getD []), by decide +kernel⟩,
   ⟨State.reset, 0xFFFFFFFF, by decide⟩,
   ⟨{ State.reset.put F.BOOT_FLASH_SIZE_LOG2 25 with mgmt := { commit := true } }, 0, by decide⟩,
   ⟨{ State.reset.put F.BOOT_FLASH_SIZE_LOG2 25 with mgmt := { commit := true } }, 0, [1], by decide⟩,
   ⟨State.reset, none, by decide⟩⟩

theorem witness_ConsoleSmbusTap :
    (∃ s : State, ∃ (b : Byte), (s.get F.MGS_UART_CTRL_EN = 1) ∧ (s.mgmt.rx.length < 64)) ∧
    (∃ s : State, ∃ (b : Byte), (s.get F.MGS_UART_CTRL_EN = 1) ∧ (64 ≤ s.mgmt.rx.length)) ∧
    (∃ s : State, ∃ (b : Byte), (s.get F.MGS_UART_CTRL_EN = 1)) ∧
    (∃ s : State, ∃ (b : Byte) (p : Bool), (s.get F.MGS_UART_CTRL_EN = 0)) ∧
    (∃ s : State, ∃ (v : Word), (s.mgmt.tx.length < 64)) ∧
    (∃ s : State, ∃ (r : Req) (b : Byte) (l : List Byte), (s.mgmt.rx = b :: l) ∧ (l.length < 64)) ∧
    (∃ s : State, ∃ (r : Req), (s.mgmt.rx = [])) ∧
    (∃ s : State, ∃ (b : Byte) (l : List Byte), (s.mgmt.tx = b :: l) ∧ (l.length < 64)) ∧
    (∃ s : State, (s.get F.MGS_SMB_CFG_PEC = 0)) ∧
    (∃ s : State, (s.get F.MGS_SMB_CFG_PEC = 1)) ∧
    (∃ s : State, (s.get F.MGS_SMB_CFG_PEC = 0)) ∧
    (∃ s : State, (s.get F.MGS_SMB_CFG_PEC = 1)) ∧
    (∃ s : State, (s.get F.MGS_SMB_CFG_PEC = 0)) ∧
    (∃ s : State, (s.get F.MGS_SMB_CFG_PEC = 1)) ∧
    (∃ s : State, (s.get F.MGS_SMB_CFG_PEC = 0)) ∧
    (∃ s : State, (s.get F.MGS_SMB_CFG_PEC = 1)) ∧
    (∃ s : State, (s.get F.MGS_SMB_CFG_PEC = 0)) ∧
    (∃ s : State, (s.get F.MGS_SMB_CFG_PEC = 1)) ∧
    (∃ s : State, (s.safe = true)) ∧
    (∃ s : State, (s.safe = false) ∧ (s.hottest < 8 * s.get F.GOV_TJ_CFG_ADMIT)) ∧
    (∃ s : State, ∃ (d : List Bool), (d ≠ [])) ∧
    (∃ s : State, ∃ (d : List Bool), (d ≠ [])) ∧
    (∃ s : State, ∃ (d : List Bool), (d ≠ [])) ∧
    (∃ s : State, ∃ (m : Fin 4), (s.jtagOk (R.GLB_SCRATCHk m) = true)) ∧
    (∃ s : State, ∃ (m : Fin 4) (v : Word), (s.jtagOk (R.GLB_SCRATCHk m) = true)) ∧
    (∃ s : State, ∃ (o : Nat) (v : Word), (s.jtagOk o = false)) :=
  ⟨⟨State.reset.put F.MGS_UART_CTRL_EN 1, 255, by decide⟩,
   ⟨{ State.reset.put F.MGS_UART_CTRL_EN 1 with mgmt := { rx := List.replicate 64 0 } }, 255, by decide⟩,
   ⟨State.reset.put F.MGS_UART_CTRL_EN 1, 0, by decide⟩,
   ⟨State.reset.put F.MGS_UART_CTRL_EN 0, 1, true, by decide⟩,
   ⟨State.reset, 0x1FF, by decide⟩,
   ⟨{ State.reset with mgmt := { rx := [255, 1] } }, .host, 255, [1], by decide⟩,
   ⟨State.reset, .host, by decide⟩,
   ⟨{ State.reset with mgmt := { tx := [255, 1] } }, 255, [1], by decide⟩,
   ⟨State.reset.put F.MGS_SMB_CFG_PEC 0, by decide⟩,
   ⟨State.reset.put F.MGS_SMB_CFG_PEC 1, by decide⟩,
   ⟨State.reset.put F.MGS_SMB_CFG_PEC 0, by decide⟩,
   ⟨State.reset.put F.MGS_SMB_CFG_PEC 1, by decide⟩,
   ⟨State.reset.put F.MGS_SMB_CFG_PEC 0, by decide⟩,
   ⟨State.reset.put F.MGS_SMB_CFG_PEC 1, by decide⟩,
   ⟨State.reset.put F.MGS_SMB_CFG_PEC 0, by decide⟩,
   ⟨State.reset.put F.MGS_SMB_CFG_PEC 1, by decide⟩,
   ⟨State.reset.put F.MGS_SMB_CFG_PEC 0, by decide⟩,
   ⟨State.reset.put F.MGS_SMB_CFG_PEC 1, by decide⟩,
   ⟨State.reset.put F.GLB_STATUS_SAFE 1, by decide⟩,
   ⟨State.reset.put F.GLB_STATUS_SAFE 0, by decide⟩,
   ⟨State.reset, [true, false, true], by decide⟩,
   ⟨State.reset, [true, false, true], by decide⟩,
   ⟨State.reset, [true, false, true], by decide⟩,
   ⟨State.reset.put F.BOOT_STAGE_STAGE 11, 3, by decide⟩,
   ⟨State.reset.put F.BOOT_STAGE_STAGE 11, 3, 7, by decide⟩,
   ⟨State.reset, 0, 7, by decide⟩⟩

theorem witness_IdleStepCountsTime : ∃ s : State, s.pending = [] := ⟨State.reset, by decide⟩

theorem witness_MemoryFrame : ∃ (c : Instr) (s t : State), storesNothing c = true ∧ exec c s = .next t :=
  ⟨.vidStep, State.reset, _, rfl, rfl⟩

theorem witness_StepKeepsForm : ∃ s t : State, s.Inv ∧ step s = .next t := ⟨State.reset, { State.reset with now := 1 }, by decide, rfl⟩

end Sys2Proof.Tests
end

section
/-!
PROOFS. The completion of a COMMIT and of a RETIRE (R43, R46, R47). Both write the FLAGS byte of one directory entry, one bit of the
committed bitmap and two counters (`State.markDrawer`), and end as every drawer command ends (`State.drwEnd`); what the two
obligations say is read off these two operations.
-/

namespace Sys2Proof.Machine

namespace State

/-! ## Register words -/

theorem word_congr {s t : State} (h : t.regs = s.regs) (o : Nat) : t.word o = s.word o := by
  rw [State.word, h, State.word]

theorem num_congr {s t : State} (h : t.regs = s.regs) (o : Nat) : t.num o = s.num o := by
  rw [State.num, word_congr h, State.num]

theorem get_congr {s t : State} (h : t.regs = s.regs) (f : Fld) : t.get f = s.get f := by
  rw [State.get, word_congr h, State.get]

theorem num_putPair_ne (s : State) (o v p : Nat) (h : p ≠ o) (h' : p ≠ o + 4) : (s.putPair o v).num p = s.num p :=
  (num_putN_ne _ _ _ _ h').trans (num_putN_ne _ _ _ _ h)

/-- A counter that fills its word wraps at 2 ^ 32. -/
theorem num_wrapInc_word (s : State) (o : Nat) : (s.wrapInc ⟨o, 31, 0⟩).num o = (s.num o + 1) % 2 ^ 32 := by
  have h : (s.wrapInc ⟨o, 31, 0⟩).num o = (s.wrapInc ⟨o, 31, 0⟩).get ⟨o, 31, 0⟩ := (bitsOf_word _).symm
  rw [h, State.wrapInc, get_put _ _ _ (by simp) (by simp), State.get, bitsOf_word]
  rfl

/-! ## The FLAGS byte of a directory entry (R37, R39) -/

theorem rdByte_congr {s t : State} (h : t.mem = s.mem) (a : Nat) : t.rdByte a = s.rdByte a := by
  rw [State.rdByte, h, State.rdByte]

theorem rdBytes_congr {s t : State} (h : t.mem = s.mem) (a n : Nat) : t.rdBytes a n = s.rdBytes a n := by
  induction n generalizing a with
  | zero => rfl
  | succ n ih => rw [State.rdBytes, State.rdBytes, rdByte_congr h, ih]

theorem entry_congr {s t : State} (h : t.mem = s.mem) (id : Nat) : t.entry id = s.entry id := by
  rw [State.entry, rdBytes_congr h, State.entry]

theorem entry_flags (s : State) (id : Nat) : (s.entry id).flags = (s.rdByte (entryAddr id + 13)).toNat := by
  simp [State.entry, decodeEntry, sub, State.rdBytes, leNat, Nat.add_assoc]

theorem entry_flags_lt (s : State) (id : Nat) : (s.entry id).flags < 2 ^ 8 := by
  rw [entry_flags]
  exact (s.rdByte _).isLt

theorem flags_putFlags (s : State) (id f : Nat) (h : f < 2 ^ 8) : ((s.putFlags id f).entry id).flags = f := by
  rw [entry_flags, State.putFlags, rdByte_wrByte, if_pos rfl, BitVec.toNat_ofNat, Nat.mod_eq_of_lt h]

theorem memBut_putFlags (s : State) (id f : Nat) : MemBut (entryAddr id + 13) 1 s (s.putFlags id f) := by
  intro b hb
  rw [State.putFlags, rdByte_wrByte, if_neg (by omega)]

/-! ## The committed bitmap -/

theorem ne_commitMap {o : Nat} (h : o < R.DRW_COMMIT_MAP_w 0) (w : Nat) : o ≠ R.DRW_COMMIT_MAP_w w := by
  unfold R.DRW_COMMIT_MAP_w at *
  omega

theorem committed_setCommitted (s : State) (id : Nat) (b : Bool) : (s.setCommitted id b).committed id = b := by
  rw [State.committed, State.setCommitted, bit_putBit _ _ _ _ _ (Nat.mod_lt _ (by decide)), if_pos rfl]

theorem num_setCommitted_ne (s : State) (id : Nat) (b : Bool) (o : Nat) (h : o < R.DRW_COMMIT_MAP_w 0) :
    (s.setCommitted id b).num o = s.num o := num_putN_ne _ _ _ _ (ne_commitMap h _)

theorem committed_congr {s t : State} {id : Nat}
    (h : t.word (R.DRW_COMMIT_MAP_w (id / 32)) = s.word (R.DRW_COMMIT_MAP_w (id / 32))) :
    t.committed id = s.committed id := by
  rw [State.committed, State.bit, State.num, h, State.committed, State.bit, State.num]

/-! ## The end of a drawer command (R43) -/

/-- The registers at the end of a drawer command: its result code `res` is shown, BUSY falls and CMD_DONE is raised. -/
def drwShow (s : State) (res : Nat) : State :=
  ((s.put F.DRW_CMD_STATUS_RESULT res).put F.DRW_CMD_STATUS_BUSY 0).put F.DRW_EVENT_CMD_DONE 1

/-- The end of a drawer command with result code `res`: the registers show it, and the latched entry is dropped. -/
def drwEnd (s : State) (res : Nat) : State :=
  { s.drwShow res with drw := { (s.drwShow res).drw with latched := [], latchedBad := false } }

theorem drwEnd_regs (s : State) (res : Nat) : (s.drwEnd res).regs = (s.drwShow res).regs := by rw [drwEnd]

theorem drwShow_mem (s : State) (res : Nat) : (s.drwShow res).mem = s.mem := by
  rw [drwShow, put_mem, put_mem, put_mem]

theorem drwEnd_mem (s : State) (res : Nat) : (s.drwEnd res).mem = s.mem := by
  rw [drwEnd]
  exact drwShow_mem s res

theorem word_drwEnd_ne (s : State) (res o : Nat) (h : o ≠ R.DRW_CMD_STATUS) (h' : o ≠ R.DRW_EVENT) :
    (s.drwEnd res).word o = s.word o := by
  rw [word_congr (drwEnd_regs s res), drwShow, word_put_ne _ _ _ _ h', word_put_ne _ _ _ _ h, word_put_ne _ _ _ _ h]

theorem num_drwEnd_ne (s : State) (res o : Nat) (h : o ≠ R.DRW_CMD_STATUS) (h' : o ≠ R.DRW_EVENT) :
    (s.drwEnd res).num o = s.num o := by
  rw [State.num, word_drwEnd_ne s res o h h', State.num]

theorem get_drwEnd_result (s : State) (res : Nat) : (s.drwEnd res).get F.DRW_CMD_STATUS_RESULT = res % 2 ^ 8 := by
  rw [get_congr (drwEnd_regs s res), drwShow, get_put_off _ _ _ _ (by decide),
    get_put_bits _ _ _ _ (by decide) (by decide) (by decide), get_put _ _ _ (by decide) (by decide)]
  rfl

theorem get_drwEnd_busy (s : State) (res : Nat) : (s.drwEnd res).get F.DRW_CMD_STATUS_BUSY = 0 := by
  rw [get_congr (drwEnd_regs s res), drwShow, get_put_off _ _ _ _ (by decide), get_put _ _ _ (by decide) (by decide)]
  rfl

end State

/-- A running command completes (R43): its result pair is cleared, its effect follows where the code is DONE, and it ends. -/
theorem drwDone_of_busy (s : State) (h : s.get F.DRW_CMD_STATUS_BUSY = 1) :
    drwDone s = (if drwResult s = 0 then drwEffect (s.putPair R.DRW_CMD_RESULT_LO 0)
      else s.putPair R.DRW_CMD_RESULT_LO 0).drwEnd (drwResult s) := by
  have hb : s.is F.DRW_CMD_STATUS_BUSY = true := by simp [State.is, h]
  rw [drwDone, if_pos hb]
  rfl

/-! ## What COMMIT and RETIRE store (R46, R47) -/

/-- FLAGS of an entry after COMMIT: MINLEN_OK from LEN_GRAN, GEN toggled, PINNED 0 (R46). -/
def commitFlags (e : DirEnt) : Nat := setBitN (setBitN (setBitN e.flags 3 (16 ≤ e.len)) 2 (!e.flags.testBit 2)) 1 false

/-- FLAGS of an entry after RETIRE: MINLEN_OK 0 (R47). -/
def retireFlags (e : DirEnt) : Nat := setBitN e.flags 3 false

theorem commitFlags_lt (e : DirEnt) (h : e.flags < 2 ^ 8) : commitFlags e < 2 ^ 8 :=
  State.setBitN_lt _ _ _ _ (State.setBitN_lt _ _ _ _ (State.setBitN_lt _ _ _ _ h (by decide)) (by decide)) (by decide)

theorem retireFlags_lt (e : DirEnt) (h : e.flags < 2 ^ 8) : retireFlags e < 2 ^ 8 := State.setBitN_lt _ _ _ _ h (by decide)

theorem testBit_commitFlags (e : DirEnt) (j : Nat) : (commitFlags e).testBit j =
    if j = 1 then false else if j = 2 then !e.flags.testBit 2 else if j = 3 then decide (16 ≤ e.len) else e.flags.testBit j := by
  simp only [commitFlags, State.testBit_setBitN]

theorem testBit_retireFlags (e : DirEnt) (j : Nat) :
    (retireFlags e).testBit j = if j = 3 then false else e.flags.testBit j := State.testBit_setBitN _ _ _ _

namespace State

/-- What COMMIT and RETIRE of drawer `id` store: the FLAGS `f`, the bit `b` of the committed bitmap, DRW_GEN one higher, and the
count `c` of committed drawers. -/
def markDrawer (s : State) (id f : Nat) (b : Bool) (c : Nat) : State :=
  (((s.putFlags id f).setCommitted id b).wrapInc ⟨R.DRW_GEN, 31, 0⟩).putN R.DRW_COMMITTED_CNT c

theorem num_setCommitted_putFlags (s : State) (id f : Nat) (b : Bool) (o : Nat) (h : o < R.DRW_COMMIT_MAP_w 0) :
    ((s.putFlags id f).setCommitted id b).num o = s.num o :=
  (num_setCommitted_ne _ _ _ _ h).trans (num_congr (wrByte_regs _ _ _) o)

theorem doCommit_eq_markDrawer (s : State) (id : Nat) :
    s.doCommit id = s.markDrawer id (commitFlags (s.entry id)) true (s.num R.DRW_COMMITTED_CNT + 1) := by
  rw [markDrawer, ← num_setCommitted_putFlags s id (commitFlags (s.entry id)) true _ (by decide)]
  rfl

theorem doRetire_eq_markDrawer (s : State) (id : Nat) :
    s.doRetire id = s.markDrawer id (retireFlags (s.entry id)) false (s.num R.DRW_COMMITTED_CNT - 1) := by
  rw [markDrawer, ← num_setCommitted_putFlags s id (retireFlags (s.entry id)) false _ (by decide)]
  rfl

theorem committed_markDrawer (s : State) (id f : Nat) (b : Bool) (c : Nat) : (s.markDrawer id f b c).committed id = b := by
  have h : (s.markDrawer id f b c).committed id = ((s.putFlags id f).setCommitted id b).committed id :=
    committed_congr ((word_putN_ne _ _ _ _ (ne_commitMap (by decide) _).symm).trans
      (word_put_ne _ _ _ _ (ne_commitMap (o := R.DRW_GEN) (by decide) _).symm))
  rw [h, committed_setCommitted]

theorem num_gen_markDrawer (s : State) (id f : Nat) (b : Bool) (c : Nat) :
    (s.markDrawer id f b c).num R.DRW_GEN = (s.num R.DRW_GEN + 1) % 2 ^ 32 := by
  rw [markDrawer, num_putN_ne _ _ _ _ (by decide), num_wrapInc_word, num_setCommitted_putFlags _ _ _ _ _ (by decide)]

theorem num_count_markDrawer (s : State) (id f : Nat) (b : Bool) (c : Nat) (h : c < 2 ^ 32) :
    (s.markDrawer id f b c).num R.DRW_COMMITTED_CNT = c := by
  rw [markDrawer, num_putN, Nat.mod_eq_of_lt h]

/-- The whole of a COMMIT or RETIRE that succeeds: the result pair is cleared, drawer `id` is marked, and the command ends. -/
def drwMarked (s : State) (id f : Nat) (b : Bool) (c : Nat) : State :=
  ((s.putPair R.DRW_CMD_RESULT_LO 0).markDrawer id f b c).drwEnd 0

theorem drwMarked_mem (s : State) (id f : Nat) (b : Bool) (c : Nat) : (s.drwMarked id f b c).mem = (s.putFlags id f).mem := by
  rw [drwMarked, drwEnd_mem]
  rfl

theorem flags_drwMarked (s : State) (id f : Nat) (b : Bool) (c : Nat) (h : f < 2 ^ 8) :
    ((s.drwMarked id f b c).entry id).flags = f := by
  rw [entry_congr (drwMarked_mem s id f b c), flags_putFlags _ _ _ h]

theorem memBut_drwMarked (s : State) (id f : Nat) (b : Bool) (c : Nat) :
    MemBut (entryAddr id + 13) 1 s (s.drwMarked id f b c) := fun a ha =>
  (rdByte_congr (drwMarked_mem s id f b c) a).trans (memBut_putFlags s id f a ha)

theorem committed_drwMarked (s : State) (id f : Nat) (b : Bool) (c : Nat) : (s.drwMarked id f b c).committed id = b := by
  rw [drwMarked, committed_congr (word_drwEnd_ne _ _ _ (ne_commitMap (by decide) _).symm (ne_commitMap (by decide) _).symm),
    committed_markDrawer]

theorem num_gen_drwMarked (s : State) (id f : Nat) (b : Bool) (c : Nat) :
    (s.drwMarked id f b c).num R.DRW_GEN = (s.num R.DRW_GEN + 1) % 2 ^ 32 := by
  rw [drwMarked, num_drwEnd_ne _ _ _ (by decide) (by decide), num_gen_markDrawer, num_putPair_ne _ _ _ _ (by decide) (by decide)]

theorem num_count_drwMarked (s : State) (id f : Nat) (b : Bool) (c : Nat) (h : c < 2 ^ 32) :
    (s.drwMarked id f b c).num R.DRW_COMMITTED_CNT = c := by
  rw [drwMarked, num_drwEnd_ne _ _ _ (by decide) (by decide), num_count_markDrawer _ _ _ _ _ h]

theorem get_drwMarked_result (s : State) (id f : Nat) (b : Bool) (c : Nat) :
    (s.drwMarked id f b c).get F.DRW_CMD_STATUS_RESULT = 0 := get_drwEnd_result _ 0

/-- A retired drawer's entry is no longer write-protected: it is not committed, and no command runs. -/
theorem dirProtected_drwMarked_false (s : State) (id f c : Nat) :
    (s.drwMarked id f false c).dirProtected (entryAddr id) = false := by
  have hid : (entryAddr id - dirBase) / 64 = id := by unfold entryAddr; omega
  have hb : (s.drwMarked id f false c).get F.DRW_CMD_STATUS_BUSY = 0 := get_drwEnd_busy _ 0
  simp [State.dirProtected, hid, committed_drwMarked, State.is, hb]

end State

/-! ## The commands -/

/-- The OP field is not among what the completion clears first. -/
theorem get_op_putPair_result (s : State) (v : Nat) :
    (s.putPair R.DRW_CMD_RESULT_LO v).get F.DRW_CMD_STATUS_OP = s.get F.DRW_CMD_STATUS_OP :=
  (State.get_putN_ne _ _ _ _ (by decide)).trans (State.get_putN_ne _ _ _ _ (by decide))

/-- A COMMIT whose checks pass. -/
theorem drwDone_commit (s : State) (hb : s.get F.DRW_CMD_STATUS_BUSY = 1) (ho : s.get F.DRW_CMD_STATUS_OP = drwCommit)
    (hr : drwResult s = 0) :
    drwDone s = s.drwMarked s.drw.cmdId (commitFlags (s.entry s.drw.cmdId)) true (s.num R.DRW_COMMITTED_CNT + 1) := by
  rw [drwDone_of_busy s hb, hr, if_pos rfl, drwEffect, get_op_putPair_result, ho, if_pos rfl, State.doCommit_eq_markDrawer,
    State.entry_congr (State.putPair_mem s _ _), State.num_putPair_ne _ _ _ _ (by decide) (by decide)]
  rfl

/-- A RETIRE whose checks pass. -/
theorem drwDone_retire (s : State) (hb : s.get F.DRW_CMD_STATUS_BUSY = 1) (ho : s.get F.DRW_CMD_STATUS_OP = drwRetire)
    (hr : drwResult s = 0) :
    drwDone s = s.drwMarked s.drw.cmdId (retireFlags (s.entry s.drw.cmdId)) false (s.num R.DRW_COMMITTED_CNT - 1) := by
  rw [drwDone_of_busy s hb, hr, if_pos rfl, drwEffect, get_op_putPair_result, ho, if_neg (by decide), if_pos rfl,
    State.doRetire_eq_markDrawer, State.entry_congr (State.putPair_mem s _ _),
    State.num_putPair_ne _ _ _ _ (by decide) (by decide)]
  rfl

/-- Settles O7: the FLAGS byte, the committed bitmap and the counters of the state that the completion reaches. -/
theorem successfulCommit : Obligations.SuccessfulCommit := by
  intro s hb ho _ hr hc
  have hf := State.flags_drwMarked s s.drw.cmdId _ true (s.num R.DRW_COMMITTED_CNT + 1)
    (commitFlags_lt _ (s.entry_flags_lt s.drw.cmdId))
  refine ⟨_, congrArg Host.Outcome.next (drwDone_commit s hb ho hr), ?minlenOk, ?gen, ?pinned, ?shelf,
    State.committed_drwMarked _ _ _ _ _, State.num_gen_drwMarked _ _ _ _ _,
    State.num_count_drwMarked _ _ _ _ _ (by omega), State.get_drwMarked_result _ _ _ _ _,
    State.memBut_drwMarked _ _ _ _ _⟩
  case minlenOk => simp [hf, testBit_commitFlags]
  case gen => simp [hf, testBit_commitFlags]
  case pinned => simp [State.pinned, hf, testBit_commitFlags]
  case shelf => simp [DirEnt.shelf, hf, testBit_commitFlags, -Nat.testBit_zero]

/-- Settles O8: the same of RETIRE, whose entry is write-protected neither as committed nor by a COMMIT in progress. -/
theorem successfulRetire : Obligations.SuccessfulRetire := by
  intro s hb ho _ hr _
  have hf := State.flags_drwMarked s s.drw.cmdId _ false (s.num R.DRW_COMMITTED_CNT - 1)
    (retireFlags_lt _ (s.entry_flags_lt s.drw.cmdId))
  have hc : s.num R.DRW_COMMITTED_CNT - 1 < 2 ^ 32 := Nat.lt_of_le_of_lt (Nat.sub_le _ _) (s.num_lt _)
  refine ⟨_, congrArg Host.Outcome.next (drwDone_retire s hb ho hr), State.committed_drwMarked _ _ _ _ _, ?minlenOk,
    State.num_gen_drwMarked _ _ _ _ _, State.num_count_drwMarked _ _ _ _ _ hc,
    State.dirProtected_drwMarked_false _ _ _ _, State.get_drwMarked_result _ _ _ _ _,
    State.memBut_drwMarked _ _ _ _ _⟩
  case minlenOk => simp [hf, testBit_retireFlags]

end Sys2Proof.Machine
end

section
-- One proof at a time: the whole text then stays within the memory the check allows.
set_option Elab.async false
/-!
PROOFS. What every command keeps: the queue, the canonical form of memory and of the register words, and every byte of memory
where the command stores nothing. `Keeps` says it of two states; one lemma per update and per function of the model carries it
over that function, in the order of the model, and `exec_keeps` collects the commands. The invariant and the frames follow.
-/

namespace Sys2Proof.Machine

/-- What a command keeps from `r` to `s`: the queue, the canonical form of the register words,
    and memory — its canonical form where
the command may store (`m`), every byte of it where it may not. -/
structure Keeps (m : Bool) (r s : State) : Prop where
  pending : s.pending = r.pending
  regs : Tab.wf resetWord r.regs = true → Tab.wf resetWord s.regs = true
  mem : Memory.wf r.mem = true → Memory.wf s.mem = true
  quiet : m = false → s.mem = r.mem

namespace Keeps
variable {m : Bool} {s₀ s t : State}

theorem refl : Keeps m s s := ⟨rfl, id, id, fun _ => rfl⟩

/-- An update of any fields but the queue, the register words and memory. -/
theorem others {now free req pins drw art strm memc seq eng ucs ts chan mc capt site ult tdc xl gov tb hart sched intc host
    cal time boot mgmt} (h : Keeps m s₀ s) :
    Keeps m s₀ ⟨s.regs, s.mem, now, s.pending, free, req, pins, drw, art, strm, memc, seq, eng, ucs, ts, chan, mc, capt,
        site, ult, tdc, xl, gov, tb, hart, sched, intc, host, cal, time, boot, mgmt⟩ :=
  ⟨h.pending, h.regs, h.mem, h.quiet⟩

theorem fst_mk {α : Type} {x : α} (h : Keeps m s₀ s) : Keeps m s₀ (s, x).1 := h

theorem snd_mk {α : Type} {x : α} (h : Keeps m s₀ s) : Keeps m s₀ (x, s).2 := h

theorem thd_mk {α β : Type} {x : α} {y : β} (h : Keeps m s₀ s) : Keeps m s₀ (x, y, s).2.2 := h

theorem of_fst {α : Type} {p : State × α} {x : α} (e : p = (t, x)) (h : Keeps m s₀ p.1) : Keeps m s₀ t := by rwa [e] at h

theorem of_snd {α : Type} {p : α × State} {x : α} (e : p = (x, t)) (h : Keeps m s₀ p.2) : Keeps m s₀ t := by rwa [e] at h

theorem of_thd {α β : Type} {p : α × β × State} {x : α} {y : β} (e : p = (x, y, t)) (h : Keeps m s₀ p.2.2) :
    Keeps m s₀ t := by rwa [e] at h

theorem of_some {α : Type} {x y : α} (e : some (x, s) = some (y, t)) (h : Keeps m s₀ s) : Keeps m s₀ t := by
  cases e
  exact h

theorem of_some_fst {α : Type} {x y : α} (e : some (s, x) = some (t, y)) (h : Keeps m s₀ s) : Keeps m s₀ t := by
  cases e
  exact h

theorem ite {c : Prop} [Decidable c] (h : Keeps m s₀ s) (g : Keeps m s₀ t) : Keeps m s₀ (if c then s else t) := by
  split
  · exact h
  · exact g

theorem dite {c : Prop} [Decidable c] {f : c → State} {g : ¬ c → State} (hf : ∀ x, Keeps m s₀ (f x)) (hg : ∀ x, Keeps m s₀
    (g x)) :
    Keeps m s₀ (if x : c then f x else g x) := by
  split
  · exact hf _
  · exact hg _

theorem when {c : Bool} {f : State → State} (h : Keeps m s₀ s) (hf : Keeps m s₀ s → Keeps m s₀ (f s)) : Keeps m s₀
    (s.when c f) :=
  State.when_keeps (Keeps m s₀) c f s h hf

theorem each {α : Type} {l : List α} {f : State → α → State} (h : Keeps m s₀ s)
    (hf : ∀ {t x}, Keeps m s₀ t → Keeps m s₀ (f t x)) : Keeps m s₀ (s.each l f) :=
  State.each_keeps (Keeps m s₀) l f s h fun _ _ => hf

theorem foldl {α : Type} {l : List α} {f : State → α → State} (h : Keeps m s₀ s)
    (hf : ∀ {t x}, Keeps m s₀ t → Keeps m s₀ (f t x)) : Keeps m s₀ (l.foldl f s) := each h hf

/-- A fold over a larger accumulator keeps what its steps keep of the state in it. -/
theorem foldl_acc {α β : Type} (π : β → State) {l : List α} {f : β → α → β} {x : β} (h : Keeps m s₀ (π x))
    (hf : ∀ {y a}, Keeps m s₀ (π y) → Keeps m s₀ (π (f y a))) : Keeps m s₀ (π (l.foldl f x)) := by
  induction l generalizing x with
  | nil => exact h
  | cons a l ih => exact ih (hf h)

theorem setWord {o : Nat} {v : Word} (h : Keeps m s₀ s) : Keeps m s₀ (s.setWord o v) :=
  ⟨h.pending, fun w => Tab.wf_set resetWord o v s.regs (h.regs w), h.mem, h.quiet⟩

theorem wrByte {a : Nat} {x : Byte} (h : Keeps true s₀ s) : Keeps true s₀ (s.wrByte a x) :=
  ⟨h.pending, h.regs, fun w => State.wf_wrByte s a x (h.mem w), nofun⟩

theorem wrBytes {a : Nat} {l : List Byte} (h : Keeps true s₀ s) : Keeps true s₀ (s.wrBytes a l) := by
  induction l generalizing s a with
  | nil => exact h
  | cons x xs ih => exact ih h.wrByte

end Keeps

section
variable {m : Bool} {s₀ s : State}

/-! ### Words, fields and structures -/

theorem Keeps.put {f v} (h : Keeps m s₀ s) : Keeps m s₀ (s.put f v) := by
  unfold State.put
  exact .setWord h

theorem Keeps.putN {off v} (h : Keeps m s₀ s) : Keeps m s₀ (s.putN off v) := by
  unfold State.putN
  exact .setWord h

theorem Keeps.addSat {off k} (h : Keeps m s₀ s) : Keeps m s₀ (s.addSat off k) := by
  unfold State.addSat
  exact .putN h

theorem Keeps.bump {off} (h : Keeps m s₀ s) : Keeps m s₀ (s.bump off) := by
  unfold State.bump
  exact .addSat h

theorem Keeps.wrapInc {f} (h : Keeps m s₀ s) : Keeps m s₀ (s.wrapInc f) := by
  unfold State.wrapInc
  exact .put h

theorem Keeps.putBit {off i b} (h : Keeps m s₀ s) : Keeps m s₀ (s.putBit off i b) := by
  unfold State.putBit
  exact .putN h

theorem Keeps.putPair {off v} (h : Keeps m s₀ s) : Keeps m s₀ (s.putPair off v) := by
  unfold State.putPair
  exact .putN (.putN h)

theorem Keeps.updRq {r f} (h : Keeps m s₀ s) : Keeps m s₀ (s.updRq r f) := by
  unfold State.updRq
  exact .others h

theorem Keeps.takeStaged {r} (h : Keeps m s₀ s) : Keeps m s₀ (s.takeStaged r).2 := by
  unfold State.takeStaged
  exact .snd_mk (.updRq h)

theorem Keeps.updStrm {n f} (h : Keeps m s₀ s) : Keeps m s₀ (s.updStrm n f) := by
  unfold State.updStrm
  exact .others h

theorem Keeps.updSeq {n f} (h : Keeps m s₀ s) : Keeps m s₀ (s.updSeq n f) := by
  unfold State.updSeq
  exact .others h

theorem Keeps.updPlay {n f} (h : Keeps m s₀ s) : Keeps m s₀ (s.updPlay n f) := by
  unfold State.updPlay
  exact .updSeq h

theorem Keeps.updEng {e f} (h : Keeps m s₀ s) : Keeps m s₀ (s.updEng e f) := by
  unfold State.updEng
  exact .others h

theorem Keeps.updChan {c f} (h : Keeps m s₀ s) : Keeps m s₀ (s.updChan c f) := by
  unfold State.updChan
  exact .others h

theorem Keeps.updCapt {n f} (h : Keeps m s₀ s) : Keeps m s₀ (s.updCapt n f) := by
  unfold State.updCapt
  exact .others h

theorem Keeps.updSite {n f} (h : Keeps m s₀ s) : Keeps m s₀ (s.updSite n f) := by
  unfold State.updSite
  exact .others h

theorem Keeps.updBank {p b f} (h : Keeps m s₀ s) : Keeps m s₀ (s.updBank p b f) := by
  unfold State.updBank
  exact .others h

theorem Keeps.updPc {p f} (h : Keeps m s₀ s) : Keeps m s₀ (s.updPc p f) := by
  unfold State.updPc
  exact .others h

theorem Keeps.updSlot {k i f} (h : Keeps m s₀ s) : Keeps m s₀ (s.updSlot k i f) := by
  unfold State.updSlot
  exact .others h

theorem Keeps.updTdc {k u f} (h : Keeps m s₀ s) : Keeps m s₀ (s.updTdc k u f) := by
  unfold State.updTdc
  exact .others h

theorem Keeps.updLane {n f} (h : Keeps m s₀ s) : Keeps m s₀ (s.updLane n f) := by
  unfold State.updLane
  exact .others h

theorem Keeps.updPort {k f} (h : Keeps m s₀ s) : Keeps m s₀ (s.updPort k f) := by
  unfold State.updPort
  exact .others h

theorem Keeps.updUlane {k m' f} (h : Keeps m s₀ s) : Keeps m s₀ (s.updUlane k m' f) := by
  unfold State.updUlane
  exact .updPort h

theorem Keeps.updHart {n f} (h : Keeps m s₀ s) : Keeps m s₀ (s.updHart n f) := by
  unfold State.updHart
  exact .others h

theorem Keeps.updCore {n f} (h : Keeps m s₀ s) : Keeps m s₀ (s.updCore n f) := by
  unfold State.updCore
  exact .others h

theorem Keeps.updDma {e f} (h : Keeps m s₀ s) : Keeps m s₀ (s.updDma e f) := by
  unfold State.updDma
  exact .others h

theorem Keeps.updMbx {m' f} (h : Keeps m s₀ s) : Keeps m s₀ (s.updMbx m' f) := by
  unfold State.updMbx
  exact .others h

theorem Keeps.freeBits {w} (h : Keeps m s₀ s) : Keeps m s₀ (s.freeBits w).2 := by
  unfold State.freeBits
  exact .snd_mk (.others h)

theorem Keeps.roundFree {w num den} (h : Keeps m s₀ s) : Keeps m s₀ (s.roundFree w num den).2 := by
  unfold State.roundFree
  split
  · extract_lets
    exact .snd_mk (.freeBits h)
  · split
    · exact .snd_mk h
    · extract_lets
      exact .snd_mk (.freeBits h)

/-! ### Causes, flags and refused encodings -/

theorem Keeps.invalidate {n i} (h : Keeps m s₀ s) : Keeps m s₀ (s.invalidate n i) := by
  unfold State.invalidate
  exact .putBit (.putBit (.putBit h))

theorem Keeps.invalidateAll {l i} (h : Keeps m s₀ s) : Keeps m s₀ (s.invalidateAll l i) := by
  unfold State.invalidateAll
  exact .each h fun h => .invalidate h

theorem Keeps.refLostAll (h : Keeps m s₀ s) : Keeps m s₀ (s.refLostAll) := by
  unfold State.refLostAll
  exact .invalidateAll h

theorem Keeps.putFlag {n i b} (h : Keeps m s₀ s) : Keeps m s₀ (s.putFlag n i b) := by
  unfold State.putFlag
  exact .putBit h

theorem Keeps.tdcNote {k} (h : Keeps m s₀ s) : Keeps m s₀ (s.tdcNote k) := by
  unfold State.tdcNote
  exact .each h fun h => by
      extract_lets _ s1 s2
      have h1 : Keeps m s₀ s1 := .when h fun h => .put h
      have h2 : Keeps m s₀ s2 := .when h1 fun h => .put h1
      exact .ite (.when h2 fun h => .put h2) h

theorem Keeps.refInvalid (h : Keeps m s₀ s) : Keeps m s₀ (s.refInvalid) := by
  unfold State.refInvalid
  extract_lets _ _ s1
  have h1 : Keeps m s₀ s1 := .each (.each (.refLostAll h) fun h => .tdcNote h) fun h => .ite (.others h) h
  exact .ite (.others h1) h1

theorem Keeps.enumRefused (h : Keeps m s₀ s) : Keeps m s₀ (s.enumRefused) := by
  unfold State.enumRefused
  exact .bump h

theorem Keeps.writeField {ready off v f} (h : Keeps m s₀ s) : Keeps m s₀ (writeField ready off v s f) := by
  unfold Sys2Proof.Machine.writeField
  extract_lets
  split
  · exact .ite (.put h) (.enumRefused h)
  · exact .ite h (.ite (.put h) (.enumRefused h))
  · exact .put h
  · exact .put h
  · exact .ite h (.enumRefused h)
  · exact h
  · exact h

theorem Keeps.writeFields {r off v} (h : Keeps m s₀ s) : Keeps m s₀ (writeFields s r off v) := by
  unfold Sys2Proof.Machine.writeFields
  exact .foldl h fun h => .writeField h

theorem Keeps.plainWrite {off v} (h : Keeps m s₀ s) : Keeps m s₀ (s.plainWrite off v) := by
  unfold State.plainWrite
  split
  exacts [h, .writeFields h]

theorem Keeps.clearRc {r off} (h : Keeps m s₀ s) : Keeps m s₀ (clearRc s r off) := by
  unfold Sys2Proof.Machine.clearRc
  exact .foldl h fun h => .ite (.put h) h

theorem Keeps.clearRegs {l} (h : Keeps m s₀ s) : Keeps m s₀ (s.clearRegs l) := by
  unfold State.clearRegs
  exact .each h fun h => .setWord h

/-! ### Drawers -/

theorem Keeps.logPush {src sev code req data} (h : Keeps m s₀ s) : Keeps m s₀ (s.logPush src sev code req data) := by
  unfold State.logPush
  exact .ite (.put (.bump h)) (.others h)

theorem Keeps.logEvent {src} (h : Keeps m s₀ s) : Keeps m s₀ (s.logEvent src) := by
  unfold State.logEvent
  extract_lets
  exact .logPush (.freeBits (.freeBits (.freeBits h)))

theorem Keeps.artDrop {i} (h : Keeps m s₀ s) : Keeps m s₀ (s.artDrop i) := by
  unfold State.artDrop
  extract_lets
  exact .others (.setWord h)

theorem Keeps.artClear {n} (h : Keeps m s₀ s) : Keeps m s₀ (s.artClear n) := by
  unfold State.artClear
  exact .each h fun h => .artDrop h

theorem Keeps.noteUe {addr req sd} (h : Keeps m s₀ s) : Keeps m s₀ (s.noteUe addr req sd) := by
  unfold State.noteUe
  extract_lets
  exact .logEvent (.put (.putN (.putN (.putN (.bump h)))))

theorem Keeps.noteCe {b} (h : Keeps m s₀ s) : Keeps m s₀ (s.noteCe b) := by
  unfold State.noteCe
  extract_lets _ s1
  have h1 : Keeps m s₀ s1 := .bump (.bump h)
  exact .others (.when h1 fun h => .put h1)

theorem Keeps.addErrs {ce ue} (h : Keeps m s₀ s) : Keeps m s₀ (s.addErrs ce ue) := by
  unfold State.addErrs
  exact .others h

theorem Keeps.eccRead {a n req sd} (h : Keeps m s₀ s) : Keeps m s₀ (s.eccRead a n req sd).2 := by
  unfold State.eccRead
  split
  · extract_lets
    exact .snd_mk (.each (.each h fun h => .noteCe h) fun h => .noteUe h)
  · exact .snd_mk h

theorem Keeps.drwRefuse (h : Keeps m s₀ s) : Keeps m s₀ (s.drwRefuse) := by
  unfold State.drwRefuse
  exact .put (.bump h)

theorem Keeps.drwAccept {op tag id} (h : Keeps m s₀ s) : Keeps m s₀ (s.drwAccept op tag id) := by
  unfold State.drwAccept
  extract_lets
  exact .others (.put (.put (.put h)))

theorem Keeps.drwCmd {op tag id} (h : Keeps m s₀ s) : Keeps m s₀ (drwCmd op tag id s) := by
  unfold Sys2Proof.Machine.drwCmd
  split
  · exact .drwRefuse h
  · extract_lets s1
    have h1 : Keeps m s₀ s1 := .drwAccept h
    split
    · split
      rename_i _ s2 e2
      have h2 := Keeps.of_snd e2 (.eccRead h1)
      exact .others h2
    · exact h1

theorem Keeps.putFlags {id f} (h : Keeps true s₀ s) : Keeps true s₀ (s.putFlags id f) := by
  unfold State.putFlags
  exact .wrByte h

theorem Keeps.shelfShow {base cnt on} (h : Keeps m s₀ s) : Keeps m s₀ (s.shelfShow base cnt on) := by
  unfold State.shelfShow
  extract_lets
  exact .putN (.putN (.each h fun h => .putBit h))

theorem Keeps.setCommitted {id b} (h : Keeps m s₀ s) : Keeps m s₀ (s.setCommitted id b) := by
  unfold State.setCommitted
  exact .putBit h

theorem Keeps.doCommit {id} (h : Keeps true s₀ s) : Keeps true s₀ (s.doCommit id) := by
  unfold State.doCommit
  extract_lets
  exact .putN (.wrapInc (.setCommitted (.putFlags h)))

theorem Keeps.doRetire {id} (h : Keeps true s₀ s) : Keeps true s₀ (s.doRetire id) := by
  unfold State.doRetire
  extract_lets
  exact .putN (.wrapInc (.setCommitted (.putFlags h)))

theorem Keeps.drwEffect (h : Keeps true s₀ s) : Keeps true s₀ (drwEffect s) := by
  unfold Sys2Proof.Machine.drwEffect
  extract_lets
  split
  · exact .doCommit h
  · split
    · exact .doRetire h
    · split
      · exact .putFlags h
      · split
        · exact .putFlags h
        · split
          · split
            · exact h
            · extract_lets
              exact .putPair (.shelfShow (.others h))
          · split
            · split
              · exact h
              · extract_lets
                exact .shelfShow (.others h)
            · exact h

theorem Keeps.drwDone (h : Keeps true s₀ s) : Keeps true s₀ (drwDone s) := by
  unfold Sys2Proof.Machine.drwDone
  split
  · extract_lets _ s1
    have h1 : Keeps true s₀ s1 := .putPair h
    exact .others (.put (.put (.put (.ite (.drwEffect h1) h1))))
  · exact h

theorem Keeps.artInsert {n id} (h : Keeps m s₀ s) : Keeps m s₀ (artInsert n id s) := by
  unfold Sys2Proof.Machine.artInsert
  split
  · extract_lets _ _ _ _ _ s1
    have h1 : Keeps m s₀ s1 := .updSeq (.setWord (.others h))
    exact .when h1 fun h => .bump h1
  · exact h

/-! ### The work scheduler -/

theorem Keeps.setReady {p l} (h : Keeps m s₀ s) : Keeps m s₀ (s.setReady p l) := by
  unfold State.setReady
  extract_lets
  exact .putN (.putN (.others h))

theorem Keeps.dropResv {who a n} (h : Keeps m s₀ s) : Keeps m s₀ (s.dropResv who a n) := by
  unfold State.dropResv
  exact .each h fun h => by
      split
      exacts [.ite (.updHart h) h, h]

theorem Keeps.coreShow {n} (h : Keeps m s₀ s) : Keeps m s₀ (s.coreShow n) := by
  unfold State.coreShow
  extract_lets
  exact .put (.put (.put (.put (.put h))))

theorem Keeps.wake {n} (h : Keeps m s₀ s) : Keeps m s₀ (s.wake n) := by
  unfold State.wake
  exact .coreShow (.updHart h)

theorem Keeps.pass {n} (h : Keeps true s₀ s) : Keeps true s₀ (s.pass n) := by
  unfold State.pass
  split
  · extract_lets _ s1
    have h1 : Keeps true s₀ s1 := .addSat h
    split
    · exact h1
    · extract_lets
      exact .wake (.coreShow (.others (.updCore (.dropResv (.wrBytes (.setReady h1))))))
  · exact h

theorem Keeps.round (h : Keeps true s₀ s) : Keeps true s₀ (s.round) := by
  unfold State.round
  extract_lets
  exact .each h fun h => .pass h

theorem Keeps.complete {n} (h : Keeps m s₀ s) : Keeps m s₀ (s.complete n).1 := by
  unfold State.complete
  extract_lets
  exact .fst_mk (.coreShow (.updCore h))

theorem Keeps.retreat {n} (h : Keeps true s₀ s) : Keeps true s₀ (s.retreat n) := by
  unfold State.retreat
  extract_lets s1 s2
  have h1 : Keeps true s₀ s1 := by
    unfold s1
    split
    exacts [h, .setReady (.updCore h)]
  have h2 : Keeps true s₀ s2.1 := .complete h1
  exact .ite (.round h2) h2

theorem Keeps.enqueue {i} (h : Keeps true s₀ s) : Keeps true s₀ (s.enqueue i).2 := by
  unfold State.enqueue
  split
  · exact .snd_mk (.put (.bump h))
  · split
    exacts [.snd_mk (.put (.bump h)), .snd_mk (.round (.setReady h))]

theorem Keeps.schedEnqueue {r v} (h : Keeps true s₀ s) : Keeps true s₀ (schedEnqueue r v s) := by
  unfold Sys2Proof.Machine.schedEnqueue
  extract_lets
  split
  rename_i _ s1 e1
  have h1 := Keeps.of_snd e1 (.enqueue (.updRq h))
  exact .updRq h1

theorem Keeps.signalSched {n idx} (h : Keeps true s₀ s) : Keeps true s₀ (s.signalSched n idx) := by
  unfold State.signalSched
  extract_lets
  split
  rename_i _ s1 e1
  have h1 := Keeps.of_snd e1 (.enqueue h)
  exact .when h1 fun h => .put (.bump h1)

theorem Keeps.hwevEnqueue {k} (h : Keeps true s₀ s) : Keeps true s₀ (s.hwevEnqueue k) := by
  unfold State.hwevEnqueue
  extract_lets
  split
  rename_i _ s1 e1
  have h1 := Keeps.of_snd e1 (.enqueue h)
  exact .when h1 fun h => .put (.bump h1)

theorem Keeps.hwevs {src} (h : Keeps true s₀ s) : Keeps true s₀ (s.hwevs src) := by
  unfold State.hwevs
  exact .each h fun h => .ite (.hwevEnqueue h) h

theorem Keeps.schedTake {r n} (h : Keeps true s₀ s) : Keeps true s₀ (schedTake r n s) := by
  unfold Sys2Proof.Machine.schedTake
  split
  rename_i s1 _ e1
  have h1 := Keeps.of_fst e1 (.complete h)
  extract_lets _ s2
  have h2 : Keeps true s₀ s2 := by
    unfold s2
    split
    · exact .updRq h1
    · extract_lets
      exact .coreShow (.bump (.updCore (.updRq h1)))
  exact .ite (.round h2) (.ite (.pass h2) h2)

theorem Keeps.schedDone {n v} (h : Keeps true s₀ s) : Keeps true s₀ (schedDone n v s) := by
  unfold Sys2Proof.Machine.schedDone
  split
  · split
    rename_i s1 _ e1
    have h1 := Keeps.of_fst e1 (.complete h)
    exact .ite (.round h1) h1
  · exact h

theorem Keeps.coreCfgWrite {n v} (h : Keeps true s₀ s) : Keeps true s₀ (coreCfgWrite n v s) := by
  unfold Sys2Proof.Machine.coreCfgWrite
  extract_lets _ _ s1 s2
  have h1 : Keeps true s₀ s1 := .put (.put h)
  have h2 : Keeps true s₀ s2 := .ite (.put h1) (.enumRefused h1)
  exact .ite (.retreat h2) (.ite (.pass h2) h2)

theorem Keeps.setAllow {e} (h : Keeps true s₀ s) : Keeps true s₀ (s.setAllow e) := by
  unfold State.setAllow
  exact .ite h (.round (.put h))

/-! ### The interrupt controller -/

theorem Keeps.hostEvent {e} (h : Keeps m s₀ s) : Keeps m s₀ (s.hostEvent e) := by
  unfold State.hostEvent
  exact .each h fun h => .ite (.putBit h) h

theorem Keeps.setStack {t' l} (h : Keeps m s₀ s) : Keeps m s₀ (s.setStack t' l) := by
  unfold State.setStack
  extract_lets
  exact .put (.put (.others h))

theorem Keeps.unassign {i} (h : Keeps m s₀ s) : Keeps m s₀ (s.unassign i) := by
  unfold State.unassign
  exact .putN h

theorem Keeps.assign {i} (h : Keeps m s₀ s) : Keeps m s₀ (s.assign i) := by
  unfold State.assign
  split
  · split
    exacts [h, .putN (.others h)]
  · exact h

theorem Keeps.wakeExt (h : Keeps m s₀ s) : Keeps m s₀ (s.wakeExt) := by
  unfold State.wakeExt
  exact .each h fun h => by
      extract_lets
      exact .ite (.wake h) h

theorem Keeps.becomePending {i was} (h : Keeps true s₀ s) : Keeps true s₀ (s.becomePending i was) := by
  unfold State.becomePending
  extract_lets s1
  have h1 : Keeps true s₀ s1 := .assign h
  exact .wakeExt (.when h1 fun h => .hwevs h1)

theorem Keeps.srcCount {i} (h : Keeps m s₀ s) : Keeps m s₀ (s.srcCount i) := by
  unfold State.srcCount
  exact .putN h

theorem Keeps.sourceRise {i} (h : Keeps true s₀ s) : Keeps true s₀ (sourceRise i s) := by
  unfold Sys2Proof.Machine.sourceRise
  split
  · extract_lets
    exact .hostEvent (.becomePending (.srcCount (.others h)))
  · exact h

theorem Keeps.sourceFall {i} (h : Keeps m s₀ s) : Keeps m s₀ (sourceFall i s) := by
  unfold Sys2Proof.Machine.sourceFall
  split
  · extract_lets _ s1
    have h1 : Keeps m s₀ s1 := .others h
    exact .ite h1 (.unassign h1)
  · exact h

theorem Keeps.setPend {i} (h : Keeps true s₀ s) : Keeps true s₀ (s.setPend i) := by
  unfold State.setPend
  split
  · extract_lets
    exact .becomePending (.srcCount (.ite (.others h) (.others h)))
  · exact h

theorem Keeps.intcSetpend {w v} (h : Keeps true s₀ s) : Keeps true s₀ (intcSetpend w v s) := by
  unfold Sys2Proof.Machine.intcSetpend
  exact .each h fun h => .setPend h

theorem Keeps.intcPendClear {w v} (h : Keeps m s₀ s) : Keeps m s₀ (intcPendClear w v s) := by
  unfold Sys2Proof.Machine.intcPendClear
  exact .each h fun h => by
      extract_lets _ _ s1
      have h1 : Keeps m s₀ s1 := .ite (.others h) (.others h)
      exact .ite h1 (.unassign h1)

theorem Keeps.srcCfgWrite {i tgt v} (h : Keeps m s₀ s) : Keeps m s₀ (srcCfgWrite i tgt v s) := by
  unfold Sys2Proof.Machine.srcCfgWrite
  extract_lets
  exact .wakeExt (.assign (.unassign (.plainWrite h)))

theorem Keeps.intcClaim {r t'} (h : Keeps m s₀ s) : Keeps m s₀ (intcClaim r t' s) := by
  unfold Sys2Proof.Machine.intcClaim
  extract_lets
  exact .ite (.updRq (.bump h)) (.ite (.updRq h) (.updRq (.setStack (.unassign (.putBit (.others h))))))

theorem Keeps.reassign (h : Keeps m s₀ s) : Keeps m s₀ (s.reassign) := by
  unfold State.reassign
  exact .ite (.each (.each h fun h => .ite (.assign h) h) fun h => .assign h) h

theorem Keeps.intcEoi {t' v} (h : Keeps m s₀ s) : Keeps m s₀ (intcEoi t' v s) := by
  unfold Sys2Proof.Machine.intcEoi
  split
  · split
    · exact .bump h
    · extract_lets s1 s2
      have h1 : Keeps m s₀ s1 := .setStack h
      have h2 : Keeps m s₀ s2 := by
        unfold s2
        split
        exacts [h1, .assign (.putBit h1)]
      exact .wakeExt (.reassign h2)
  · exact h

theorem Keeps.intcPush {t' v} (h : Keeps m s₀ s) : Keeps m s₀ (intcPush t' v s) := by
  unfold Sys2Proof.Machine.intcPush
  extract_lets
  exact .ite (.enumRefused h) (.ite h (.ite (.bump h) (.setStack h)))

/-! ### Site cores -/

theorem Keeps.retire {n} (h : Keeps m s₀ s) : Keeps m s₀ (s.retire n) := by
  unfold State.retire
  exact .updHart h

theorem Keeps.trap {n intr code tval} (h : Keeps m s₀ s) : Keeps m s₀ (s.trap n intr code tval) := by
  unfold State.trap
  exact .coreShow (.updHart h)

theorem Keeps.coreTrap {n intr code tval} (h : Keeps m s₀ s) : Keeps m s₀ (coreTrap n intr code tval s) := by
  unfold Sys2Proof.Machine.coreTrap
  exact .ite (.ite (.ite (.trap h) h) (.ite (.trap h) h)) h

theorem Keeps.coreFastTrap {n mret} (h : Keeps m s₀ s) : Keeps m s₀ (coreFastTrap n mret s) := by
  unfold Sys2Proof.Machine.coreFastTrap
  split
  · split
    · extract_lets
      exact .ite (.trap h) (.updHart h)
    · exact .ite (.updHart (.trap h)) h
  · exact h

theorem Keeps.coreRunWrite {n v} (h : Keeps true s₀ s) : Keeps true s₀ (coreRunWrite n v s) := by
  unfold Sys2Proof.Machine.coreRunWrite
  extract_lets _ s1
  have h1 : Keeps true s₀ s1 := .put h
  exact .ite (.pass (.coreShow (.updHart h1))) (.ite (.coreShow (.retreat (.updHart h1))) h1)

theorem Keeps.coreFence {n pred succ_} (h : Keeps m s₀ s) : Keeps m s₀ (coreFence n pred succ_ s) := by
  unfold Sys2Proof.Machine.coreFence
  exact .ite (.retire h) h

theorem Keeps.coreFenceI {n} (h : Keeps m s₀ s) : Keeps m s₀ (coreFenceI n s) := by
  unfold Sys2Proof.Machine.coreFenceI
  exact .ite (.retire (.updHart h)) h

theorem Keeps.coreAmo {n op dbl rl rd rs1 rs2} (h : Keeps true s₀ s) : Keeps true s₀ (coreAmo n op dbl rl rd rs1 rs2 s) := by
  unfold Sys2Proof.Machine.coreAmo
  extract_lets
  split
  · split
    exacts [.trap h, .ite (.updHart (.dropResv (.wrBytes h))) h]
  · exact h

theorem Keeps.coreLr {n dbl rl rd rs1} (h : Keeps m s₀ s) : Keeps m s₀ (coreLr n dbl rl rd rs1 s) := by
  unfold Sys2Proof.Machine.coreLr
  extract_lets
  split
  · split
    exacts [.trap h, .ite (.updHart h) h]
  · exact h

theorem Keeps.coreSc {n dbl rl rd rs1 rs2} (h : Keeps true s₀ s) : Keeps true s₀ (coreSc n dbl rl rd rs1 rs2 s) := by
  unfold Sys2Proof.Machine.coreSc
  extract_lets
  split
  · split
    exacts [.trap h, .ite (.updHart (.ite (.dropResv (.wrBytes h)) h)) h]
  · exact h

theorem Keeps.coreWfi {n} (h : Keeps m s₀ s) : Keeps m s₀ (coreWfi n s) := by
  unfold Sys2Proof.Machine.coreWfi
  split
  · extract_lets s1
    have h1 : Keeps m s₀ s1 := .retire h
    exact .ite h1 (.coreShow (.updHart h1))
  · exact h

theorem Keeps.timerShow {n} (h : Keeps m s₀ s) : Keeps m s₀ (s.timerShow n) := by
  unfold State.timerShow
  extract_lets _ s1
  have h1 : Keeps m s₀ s1 := .updHart h
  exact .when h1 fun h => .wake h1

theorem Keeps.mtimecmpMatch {n} (h : Keeps m s₀ s) : Keeps m s₀ (mtimecmpMatch n s) := by
  unfold Sys2Proof.Machine.mtimecmpMatch
  exact .timerShow h

/-! ### The Ulten fabric -/

theorem Keeps.sendOn {k m'} (h : Keeps m s₀ s) : Keeps m s₀ (s.sendOn k m') := by
  unfold State.sendOn
  exact .others h

theorem Keeps.sendAll {l m'} (h : Keeps m s₀ s) : Keeps m s₀ (s.sendAll l m') := by
  unfold State.sendAll
  exact .each h fun h => .sendOn h

theorem Keeps.sendTo {m'} (h : Keeps m s₀ s) : Keeps m s₀ (s.sendTo m') := by
  unfold State.sendTo
  split
  exacts [.ite (.sendOn h) h, h, .when h fun h => .bump h]

theorem Keeps.spanCast {n typ blocks} (h : Keeps m s₀ s) : Keeps m s₀ (s.spanCast n typ blocks) := by
  unfold State.spanCast
  extract_lets
  exact .sendAll h

theorem Keeps.passOn {k ttl m'} (h : Keeps m s₀ s) : Keeps m s₀ (s.passOn k ttl m') := by
  unfold State.passOn
  exact .ite h (.sendAll h)

theorem Keeps.spanSend {dest typ blocks} (h : Keeps m s₀ s) : Keeps m s₀ (s.spanSend dest typ blocks) := by
  unfold State.spanSend
  exact .sendTo h

/-! ### Streams -/

theorem Keeps.ledgerRefresh (h : Keeps m s₀ s) : Keeps m s₀ (s.ledgerRefresh) := by
  unfold State.ledgerRefresh
  extract_lets _ _ _ s1
  have h1 : Keeps m s₀ s1 := .put (.put h)
  exact .when h1 fun h => .put h1

theorem Keeps.strmArm {n octets res} (h : Keeps m s₀ s) : Keeps m s₀ (s.strmArm n octets res) := by
  unfold State.strmArm
  extract_lets _ _ _ _ _ _ s1
  have h1 : Keeps m s₀ s1 := .put (.put (.put (.clearRegs h)))
  exact .putN (.updStrm (.putN (.putN (.putN (.putN (.when h1 fun h => .put h1))))))

theorem Keeps.strmDisarm {n} (h : Keeps m s₀ s) : Keeps m s₀ (s.strmDisarm n) := by
  unfold State.strmDisarm
  extract_lets
  exact .ledgerRefresh (.putN (.updStrm (.putN (.putN (.put (.put (.when h fun h => .put h)))))))

theorem Keeps.fillShow {n} (h : Keeps m s₀ s) : Keeps m s₀ (s.fillShow n) := by
  unfold State.fillShow
  exact .putN h

theorem Keeps.fetchIssue {n st} (h : Keeps m s₀ s) : Keeps m s₀ (fetchIssue n st s) := by
  unfold Sys2Proof.Machine.fetchIssue
  extract_lets
  split
  exacts [h, .ite (.updStrm h) h]

theorem Keeps.stagedDue {n} (h : Keeps m s₀ s) : Keeps m s₀ (s.stagedDue n) := by
  unfold State.stagedDue
  exact .each h fun h => .each h fun h => .ite (.updSlot h) h

theorem Keeps.readinessPoint {n} (h : Keeps m s₀ s) : Keeps m s₀ (readinessPoint n s) := by
  unfold Sys2Proof.Machine.readinessPoint
  split
  · extract_lets _ _ s1
    have h1 : Keeps m s₀ s1 := .updStrm (.stagedDue h)
    exact .when h1 fun h => .bump h1
  · exact h

theorem Keeps.primeCheck {n} (h : Keeps m s₀ s) : Keeps m s₀ (s.primeCheck n) := by
  unfold State.primeCheck
  exact .when h fun h => .put h

theorem Keeps.readPieces {n drw pos l} (h : Keeps m s₀ s) :
    Keeps m s₀ (readPieces n drw pos l s).2.2 := by
  induction l generalizing pos s with
  | nil => exact h
  | cons a as ih => exact ih (.eccRead h)

theorem Keeps.fetchComplete {n i ce ue} (h : Keeps m s₀ s) : Keeps m s₀ (fetchComplete n i ce ue s) := by
  unfold Sys2Proof.Machine.fetchComplete
  split
  · exact h
  · extract_lets
    split
    rename_i _ _ s1 e1
    have h1 := Keeps.of_thd e1 (.readPieces (.addErrs h))
    extract_lets s2 _ _ s3
    have h2 : Keeps m s₀ s2 := .updStrm h1
    have h3 : Keeps m s₀ s3 := .addSat h2
    exact .ite (.primeCheck (.fillShow (.when h3 fun h => .updStrm h3))) h2

theorem Keeps.ledgerPctWrite {v} (h : Keeps m s₀ s) : Keeps m s₀ (ledgerPctWrite v s) := by
  unfold Sys2Proof.Machine.ledgerPctWrite
  exact .ledgerRefresh (.plainWrite h)

/-! ### Timing sets -/

theorem Keeps.markEnt {c t'} (h : Keeps m s₀ s) : Keeps m s₀ (s.markEnt c t') := by
  unfold State.markEnt
  exact .putBit (.others h)

theorem Keeps.markPer {n t'} (h : Keeps m s₀ s) : Keeps m s₀ (s.markPer n t') := by
  unfold State.markPer
  exact .putBit (.others h)

theorem Keeps.tsetWpDrop (h : Keeps m s₀ s) : Keeps m s₀ (s.tsetWpDrop) := by
  unfold State.tsetWpDrop
  exact .put (.bump h)

theorem Keeps.write4 {c t' w v} (h : Keeps m s₀ s) : Keeps m s₀ (s.write4 c t' w v) := by
  unfold State.write4
  extract_lets
  exact .ite (.ite (.setWord h) (.enumRefused (.setWord h))) (.ite (.setWord h) (.setWord h))

theorem Keeps.tsetEntryWrite {c t' w v} (h : Keeps m s₀ s) : Keeps m s₀ (tsetEntryWrite c t' w v s) := by
  unfold Sys2Proof.Machine.tsetEntryWrite
  split
  · exact h
  · split
    · exact .tsetWpDrop h
    · extract_lets
      exact .markEnt (.ite (.write4 h) (.plainWrite h))

theorem Keeps.tsetPerWrite {n t' lo hi} (h : Keeps m s₀ s) : Keeps m s₀ (tsetPerWrite n t' lo hi s) := by
  unfold Sys2Proof.Machine.tsetPerWrite
  exact .ite (.tsetWpDrop h) (.markPer (.setWord (.setWord h)))

theorem Keeps.tsetCmd {op tag t'} (h : Keeps m s₀ s) : Keeps m s₀ (tsetCmd op tag t' s) := by
  unfold Sys2Proof.Machine.tsetCmd
  split
  · exact .put (.bump h)
  · extract_lets
    exact .others (.put (.put (.put h)))

theorem Keeps.replaceSlot {k i} (h : Keeps m s₀ s) : Keeps m s₀ (s.replaceSlot k i) := by
  unfold State.replaceSlot
  split
  · extract_lets
    exact .put (.put (.put (.updSlot h)))
  · exact h

theorem Keeps.replaceStaged {n f} (h : Keeps m s₀ s) : Keeps m s₀ (s.replaceStaged n f) := by
  unfold State.replaceStaged
  exact .each h fun h => .each h fun h => .ite (.replaceSlot h) h

theorem Keeps.stageSlot {t' k i} (h : Keeps m s₀ s) : Keeps m s₀ (s.stageSlot t' k i) := by
  unfold State.stageSlot
  split
  · extract_lets _ _ _ _ _ s1
    have h1 : Keeps m s₀ s1 := .put (.updSlot h)
    exact .ite h1 (.replaceSlot h1)
  · exact h

theorem Keeps.tsetCommitted {t'} (h : Keeps m s₀ s) : Keeps m s₀ (s.tsetCommitted t') := by
  unfold State.tsetCommitted
  extract_lets
  exact .each (.wrapInc (.putBit (.others h))) fun h => .each h fun h => .stageSlot h

theorem Keeps.tsetDone (h : Keeps m s₀ s) : Keeps m s₀ (tsetDone s) := by
  unfold Sys2Proof.Machine.tsetDone
  split
  · extract_lets _ s1
    have h1 : Keeps m s₀ s1 := .put (.put h)
    split
    · split
      exacts [.putN (.put h1), .tsetCommitted (.put h1)]
    · exact .put h1
  · exact h

theorem Keeps.touchSlot {k i} (h : Keeps m s₀ s) : Keeps m s₀ (s.touchSlot k i) := by
  unfold State.touchSlot
  extract_lets
  exact .updSlot (.others h)

theorem Keeps.setLoads {k l} (h : Keeps m s₀ s) : Keeps m s₀ (s.setLoads k l) := by
  unfold State.setLoads
  exact .others h

theorem Keeps.requestSet {n t'} (h : Keeps m s₀ s) : Keeps m s₀ (s.requestSet n t') := by
  unfold State.requestSet
  exact .each h fun h => .ite h (.setLoads h)

theorem Keeps.ecLoadDone {k} (h : Keeps m s₀ s) : Keeps m s₀ (ecLoadDone k s) := by
  unfold Sys2Proof.Machine.ecLoadDone
  split
  · exact h
  · split
    · exact h
    · extract_lets _ _ s1 s2
      have h1 : Keeps m s₀ s1 := .bump (.setLoads h)
      have h2 : Keeps m s₀ s2 := .when h1 fun h => .bump h1
      exact .primeCheck (.touchSlot (.updSlot (.putN (.when h2 fun h => .put (.bump h2)))))

theorem Keeps.emptySlots {k l} (h : Keeps m s₀ s) : Keeps m s₀ (s.emptySlots k l) := by
  unfold State.emptySlots
  exact .each h fun h => .updSlot (.putN h)

theorem Keeps.moveSlot {k i j} (h : Keeps m s₀ s) : Keeps m s₀ (s.moveSlot k i j) := by
  unfold State.moveSlot
  extract_lets
  exact .emptySlots (.updSlot (.setWord h))

theorem Keeps.cedeSlot {k m' kept i} (h : Keeps m s₀ s) : Keeps m s₀ (s.cedeSlot k m' kept i) := by
  unfold State.cedeSlot
  split
  · exact .moveSlot h
  · split
    · split
      exacts [.moveSlot h, h]
    · exact .emptySlots h

theorem Keeps.splitCache {k m' n h'} (h : Keeps m s₀ s) : Keeps m s₀ (s.splitCache k m' n h') := by
  unfold State.splitCache
  extract_lets
  exact .each (.putN (.emptySlots (.each h fun h => .cedeSlot h))) fun h => .ite h (.setLoads h)

theorem Keeps.ecArm {n octs} (h : Keeps m s₀ s) : Keeps m s₀ (s.ecArm n octs) := by
  unfold State.ecArm
  exact .each h fun h => by
      extract_lets
      split
      exacts [.splitCache h, .putN (.emptySlots h)]

theorem Keeps.ecDisarm {n} (h : Keeps m s₀ s) : Keeps m s₀ (s.ecDisarm n) := by
  unfold State.ecDisarm
  exact .each h fun h => by
      extract_lets s1
      have h1 : Keeps m s₀ s1 := .setLoads (.emptySlots h)
      split
      exacts [.putN h1, .putN h1]

/-! ### The charge of a site -/

theorem Keeps.updGov {n f} (h : Keeps m s₀ s) : Keeps m s₀ (s.updGov n f) := by
  unfold State.updGov
  exact .others h

theorem Keeps.chargedShow (h : Keeps m s₀ s) : Keeps m s₀ (s.chargedShow) := by
  unfold State.chargedShow
  extract_lets
  exact .put (.putN h)

theorem Keeps.setCharge {n v} (h : Keeps m s₀ s) : Keeps m s₀ (s.setCharge n v) := by
  unfold State.setCharge
  exact .chargedShow (.putN (.updGov h))

theorem Keeps.chargeRaise {n} (h : Keeps m s₀ s) : Keeps m s₀ (s.chargeRaise n) := by
  unfold State.chargeRaise
  extract_lets
  exact .ite (.put (.setCharge h)) h

theorem Keeps.chargeDrawer {n e} (h : Keeps m s₀ s) : Keeps m s₀ (s.chargeDrawer n e) := by
  unfold State.chargeDrawer
  exact .chargeRaise (.updGov h)

theorem Keeps.chargeRelease {n} (h : Keeps m s₀ s) : Keeps m s₀ (s.chargeRelease n) := by
  unfold State.chargeRelease
  extract_lets
  exact .put (.setCharge (.others h))

/-! ### Pin electronics -/

theorem Keeps.startSettle {c t'} (h : Keeps m s₀ s) : Keeps m s₀ (s.startSettle c t') := by
  unfold State.startSettle
  exact .updChan h

theorem Keeps.settleEnd {c} (h : Keeps m s₀ s) : Keeps m s₀ (settleEnd c s) := by
  unfold Sys2Proof.Machine.settleEnd
  split
  exacts [h, .updChan h]

theorem Keeps.applyLevels {c ws} (h : Keeps m s₀ s) : Keeps m s₀ (s.applyLevels c ws) := by
  unfold State.applyLevels
  extract_lets _ _ _ s1
  have h1 : Keeps m s₀ s1 := .put h
  exact .when h1 fun h => .put (.addSat h1)

theorem Keeps.setLevels {c ls t'} (h : Keeps m s₀ s) : Keeps m s₀ (s.setLevels c ls t') := by
  unfold State.setLevels
  exact .startSettle (.applyLevels (.updChan h))

theorem Keeps.levelWrite {c t' w v} (h : Keeps m s₀ s) : Keeps m s₀ (levelWrite c t' w v s) := by
  unfold Sys2Proof.Machine.levelWrite
  extract_lets _ s1
  have h1 : Keeps m s₀ s1 := .plainWrite h
  exact .when h1 fun h => .startSettle (.applyLevels h1)

theorem Keeps.bankMeas {k mv} (h : Keeps m s₀ s) : Keeps m s₀ (s.bankMeas k mv) := by
  unfold State.bankMeas
  exact .put (.put h)

theorem Keeps.cluDrop {k} (h : Keeps m s₀ s) : Keeps m s₀ (s.cluDrop k) := by
  unfold State.cluDrop
  exact .put (.bump h)

theorem Keeps.bankVnomWrite {k v} (h : Keeps m s₀ s) : Keeps m s₀ (bankVnomWrite k v s) := by
  unfold Sys2Proof.Machine.bankVnomWrite
  split
  · exact .cluDrop h
  · extract_lets _ s1
    have h1 : Keeps m s₀ s1 := .plainWrite h
    exact .when h1 fun h => .put h1

theorem Keeps.bankOut {k mv} (h : Keeps m s₀ s) : Keeps m s₀ (bankOut k mv s) := by
  unfold Sys2Proof.Machine.bankOut
  extract_lets s1
  have h1 : Keeps m s₀ s1 := .bankMeas h
  exact .ite (.tdcNote (.invalidateAll (.bump (.put (.put h1))))) h1

theorem Keeps.bankBack {k mv} (h : Keeps m s₀ s) : Keeps m s₀ (bankBack k mv s) := by
  unfold Sys2Proof.Machine.bankBack
  extract_lets s1
  have h1 : Keeps m s₀ s1 := .bankMeas h
  exact .ite (.each (.put h1) fun h => .startSettle h) h1

theorem Keeps.ocpDetect {c} (h : Keeps m s₀ s) : Keeps m s₀ (ocpDetect c s) := by
  unfold Sys2Proof.Machine.ocpDetect
  exact .put (.put h)

theorem Keeps.ppmuCtrlWrite {k j v} (h : Keeps m s₀ s) : Keeps m s₀ (ppmuCtrlWrite k j v s) := by
  unfold Sys2Proof.Machine.ppmuCtrlWrite
  extract_lets _ s1
  have h1 : Keeps m s₀ s1 := .put h
  exact .ite (.cluDrop h) (.ite (.enumRefused h1) (.put h1))

theorem Keeps.ppmuForceWrite {k j v} (h : Keeps m s₀ s) : Keeps m s₀ (ppmuForceWrite k j v s) := by
  unfold Sys2Proof.Machine.ppmuForceWrite
  exact .ite (.enumRefused h) (.put h)

theorem Keeps.ppmuVclampWrite {k j v} (h : Keeps m s₀ s) : Keeps m s₀ (ppmuVclampWrite k j v s) := by
  unfold Sys2Proof.Machine.ppmuVclampWrite
  extract_lets _ _ _ _ s1
  have h1 : Keeps m s₀ s1 := .when (.when h fun h => .enumRefused h) fun h => .enumRefused h
  exact .ite (.enumRefused h1) (.put (.put h1))

theorem Keeps.ppmuLimit {k j} (h : Keeps m s₀ s) : Keeps m s₀ (ppmuLimit k j s) := by
  unfold Sys2Proof.Machine.ppmuLimit
  split
  · exact h
  · extract_lets
    exact .put (.others h)

theorem Keeps.mcNext {k cur} (h : Keeps m s₀ s) : Keeps m s₀ (s.mcNext k cur) := by
  unfold State.mcNext
  extract_lets _ x1 x2 s1
  have h1 : Keeps m s₀ s1 := .when h fun h => .wrapInc h
  clear_value x2
  clear_value x1
  split
  exacts [.put (.put h1), .put (.put h1), .put h1]

theorem Keeps.mcCtrlWrite {k v} (h : Keeps m s₀ s) : Keeps m s₀ (s.mcCtrlWrite k v) := by
  unfold State.mcCtrlWrite
  extract_lets s1
  have h1 : Keeps m s₀ s1 := .plainWrite h
  exact .ite h1 (.mcNext h1)

theorem Keeps.mcSliceEnd {k conv} (h : Keeps m s₀ s) : Keeps m s₀ (mcSliceEnd k conv s) := by
  unfold Sys2Proof.Machine.mcSliceEnd
  split
  · extract_lets _ _ _ _ s1
    have h1 : Keeps m s₀ s1 := .others (.wrapInc (.put (.put h)))
    exact .ite (.put (.put h1)) (.mcNext h1)
  · exact h

theorem Keeps.collide {n c k} (h : Keeps m s₀ s) : Keeps m s₀ (s.collide n c k) := by
  unfold State.collide
  split
  · exact h
  · extract_lets s1
    have h1 : Keeps m s₀ s1 := .addSat (.addSat h)
    exact .ite (.invalidate (.put (.put h1))) h1

theorem Keeps.fireChan {n c t'} (h : Keeps m s₀ s) : Keeps m s₀ (s.fireChan n c t') := by
  unfold State.fireChan
  extract_lets
  exact .collide (.updChan h)

theorem Keeps.fireSite {n t'} (h : Keeps m s₀ s) : Keeps m s₀ (s.fireSite n t') := by
  unfold State.fireSite
  exact .each h fun h => .fireChan h

theorem Keeps.queueEdges {n g} (h : Keeps m s₀ s) : Keeps m s₀ (s.queueEdges n g) := by
  unfold State.queueEdges
  extract_lets
  exact .each h fun h => by
      extract_lets
      exact .each h fun h => by
          extract_lets
          exact .ite h (.updChan h)

/-! ### Compares, capture and the trigger sequencer -/

theorem Keeps.stageFail {n rec_} (h : Keeps m s₀ s) : Keeps m s₀ (s.stageFail n rec_) := by
  unfold State.stageFail
  extract_lets
  exact .ite (.updCapt (.when (.bump (.when h fun h => .put (.put h))) fun h => .put h)) (.updCapt h)

theorem Keeps.failRecordWrite {n} (h : Keeps true s₀ s) : Keeps true s₀ (failRecordWrite n s) := by
  unfold Sys2Proof.Machine.failRecordWrite
  extract_lets
  split
  · exact h
  · extract_lets _ s1
    have h1 : Keeps true s₀ s1 := .putN (.updCapt (.wrBytes h))
    exact .when h1 fun h => .put (.put h1)

theorem Keeps.capture {n vnum ttag rec_} (h : Keeps m s₀ s) : Keeps m s₀ (s.capture n vnum ttag rec_) := by
  unfold State.capture
  extract_lets
  exact .ite h (.ite (.bump h) (.ite (.bump (.put (.put (.updCapt h)))) (.updCapt h)))

theorem Keeps.captMark {n vnum ttag tag src} (h : Keeps m s₀ s) : Keeps m s₀ (s.captMark n vnum ttag tag src) := by
  unfold State.captMark
  exact .capture h

theorem Keeps.captRecordWrite {n} (h : Keeps true s₀ s) : Keeps true s₀ (captRecordWrite n s) := by
  unfold Sys2Proof.Machine.captRecordWrite
  extract_lets
  split
  · exact h
  · extract_lets _ s1
    have h1 : Keeps true s₀ s1 := .bump (.updCapt (.wrBytes h))
    exact .when h1 fun h => .putN h1

theorem Keeps.copyBlock {n} (h : Keeps true s₀ s) : Keeps true s₀ (s.copyBlock n) := by
  unfold State.copyBlock
  extract_lets
  exact .addSat (.updCapt (.wrBytes h))

theorem Keeps.spillBlockCopy {n} (h : Keeps true s₀ s) : Keeps true s₀ (spillBlockCopy n s) := by
  unfold Sys2Proof.Machine.spillBlockCopy
  extract_lets
  exact .ite (.copyBlock h) h

theorem Keeps.spillFlush {n} (h : Keeps true s₀ s) : Keeps true s₀ (spillFlush n s) := by
  unfold Sys2Proof.Machine.spillFlush
  extract_lets
  exact .ite (.put (.ite h (.copyBlock (.updCapt (.addSat (.each h fun h => .wrBytes h)))))) h

theorem Keeps.siteDone {n} (h : Keeps m s₀ s) : Keeps m s₀ (siteDone n s) := by
  unfold Sys2Proof.Machine.siteDone
  extract_lets
  exact .ite (.put (.putBit (.updCapt h))) h

theorem Keeps.takeSamples {l} (h : Keeps m s₀ s) : Keeps m s₀ (s.takeSamples l).1 :=
  .foldl_acc Prod.fst h fun {y _} h => by
    obtain ⟨t, ch, cs⟩ := y
    exact .fst_mk (.updChan h)

theorem Keeps.dataRecs {n h2 l changed} (h : Keeps m s₀ s) : Keeps m s₀ (s.dataRecs n h2 l changed) := by
  unfold State.dataRecs
  extract_lets
  exact .each h fun h => by
      extract_lets
      exact .ite h (.capture h)

theorem Keeps.startRecs {n l} (h : Keeps m s₀ s) : Keeps m s₀ (s.startRecs n l) := by
  unfold State.startRecs
  extract_lets
  exact .each h fun h => by
      extract_lets
      exact .each (.capture h) fun h => .ite (.updChan h) h

theorem Keeps.evalCapture {n} (h : Keeps m s₀ s) : Keeps m s₀ (s.evalCapture n) := by
  unfold State.evalCapture
  extract_lets _ s1 _ s2
  have h1 : Keeps m s₀ s1 := by
    unfold s1
    split
    exacts [.put h, h]
  have h2 : Keeps m s₀ s2 := by
    unfold s2
    split
    exacts [.capture h1, h1]
  split
  rename_i s3 _ _ e3
  have h3 := Keeps.of_fst e3 (.takeSamples (.when h2 fun h => .startRecs h2))
  extract_lets
  split
  rename_i s4 _ _ e4
  have h4 := Keeps.of_fst e4 (.takeSamples (.when h3 fun h => .dataRecs h3))
  extract_lets
  exact .updCapt (.put (.each (.when h4 fun h => .dataRecs h4) fun h => .captMark h))

theorem Keeps.evalTimer {n k} (h : Keeps m s₀ s) : Keeps m s₀ (s.evalTimer n k) := by
  unfold State.evalTimer
  extract_lets
  split
  · exact .putBit (.updCapt h)
  · split
    exacts [.updCapt h, h]

theorem Keeps.evalCounter {n j} (h : Keeps m s₀ s) : Keeps m s₀ (s.evalCounter n j) := by
  unfold State.evalCounter
  extract_lets
  exact .updCapt (.when h fun h => .bump h)

theorem Keeps.evalStep2 {n} (h : Keeps m s₀ s) : Keeps m s₀ (s.evalStep2 n) := by
  unfold State.evalStep2
  split
  · extract_lets
    exact .updCapt (.each (.each (.evalCapture h) fun h => .evalTimer h) fun h => .evalCounter h)
  · exact h

theorem Keeps.evalStep3 {n} (h : Keeps m s₀ s) : Keeps m s₀ (s.evalStep3 n) := by
  unfold State.evalStep3
  extract_lets s1
  have h1 : Keeps m s₀ s1 := .evalStep2 h
  exact .ite (.updCapt h1) h1

theorem Keeps.trigActions {n st act} (h : Keeps m s₀ s) : Keeps m s₀ (s.trigActions n st act) := by
  unfold State.trigActions
  extract_lets _ s1 s2
  have h1 : Keeps m s₀ s1 := .ite (.put h) (.when h fun h => .put h)
  have h2 : Keeps m s₀ s2 := .when h1 fun h => .captMark h1
  exact .each (.when h2 fun h => .put h2) fun h => by
      extract_lets s3
      have h3 : Keeps m s₀ s3 := .when h fun h => .putN h
      exact .ite (.putBit (.updCapt h3)) (.ite (.putBit (.updCapt h3)) h3)

theorem Keeps.trigEnter {n st} (h : Keeps m s₀ s) : Keeps m s₀ (s.trigEnter n st) := by
  unfold State.trigEnter
  exact .updCapt (.put h)

theorem Keeps.captFinish {n} (h : Keeps m s₀ s) : Keeps m s₀ (s.captFinish n) := by
  unfold State.captFinish
  extract_lets
  split
  · exact h
  · split
    · extract_lets s1
      have h1 : Keeps m s₀ s1 := .each h fun h => .captMark h
      exact .put (.updCapt (.when h1 fun h => .capture h1))
    · exact h

theorem Keeps.triggerEvaluate {n} (h : Keeps m s₀ s) : Keeps m s₀ (triggerEvaluate n s) := by
  unfold Sys2Proof.Machine.triggerEvaluate
  split
  · extract_lets s1 _ _ _ _ _ _ s2
    have h1 : Keeps m s₀ s1 := .evalStep3 h
    have h2 : Keeps m s₀ s2 := .ite (.trigEnter (.trigActions h1)) (.ite (.trigEnter (.trigActions h1)) h1)
    exact .captFinish (.updCapt (.when h2 fun h => .updCapt (.capture h2)))
  · exact h

theorem Keeps.timerExpire {n k} (h : Keeps m s₀ s) : Keeps m s₀ (timerExpire n k s) := by
  unfold Sys2Proof.Machine.timerExpire
  extract_lets
  exact .ite (.evalTimer h) h

theorem Keeps.counterDone {n k} (h : Keeps m s₀ s) : Keeps m s₀ (counterDone n k s) := by
  unfold Sys2Proof.Machine.counterDone
  extract_lets
  exact .ite (.evalStep2 h) h

theorem Keeps.holdoffEnd {n} (h : Keeps m s₀ s) : Keeps m s₀ (holdoffEnd n s) := by
  unfold Sys2Proof.Machine.holdoffEnd
  extract_lets
  exact .ite (.evalStep3 h) h

theorem Keeps.unsettled {n c} (h : Keeps m s₀ s) : Keeps m s₀ (s.unsettled n c) := by
  unfold State.unsettled
  exact .invalidate (.put (.bump h))

theorem Keeps.writeResults {n g v l} (h : Keeps true s₀ s) : Keeps true s₀ (s.writeResults n g v l) := by
  unfold State.writeResults
  split
  · extract_lets
    exact .each h fun h => by
        split
        · exact h
        · extract_lets
          exact .wrBytes h
  · exact h

theorem Keeps.failRecs {n g v l} (h : Keeps m s₀ s) : Keeps m s₀ (s.failRecs n g v l) := by
  unfold State.failRecs
  extract_lets
  exact .each h fun h => by
      extract_lets
      exact .ite h (.stageFail h)

theorem Keeps.failVector {n vec} (h : Keeps m s₀ s) : Keeps m s₀ (s.failVector n vec) := by
  unfold State.failVector
  extract_lets _ s1 _ s2
  have h1 : Keeps m s₀ s1 := .bump h
  have h2 : Keeps m s₀ s2 := .putBit (.putBit (.when h1 fun h => .put (.putN (.putN h1))))
  exact .when h2 fun h => .putFlag h2

theorem Keeps.sendFlags {n vec} (h : Keeps m s₀ s) : Keeps m s₀ (s.sendFlags n vec) := by
  unfold State.sendFlags
  extract_lets
  exact .each (.updPlay h) fun h => .spanCast h

theorem Keeps.vectorResult {n obs} (h : Keeps true s₀ s) : Keeps true s₀ (vectorResult n obs s) := by
  unfold Sys2Proof.Machine.vectorResult
  split
  · exact h
  · extract_lets _ _ _ _ _ _ _ _ _ _ s1 _ _ _ _ _ _ s2
    have h1 : Keeps true s₀ s1 := .each (.each (.each (.addSat (.triggerEvaluate h)) fun h => .ite (.unsettled h) h)
        fun h => .ite (.bump h) h) fun h => .each h fun h => by
        extract_lets
        exact .ite (.bump h) h
    have h2 : Keeps true s₀ s2 := .when h1 fun h => .failRecs (.failVector h1)
    exact .ite h (.updCapt (.sendFlags (.updPlay (.writeResults (.when h2 fun h => .putFlag h2)))))

theorem Keeps.captArm {n} (h : Keeps m s₀ s) : Keeps m s₀ (s.captArm n) := by
  unfold State.captArm
  extract_lets
  exact .updCapt (.each (.putN (.putN (.clearRegs h))) fun h => .updChan (.setWord h))

/-! ### The host interface -/

theorem Keeps.configRequest {reg wr} (h : Keeps m s₀ s) : Keeps m s₀ (configRequest reg wr s) := by
  unfold Sys2Proof.Machine.configRequest
  extract_lets
  split
  · exact .others h
  · split
    · extract_lets
      exact .others (.ite h (.others h))
    · exact .others h

theorem Keeps.dmaAbandon {e} (h : Keeps m s₀ s) : Keeps m s₀ (s.dmaAbandon e) := by
  unfold State.dmaAbandon
  exact .put (.updDma h)

theorem Keeps.endpointReset (h : Keeps m s₀ s) : Keeps m s₀ (s.endpointReset) := by
  unfold State.endpointReset
  extract_lets
  exact .put (.putN (.putN (.each (.each h fun h => .dmaAbandon (.put h)) fun h => .each h fun h => .setWord h)))

theorem Keeps.linkDown (h : Keeps m s₀ s) : Keeps m s₀ (s.linkDown) := by
  unfold State.linkDown
  exact .putN h

theorem Keeps.pcieReset {down} (h : Keeps m s₀ s) : Keeps m s₀ (pcieReset down s) := by
  unfold Sys2Proof.Machine.pcieReset
  exact .when (.endpointReset h) fun h => .linkDown h

theorem Keeps.pciePerst {low} (h : Keeps m s₀ s) : Keeps m s₀ (pciePerst low s) := by
  unfold Sys2Proof.Machine.pciePerst
  extract_lets _ s1
  have h1 : Keeps m s₀ s1 := .others h
  exact .when h1 fun h => .linkDown (.endpointReset h1)

theorem Keeps.pcieLinkUp {width speed} (h : Keeps m s₀ s) : Keeps m s₀ (pcieLinkUp width speed s) := by
  unfold Sys2Proof.Machine.pcieLinkUp
  exact .ite (.put (.put (.put h))) h

theorem Keeps.cplErr (h : Keeps m s₀ s) : Keeps m s₀ (s.cplErr) := by
  unfold State.cplErr
  exact .put (.bump h)

theorem Keeps.msixSend {v} (h : Keeps m s₀ s) : Keeps m s₀ (msixSend v s) := by
  unfold Sys2Proof.Machine.msixSend
  split
  · extract_lets
    exact .putBit (.others h)
  · exact h

theorem Keeps.dmaAbort {e} (h : Keeps m s₀ s) : Keeps m s₀ (dmaAbort e s) := by
  unfold Sys2Proof.Machine.dmaAbort
  exact .dmaAbandon (.put h)

theorem Keeps.dmaEnableWrite {e v} (h : Keeps m s₀ s) : Keeps m s₀ (dmaEnableWrite e v s) := by
  unfold Sys2Proof.Machine.dmaEnableWrite
  extract_lets _ s1
  have h1 : Keeps m s₀ s1 := .plainWrite h
  exact .ite (.dmaAbort h1) (.ite (.updDma h1) h1)

theorem Keeps.dmaTailWrite {e v} (h : Keeps m s₀ s) : Keeps m s₀ (dmaTailWrite e v s) := by
  unfold Sys2Proof.Machine.dmaTailWrite
  exact .plainWrite h

theorem Keeps.dmaFetch {e l ok} (h : Keeps m s₀ s) : Keeps m s₀ (dmaFetch e l ok s) := by
  unfold Sys2Proof.Machine.dmaFetch
  split
  · extract_lets
    exact .put (.updDma (.when (.others h) fun h => .cplErr h))
  · exact h

theorem Keeps.dmaMoved {e conds acks} (h : Keeps m s₀ s) : Keeps m s₀ (s.dmaMoved e conds acks) := by
  unfold State.dmaMoved
  exact .updDma h

theorem Keeps.dmaAckTimeout {e} (h : Keeps m s₀ s) : Keeps m s₀ (dmaAckTimeout e s) := by
  unfold Sys2Proof.Machine.dmaAckTimeout
  exact .ite h (.updDma h)

theorem Keeps.dmaEvent {e bits} (h : Keeps m s₀ s) : Keeps m s₀ (s.dmaEvent e bits) := by
  unfold State.dmaEvent
  extract_lets _ s1
  have h1 : Keeps m s₀ s1 := .putN h
  exact .when h1 fun h => .hostEvent h1

theorem Keeps.dmaDone {e} (h : Keeps m s₀ s) : Keeps m s₀ (dmaDone e s) := by
  unfold Sys2Proof.Machine.dmaDone
  extract_lets _ _ _ _ _ _ _ _ s1
  have h1 : Keeps m s₀ s1 := .bump (.put (.put (.dmaAbandon (.others h))))
  split
  · exact h
  · split
    · extract_lets s2
      have h2 : Keeps m s₀ s2 := .dmaEvent (.when h1 fun h => .put (.bump h1))
      exact .when h2 fun h => .put h2
    · exact h

theorem Keeps.mbxChange {k} {f : State → State} (h : Keeps m s₀ s)
    (hf : ∀ {t}, Keeps m s₀ t → Keeps m s₀ (f t)) : Keeps m s₀ (s.mbxChange k f) := by
  unfold State.mbxChange
  exact .when (hf h) fun h => .hostEvent h

theorem Keeps.mbxTimer {m'} (h : Keeps m s₀ s) : Keeps m s₀ (s.mbxTimer m') := by
  unfold State.mbxTimer
  extract_lets
  exact .updMbx h

theorem Keeps.mbxPosted {r m'} (h : Keeps m s₀ s) : Keeps m s₀ (s.mbxPosted r m') := by
  unfold State.mbxPosted
  exact .mbxChange h (fun h => by
      extract_lets _ _ s1
      have h1 : Keeps m s₀ s1 := .mbxTimer (.put (.put (.put h)))
      exact .when h1 fun h => .bump (.put h1))

theorem Keeps.mbxPost {r m' v} (h : Keeps m s₀ s) : Keeps m s₀ (mbxPost r m' v s) := by
  unfold Sys2Proof.Machine.mbxPost
  extract_lets
  exact .mbxPosted (.updRq (.setWord (.setWord h)))

theorem Keeps.mbxTake {r m'} (h : Keeps m s₀ s) : Keeps m s₀ (mbxTake r m' s) := by
  unfold Sys2Proof.Machine.mbxTake
  extract_lets _ _ s1
  have h1 : Keeps m s₀ s1 := .updRq h
  exact .ite (.put (.put (.updMbx (.put h1)))) h1

theorem Keeps.mbxTimeout {m'} (h : Keeps m s₀ s) : Keeps m s₀ (mbxTimeout m' s) := by
  unfold Sys2Proof.Machine.mbxTimeout
  exact .ite (.mbxChange h (fun h => by
      extract_lets
      exact .bump (.put (.updMbx h)))) h

theorem Keeps.mbxAck {r m' v} (h : Keeps m s₀ s) : Keeps m s₀ (mbxAck r m' v s) := by
  unfold Sys2Proof.Machine.mbxAck
  exact .ite (.mbxChange h (fun h => by
      extract_lets
      exact .put (.updMbx (.put (.put h))))) (.bump h)

theorem Keeps.mbxCfgWrite {m' v} (h : Keeps m s₀ s) : Keeps m s₀ (s.mbxCfgWrite m' v) := by
  unfold State.mbxCfgWrite
  exact .mbxChange h (fun h => .plainWrite h)

theorem Keeps.dbH2dSet {w v} (h : Keeps m s₀ s) : Keeps m s₀ (dbH2dSet w v s) := by
  unfold Sys2Proof.Machine.dbH2dSet
  exact .setWord h

theorem Keeps.dbH2dClr {w v} (h : Keeps m s₀ s) : Keeps m s₀ (dbH2dClr w v s) := by
  unfold Sys2Proof.Machine.dbH2dClr
  exact .setWord h

theorem Keeps.doorbell {b} (h : Keeps m s₀ s) : Keeps m s₀ (s.doorbell b) := by
  unfold State.doorbell
  extract_lets
  exact .when (.putBit h) fun h => .hostEvent h

theorem Keeps.dbD2hSet {w v} (h : Keeps m s₀ s) : Keeps m s₀ (dbD2hSet w v s) := by
  unfold Sys2Proof.Machine.dbD2hSet
  exact .each h fun h => .doorbell h

theorem Keeps.dbD2hClr {w v} (h : Keeps m s₀ s) : Keeps m s₀ (dbD2hClr w v s) := by
  unfold Sys2Proof.Machine.dbD2hClr
  exact .setWord h

/-! ### Run-ahead -/

theorem Keeps.putPath {n p x} (h : Keeps m s₀ s) : Keeps m s₀ (s.putPath n p x) := by
  unfold State.putPath
  exact .updSeq h

theorem Keeps.charge {n k} (h : Keeps m s₀ s) : Keeps m s₀ (s.charge n k) := by
  unfold State.charge
  exact .updEng h

theorem Keeps.contextSwitch {e} (h : Keeps m s₀ s) : Keeps m s₀ (contextSwitch e s) := by
  unfold Sys2Proof.Machine.contextSwitch
  extract_lets
  split
  · exact h
  · extract_lets
    exact .ite (.updEng h) h

theorem Keeps.seqShow {n} (h : Keeps m s₀ s) : Keeps m s₀ (s.seqShow n) := by
  unfold State.seqShow
  extract_lets
  exact .putN (.putN (.putN h))

theorem Keeps.leave {n p x} (h : Keeps m s₀ s) : Keeps m s₀ (s.leave n p x) := by
  unfold State.leave
  extract_lets
  exact .primeCheck (.seqShow (.putPath (.when h fun h => .requestSet h)))

theorem Keeps.seqFault {n p x code poison} (h : Keeps m s₀ s) : Keeps m s₀ (s.seqFault n p x code poison) := by
  unfold State.seqFault
  exact .leave h

theorem Keeps.select {n p x id ok stall} (h : Keeps m s₀ s) : Keeps m s₀ (s.select n p x id ok stall) := by
  unfold State.select
  split
  · exact .seqFault h
  · split
    · exact .leave h
    · split
      · extract_lets
        exact .when (.leave h) fun h => .bump h
      · extract_lets
        exact .leave (.updSeq h)

theorem Keeps.enter {n p x id goff} (h : Keeps m s₀ s) : Keeps m s₀ (s.enter n p x id goff) := by
  unfold State.enter
  exact .select h

theorem Keeps.goBack {n p x id idx cursor} (h : Keeps m s₀ s) : Keeps m s₀ (s.goBack n p x id idx cursor) := by
  unfold State.goBack
  exact .ite (.leave h) (.select h)

theorem Keeps.newStrm {n} (h : Keeps m s₀ s) : Keeps m s₀ (s.newStrm n).2 := by
  unfold State.newStrm
  extract_lets
  exact .snd_mk (.updStrm (.updSeq h))

theorem Keeps.prefetch {n key x} (h : Keeps m s₀ s) : Keeps m s₀ (s.prefetch n key x) := by
  unfold State.prefetch
  extract_lets
  split
  · exact h
  · split
    rename_i _ s1 e1
    have h1 := Keeps.of_snd e1 (.newStrm h)
    extract_lets _ s2
    have h2 : Keeps m s₀ s2 := .updSeq h1
    split
    exacts [.enter h2, .leave h2]

/-- An instruction keeps what its effect keeps: before it come the cycles of the engine and the count of executions. -/
theorem Keeps.seqInstr {ok run n p parity}
    (h : Keeps m s₀ s) (hr : ∀ {x w t}, Keeps m s₀ t → Keeps m s₀ (run n p x w t)) :
    Keeps m s₀ (seqInstr ok run n p parity s) := by
  unfold Sys2Proof.Machine.seqInstr
  split
  · exact h
  · split
    · exact h
    · split
      · extract_lets s1 x s2
        have h2 : Keeps m s₀ s2 := .updSeq (.charge h)
        split
        · exact .seqFault (.put (.bump h2))
        · split
          · exact .seqFault h2
          · exact hr h2
      · exact h

theorem Keeps.undefinedOpcode {n p} (h : Keeps m s₀ s) : Keeps m s₀ (undefinedOpcode n p s) := by
  unfold Sys2Proof.Machine.undefinedOpcode
  split
  · exact h
  · split
    exacts [h, .ite (.seqFault (.updSeq h)) h]

theorem Keeps.resolve {n p x f} (h : Keeps m s₀ s) : Keeps m s₀ (s.resolve n p x f) := by
  unfold State.resolve
  split
  · exact .bump (.leave h)
  · extract_lets
    exact .leave (.requestSet h)

theorem Keeps.runVec {n p x w} (h : Keeps m s₀ s) : Keeps m s₀ (runVec n p x w s) := by
  unfold Sys2Proof.Machine.runVec
  extract_lets
  exact .ite (.leave h) (.resolve h)

theorem Keeps.runRpt {n p x w} (h : Keeps m s₀ s) : Keeps m s₀ (runRpt n p x w s) := by
  unfold Sys2Proof.Machine.runRpt
  extract_lets
  exact .ite (.leave h) (.resolve h)

theorem Keeps.runKeep {n p x w} (h : Keeps m s₀ s) : Keeps m s₀ (runKeep n p x w s) := by
  unfold Sys2Proof.Machine.runKeep
  exact .resolve h

theorem Keeps.runLoop {n p x w} (h : Keeps m s₀ s) : Keeps m s₀ (runLoop n p x w s) := by
  unfold Sys2Proof.Machine.runLoop
  extract_lets
  exact .ite (.seqFault h) (.leave h)

theorem Keeps.runEndl {n p x _w} (h : Keeps m s₀ s) : Keeps m s₀ (runEndl n p x _w s) := by
  unfold Sys2Proof.Machine.runEndl
  split
  · split
    · exact .leave h
    · extract_lets
      exact .leave h
  · extract_lets
    exact .ite (.leave h) (.goBack h)

theorem Keeps.runJmp {n p x w} (h : Keeps m s₀ s) : Keeps m s₀ (runJmp n p x w s) := by
  unfold Sys2Proof.Machine.runJmp
  exact .enter h

theorem Keeps.runJmpc {n p x w} (h : Keeps m s₀ s) : Keeps m s₀ (runJmpc n p x w s) := by
  unfold Sys2Proof.Machine.runJmpc
  extract_lets _ _ _ _ _ _ s1
  have h1 : Keeps m s₀ s1 := .leave h
  exact .when h1 fun h => .prefetch h1

theorem Keeps.runCall {n p x w} (h : Keeps m s₀ s) : Keeps m s₀ (runCall n p x w s) := by
  unfold Sys2Proof.Machine.runCall
  extract_lets
  exact .ite (.seqFault h) (.enter h)

theorem Keeps.runRet {n p x _w} (h : Keeps m s₀ s) : Keeps m s₀ (runRet n p x _w s) := by
  unfold Sys2Proof.Machine.runRet
  split
  · exact .ite (.leave h) (.seqFault h)
  · extract_lets
    exact .goBack h

theorem Keeps.atWait {n p x} {f : Path → State} (h : Keeps m s₀ s) (hf : ∀ x, Keeps m s₀ (f x)) :
    Keeps m s₀ (s.atWait n p x f) := by
  unfold State.atWait
  exact .ite (.leave h) (hf _)

theorem Keeps.holdAt {n x e tidx} (h : Keeps m s₀ s) : Keeps m s₀ (s.holdAt n x e tidx) := by
  unfold State.holdAt
  extract_lets
  exact .prefetch (.prefetch (.leave (.requestSet h)))

theorem Keeps.runMatchwait {n p x w} (h : Keeps m s₀ s) : Keeps m s₀ (runMatchwait n p x w s) := by
  unfold Sys2Proof.Machine.runMatchwait
  exact .atWait h (fun _ => by
      extract_lets
      exact .select h)

theorem Keeps.matchReady {n x e} (h : Keeps m s₀ s) : Keeps m s₀ (s.matchReady n x e) := by
  unfold State.matchReady
  extract_lets
  exact .ite (.ite (.bump (.leave h)) (.holdAt h)) (.seqFault h)

theorem Keeps.runWaitcore {n p x w} (h : Keeps m s₀ s) : Keeps m s₀ (runWaitcore n p x w s) := by
  unfold Sys2Proof.Machine.runWaitcore
  exact .atWait h (fun _ => .ite (.bump (.leave h)) (.holdAt h))

theorem Keeps.runTransit {n p x w} (h : Keeps m s₀ s) : Keeps m s₀ (runTransit n p x w s) := by
  unfold Sys2Proof.Machine.runTransit
  exact .atWait h (fun _ => by
      split
      · exact .bump (.leave h)
      · extract_lets
        exact .leave (.requestSet h))

theorem Keeps.runHalt {n p x w} (h : Keeps m s₀ s) : Keeps m s₀ (runHalt n p x w s) := by
  unfold Sys2Proof.Machine.runHalt
  exact .atWait h (fun _ => .leave h)

theorem Keeps.runEff {f n p x w} (h : Keeps m s₀ s) : Keeps m s₀ (runEff f n p x w s) := by
  unfold Sys2Proof.Machine.runEff
  exact .leave h

theorem Keeps.runTset {n p x w} (h : Keeps m s₀ s) : Keeps m s₀ (runTset n p x w s) := by
  unfold Sys2Proof.Machine.runTset
  exact .leave h

theorem Keeps.badDrawer {n p x id} (h : Keeps m s₀ s) : Keeps m s₀ (s.badDrawer n p x id) := by
  unfold State.badDrawer
  exact .seqFault (.updSeq h)

theorem Keeps.directoryDone {n p} (h : Keeps m s₀ s) : Keeps m s₀ (directoryDone n p s) := by
  unfold Sys2Proof.Machine.directoryDone
  split
  · exact h
  · extract_lets
    split
    · extract_lets
      exact .ite (.badDrawer (.eccRead h)) (.leave (.chargeDrawer (.eccRead h)))
    · extract_lets
      exact .ite (.badDrawer (.eccRead h)) (.leave (.chargeDrawer (.eccRead h)))
    · exact .matchReady (.chargeDrawer (.eccRead h))
    · exact h

theorem Keeps.ilistDone {n p i cnt ce ue} (h : Keeps m s₀ s) : Keeps m s₀ (ilistDone n p i cnt ce ue s) := by
  unfold Sys2Proof.Machine.ilistDone
  split
  · exact h
  · extract_lets
    split
    rename_i _ s1 e1
    have h1 := Keeps.of_snd e1 (.eccRead (.addErrs h))
    extract_lets
    split
    exacts [.leave h1, .leave h1, h]

theorem Keeps.runaheadResume {n p} (h : Keeps m s₀ s) : Keeps m s₀ (runaheadResume n p s) := by
  unfold Sys2Proof.Machine.runaheadResume
  split
  · exact h
  · split
    exacts [.leave h, .ite h (.leave h), .enter h, .select h, .select h, h]

theorem Keeps.coreFlagSet {n m'} (h : Keeps m s₀ s) : Keeps m s₀ (coreFlagSet n m' s) := by
  unfold Sys2Proof.Machine.coreFlagSet
  exact .each h fun h => .putFlag h

theorem Keeps.coreFlagClear {n m'} (h : Keeps m s₀ s) : Keeps m s₀ (coreFlagClear n m' s) := by
  unfold Sys2Proof.Machine.coreFlagClear
  exact .each h fun h => .putFlag h

theorem Keeps.ucsWordWrite {v} (h : Keeps m s₀ s) : Keeps m s₀ (ucsWordWrite v s) := by
  unfold Sys2Proof.Machine.ucsWordWrite
  split
  · exact h
  · extract_lets
    exact .put (.others (.setWord h))

/-! ### Play -/

theorem Keeps.setSiteState {n st} (h : Keeps m s₀ s) : Keeps m s₀ (s.setSiteState n st) := by
  unfold State.setSiteState
  exact .put (.put h)

theorem Keeps.setsShow {n} (h : Keeps m s₀ s) : Keeps m s₀ (s.setsShow n) := by
  unfold State.setsShow
  extract_lets
  exact .put (.put (.putN h))

theorem Keeps.stacksShow {n loops calls} (h : Keeps m s₀ s) : Keeps m s₀ (s.stacksShow n loops calls) := by
  unfold State.stacksShow
  extract_lets
  exact .each (.each (.put (.put h)) fun h => .putN h) fun h => by
      extract_lets
      exact .putN (.putN (.putN h))

theorem Keeps.artSweep {n ids} (h : Keeps m s₀ s) : Keeps m s₀ (s.artSweep n ids) := by
  unfold State.artSweep
  extract_lets
  exact .each (.updSeq h) fun h => .ite (.artDrop h) h

theorem Keeps.dropStreams {n} (h : Keeps m s₀ s) : Keeps m s₀ (s.dropStreams n) := by
  unfold State.dropStreams
  extract_lets
  exact .fillShow (.updStrm h)

theorem Keeps.gc {n} (h : Keeps m s₀ s) : Keeps m s₀ (s.gc n) := by
  unfold State.gc
  extract_lets
  exact .ite h (.artSweep (.dropStreams (.updSeq h)))

theorem Keeps.join {n items k loops calls} (h : Keeps m s₀ s) : Keeps m s₀ (s.join n items k loops calls) := by
  unfold State.join
  extract_lets
  split
  · exact h
  · extract_lets
    exact .artSweep (.dropStreams (.gc (.each (.leave (.each (.updSeq h) fun h => .requestSet h)) fun h => .prefetch h)))

theorem Keeps.tryMerge {n} (h : Keeps m s₀ s) : Keeps m s₀ (s.tryMerge n) := by
  unfold State.tryMerge
  extract_lets
  split
  · exact h
  · extract_lets
    exact .ite (.join (.updPlay h)) h

theorem Keeps.lanesHalt {n} (h : Keeps m s₀ s) : Keeps m s₀ (s.lanesHalt n) := by
  unfold State.lanesHalt
  exact .each h fun h => .ite (.updLane h) h

theorem Keeps.spanFinish {n} (h : Keeps m s₀ s) : Keeps m s₀ (s.spanFinish n) := by
  unfold State.spanFinish
  extract_lets
  exact .updSite (.put (.putN h))

theorem Keeps.spanCheck {n} (h : Keeps m s₀ s) : Keeps m s₀ (s.spanCheck n) := by
  unfold State.spanCheck
  extract_lets
  exact .ite (.spanFinish h) h

theorem Keeps.haltSite {n code at_ poison} (h : Keeps m s₀ s) : Keeps m s₀ (s.haltSite n code at_ poison) := by
  unfold State.haltSite
  extract_lets _ _ _ _ _ _ _ _ _ s1
  have h1 : Keeps m s₀ s1 := .captFinish (.lanesHalt (.chargeRelease (.dropStreams (.artClear (.replaceStaged (.updSeq
      (.updCapt (.putN (.fireSite (.when (.put (.putN (.putN (.put (.setSiteState h))))) fun h => .put h))))))))))
  exact .ite h1 (.spanCheck (.spanCast (.updSite h1)))

theorem Keeps.asyncHalt {n code} (h : Keeps m s₀ s) : Keeps m s₀ (s.asyncHalt n code) := by
  unfold State.asyncHalt
  exact .when (.haltSite h) fun h => .bump h

theorem Keeps.seqAbort {n} (h : Keeps m s₀ s) : Keeps m s₀ (seqAbort n s) := by
  unfold Sys2Proof.Machine.seqAbort
  extract_lets
  exact .ite (.updSeq h) (.ite (.asyncHalt h) h)

theorem Keeps.spanAll {n typ blocks} (h : Keeps m s₀ s) : Keeps m s₀ (s.spanAll n typ blocks) := by
  unfold State.spanAll
  extract_lets
  exact .sendAll h

theorem Keeps.arrival {n idx} (h : Keeps m s₀ s) : Keeps m s₀ (s.arrival n idx) := by
  unfold State.arrival
  extract_lets s1
  have h1 : Keeps m s₀ s1 := .updSite h
  exact .ite (.spanAll (.updSite h1)) h1

theorem Keeps.release {n t'} (h : Keeps m s₀ s) : Keeps m s₀ (s.release n t') := by
  unfold State.release
  extract_lets
  exact .ite (.updSite (.put (.invalidate h))) (.updSite h)

theorem Keeps.dtRelease {t'} (h : Keeps m s₀ s) : Keeps m s₀ (s.dtRelease t') := by
  unfold State.dtRelease
  exact .each h fun h => by
      split
      exacts [.ite (.release h) h, h]

theorem Keeps.dtArrival (h : Keeps m s₀ s) : Keeps m s₀ (s.dtArrival) := by
  unfold State.dtArrival
  extract_lets
  exact .ite (.dtRelease (.sendAll (.putN h))) (.putN h)

theorem Keeps.transitArrive {n scope} (h : Keeps m s₀ s) : Keeps m s₀ (s.transitArrive n scope) := by
  unfold State.transitArrive
  extract_lets _ s1
  have h1 : Keeps m s₀ s1 := .updSite h
  split
  · exact .ite (.arrival h1) (.spanSend h1)
  · split
    · exact .dtArrival h1
    · split
      exacts [.sendOn h1, h1]

theorem Keeps.newOrigin {n at_} (h : Keeps m s₀ s) : Keeps m s₀ (s.newOrigin n at_) := by
  unfold State.newOrigin
  exact .updPlay h

theorem Keeps.transitStop {n scope timeout} (h : Keeps m s₀ s) : Keeps m s₀ (s.transitStop n scope timeout) := by
  unfold State.transitStop
  extract_lets _ _ _ s1
  have h1 : Keeps m s₀ s1 := .setSiteState (.updPlay h)
  exact .ite (.ite (.transitArrive h1) (.updGov h1)) (.newOrigin (.updPlay h))

theorem Keeps.openDecision {n d} (h : Keeps m s₀ s) : Keeps m s₀ (s.openDecision n d) := by
  unfold State.openDecision
  extract_lets _ _ _ _ s1
  have h1 : Keeps m s₀ s1 := .updPlay (.when h fun h => .updSite h)
  exact .when h1 fun h => .sendFlags h1

theorem Keeps.playLevels {n l} (h : Keeps m s₀ s) : Keeps m s₀ (s.playLevels n l) := by
  unfold State.playLevels
  extract_lets
  exact .ite h (.chargeRaise (.each (.updPlay h) fun h => .setLevels h))

theorem Keeps.playFlag {n m'} (h : Keeps m s₀ s) : Keeps m s₀ (s.playFlag n m') := by
  unfold State.playFlag
  extract_lets
  exact .updPlay (.each h fun h => .putFlag h)

theorem Keeps.playXlmark {n act grp arg} (h : Keeps m s₀ s) : Keeps m s₀ (s.playXlmark n act grp arg) := by
  unfold State.playXlmark
  extract_lets
  exact .each h fun h => .ite (.updLane h) h

theorem Keeps.passWait {n} (h : Keeps m s₀ s) : Keeps m s₀ (s.passWait n) := by
  unfold State.passWait
  extract_lets
  exact .ite (.leave h) h

theorem Keeps.playEff {n i e} (h : Keeps true s₀ s) : Keeps true s₀ (s.playEff n i e) := by
  unfold State.playEff
  extract_lets _ _ _ s1 s2
  have h1 : Keeps true s₀ s1 := .updPlay (.passWait h)
  have h2 : Keeps true s₀ s2 := .stacksShow h
  split
  · exact .chargeRaise (.updPlay h)
  · exact .playLevels h
  · exact .updPlay h
  · exact .updPlay h
  · exact .updPlay h
  · exact .updPlay h
  · exact .signalSched h
  · exact .doorbell h
  · exact .playFlag h
  · exact .playXlmark h
  · exact .put (.addSat h)
  · exact .put (.bump h)
  · exact .haltSite (.stacksShow h)
  · exact .haltSite (.stacksShow h)
  · exact .openDecision h
  · exact .updPlay (.putFlag h)
  · exact .updPlay (.updSite h)
  · exact .ite (.transitStop h1) (.updPlay h1)
  · exact .ite (.haltSite h2) (.ite (.haltSite h2) h)
  · exact h

theorem Keeps.runEffects {n k} (h : Keeps true s₀ s) : Keeps true s₀ (runEffects n k s) := by
  induction k generalizing s with
  | zero => exact h
  | succ k ih =>
    unfold Sys2Proof.Machine.runEffects
    split
    · exact h
    · split
      · exact .ite (ih (.playEff (.updSeq h))) h
      · exact h

theorem Keeps.effects {n} (h : Keeps true s₀ s) : Keeps true s₀ (s.effects n) := by
  unfold State.effects
  extract_lets _ s1
  have h1 : Keeps true s₀ s1 := .runEffects h
  exact .setsShow (.when h1 fun h => .updPlay h1)

theorem Keeps.takeSlabs {n st e g lost} (h : Keeps m s₀ s) :
    Keeps m s₀ (s.takeSlabs n st e g lost).2.2 := by
  unfold State.takeSlabs
  extract_lets
  exact .thd_mk (.fillShow (.updStrm h))

theorem Keeps.useSet {n t'} (h : Keeps m s₀ s) : Keeps m s₀ (s.useSet n t') := by
  unfold State.useSet
  exact .each h fun h => by
      split
      · exact h
      · extract_lets s1
        have h1 : Keeps m s₀ s1 := .touchSlot h
        exact .when h1 fun h => .put (.invalidate h1)

theorem Keeps.vectorsPlayed {n g} (h : Keeps m s₀ s) : Keeps m s₀ (s.vectorsPlayed n g) := by
  unfold State.vectorsPlayed
  extract_lets s1 s2 s3 s4
  have h1 : Keeps m s₀ s1 := .useSet h
  have h2 : Keeps m s₀ s2 := by
    unfold s2
    split
    · exact h1
    · extract_lets s5
      have h5 : Keeps m s₀ s5 := .put h1
      exact .when h5 fun h => .put (.invalidate h5)
  have h3 : Keeps m s₀ s3 := .ite h2 (.invalidate (.addSat h2))
  have h4 : Keeps m s₀ s4 := .when h3 fun h => .invalidate h3
  exact .when h4 fun h => .invalidate h4

theorem Keeps.startGran {n g prog} (h : Keeps m s₀ s) : Keeps m s₀ (s.startGran n g prog) := by
  unfold State.startGran
  extract_lets _ _ _ _ _ s1 _ _ _ s2
  have h1 : Keeps m s₀ s1 := .fireSite h
  have h2 : Keeps m s₀ s2 := .updPlay (.ite h1 (.queueEdges (.vectorsPlayed h1)))
  exact .when h2 fun h => .putN (.putN h2)

theorem Keeps.popGran {t : State} {n lost g} (h : Keeps m s₀ s) (e : s.popGran n lost = some (g, t)) :
    Keeps m s₀ t := by
  unfold State.popGran at e
  extract_lets b at e
  split at e
  · exact absurd e nofun
  · extract_lets rest at e
    have hr : ∀ {body pad}, Keeps m s₀ (rest body pad) := .updSeq h
    split at e
    · extract_lets s1 at e
      split at e
      · exact of_some e hr
      · split at e
        rename_i e1
        exact of_some e (.of_thd e1 (.takeSlabs hr))
    · exact of_some e (.when hr fun h => .put (.bump h))
    · exact absurd e nofun

theorem Keeps.nextGran {n lost} (h : Keeps m s₀ s) : Keeps m s₀ (s.nextGran n lost).2 := by
  unfold State.nextGran
  extract_lets
  split
  · extract_lets
    exact .snd_mk (.updPlay h)
  · exact .snd_mk (.updPlay h)
  · cases e : s.popGran n lost with
    | none => exact h
    | some x => exact .popGran h e
  · exact h

theorem Keeps.beginProg {n} (h : Keeps true s₀ s) : Keeps true s₀ (s.beginProg n) := by
  unfold State.beginProg
  extract_lets s1 _ _ s2
  have h1 : Keeps true s₀ s1 := .tryMerge (.effects h)
  have h2 : Keeps true s₀ s2 := by
    unfold s2
    split
    exacts [.stacksShow h1, h1]
  split
  · exact h1
  · split
    · split
      rename_i _ s3 e3
      have h3 := Keeps.of_snd e3 (.nextGran h2)
      exact .startGran h3
    · exact h1

theorem Keeps.beginRep {n} (h : Keeps m s₀ s) : Keeps m s₀ (s.beginRep n) := by
  unfold State.beginRep
  split
  exacts [h, .startGran (.updPlay h)]

theorem Keeps.exitWait {n left late} (h : Keeps m s₀ s) : Keeps m s₀ (s.exitWait n left late) := by
  unfold State.exitWait
  extract_lets _ x1
  split
  · unfold x1
    extract_lets s1
    have h1 : Keeps m s₀ s1 := .updPlay h
    exact .join (.ite (.put h1) (.bump h1))
  · unfold x1
    extract_lets s2
    have h2 : Keeps m s₀ s2 := .updPlay h
    exact .join (.ite (.put h2) (.bump h2))
  · exact h

theorem Keeps.coreSample {n} (h : Keeps m s₀ s) : Keeps m s₀ (s.coreSample n) := by
  unfold State.coreSample
  split
  · split
    · exact h
    · split
      · split
        · split
          · extract_lets
            exact .exitWait (.when h fun h => .spanCast h)
          · exact h
        · split
          exacts [.exitWait h, .ite (.exitWait h) h, h]
  · exact h

theorem Keeps.matchSample {n} (h : Keeps m s₀ s) : Keeps m s₀ (s.matchSample n) := by
  unfold State.matchSample
  split
  · extract_lets
    exact .ite (.openDecision h) h
  · exact h

theorem Keeps.endGranule {t : State} {n} (h : Keeps m s₀ s) (e : s.endGranule n = some t) : Keeps m s₀ t := by
  unfold State.endGranule at e
  split at e
  · exact absurd e nofun
  · extract_lets s1 late s2 s3 at e
    have h2 : Keeps m s₀ s2 := .matchSample (.coreSample h)
    have h3 : Keeps m s₀ s3 := by
      unfold s3
      split
      exacts [.updPlay h2, .updPlay h2, h2]
    split at e
    · exact absurd e nofun
    · exact Option.some.inj e ▸ .tryMerge h3

theorem Keeps.progFrame {n lost} (h : Keeps true s₀ s) : Keeps true s₀ (s.progFrame n lost) := by
  unfold State.progFrame
  extract_lets _ _ _ s1
  have h1 : Keeps true s₀ s1 := .beginProg (.artSweep (.updPlay h))
  exact .ite (.when (.updPlay h1) fun h => .bump h) h1

theorem Keeps.starved {n pol} (h : Keeps m s₀ s) : Keeps m s₀ (s.starved n pol) := by
  unfold State.starved
  extract_lets _ s1 s2 s3
  have h1 : Keeps m s₀ s1 := .bump h
  have h2 : Keeps m s₀ s2 := .when h1 fun h => .putN h1
  have h3 : Keeps m s₀ s3 := .invalidate (.put (.bump h2))
  exact .ite (.put (.bump h2)) (.when h3 fun h => .put (.bump h3))

theorem Keeps.standFrame {n pol} (h : Keeps m s₀ s) : Keeps m s₀ (s.standFrame n pol) := by
  unfold State.standFrame
  extract_lets _ _ _ s1
  have h1 : Keeps m s₀ s1 := .updPlay h
  exact .beginRep (.when h1 fun h => .bump h1)

theorem Keeps.frameBoundary {n} (h : Keeps true s₀ s) : Keeps true s₀ (frameBoundary n s) := by
  unfold Sys2Proof.Machine.frameBoundary
  extract_lets
  split
  · split
    · exact h
    · rename_i e1
      have h1 := Keeps.endGranule h e1
      split
      · exact .asyncHalt h1
      · extract_lets s2 s3 _ _ _ s4
        have h2 : Keeps true s₀ s2 := .replaceStaged h1
        have h3 : Keeps true s₀ s3 := by
          unfold s3
          split
          exacts [.transitStop h2, h2]
        have h4 : Keeps true s₀ s4 := .updStrm h3
        exact .ite (.ite (.progFrame h4) (.ite (.progFrame (.starved h4)) (.standFrame (.starved h4)))) h3
  · exact h

theorem Keeps.granuleBoundary {n} (h : Keeps true s₀ s) : Keeps true s₀ (granuleBoundary n s) := by
  unfold Sys2Proof.Machine.granuleBoundary
  extract_lets
  split
  · split
    · split
      exacts [.asyncHalt h, .beginRep h]
    · split
      · exact h
      · rename_i e1
        have h1 := Keeps.endGranule h e1
        split
        exacts [.asyncHalt h1, .beginProg h1]
  · exact h

theorem Keeps.showSpanFlag {n d v} (h : Keeps m s₀ s) : Keeps m s₀ (s.showSpanFlag n d v) := by
  unfold State.showSpanFlag
  exact .when h fun h => .putFlag h

theorem Keeps.branchDecision {n} (h : Keeps m s₀ s) : Keeps m s₀ (branchDecision n s) := by
  unfold Sys2Proof.Machine.branchDecision
  extract_lets
  split
  · exact h
  · split
    · exact h
    · split
      · exact .ite (.exitWait (.showSpanFlag h)) (.ite h (.updPlay (.showSpanFlag h)))
      · extract_lets s1
        have h1 : Keeps m s₀ s1 := .showSpanFlag h
        exact .ite (.tryMerge (.updPlay (.bump h1))) (.gc (.updPlay h1))

theorem Keeps.matchwaitTimeout {n} (h : Keeps m s₀ s) : Keeps m s₀ (matchwaitTimeout n s) := by
  unfold Sys2Proof.Machine.matchwaitTimeout
  split
  exacts [h, .ite (.exitWait (.showSpanFlag h)) h]

theorem Keeps.waitcoreTimeout {n} (h : Keeps m s₀ s) : Keeps m s₀ (waitcoreTimeout n s) := by
  unfold Sys2Proof.Machine.waitcoreTimeout
  split
  · extract_lets
    split
    exacts [.exitWait (.coreSample h), h]
  · exact h

theorem Keeps.startPlay {n} (h : Keeps m s₀ s) : Keeps m s₀ (s.startPlay n) := by
  unfold State.startPlay
  extract_lets
  exact .setsShow (.updPlay (.setSiteState h))

theorem Keeps.resumePlay {n} (h : Keeps m s₀ s) : Keeps m s₀ (s.resumePlay n) := by
  unfold State.resumePlay
  exact .newOrigin (.updPlay (.setSiteState h))

/-! ### The governor -/

theorem Keeps.setTj {t'} (h : Keeps m s₀ s) : Keeps m s₀ (s.setTj t') := by
  unfold State.setTj
  extract_lets
  exact .put (.roundFree (.others h))

theorem Keeps.tjRaise (h : Keeps m s₀ s) : Keeps m s₀ (s.tjRaise) := by
  unfold State.tjRaise
  extract_lets
  exact .put (.ite (.setTj h) h)

theorem Keeps.decide394 {n} (h : Keeps m s₀ s) : Keeps m s₀ (s.decide394 n).2 := by
  unfold State.decide394
  extract_lets
  split
  · exact .snd_mk h
  · split
    · exact .snd_mk h
    · split
      · exact .snd_mk h
      · split
        · split
          exacts [.snd_mk h, .snd_mk h, .snd_mk (.freeBits h)]
        · exact .snd_mk h

theorem Keeps.waited {n} (h : Keeps m s₀ s) : Keeps m s₀ (s.waited n) := by
  unfold State.waited
  extract_lets
  exact .updGov (.addSat h)

theorem Keeps.grant {n burst} (h : Keeps m s₀ s) : Keeps m s₀ (s.grant n burst) := by
  unfold State.grant
  extract_lets _ _ _ s1
  have h1 : Keeps m s₀ s1 := .updGov (.setCharge (.when (.put h) fun h => .put h))
  split
  · split
    exacts [.transitArrive h1, h1]
  · exact h1

theorem Keeps.admitWait {n} (h : Keeps m s₀ s) : Keeps m s₀ (s.admitWait n) := by
  unfold State.admitWait
  extract_lets
  exact .updGov (.others (.bump (.put h)))

theorem Keeps.govPrune (h : Keeps m s₀ s) : Keeps m s₀ (s.govPrune) := by
  unfold State.govPrune
  extract_lets
  exact .others (.each h fun h => .when h fun h => .put h)

theorem Keeps.admissionRequest {n} (h : Keeps m s₀ s) : Keeps m s₀ (admissionRequest n s) := by
  unfold Sys2Proof.Machine.admissionRequest
  extract_lets s1
  have h1 : Keeps m s₀ s1 := .govPrune h
  split
  · split
    · split
      · rename_i s2 e2
        have h2 := Keeps.of_snd e2 (.decide394 h1)
        exact .grant h2
      · rename_i s3 e3
        have h3 := Keeps.of_snd e3 (.decide394 h1)
        exact .grant h3
      · rename_i s4 e4
        have h4 := Keeps.of_snd e4 (.decide394 h1)
        exact .admitWait h4
    · exact .admitWait h1
  · exact h1

theorem Keeps.govAdmit {l} (h : Keeps m s₀ s) : Keeps m s₀ (govAdmit l s) := by
  induction l generalizing s with
  | nil => exact h
  | cons n l ih =>
    unfold Sys2Proof.Machine.govAdmit
    split
    · rename_i e
      exact ih (.grant (.waited (.others (.of_snd e (.decide394 h)))))
    · rename_i e
      exact ih (.grant (.waited (.others (.of_snd e (.decide394 h)))))
    · rename_i e
      exact .foldl (.of_snd e (.decide394 h)) fun h => .waited h

theorem Keeps.powers (h : Keeps m s₀ s) : Keeps m s₀ (s.powers) := by
  unfold State.powers
  extract_lets
  exact .chargedShow (.putN (.roundFree (.putN (.putN (.freeBits (.freeBits h))))))

theorem Keeps.xchkCount (h : Keeps m s₀ s) : Keeps m s₀ (s.xchkCount) := by
  unfold State.xchkCount
  extract_lets _ s1
  have h1 : Keeps m s₀ s1 := .others h
  exact .ite (.when h1 fun h => .put h1) (.others h)

theorem Keeps.tjStep (h : Keeps m s₀ s) : Keeps m s₀ (s.tjStep) := by
  unfold State.tjStep
  extract_lets
  exact .tjRaise (.setTj h)

theorem Keeps.thresholds (h : Keeps m s₀ s) : Keeps m s₀ (s.thresholds) := by
  unfold State.thresholds
  extract_lets _ _ s1 s2
  have h1 : Keeps m s₀ s1 := .ite (.ite h (.put (.put h))) (.ite (.put h) h)
  have h2 : Keeps m s₀ s2 := .ite (.ite h1 (.put (.put h1))) (.ite (.put h1) h1)
  exact .ite (.each h2 fun h => .ite (.updSeq h) (.ite (.asyncHalt h) h)) h2

theorem Keeps.govEvaluation (h : Keeps true s₀ s) : Keeps true s₀ (govEvaluation s) := by
  unfold Sys2Proof.Machine.govEvaluation
  extract_lets
  exact .setAllow (.others (.govAdmit (.govPrune (.thresholds (.tjStep (.xchkCount (.powers h)))))))

theorem Keeps.xchkBad (h : Keeps m s₀ s) : Keeps m s₀ (xchkBad s) := by
  unfold Sys2Proof.Machine.xchkBad
  split
  · extract_lets
    exact .others (.put (.put (.bump h)))
  · exact h

theorem Keeps.durOver {n} (h : Keeps m s₀ s) : Keeps m s₀ (durOver n s) := by
  unfold Sys2Proof.Machine.durOver
  exact .ite (.put (.put h)) h

/-! ### Express lanes -/

theorem Keeps.xlEvent {n b} (h : Keeps m s₀ s) : Keeps m s₀ (s.xlEvent n b) := by
  unfold State.xlEvent
  exact .updLane (.putBit h)

theorem Keeps.xlSee {n g} (h : Keeps m s₀ s) : Keeps m s₀ (s.xlSee n g) := by
  unfold State.xlSee
  split
  · extract_lets s1 _ _ _ s2
    have h1 : Keeps m s₀ s1 := .put (.putPair h)
    have h2 : Keeps m s₀ s2 := .putPair (.putPair h1)
    exact .ite (.when h2 fun h => .xlEvent h2) h1
  · exact h

theorem Keeps.xlFree (h : Keeps m s₀ s) : Keeps m s₀ (s.xlFree).2 := by
  unfold State.xlFree
  extract_lets
  exact .snd_mk (.freeBits (.freeBits (.freeBits (.freeBits (.freeBits h)))))

theorem Keeps.xlClear {n} (h : Keeps m s₀ s) : Keeps m s₀ (s.xlClear n) := by
  unfold State.xlClear
  exact .putPair (.putPair h)

theorem Keeps.eyeAbort {n} (h : Keeps m s₀ s) : Keeps m s₀ (s.eyeAbort n) := by
  unfold State.eyeAbort
  exact .ite (.put (.put h)) h

theorem Keeps.xlQuiet {n} (h : Keeps m s₀ s) : Keeps m s₀ (s.xlQuiet n) := by
  unfold State.xlQuiet
  extract_lets
  exact .updLane (.put (.put (.eyeAbort h)))

theorem Keeps.xlEnter {n st} (h : Keeps m s₀ s) : Keeps m s₀ (s.xlEnter n st) := by
  unfold State.xlEnter
  exact .updLane (.put (.xlQuiet h))

theorem Keeps.xlRun {n keep} (h : Keeps m s₀ s) : Keeps m s₀ (s.xlRun n keep) := by
  unfold State.xlRun
  extract_lets _ s1
  have h1 : Keeps m s₀ s1 := .put (.eyeAbort (.ite h (.xlClear h)))
  exact .put (.put (.updLane (.when h1 fun h => .put h1)))

theorem Keeps.xlBegin {n keep} (h : Keeps m s₀ s) : Keeps m s₀ (s.xlBegin n keep) := by
  unfold State.xlBegin
  exact .ite (.updLane h) (.xlRun h)

theorem Keeps.xlMarked {n sent time} (h : Keeps m s₀ s) : Keeps m s₀ (s.xlMarked n sent time) := by
  unfold State.xlMarked
  extract_lets
  exact .xlEvent (.putPair (.putPair (.wrapInc h)))

theorem Keeps.xlEffect {n sent x} (h : Keeps m s₀ s) : Keeps m s₀ (s.xlEffect n sent x) := by
  unfold State.xlEffect
  split
  · exact .xlEnter h
  · exact .xlBegin h
  · exact .xlClear h
  · exact .wrapInc h
  · exact .xlMarked h
  · exact .put (.xlEnter h)
  · exact .eyeAbort h
  · extract_lets
    exact .put (.putN (.updLane h))

theorem Keeps.xlRefuse {n} (h : Keeps m s₀ s) : Keeps m s₀ (s.xlRefuse n) := by
  unfold State.xlRefuse
  exact .xlEvent (.bump h)

theorem Keeps.xlOps {n sent l res} (h : Keeps m s₀ s) : Keeps m s₀ (s.xlOps n sent l res).2 := by
  induction l generalizing s res with
  | nil => exact h
  | cons o os ih =>
    unfold State.xlOps
    split
    · exact ih (.xlRefuse h)
    · exact ih (.xlEffect h)

theorem Keeps.xlCmd {n os g} (h : Keeps m s₀ s) : Keeps m s₀ (xlCmd n os g s) := by
  unfold Sys2Proof.Machine.xlCmd
  extract_lets
  exact .put (.xlOps (.xlSee h))

theorem Keeps.xlCtrlWrite {n v g} (h : Keeps m s₀ s) : Keeps m s₀ (xlCtrlWrite n v g s) := by
  unfold Sys2Proof.Machine.xlCtrlWrite
  extract_lets _ s1
  have h1 : Keeps m s₀ s1 := .plainWrite (.xlSee h)
  split
  · exact .updLane (.put (.xlEnter h1))
  · exact .ite (.ite (.xlEnter h1) (.ite (.put (.xlEnter h1)) (.xlEnter h1))) h1

theorem Keeps.ffeWrite {fpre fpost v} (h : Keeps m s₀ s) : Keeps m s₀ (s.ffeWrite fpre fpost v) := by
  unfold State.ffeWrite
  extract_lets _ _ s1 s2
  have h1 : Keeps m s₀ s1 := .when h fun h => .enumRefused h
  have h2 : Keeps m s₀ s2 := .when h1 fun h => .enumRefused h1
  exact .ite (.put (.put h2)) (.enumRefused h2)

theorem Keeps.xlFfeWrite {n v} (h : Keeps m s₀ s) : Keeps m s₀ (s.xlFfeWrite n v) := by
  unfold State.xlFfeWrite
  extract_lets
  exact .ffeWrite (.put (.put h))

theorem Keeps.xlRxeqWrite {n v} (h : Keeps m s₀ s) : Keeps m s₀ (s.xlRxeqWrite n v) := by
  unfold State.xlRxeqWrite
  extract_lets _ s1
  have h1 : Keeps m s₀ s1 := .plainWrite h
  exact .ite (.putN (.freeBits h1)) h1

theorem Keeps.xlDfeWrite {n v} (h : Keeps m s₀ s) : Keeps m s₀ (s.xlDfeWrite n v) := by
  unfold State.xlDfeWrite
  exact .ite (.plainWrite h) h

theorem Keeps.xlPllLock {n} (h : Keeps m s₀ s) : Keeps m s₀ (xlPllLock n s) := by
  unfold Sys2Proof.Machine.xlPllLock
  split
  · extract_lets
    exact .updLane (.put h)
  · exact h

theorem Keeps.trainEnd {n} (h : Keeps m s₀ s) : Keeps m s₀ (s.trainEnd n) := by
  unfold State.trainEnd
  extract_lets _ s1
  have h1 : Keeps m s₀ s1 := .xlEnter h
  exact .ite (.ite (.put (.xlRefuse h1)) (.xlRun h1)) h1

theorem Keeps.xlTrainDone {n pre post} (h : Keeps m s₀ s) : Keeps m s₀ (xlTrainDone n pre post s) := by
  unfold Sys2Proof.Machine.xlTrainDone
  split
  · extract_lets
    exact .trainEnd (.put (.put (.put h)))
  · exact h

theorem Keeps.xlTrainTimeout {n} (h : Keeps m s₀ s) : Keeps m s₀ (xlTrainTimeout n s) := by
  unfold Sys2Proof.Machine.xlTrainTimeout
  exact .ite (.trainEnd (.xlEvent h)) h

theorem Keeps.xlPrbsLock {n g} (h : Keeps m s₀ s) : Keeps m s₀ (xlPrbsLock n g s) := by
  unfold Sys2Proof.Machine.xlPrbsLock
  exact .ite (.put (.xlSee h)) h

theorem Keeps.xlLockLoss {n g} (h : Keeps m s₀ s) : Keeps m s₀ (xlLockLoss n g s) := by
  unfold Sys2Proof.Machine.xlLockLoss
  split
  · extract_lets
    exact .xlEvent (.eyeAbort (.bump (.put (.xlSee h))))
  · exact h

theorem Keeps.xlSigLoss {n g} (h : Keeps m s₀ s) : Keeps m s₀ (xlSigLoss n g s) := by
  unfold Sys2Proof.Machine.xlSigLoss
  exact .ite (.xlEvent (.put (.xlSee h))) h

theorem Keeps.xlPayloadEnd {n g} (h : Keeps m s₀ s) : Keeps m s₀ (xlPayloadEnd n g s) := by
  unfold Sys2Proof.Machine.xlPayloadEnd
  extract_lets _ s1
  have h1 : Keeps m s₀ s1 := .xlSee h
  exact .ite (.ite h1 (.xlEvent (.updLane h1))) h

theorem Keeps.xlEyePointDone {n cnt} (h : Keeps true s₀ s) : Keeps true s₀ (xlEyePointDone n cnt s) := by
  unfold Sys2Proof.Machine.xlEyePointDone
  split
  · extract_lets _ _ _ _ s1
    have h1 : Keeps true s₀ s1 := .put (.dropResv (.wrBytes h))
    exact .ite (.xlEvent (.put h1)) h1
  · exact h

theorem Keeps.xlmarkLaneAct {n g} (h : Keeps m s₀ s) : Keeps m s₀ (xlmarkLaneAct n g s) := by
  unfold Sys2Proof.Machine.xlmarkLaneAct
  split
  · exact h
  · extract_lets s1
    have h1 : Keeps m s₀ s1 := .updLane (.xlSee h)
    split
    · exact .put (.xlRefuse h1)
    · exact .ite (.xlBegin h1) (.ite (.ite (.xlQuiet h1) (.xlEnter h1)) (.xlMarked (.put h1)))

theorem Keeps.xlHaltStop {n g} (h : Keeps m s₀ s) : Keeps m s₀ (xlHaltStop n g s) := by
  unfold Sys2Proof.Machine.xlHaltStop
  split
  · extract_lets s1
    have h1 : Keeps m s₀ s1 := .updLane (.xlSee h)
    exact .ite (.xlEnter h1) h1
  · exact h

theorem Keeps.xlEventFlagSet {n} (h : Keeps m s₀ s) : Keeps m s₀ (xlEventFlagSet n s) := by
  unfold Sys2Proof.Machine.xlEventFlagSet
  extract_lets _ s1
  have h1 : Keeps m s₀ s1 := .updLane h
  exact .ite (.when (.putFlag h1) fun h => .updCapt h) h1

theorem Keeps.lanesSafe (h : Keeps m s₀ s) : Keeps m s₀ (s.lanesSafe) := by
  unfold State.lanesSafe
  exact .each h fun h => .ite (.xlEnter h) h

theorem Keeps.lanesBack (h : Keeps m s₀ s) : Keeps m s₀ (s.lanesBack) := by
  unfold State.lanesBack
  exact .each h fun h => .ite (.put h) h

/-! ### Management -/

theorem Keeps.safeSrc {b on} (h : Keeps m s₀ s) : Keeps m s₀ (s.safeSrc b on) := by
  unfold State.safeSrc
  extract_lets s1
  have h1 : Keeps m s₀ s1 := .put h
  exact .ite (.logEvent (.lanesSafe (.bump (.put (.put h1))))) h1

theorem Keeps.safeLeave (h : Keeps m s₀ s) : Keeps m s₀ (s.safeLeave) := by
  unfold State.safeLeave
  extract_lets
  exact .logEvent (.each (.lanesBack (.put (.put (.put h)))) fun h => .startSettle (.put h))

theorem Keeps.safeExit (h : Keeps m s₀ s) : Keeps m s₀ (safeExit s) := by
  unfold Sys2Proof.Machine.safeExit
  exact .ite (.safeLeave h) h

theorem Keeps.peSafeAssert (h : Keeps m s₀ s) : Keeps m s₀ (peSafeAssert s) := by
  unfold Sys2Proof.Machine.peSafeAssert
  exact .safeSrc (.others h)

theorem Keeps.peSafeRelease (h : Keeps m s₀ s) : Keeps m s₀ (peSafeRelease s) := by
  unfold Sys2Proof.Machine.peSafeRelease
  exact .safeSrc (.others h)

theorem Keeps.thermalTrip (h : Keeps m s₀ s) : Keeps m s₀ (thermalTrip s) := by
  unfold Sys2Proof.Machine.thermalTrip
  exact .safeSrc (.others h)

theorem Keeps.safeForceWrite {v} (h : Keeps m s₀ s) : Keeps m s₀ (safeForceWrite v s) := by
  unfold Sys2Proof.Machine.safeForceWrite
  extract_lets
  exact .safeSrc (.plainWrite h)

theorem Keeps.straps {compatN root bootsel} (h : Keeps m s₀ s) : Keeps m s₀ (s.straps compatN root bootsel) := by
  unfold State.straps
  extract_lets _ s1
  have h1 : Keeps m s₀ s1 := .put (.put (.putN h))
  exact .when h1 fun h => .putN h1

/-- A reset keeps the queue and leaves memory and the register words in canonical form, as the reset state has them. -/
theorem Keeps.resetAll {cause} (h : Keeps true s₀ s) : Keeps true s₀ (s.resetAll cause) := by
  unfold State.resetAll
  extract_lets src keepWdt on _ _ t1 t2 t3
  have h1 : Keeps true s₀ t1 := ⟨h.pending, fun _ => rfl, fun _ => rfl, nofun⟩
  exact .put (.put (.put (.each h1 fun h => .setWord h)))

theorem Keeps.bootStart {cause} (h : Keeps m s₀ s) : Keeps m s₀ (s.bootStart cause) := by
  unfold State.bootStart
  extract_lets
  exact .logEvent (.others (.put (.put h)))

theorem Keeps.warmReset {cause} (h : Keeps true s₀ s) : Keeps true s₀ (s.warmReset cause) := by
  unfold State.warmReset
  extract_lets
  exact .bootStart (.straps (.resetAll h))

theorem Keeps.pwrgoodRise (h : Keeps m s₀ s) : Keeps m s₀ (pwrgoodRise s) := by
  unfold Sys2Proof.Machine.pwrgoodRise
  split
  · exact h
  · extract_lets
    exact .put (.freeBits (.others h))

theorem Keeps.pwrgoodFall (h : Keeps true s₀ s) : Keeps true s₀ (pwrgoodFall s) := by
  unfold Sys2Proof.Machine.pwrgoodFall
  exact .resetAll (.others h)

theorem Keeps.release_ {compatN root bootsel} (h : Keeps true s₀ s) : Keeps true s₀ (s.release_ compatN root bootsel) := by
  unfold State.release_
  extract_lets
  exact .bootStart (.straps (.resetAll h))

theorem Keeps.rstNRise {compatN root bootsel} (h : Keeps true s₀ s) : Keeps true s₀ (rstNRise compatN root bootsel s) := by
  unfold Sys2Proof.Machine.rstNRise
  extract_lets _ s1
  have h1 : Keeps true s₀ s1 := .others h
  exact .ite (.release_ h1) h1

theorem Keeps.internalRelease {compatN root bootsel} (h : Keeps true s₀ s) :
    Keeps true s₀ (internalRelease compatN root bootsel s) := by
  unfold Sys2Proof.Machine.internalRelease
  exact .ite (.release_ h) h

theorem Keeps.rstNPulse {compatN root bootsel} (h : Keeps true s₀ s) : Keeps true s₀ (rstNPulse compatN root bootsel s) := by
  unfold Sys2Proof.Machine.rstNPulse
  exact .ite (.release_ (.others h)) h

theorem Keeps.bootResetWrite {v} (h : Keeps true s₀ s) : Keeps true s₀ (bootResetWrite v s) := by
  unfold Sys2Proof.Machine.bootResetWrite
  exact .ite (.bump h) (.ite (.warmReset h) h)

theorem Keeps.softwareReset (h : Keeps true s₀ s) : Keeps true s₀ (softwareReset s) := by
  unfold Sys2Proof.Machine.softwareReset
  exact .ite (.warmReset h) h

theorem Keeps.wdtFire (h : Keeps m s₀ s) : Keeps m s₀ (s.wdtFire) := by
  unfold State.wdtFire
  extract_lets
  exact .safeSrc (.logEvent (.put (.others h)))

theorem Keeps.wdtLoad (h : Keeps m s₀ s) : Keeps m s₀ (s.wdtLoad) := by
  unfold State.wdtLoad
  exact .others h

theorem Keeps.wdtEnable {v} (h : Keeps m s₀ s) : Keeps m s₀ (wdtEnable v s) := by
  unfold Sys2Proof.Machine.wdtEnable
  extract_lets _ s1
  have h1 : Keeps m s₀ s1 := .plainWrite h
  exact .ite (.wdtLoad h1) h1

theorem Keeps.wdtKick {r v} (h : Keeps m s₀ s) : Keeps m s₀ (wdtKick r v s) := by
  unfold Sys2Proof.Machine.wdtKick
  exact .ite (.bump h) (.ite (.ite h (.wdtLoad h)) (.ite h (.wdtFire h)))

theorem Keeps.wdtExpire (h : Keeps m s₀ s) : Keeps m s₀ (wdtExpire s) := by
  unfold Sys2Proof.Machine.wdtExpire
  exact .ite (.wdtFire h) h

theorem Keeps.wdtReset (h : Keeps true s₀ s) : Keeps true s₀ (wdtReset s) := by
  unfold Sys2Proof.Machine.wdtReset
  exact .ite (.warmReset h) h

theorem Keeps.sensorRefresh {diodes mv} (h : Keeps m s₀ s) : Keeps m s₀ (sensorRefresh diodes mv s) := by
  unfold Sys2Proof.Machine.sensorRefresh
  split
  · exact h
  · extract_lets
    exact .each (.put (.put (.roundFree (.each h fun h => .put h)))) fun h => by
        extract_lets s1 s2
        have h1 : Keeps m s₀ s1 := .put h
        have h2 : Keeps m s₀ s2 := .when h1 fun h => .bankMeas h1
        exact .when h2 fun h => .put (.put h2)

theorem Keeps.railSense {cur} (h : Keeps m s₀ s) : Keeps m s₀ (railSense cur s) := by
  unfold Sys2Proof.Machine.railSense
  exact .ite h (.each h fun h => .put h)

theorem Keeps.vbatLoss (h : Keeps m s₀ s) : Keeps m s₀ (vbatLoss s) := by
  unfold Sys2Proof.Machine.vbatLoss
  split
  · exact h
  · extract_lets
    exact .put (.put (.put (.put (.putN (.others h)))))

theorem Keeps.rtcCommit {r sec} (h : Keeps m s₀ s) : Keeps m s₀ (s.rtcCommit r sec) := by
  unfold State.rtcCommit
  exact .ite (.put (.others h)) h

theorem Keeps.kaRtcWrite {r v} (h : Keeps m s₀ s) : Keeps m s₀ (kaRtcWrite r v s) := by
  unfold Sys2Proof.Machine.kaRtcWrite
  extract_lets
  exact .rtcCommit (.takeStaged h)

theorem Keeps.kaClr {r v} (h : Keeps m s₀ s) : Keeps m s₀ (kaClr r v s) := by
  unfold Sys2Proof.Machine.kaClr
  exact .ite (.put h) h

theorem Keeps.flashErase {a n} (h : Keeps m s₀ s) : Keeps m s₀ (s.flashErase a n) := by
  unfold State.flashErase
  exact .others h

theorem Keeps.flashWr {a l} (h : Keeps m s₀ s) : Keeps m s₀ (s.flashWr a l) := by
  unfold State.flashWr
  exact .others h

theorem Keeps.logFind (h : Keeps m s₀ s) : Keeps m s₀ (s.logFind) := by
  unfold State.logFind
  extract_lets x1
  clear_value x1
  split
  exacts [.putN (.others h), h]

theorem Keeps.logRecordWrite (h : Keeps m s₀ s) : Keeps m s₀ (logRecordWrite s) := by
  unfold Sys2Proof.Machine.logRecordWrite
  split
  · exact h
  · split
    · exact h
    · extract_lets
      exact .putN (.others (.flashWr (.ite (.flashErase h) h)))

theorem Keeps.logAppend {r v} (h : Keeps m s₀ s) : Keeps m s₀ (logAppend r v s) := by
  unfold Sys2Proof.Machine.logAppend
  extract_lets
  exact .ite (.enumRefused h) (.logPush (.freeBits h))

theorem Keeps.logRdIdxWrite {v} (h : Keeps m s₀ s) : Keeps m s₀ (logRdIdxWrite v s) := by
  unfold Sys2Proof.Machine.logRdIdxWrite
  extract_lets s1 x1
  have h1 : Keeps m s₀ s1 := .plainWrite h
  clear_value x1
  split
  exacts [.put (.each h1 fun h => .putN h), .put h1]

theorem Keeps.ledgerShow (h : Keeps m s₀ s) : Keeps m s₀ (s.ledgerShow) := by
  unfold State.ledgerShow
  extract_lets
  exact .put (.putN (.putN h))

theorem Keeps.ledgerFind (h : Keeps m s₀ s) : Keeps m s₀ (s.ledgerFind) := by
  unfold State.ledgerFind
  extract_lets _ _ _ _ s1
  have h1 : Keeps m s₀ s1 := .put h
  exact .ite (.ledgerShow (.others (.putN (.put h1)))) (.put (.ledgerShow (.others h1)))

theorem Keeps.ledgerCommit {got} (h : Keeps m s₀ s) : Keeps m s₀ (ledgerCommit got s) := by
  unfold Sys2Proof.Machine.ledgerCommit
  split
  · exact h
  · extract_lets _ _ _ s1
    have h1 : Keeps m s₀ s1 := .flashErase (.others h)
    split
    · exact .ledgerShow (.putN (.putBit (.put (.flashWr h1))))
    · extract_lets _ _ _ _ _ s2
      have h2 : Keeps m s₀ s2 := .ledgerShow (.others (.logEvent (.put (.bump (.putBit (.flashWr h1))))))
      exact .ite (.others h2) h2

theorem Keeps.ledgerHoursTimer (h : Keeps m s₀ s) : Keeps m s₀ (ledgerHoursTimer s) := by
  unfold Sys2Proof.Machine.ledgerHoursTimer
  exact .others h

theorem Keeps.uartShow (h : Keeps m s₀ s) : Keeps m s₀ (s.uartShow) := by
  unfold State.uartShow
  exact .put (.put h)

theorem Keeps.uartRxByte {b stop} (h : Keeps m s₀ s) : Keeps m s₀ (uartRxByte b stop s) := by
  unfold Sys2Proof.Machine.uartRxByte
  exact .ite h (.ite (.bump (.put h)) (.ite (.bump (.put h)) (.uartShow (.others h))))

theorem Keeps.uartDataWrite {v} (h : Keeps m s₀ s) : Keeps m s₀ (uartDataWrite v s) := by
  unfold Sys2Proof.Machine.uartDataWrite
  exact .ite h (.uartShow (.others h))

theorem Keeps.uartDataRead {r} (h : Keeps m s₀ s) : Keeps m s₀ (uartDataRead r s) := by
  unfold Sys2Proof.Machine.uartDataRead
  split
  · exact .updRq h
  · extract_lets
    exact .updRq (.uartShow (.others h))

theorem Keeps.uartTxSent (h : Keeps m s₀ s) : Keeps m s₀ (uartTxSent s) := by
  unfold Sys2Proof.Machine.uartTxSent
  split
  exacts [h, .uartShow (.others h)]

theorem Keeps.smbAnswer {cmd d} (h : Keeps m s₀ s) : Keeps m s₀ (s.smbAnswer cmd d) := by
  unfold State.smbAnswer
  extract_lets
  exact .others h

theorem Keeps.smbSafe (h : Keeps m s₀ s) : Keeps m s₀ (smbSafe s) := by
  unfold Sys2Proof.Machine.smbSafe
  exact .smbAnswer h

theorem Keeps.smbTemp (h : Keeps m s₀ s) : Keeps m s₀ (smbTemp s) := by
  unfold Sys2Proof.Machine.smbTemp
  exact .smbAnswer h

theorem Keeps.smbStage (h : Keeps m s₀ s) : Keeps m s₀ (smbStage s) := by
  unfold Sys2Proof.Machine.smbStage
  exact .smbAnswer h

theorem Keeps.smbId (h : Keeps m s₀ s) : Keeps m s₀ (smbId s) := by
  unfold Sys2Proof.Machine.smbId
  exact .smbAnswer h

theorem Keeps.smbChip (h : Keeps m s₀ s) : Keeps m s₀ (smbChip s) := by
  unfold Sys2Proof.Machine.smbChip
  exact .smbAnswer h

theorem Keeps.smbAra (h : Keeps m s₀ s) : Keeps m s₀ (smbAra s) := by
  unfold Sys2Proof.Machine.smbAra
  exact .others h

theorem Keeps.tapLoad {ir out} (h : Keeps m s₀ s) : Keeps m s₀ (s.tapLoad ir out) := by
  unfold State.tapLoad
  exact .others h

theorem Keeps.jtagReset (h : Keeps m s₀ s) : Keeps m s₀ (jtagReset s) := by
  unfold Sys2Proof.Machine.jtagReset
  exact .tapLoad h

theorem Keeps.jtagBypass {tdi} (h : Keeps m s₀ s) : Keeps m s₀ (jtagBypass tdi s) := by
  unfold Sys2Proof.Machine.jtagBypass
  exact .tapLoad h

theorem Keeps.jtagIdcode (h : Keeps m s₀ s) : Keeps m s₀ (jtagIdcode s) := by
  unfold Sys2Proof.Machine.jtagIdcode
  exact .tapLoad h

theorem Keeps.jtagSample {cells load} (h : Keeps m s₀ s) : Keeps m s₀ (jtagSample cells load s) := by
  unfold Sys2Proof.Machine.jtagSample
  extract_lets
  exact .others (.tapLoad h)

theorem Keeps.jtagExtest {cells load} (h : Keeps m s₀ s) : Keeps m s₀ (jtagExtest cells load s) := by
  unfold Sys2Proof.Machine.jtagExtest
  extract_lets
  exact .others (.tapLoad h)

theorem Keeps.jtagClamp {tdi} (h : Keeps m s₀ s) : Keeps m s₀ (jtagClamp tdi s) := by
  unfold Sys2Proof.Machine.jtagClamp
  exact .tapLoad h

theorem Keeps.jtagHighz {tdi} (h : Keeps m s₀ s) : Keeps m s₀ (jtagHighz tdi s) := by
  unfold Sys2Proof.Machine.jtagHighz
  exact .tapLoad h

theorem Keeps.vidStep (h : Keeps m s₀ s) : Keeps m s₀ (vidStep s) := by
  unfold Sys2Proof.Machine.vidStep
  split
  · extract_lets
    exact .others h
  · exact h

/-! ### Pattern memory -/

theorem Keeps.inorderShow {p} (h : Keeps m s₀ s) : Keeps m s₀ (s.inorderShow p) := by
  unfold State.inorderShow
  exact .put h

theorem Keeps.enqueueEnt {wr level addr len} (h : Keeps m s₀ s) : Keeps m s₀ (enqueueEnt s wr level addr len) := by
  unfold Sys2Proof.Machine.enqueueEnt
  extract_lets _ _ _ _ _ _ _ s1
  have h1 : Keeps m s₀ s1 := .updPc (.others (.updBank h))
  exact .ite (.inorderShow (.bump h1)) h1

theorem Keeps.enqueueAll {wr level l} (h : Keeps m s₀ s) : Keeps m s₀ (enqueueAll wr level l s) := by
  induction l generalizing s with
  | nil => exact h
  | cons a as ih =>
    unfold Sys2Proof.Machine.enqueueAll
    exact .ite (ih (.enqueueEnt h)) (.others h)

theorem Keeps.releaseHeld {k} (h : Keeps m s₀ s) : Keeps m s₀ (releaseHeld k s) := by
  induction k generalizing s with
  | zero => exact h
  | succ k ih =>
    unfold Sys2Proof.Machine.releaseHeld
    split
    · exact h
    · exact .ite (ih (.enqueueEnt (.others h))) h

theorem Keeps.serveOne {p bk} (h : Keeps m s₀ s) : Keeps m s₀ (serveOne p bk s) := by
  unfold Sys2Proof.Machine.serveOne
  split
  · exact h
  · extract_lets _ s1
    have h1 : Keeps m s₀ s1 := .updBank h
    exact .inorderShow (.updPc (.when h1 fun h => .updPc h1))

theorem Keeps.serveRead {p bk addr k} (h : Keeps m s₀ s) : Keeps m s₀ (serveRead p bk addr k s) := by
  induction k generalizing s with
  | zero => exact h
  | succ k ih =>
    unfold Sys2Proof.Machine.serveRead
    exact .ite (ih (.serveOne h)) h

theorem Keeps.readServed {a n} (h : Keeps m s₀ s) : Keeps m s₀ (s.readServed a n) := by
  unfold State.readServed
  exact .releaseHeld (.foldl h fun h => by
      extract_lets
      exact .serveRead h)

theorem Keeps.drainWrites {p bk k} (h : Keeps m s₀ s) : Keeps m s₀ (drainWrites p bk k s) := by
  induction k generalizing s with
  | zero => exact h
  | succ k ih =>
    unfold Sys2Proof.Machine.drainWrites
    exact .ite (ih (.serveOne h)) h

theorem Keeps.memcEnqueue {wr addr len level} (h : Keeps m s₀ s) : Keeps m s₀ (memcEnqueue wr addr len level s) := by
  unfold Sys2Proof.Machine.memcEnqueue
  split
  · extract_lets
    exact .enqueueAll h
  · exact h

theorem Keeps.inorderExit {p bk} (h : Keeps m s₀ s) : Keeps m s₀ (inorderExit p bk s) := by
  unfold Sys2Proof.Machine.inorderExit
  split
  · exact h
  · extract_lets
    exact .releaseHeld (.inorderShow (.updBank h))

theorem Keeps.refreshBank {key} (h : Keeps m s₀ s) : Keeps m s₀ (refreshBank s key) := by
  unfold Sys2Proof.Machine.refreshBank
  extract_lets
  exact .ite h (.ite (.put (.updBank h)) h)

theorem Keeps.refreshInterval (h : Keeps m s₀ s) : Keeps m s₀ (refreshInterval s) := by
  unfold Sys2Proof.Machine.refreshInterval
  exact .each h fun h => .refreshBank h

theorem Keeps.refreshIssue {p bk} (h : Keeps m s₀ s) : Keeps m s₀ (refreshIssue p bk s) := by
  unfold Sys2Proof.Machine.refreshIssue
  extract_lets
  exact .ite (.updBank h) h

theorem Keeps.refreshAllBank {p} (h : Keeps m s₀ s) : Keeps m s₀ (refreshAllBank p s) := by
  unfold Sys2Proof.Machine.refreshAllBank
  split
  · extract_lets
    exact .put (.bump (.each h fun h => .updBank h))
  · exact h

theorem Keeps.stackTemp {t'} (h : Keeps m s₀ s) : Keeps m s₀ (stackTemp t' s) := by
  unfold Sys2Proof.Machine.stackTemp
  extract_lets _ _ s1
  have h1 : Keeps m s₀ s1 := .put (.put h)
  exact .when h1 fun h => .put h1

theorem Keeps.beginSession {p} (h : Keeps m s₀ s) : Keeps m s₀ (s.beginSession p) := by
  unfold State.beginSession
  extract_lets
  exact .others (.put (.put h))

theorem Keeps.retrainStart (h : Keeps m s₀ s) : Keeps m s₀ (retrainStart s) := by
  unfold Sys2Proof.Machine.retrainStart
  split
  · split
    exacts [h, .beginSession (.others h)]
  · exact h

theorem Keeps.retrainSlice {start} (h : Keeps m s₀ s) : Keeps m s₀ (retrainSlice start s) := by
  unfold Sys2Proof.Machine.retrainSlice
  split
  · extract_lets _ s1
    have h1 : Keeps m s₀ s1 := .put h
    exact .ite (.others h1) h1
  · exact h

theorem Keeps.retrainEnd {ok} (h : Keeps m s₀ s) : Keeps m s₀ (retrainEnd ok s) := by
  unfold Sys2Proof.Machine.retrainEnd
  split
  · extract_lets _ _ s1 s2
    have h1 : Keeps m s₀ s1 := .bump (.put (.put h))
    have h2 : Keeps m s₀ s2 := .when h1 fun h => .put (.bump h1)
    split
    exacts [.beginSession (.others h2), h2]
  · exact h

theorem Keeps.retrainRequest {p} (h : Keeps m s₀ s) : Keeps m s₀ (retrainRequest p s) := by
  unfold Sys2Proof.Machine.retrainRequest
  exact .ite (.others h) (.beginSession h)

theorem Keeps.retrainCtrlWrite {v} (h : Keeps m s₀ s) : Keeps m s₀ (retrainCtrlWrite v s) := by
  unfold Sys2Proof.Machine.retrainCtrlWrite
  extract_lets
  exact .ledgerRefresh (.put (.plainWrite h))

theorem Keeps.powerEnter {p} (h : Keeps m s₀ s) : Keeps m s₀ (powerEnter p s) := by
  unfold Sys2Proof.Machine.powerEnter
  split
  · extract_lets
    exact .put (.each h fun h => .updBank h)
  · exact h

theorem Keeps.pcWake {p} (h : Keeps m s₀ s) : Keeps m s₀ (pcWake p s) := by
  unfold Sys2Proof.Machine.pcWake
  split
  · extract_lets s1
    have h1 : Keeps m s₀ s1 := .updPc h
    exact .when h1 fun h => .put h1
  · exact h

theorem Keeps.pcWakeDone {p} (h : Keeps m s₀ s) : Keeps m s₀ (pcWakeDone p s) := by
  unfold Sys2Proof.Machine.pcWakeDone
  split
  · extract_lets
    exact .updPc (.put (.put h))
  · exact h

theorem Keeps.wakeForTol (h : Keeps m s₀ s) : Keeps m s₀ (s.wakeForTol) := by
  unfold State.wakeForTol
  exact .each h fun h => .ite (.pcWakeDone (.pcWake h)) h

theorem Keeps.eccWriteback {burst} (h : Keeps m s₀ s) : Keeps m s₀ (eccWriteback burst s) := by
  unfold Sys2Proof.Machine.eccWriteback
  extract_lets
  exact .ite (.others h) h

/-! ### Interval measurement -/

theorem Keeps.tdcEvent {k b} (h : Keeps m s₀ s) : Keeps m s₀ (s.tdcEvent k b) := by
  unfold State.tdcEvent
  exact .putBit h

theorem Keeps.tdcEnd {k u} (h : Keeps m s₀ s) : Keeps m s₀ (s.tdcEnd k u) := by
  unfold State.tdcEnd
  extract_lets s1
  have h1 : Keeps m s₀ s1 := .tdcNote h
  exact .ite (.updTdc h1) (.tdcEvent (.put h1))

theorem Keeps.tdcAbortUnit {k u cause} (h : Keeps m s₀ s) : Keeps m s₀ (s.tdcAbortUnit k u cause) := by
  unfold State.tdcAbortUnit
  extract_lets
  exact .ite (.tdcEvent (.updTdc (.put (.put (.tdcNote h))))) h

theorem Keeps.tdcArm {k u} (h : Keeps m s₀ s) : Keeps m s₀ (tdcArm k u s) := by
  unfold Sys2Proof.Machine.tdcArm
  extract_lets
  exact .ite (.put h) (.ite (.put h) (.ite (.put h) (.tdcNote (.updTdc (.putN (.clearRegs h))))))

theorem Keeps.tdcAbort {k u} (h : Keeps m s₀ s) : Keeps m s₀ (tdcAbort k u s) := by
  unfold Sys2Proof.Machine.tdcAbort
  exact .tdcAbortUnit h

theorem Keeps.tdcCmdWrite {k u v} (h : Keeps m s₀ s) : Keeps m s₀ (s.tdcCmdWrite k u v) := by
  unfold State.tdcCmdWrite
  exact .ite (.tdcAbort h) (.ite (.tdcArm h) h)

theorem Keeps.tdcStart {k u c p fall} (h : Keeps m s₀ s) : Keeps m s₀ (tdcStart k u c p fall s) := by
  unfold Sys2Proof.Machine.tdcStart
  extract_lets
  exact .ite (.ite (.bump h) (.tdcNote (.updTdc (.putPair (.put h))))) h

theorem Keeps.tdcStop {k u c p fall} (h : Keeps m s₀ s) : Keeps m s₀ (tdcStop k u c p fall s) := by
  unfold Sys2Proof.Machine.tdcStop
  extract_lets _ _ _ s1 _ _ _ s2
  have h1 : Keeps m s₀ s1 := .updTdc h
  have h2 : Keeps m s₀ s2 := .put (.putN (.putN h1))
  split
  · split
    · exact h
    · exact .ite (.bump h) (.ite h (.ite (.bump h1) (.ite (.put (.bump h1)) (.when h2 fun h => .tdcEnd h2))))
  · exact h

theorem Keeps.tdcClose {k u} (h : Keeps m s₀ s) : Keeps m s₀ (tdcClose k u s) := by
  unfold Sys2Proof.Machine.tdcClose
  exact .ite (.tdcEnd h) h

theorem Keeps.tdcRearm {k u} (h : Keeps m s₀ s) : Keeps m s₀ (tdcRearm k u s) := by
  unfold Sys2Proof.Machine.tdcRearm
  extract_lets _ _ _ s1
  have h1 : Keeps m s₀ s1 := .updTdc (.bump (.ite (.bump h) (.ite (.bump h) (.ite (.bump h) (.bump h)))))
  exact .ite (.ite (.tdcEvent (.put h1)) (.put (.put h1))) h

/-! ### Calibration -/

theorem Keeps.setNib {k a v} (h : Keeps m s₀ s) : Keeps m s₀ (s.setNib k a v) := by
  unfold State.setNib
  exact .put h

theorem Keeps.updCal {k f} (h : Keeps m s₀ s) : Keeps m s₀ (s.updCal k f) := by
  unfold State.updCal
  exact .others h

theorem Keeps.updSpan {f} (h : Keeps m s₀ s) : Keeps m s₀ (s.updSpan f) := by
  unfold State.updSpan
  exact .others h

theorem Keeps.calRefuse {k a v} (h : Keeps m s₀ s) : Keeps m s₀ (s.calRefuse k a v) := by
  unfold State.calRefuse
  exact .bump (.setNib h)

theorem Keeps.calStart {k a} (h : Keeps m s₀ s) : Keeps m s₀ (s.calStart k a) := by
  unfold State.calStart
  extract_lets _ s1
  have h1 : Keeps m s₀ s1 := .updCal (.put (.setNib h))
  exact .ite (.each h1 fun h => .tdcAbortUnit h) (.ite h1 (.put h1))

theorem Keeps.calNext {k l} (h : Keeps m s₀ s) : Keeps m s₀ (calNext k l s) := by
  induction l generalizing s with
  | nil => exact h
  | cons a l ih =>
    unfold Sys2Proof.Machine.calNext
    split
    · split
      exacts [ih (.calRefuse h), .calStart h]
    · exact ih h

theorem Keeps.calRequest {k a noqueue} (h : Keeps m s₀ s) : Keeps m s₀ (calRequest k a noqueue s) := by
  unfold Sys2Proof.Machine.calRequest
  extract_lets
  split
  · exact .bump h
  · split
    · exact .setNib h
    · split
      exacts [.calRefuse h, .ite (.calStart h) (.ite (.calRefuse h) (.setNib h))]

theorem Keeps.calCancel {k acts} (h : Keeps m s₀ s) : Keeps m s₀ (calCancel k acts s) := by
  unfold Sys2Proof.Machine.calCancel
  exact .each h fun h => .ite (.setNib h) h

theorem Keeps.calCmdWrite {v} (h : Keeps m s₀ s) : Keeps m s₀ (s.calCmdWrite v) := by
  unfold State.calCmdWrite
  extract_lets
  exact .ite (.calCancel h) (.each h fun h => .ite (.calRequest h) h)

theorem Keeps.calEnd {k a v} (h : Keeps m s₀ s) : Keeps m s₀ (s.calEnd k a v) := by
  unfold State.calEnd
  extract_lets _ s1 _ s2 s3
  have h1 : Keeps m s₀ s1 := .put (.put (.setNib h))
  have h2 : Keeps m s₀ s2 := .updCal (.when h1 fun h => .logEvent (.put (.bump h1)))
  have h3 : Keeps m s₀ s3 := .when h2 fun h => .bump h2
  exact .calNext (.ite (.mcNext (.put h3)) h3)

theorem Keeps.slewSet {k i v} (h : Keeps m s₀ s) : Keeps m s₀ (s.slewSet k i v) := by
  unfold State.slewSet
  exact .ite (.put h) (.updCal h)

theorem Keeps.slewTo {k base vals} (h : Keeps m s₀ s) : Keeps m s₀ (s.slewTo k base vals) := by
  unfold State.slewTo
  extract_lets
  exact .put (.updCal h)

theorem Keeps.tdcCalEnd {k hits bad} (h : Keeps m s₀ s) : Keeps m s₀ (s.tdcCalEnd k hits bad) := by
  unfold State.tdcCalEnd
  extract_lets _ s1
  have h1 : Keeps m s₀ s1 := .each h fun h => by
      extract_lets
      exact .put (.put (.put (.foldl h fun h => .put h)))
  exact .ite (.calEnd h1) (.calEnd (.put (.each h fun h => .put h)))

theorem Keeps.calActivityEnd {k bad hits vals} (h : Keeps m s₀ s) : Keeps m s₀ (calActivityEnd k bad hits vals s) := by
  unfold Sys2Proof.Machine.calActivityEnd
  extract_lets
  exact .ite h (.ite (.ite (.tdcCalEnd h) h) (.ite (.ite h (.ite (.calEnd h) (.slewTo h))) h))

theorem Keeps.calApplied {k} (h : Keeps m s₀ s) : Keeps m s₀ (s.calApplied k) := by
  unfold State.calApplied
  extract_lets
  exact .ite (.calEnd (.ite (.put (.putPair (.put h))) h)) h

theorem Keeps.skewStep {n} (h : Keeps m s₀ s) : Keeps m s₀ (s.skewStep n) := by
  unfold State.skewStep
  extract_lets
  exact .put h

theorem Keeps.calSlewTick {k site} (h : Keeps m s₀ s) : Keeps m s₀ (calSlewTick k site s) := by
  unfold Sys2Proof.Machine.calSlewTick
  extract_lets _ _ _ s1
  have h1 : Keeps m s₀ s1 := .updCal (.each h fun h => .slewSet h)
  exact .ite (.calApplied (.put h1)) h1

theorem Keeps.calAbortArm {k} (h : Keeps m s₀ s) : Keeps m s₀ (s.calAbortArm k) := by
  unfold State.calAbortArm
  extract_lets
  exact .ite (.calEnd (.ite (.updCal h) h)) h

theorem Keeps.goAsk {n} (h : Keeps m s₀ s) : Keeps m s₀ (s.goAsk n) := by
  unfold State.goAsk
  exact .spanAll h

theorem Keeps.spanEnd {res} (h : Keeps m s₀ s) : Keeps m s₀ (s.spanEnd res) := by
  unfold State.spanEnd
  split
  · exact h
  · extract_lets _ _ _ s1 s2 _ s3
    have h1 : Keeps m s₀ s1 := .put (.put (.updSpan h))
    have h2 : Keeps m s₀ s2 := .when h1 fun h => .put h1
    have h3 : Keeps m s₀ s3 := .each (.when h2 fun h => .logEvent (.put (.bump h2))) fun h => by
        extract_lets s4
        have h4 : Keeps m s₀ s4 := .when h fun h => .put h
        exact .ite (.calNext h4) h4
    exact .when h3 fun h => .goAsk h3

theorem Keeps.spanTake {n} (h : Keeps m s₀ s) : Keeps m s₀ (s.spanTake n) := by
  unfold State.spanTake
  split
  · extract_lets
    exact .updSpan (.each h fun h => .updCal (.put h))
  · exact h

theorem Keeps.calSpanStart {n noqueue} (h : Keeps m s₀ s) : Keeps m s₀ (calSpanStart n noqueue s) := by
  unfold Sys2Proof.Machine.calSpanStart
  extract_lets s1 _ _ s2
  have h1 : Keeps m s₀ s1 := .put h
  have h2 : Keeps m s₀ s2 := .spanTake (.put (.put (.updSpan h1)))
  exact .ite (.put h1) (.ite (.put h1) (.ite (.spanEnd h2) h2))

theorem Keeps.calSpanWrite {v} (h : Keeps m s₀ s) : Keeps m s₀ (s.calSpanWrite v) := by
  unfold State.calSpanWrite
  exact .ite (.calSpanStart h) h

theorem Keeps.spanSkewHold {n} (h : Keeps m s₀ s) : Keeps m s₀ (spanSkewHold n s) := by
  unfold Sys2Proof.Machine.spanSkewHold
  split
  · exact .ite (.spanTake h) h
  · split
    · extract_lets
      exact .spanTake (.put (.put (.put (.updSpan h))))
    · exact h

theorem Keeps.spanBusyTimeout (h : Keeps m s₀ s) : Keeps m s₀ (spanBusyTimeout s) := by
  unfold Sys2Proof.Machine.spanBusyTimeout
  exact .ite (.spanEnd h) h

theorem Keeps.spanBarrier {off} (h : Keeps m s₀ s) : Keeps m s₀ (spanBarrier off s) := by
  unfold Sys2Proof.Machine.spanBarrier
  split
  · split
    · extract_lets _ s1
      have h1 : Keeps m s₀ s1 := .put (.updSpan h)
      exact .ite (.spanAll h1) h1
    · exact h
  · exact h

theorem Keeps.spanSkewEnd {up bad} (h : Keeps m s₀ s) : Keeps m s₀ (spanSkewEnd up bad s) := by
  unfold Sys2Proof.Machine.spanSkewEnd
  split
  · split
    · split
      rename_i _ s1 e1
      have h1 := Keeps.of_snd e1 (.roundFree h)
      split
      · exact .spanEnd h1
      · extract_lets s2
        have h2 : Keeps m s₀ s2 := .put (.updSpan h1)
        exact .ite (.spanEnd h2) h2
    · exact h
  · exact h

theorem Keeps.spanSlew {site} (h : Keeps m s₀ s) : Keeps m s₀ (s.spanSlew site) := by
  unfold State.spanSlew
  split
  · split
    · extract_lets s1
      have h1 : Keeps m s₀ s1 := .skewStep h
      exact .ite (.spanEnd h1) h1
    · exact h
  · exact h

theorem Keeps.spanAbort {n res} (h : Keeps m s₀ s) : Keeps m s₀ (s.spanAbort n res) := by
  unfold State.spanAbort
  exact .ite (.spanEnd h) h

theorem Keeps.driftRead {k c} (h : Keeps m s₀ s) : Keeps m s₀ (s.driftRead k c).2 := by
  unfold State.driftRead
  split
  · exact .snd_mk h
  · extract_lets
    exact .snd_mk (.freeBits h)

theorem Keeps.driftSet {k d} (h : Keeps m s₀ s) : Keeps m s₀ (s.driftSet k d) := by
  unfold State.driftSet
  extract_lets _ _ _ s1
  have h1 : Keeps m s₀ s1 := .put (.updCal (.put h))
  exact .when h1 fun h => .put h1

theorem Keeps.ephRead {counts} (h : Keeps m s₀ s) : Keeps m s₀ (ephRead counts s) := by
  unfold Sys2Proof.Machine.ephRead
  split
  · exact .bump h
  · split
    · exact h
    · extract_lets s1
      have h1 : Keeps m s₀ s1 := .foldl h fun h => by
          extract_lets
          exact .driftSet (.driftRead h)
      exact .put (.put h1)

theorem Keeps.updLedger {f} (h : Keeps m s₀ s) : Keeps m s₀ (s.updLedger f) := by
  unfold State.updLedger
  exact .others h

theorem Keeps.monthMeans (h : Keeps m s₀ s) : Keeps m s₀ s.monthMeans.2 := by
  refine .foldl_acc Prod.snd h fun h => ?_
  extract_lets
  split
  · exact .snd_mk (.freeBits h)
  · exact .snd_mk (.roundFree h)

theorem Keeps.ephRecord (h : Keeps m s₀ s) : Keeps m s₀ (ephRecord s) := by
  unfold Sys2Proof.Machine.ephRecord
  split
  rename_i _ s1 e1
  have h1 := Keeps.of_snd e1 (.monthMeans h)
  extract_lets
  split
  · extract_lets s2
    have h2 : Keeps m s₀ s2 := by
      unfold s2
      split
      exacts [.put (.put (.put h1)), .put (.put h1)]
    split
    rename_i _ s3 e3
    have h3 := Keeps.of_snd e3 (.roundFree (.when h2 fun h => .put h2))
    extract_lets
    exact .put (.putN (.each (.updLedger (.put (.put (.put h3)))) fun h => .updCal h))

/-! ### Sites -/

theorem Keeps.siteCmd {n} {f : State → State} (h : Keeps m s₀ s)
    (hf : ∀ {t}, Keeps m s₀ t → Keeps m s₀ (f t)) : Keeps m s₀ (s.siteCmd n f) := .ite (.put h) (hf h)

theorem Keeps.siteArm {n} (h : Keeps m s₀ s) : Keeps m s₀ (siteArm n s) := by
  unfold Sys2Proof.Machine.siteArm
  exact .siteCmd h (fun h => by
      extract_lets _ _ s1 s2 s3
      have h1 : Keeps m s₀ s1 := .put h
      have h2 : Keeps m s₀ s2 := .ite (.put (.put h1)) h1
      have h3 : Keeps m s₀ s3 := .ite (.put (.put h2)) h2
      exact .ite (.strmArm (.updCapt (.put (.updSite h3)))) (.updSite h3))

theorem Keeps.ctxArm {n} (h : Keeps m s₀ s) : Keeps m s₀ (s.ctxArm n) := by
  unfold State.ctxArm
  extract_lets
  exact .enter (.setsShow (.each (.updStrm (.updSeq h)) fun h => .setLevels (.updChan h)))

theorem Keeps.siteArmDone {n} (h : Keeps m s₀ s) : Keeps m s₀ (siteArmDone n s) := by
  unfold Sys2Proof.Machine.siteArmDone
  extract_lets _ _ s1
  have h1 : Keeps m s₀ s1 := .updSite (.put (.put (.put h)))
  exact .ite (.ite (.each (.ctxArm (.captArm (.updGov (.setWord (.put (.put (.put (.put (.setSiteState (.ecArm
      (.clearRegs h1))))))))))) fun h => .calAbortArm h) h1) h

theorem Keeps.siteDisarm {n} (h : Keeps m s₀ s) : Keeps m s₀ (siteDisarm n s) := by
  unfold Sys2Proof.Machine.siteDisarm
  exact .siteCmd h (fun h => by
      extract_lets _ s1
      have h1 : Keeps m s₀ s1 := .spanAbort (.updSite (.put h))
      exact .ite (.seqAbort h1) h1)

theorem Keeps.siteDisarmDone {n} (h : Keeps m s₀ s) : Keeps m s₀ (siteDisarmDone n s) := by
  unfold Sys2Proof.Machine.siteDisarmDone
  extract_lets
  exact .ite (.put (.put (.updSite (.ite h (.setSiteState (.updSeq (.setWord (.each (.lanesHalt (.chargeRelease (.ecDisarm
      (.strmDisarm (.artClear h))))) fun h => .updChan h)))))))) h

theorem Keeps.goResult {n r} (h : Keeps m s₀ s) : Keeps m s₀ (s.goResult n r) := by
  unfold State.goResult
  exact .put (.put h)

theorem Keeps.siteGo {n} (h : Keeps m s₀ s) : Keeps m s₀ (siteGo n s) := by
  unfold Sys2Proof.Machine.siteGo
  exact .siteCmd h (fun h => by
      extract_lets _ s1
      have h1 : Keeps m s₀ s1 := .updSite (.setSiteState h)
      exact .ite (.goResult h) (.ite (.goResult h) (.ite h1 (.ite (.updSpan h1) (.goAsk h1)))))

theorem Keeps.goCancel {n r} (h : Keeps m s₀ s) : Keeps m s₀ (s.goCancel n r) := by
  unfold State.goCancel
  extract_lets
  exact .updSite (.setSiteState (.goResult (.spanAll h)))

theorem Keeps.goAnswer {n idx lat chips} (h : Keeps m s₀ s) : Keeps m s₀ (s.goAnswer n idx lat chips) := by
  unfold State.goAnswer
  extract_lets _ s1
  have h1 : Keeps m s₀ s1 := .updSite h
  exact .ite h (.ite (.goCancel h) (.ite (.updSite (.spanAll h1)) h1))

theorem Keeps.goSchedule {n} (h : Keeps m s₀ s) : Keeps m s₀ (goSchedule n s) := by
  unfold Sys2Proof.Machine.goSchedule
  extract_lets _ _ s1
  have h1 : Keeps m s₀ s1 := .updSite h
  exact .ite (.ite (.updSite h) (.ite (.goAnswer h1) (.spanSend h1))) h

theorem Keeps.siteStart {n} (h : Keeps m s₀ s) : Keeps m s₀ (siteStart n s) := by
  unfold Sys2Proof.Machine.siteStart
  split
  · split
    · extract_lets
      exact .startPlay (.updSite (.goResult (.putPair h)))
    · exact h
  · exact h

theorem Keeps.goTimeout {n} (h : Keeps m s₀ s) : Keeps m s₀ (goTimeout n s) := by
  unfold Sys2Proof.Machine.goTimeout
  extract_lets
  exact .ite (.updSpan (.goCancel h)) h

theorem Keeps.spanIn {k ttl sp src typ blocks} {f : Nat → State → State} (h : Keeps m s₀ s)
    (hf : ∀ {n t}, Keeps m s₀ t → Keeps m s₀ (f n t)) : Keeps m s₀ (s.spanIn k ttl sp src typ blocks f) := by
  unfold State.spanIn
  extract_lets s1
  have h1 : Keeps m s₀ s1 := .passOn h
  split
  exacts [hf h1, h1]

theorem Keeps.hear {n idx} (h : Keeps m s₀ s) : Keeps m s₀ (s.hear n idx) := by
  unfold State.hear
  exact .updSite h

theorem Keeps.goReq {k ttl sp src} (h : Keeps m s₀ s) : Keeps m s₀ (goReq k ttl sp src s) := by
  unfold Sys2Proof.Machine.goReq
  exact .spanIn h (fun h => by
      extract_lets s1
      have h1 : Keeps m s₀ s1 := .hear h
      exact .ite (.updSite (.setSiteState h1)) h1)

theorem Keeps.unicastIn {msg : Msg} {f : State → State} (h : Keeps m s₀ s)
    (hf : ∀ {t}, Keeps m s₀ t → Keeps m s₀ (f t)) : Keeps m s₀ (s.unicastIn msg f) := by
  unfold State.unicastIn
  split
  · exact hf h
  · exact .ite h (.sendTo h)

theorem Keeps.goReadyIn {dest src sp idx lat chips} (h : Keeps m s₀ s) :
    Keeps m s₀ (goReadyIn dest src sp idx lat chips s) := by
  unfold Sys2Proof.Machine.goReadyIn
  exact .unicastIn h (fun h => by
      split
      · extract_lets s1
        have h1 : Keeps m s₀ s1 := .hear h
        exact .ite (.goAnswer h1) h1
      · exact h)

theorem Keeps.goIn {k ttl sp src t'} (h : Keeps m s₀ s) : Keeps m s₀ (goIn k ttl sp src t' s) := by
  unfold Sys2Proof.Machine.goIn
  exact .spanIn h (fun h => by
      extract_lets s1
      have h1 : Keeps m s₀ s1 := .hear h
      exact .ite (.ite (.asyncHalt (.put (.put (.put h1)))) (.updSite h1)) h1)

theorem Keeps.goCancelIn {k ttl sp src} (h : Keeps m s₀ s) : Keeps m s₀ (goCancelIn k ttl sp src s) := by
  unfold Sys2Proof.Machine.goCancelIn
  exact .spanIn h (fun h => by
      extract_lets s1
      have h1 : Keeps m s₀ s1 := .hear h
      exact .ite (.updSite (.setSiteState h1)) h1)

theorem Keeps.arriveIn {dest src sp idx} (h : Keeps m s₀ s) : Keeps m s₀ (arriveIn dest src sp idx s) := by
  unfold Sys2Proof.Machine.arriveIn
  exact .unicastIn h (fun h => by
      split
      exacts [.ite (.arrival (.hear h)) h, h])

theorem Keeps.releaseIn {k ttl sp src t'} (h : Keeps m s₀ s) : Keeps m s₀ (releaseIn k ttl sp src t' s) := by
  unfold Sys2Proof.Machine.releaseIn
  exact .spanIn h (fun h => by
      extract_lets s1
      have h1 : Keeps m s₀ s1 := .hear h
      split
      exacts [.ite (.release h1) h1, h1])

theorem Keeps.dtArriveIn {src site} (h : Keeps m s₀ s) : Keeps m s₀ (dtArriveIn src site s) := by
  unfold Sys2Proof.Machine.dtArriveIn
  split
  · exact .dtArrival h
  · split
    exacts [.ite h (.sendOn h), h]

theorem Keeps.dtReleaseIn {src t'} (h : Keeps m s₀ s) : Keeps m s₀ (dtReleaseIn src t' s) := by
  unfold Sys2Proof.Machine.dtReleaseIn
  extract_lets
  exact .dtRelease (.ite h (.sendAll h))

theorem Keeps.transitResume {n} (h : Keeps m s₀ s) : Keeps m s₀ (transitResume n s) := by
  unfold Sys2Proof.Machine.transitResume
  split
  · split
    · extract_lets
      exact .resumePlay (.updSite (.putPair h))
    · exact h
  · exact h

theorem Keeps.transitTimeout {n} (h : Keeps m s₀ s) : Keeps m s₀ (transitTimeout n s) := by
  unfold Sys2Proof.Machine.transitTimeout
  split
  exacts [.ite (.haltSite h) h, h]

theorem Keeps.spanSlip {n miss} (h : Keeps m s₀ s) : Keeps m s₀ (s.spanSlip n miss) := by
  unfold State.spanSlip
  extract_lets
  exact .each (.bump (.put (.invalidate h))) fun h => .putBit h

theorem Keeps.spanFlagDeadline {n} (h : Keeps m s₀ s) : Keeps m s₀ (spanFlagDeadline n s) := by
  unfold Sys2Proof.Machine.spanFlagDeadline
  extract_lets
  split
  · exact h
  · split
    · exact h
    · extract_lets _ _ _ _ _ _ _ _ s1
      have h1 : Keeps m s₀ s1 := .updPlay (.updSite h)
      exact .ite h1 (.spanSlip h1)

theorem Keeps.flagsMsg {k ttl sp src idx q bits notice} (h : Keeps m s₀ s) :
    Keeps m s₀ (flagsMsg k ttl sp src idx q bits notice s) := by
  unfold Sys2Proof.Machine.flagsMsg
  extract_lets _ s1
  have h1 : Keeps m s₀ s1 := .passOn h
  split
  · exact h1
  · extract_lets s2
    have h2 : Keeps m s₀ s2 := .hear h1
    split
    · exact .ite (.updSite h2) (.bump h2)
    · split
      · extract_lets _ s3
        have h3 : Keeps m s₀ s3 := .updSite h2
        exact .ite (.spanSlip h3) h3
      · exact .bump h2

theorem Keeps.heartbeatTimer {n} (h : Keeps m s₀ s) : Keeps m s₀ (heartbeatTimer n s) := by
  unfold Sys2Proof.Machine.heartbeatTimer
  exact .ite (.spanCast h) h

theorem Keeps.heartbeat {k ttl sp src idx} (h : Keeps m s₀ s) : Keeps m s₀ (heartbeat k ttl sp src idx s) := by
  unfold Sys2Proof.Machine.heartbeat
  extract_lets s1
  have h1 : Keeps m s₀ s1 := .passOn h
  split
  exacts [.hear h1, h1]

theorem Keeps.memberLost {n idx} (h : Keeps m s₀ s) : Keeps m s₀ (memberLost n idx s) := by
  unfold Sys2Proof.Machine.memberLost
  extract_lets _ _ s1
  have h1 : Keeps m s₀ s1 := .spanAbort (.updSite (.put (.putBit h)))
  exact .ite (.ite (.updSeq h1) (.ite (.asyncHalt h1) h1)) h

theorem Keeps.haltedMsg {k ttl sp src idx word} (h : Keeps m s₀ s) : Keeps m s₀ (haltedMsg k ttl sp src idx word s) := by
  unfold Sys2Proof.Machine.haltedMsg
  extract_lets s1
  have h1 : Keeps m s₀ s1 := .passOn h
  split
  · exact h1
  · extract_lets s2 _ s3
    have h2 : Keeps m s₀ s2 := .updSite (.hear h1)
    have h3 : Keeps m s₀ s3 := .ite (.asyncHalt h2) (.ite (.updSeq h2) (.ite (.asyncHalt h2) h2))
    exact .ite (.spanCheck h3) h3

theorem Keeps.spanResultTimeout {n} (h : Keeps m s₀ s) : Keeps m s₀ (spanResultTimeout n s) := by
  unfold Sys2Proof.Machine.spanResultTimeout
  extract_lets
  exact .ite (.spanFinish h) h

theorem Keeps.siteCmdWrite {n v} (h : Keeps m s₀ s) : Keeps m s₀ (s.siteCmdWrite n v) := by
  unfold State.siteCmdWrite
  extract_lets
  exact .ite (.siteArm h) (.ite (.siteDisarm h) (.ite (.siteGo h) (.siteCmd h (fun h => h))))

/-! ### Time bases -/

theorem Keeps.updTb {i f} (h : Keeps m s₀ s) : Keeps m s₀ (s.updTb i f) := by
  unfold State.updTb
  exact .others h

theorem Keeps.tbAdd {i d} (h : Keeps m s₀ s) : Keeps m s₀ (s.tbAdd i d) := by
  unfold State.tbAdd
  exact .putPair h

theorem Keeps.tbNewRate {i v} (h : Keeps m s₀ s) : Keeps m s₀ (s.tbNewRate i v) := by
  unfold State.tbNewRate
  extract_lets
  exact .updTb (.setWord (.tbAdd h))

theorem Keeps.timeDrop (h : Keeps m s₀ s) : Keeps m s₀ (s.timeDrop) := by
  unfold State.timeDrop
  exact .bump h

theorem Keeps.timeRateWrite {i v} (h : Keeps m s₀ s) : Keeps m s₀ (timeRateWrite i v s) := by
  unfold Sys2Proof.Machine.timeRateWrite
  exact .ite (.timeDrop h) (.tbNewRate h)

theorem Keeps.offsetCommit {i v} (h : Keeps m s₀ s) : Keeps m s₀ (s.offsetCommit i v) := by
  unfold State.offsetCommit
  split
  · exact .timeDrop h
  · extract_lets
    exact .updTb (.putPair h)

theorem Keeps.adjCommit {i v} (h : Keeps m s₀ s) : Keeps m s₀ (s.adjCommit i v) := by
  unfold State.adjCommit
  exact .ite (.timeDrop h) (.tbAdd h)

theorem Keeps.timeOffsetWrite {r i v} (h : Keeps m s₀ s) : Keeps m s₀ (timeOffsetWrite r i v s) := by
  unfold Sys2Proof.Machine.timeOffsetWrite
  extract_lets
  exact .offsetCommit (.takeStaged h)

theorem Keeps.timeAdjWrite {r i v} (h : Keeps m s₀ s) : Keeps m s₀ (timeAdjWrite r i v s) := by
  unfold Sys2Proof.Machine.timeAdjWrite
  extract_lets
  exact .adjCommit (.takeStaged h)

theorem Keeps.timeTbNsRead {r i} (h : Keeps m s₀ s) : Keeps m s₀ (timeTbNsRead r i s) := by
  unfold Sys2Proof.Machine.timeTbNsRead
  extract_lets
  exact .updRq h

theorem Keeps.stepped (h : Keeps m s₀ s) : Keeps m s₀ (s.stepped) := by
  unfold State.stepped
  exact .put (.bump h)

theorem Keeps.tb0Step {d} (h : Keeps m s₀ s) : Keeps m s₀ (s.tb0Step d) := by
  unfold State.tb0Step
  split
  · exact h
  · extract_lets
    exact .others (.put (.stepped (.tbAdd h)))

theorem Keeps.fallbackAdd (h : Keeps m s₀ s) : Keeps m s₀ (s.fallbackAdd) := by
  unfold State.fallbackAdd
  exact .tb0Step h

theorem Keeps.fallbackUpdate (h : Keeps m s₀ s) : Keeps m s₀ (s.fallbackUpdate) := by
  unfold State.fallbackUpdate
  extract_lets
  exact .ite (.fallbackAdd (.stepped (.put h))) (.ite (.stepped (.put h)) h)

theorem Keeps.fallbackStep (h : Keeps m s₀ s) : Keeps m s₀ (fallbackStep s) := by
  unfold Sys2Proof.Machine.fallbackStep
  exact .ite (.fallbackAdd h) h

theorem Keeps.timeCtrlWrite {v} (h : Keeps m s₀ s) : Keeps m s₀ (s.timeCtrlWrite v) := by
  unfold State.timeCtrlWrite
  extract_lets s1
  have h1 : Keeps m s₀ s1 := .put h
  exact .fallbackUpdate (.ite h1 (.put h1))

theorem Keeps.syncSendTimer (h : Keeps m s₀ s) : Keeps m s₀ (syncSendTimer s) := by
  unfold Sys2Proof.Machine.syncSendTimer
  exact .ite (.sendAll h) h

theorem Keeps.roundNearest {num den} (h : Keeps m s₀ s) : Keeps m s₀ (s.roundNearest num den).2 := by
  unfold State.roundNearest
  split
  · extract_lets
    exact .snd_mk (.freeBits h)
  · exact .snd_mk h

theorem Keeps.syncMsg {k t' corr res} (h : Keeps m s₀ s) : Keeps m s₀ (syncMsg k t' corr res s) := by
  unfold Sys2Proof.Machine.syncMsg
  split
  · exact h
  · extract_lets _ _ _ _ _ _ s1 _ _ s2 s3
    have h1 : Keeps m s₀ s1 := .fallbackUpdate (.put (.putN (.roundNearest h)))
    have h2 : Keeps m s₀ s2 := .others h1
    have h3 : Keeps m s₀ s3 := .ite (.tb0Step h1) (.when h2 fun h => .put h2)
    exact .ite h3 (.sendAll h3)

theorem Keeps.echoTimer (h : Keeps m s₀ s) : Keeps m s₀ (echoTimer s) := by
  unfold Sys2Proof.Machine.echoTimer
  exact .sendAll h

theorem Keeps.echoReq {k t' res} (h : Keeps m s₀ s) : Keeps m s₀ (echoReq k t' res s) := by
  unfold Sys2Proof.Machine.echoReq
  exact .ite (.sendOn h) h

theorem Keeps.setLat {k ps} (h : Keeps m s₀ s) : Keeps m s₀ (s.setLat k ps) := by
  unfold State.setLat
  exact .put (.putN h)

theorem Keeps.echoRsp {k t' res} (h : Keeps m s₀ s) : Keeps m s₀ (echoRsp k t' res s) := by
  unfold Sys2Proof.Machine.echoRsp
  extract_lets
  exact .setLat (.roundFree h)

theorem Keeps.syncMissed (h : Keeps m s₀ s) : Keeps m s₀ (syncMissed s) := by
  unfold Sys2Proof.Machine.syncMissed
  split
  · exact h
  · extract_lets
    exact .fallbackUpdate (.others (.bump (.put (.put (.put h)))))

theorem Keeps.tsqPush {e} (h : Keeps m s₀ s) : Keeps m s₀ (s.tsqPush e) := by
  unfold State.tsqPush
  split
  · exact .put (.put (.bump h))
  · extract_lets
    exact .put (.put (.others h))

theorem Keeps.ethFrameTransmit {d} (h : Keeps m s₀ s) : Keeps m s₀ (ethFrameTransmit d s) := by
  unfold Sys2Proof.Machine.ethFrameTransmit
  extract_lets
  split
  · exact .others h
  · extract_lets
    exact .ite (.tsqPush (.others h)) (.ite (.others h) (.others h))

theorem Keeps.ethFrameReceive {d ok} (h : Keeps m s₀ s) : Keeps m s₀ (ethFrameReceive d ok s) := by
  unfold Sys2Proof.Machine.ethFrameReceive
  extract_lets
  exact .others h

theorem Keeps.tsqFind {r v} (h : Keeps m s₀ s) : Keeps m s₀ (tsqFind r v s) := by
  unfold Sys2Proof.Machine.tsqFind
  extract_lets _ x1
  clear_value x1
  split
  · exact .updRq h
  · extract_lets
    exact .updRq (.put (.others h))

/-! ### The reference and the PLLs -/

theorem Keeps.enterHoldover (h : Keeps m s₀ s) : Keeps m s₀ (s.enterHoldover) := by
  unfold State.enterHoldover
  extract_lets s1
  have h1 : Keeps m s₀ s1 := .refInvalid (.put h)
  exact .when h1 fun h => .put h1

theorem Keeps.refclkLost (h : Keeps m s₀ s) : Keeps m s₀ (refclkLost s) := by
  unfold Sys2Proof.Machine.refclkLost
  split
  · extract_lets _ s1
    have h1 : Keeps m s₀ s1 := .bump (.put (.put (.put h)))
    exact .ite h1 (.enterHoldover h1)
  · exact h

theorem Keeps.refclkFreqErr {ppm} (h : Keeps m s₀ s) : Keeps m s₀ (refclkFreqErr ppm s) := by
  unfold Sys2Proof.Machine.refclkFreqErr
  split
  · extract_lets _ s1
    have h1 : Keeps m s₀ s1 := .when (.bump (.put (.put h))) fun h => .putN h
    exact .ite h1 (.enterHoldover h1)
  · exact h

theorem Keeps.refclkInWindow (h : Keeps m s₀ s) : Keeps m s₀ (refclkInWindow s) := by
  unfold Sys2Proof.Machine.refclkInWindow
  extract_lets s1
  have h1 : Keeps m s₀ s1 := .put (.put h)
  exact .ite (.put h1) (.ite h1 (.put h1))

theorem Keeps.switchToRecovered (h : Keeps m s₀ s) : Keeps m s₀ (switchToRecovered s) := by
  unfold Sys2Proof.Machine.switchToRecovered
  split
  · split
    · split
      · exact .put h
      · extract_lets
        exact .bump (.put (.put (.put h)))
    · exact .put h
  · exact h

theorem Keeps.toRefclk (h : Keeps m s₀ s) : Keeps m s₀ (s.toRefclk) := by
  unfold State.toRefclk
  extract_lets
  exact .bump (.put (.put h))

theorem Keeps.refclkReturn (h : Keeps m s₀ s) : Keeps m s₀ (refclkReturn s) := by
  unfold Sys2Proof.Machine.refclkReturn
  exact .ite (.put (.toRefclk h)) h

theorem Keeps.upPortLost (h : Keeps m s₀ s) : Keeps m s₀ (s.upPortLost) := by
  unfold State.upPortLost
  extract_lets s1
  have h1 : Keeps m s₀ s1 := .putN h
  exact .ite (.refInvalid (.put (.put (.put (.put h1))))) h1

theorem Keeps.refCtrlWrite {v} (h : Keeps m s₀ s) : Keeps m s₀ (s.refCtrlWrite v) := by
  unfold State.refCtrlWrite
  extract_lets s1 _ _ s2
  have h1 : Keeps m s₀ s1 := .plainWrite h
  have h2 : Keeps m s₀ s2 := .toRefclk h1
  exact .ite (.enterHoldover h1) (.ite (.ite h2 (.enterHoldover h2)) h1)

theorem Keeps.pllUnlock {k} (h : Keeps m s₀ s) : Keeps m s₀ (pllUnlock k s) := by
  unfold Sys2Proof.Machine.pllUnlock
  split
  · extract_lets
    exact .tdcNote (.invalidateAll (.putBit (.putBit h)))
  · exact h

theorem Keeps.pllRelock {k} (h : Keeps m s₀ s) : Keeps m s₀ (pllRelock k s) := by
  unfold Sys2Proof.Machine.pllRelock
  exact .putBit h

/-! ### Enumeration and lanes of Ulten -/

theorem Keeps.rmtDone {status data} (h : Keeps m s₀ s) : Keeps m s₀ (s.rmtDone status data) := by
  unfold State.rmtDone
  extract_lets _ _ s1
  have h1 : Keeps m s₀ s1 := .put (.putN (.others h))
  split
  exacts [.putN h1, h1]

theorem Keeps.rmtLost (h : Keeps m s₀ s) : Keeps m s₀ (s.rmtLost) := by
  unfold State.rmtLost
  split
  exacts [.rmtDone h, h]

theorem Keeps.takeId {id} (h : Keeps m s₀ s) : Keeps m s₀ (s.takeId id) := by
  unfold State.takeId
  extract_lets
  exact .put (.put (.put (.put (.put h))))

theorem Keeps.assignPorts {l b} (h : Keeps m s₀ s) : Keeps m s₀ (assignPorts l b s) := by
  induction l generalizing b s with
  | nil => exact h
  | cons a l ih =>
    obtain ⟨k, z⟩ := a
    unfold Sys2Proof.Machine.assignPorts
    extract_lets s1 s2
    have h2 : Keeps m s₀ s2 := .sendOn (.putBit (.put (.put h)))
    exact ih h2

theorem Keeps.assignIds {base} (h : Keeps m s₀ s) : Keeps m s₀ (s.assignIds base) := by
  unfold State.assignIds
  extract_lets
  exact .assignPorts (.putN (.takeId h))

theorem Keeps.enumTry (h : Keeps m s₀ s) : Keeps m s₀ (s.enumTry) := by
  unfold State.enumTry
  exact .ite (.assignIds (.others h)) h

theorem Keeps.reportUp (h : Keeps m s₀ s) : Keeps m s₀ (s.reportUp) := by
  unfold State.reportUp
  split
  · exact h
  · split
    · extract_lets
      exact .ite h (.sendOn (.others h))
    · exact h

theorem Keeps.enumStart (h : Keeps m s₀ s) : Keeps m s₀ (s.enumStart) := by
  unfold State.enumStart
  exact .ite (.enumTry (.others h)) h

theorem Keeps.enumWaitExpire (h : Keeps m s₀ s) : Keeps m s₀ (enumWaitExpire s) := by
  unfold Sys2Proof.Machine.enumWaitExpire
  exact .ite (.enumStart h) h

theorem Keeps.ultEnumStart (h : Keeps m s₀ s) : Keeps m s₀ (ultEnumStart s) := by
  unfold Sys2Proof.Machine.ultEnumStart
  exact .enumStart h

theorem Keeps.enumReport {k size} (h : Keeps m s₀ s) : Keeps m s₀ (enumReport k size s) := by
  unfold Sys2Proof.Machine.enumReport
  split
  · extract_lets s1
    have h1 : Keeps m s₀ s1 := .updPort h
    exact .ite (.enumTry h1) (.reportUp h1)
  · exact h

theorem Keeps.enumAssign {k base} (h : Keeps m s₀ s) : Keeps m s₀ (enumAssign k base s) := by
  unfold Sys2Proof.Machine.enumAssign
  exact .ite (.assignIds h) h

theorem Keeps.treeUpdate (h : Keeps m s₀ s) : Keeps m s₀ (s.treeUpdate) := by
  unfold State.treeUpdate
  extract_lets _ s1 _ _ s2
  have h1 : Keeps m s₀ s1 := by
    unfold s1
    split
    · exact h
    · split
      · extract_lets s3
        have h3 : Keeps m s₀ s3 := .put h
        exact .ite (.put h3) (.put (.put h3))
      · exact .put h
  have h2 : Keeps m s₀ s2 := .each h1 fun h => .put (.put h)
  exact .reportUp (.ite (.others h2) h2)

theorem Keeps.ultDown {k} (h : Keeps m s₀ s) : Keeps m s₀ (s.ultDown k) := by
  unfold State.ultDown
  extract_lets _ s1 s2 _ s3
  have h1 : Keeps m s₀ s1 := .addSat (.freeBits h)
  have h2 : Keeps m s₀ s2 := by
    unfold s2
    split
    exacts [.ite (.rmtLost h1) h1, h1]
  have h3 : Keeps m s₀ s3 := .updPort (.put (.bump h2))
  exact .treeUpdate (.ite (.upPortLost h3) h3)

theorem Keeps.ulEnter {k m' st} (h : Keeps m s₀ s) : Keeps m s₀ (s.ulEnter k m' st) := by
  unfold State.ulEnter
  extract_lets _ _ _ s1 s2
  have h1 : Keeps m s₀ s1 := .put (.put h)
  have h2 : Keeps m s₀ s2 := .ite h1 (.put h1)
  exact .ite (.treeUpdate (.updPort h2)) (.ite (.ultDown h2) h2)

theorem Keeps.setFfe {k m' pre post} (h : Keeps m s₀ s) : Keeps m s₀ (s.setFfe k m' pre post) := by
  unfold State.setFfe
  exact .put (.put h)

theorem Keeps.ultPortCtrlWrite {k v} (h : Keeps m s₀ s) : Keeps m s₀ (ultPortCtrlWrite k v s) := by
  unfold Sys2Proof.Machine.ultPortCtrlWrite
  extract_lets
  exact .each (.plainWrite h) fun h => by
      extract_lets
      exact .ite (.ulEnter h) (.ite (.ulEnter h) (.ite (.ulEnter (.updUlane h)) (.ite (.ulEnter h) h)))

theorem Keeps.ultPortRetrain {k} (h : Keeps m s₀ s) : Keeps m s₀ (ultPortRetrain k s) := by
  unfold Sys2Proof.Machine.ultPortRetrain
  exact .ite (.each h fun h => .ulEnter h) h

theorem Keeps.rawRx {k m' bits} (h : Keeps m s₀ s) : Keeps m s₀ (s.rawRx k m' bits) := by
  unfold State.rawRx
  exact .putN (.putPair h)

theorem Keeps.ultBitslip {k m' bits} (h : Keeps m s₀ s) : Keeps m s₀ (ultBitslip k m' bits s) := by
  unfold Sys2Proof.Machine.ultBitslip
  exact .ite (.rawRx h) h

theorem Keeps.ultPartnerDetect {k m'} (h : Keeps m s₀ s) : Keeps m s₀ (ultPartnerDetect k m' s) := by
  unfold Sys2Proof.Machine.ultPartnerDetect
  exact .ite (.ulEnter (.updUlane h)) h

theorem Keeps.ultBlockLock {k m'} (h : Keeps m s₀ s) : Keeps m s₀ (ultBlockLock k m' s) := by
  unfold Sys2Proof.Machine.ultBlockLock
  extract_lets
  exact .ite (.ulEnter h) (.ite (.ulEnter h) h)

theorem Keeps.ultStateTimeout {k m'} (h : Keeps m s₀ s) : Keeps m s₀ (ultStateTimeout k m' s) := by
  unfold Sys2Proof.Machine.ultStateTimeout
  extract_lets
  exact .ite (.ulEnter h) (.ite (.ulEnter h) h)

theorem Keeps.ultCapsDone {k m' id depth port top} (h : Keeps m s₀ s) : Keeps m s₀ (ultCapsDone k m' id depth port top s) := by
  unfold Sys2Proof.Machine.ultCapsDone
  split
  · extract_lets s1
    have h1 : Keeps m s₀ s1 := by
      unfold s1
      split
      exacts [.put (.put h), .put h]
    exact .ulEnter (.updUlane (.updPort h1))
  · exact h

theorem Keeps.ultRateStepDone {k m'} (h : Keeps m s₀ s) : Keeps m s₀ (ultRateStepDone k m' s) := by
  unfold Sys2Proof.Machine.ultRateStepDone
  split
  · extract_lets
    exact .ulEnter (.setFfe (.updUlane h))
  · exact h

theorem Keeps.ultEqRequest {k m' w} (h : Keeps m s₀ s) : Keeps m s₀ (ultEqRequest k m' w s) := by
  unfold Sys2Proof.Machine.ultEqRequest
  split
  · split
    · extract_lets
      exact .updUlane (.setFfe h)
    · extract_lets
      exact .updUlane (.setFfe h)
  · exact h

theorem Keeps.ultEqDone {k m'} (h : Keeps m s₀ s) : Keeps m s₀ (ultEqDone k m' s) := by
  unfold Sys2Proof.Machine.ultEqDone
  exact .ite (.ulEnter h) h

theorem Keeps.ultBerCheckDone {k m' ok} (h : Keeps m s₀ s) : Keeps m s₀ (ultBerCheckDone k m' ok s) := by
  unfold Sys2Proof.Machine.ultBerCheckDone
  split
  · extract_lets
    exact .ite (.ulEnter h) (.ulEnter (.bump (.setFfe (.updUlane h))))
  · exact h

theorem Keeps.ultLockLost {k m'} (h : Keeps m s₀ s) : Keeps m s₀ (ultLockLost k m' s) := by
  unfold Sys2Proof.Machine.ultLockLost
  exact .ite (.ulEnter h) h

theorem Keeps.ultFfeWrite {k m' v} (h : Keeps m s₀ s) : Keeps m s₀ (s.ultFfeWrite k m' v) := by
  unfold State.ultFfeWrite
  exact .ite (.ffeWrite h) h

theorem Keeps.ultBadMessage {k crc beats} (h : Keeps m s₀ s) : Keeps m s₀ (ultBadMessage k crc beats s) := by
  unfold Sys2Proof.Machine.ultBadMessage
  exact .ite (.addSat (.bump h)) (.bump h)

/-! ### The register space -/

theorem Keeps.accessErr {r cnt addr} (h : Keeps m s₀ s) : Keeps m s₀ (s.accessErr r cnt addr) := by
  unfold State.accessErr
  exact .put (.putPair (.bump h))

theorem Keeps.rmtSend {wr k} (h : Keeps m s₀ s) : Keeps m s₀ (s.rmtSend wr k) := by
  unfold State.rmtSend
  extract_lets _ _ _ _ _ s1
  have h1 : Keeps m s₀ s1 := .put (.others h)
  exact .ite (.sendOn h1) h1

theorem Keeps.refreshRead {off} (h : Keeps m s₀ s) : Keeps m s₀ (s.refreshRead off) := by
  unfold State.refreshRead
  split
  · extract_lets
    exact .ite (.ite h (.putN (.freeBits h))) (.ite (.ite (.xlSee (.xlFree h)) h) h)
  · split
    · split
      · extract_lets
        exact .rawRx (.freeBits h)
      · exact h
    · exact h

theorem Keeps.answer {r v} (h : Keeps m s₀ s) : Keeps m s₀ (s.answer r v) := by
  unfold State.answer
  exact .updRq h

theorem Keeps.readRules : ∀ v ∈ readRules, ∀ {r i s}, Keeps true s₀ s → Keeps true s₀ (v.act r i s) := by
  simp only [Sys2Proof.Machine.readRules, List.forall_mem_cons]
  exact ⟨.schedTake, .intcClaim, .mbxTake, .timeTbNsRead, .uartDataRead, nofun⟩

theorem Keeps.regRead {r off} (h : Keeps true s₀ s) : Keeps true s₀ (regRead r off s) := by
  unfold Sys2Proof.Machine.regRead
  split
  · exact .answer h
  · split
    · exact Keeps.readRules _ (List.mem_of_find?_eq_some ‹_›) h
    · split
      · exact .answer h
      · extract_lets s1 v hi s2 s3
        have h1 : Keeps true s₀ s1 := .refreshRead h
        have h2 : Keeps true s₀ s2 := .ite (.updRq h1) h1
        have h3 : Keeps true s₀ s3 := by
          unfold s3
          split
          exacts [.clearRc h2, h2]
        exact .answer h3

theorem Keeps.regLoad {r off size} (h : Keeps true s₀ s) : Keeps true s₀ (regLoad r off size s) := by
  unfold Sys2Proof.Machine.regLoad
  split
  · exact .answer (.accessErr h)
  · split
    · extract_lets
      exact .answer (.regRead h)
    · exact .answer (.accessErr h)

theorem Keeps.drwCmdWrite {v} (h : Keeps m s₀ s) : Keeps m s₀ (drwCmdWrite v s) := by
  unfold Sys2Proof.Machine.drwCmdWrite
  extract_lets
  exact .ite (.enumRefused (.ite (.drwRefuse h) h)) (.drwCmd h)

theorem Keeps.tsetCmdWrite {v} (h : Keeps m s₀ s) : Keeps m s₀ (tsetCmdWrite v s) := by
  unfold Sys2Proof.Machine.tsetCmdWrite
  extract_lets
  exact .ite (.enumRefused (.ite (.tsetCmd h) h)) (.tsetCmd h)

theorem Keeps.strmCfgWrite {n v} (h : Keeps m s₀ s) : Keeps m s₀ (strmCfgWrite n v s) := by
  unfold Sys2Proof.Machine.strmCfgWrite
  extract_lets
  exact .ite (.plainWrite h) (.plainWrite h)

theorem Keeps.chCfgWrite {c off v} (h : Keeps m s₀ s) : Keeps m s₀ (chCfgWrite c off v s) := by
  unfold Sys2Proof.Machine.chCfgWrite
  exact .ite (.cluDrop h) (.plainWrite h)

theorem Keeps.ultCmdWrite {k v} (h : Keeps m s₀ s) : Keeps m s₀ (ultCmdWrite k v s) := by
  unfold Sys2Proof.Machine.ultCmdWrite
  extract_lets s1
  have h1 : Keeps m s₀ s1 := .ite (.ultPortRetrain h) h
  exact .ite (.enumRefused h1) (.ite (.ultBitslip (.freeBits h1)) h1)

theorem Keeps.ultCfgWrite {v} (h : Keeps m s₀ s) : Keeps m s₀ (ultCfgWrite v s) := by
  unfold Sys2Proof.Machine.ultCfgWrite
  split
  · exact h
  · extract_lets
    exact .put (.put (.put (.put (.plainWrite h))))

theorem Keeps.pairCommit {r off v} (h : Keeps m s₀ s) : Keeps m s₀ (pairCommit r off v s) := by
  unfold Sys2Proof.Machine.pairCommit
  extract_lets
  exact .plainWrite (.plainWrite (.takeStaged h))

theorem Keeps.rmtCmd {wr} (h : Keeps m s₀ s) : Keeps m s₀ (rmtCmd wr s) := by
  unfold Sys2Proof.Machine.rmtCmd
  split
  · exact h
  · split
    exacts [.rmtSend h, .rmtSend h, .ite (.rmtDone (.bump h)) (.rmtSend h)]

theorem Keeps.rmtCmdWrite {v} (h : Keeps m s₀ s) : Keeps m s₀ (rmtCmdWrite v s) := by
  unfold Sys2Proof.Machine.rmtCmdWrite
  extract_lets
  exact .ite (.rmtCmd h) (.ite (.rmtCmd h) (.enumRefused h))

theorem Keeps.writeRules : ∀ v ∈ writeRules, ∀ {r i x s}, Keeps true s₀ s → Keeps true s₀ (v.act r i x s) := by
  simp only [Sys2Proof.Machine.writeRules, List.forall_mem_cons]
  exact ⟨.refCtrlWrite, .drwCmdWrite, .ledgerPctWrite, .strmCfgWrite, .retrainCtrlWrite, fun h => .ite (.retrainRequest h) h,
    .ucsWordWrite, fun h => .ite (.seqAbort h) h, .coreFlagSet, .coreFlagClear, .tsetCmdWrite,
    fun h => .tsetPerWrite (.takeStaged h), .bankVnomWrite, .chCfgWrite, .chCfgWrite, .chCfgWrite, .levelWrite, .levelWrite,
    .levelWrite, .levelWrite, .levelWrite, .mcCtrlWrite, .ppmuCtrlWrite, .ppmuForceWrite, .ppmuVclampWrite, .tdcCmdWrite,
    .ultCfgWrite, fun h => .ite (.enumStart h) h, .rmtCmdWrite, .ultPortCtrlWrite, .ultCmdWrite, .ultFfeWrite, .siteCmdWrite,
    fun h => .xlCtrlWrite (.xlFree h), fun h => .xlCmd (.xlFree h), .xlFfeWrite, .xlRxeqWrite, .xlDfeWrite, .schedEnqueue,
    .updRq, .coreRunWrite, .coreCfgWrite, fun h => .timerShow (.pairCommit h), .schedDone, .intcPendClear, .intcSetpend,
    .srcCfgWrite, .srcCfgWrite, .intcEoi, .intcPush, .dmaEnableWrite, .dbH2dSet, .dbH2dClr, .dbD2hSet, .dbD2hClr, .mbxCfgWrite,
    .mbxPost, .mbxAck, .timeCtrlWrite, .timeOffsetWrite, .timeRateWrite, .timeAdjWrite, .tsqFind, .calCmdWrite, .calSpanWrite,
    .bootResetWrite, .safeForceWrite, .wdtEnable, .wdtKick, .kaRtcWrite, .kaClr, .logRdIdxWrite, .logAppend, .updRq,
    .uartDataWrite, nofun⟩

theorem Keeps.regWrite {r off v} (h : Keeps true s₀ s) : Keeps true s₀ (regWrite r off v s) := by
  unfold Sys2Proof.Machine.regWrite
  split
  · exact .wrBytes h
  · split
    · exact .updRq h
    · split
      · exact Keeps.writeRules _ (List.mem_of_find?_eq_some ‹_›) h
      · exact .tsetEntryWrite h
      · exact .ite (.pairCommit h) (.plainWrite h)

theorem Keeps.regStore {r off size v} (h : Keeps true s₀ s) : Keeps true s₀ (regStore r off size v s) := by
  unfold Sys2Proof.Machine.regStore
  exact .ite (.accessErr h) (.ite (.regWrite h) (.accessErr h))

theorem Keeps.registerWrite {r off size v} (h : Keeps true s₀ s) : Keeps true s₀ (registerWrite r off size v s) := by
  unfold Sys2Proof.Machine.registerWrite
  exact .ite h (.ite (.regStore (.regStore h)) (.ite (.regStore h) h))

theorem Keeps.registerRead {r off} (h : Keeps true s₀ s) : Keeps true s₀ (registerRead r off s) := by
  unfold Sys2Proof.Machine.registerRead
  exact .ite (.regLoad h) h

/-! ### The memory map -/

theorem Keeps.eccClear {b} (h : Keeps m s₀ s) : Keeps m s₀ (s.eccClear b) := by
  unfold State.eccClear
  exact .others h

theorem Keeps.eccWrite {r a n} (h : Keeps m s₀ s) : Keeps m s₀ (s.eccWrite r a n) := by
  unfold State.eccWrite
  exact .each h fun h => .ite (.eccClear h) (.ite (.noteUe h) (.ite (.eccClear (.noteCe h)) h))

theorem Keeps.guardDrop {r a ids} (h : Keeps m s₀ s) : Keeps m s₀ (s.guardDrop r a ids) := by
  unfold State.guardDrop
  extract_lets
  exact .put (.put (.putPair (.put (.bump h))))

theorem Keeps.logBeat {a n} (h : Keeps m s₀ s) : Keeps m s₀ (s.logBeat a n) := by
  unfold State.logBeat
  extract_lets
  exact .others h

theorem Keeps.store {r a d} (h : Keeps true s₀ s) : Keeps true s₀ (s.store r a d) := by
  unfold State.store
  exact .dropResv (.wrBytes h)

theorem Keeps.guardedBeat {r a d} (h : Keeps true s₀ s) : Keeps true s₀ (guardedBeat r a d s).2 := by
  unfold Sys2Proof.Machine.guardedBeat
  split
  · exact .snd_mk (.put (.bump h))
  · extract_lets _ _ s1
    have h1 : Keeps true s₀ s1 := .store (.ite (.eccWrite h) h)
    split
    exacts [.snd_mk (.guardDrop h), .snd_mk (.ite h1 (.logBeat h1))]

theorem Keeps.regBeat {r a d} (h : Keeps true s₀ s) : Keeps true s₀ (regBeat r a d s).2 := by
  unfold Sys2Proof.Machine.regBeat
  extract_lets
  exact .snd_mk (.each h fun h => .regStore h)

theorem Keeps.writeBeat {r a d} (h : Keeps true s₀ s) : Keeps true s₀ (writeBeat r a d s).2 := by
  unfold Sys2Proof.Machine.writeBeat
  split
  · exact .guardedBeat h
  · exact .guardedBeat h
  · exact .snd_mk (.bump h)
  · exact .snd_mk (.store h)
  · exact .snd_mk (.store h)
  · exact .snd_mk (.store h)
  · exact .regBeat h
  · exact .snd_mk (.accessErr h)

theorem Keeps.writeBeats {r a₀ d l} (h : Keeps true s₀ s) : Keeps true s₀ (writeBeats r a₀ d l s).2 := by
  induction l generalizing s with
  | nil => exact h
  | cons a l ih => exact ih (.writeBeat h)

theorem Keeps.memWrite {r a d} (h : Keeps true s₀ s) : Keeps true s₀ (memWrite r a d s).2 := by
  unfold Sys2Proof.Machine.memWrite
  exact .writeBeats h

theorem Keeps.regReads {r l} (h : Keeps true s₀ s) : Keeps true s₀ (regReads r l s).2 := by
  induction l generalizing s with
  | nil => exact h
  | cons a l ih => exact ih (.regLoad h)

theorem Keeps.readBeat {r a n} (h : Keeps true s₀ s) : Keeps true s₀ (readBeat r a n s).2 := by
  unfold Sys2Proof.Machine.readBeat
  split
  · extract_lets
    exact .snd_mk (.eccRead h)
  · exact .snd_mk h
  · extract_lets
    exact .snd_mk (.regReads h)
  · exact .snd_mk (.accessErr h)
  · exact .snd_mk h
  · exact .snd_mk h
  · exact .snd_mk h
  · exact .snd_mk h

theorem Keeps.readBeats {r l} (h : Keeps true s₀ s) : Keeps true s₀ (readBeats r l s).2 := by
  induction l generalizing s with
  | nil => exact h
  | cons a l ih => exact ih (.readBeat h)

theorem Keeps.memRead {r a n ce ue} (h : Keeps true s₀ s) : Keeps true s₀ (memRead r a n ce ue s).2 := by
  unfold Sys2Proof.Machine.memRead
  extract_lets
  exact .readBeats (.addErrs h)

theorem Keeps.sbDrain {n} (h : Keeps true s₀ s) : Keeps true s₀ (sbDrain n s) := by
  unfold Sys2Proof.Machine.sbDrain
  split
  exacts [h, .memWrite (.updHart h)]

theorem Keeps.coreStore {n a d} (h : Keeps true s₀ s) : Keeps true s₀ (coreStore n a d s) := by
  unfold Sys2Proof.Machine.coreStore
  split
  · exact h
  · split
    · exact .trap h
    · extract_lets
      exact .updHart (.ite (.sbDrain h) h)

theorem Keeps.coreLoad {n a len ce ue} (h : Keeps true s₀ s) : Keeps true s₀ (coreLoad n a len ce ue s) := by
  unfold Sys2Proof.Machine.coreLoad
  extract_lets _ _ _ s1
  have h1 : Keeps true s₀ s1.2 := .memRead h
  exact .ite h (.ite (.trap h) (.ite (.updRq h) (.ite (.updRq h1) (.trap (.updRq h1)))))

theorem Keeps.memoryWrite {r a d} (h : Keeps true s₀ s) : Keeps true s₀ (memoryWrite r a d s) := by
  unfold Sys2Proof.Machine.memoryWrite
  split
  exacts [.coreStore h, .memWrite h]

theorem Keeps.memoryRead {r a n ce ue} (h : Keeps true s₀ s) : Keeps true s₀ (memoryRead r a n ce ue s) := by
  unfold Sys2Proof.Machine.memoryRead
  split
  · exact .coreLoad h
  · extract_lets s1
    have h1 : Keeps true s₀ s1.2 := .memRead h
    exact .updRq (.when h1 fun h => .bump h1)

theorem Keeps.dmaHostData {e op d ok} {f : DmaDesc → State → State} (h : Keeps m s₀ s)
    (hf : ∀ {c t}, Keeps m s₀ t → Keeps m s₀ (f c t)) : Keeps m s₀ (s.dmaHostData e op d ok f) := by
  unfold State.dmaHostData
  split
  · exact h
  · exact .ite (.dmaMoved (.cplErr h)) (.ite (hf h) h)

theorem Keeps.dmaH2d {e d ok} (h : Keeps true s₀ s) : Keeps true s₀ (dmaH2d e d ok s) := by
  unfold Sys2Proof.Machine.dmaH2d
  exact .dmaHostData h (fun h => by
      extract_lets
      exact .dmaMoved (.memWrite h))

theorem Keeps.dmaD2h {e ce ue} (h : Keeps true s₀ s) : Keeps true s₀ (dmaD2h e ce ue s) := by
  unfold Sys2Proof.Machine.dmaD2h
  split
  · exact h
  · extract_lets
    exact .dmaMoved (.others (.memRead h))

theorem Keeps.dmaBcast {e d ok} (h : Keeps true s₀ s) : Keeps true s₀ (dmaBcast e d ok s) := by
  unfold Sys2Proof.Machine.dmaBcast
  exact .dmaHostData h (fun h => by
      extract_lets
      exact .dmaMoved (.each (.addSat (.memWrite h)) fun h => .sendAll h))

theorem Keeps.sendAny {m'} (h : Keeps m s₀ s) : Keeps m s₀ (s.sendAny m') := by
  unfold State.sendAny
  exact .ite (.sendOn h) (.sendTo h)

theorem Keeps.dmaRemote {e d ok} (h : Keeps m s₀ s) : Keeps m s₀ (dmaRemote e d ok s) := by
  unfold Sys2Proof.Machine.dmaRemote
  exact .dmaHostData h (fun h => by
      extract_lets
      exact .dmaMoved (.each h fun h => .sendAny h))

/-! ### Messages that access registers and memory -/

theorem Keeps.mgmtIn {msg : Msg} {rsp tag} {f : State → State} (h : Keeps m s₀ s)
    (hf : ∀ {t}, Keeps m s₀ t → Keeps m s₀ (f t)) : Keeps m s₀ (s.mgmtIn msg rsp tag f) := by
  unfold State.mgmtIn
  split
  · exact hf h
  · exact .ite h (.sendTo h)
  · exact .ite (.sendAny (.freeBits (.bump h))) h

theorem Keeps.rdReq {dest src tag off} (h : Keeps true s₀ s) : Keeps true s₀ (rdReq dest src tag off s) := by
  unfold Sys2Proof.Machine.rdReq
  exact .mgmtIn h (fun h => by
      extract_lets
      exact .sendAny (.registerRead h))

theorem Keeps.wrReq {dest src tag off v} (h : Keeps true s₀ s) : Keeps true s₀ (wrReq dest src tag off v s) := by
  unfold Sys2Proof.Machine.wrReq
  exact .mgmtIn h (fun h => by
      extract_lets
      exact .sendAny (.registerWrite h))

theorem Keeps.rspIn {wr tag status data} (h : Keeps m s₀ s) : Keeps m s₀ (s.rspIn wr tag status data) := by
  unfold State.rspIn
  split
  exacts [.ite (.rmtDone h) h, h]

theorem Keeps.rdRsp {dest src tag status data} (h : Keeps m s₀ s) : Keeps m s₀ (rdRsp dest src tag status data s) := by
  unfold Sys2Proof.Machine.rdRsp
  exact .unicastIn h (fun h => .rspIn h)

theorem Keeps.wrRsp {dest src tag status} (h : Keeps m s₀ s) : Keeps m s₀ (wrRsp dest src tag status s) := by
  unfold Sys2Proof.Machine.wrRsp
  exact .unicastIn h (fun h => .rspIn h)

theorem Keeps.mgmtTimeout (h : Keeps m s₀ s) : Keeps m s₀ (mgmtTimeout s) := by
  unfold Sys2Proof.Machine.mgmtTimeout
  exact .ite (.rmtLost h) h

theorem Keeps.writeBcast {src a d} (h : Keeps true s₀ s) : Keeps true s₀ (writeBcast src a d s) := by
  unfold Sys2Proof.Machine.writeBcast
  extract_lets
  exact .sendAll (.addSat (.memWrite h))

theorem Keeps.ackBlock {a} (h : Keeps m s₀ s) : Keeps m s₀ (s.ackBlock a).2 := by
  unfold State.ackBlock
  extract_lets
  exact .snd_mk (.freeBits h)

theorem Keeps.writeUnicast {dest src a d} (h : Keeps true s₀ s) : Keeps true s₀ (writeUnicast dest src a d s) := by
  unfold Sys2Proof.Machine.writeUnicast
  exact .unicastIn h (fun h => by
      extract_lets
      exact .sendAny (.ackBlock (.memWrite h)))

theorem Keeps.bulkWrite {mcast dest src a d} (h : Keeps true s₀ s) : Keeps true s₀ (bulkWrite mcast dest src a d s) := by
  unfold Sys2Proof.Machine.bulkWrite
  exact .ite h (.ite (.writeBcast h) (.writeUnicast h))

theorem Keeps.writeAck {dest src a status block} (h : Keeps m s₀ s) : Keeps m s₀ (writeAck dest src a status block s) := by
  unfold Sys2Proof.Machine.writeAck
  split
  · extract_lets _ s1
    have h1 : Keeps m s₀ s1 := .others h
    split
    exacts [.updDma h1, h1]
  · exact .ite h (.sendTo h)

/-! ### Start-up and updates -/

theorem Keeps.setStage {st} (h : Keeps m s₀ s) : Keeps m s₀ (s.setStage st) := by
  unfold State.setStage
  exact .put h

theorem Keeps.errLoc {typ idx} (h : Keeps m s₀ s) : Keeps m s₀ (s.errLoc typ idx) := by
  unfold State.errLoc
  extract_lets _ s1
  have h1 : Keeps m s₀ s1 := by
    unfold s1
    split
    exacts [.put h, .put (.freeBits h)]
  split
  exacts [.put h1, .put (.freeBits h1)]

theorem Keeps.trySlot {slot} (h : Keeps m s₀ s) : Keeps m s₀ (s.trySlot slot) := by
  unfold State.trySlot
  extract_lets
  exact .setStage (.put (.others h))

theorem Keeps.bootFail {e typ idx} (h : Keeps m s₀ s) : Keeps m s₀ (s.bootFail e typ idx) := by
  unfold State.bootFail
  extract_lets s1
  have h1 : Keeps m s₀ s1 := .logEvent (.errLoc (.put h))
  exact .ite (.ledgerShow (.trySlot (.put (.put h1)))) (.put (.setStage h1))

theorem Keeps.bootRomDone (h : Keeps m s₀ s) : Keeps m s₀ (bootRomDone s) := by
  unfold Sys2Proof.Machine.bootRomDone
  exact .ite (.setStage (.put (.wrapInc h))) h

theorem Keeps.bootFlash {found sizeLog2 mhz quad} (h : Keeps m s₀ s) : Keeps m s₀ (bootFlash found sizeLog2 mhz quad s) := by
  unfold Sys2Proof.Machine.bootFlash
  split
  · extract_lets s1
    have h1 : Keeps m s₀ s1 := .ite (.put (.put (.put h))) h
    exact .ite (.bootFail h1) (.ite (.setStage (.put h1)) (.setStage h1))
  · exact h

theorem Keeps.slotVers (h : Keeps m s₀ s) : Keeps m s₀ (s.slotVers) := by
  unfold State.slotVers
  exact .putN (.putN h)

theorem Keeps.ledgerSet {f} (h : Keeps m s₀ s) : Keeps m s₀ (s.ledgerSet f) := by
  unfold State.ledgerSet
  exact .others h

theorem Keeps.policySlot (h : Keeps m s₀ s) : Keeps m s₀ (s.policySlot).2 := by
  unfold State.policySlot
  extract_lets
  split
  · exact .snd_mk h
  · split
    exacts [.snd_mk (.put h), .snd_mk (.logEvent (.put (.put (.put (.ledgerSet h)))))]

theorem Keeps.selectPrep (h : Keeps m s₀ s) : Keeps m s₀ (s.selectPrep) := by
  unfold State.selectPrep
  extract_lets s1
  have h1 : Keeps m s₀ s1 := .slotVers (.logFind (.ledgerFind h))
  exact .others (.when h1 fun h => .put h1)

theorem Keeps.firstSlot (h : Keeps m s₀ s) : Keeps m s₀ (s.firstSlot).2 := by
  unfold State.firstSlot
  split
  exacts [.snd_mk h, .snd_mk h, .policySlot h]

theorem Keeps.bootSelect (h : Keeps m s₀ s) : Keeps m s₀ (bootSelect s) := by
  unfold Sys2Proof.Machine.bootSelect
  split
  · extract_lets
    exact .ledgerShow (.trySlot (.firstSlot (.selectPrep h)))
  · exact h

theorem Keeps.bootHeader (h : Keeps m s₀ s) : Keeps m s₀ (bootHeader s) := by
  unfold Sys2Proof.Machine.bootHeader
  split
  · extract_lets _ s1
    have h1 : Keeps m s₀ s1 := .putN (.putN h)
    split
    exacts [.bootFail h, .setStage (.ite h1 (.putN h1))]
  · exact h

theorem Keeps.applyMgmtFw {p} (h : Keeps true s₀ s) : Keeps true s₀ (applyMgmtFw p s) := by
  unfold Sys2Proof.Machine.applyMgmtFw
  exact .putN (.wrBytes h)

theorem Keeps.applyMicro {p} (h : Keeps m s₀ s) : Keeps m s₀ (applyMicro p s) := by
  unfold Sys2Proof.Machine.applyMicro
  extract_lets
  exact .putN (.others h)

theorem Keeps.applyPinMap {p} (h : Keeps m s₀ s) : Keeps m s₀ (applyPinMap p s) := by
  unfold Sys2Proof.Machine.applyPinMap
  extract_lets
  exact .each (.each h fun h => .put h) fun h => .plainWrite h

theorem Keeps.applyTrims {p} (h : Keeps m s₀ s) : Keeps m s₀ (applyTrims p s) := by
  unfold Sys2Proof.Machine.applyTrims
  extract_lets
  exact .each (.each h fun h => .put h) fun h => by
      extract_lets
      exact .each (.put (.put (.put h))) fun h => by
          extract_lets
          exact .slewSet (.slewSet h)

theorem Keeps.applySiteFw {p} (h : Keeps true s₀ s) : Keeps true s₀ (applySiteFw p s) := by
  unfold Sys2Proof.Machine.applySiteFw
  extract_lets _ _ _ s1
  have h1 : Keeps true s₀ s1 := .each (.others (.putN h)) fun h => by
      extract_lets
      exact .ite h (.putPair h)
  exact .each h1 fun h => .wrBytes h

theorem Keeps.takeSec {img h' typ} (h : Keeps true s₀ s) : Keeps true s₀ (s.takeSec img h' typ).2 := by
  unfold State.takeSec
  split
  · exact .snd_mk h
  · extract_lets
    split
    · exact .snd_mk h
    · split
      · exact .snd_mk h
      · refine .snd_mk ?_
        split
        · exact .applyMgmtFw h
        · exact .ite (.applyMicro h) (.ite (.applyPinMap h) (.ite (.applyTrims h) (.ite (.applySiteFw h) h)))

theorem Keeps.takeSecs {img hd l} (h : Keeps true s₀ s) : Keeps true s₀ (takeSecs img hd l s).2 := by
  induction l generalizing s with
  | nil => exact h
  | cons t l ih =>
    unfold Sys2Proof.Machine.takeSecs
    split
    · rename_i e
      exact .snd_mk (.of_snd e (.takeSec h))
    · rename_i e
      exact ih (.of_snd e (.takeSec h))

theorem Keeps.bootMgmtFw (h : Keeps true s₀ s) : Keeps true s₀ (bootMgmtFw s) := by
  unfold Sys2Proof.Machine.bootMgmtFw
  split
  · extract_lets
    split
    · rename_i _ _ s1 e1
      have h1 := Keeps.of_snd e1 (.takeSecs h)
      exact .bootFail h1
    · rename_i s2 e2
      have h2 := Keeps.of_snd e2 (.takeSecs h)
      exact .setStage h2
  · exact h

theorem Keeps.bootClocks (h : Keeps m s₀ s) : Keeps m s₀ (bootClocks s) := by
  unfold Sys2Proof.Machine.bootClocks
  split
  · extract_lets
    exact .each (.setStage (.putN (.putN (.put (.put h))))) fun h => .ite (.ulEnter h) h
  · exact h

theorem Keeps.bootNoRefclk (h : Keeps m s₀ s) : Keeps m s₀ (bootNoRefclk s) := by
  unfold Sys2Proof.Machine.bootNoRefclk
  exact .ite (.bootFail h) h

theorem Keeps.bootPllTimeout (h : Keeps m s₀ s) : Keeps m s₀ (bootPllTimeout s) := by
  unfold Sys2Proof.Machine.bootPllTimeout
  exact .ite (.bootFail h) h

theorem Keeps.bootLoad (h : Keeps true s₀ s) : Keeps true s₀ (bootLoad s) := by
  unfold Sys2Proof.Machine.bootLoad
  split
  · extract_lets
    split
    · rename_i _ _ s1 e1
      have h1 := Keeps.of_snd e1 (.takeSecs h)
      exact .bootFail h1
    · rename_i s2 e2
      have h2 := Keeps.of_snd e2 (.takeSecs h)
      exact .setStage (.others h2)
  · exact h

theorem Keeps.bootHbmTrain {ok} (h : Keeps m s₀ s) : Keeps m s₀ (bootHbmTrain ok s) := by
  unfold Sys2Proof.Machine.bootHbmTrain
  split
  · split
    · extract_lets
      exact .setStage (.others (.putN (.put h)))
    · exact .bootFail h
  · exact h

theorem Keeps.recFail {e} (h : Keeps m s₀ s) : Keeps m s₀ (s.recFail e) := by
  unfold State.recFail
  exact .bootFail h

theorem Keeps.runRec {f : Rec → Option (State × Bool)} (h : Keeps m s₀ s)
    (hf : ∀ {x t d}, f x = some (t, d) → Keeps m s₀ t) : Keeps m s₀ (s.runRec f) := by
  unfold State.runRec
  split
  · split
    · exact .recFail h
    · split
      · exact h
      · rename_i e
        exact .ite (.recFail (hf e)) (.ite (.others (hf e)) (hf e))
  · exact h

theorem Keeps.configReg (h : Keeps true s₀ s) : Keeps true s₀ (configReg s) := by
  refine .runRec h fun e => ?_
  split at e
  exacts [.of_some_fst e (.registerWrite h), nomatch e]

theorem Keeps.configMem (h : Keeps true s₀ s) : Keeps true s₀ (configMem s) := by
  refine .runRec h fun e => ?_
  split at e
  exacts [.of_some_fst e (.memWrite h), nomatch e]

theorem Keeps.configPoll (h : Keeps true s₀ s) : Keeps true s₀ (configPoll s) := by
  refine .runRec h fun e => ?_
  split at e
  exacts [.of_some_fst e (.registerRead h), nomatch e]

theorem Keeps.configPollTimeout (h : Keeps m s₀ s) : Keeps m s₀ (configPollTimeout s) := by
  unfold Sys2Proof.Machine.configPollTimeout
  split
  · split
    exacts [.recFail h, h]
  · exact h

theorem Keeps.configFill (h : Keeps true s₀ s) : Keeps true s₀ (configFill s) := by
  refine .runRec h fun e => ?_
  split at e
  exacts [.of_some_fst e (.memWrite h), nomatch e]

theorem Keeps.configEnd (h : Keeps m s₀ s) : Keeps m s₀ (configEnd s) := by
  refine .runRec h fun e => ?_
  split at e
  exacts [.of_some_fst e (.setStage h), nomatch e]

theorem Keeps.timeSeed (h : Keeps m s₀ s) : Keeps m s₀ (s.timeSeed) := by
  unfold State.timeSeed
  extract_lets _ _ _ s1
  have h1 : Keeps m s₀ s1 := .each h fun h => by
      extract_lets
      exact .updTb (.putN (.putPair h))
  exact .when (.put h1) fun h => .put h

theorem Keeps.becomeReady (h : Keeps true s₀ s) : Keeps true s₀ (s.becomeReady) := by
  unfold State.becomeReady
  extract_lets _ _ _ _ _ s1
  have h1 : Keeps true s₀ s1 := .put (.logEvent (.setStage (.putN (.put (.put (.each (.putN (.put (.tjRaise (.setTj
      (.timeSeed h))))) fun h => .coreRunWrite h))))))
  exact .ite (.safeLeave h1) h1

theorem Keeps.bootFinal (h : Keeps true s₀ s) : Keeps true s₀ (bootFinal s) := by
  unfold Sys2Proof.Machine.bootFinal
  exact .ite (.ite (.bootFail h) (.becomeReady h)) h

theorem Keeps.updTake {t : State} {l} (h : Keeps true s₀ s) (e : s.updTake = some (l, t)) : Keeps true s₀ t := by
  unfold State.updTake at e
  split at e
  · exact of_some e (.memRead (.mbxTake h))
  · exact absurd e nofun

theorem Keeps.updBegin {l} (h : Keeps m s₀ s) : Keeps m s₀ (s.updBegin l) := by
  unfold State.updBegin
  extract_lets
  exact .put (.put (.others h))

theorem Keeps.updResult {code} (h : Keeps m s₀ s) : Keeps m s₀ (s.updResult code) := by
  unfold State.updResult
  exact .others h

theorem Keeps.updRun {op} {f : UpdReq → State → State} (h : Keeps true s₀ s)
    (hf : ∀ {u t}, Keeps true s₀ t → Keeps true s₀ (f u t)) : Keeps true s₀ (s.updRun op f) := by
  unfold State.updRun
  split
  · exact h
  · rename_i e
    exact .ite h (hf (.updBegin (.updTake h e)))

theorem Keeps.updateStage {ce ue bad} (h : Keeps true s₀ s) : Keeps true s₀ (updateStage ce ue bad s) := by
  unfold Sys2Proof.Machine.updateStage
  exact .updRun h (fun h => by
      extract_lets _ s1 _ _ s2
      have h1 : Keeps true s₀ s1 := (.memRead h)
      have h2 : Keeps true s₀ s2 := .flashErase h1
      split
      · exact .updResult h1
      · split
        · exact .updResult h1
        · split
          exacts [.updResult (.slotVers (.flashWr h2)), .updResult (.slotVers (.flashWr h2))])

theorem Keeps.updateActivate (h : Keeps true s₀ s) : Keeps true s₀ (updateActivate s) := by
  unfold Sys2Proof.Machine.updateActivate
  exact .updRun h (fun h => by
      extract_lets
      exact .ite (.updResult h) (.updResult (.put (.ledgerSet h))))

theorem Keeps.updateConfirm (h : Keeps true s₀ s) : Keeps true s₀ (updateConfirm s) := by
  unfold Sys2Proof.Machine.updateConfirm
  exact .updRun h (fun h => by
      extract_lets
      exact .ite (.updResult h) (.updResult (.put (.ledgerSet h))))

theorem Keeps.updateReboot (h : Keeps true s₀ s) : Keeps true s₀ (updateReboot s) := by
  unfold Sys2Proof.Machine.updateReboot
  exact .updRun h (fun h => .ite (.updResult h) (.updResult h))

theorem Keeps.updateBadRequest (h : Keeps true s₀ s) : Keeps true s₀ (updateBadRequest s) := by
  unfold Sys2Proof.Machine.updateBadRequest
  split
  · exact h
  · rename_i e1
    have h1 := Keeps.updTake h e1
    exact .ite (.updResult (.updBegin h1)) h

theorem Keeps.updateDone (h : Keeps m s₀ s) : Keeps m s₀ (updateDone s) := by
  unfold Sys2Proof.Machine.updateDone
  split
  · split
    · exact h
    · extract_lets
      exact .others (.put (.put (.put (.mbxAck h))))
  · exact h

theorem Keeps.jtagRegAccess {wr off} (h : Keeps true s₀ s) : Keeps true s₀ (jtagRegAccess wr off s) := by
  unfold Sys2Proof.Machine.jtagRegAccess
  split
  · split
    · exact .tapLoad (.regStore h)
    · extract_lets
      exact .tapLoad (.registerRead h)
  · exact .tapLoad h

end

/-! ### The commands -/

/-- Every command answers a next state, which keeps what `Keeps` says: with every byte of memory where the command is one of
`storesNothing`. -/
theorem exec_keeps (c : Instr) (s : State) : ∃ t, exec c s = .next t ∧ Keeps (!storesNothing c) s t := by
  have h {m : Bool} : Keeps m s s := .refl
  cases c with
  | registerWrite => exact ⟨_, rfl, .registerWrite h⟩
  | rcRead => exact ⟨_, rfl, .registerRead h⟩
  | pairLoRead => exact ⟨_, rfl, .registerRead h⟩
  | pairHiRead => exact ⟨_, rfl, .registerRead h⟩
  | pairHiWrite => exact ⟨_, rfl, .registerWrite h⟩
  | pairLoWrite => exact ⟨_, rfl, .registerWrite h⟩
  | memoryWrite => exact ⟨_, rfl, .memoryWrite h⟩
  | memoryRead => exact ⟨_, rfl, .memoryRead h⟩
  | eccWriteback => exact ⟨_, rfl, .eccWriteback h⟩
  | refclkLost => exact ⟨_, rfl, .refclkLost h⟩
  | refclkFreqErr => exact ⟨_, rfl, .refclkFreqErr h⟩
  | refclkInWindow => exact ⟨_, rfl, .refclkInWindow h⟩
  | switchToRecovered => exact ⟨_, rfl, .switchToRecovered h⟩
  | refclkReturn => exact ⟨_, rfl, .refclkReturn h⟩
  | clusterPllUnlock => exact ⟨_, rfl, .pllUnlock h⟩
  | clusterPllRelock => exact ⟨_, rfl, .pllRelock h⟩
  | drwNop => exact ⟨_, rfl, .drwCmd h⟩
  | commit => exact ⟨_, rfl, .drwCmd h⟩
  | retire => exact ⟨_, rfl, .drwCmd h⟩
  | pin => exact ⟨_, rfl, .drwCmd h⟩
  | unpin => exact ⟨_, rfl, .drwCmd h⟩
  | shelfAlloc => exact ⟨_, rfl, .drwCmd h⟩
  | shelfFree => exact ⟨_, rfl, .drwCmd h⟩
  | drwCmdDone => exact ⟨_, rfl, .drwDone h⟩
  | artInsert => exact ⟨_, rfl, .artInsert h⟩
  | strmFetchIssue => exact ⟨_, rfl, .fetchIssue h⟩
  | strmFetchComplete => exact ⟨_, rfl, .fetchComplete h⟩
  | readinessPoint => exact ⟨_, rfl, .readinessPoint h⟩
  | frameBoundary => exact ⟨_, rfl, .frameBoundary h⟩
  | ledgerPctWrite => exact ⟨_, rfl, .ledgerPctWrite h⟩
  | memcEnqueue => exact ⟨_, rfl, .memcEnqueue h⟩
  | inorderExit => exact ⟨_, rfl, .inorderExit h⟩
  | refreshInterval => exact ⟨_, rfl, .refreshInterval h⟩
  | refreshIssue => exact ⟨_, rfl, .refreshIssue h⟩
  | refreshAllBank => exact ⟨_, rfl, .refreshAllBank h⟩
  | stackTempChange => exact ⟨_, rfl, .stackTemp h⟩
  | retrainSessionStart => exact ⟨_, rfl, .retrainStart h⟩
  | retrainSlice => exact ⟨_, rfl, .retrainSlice h⟩
  | retrainSessionEnd => exact ⟨_, rfl, .retrainEnd h⟩
  | memcRetrainStart => exact ⟨_, rfl, .retrainRequest h⟩
  | memcRetrainEnableWrite => exact ⟨_, rfl, .retrainCtrlWrite h⟩
  | pcPowerEnter => exact ⟨_, rfl, .powerEnter h⟩
  | pcWake => exact ⟨_, rfl, .pcWake h⟩
  | pcWakeDone => exact ⟨_, rfl, .pcWakeDone h⟩
  | engineContextSwitch => exact ⟨_, rfl, .contextSwitch h⟩
  | runaheadResume => exact ⟨_, rfl, .runaheadResume h⟩
  | directoryReadDone => exact ⟨_, rfl, .directoryDone h⟩
  | ilistFetchDone => exact ⟨_, rfl, .ilistDone h⟩
  | vec => exact ⟨_, rfl, .seqInstr h (fun h => .runVec h)⟩
  | rpt => exact ⟨_, rfl, .seqInstr h (fun h => .runRpt h)⟩
  | loop => exact ⟨_, rfl, .seqInstr h (fun h => .runLoop h)⟩
  | endl => exact ⟨_, rfl, .seqInstr h (fun h => .runEndl h)⟩
  | jmp => exact ⟨_, rfl, .seqInstr h (fun h => .runJmp h)⟩
  | jmpc => exact ⟨_, rfl, .seqInstr h (fun h => .runJmpc h)⟩
  | call => exact ⟨_, rfl, .seqInstr h (fun h => .runCall h)⟩
  | ret => exact ⟨_, rfl, .seqInstr h (fun h => .runRet h)⟩
  | matchwait => exact ⟨_, rfl, .seqInstr h (fun h => .runMatchwait h)⟩
  | tset => exact ⟨_, rfl, .seqInstr h (fun h => .runTset h)⟩
  | levels => exact ⟨_, rfl, .seqInstr h (fun h => .runEff h)⟩
  | captMark => exact ⟨_, rfl, .seqInstr h (fun h => .runEff h)⟩
  | captEnable => exact ⟨_, rfl, .seqInstr h (fun h => .runEff h)⟩
  | captDisable => exact ⟨_, rfl, .seqInstr h (fun h => .runEff h)⟩
  | captTrig => exact ⟨_, rfl, .seqInstr h (fun h => .runEff h)⟩
  | signalSched => exact ⟨_, rfl, .seqInstr h (fun h => .runEff h)⟩
  | signalDoorbell => exact ⟨_, rfl, .seqInstr h (fun h => .runEff h)⟩
  | transitSpan => exact ⟨_, rfl, .seqInstr h (fun h => .runTransit h)⟩
  | transitDomain => exact ⟨_, rfl, .seqInstr h (fun h => .runTransit h)⟩
  | flag => exact ⟨_, rfl, .seqInstr h (fun h => .runEff h)⟩
  | halt => exact ⟨_, rfl, .seqInstr h (fun h => .runHalt h)⟩
  | keep => exact ⟨_, rfl, .seqInstr h (fun h => .runKeep h)⟩
  | xlmarkStart => exact ⟨_, rfl, .seqInstr h (fun h => .runEff h)⟩
  | xlmarkStop => exact ⟨_, rfl, .seqInstr h (fun h => .runEff h)⟩
  | xlmarkMark => exact ⟨_, rfl, .seqInstr h (fun h => .runEff h)⟩
  | waitcore => exact ⟨_, rfl, .seqInstr h (fun h => .runWaitcore h)⟩
  | undefinedOpcode => exact ⟨_, rfl, .undefinedOpcode h⟩
  | granuleBoundary => exact ⟨_, rfl, .granuleBoundary h⟩
  | branchDecision => exact ⟨_, rfl, .branchDecision h⟩
  | matchwaitTimeout => exact ⟨_, rfl, .matchwaitTimeout h⟩
  | waitcoreTimeout => exact ⟨_, rfl, .waitcoreTimeout h⟩
  | seqAbort => exact ⟨_, rfl, .seqAbort h⟩
  | coreFlagSet => exact ⟨_, rfl, .coreFlagSet h⟩
  | coreFlagClear => exact ⟨_, rfl, .coreFlagClear h⟩
  | ucsWordWrite => exact ⟨_, rfl, .ucsWordWrite h⟩
  | tsetEntryWrite => exact ⟨_, rfl, .tsetEntryWrite h⟩
  | tsetNop => exact ⟨_, rfl, .tsetCmd h⟩
  | tsetCommit => exact ⟨_, rfl, .tsetCmd h⟩
  | tsetCmdDone => exact ⟨_, rfl, .tsetDone h⟩
  | ecLoadDone => exact ⟨_, rfl, .ecLoadDone h⟩
  | bankVnomWrite => exact ⟨_, rfl, .bankVnomWrite h⟩
  | bankOutOfWindow => exact ⟨_, rfl, .bankOut h⟩
  | bankInWindow => exact ⟨_, rfl, .bankBack h⟩
  | levelWrite => exact ⟨_, rfl, .levelWrite h⟩
  | settleEnd => exact ⟨_, rfl, .settleEnd h⟩
  | ocpDetect => exact ⟨_, rfl, .ocpDetect h⟩
  | ppmuCtrlWrite => exact ⟨_, rfl, .ppmuCtrlWrite h⟩
  | ppmuForceWrite => exact ⟨_, rfl, .ppmuForceWrite h⟩
  | ppmuVclampWrite => exact ⟨_, rfl, .ppmuVclampWrite h⟩
  | ppmuLimit => exact ⟨_, rfl, .ppmuLimit h⟩
  | mcSliceEnd => exact ⟨_, rfl, .mcSliceEnd h⟩
  | vectorResult => exact ⟨_, rfl, .vectorResult h⟩
  | failRecordWrite => exact ⟨_, rfl, .failRecordWrite h⟩
  | triggerEvaluate => exact ⟨_, rfl, .triggerEvaluate h⟩
  | triggerTimerExpire => exact ⟨_, rfl, .timerExpire h⟩
  | triggerCounterDone => exact ⟨_, rfl, .counterDone h⟩
  | holdoffEnd => exact ⟨_, rfl, .holdoffEnd h⟩
  | captRecordWrite => exact ⟨_, rfl, .captRecordWrite h⟩
  | spillBlockCopy => exact ⟨_, rfl, .spillBlockCopy h⟩
  | spillFlush => exact ⟨_, rfl, .spillFlush h⟩
  | siteDone => exact ⟨_, rfl, .siteDone h⟩
  | tdcArm => exact ⟨_, rfl, .tdcArm h⟩
  | tdcAbort => exact ⟨_, rfl, .tdcAbort h⟩
  | tdcStartEdge => exact ⟨_, rfl, .tdcStart h⟩
  | tdcStopEdge => exact ⟨_, rfl, .tdcStop h⟩
  | tdcWindowClose => exact ⟨_, rfl, .tdcClose h⟩
  | tdcHistRearm => exact ⟨_, rfl, .tdcRearm h⟩
  | siteNop => exact ⟨_, rfl, .siteCmd h (fun h => h)⟩
  | siteArm => exact ⟨_, rfl, .siteArm h⟩
  | siteArmDone => exact ⟨_, rfl, .siteArmDone h⟩
  | siteDisarm => exact ⟨_, rfl, .siteDisarm h⟩
  | siteDisarmDone => exact ⟨_, rfl, .siteDisarmDone h⟩
  | siteGo => exact ⟨_, rfl, .siteGo h⟩
  | goSchedule => exact ⟨_, rfl, .goSchedule h⟩
  | siteStart => exact ⟨_, rfl, .siteStart h⟩
  | goTimeout => exact ⟨_, rfl, .goTimeout h⟩
  | goReq => exact ⟨_, rfl, .goReq h⟩
  | goReady => exact ⟨_, rfl, .goReadyIn h⟩
  | go => exact ⟨_, rfl, .goIn h⟩
  | goCancel => exact ⟨_, rfl, .goCancelIn h⟩
  | arrive => exact ⟨_, rfl, .arriveIn h⟩
  | release => exact ⟨_, rfl, .releaseIn h⟩
  | dtArrive => exact ⟨_, rfl, .dtArriveIn h⟩
  | dtRelease => exact ⟨_, rfl, .dtReleaseIn h⟩
  | transitResume => exact ⟨_, rfl, .transitResume h⟩
  | transitTimeout => exact ⟨_, rfl, .transitTimeout h⟩
  | flags => exact ⟨_, rfl, .flagsMsg h⟩
  | spanFlagDeadline => exact ⟨_, rfl, .spanFlagDeadline h⟩
  | heartbeatTimer => exact ⟨_, rfl, .heartbeatTimer h⟩
  | heartbeat => exact ⟨_, rfl, .heartbeat h⟩
  | memberLost => exact ⟨_, rfl, .memberLost h⟩
  | halted => exact ⟨_, rfl, .haltedMsg h⟩
  | spanResultTimeout => exact ⟨_, rfl, .spanResultTimeout h⟩
  | enumWaitExpire => exact ⟨_, rfl, .enumWaitExpire h⟩
  | ultEnumStart => exact ⟨_, rfl, .ultEnumStart h⟩
  | enumReport => exact ⟨_, rfl, .enumReport h⟩
  | enumAssign => exact ⟨_, rfl, .enumAssign h⟩
  | ultRmtRead => exact ⟨_, rfl, .rmtCmd h⟩
  | ultRmtWrite => exact ⟨_, rfl, .rmtCmd h⟩
  | rdReq => exact ⟨_, rfl, .rdReq h⟩
  | rdRsp => exact ⟨_, rfl, .rdRsp h⟩
  | wrReq => exact ⟨_, rfl, .wrReq h⟩
  | wrRsp => exact ⟨_, rfl, .wrRsp h⟩
  | mgmtTimeout => exact ⟨_, rfl, .mgmtTimeout h⟩
  | write => exact ⟨_, rfl, .bulkWrite h⟩
  | writeAck => exact ⟨_, rfl, .writeAck h⟩
  | ultBadMessage => exact ⟨_, rfl, .ultBadMessage h⟩
  | ultPortCtrlWrite => exact ⟨_, rfl, .ultPortCtrlWrite h⟩
  | ultPortRetrain => exact ⟨_, rfl, .ultPortRetrain h⟩
  | ultBitslip => exact ⟨_, rfl, .ultBitslip h⟩
  | ultLanePartnerDetect => exact ⟨_, rfl, .ultPartnerDetect h⟩
  | ultLaneBlockLock => exact ⟨_, rfl, .ultBlockLock h⟩
  | ultLaneStateTimeout => exact ⟨_, rfl, .ultStateTimeout h⟩
  | ultLaneCapsDone => exact ⟨_, rfl, .ultCapsDone h⟩
  | ultLaneRateStepDone => exact ⟨_, rfl, .ultRateStepDone h⟩
  | ultEqRequest => exact ⟨_, rfl, .ultEqRequest h⟩
  | ultEqDone => exact ⟨_, rfl, .ultEqDone h⟩
  | ultBerCheckDone => exact ⟨_, rfl, .ultBerCheckDone h⟩
  | ultLaneLockLost => exact ⟨_, rfl, .ultLockLost h⟩
  | xlCtrlWrite => exact ⟨_, rfl, .xlCtrlWrite h⟩
  | xlStart => exact ⟨_, rfl, .xlCmd h⟩
  | xlStop => exact ⟨_, rfl, .xlCmd h⟩
  | xlErrClr => exact ⟨_, rfl, .xlCmd h⟩
  | xlBitslip => exact ⟨_, rfl, .xlCmd h⟩
  | xlMark => exact ⟨_, rfl, .xlCmd h⟩
  | xlRetrain => exact ⟨_, rfl, .xlCmd h⟩
  | xlEyeStart => exact ⟨_, rfl, .xlCmd h⟩
  | xlEyeAbort => exact ⟨_, rfl, .xlCmd h⟩
  | xlEyePointDone => exact ⟨_, rfl, .xlEyePointDone h⟩
  | xlPllLock => exact ⟨_, rfl, .xlPllLock h⟩
  | xlTrainDone => exact ⟨_, rfl, .xlTrainDone h⟩
  | xlTrainTimeout => exact ⟨_, rfl, .xlTrainTimeout h⟩
  | xlPrbsLock => exact ⟨_, rfl, .xlPrbsLock h⟩
  | xlLockLoss => exact ⟨_, rfl, .xlLockLoss h⟩
  | xlSigLoss => exact ⟨_, rfl, .xlSigLoss h⟩
  | xlErrThresh => exact ⟨_, rfl, .xlSee h⟩
  | xlPayloadEnd => exact ⟨_, rfl, .xlPayloadEnd h⟩
  | xlmarkLaneAct => exact ⟨_, rfl, .xlmarkLaneAct h⟩
  | xlHaltStop => exact ⟨_, rfl, .xlHaltStop h⟩
  | xlEventFlagSet => exact ⟨_, rfl, .xlEventFlagSet h⟩
  | coreRunWrite => exact ⟨_, rfl, .coreRunWrite h⟩
  | storeBufferDrain => exact ⟨_, rfl, .sbDrain h⟩
  | coreFence => exact ⟨_, rfl, .coreFence h⟩
  | coreFenceI => exact ⟨_, rfl, .coreFenceI h⟩
  | coreAmo => exact ⟨_, rfl, .coreAmo h⟩
  | coreLr => exact ⟨_, rfl, .coreLr h⟩
  | coreSc => exact ⟨_, rfl, .coreSc h⟩
  | coreWfi => exact ⟨_, rfl, .coreWfi h⟩
  | coreFastTrap => exact ⟨_, rfl, .coreFastTrap h⟩
  | mtimecmpMatch => exact ⟨_, rfl, .mtimecmpMatch h⟩
  | schedEnqueue => exact ⟨_, rfl, .schedEnqueue h⟩
  | schedTake => exact ⟨_, rfl, .schedTake h⟩
  | schedDone => exact ⟨_, rfl, .schedDone h⟩
  | schedCoreCfgWrite => exact ⟨_, rfl, .coreCfgWrite h⟩
  | intcSourceRise => exact ⟨_, rfl, .sourceRise h⟩
  | intcSourceFall => exact ⟨_, rfl, .sourceFall h⟩
  | intcSetpend => exact ⟨_, rfl, .intcSetpend h⟩
  | intcPendClear => exact ⟨_, rfl, .intcPendClear h⟩
  | intcSrcCfgWrite => exact ⟨_, rfl, .srcCfgWrite h⟩
  | intcClaim => exact ⟨_, rfl, .intcClaim h⟩
  | intcEoi => exact ⟨_, rfl, .intcEoi h⟩
  | intcPush => exact ⟨_, rfl, .intcPush h⟩
  | pcieConfigRequest => exact ⟨_, rfl, .configRequest h⟩
  | pcieReset => exact ⟨_, rfl, .pcieReset h⟩
  | pciePerst => exact ⟨_, rfl, .pciePerst h⟩
  | dmaEnableWrite => exact ⟨_, rfl, .dmaEnableWrite h⟩
  | dmaAbort => exact ⟨_, rfl, .dmaAbort h⟩
  | dmaTailWrite => exact ⟨_, rfl, .dmaTailWrite h⟩
  | dmaDescriptorFetch => exact ⟨_, rfl, .dmaFetch h⟩
  | dmaH2d => exact ⟨_, rfl, .dmaH2d h⟩
  | dmaD2h => exact ⟨_, rfl, .dmaD2h h⟩
  | dmaBcast => exact ⟨_, rfl, .dmaBcast h⟩
  | dmaRemote => exact ⟨_, rfl, .dmaRemote h⟩
  | dmaRemoteAckTimeout => exact ⟨_, rfl, .dmaAckTimeout h⟩
  | dmaDescriptorDone => exact ⟨_, rfl, .dmaDone h⟩
  | msixSend => exact ⟨_, rfl, .msixSend h⟩
  | mbxPost => exact ⟨_, rfl, .mbxPost h⟩
  | mbxTake => exact ⟨_, rfl, .mbxTake h⟩
  | mbxTimeout => exact ⟨_, rfl, .mbxTimeout h⟩
  | mbxAck => exact ⟨_, rfl, .mbxAck h⟩
  | dbH2dSet => exact ⟨_, rfl, .dbH2dSet h⟩
  | dbH2dClr => exact ⟨_, rfl, .dbH2dClr h⟩
  | dbD2hSet => exact ⟨_, rfl, .dbD2hSet h⟩
  | dbD2hClr => exact ⟨_, rfl, .dbD2hClr h⟩
  | timeRateWrite => exact ⟨_, rfl, .timeRateWrite h⟩
  | timeOffsetWrite => exact ⟨_, rfl, .timeOffsetWrite h⟩
  | timeAdjWrite => exact ⟨_, rfl, .timeAdjWrite h⟩
  | timeTbNsRead => exact ⟨_, rfl, .timeTbNsRead h⟩
  | tsqFind => exact ⟨_, rfl, .tsqFind h⟩
  | syncSendTimer => exact ⟨_, rfl, .syncSendTimer h⟩
  | sync => exact ⟨_, rfl, .syncMsg h⟩
  | echoTimer => exact ⟨_, rfl, .echoTimer h⟩
  | echoReq => exact ⟨_, rfl, .echoReq h⟩
  | echoRsp => exact ⟨_, rfl, .echoRsp h⟩
  | syncMissed => exact ⟨_, rfl, .syncMissed h⟩
  | fallbackStep => exact ⟨_, rfl, .fallbackStep h⟩
  | ethFrameTransmit => exact ⟨_, rfl, .ethFrameTransmit h⟩
  | ethFrameReceive => exact ⟨_, rfl, .ethFrameReceive h⟩
  | govEvaluation => exact ⟨_, rfl, .govEvaluation h⟩
  | admissionRequest => exact ⟨_, rfl, .admissionRequest h⟩
  | xchkBad => exact ⟨_, rfl, .xchkBad h⟩
  | durOver => exact ⟨_, rfl, .durOver h⟩
  | calRequestTdcCd => exact ⟨_, rfl, .calRequest h⟩
  | calRequestLevelDac => exact ⟨_, rfl, .calRequest h⟩
  | calRequestClusterFull => exact ⟨_, rfl, .calRequest h⟩
  | calCancel => exact ⟨_, rfl, .calCancel h⟩
  | calActivityEnd => exact ⟨_, rfl, .calActivityEnd h⟩
  | calSlewTick => exact ⟨_, rfl, .spanSlew (.calSlewTick h)⟩
  | calSpanStart => exact ⟨_, rfl, .calSpanStart h⟩
  | spanSkewHold => exact ⟨_, rfl, .spanSkewHold h⟩
  | spanSkewBusyTimeout => exact ⟨_, rfl, .spanBusyTimeout h⟩
  | spanSkewEnd => exact ⟨_, rfl, .spanSkewEnd h⟩
  | ephRead => exact ⟨_, rfl, .ephRead h⟩
  | ephRecord => exact ⟨_, rfl, .ephRecord h⟩
  | pwrgoodRise => exact ⟨_, rfl, .pwrgoodRise h⟩
  | pwrgoodFall => exact ⟨_, rfl, .pwrgoodFall h⟩
  | rstNRise => exact ⟨_, rfl, .rstNRise h⟩
  | rstNPulse => exact ⟨_, rfl, .rstNPulse h⟩
  | bootResetWrite => exact ⟨_, rfl, .bootResetWrite h⟩
  | softwareReset => exact ⟨_, rfl, .softwareReset h⟩
  | bootRomDone => exact ⟨_, rfl, .bootRomDone h⟩
  | bootFlashDiscovery => exact ⟨_, rfl, .bootFlash h⟩
  | bootSelect => exact ⟨_, rfl, .bootSelect h⟩
  | bootHeader => exact ⟨_, rfl, .bootHeader h⟩
  | bootMgmtFw => exact ⟨_, rfl, .bootMgmtFw h⟩
  | bootClocks => exact ⟨_, rfl, .bootClocks h⟩
  | bootNoRefclk => exact ⟨_, rfl, .bootNoRefclk h⟩
  | bootPllLockTimeout => exact ⟨_, rfl, .bootPllTimeout h⟩
  | bootLoad => exact ⟨_, rfl, .bootLoad h⟩
  | bootHbmTrain => exact ⟨_, rfl, .bootHbmTrain h⟩
  | configReg => exact ⟨_, rfl, .configReg h⟩
  | configMem => exact ⟨_, rfl, .configMem h⟩
  | configPoll => exact ⟨_, rfl, .configPoll h⟩
  | configPollTimeout => exact ⟨_, rfl, .configPollTimeout h⟩
  | configFill => exact ⟨_, rfl, .configFill h⟩
  | configEnd => exact ⟨_, rfl, .configEnd h⟩
  | bootFinal => exact ⟨_, rfl, .bootFinal h⟩
  | updateStage => exact ⟨_, rfl, .updateStage h⟩
  | updateActivate => exact ⟨_, rfl, .updateActivate h⟩
  | updateConfirm => exact ⟨_, rfl, .updateConfirm h⟩
  | updateReboot => exact ⟨_, rfl, .updateReboot h⟩
  | updateBadRequest => exact ⟨_, rfl, .updateBadRequest h⟩
  | updateDone => exact ⟨_, rfl, .updateDone h⟩
  | peSafeNAssert => exact ⟨_, rfl, .peSafeAssert h⟩
  | peSafeNRelease => exact ⟨_, rfl, .peSafeRelease h⟩
  | thermalTrip => exact ⟨_, rfl, .thermalTrip h⟩
  | safeForceWrite => exact ⟨_, rfl, .safeForceWrite h⟩
  | safeExit => exact ⟨_, rfl, .safeExit h⟩
  | wdtEnable => exact ⟨_, rfl, .wdtEnable h⟩
  | wdtKick => exact ⟨_, rfl, .wdtKick h⟩
  | wdtExpire => exact ⟨_, rfl, .wdtExpire h⟩
  | wdtReset => exact ⟨_, rfl, .wdtReset h⟩
  | sensorRefresh => exact ⟨_, rfl, .sensorRefresh h⟩
  | railCurrentSense => exact ⟨_, rfl, .railSense h⟩
  | vbatLoss => exact ⟨_, rfl, .vbatLoss h⟩
  | kaRtcWrite => exact ⟨_, rfl, .kaRtcWrite h⟩
  | kaClr => exact ⟨_, rfl, .kaClr h⟩
  | logAppend => exact ⟨_, rfl, .logAppend h⟩
  | logRdIdxWrite => exact ⟨_, rfl, .logRdIdxWrite h⟩
  | logRecordWrite => exact ⟨_, rfl, .logRecordWrite h⟩
  | ledgerCommit => exact ⟨_, rfl, .ledgerCommit h⟩
  | ledgerHoursTimer => exact ⟨_, rfl, .ledgerHoursTimer h⟩
  | uartRxByte => exact ⟨_, rfl, .uartRxByte h⟩
  | uartDataWrite => exact ⟨_, rfl, .uartDataWrite h⟩
  | uartDataRead => exact ⟨_, rfl, .uartDataRead h⟩
  | smbReadSafeStatus => exact ⟨_, rfl, .smbSafe h⟩
  | smbReadTemp => exact ⟨_, rfl, .smbTemp h⟩
  | smbReadBootStage => exact ⟨_, rfl, .smbStage h⟩
  | smbReadId => exact ⟨_, rfl, .smbId h⟩
  | smbReadChipId => exact ⟨_, rfl, .smbChip h⟩
  | smbAlertResponse => exact ⟨_, rfl, .smbAra h⟩
  | jtagTapReset => exact ⟨_, rfl, .jtagReset h⟩
  | jtagBypass => exact ⟨_, rfl, .jtagBypass h⟩
  | jtagIdcode => exact ⟨_, rfl, .jtagIdcode h⟩
  | jtagSamplePreload => exact ⟨_, rfl, .jtagSample h⟩
  | jtagExtest => exact ⟨_, rfl, .jtagExtest h⟩
  | jtagClamp => exact ⟨_, rfl, .jtagClamp h⟩
  | jtagHighz => exact ⟨_, rfl, .jtagHighz h⟩
  | jtagRegAccess => exact ⟨_, rfl, .jtagRegAccess h⟩
  | vidStep => exact ⟨_, rfl, .vidStep h⟩
  | internalResetRelease => exact ⟨_, rfl, .internalRelease h⟩
  | pcieLinkUp => exact ⟨_, rfl, .pcieLinkUp h⟩
  | uartTxByteSent => exact ⟨_, rfl, .uartTxSent h⟩
  | coreTrap => exact ⟨_, rfl, .coreTrap h⟩
  | spanSkewBarrier => exact ⟨_, rfl, .spanBarrier h⟩

end Sys2Proof.Machine
end

section
-- One proof at a time: the whole text then stays within the memory the check allows.
set_option Elab.async false
/-! PROOFS. The queue, the frame of memory, the canonical form and the reset values: read off `exec_keeps` and `State.reset`. -/

namespace Sys2Proof.Machine

/-- Settles O54: a step matches on the queue. -/
theorem stepRunsTheFrontCommand : Obligations.StepRunsTheFrontCommand := fun _ _ _ => rfl

/-- Settles O55: a step matches on the queue. -/
theorem idleStepCountsTime : Obligations.IdleStepCountsTime := by
  intro s h
  rw [step, h]

/-- Settles O56. -/
theorem queueUntouched : Obligations.QueueUntouched := by
  intro c s
  obtain ⟨t, ht, hk⟩ := exec_keeps c s
  exact ⟨t, ht, hk.pending⟩

/-- Settles O57. -/
theorem memoryFrame : Obligations.MemoryFrame := by
  intro c s t hc ht
  obtain ⟨u, hu, hk⟩ := exec_keeps c s
  obtain rfl : u = t := by simpa [hu] using ht
  have hm : u.mem = s.mem := hk.quiet (by rw [hc]; rfl)
  exact ⟨hm, State.rdByte_congr hm⟩

/-- Settles O58: both tables are empty. -/
theorem formAtReset : Obligations.FormAtReset := ⟨rfl, rfl⟩

/-- What `Keeps` says includes the invariant. -/
theorem Keeps.inv {m : Bool} {r s : State} (h : Keeps m r s) (hr : r.Inv) : s.Inv := ⟨h.mem hr.1, h.regs hr.2⟩

/-- Settles O59: the idle step touches neither table, and every command keeps the form of both. -/
theorem stepKeepsForm : Obligations.StepKeepsForm := by
  intro s t hs ht
  unfold step at ht
  split at ht
  case h_1 =>
    cases ht
    exact hs
  case h_2 c rest _ =>
    obtain ⟨u, hu, hk⟩ := exec_keeps c { s with pending := rest }
    obtain rfl : u = t := by simpa [hu] using ht
    exact hk.inv hs

/-- Settles O60: every field listed is read from the reset word of its row of the register table. -/
theorem resetValues : Obligations.ResetValues := by
  unfold Obligations.ResetValues
  decide

end Sys2Proof.Machine
end

section
-- One proof at a time: the whole text then stays within the memory the check allows.
set_option Elab.async false
/-!
PROOFS. Rules for reading registers after updates, as simp rules, and `RegsIf`, the frame of the register words for a set of offsets,
with one rule per update.
-/

namespace Sys2Proof.Machine

/-- Two fields share no bit: they lie in different registers or in different bits of one. -/
def Fld.apart (f g : Fld) : Bool :=
  f.off != g.off || (decide (f.lo ≤ f.hi) && decide (g.hi < 32) && (decide (g.hi < f.lo) || decide (f.hi < g.lo)))

/-- A field inside its register that has room for a value. -/
def Fld.fits (f : Fld) (v : Nat) : Bool := decide (f.lo ≤ f.hi) && decide (f.hi < 32) && decide (v < 2 ^ (f.hi + 1 - f.lo))

/-- A field that has room for all numbers below `n` has room for each. -/
theorem Fld.fits_of_lt {f : Fld} {v n : Nat}
    (h : (decide (f.lo ≤ f.hi) && decide (f.hi < 32) && decide (n ≤ 2 ^ (f.hi + 1 - f.lo))) = true) (hv : v < n) :
    f.fits v = true := by
  simp only [Fld.fits, Bool.and_eq_true, decide_eq_true_eq] at h ⊢
  exact ⟨h.1, lt_of_lt_of_le hv h.2⟩

/-- A property of the members of a finite type, from its truth for all of them. -/
theorem all_fin {k : Nat} {P : Fin k → Prop} (n : Fin k) (h : ∀ n, P n) : P n := h n

theorem ne_of_unlisted {o a : Nat} {l : List Nat} (h : o ∉ l) (m : a ∈ l) : o ≠ a := fun e => h (e ▸ m)

namespace State

/-! ### Updates of other fields keep every register -/

section
variable {s : State} {mem now pending free req pins drw art strm memc seq eng ucs ts chan mc capt site ult tdc xl gov tb hart sched intc host cal time boot mgmt}

@[simp] theorem word_others (o : Nat) : (⟨s.regs, mem, now, pending, free, req, pins, drw, art, strm, memc, seq, eng, ucs, ts, chan, mc, capt, site, ult, tdc, xl, gov, tb, hart, sched, intc, host, cal, time, boot, mgmt⟩ : State).word o = s.word o := rfl
@[simp] theorem get_others (f : Fld) : (⟨s.regs, mem, now, pending, free, req, pins, drw, art, strm, memc, seq, eng, ucs, ts, chan, mc, capt, site, ult, tdc, xl, gov, tb, hart, sched, intc, host, cal, time, boot, mgmt⟩ : State).get f = s.get f := rfl
@[simp] theorem num_others (o : Nat) : (⟨s.regs, mem, now, pending, free, req, pins, drw, art, strm, memc, seq, eng, ucs, ts, chan, mc, capt, site, ult, tdc, xl, gov, tb, hart, sched, intc, host, cal, time, boot, mgmt⟩ : State).num o = s.num o := rfl
@[simp] theorem bit_others (o i : Nat) : (⟨s.regs, mem, now, pending, free, req, pins, drw, art, strm, memc, seq, eng, ucs, ts, chan, mc, capt, site, ult, tdc, xl, gov, tb, hart, sched, intc, host, cal, time, boot, mgmt⟩ : State).bit o i = s.bit o i := rfl
end

/-! ### Reading what was written

The rules of Sys2Proof/Laws/Regs.lean as simp rules: a read passes the writes that share no bit with it and stops at the last write
of what it reads. Their side conditions speak of the offsets and bits of named fields, which the caller's discharger computes. -/

section
variable (s : State)

@[simp] theorem get_put_same (f : Fld) (v : Nat) (h : f.fits v = true) : (s.put f v).get f = v := by
  simp only [Fld.fits, Bool.and_eq_true, decide_eq_true_eq] at h
  rw [get_put s f v h.1.1 h.1.2, Nat.mod_eq_of_lt h.2]

theorem get_put_b2n (f : Fld) (b : Bool) (h : f.fits 1 = true) : (s.put f (b2n b)).get f = b2n b := by
  refine get_put_same s f (b2n b) ?_
  simp only [Fld.fits, Bool.and_eq_true, decide_eq_true_eq] at h ⊢
  exact ⟨h.1, lt_of_le_of_lt (by cases b <;> decide) h.2⟩

@[simp] theorem get_put_apart (f g : Fld) (v : Nat) (h : f.apart g = true) : (s.put f v).get g = s.get g := by
  simp only [Fld.apart, Bool.or_eq_true, Bool.and_eq_true, decide_eq_true_eq, bne_iff_ne] at h
  obtain h | ⟨⟨h, h'⟩, hd⟩ := h
  · exact get_put_off s f g v (Ne.symm h)
  · exact get_put_bits s f g v h h' hd

@[simp] theorem get_putN_apart (o v : Nat) (g : Fld) (h : g.off ≠ o) : (s.putN o v).get g = s.get g := get_putN_ne s o v g h

@[simp] theorem get_putBit_apart (o i : Nat) (b : Bool) (g : Fld) (h : g.off ≠ o) : (s.putBit o i b).get g = s.get g :=
  get_putBit_ne s o i b g h

@[simp] theorem get_bump_apart (o : Nat) (g : Fld) (h : g.off ≠ o) : (s.bump o).get g = s.get g := get_bump_ne s o g h

@[simp] theorem get_addSat_apart (o k : Nat) (g : Fld) (h : g.off ≠ o) : (s.addSat o k).get g = s.get g :=
  get_setWord_ne s o _ g h

@[simp] theorem get_putPair_apart (o v : Nat) (g : Fld) (h : g.off ≠ o ∧ g.off ≠ o + 4) :
    (s.putPair o v).get g = s.get g := (get_putN_ne _ _ _ g h.2).trans (get_putN_ne _ _ _ g h.1)

@[simp] theorem num_putN_same (o v : Nat) (h : v < 2 ^ 32) : (s.putN o v).num o = v := by rw [num_putN, Nat.mod_eq_of_lt h]

@[simp] theorem num_bump_same (o : Nat) : (s.bump o).num o = min satMax (s.num o + 1) := num_bump s o

@[simp] theorem num_addSat_same (o k : Nat) : (s.addSat o k).num o = min satMax (s.num o + k) := num_addSat s o k

@[simp] theorem num_put_apart (f : Fld) (v p : Nat) (h : p ≠ f.off) : (s.put f v).num p = s.num p := num_put_ne s f v p h

@[simp] theorem num_putN_apart (o v p : Nat) (h : p ≠ o) : (s.putN o v).num p = s.num p := num_putN_ne s o v p h

@[simp] theorem num_putBit_apart (o i : Nat) (b : Bool) (p : Nat) (h : p ≠ o) : (s.putBit o i b).num p = s.num p :=
  num_putN_ne s o _ p h

@[simp] theorem num_bump_apart (o p : Nat) (h : p ≠ o) : (s.bump o).num p = s.num p := num_bump_ne s o p h

@[simp] theorem num_addSat_apart (o k p : Nat) (h : p ≠ o) : (s.addSat o k).num p = s.num p := num_putN_ne s o _ p h

@[simp] theorem num_putPair_apart (o v p : Nat) (h : p ≠ o ∧ p ≠ o + 4) : (s.putPair o v).num p = s.num p :=
  num_putPair_ne s o v p h.1 h.2

@[simp] theorem bit_putBit_same (o i j : Nat) (b : Bool) (h : i < 32) :
    (s.putBit o i b).bit o j = if j = i then b else s.bit o j := bit_putBit s o i j b h

@[simp] theorem bit_putBit_apart (o i : Nat) (b : Bool) (p j : Nat) (h : p ≠ o) : (s.putBit o i b).bit p j = s.bit p j :=
  bit_putBit_ne s o i b p j h

@[simp] theorem bit_put_apart (f : Fld) (v p j : Nat) (h : p ≠ f.off) : (s.put f v).bit p j = s.bit p j := bit_put_ne s f v p j h

@[simp] theorem bit_putN_apart (o v p j : Nat) (h : p ≠ o) : (s.putN o v).bit p j = s.bit p j := bit_putN_ne s o v p j h

@[simp] theorem bit_bump_apart (o p j : Nat) (h : p ≠ o) : (s.bump o).bit p j = s.bit p j := bit_putN_ne s o _ p j h

@[simp] theorem bit_addSat_apart (o k p j : Nat) (h : p ≠ o) : (s.addSat o k).bit p j = s.bit p j := bit_putN_ne s o _ p j h

@[simp] theorem word_setWord_apart (o : Nat) (v : Word) (p : Nat) (h : p ≠ o) : (s.setWord o v).word p = s.word p :=
  word_setWord_ne s o v p h

@[simp] theorem word_put_apart (f : Fld) (v p : Nat) (h : p ≠ f.off) : (s.put f v).word p = s.word p := word_put_ne s f v p h

@[simp] theorem word_putN_apart (o v p : Nat) (h : p ≠ o) : (s.putN o v).word p = s.word p := word_putN_ne s o v p h

@[simp] theorem word_putBit_apart (o i : Nat) (b : Bool) (p : Nat) (h : p ≠ o) : (s.putBit o i b).word p = s.word p :=
  word_putBit_ne s o i b p h

@[simp] theorem word_bump_apart (o p : Nat) (h : p ≠ o) : (s.bump o).word p = s.word p := word_bump_ne s o p h

@[simp] theorem word_addSat_apart (o k p : Nat) (h : p ≠ o) : (s.addSat o k).word p = s.word p := word_addSat_ne s o k p h

@[simp] theorem word_putPair_apart (o v p : Nat) (h : p ≠ o) (h' : p ≠ o + 4) :
    (s.putPair o v).word p = s.word p := (word_putN_ne _ _ _ p h').trans (word_putN_ne _ _ _ p h)

theorem is_eq (f : Fld) : s.is f = (s.get f != 0) := rfl

end

end State

/-- Two states are the same when all their parts are: the way a frame `t = { s with regs := t.regs }` is shown part by part. -/
theorem State.eq_iff (s t : State) : s = t ↔
    s.regs = t.regs ∧ s.mem = t.mem ∧ s.now = t.now ∧ s.pending = t.pending ∧ s.free = t.free ∧ s.req = t.req ∧
    s.pins = t.pins ∧ s.drw = t.drw ∧ s.art = t.art ∧ s.strm = t.strm ∧ s.memc = t.memc ∧ s.seq = t.seq ∧
    s.eng = t.eng ∧ s.ucs = t.ucs ∧ s.ts = t.ts ∧ s.chan = t.chan ∧ s.mc = t.mc ∧ s.capt = t.capt ∧
    s.site = t.site ∧ s.ult = t.ult ∧ s.tdc = t.tdc ∧ s.xl = t.xl ∧ s.gov = t.gov ∧ s.tb = t.tb ∧
    s.hart = t.hart ∧ s.sched = t.sched ∧ s.intc = t.intc ∧ s.host = t.host ∧ s.cal = t.cal ∧ s.time = t.time ∧
    s.boot = t.boot ∧ s.mgmt = t.mgmt := by
  cases s
  cases t
  exact State.mk.injEq .. ▸ Iff.rfl

/-- A command completes when the state that it answers meets the claim. -/
theorem completes_intro {c : Instr} {s u : State} {P : State → Prop} (e : exec c s = .next u) (h : ∀ t, t = u → P t) :
    Completes c s P := ⟨u, e, h u rfl⟩

/-- The same where the answered state is known by an equation. -/
theorem completes_of_eq {c : Instr} {s u t : State} {P : State → Prop} (e : exec c s = .next u) (h : u = t) (hp : P t) :
    Completes c s P := ⟨t, h ▸ e, hp⟩

/-! ### Frames of the register words -/

/-- Every register word at an offset that satisfies `P` is the same in both states. -/
def RegsIf (P : Nat → Prop) (s t : State) : Prop := ∀ o, P o → t.word o = s.word o

namespace RegsIf
variable {P : Nat → Prop} {r s t : State}

theorem refl : RegsIf P s s := fun _ _ => rfl

theorem trans (h : RegsIf P r s) (g : RegsIf P s t) : RegsIf P r t := fun o ho => (g o ho).trans (h o ho)

theorem of_regs (h : RegsIf P r s) (e : t.regs = s.regs) : RegsIf P r t := fun o ho => (State.word_congr e o).trans (h o ho)

theorem setWord {o : Nat} {v : Word} (h : RegsIf P r s) (ho : ¬ P o) : RegsIf P r (s.setWord o v) := fun p hp =>
  (State.word_setWord_ne s o v p fun e => ho (e ▸ hp)).trans (h p hp)

theorem put {f : Fld} {v : Nat} (h : RegsIf P r s) (ho : ¬ P f.off) : RegsIf P r (s.put f v) := h.setWord ho

theorem putN {o v : Nat} (h : RegsIf P r s) (ho : ¬ P o) : RegsIf P r (s.putN o v) := h.setWord ho

theorem putBit {o i : Nat} {b : Bool} (h : RegsIf P r s) (ho : ¬ P o) : RegsIf P r (s.putBit o i b) := h.setWord ho

theorem addSat {o k : Nat} (h : RegsIf P r s) (ho : ¬ P o) : RegsIf P r (s.addSat o k) := h.setWord ho

theorem bump {o : Nat} (h : RegsIf P r s) (ho : ¬ P o) : RegsIf P r (s.bump o) := h.setWord ho

theorem putPair {o v : Nat} (h : RegsIf P r s) (ho : ¬ P o) (ho' : ¬ P (o + 4)) : RegsIf P r (s.putPair o v) :=
  (h.putN ho).putN ho'

theorem ite {c : Prop} [Decidable c] (h : RegsIf P r s) (g : RegsIf P r t) : RegsIf P r (if c then s else t) := by
  split
  · exact h
  · exact g

theorem when {c : Bool} {f : State → State} (h : RegsIf P r s) (hf : RegsIf P r s → RegsIf P r (f s)) : RegsIf P r (s.when c f) :=
  State.when_keeps (RegsIf P r) c f s h hf

theorem each {α : Type} {l : List α} {f : State → α → State} (h : RegsIf P r s)
    (hf : ∀ {t x}, RegsIf P r t → RegsIf P r (f t x)) : RegsIf P r (s.each l f) :=
  State.each_keeps (RegsIf P r) l f s h fun _ _ => hf

/-- The same of a fold whose steps are known to act on members of the list. -/
theorem each_mem {α : Type} {l : List α} {f : State → α → State} (h : RegsIf P r s)
    (hf : ∀ {t x}, x ∈ l → RegsIf P r t → RegsIf P r (f t x)) : RegsIf P r (s.each l f) := by
  induction l generalizing s with
  | nil => exact h
  | cons x xs ih => exact ih (hf List.mem_cons_self h) fun hx => hf (List.mem_cons_of_mem _ hx)

theorem get (h : RegsIf P r s) {f : Fld} (ho : P f.off) : s.get f = r.get f := by rw [State.get, h _ ho, State.get]

theorem num (h : RegsIf P r s) {o : Nat} (ho : P o) : s.num o = r.num o := by rw [State.num, h _ ho, State.num]

theorem bit (h : RegsIf P r s) {o i : Nat} (ho : P o) : s.bit o i = r.bit o i := by rw [State.bit, h.num ho, State.bit]

end RegsIf

/-! ### Steps that change register words only -/

/-- `t` is `s` but for register words, and those at the offsets that satisfy `P` are the same. -/
def RegStep (P : Nat → Prop) (s t : State) : Prop := (∃ r, t = { s with regs := r }) ∧ RegsIf P s t

namespace RegStep
variable {P : Nat → Prop} {r s t : State}

theorem refl : RegStep P s s := ⟨⟨s.regs, rfl⟩, RegsIf.refl⟩

theorem others (h : RegStep P s t) : t = { s with regs := t.regs } := by
  obtain ⟨⟨r, rfl⟩, -⟩ := h
  rfl

theorem keeps (h : RegStep P s t) : RegsIf P s t := h.2

theorem trans (h : RegStep P r s) (g : RegStep P s t) : RegStep P r t := by
  obtain ⟨⟨a, rfl⟩, hr⟩ := h
  obtain ⟨⟨b, rfl⟩, gr⟩ := g
  exact ⟨⟨b, rfl⟩, hr.trans gr⟩

theorem weaken {Q : Nat → Prop} (h : RegStep P s t) (i : ∀ o, Q o → P o) : RegStep Q s t :=
  ⟨h.1, fun o ho => h.2 o (i o ho)⟩

theorem setWord {o : Nat} {v : Word} (h : RegStep P r s) (ho : ¬ P o) : RegStep P r (s.setWord o v) := by
  obtain ⟨⟨a, rfl⟩, hr⟩ := h
  exact ⟨⟨_, rfl⟩, hr.setWord ho⟩

theorem put {f : Fld} {v : Nat} (h : RegStep P r s) (ho : ¬ P f.off) : RegStep P r (s.put f v) := h.setWord ho

theorem putN {o v : Nat} (h : RegStep P r s) (ho : ¬ P o) : RegStep P r (s.putN o v) := h.setWord ho

theorem putBit {o i : Nat} {b : Bool} (h : RegStep P r s) (ho : ¬ P o) : RegStep P r (s.putBit o i b) := h.setWord ho

theorem addSat {o k : Nat} (h : RegStep P r s) (ho : ¬ P o) : RegStep P r (s.addSat o k) := h.setWord ho

theorem bump {o : Nat} (h : RegStep P r s) (ho : ¬ P o) : RegStep P r (s.bump o) := h.setWord ho

theorem putPair {o v : Nat} (h : RegStep P r s) (ho : ¬ P o) (ho' : ¬ P (o + 4)) : RegStep P r (s.putPair o v) :=
  (h.putN ho).putN ho'

theorem ite {c : Prop} [Decidable c] (h : RegStep P r s) (g : RegStep P r t) : RegStep P r (if c then s else t) := by
  split
  · exact h
  · exact g

theorem when {c : Bool} {f : State → State} (h : RegStep P r s) (hf : RegStep P r s → RegStep P r (f s)) :
    RegStep P r (s.when c f) := State.when_keeps (RegStep P r) c f s h hf

theorem each {α : Type} {l : List α} {f : State → α → State} (h : RegStep P r s)
    (hf : ∀ {t x}, RegStep P r t → RegStep P r (f t x)) : RegStep P r (s.each l f) :=
  State.each_keeps (RegStep P r) l f s h fun _ _ => hf

/-- The same of a fold whose steps are known to act on members of the list. -/
theorem each_mem {α : Type} {l : List α} {f : State → α → State} (h : RegStep P r s)
    (hf : ∀ {t x}, x ∈ l → RegStep P r t → RegStep P r (f t x)) : RegStep P r (s.each l f) := by
  induction l generalizing s with
  | nil => exact h
  | cons x xs ih => exact ih (hf List.mem_cons_self h) fun hx => hf (List.mem_cons_of_mem _ hx)

end RegStep

/-- `RegsBut` is the frame for the offsets that are not listed. -/
theorem regsBut_iff {l : List Nat} {s t : State} : RegsBut l s t ↔ RegsIf (· ∉ l) s t := Iff.rfl

end Sys2Proof.Machine
end

section
-- One proof at a time: the whole text then stays within the memory the check allows.
set_option Elab.async false
/-! PROOFS. O4: the reference and the cluster PLLs. -/

namespace Sys2Proof.Machine
open State

/-! ### Runs that are spoiled and measurements that note it -/

/-- Invalidating runs writes the results of sites and nothing else. -/
theorem regStep_invalidateAll {P : Nat → Prop} (s : State) (l : List Nat) (i : Nat) (h : ∀ n ∈ l, ¬ P (R.FAIL_SITE_n_RESULT n)) :
    RegStep P s (s.invalidateAll l i) :=
  RegStep.refl.each_mem fun hx ht => ((ht.putBit (h _ hx)).putBit (h _ hx)).putBit (h _ hx)

/-- The note of a lost reference writes the states of the four interval units of the cluster and nothing else. -/
theorem regStep_tdcNote {P : Nat → Prop} (s : State) (k : Nat) (h : ∀ u < 4, ¬ P (R.CLU_k_TDC_u_STATUS k u)) :
    RegStep P s (s.tdcNote k) :=
  RegStep.refl.each_mem fun {t u} hu ht => by
    have hP := h u (List.mem_range.1 hu)
    dsimp only
    exact RegStep.ite (((ht.when fun h => h.put hP).when fun h => h.put hP).when fun h => h.put hP) ht

/-- The result of site `n` names cause `i` and is not valid. -/
def Spoiled (n i : Nat) (s : State) : Prop :=
  s.bit (R.FAIL_SITE_n_RESULT n) (16 + i) = true ∧ s.bit (R.FAIL_SITE_n_RESULT n) 31 = false

theorem Spoiled.congr {n i : Nat} {s t : State} (h : Spoiled n i s) (e : t.word (R.FAIL_SITE_n_RESULT n) = s.word (R.FAIL_SITE_n_RESULT n)) :
    Spoiled n i t := by
  have eb (j) : t.bit (R.FAIL_SITE_n_RESULT n) j = s.bit (R.FAIL_SITE_n_RESULT n) j := by rw [State.bit, State.num, e]; rfl
  exact ⟨(eb _).trans h.1, (eb _).trans h.2⟩

theorem spoiled_invalidate (s : State) (n i : Nat) (hi : i < 14) : Spoiled n i (s.invalidate n i) := by
  have h : 16 + i < 32 := by omega
  constructor
  · simp [State.invalidate, h]; omega
  · simp [State.invalidate, h]

theorem word_invalidate_ne (s : State) {m o : Nat} (i : Nat) (h : o ≠ R.FAIL_SITE_n_RESULT m) : (s.invalidate m i).word o = s.word o := by
  simp [State.invalidate, h]

theorem Spoiled.invalidate {n m i : Nat} {s : State} (h : Spoiled n i s) (hi : i < 14) : Spoiled n i (s.invalidate m i) := by
  obtain rfl | hm := eq_or_ne n m
  · exact spoiled_invalidate s n i hi
  · exact h.congr (word_invalidate_ne s i (by simpa [R.FAIL_SITE_n_RESULT] using hm))

/-- An invalidation spoils every run that it lists. -/
theorem spoiled_invalidateAll (s : State) {l : List Nat} {i n : Nat} (hi : i < 14) (h : n ∈ l) : Spoiled n i (s.invalidateAll l i) := by
  obtain ⟨a, b, rfl⟩ := List.append_of_mem h
  rw [State.invalidateAll, State.each, List.foldl_append, List.foldl_cons]
  exact State.each_keeps (Spoiled n i) b _ _ (spoiled_invalidate _ n i hi) fun _ _ ht => ht.invalidate hi

/-! ### The reference -/

/-- The mark that the reference was bad on a calibration of cluster `k` that runs. -/
def State.calMark (t : State) (k : Nat) : State :=
  if t.is (F.CAL_CL_k_STATE_ACTIVE k) then
    { t with cal := { t.cal with clu := Tab.ins k { Tab.get {} t.cal.clu k with refBad := true } t.cal.clu } }
  else t

theorem refInvalid_eq (s : State) : s.refInvalid =
    (let u := (s.refLostAll.each clusterNums (fun t k => t.tdcNote k)).each clusterNums State.calMark
     if u.cal.span.holds then { u with cal := { u.cal with span := { u.cal.span with refBad := true } } } else u) := rfl

/-- `t` is `s` but for registers, of which those that satisfy `P` are the same, and the calibration. -/
def CalStep (P : Nat → Prop) (s t : State) : Prop := (∃ r c, t = { s with regs := r, cal := c }) ∧ RegsIf P s t

theorem CalStep.withCal {P : Nat → Prop} {s t : State} (h : CalStep P s t) (c : CalState) : CalStep P s { t with cal := c } := by
  obtain ⟨⟨r, d, rfl⟩, hr⟩ := h
  exact ⟨⟨r, c, rfl⟩, hr⟩

theorem CalStep.mark {P : Nat → Prop} {s t : State} (h : CalStep P s t) (k : Nat) : CalStep P s (t.calMark k) := by
  rw [State.calMark]
  split
  · exact h.withCal _
  · exact h

theorem RegStep.cal {P : Nat → Prop} {s t : State} (h : RegStep P s t) : CalStep P s t := by
  obtain ⟨⟨r, rfl⟩, hr⟩ := h
  exact ⟨⟨r, s.cal, rfl⟩, hr⟩

/-- The note that the reference is lost reaches the results of sites, the interval units and the calibration. -/
theorem calStep_refInvalid (s : State) : CalStep (· < 0x1000000) s s.refInvalid := by
  have hs : RegStep (· < 0x1000000) s (s.refLostAll.each clusterNums (fun t k => t.tdcNote k)) := by
    refine (regStep_invalidateAll s _ _ fun n _ => ?_).trans (RegStep.refl.each fun {t k} ht => ht.trans ?_)
    · simp [R.FAIL_SITE_n_RESULT]; omega
    · exact regStep_tdcNote t k fun u _ => by simp [R.CLU_k_TDC_u_STATUS]; omega
  have hm := State.each_keeps (CalStep (· < 0x1000000) s) clusterNums State.calMark _ hs.cal fun _ k ht => ht.mark k
  rw [refInvalid_eq]
  dsimp only
  split
  · exact hm.withCal _
  · exact hm

section
variable (s : State)

theorem word_refInvalid {o : Nat} (h : o < 0x1000000) : s.refInvalid.word o = s.word o := (calStep_refInvalid s).2 o h

@[simp] theorem get_refInvalid (f : Fld) (h : f.off < 0x1000000) : s.refInvalid.get f = s.get f := (calStep_refInvalid s).2.get h

@[simp] theorem num_refInvalid (o : Nat) (h : o < 0x1000000) : s.refInvalid.num o = s.num o := (calStep_refInvalid s).2.num h

theorem enterHoldover_others : ∃ r c, s.enterHoldover = { s with regs := r, cal := c } := by
  obtain ⟨⟨r, c, e⟩, -⟩ := calStep_refInvalid (s.put F.CLK_REF_STATUS_HOLDOVER 1)
  rw [State.enterHoldover, e, State.when]
  split
  · exact ⟨_, c, rfl⟩
  · exact ⟨r, c, rfl⟩

theorem enterHoldover_frame {s t : State} (h : s = { t with regs := s.regs }) :
    s.enterHoldover = { t with regs := s.enterHoldover.regs, cal := s.enterHoldover.cal } := by
  obtain ⟨r, c, e⟩ := enterHoldover_others s
  rw [e, h]

/-- Holdover changes HOLDOVER and FALLBACK_FAIL and no other field of the clock registers. -/
@[simp] theorem get_enterHoldover (f : Fld) (h : f.off < 0x1000000) (hh : F.CLK_REF_STATUS_HOLDOVER.apart f = true)
    (hf : F.CLK_REF_STATUS_FALLBACK_FAIL.apart f = true) : s.enterHoldover.get f = s.get f := by
  rw [State.enterHoldover, State.when]
  split <;> simp [h, hh, hf]

@[simp] theorem holdover_enterHoldover : s.enterHoldover.get F.CLK_REF_STATUS_HOLDOVER = 1 := by
  rw [State.enterHoldover, State.when]
  split <;> simp (disch := decide)

@[simp] theorem num_enterHoldover (o : Nat) (h : o < 0x1000000) (hs : o ≠ F.CLK_REF_STATUS_HOLDOVER.off) :
    s.enterHoldover.num o = s.num o := by
  have hf : o ≠ F.CLK_REF_STATUS_FALLBACK_FAIL.off := hs
  rw [State.enterHoldover, State.when]
  split <;> simp [h, hs, hf]

end

/-- A lost lock of the PLL of cluster `k` writes the two PLL registers, the results of sites and the states of interval units. -/
theorem pllUnlock_eq (k : Nat) (s : State) (h : s.bit R.CLK_PLL_LOCK k = true) : ∃ u l,
    u = (s.putBit R.CLK_PLL_LOCK k false).putBit R.CLK_PLL_UNLOCK k true ∧ l = (u.cluSites k).filter u.playing ∧
      pllUnlock k s = (u.invalidateAll l causeRef).tdcNote k := ⟨_, _, rfl, rfl, by rw [pllUnlock, if_pos h]⟩

/-! ### The commands -/

/-- Settles O4: the commands write the clock registers; a lost reference and a lost lock also reach, by `calStep_refInvalid` and
`spoiled_invalidateAll`, what rests on the reference. -/
theorem clockCommands : Obligations.ClockCommands := by
  refine ⟨?_, ?_, ?_, ?_, ?_, ?_, ?_, ?_, fun _ _ => rfl⟩
  · intro s hp hu
    refine ⟨_, rfl, ?_⟩
    simp (disch := decide) [refclkLost, is_eq, hp, hu]
    exact enterHoldover_frame (by simp [State.eq_iff])
  · intro s hp hu
    refine ⟨_, rfl, ?_⟩
    simp (disch := decide) [refclkLost, is_eq, hp, hu, State.eq_iff]
    intro o ho
    simp (disch := exact ne_of_unlisted ho (by decide))
  · intro s ppm hp hf hu
    refine ⟨_, rfl, ?_⟩
    by_cases hq : s.get F.ULT_STATUS_UP_PORT < 4
    all_goals
      simp (disch := decide) [refclkFreqErr, is_eq, hp, hf, hu, State.upPort, State.when, hq]
      exact enterHoldover_frame (by simp [State.eq_iff])
  · intro s hu hc
    refine ⟨_, rfl, ?_⟩
    simp (disch := decide) [refclkInWindow, is_eq, srcRecovered, hu, hc, State.eq_iff]
    intro o ho
    simp (disch := exact ne_of_unlisted ho (by decide))
  · intro s hu
    refine ⟨_, rfl, ?_⟩
    simp (disch := decide) [refclkInWindow, is_eq, hu, State.eq_iff]
    intro o ho
    simp (disch := exact ne_of_unlisted ho (by decide))
  · intro s u hh hu hc hp hr
    refine ⟨_, rfl, ?_⟩
    have hf : ∀ p : Port, F.CLK_REF_STATUS_UP_PORT.fits p = true := by decide
    simp (disch := decide) [switchToRecovered, is_eq, srcRefclk, hh, hu, hc, hp, hr, get_put_same _ _ _ (hf u), State.eq_iff]
    intro o ho
    simp (disch := exact ne_of_unlisted ho (by decide))
  · intro s hc he hf hu ha
    refine ⟨_, rfl, ?_⟩
    simp (disch := decide) [refclkReturn, State.toRefclk, is_eq, srcAuto, hc, he, hf, hu, ha, State.eq_iff]
    intro o ho
    simp (disch := exact ne_of_unlisted ho (by decide))
  · intro s k hk
    obtain ⟨u, l, hu, hl, e⟩ := pllUnlock_eq k s hk
    have hL : RegStep (· < 0x1000000) u (u.invalidateAll l causeRef) :=
      regStep_invalidateAll u l _ fun n _ => by simp [R.FAIL_SITE_n_RESULT]; omega
    have hT : RegStep (fun o => o < 0x1000000 ∨ 0x2000000 ≤ o) (u.invalidateAll l causeRef) (pllUnlock k s) := by
      rw [e]
      exact regStep_tdcNote _ k fun j _ => by simp [R.CLU_k_TDC_u_STATUS]; omega
    have hk32 : k.val < 32 := k.isLt
    have huk : RegStep (· < 0x1000000) u (pllUnlock k s) := hL.trans (hT.weaken fun o => Or.inl)
    refine ⟨_, rfl, ?_, ?_, fun n hn hc => ?_, ?_⟩
    · rw [huk.keeps.bit (by decide), hu, bit_putBit_apart _ _ _ _ _ _ (by decide)]
      simp [hk32]
    · rw [huk.keeps.bit (by decide), hu]
      simp [hk32]
    · have hnl : n.val ∈ l := by
        have hst : u.siteState n = s.siteState n := by
          simp (disch := (apply all_fin n; decide +kernel)) [hu, State.siteState]
        have hcl : u.siteClu n k = true := by
          rw [← hc]
          simp [State.siteClu, State.siteOct, State.armed, State.siteOf, hst]
          simp [hu]
        simp [hl, State.cluSites, siteNums, State.playing, stRunning, hcl, hst, hn, n.isLt]
      exact (spoiled_invalidateAll u (by decide) hnl).congr (hT.keeps _ (by simp [R.FAIL_SITE_n_RESULT]; omega))
    · rw [huk.others, hu]
      rfl

end Sys2Proof.Machine
end

section
-- One proof at a time: the whole text then stays within the memory the check allows.
set_option Elab.async false
/-! PROOFS. O5: acceptance and refusal of the drawer commands. -/

namespace Sys2Proof.Machine
open State

/-! ### Reads of pattern memory: what an error that ECC notes reaches -/

/-- The registers that a read of pattern memory can change: those of the memory controllers and the two of a lost log record. -/
def EccReg (o : Nat) : Prop := 0x400000 ≤ o ∧ o < 0x400300 ∨ o = R.MGS_LOG_LOST ∨ o = R.MGS_EVENT

/-- What the errors of a read change: counters, the queue of writebacks, the log. -/
def EccStep (s t : State) : Prop :=
  (∃ r f m g, t = { s with regs := r, free := f, memc := m, mgmt := g }) ∧ RegsIf (fun o => ¬ EccReg o) s t

namespace EccStep
variable {r s t : State}

theorem refl : EccStep s s := ⟨⟨s.regs, s.free, s.memc, s.mgmt, rfl⟩, RegsIf.refl⟩

theorem trans (h : EccStep r s) (g : EccStep s t) : EccStep r t := by
  obtain ⟨⟨a, b, c, d, rfl⟩, hr⟩ := h
  obtain ⟨⟨a', b', c', d', rfl⟩, gr⟩ := g
  exact ⟨⟨a', b', c', d', rfl⟩, hr.trans gr⟩

theorem of_regs (h : RegStep (fun o => ¬ EccReg o) s t) : EccStep s t := by
  obtain ⟨⟨a, rfl⟩, hr⟩ := h
  exact ⟨⟨a, s.free, s.memc, s.mgmt, rfl⟩, hr⟩

theorem logPush (s : State) (src sev code req : Nat) (data : List Byte) : EccStep s (s.logPush src sev code req data) := by
  rw [State.logPush]
  split
  · exact of_regs ((RegStep.refl.bump (by simp [EccReg])).put (by simp [EccReg, F.MGS_EVENT_LOG_LOST]))
  · exact ⟨⟨s.regs, s.free, s.memc, _, rfl⟩, RegsIf.refl⟩

theorem logEvent (s : State) (src : Nat) : EccStep s (s.logEvent src) :=
  trans ⟨⟨s.regs, _, s.memc, s.mgmt, rfl⟩, RegsIf.refl⟩ (logPush _ _ _ _ _ _)

theorem withMemc (h : EccStep r s) (m : MemcState) : EccStep r { s with memc := m } := by
  obtain ⟨⟨a, b, c, d, rfl⟩, hr⟩ := h
  exact ⟨⟨a, b, m, d, rfl⟩, hr⟩

theorem noteUe (s : State) (addr req : Nat) (sd : Option (Nat × Nat)) : EccStep s (s.noteUe addr req sd) := by
  unfold State.noteUe
  dsimp only
  refine trans (of_regs ?_) (logEvent _ 4)
  refine ((((RegStep.refl.bump ?_).putN ?_).putN ?_).putN ?_).put ?_
  all_goals simp [EccReg, R.MEMC_ECC_UE, R.MEMC_ECC_UE_ADDR_LO, R.MEMC_ECC_UE_ADDR_HI, R.MEMC_ECC_UE_SRC, F.MEMC_EVENT_UE, R.MEMC_EVENT]

theorem pcOfAddr_lt (a : Nat) : pcOfAddr a < 32 := Nat.xor_lt_two_pow (n := 5) (Nat.mod_lt _ (by decide)) (Nat.mod_lt _ (by decide))

theorem noteCe (s : State) (b : Nat) : EccStep s (s.noteCe b) := by
  have hp := pcOfAddr_lt (32 * b)
  have h : RegStep (fun o => ¬ EccReg o) s ((s.bump R.MEMC_ECC_CE).bump (R.MEMC_PC_p_CE (pcOfAddr (32 * b)))) := by
    refine (RegStep.refl.bump ?_).bump ?_
    · simp [EccReg, R.MEMC_ECC_CE]
    · simp [EccReg, R.MEMC_PC_p_CE]; omega
  refine (of_regs (h.when fun h => h.put ?_)).withMemc _
  simp [EccReg, F.MEMC_EVENT_CE_THRESH, R.MEMC_EVENT]

theorem eccRead (s : State) (a n req : Nat) (sd : Option (Nat × Nat)) : EccStep s (s.eccRead a n req sd).2 := by
  rw [State.eccRead]
  split
  · dsimp only
    have hc := fun l => State.each_keeps (EccStep s) l State.noteCe s refl fun t b ht => ht.trans (noteCe t b)
    exact State.each_keeps (EccStep s) _ _ _ (hc _) fun t b ht => ht.trans (noteUe t _ _ _)
  · exact refl

end EccStep

/-! ### The commands

`-implicitDefEqProofs` keeps the steps of `simp` in the proof: the kernel would otherwise compare states by evaluating what is
written in them. -/

theorem regsBut_drwAccept (op tag id : Nat) (s : State) : RegsBut [R.DRW_CMD_STATUS] s (s.drwAccept op tag id) := by
  intro o ho
  simp -implicitDefEqProofs (disch := exact ne_of_unlisted ho (by decide)) [State.drwAccept]

/-- What the acceptance of a command shows and latches. -/
theorem drwAccept_shows {op : Nat} (tag : Set8) (id : Nat) (s : State) (hop : op < 16) : ∀ t, t = s.drwAccept op tag id →
    t.get F.DRW_CMD_STATUS_BUSY = 1 ∧ t.get F.DRW_CMD_STATUS_TAG = tag ∧ t.get F.DRW_CMD_STATUS_OP = op ∧ t.drw.cmdId = id ∧
      t.drw.cmdArg = s.pair R.DRW_CMD_ARG_LO ∧ t = { s with regs := t.regs, drw := t.drw } := by
  rintro t rfl
  have ht : F.DRW_CMD_STATUS_TAG.fits tag = true := Fld.fits_of_lt (by decide) tag.isLt
  have ho : F.DRW_CMD_STATUS_OP.fits op = true := Fld.fits_of_lt (by decide) hop
  simp -implicitDefEqProofs (disch := decide)
    [State.drwAccept, State.eq_iff, State.pair, get_put_same _ _ _ ht, get_put_same _ _ _ ho]

/-- Every drawer command but COMMIT, written while BUSY is 0, is accepted. -/
theorem drwCmd_accepted {op : Nat} (tag : Set8) (id : Nat) (s : State) (h : s.get F.DRW_CMD_STATUS_BUSY = 0) (hop : op < 16)
    (hc : op ≠ 1) : ∀ t, t = drwCmd op tag id s → t.get F.DRW_CMD_STATUS_BUSY = 1 ∧
      t.get F.DRW_CMD_STATUS_TAG = tag ∧
      t.get F.DRW_CMD_STATUS_OP = op ∧
      t.drw.cmdId = id ∧
      t.drw.cmdArg = s.pair R.DRW_CMD_ARG_LO ∧
      RegsBut [R.DRW_CMD_STATUS] s t ∧
      t = { s with regs := t.regs, drw := t.drw } := by
  have e : drwCmd op tag id s = s.drwAccept op tag id := by simp [drwCmd, is_eq, h, drwCommit, hc]
  rintro t rfl
  rw [e]
  obtain ⟨hb, ht, ho, hi, ha, hs⟩ := drwAccept_shows tag id s hop _ rfl
  exact ⟨hb, ht, ho, hi, ha, regsBut_drwAccept op tag id s, hs⟩

/-- Every drawer command written while BUSY is 1 is refused. -/
theorem drwCmd_refused (op tag id : Nat) (s : State) (h : s.get F.DRW_CMD_STATUS_BUSY = 1) : drwCmd op tag id s = s.drwRefuse := by
  simp [drwCmd, is_eq, h]

/-- COMMIT written while BUSY is 0 is accepted and latches the entry, which it reads. -/
theorem drwCmd_commit (tag : Set8) (id : Nat) (s : State) (h : s.get F.DRW_CMD_STATUS_BUSY = 0) : ∀ t, t = drwCmd drwCommit tag id s →
    t.get F.DRW_CMD_STATUS_BUSY = 1 ∧ t.get F.DRW_CMD_STATUS_TAG = tag ∧ t.get F.DRW_CMD_STATUS_OP = 1 ∧ t.drw.cmdId = id ∧
      t.drw.latched = s.rdBytes (entryAddr id) 64 ∧ t.mem = s.mem := by
  obtain ⟨hb, ht, ho, hi, ha, hs⟩ := drwAccept_shows (op := drwCommit) tag id s (by decide) _ rfl
  have hm : (s.drwAccept drwCommit tag id).mem = s.mem := by rw [hs]
  obtain ⟨⟨r, f, m, g, e⟩, hr⟩ := EccStep.eccRead (s.drwAccept drwCommit tag id) (entryAddr id) 64 0x1F none
  have hk : ∀ f : Fld, f.off = R.DRW_CMD_STATUS → _ := fun f hf => hr.get (f := f) (by rw [hf]; simp [EccReg, R.DRW_CMD_STATUS]; decide)
  rintro t rfl
  rw [drwCmd, if_neg (by simp [is_eq, h])]
  simp only [if_true]
  refine ⟨(hk _ rfl).trans hb, (hk _ rfl).trans ht, (hk _ rfl).trans ho, ?_, rdBytes_congr ?_ _ _, ?_⟩
  · rw [e]
    exact hi
  · rw [e]
    exact hm
  · rw [e]
    exact hm

/-- Settles O5: one lemma for the commands that are accepted, one for COMMIT, one for those that are refused. -/
theorem drawerCommandAcceptance : Obligations.DrawerCommandAcceptance := by
  refine ⟨?_, ?_, ?_, ?_, ?_, ?_, ?_, ?_, ?_, ?_, ?_, ?_, ?_, ?_⟩
  · exact fun s tag h => ⟨_, rfl, drwCmd_accepted tag 0 s h (by decide) (by decide) _ rfl⟩
  · exact fun s tag id h => ⟨_, rfl, drwCmd_accepted tag id s h (by decide) (by decide) _ rfl⟩
  · exact fun s tag id h => ⟨_, rfl, drwCmd_accepted tag id s h (by decide) (by decide) _ rfl⟩
  · exact fun s tag id h => ⟨_, rfl, drwCmd_accepted tag id s h (by decide) (by decide) _ rfl⟩
  · exact fun s tag h => ⟨_, rfl, drwCmd_accepted tag 0 s h (by decide) (by decide) _ rfl⟩
  · exact fun s tag h => ⟨_, rfl, drwCmd_accepted tag 0 s h (by decide) (by decide) _ rfl⟩
  · exact fun s tag id h => ⟨_, rfl, drwCmd_commit tag id s h _ rfl⟩
  all_goals intros; exact congrArg _ (drwCmd_refused _ _ _ _ ‹_›)

end Sys2Proof.Machine
end

section
-- One proof at a time: the whole text then stays within the memory the check allows.
set_option Elab.async false
/-! PROOFS. O6: the completion of drawer commands and the insertion of a drawer into the active-range table. -/

namespace Sys2Proof.Machine
open State

/-! ### The end of a command -/

theorem get_drwEnd_done (s : State) (res : Nat) : (s.drwEnd res).get F.DRW_EVENT_CMD_DONE = 1 := by
  rw [get_congr (drwEnd_regs s res), drwShow, get_put_same _ _ _ (by decide)]

theorem pair_drwEnd (s : State) (res : Nat) : (s.drwEnd res).pair R.DRW_CMD_RESULT_LO = s.pair R.DRW_CMD_RESULT_LO := by
  rw [State.pair, num_drwEnd_ne _ _ _ (by decide) (by decide), num_drwEnd_ne _ _ _ (by decide) (by decide), State.pair]

/-- `t` is `s` but for registers, of which those that satisfy `P` are the same, and the drawer state. -/
def DrwStep (P : Nat → Prop) (s t : State) : Prop := (∃ r d, t = { s with regs := r, drw := d }) ∧ RegsIf P s t

theorem DrwStep.others {P : Nat → Prop} {s t : State} (h : DrwStep P s t) : t = { s with regs := t.regs, drw := t.drw } := by
  obtain ⟨⟨r, d, rfl⟩, -⟩ := h
  rfl

theorem DrwStep.trans_regs {P : Nat → Prop} {r s t : State} (h : DrwStep P r s) (g : RegStep P s t) : DrwStep P r t := by
  obtain ⟨⟨a, d, rfl⟩, hr⟩ := h
  obtain ⟨⟨b, rfl⟩, gr⟩ := g
  exact ⟨⟨b, d, rfl⟩, hr.trans gr⟩

theorem DrwStep.withDrw {P : Nat → Prop} {s t : State} (h : DrwStep P s t) (d : DrwState) : DrwStep P s { t with drw := d } := by
  obtain ⟨⟨r, e, rfl⟩, hr⟩ := h
  exact ⟨⟨r, d, rfl⟩, hr⟩

theorem DrwStep.refl {P : Nat → Prop} {s : State} : DrwStep P s s := ⟨⟨s.regs, s.drw, rfl⟩, RegsIf.refl⟩

/-- The registers and the drawer state are all that the end of a command changes. -/
theorem DrwStep.drwEnd {P : Nat → Prop} {s t : State} (h : DrwStep P s t) (res : Nat) (hs : ¬ P R.DRW_CMD_STATUS)
    (he : ¬ P R.DRW_EVENT) : DrwStep P s (t.drwEnd res) := by
  rw [State.drwEnd]
  exact (h.trans_regs (((RegStep.refl.put hs).put hs).put he)).withDrw _

/-- What holds at the end of every command that completes. -/
theorem drwEnd_shows (s : State) (res : Nat) : (s.drwEnd res).get F.DRW_CMD_STATUS_BUSY = 0 ∧
    (s.drwEnd res).get F.DRW_EVENT_CMD_DONE = 1 ∧ (s.drwEnd res).get F.DRW_CMD_STATUS_RESULT = res % 256 :=
  ⟨get_drwEnd_busy s res, get_drwEnd_done s res, get_drwEnd_result s res⟩

theorem allocs_drwEnd (s : State) (res : Nat) : (s.drwEnd res).drw.allocs = s.drw.allocs := by
  simp -implicitDefEqProofs [State.drwEnd, State.drwShow]

/-! ### PIN and UNPIN -/

section
variable (s : State) (id f : Nat)

/-- A PIN or UNPIN that succeeds stores the FLAGS byte and ends. -/
def State.drwFlagged : State := ((s.putPair R.DRW_CMD_RESULT_LO 0).putFlags id f).drwEnd 0

theorem drwFlagged_mem : (s.drwFlagged id f).mem = (s.putFlags id f).mem := by
  rw [State.drwFlagged, drwEnd_mem]
  rfl

theorem pinned_drwFlagged (h : f < 2 ^ 8) : (s.drwFlagged id f).pinned id = f.testBit 1 := by
  rw [State.pinned, entry_congr (drwFlagged_mem s id f), flags_putFlags _ _ _ h]

theorem memBut_drwFlagged : MemBut (entryAddr id + 13) 1 s (s.drwFlagged id f) := fun a ha =>
  (rdByte_congr (drwFlagged_mem s id f) a).trans (memBut_putFlags s id f a ha)

theorem committed_drwFlagged : (s.drwFlagged id f).committed id = s.committed id := by
  refine committed_congr ?_
  have hn (c : Nat) (hc : c < R.DRW_COMMIT_MAP_w 0) := (ne_commitMap hc (id / 32)).symm
  rw [State.drwFlagged, word_drwEnd_ne _ _ _ (hn _ (by decide)) (hn _ (by decide)), State.putFlags, word_congr (wrByte_regs _ _ _)]
  exact word_putPair_apart s _ _ _ (hn _ (by decide)) (hn _ (by decide))

end

/-! ### The shelf -/

theorem bit_shelfMap_putBit (s : State) (i p : Nat) (on : Bool)
    (h : i = p ∨ s.bit (R.DRW_SHELF_MAP_w (i / 32)) (i % 32) = on) :
    (s.putBit (R.DRW_SHELF_MAP_w (p / 32)) (p % 32) on).bit (R.DRW_SHELF_MAP_w (i / 32)) (i % 32) = on := by
  by_cases hw : R.DRW_SHELF_MAP_w (i / 32) = R.DRW_SHELF_MAP_w (p / 32)
  · rw [hw, bit_putBit _ _ _ _ _ (Nat.mod_lt _ (by decide)), ← hw]
    have : i / 32 = p / 32 := by simpa [R.DRW_SHELF_MAP_w] using hw
    split
    · rfl
    · exact h.resolve_left (by rintro rfl; contradiction)
  · rw [bit_putBit_ne _ _ _ _ _ _ hw]
    exact h.resolve_left (by rintro rfl; exact hw rfl)

theorem bit_shelfMap_each (s : State) (l : List Nat) (i : Nat) (on : Bool) (h : i ∈ l) :
    (s.each l fun t p => t.putBit (R.DRW_SHELF_MAP_w (p / 32)) (p % 32) on).bit (R.DRW_SHELF_MAP_w (i / 32)) (i % 32) = on := by
  obtain ⟨a, b, rfl⟩ := List.append_of_mem h
  rw [State.each, List.foldl_append, List.foldl_cons]
  exact State.each_keeps (fun t => t.bit (R.DRW_SHELF_MAP_w (i / 32)) (i % 32) = on) b _ _ (bit_shelfMap_putBit _ _ _ _ (.inl rfl))
    fun t p ht => bit_shelfMap_putBit t i p on (.inr ht)

/-- Pages shown as taken or free: the bitmap of the pages and the two counts. -/
theorem shelfShow_step (s : State) (base cnt : Nat) (on : Bool) :
    RegStep (fun o => o < R.DRW_SHELF_FREE_PAGES) s (s.shelfShow base cnt on) := by
  refine ((RegStep.refl.each fun ht => ht.putBit ?_).putN ?_).putN ?_
  · simp [R.DRW_SHELF_FREE_PAGES, R.DRW_SHELF_MAP_w]
    omega
  · simp
  · simp [R.DRW_SHELF_FREE_PAGES, R.DRW_SHELF_LARGEST]

theorem ne_shelfMap {c : Nat} (h : c < R.DRW_SHELF_MAP_w 0) (w : Nat) : c ≠ R.DRW_SHELF_MAP_w w := by
  unfold R.DRW_SHELF_MAP_w at *
  omega

theorem bit_shelfShow (s : State) (base cnt i : Nat) (on : Bool) (h : base ≤ i) (h' : i < base + cnt) :
    (s.shelfShow base cnt on).bit (R.DRW_SHELF_MAP_w (i / 32)) (i % 32) = on := by
  have hw (c : Nat) (hc : c < R.DRW_SHELF_MAP_w 0) := (ne_shelfMap hc (i / 32)).symm
  rw [State.shelfShow, bit_putN_ne _ _ _ _ _ (hw _ (by decide)), bit_putN_ne _ _ _ _ _ (hw _ (by decide))]
  exact bit_shelfMap_each s _ i on (by simp [List.mem_range'_1, h, h'])

theorem findRun_le {allocs : List (Nat × Nat)} {k p : Nat} (h : findRun allocs k = some p) : p + k ≤ 12288 := by
  have key : ∀ (l : List Nat) (o : Option Nat), (∀ q, o = some q → q + k ≤ 12288) → (∀ q ∈ l, q + k ≤ 12288) → ∀ q, l.foldl (fun m p => match m with
      | none => some p
      | some q => some (min p q)) o = some q → q + k ≤ 12288 := by
    intro l
    induction l with
    | nil => exact fun o ho _ q hq => ho q hq
    | cons x xs ih =>
      intro o ho hl q hq
      refine ih _ ?_ (fun q hq => hl q (List.mem_cons_of_mem _ hq)) q hq
      have hx := hl x List.mem_cons_self
      cases o with
      | none => rintro _ ⟨⟩; exact hx
      | some r => rintro _ ⟨⟩; omega
  refine key _ none (by simp) (fun q hq => ?_) p h
  simp at hq
  exact hq.2.1

/-- The state in which the effect of SHELF_ALLOC and SHELF_FREE leaves the shelf: the allocations `l`, shown for `cnt` pages. -/
def State.shelfSet (s : State) (l : List (Nat × Nat)) (base cnt : Nat) (on : Bool) : State :=
  { s.putPair R.DRW_CMD_RESULT_LO 0 with drw := { s.drw with allocs := l } }.shelfShow base cnt on

section
variable (s : State) (l : List (Nat × Nat)) (base cnt : Nat) (on : Bool)

theorem shelfSet_step : DrwStep (fun _ => False) s (s.shelfSet l base cnt on) :=
  ((DrwStep.refl.trans_regs (RegStep.refl.putPair id id)).withDrw _).trans_regs ((shelfShow_step _ base cnt on).weaken fun _ => False.elim)

theorem allocs_shelfSet : (s.shelfSet l base cnt on).drw.allocs = l := by
  rw [State.shelfSet, (shelfShow_step _ base cnt on).others]

theorem freePages_shelfSet : (s.shelfSet l base cnt on).num R.DRW_SHELF_FREE_PAGES = (12288 - (l.map (·.2)).sum) % 2 ^ 32 := by
  rw [State.shelfSet, State.shelfShow, num_putN_ne _ _ _ _ (by decide), num_putN]
  have e := State.each_keeps (fun t => t.drw.allocs = l) (List.range' base cnt)
    (fun t p => t.putBit (R.DRW_SHELF_MAP_w (p / 32)) (p % 32) on)
    { s.putPair R.DRW_CMD_RESULT_LO 0 with drw := { s.drw with allocs := l } } rfl fun _ _ h => h
  rw [e]

end

/-! ### The active-range table -/

/-- The insertion of drawer `id` into entry `i` of site `n`, which was selected `raced` by a write. -/
def State.artPut (s : State) (n id i : Nat) (raced : Bool) : State :=
  (({ s with art := Tab.set {} i { ranges := (s.entry id).ranges.filter (fun r => r.2 != 0) } s.art }.setWord (R.DRW_ART_n i)
      (BitVec.ofNat 32 (2 ^ 31 + n * 2 ^ 24 + b2n raced * 2 ^ 23 + id))).updSeq n
    (fun c => { c with sels := c.sels.filter (fun x => x.id != id) })).when raced (fun t => t.bump R.DRW_GUARD_RACE_CNT)

section
variable (s : State) (n id i : Nat) (raced : Bool)

theorem artPut_others : s.artPut n id i raced =
    { s with regs := (s.artPut n id i raced).regs, art := (s.artPut n id i raced).art, seq := (s.artPut n id i raced).seq } := by
  cases raced <;> simp -implicitDefEqProofs [State.artPut, State.when, State.eq_iff]

theorem ranges_artPut : (Tab.get {} (s.artPut n id i raced).art i).ranges = (s.entry id).ranges.filter (fun r => r.2 != 0) := by
  have e : (s.artPut n id i raced).art = Tab.set {} i { ranges := (s.entry id).ranges.filter (fun r => r.2 != 0) } s.art := by
    cases raced <;> simp -implicitDefEqProofs [State.artPut, State.when]
  rw [e, Tab.get_set_same]

theorem regsBut_artPut : RegsBut [R.DRW_ART_n i, R.DRW_GUARD_RACE_CNT] s (s.artPut n id i raced) := by
  rw [regsBut_iff]
  exact (((RegsIf.refl.of_regs rfl).setWord (by simp)).of_regs (updSeq_regs _ _ _)).when fun h => h.bump (by simp)

theorem word_artPut : (s.artPut n id i raced).word (R.DRW_ART_n i) =
    BitVec.ofNat 32 (2 ^ 31 + n * 2 ^ 24 + b2n raced * 2 ^ 23 + id) := by
  have hi : R.DRW_ART_n i ≠ R.DRW_GUARD_RACE_CNT := by simp only [R.DRW_ART_n, R.DRW_GUARD_RACE_CNT]; omega
  have hu := fun (t : State) f => word_congr (updSeq_regs t n f) (R.DRW_ART_n i)
  rw [State.artPut, State.when]
  split
  · rw [word_bump_ne _ _ _ hi, hu, word_setWord]
  · rw [hu, word_setWord]

/-- The entry is valid, does not play, and names drawer and site. -/
theorem get_artPut (hn : n < 64) (hid : id < 2 ^ 20) :
    (s.artPut n id i raced).get (F.DRW_ART_n_VALID i) = 1 ∧ (s.artPut n id i raced).get (F.DRW_ART_n_ID i) = id ∧
      (s.artPut n id i raced).get (F.DRW_ART_n_SITE i) = n ∧ (s.artPut n id i raced).get (F.DRW_ART_n_PLAYING i) = 0 := by
  have hr : b2n raced < 2 := by cases raced <;> decide
  simp only [State.get, F.DRW_ART_n_VALID, F.DRW_ART_n_ID, F.DRW_ART_n_SITE, F.DRW_ART_n_PLAYING, word_artPut, bitsOf, BitVec.toNat_ofNat]
  omega

end

/-! ### The commands -/

section
variable (s : State) (hb : s.get F.DRW_CMD_STATUS_BUSY = 1)
include hb

/-- A command whose result code is 0 takes its effect and ends. -/
theorem drwDone_ok {op : Nat} (ho : s.get F.DRW_CMD_STATUS_OP = op) (hr : drwResult s = 0) :
    drwDone s = (drwEffect (s.putPair R.DRW_CMD_RESULT_LO 0)).drwEnd 0 ∧ (s.putPair R.DRW_CMD_RESULT_LO 0).get F.DRW_CMD_STATUS_OP = op := by
  rw [drwDone_of_busy s hb, hr, if_pos rfl]
  exact ⟨rfl, (get_op_putPair_result s 0).trans ho⟩

/-- A command whose result code is not 0 only ends. -/
theorem drwDone_failed (hr : drwResult s ≠ 0) : drwDone s = (s.putPair R.DRW_CMD_RESULT_LO 0).drwEnd (drwResult s) := by
  rw [drwDone_of_busy s hb, if_neg hr]

end

/-- Settles O6: each command that completes ends as `State.drwEnd` says; the effect before the end is the entry's FLAGS byte
(`State.drwMarked`, `State.drwFlagged`) or the shelf (`State.shelfSet`). The insertion is `State.artPut`. -/
theorem drawerCompletion : Obligations.DrawerCompletion := by
  have hmem (s : State) : (s.putPair R.DRW_CMD_RESULT_LO 0).mem = s.mem := rfl
  refine ⟨?_, ?_, ?_, ?_, ?_, ?_, ?_, ?_⟩
  · intro s hb ho
    have hr : drwResult s = 0 := by simp [drwResult, ho, drwNop]
    obtain ⟨e, ho'⟩ := drwDone_ok s hb ho hr
    have he : drwEffect (s.putPair R.DRW_CMD_RESULT_LO 0) = s.putPair R.DRW_CMD_RESULT_LO 0 := by
      simp [drwEffect, ho', drwCommit, drwRetire, drwPin, drwUnpin, drwAlloc, drwFree]
    rw [he] at e
    obtain ⟨hB, hD, hR⟩ := drwEnd_shows (s.putPair R.DRW_CMD_RESULT_LO 0) 0
    have hS : DrwStep (· ∉ [R.DRW_CMD_STATUS, R.DRW_EVENT, R.DRW_CMD_RESULT_LO, R.DRW_CMD_RESULT_LO + 4]) s (drwDone s) := by
      rw [e]
      exact (DrwStep.refl.trans_regs (RegStep.refl.putPair (by decide) (by decide))).drwEnd 0 (by decide) (by decide)
    refine ⟨_, rfl, e ▸ hB, e ▸ hD, e ▸ hR, ?_, hS.2, hS.others⟩
    rw [e, pair_drwEnd, pair_putPair _ _ _ (by decide)]
  · intro s hb hr
    have e := drwDone_failed s hb hr
    obtain ⟨hB, hD, hR⟩ := drwEnd_shows (s.putPair R.DRW_CMD_RESULT_LO 0) (drwResult s)
    have hS : DrwStep (· ∉ [R.DRW_CMD_STATUS, R.DRW_EVENT, R.DRW_CMD_RESULT_LO, R.DRW_CMD_RESULT_LO + 4]) s (drwDone s) := by
      rw [e]
      exact (DrwStep.refl.trans_regs (RegStep.refl.putPair (by decide) (by decide))).drwEnd _ (by decide) (by decide)
    refine ⟨_, rfl, e ▸ hB, e ▸ hD, e ▸ hR, ?_, hS.2, hS.others⟩
    rw [e, allocs_drwEnd]
    rfl
  · intro s hb ho hz hl hc ha hp
    have hr : drwResult s = 0 := by
      simp [drwResult, ho, hz, hc, ha, hp, drwNop, drwCommit, drwAlloc, drwFree]
    have e := drwDone_retire s hb ho hr
    refine ⟨_, rfl, ?_⟩
    rw [e]
    obtain ⟨hB, hD, hR⟩ := drwEnd_shows (((s.putPair R.DRW_CMD_RESULT_LO 0).markDrawer s.drw.cmdId (retireFlags (s.entry s.drw.cmdId)) false (s.num R.DRW_COMMITTED_CNT - 1))) 0
    exact ⟨hB, hD, hR, committed_drwMarked _ _ _ _ _, num_gen_drwMarked _ _ _ _ _,
      num_count_drwMarked _ _ _ _ _ (Nat.lt_of_le_of_lt (Nat.sub_le _ _) (s.num_lt _)), memBut_drwMarked _ _ _ _ _⟩
  · intro s hb ho hz hl hc
    have hr : drwResult s = 0 := by
      simp [drwResult, ho, hz, hc, drwNop, drwCommit, drwAlloc, drwFree, drwRetire, drwUnpin]
    obtain ⟨e, ho'⟩ := drwDone_ok s hb ho hr
    have he : drwDone s = s.drwFlagged s.drw.cmdId (setBitN (s.entry s.drw.cmdId).flags 1 true) := by
      rw [e, drwEffect, ho', entry_congr (hmem s)]
      rfl
    obtain ⟨hB, hD, hR⟩ := drwEnd_shows ((s.putPair R.DRW_CMD_RESULT_LO 0).putFlags s.drw.cmdId (setBitN (s.entry s.drw.cmdId).flags 1 true)) 0
    refine ⟨_, rfl, ?_⟩
    rw [he]
    refine ⟨hB, hD, hR, ?_, (committed_drwFlagged _ _ _).trans hc, memBut_drwFlagged _ _ _⟩
    rw [pinned_drwFlagged _ _ _ (setBitN_lt _ _ _ _ (entry_flags_lt _ _) (by decide)), testBit_setBitN, if_pos rfl]
  · intro s hb ho hz hl hc hu
    have hr : drwResult s = 0 := by
      simp [drwResult, ho, hz, hc, hu, drwNop, drwCommit, drwAlloc, drwFree, drwRetire, drwUnpin]
    obtain ⟨e, ho'⟩ := drwDone_ok s hb ho hr
    have he : drwDone s = s.drwFlagged s.drw.cmdId (setBitN (s.entry s.drw.cmdId).flags 1 false) := by
      rw [e, drwEffect, ho', entry_congr (hmem s)]
      rfl
    obtain ⟨hB, hD, hR⟩ := drwEnd_shows ((s.putPair R.DRW_CMD_RESULT_LO 0).putFlags s.drw.cmdId (setBitN (s.entry s.drw.cmdId).flags 1 false)) 0
    refine ⟨_, rfl, ?_⟩
    rw [he]
    refine ⟨hB, hD, hR, ?_, (committed_drwFlagged _ _ _).trans hc, memBut_drwFlagged _ _ _⟩
    rw [pinned_drwFlagged _ _ _ (setBitN_lt _ _ _ _ (entry_flags_lt _ _) (by decide)), testBit_setBitN, if_pos rfl]
  · intro s p hb ho h1 h2 hf
    have hr : drwResult s = 0 := by
      simp [drwResult, ho, hf, drwNop, drwCommit, drwAlloc]
      omega
    obtain ⟨e, ho'⟩ := drwDone_ok s hb ho hr
    have he : drwDone s = ((s.shelfSet (s.drw.allocs ++ [(p, s.drw.cmdArg)]) p s.drw.cmdArg true).putPair R.DRW_CMD_RESULT_LO
        (shelfBase + 4096 * p)).drwEnd 0 := by
      rw [e, drwEffect, ho']
      simp [drwCommit, drwRetire, drwPin, drwUnpin, drwAlloc, hf, State.shelfSet]
    obtain ⟨hB, hD, hR⟩ := drwEnd_shows ((s.shelfSet (s.drw.allocs ++ [(p, s.drw.cmdArg)]) p s.drw.cmdArg true).putPair R.DRW_CMD_RESULT_LO
        (shelfBase + 4096 * p)) 0
    have hp := findRun_le hf
    refine ⟨_, rfl, ?_⟩
    rw [he]
    refine ⟨hB, hD, hR, ?_, ?_, fun i hi hi' => ?_, ?_⟩
    · rw [pair_drwEnd, pair_putPair _ _ _ (by simp only [shelfBase]; omega), shelfBase]
    · rw [allocs_drwEnd, putPair_drw, allocs_shelfSet]
    · have hw (c : Nat) (hc : c < R.DRW_SHELF_MAP_w 0) := (ne_shelfMap hc (i / 32)).symm
      rw [State.bit, num_drwEnd_ne _ _ _ (hw _ (by decide)) (hw _ (by decide)), num_putPair_ne _ _ _ _ (hw _ (by decide)) (hw _ (by decide))]
      exact bit_shelfShow _ _ _ _ _ hi hi'
    · exact (((shelfSet_step _ _ _ _ _).trans_regs (RegStep.refl.putPair id id)).drwEnd 0 id id).others
  · intro s p k hb ho ha hp hl hk hu
    have hpg : pageOf s.drw.cmdArg = some p := by
      simp only [pageOf, ha, shelfBase, shelfEnd]
      rw [if_pos (by omega)]
      congr 1
      omega
    have hr : drwResult s = 0 := by
      simp [drwResult, ho, hpg, hl, hu, drwNop, drwCommit, drwAlloc, drwFree]
    obtain ⟨e, ho'⟩ := drwDone_ok s hb ho hr
    have he : drwDone s = (s.shelfSet [] p k false).drwEnd 0 := by
      rw [e, drwEffect, ho']
      simp [drwCommit, drwRetire, drwPin, drwUnpin, drwAlloc, drwFree, hpg, hl, State.shelfSet]
    obtain ⟨hB, hD, hR⟩ := drwEnd_shows (s.shelfSet [] p k false) 0
    refine ⟨_, rfl, ?_⟩
    rw [he]
    refine ⟨hB, hD, hR, ?_, ?_, fun i hi hi' => ?_, ((shelfSet_step _ _ _ _ _).drwEnd 0 id id).others⟩
    · rw [allocs_drwEnd, allocs_shelfSet]
    · rw [num_drwEnd_ne _ _ _ (by decide) (by decide), freePages_shelfSet]
      rfl
    · have hw (c : Nat) (hc : c < R.DRW_SHELF_MAP_w 0) := (ne_shelfMap hc (i / 32)).symm
      rw [State.bit, num_drwEnd_ne _ _ _ (hw _ (by decide)) (hw _ (by decide))]
      exact bit_shelfShow _ _ _ _ _ hi hi'
  · intro s n id i q hs hi
    obtain ⟨raced, he⟩ : ∃ raced : Bool, artInsert n id s = s.artPut n id i raced := by
      rw [artInsert, hs, hi]
      exact ⟨_, rfl⟩
    obtain ⟨hV, hI, hS, hP⟩ := get_artPut s n id i raced n.isLt id.isLt
    refine ⟨_, rfl, ?_⟩
    rw [he]
    exact ⟨hV, hI, hS, hP, ranges_artPut s n id i raced, regsBut_artPut s n id i raced, artPut_others s n id i raced⟩

end Sys2Proof.Machine
end

section
-- One proof at a time: the whole text then stays within the memory the check allows.
set_option Elab.async false
/-! PROOFS. O2: pair accesses. -/

namespace Sys2Proof.Machine
open State

/-- The number of requesters that the state of an outcome lists. -/
def Outcome.reqCount : Host.Outcome State Fault Refusal → Nat
  | .next t => t.req.length
  | _ => 0

/-- A state whose table of requesters is not in canonical form: key 0 stands behind key 5. -/
def unsortedRequesters : State :=
  { regs := [(R.DRW_CMD_RESULT_LO, 7)], req := [(5, { snap := 1 }), (0, { snap := 1 })] }

/-- Refutes O2: a _LO read of DRW_CMD_RESULT first keeps the snapshot, which makes the requester's entry equal to the reset state and
drops it, and then answers, which lists it anew. In a table that is not in canonical form, over which the clause also quantifies, this
is not the table that one write leaves: it lists two requesters, the clause's lists three. -/
theorem not_pairAccesses : ¬ Obligations.PairAccesses := by
  rintro ⟨-, -, -, h, -⟩
  have e := congrArg Outcome.reqCount (h unsortedRequesters (.core 0))
  exact absurd e (by decide +kernel)

end Sys2Proof.Machine
end

section
-- One proof at a time: the whole text then stays within the memory the check allows.
set_option Elab.async false
/-! PROOFS. O1: writes of the register space. -/

namespace Sys2Proof.Machine
open State

/-! ### Words whose write has no rule of its own -/

/-- The offset is that of a mapped word of the register space outside pairs, timing-set entries and the registers whose writes act. -/
def plainAt (off : Nat) : Bool :=
  inRegSpace off && off % 4 == 0 && !inMgmtSram off && !isPairHi off && !isPairLo off &&
    writeRules.all (fun w => !arrHit w.off w.dims off) && !(decide (0xA00000 ≤ off) && decide (off < 0xE00000)) && (findRow off).isSome

theorem writeRules_find?_none {off : Nat} (h : writeRules.all (fun w => !arrHit w.off w.dims off) = true) :
    writeRules.find? (fun w => arrHit w.off w.dims off) = none := by
  rw [List.find?_eq_none]
  intro w hw
  have := List.all_eq_true.1 h w hw
  simpa using this

theorem entAt_none (s : State) {off : Nat} (h : ¬ (0xA00000 ≤ off ∧ off < 0xE00000)) : s.entAt off = none := by
  rw [State.entAt, if_neg h]

/-- A 32-bit write of such a word is the write of its fields. -/
theorem registerWrite_plain (r : Req) {off : Nat} (v : Nat) (s : State) (h : plainAt off = true) :
    registerWrite r off 4 v s = s.plainWrite off (BitVec.ofNat 32 v) := by
  simp only [plainAt, Bool.and_eq_true, Bool.not_eq_true', beq_iff_eq, Bool.and_eq_false_iff, decide_eq_false_iff_not] at h
  obtain ⟨⟨⟨⟨⟨⟨⟨hspace, halign⟩, hsram⟩, hhi⟩, hlo⟩, hrules⟩, hent⟩, hrow⟩ := h
  have hmap : s.regMapped off = true := by
    have : ¬ (0xC00000 ≤ off ∧ off < 0xE00000) := by omega
    simp [State.regMapped, hrow]
    omega
  simp [registerWrite, hspace, regStore, halign, hmap, regWrite, hsram, hhi, hlo, writeRules_find?_none hrules,
    entAt_none s (off := off) (by omega)]

theorem bitsOf_ofNat {v : Nat} (hi lo : Nat) (h : v < 2 ^ 32) : bitsOf (BitVec.ofNat 32 v) hi lo = v / 2 ^ lo % 2 ^ (hi + 1 - lo) := by
  rw [bitsOf, BitVec.toNat_ofNat, Nat.mod_eq_of_lt h]

/-! ### Fields -/

/-- A field that is the whole word. -/
theorem put_wholeWord (s : State) (o v : Nat) : s.put ⟨o, 31, 0⟩ v = s.putN o v := by
  have e : withBits (s.word o) 31 0 v = BitVec.ofNat 32 v := by
    apply BitVec.eq_of_toNat_eq
    have := (s.word o).isLt
    simp [withBits, Nat.div_eq_of_lt this, Nat.mod_one]
  rw [State.put, e]
  rfl

theorem bit_put (s : State) (f : Fld) (v j : Nat) (h : f.lo ≤ f.hi) (hj : j < 32) :
    (s.put f v).bit f.off j = if f.lo ≤ j ∧ j ≤ f.hi then v.testBit (j - f.lo) else s.bit f.off j := by
  rw [State.bit, State.num, State.put, word_setWord, testBit_withBits _ _ _ _ _ h, decide_eq_true hj, Bool.true_and]
  rfl

/-- A write of a W1C bit clears it where the bit is written 1, and leaves the other bits of the word. -/
theorem bit_writeField_w1c (ready : Bool) (o i j r : Nat) (v : Word) (s : State) (hi : i < 32) (hj : j < 32) :
    (writeField ready o v s (fA j j .w1c r)).bit o i = (s.bit o i && !(decide (i = j) && v.toNat.testBit j)) := by
  have hw (w : Word) : bitsOf w j j = b2n (w.toNat.testBit j) := by
    rw [bitsOf, Nat.add_sub_cancel_left, pow_one, b2n, Nat.testBit_eq_decide_div_mod_eq]
    have := Nat.mod_two_eq_zero_or_one (w.toNat / 2 ^ j)
    split <;> simp_all
  have hs : s.bit o j = (s.word o).toNat.testBit j := rfl
  rw [writeField, fA]
  simp only [Nat.add_sub_cancel_left, hw, ← hs]
  rw [bit_put _ ⟨o, j, j⟩ _ _ le_rfl hi]
  by_cases hij : i = j
  · subst hij
    cases s.bit o i <;> cases v.toNat.testBit i <;> simp [b2n]
  · have : ¬ (j ≤ i ∧ i ≤ j) := by omega
    simp [this, hij]

/-- A field without reserved encodings never counts a refusal. -/
theorem regStep_writeField {P : Nat → Prop} {s t : State} (h : RegStep P s t) (ready : Bool) (o : Nat) (v : Word) (f : RegField)
    (ho : ¬ P o) (he : f.ok = [] ∨ ¬ P R.GLB_ERR_ENUM) : RegStep P s (writeField ready o v t f) := by
  have hr : ∀ x, inRanges f.ok x = true ∨ RegStep P s t.enumRefused := fun x =>
    he.imp (fun e => by simp [e, inRanges]) fun e => h.bump e
  have hx : ∀ x u, RegStep P s u → RegStep P s (if inRanges f.ok x then u else t.enumRefused) := fun x u hu => by
    split
    · exact hu
    · exact (hr x).resolve_left ‹_›
  rw [writeField]
  cases f.acc
  case rw => exact hx _ _ (h.put ho)
  case rwl => exact RegStep.ite h (hx _ _ (h.put ho))
  case w1c => exact h.put ho
  case w1s => exact h.put ho
  case wo => exact hx _ _ h
  case ro => exact h
  case rc => exact h

/-- A plain write reaches its own word and, where a field has reserved encodings, the count of those refused. -/
theorem regStep_plainWrite {P : Nat → Prop} (s : State) (o : Nat) (v : Word) (ho : ¬ P o)
    (he : ((findRow o).all fun r => r.fields.all fun f => f.ok == []) = true ∨ ¬ P R.GLB_ERR_ENUM) : RegStep P s (s.plainWrite o v) := by
  rw [State.plainWrite]
  split
  · exact RegStep.refl
  · next r hr =>
    have hf : ∀ f ∈ r.fields, f.ok = [] ∨ ¬ P R.GLB_ERR_ENUM := fun f hm => he.imp_left fun e => by
      rw [hr, Option.all_some, List.all_eq_true] at e
      simpa using e f hm
    rw [writeFields]
    generalize s.ready = ready
    suffices ∀ (l : List RegField) (t : State), (∀ f ∈ l, f.ok = [] ∨ ¬ P R.GLB_ERR_ENUM) → RegStep P s t →
        RegStep P s (l.foldl (writeField ready o v) t) from this _ _ hf RegStep.refl
    intro l
    induction l with
    | nil => exact fun t _ h => h
    | cons f fs ih =>
      exact fun t hl h => ih _ (fun g hg => hl g (List.mem_cons_of_mem _ hg))
        (regStep_writeField h ready o v f ho (hl f List.mem_cons_self))

/-! ### Errors -/

theorem registerWrite_narrow (r : Req) (off size v : Nat) (s : State) (ho : off < 2 ^ 27)
    (h : size = 1 ∨ size = 2 ∨ size = 4 ∧ off % 4 ≠ 0) : registerWrite r off size v s = s.accessErr r R.GLB_ERR_SIZE (regBase + off) := by
  have hs : inRegSpace off = true := by simpa [inRegSpace] using ho
  have h8 : size ≠ 8 := by omega
  have h4 : size = 1 ∨ size = 2 ∨ size = 4 := by omega
  have hr : size ≠ 4 ∨ off % 4 ≠ 0 := by omega
  simp [registerWrite, hs, h8, h4, regStore, hr]

theorem registerWrite_unmapped (r : Req) (off v : Nat) (s : State) (ho : off < 2 ^ 27) (ha : off % 4 = 0) (h : s.regMapped off = false) :
    registerWrite r off 4 v s = s.accessErr r R.GLB_ERR_UNMAPPED (regBase + off) := by
  have hs : inRegSpace off = true := by simpa [inRegSpace] using ho
  simp [registerWrite, hs, regStore, ha, h]

/-- What an access error counts and records, for either counter. -/
theorem accessErr_shows (s : State) (r : Req) (cnt off : Nat) (ho : off < 2 ^ 27) (hc : cnt = R.GLB_ERR_SIZE ∨ cnt = R.GLB_ERR_UNMAPPED) :
    ∀ t, t = s.accessErr r cnt (regBase + off) → t.num cnt = min satMax (s.num cnt + 1) ∧
      t.pair R.GLB_ERR_ADDR_LO = 0x2000000000 + off ∧ t.get F.GLB_ERR_SRC_REQ = reqCode r ∧
      RegsBut [R.GLB_ERR_ADDR_LO, R.GLB_ERR_ADDR_LO + 4, R.GLB_ERR_SRC, cnt] s t ∧ t = { s with regs := t.regs } := by
  have hr : F.GLB_ERR_SRC_REQ.fits (reqCode r) = true :=
    Fld.fits_of_lt (n := 32) (by decide) (by cases r <;> simp [reqCode]; omega)
  have hp : (s.accessErr r cnt (regBase + off)).pair R.GLB_ERR_ADDR_LO = ((s.bump cnt).putPair R.GLB_ERR_ADDR_LO (regBase + off)).pair R.GLB_ERR_ADDR_LO := by
    simp (disch := decide) [State.accessErr, State.pair]
  have hs : RegStep (· ∉ [R.GLB_ERR_ADDR_LO, R.GLB_ERR_ADDR_LO + 4, R.GLB_ERR_SRC, cnt]) s (s.accessErr r cnt (regBase + off)) := by
    refine ((RegStep.refl.bump ?_).putPair ?_ ?_).put ?_ <;> simp [F.GLB_ERR_SRC_REQ]
  rintro t rfl
  refine ⟨?_, ?_, get_put_same _ _ _ hr, hs.2, hs.others⟩
  · obtain rfl | rfl := hc <;> simp (disch := decide) [State.accessErr]
  · rw [hp, pair_putPair _ _ _ (by simp only [regBase]; omega), regBase]

/-! ### A field whose write is refused -/

/-- A write of STRM_SITE_n_CFG reaches its rule. -/
theorem registerWrite_strmCfg (r : Req) (n : Site) (v : Nat) (s : State) :
    registerWrite r (R.STRM_SITE_n_CFG n) 4 v s = strmCfgWrite n (BitVec.ofNat 32 v) s := by
  have hchk : ∀ n : Site, (inRegSpace (R.STRM_SITE_n_CFG n) && R.STRM_SITE_n_CFG n % 4 == 0 && !inMgmtSram (R.STRM_SITE_n_CFG n) &&
      !isPairHi (R.STRM_SITE_n_CFG n) && (findRow (R.STRM_SITE_n_CFG n)).isSome) = true := by decide +kernel
  have hidx : ∀ n : Site, writeRules.findIdx? (fun w => arrHit w.off w.dims (R.STRM_SITE_n_CFG n)) = some 3 := by decide +kernel
  have hfind : writeRules.find? (fun w => arrHit w.off w.dims (R.STRM_SITE_n_CFG n)) = writeRules[3]? := by
    rw [List.find?_eq_bind_findIdx?_getElem?, hidx n]
    rfl
  have h := hchk n
  simp only [Bool.and_eq_true, Bool.not_eq_true', beq_iff_eq] at h
  obtain ⟨⟨⟨⟨hspace, halign⟩, hsram⟩, hhi⟩, hrow⟩ := h
  have hmap : s.regMapped (R.STRM_SITE_n_CFG n) = true := by
    have : R.STRM_SITE_n_CFG n < 0xC00000 := by simp only [R.STRM_SITE_n_CFG]; omega
    simp [State.regMapped, hrow]
    omega
  simp [registerWrite, hspace, regStore, halign, hmap, regWrite, hsram, hhi, hfind, show writeRules[3]? = some { off := R.STRM_SITE_n_CFG 0, dims := [(64, 0x40)], act := fun _ i v => strmCfgWrite (ix0 i) v } from rfl]
  congr 1
  simp [dimIdx, ix0, R.STRM_SITE_n_CFG]

/-- A write of STRM_SITE_n_CFG with a reserved encoding of FIFO_UNITS counts it and stores the other two fields. -/
theorem strmCfgWrite_unitsRefused (n : Site) {v : Nat} (s : State) (hc : s.compat 3 = false) (hv : v < 2 ^ 32)
    (hu : v / 2 ^ 16 % 128 = 0 ∨ 65 ≤ v / 2 ^ 16 % 128) (hp : v % 4 ≠ 3) : strmCfgWrite n (BitVec.ofNat 32 v) s =
      ((s.bump R.GLB_ERR_ENUM).put (F.STRM_SITE_n_CFG_ADMIT_BEST_EFFORT n) (v / 16 % 2)).put (F.STRM_SITE_n_CFG_POLICY n) (v % 4) := by
  have hf : ∀ n : Site, findRow (R.STRM_SITE_n_CFG n) = some ⟨0x301000, [(64, 0x40)],
      [⟨22, 16, .rw, 1, [(1, 64)]⟩, fA 4 4 .rw 0, ⟨1, 0, .rw, 0, [(0, 2)]⟩]⟩ := by decide +kernel
  have h1 : ¬ (1 ≤ v / 65536 % 128 ∧ v / 65536 % 128 ≤ 64) := by omega
  have h2 : v % 4 ≤ 2 := by omega
  simp [strmCfgWrite, hc, State.plainWrite, hf n, writeFields, writeField, fA, inRanges, bitsOf_ofNat _ _ hv, h1, h2, State.enumRefused]
  rfl

/-- Settles O1: a write reaches the fields of its word (`registerWrite_plain`), the rule of its register, or is counted as an error
(`accessErr_shows`). -/
theorem registerWrites : Obligations.RegisterWrites := by
  refine ⟨?_, ?_, ?_, ?_, ?_, ?_, ?_⟩
  · intro s r k v hv
    have hp : ∀ k : Fin 4, plainAt (R.GLB_SCRATCHk k) = true := by decide +kernel
    have hf : ∀ k : Fin 4, findRow (R.GLB_SCRATCHk k) = some ⟨0x40, [(4, 4)], [fA 31 0 .rw 0]⟩ := by decide +kernel
    refine congrArg _ ((registerWrite_plain r v s (hp k)).trans ?_)
    simp [State.plainWrite, hf k, writeFields, writeField, fA, inRanges]
    rw [put_wholeWord, bitsOf_ofNat _ _ hv, Nat.pow_zero, Nat.div_one, Nat.mod_eq_of_lt hv]
  · intro s r v
    have hp : plainAt R.GLB_ID = true := by decide +kernel
    have hf : findRow R.GLB_ID = some ⟨0x0, [], [fA 31 0 .ro 0x4c585120]⟩ := by decide +kernel
    refine congrArg _ ((registerWrite_plain r v s hp).trans ?_)
    simp [State.plainWrite, hf, writeFields, writeField, fA]
  · intro s r v hv
    have hp : plainAt R.DRW_EVENT = true := by decide +kernel
    have hf : findRow R.DRW_EVENT = some ⟨0x20003c, [], [fA 4 4 .w1c 0, fA 3 3 .w1c 0, fA 2 2 .w1c 0, fA 1 1 .w1c 0, fA 0 0 .w1c 0]⟩ := by decide +kernel
    refine completes_of_eq rfl (registerWrite_plain r v s hp) ?_
    have hs := regStep_plainWrite (P := (· ∉ [R.DRW_EVENT])) s R.DRW_EVENT (BitVec.ofNat 32 v) (by simp) (.inl (by rw [hf]; decide))
    refine ⟨fun i hi => ?_, hs.2, hs.others⟩
    have h32 : i < 32 := by omega
    rw [State.plainWrite, hf]
    simp only [writeFields, List.foldl_cons, List.foldl_nil]
    repeat rw [bit_writeField_w1c _ _ _ _ _ _ _ h32 (by decide)]
    rw [BitVec.toNat_ofNat, Nat.mod_eq_of_lt hv]
    interval_cases i <;> simp
  · intro s r n v hc hv hu hp
    refine completes_of_eq rfl ((registerWrite_strmCfg r n v s).trans (strmCfgWrite_unitsRefused n s hc hv hu hp)) ?_
    have ha : (F.STRM_SITE_n_CFG_ADMIT_BEST_EFFORT n).fits (v / 16 % 2) = true := Fld.fits_of_lt (n := 2) rfl (Nat.mod_lt _ (by decide))
    have hq : (F.STRM_SITE_n_CFG_POLICY n).fits (v % 4) = true := Fld.fits_of_lt (n := 4) rfl (Nat.mod_lt _ (by decide))
    simp -implicitDefEqProofs (disch := (apply all_fin n; decide +kernel)) [get_put_same _ _ _ ha, get_put_same _ _ _ hq, State.eq_iff]
    intro o ho
    simp -implicitDefEqProofs (disch := (refine ne_of_unlisted ho ?_; apply all_fin n; decide +kernel))
  · intro s r off size v ho hs
    exact ⟨_, rfl, accessErr_shows s r _ off ho (.inl rfl) _ (registerWrite_narrow r off size v s ho hs)⟩
  · intro s r off v ho ha hm
    exact ⟨_, rfl, accessErr_shows s r _ off ho (.inr rfl) _ (registerWrite_unmapped r off v s ho ha hm)⟩
  · intro s r off v ho
    have h1 : inRegSpace off = true := by simp [inRegSpace]; omega
    have h2 : inRegSpace (off + 4) = true := by simpa [inRegSpace] using ho
    have hm : BitVec.ofNat 32 (v % 2 ^ 32) = BitVec.ofNat 32 v := by
      apply BitVec.eq_of_toNat_eq
      simp
    exact ⟨_, rfl, regStore r off 4 (BitVec.ofNat 32 v) s, by simp only [exec, execRegisterWrite, registerWrite, h1, hm]; rfl, by
      simp [exec, execRegisterWrite, registerWrite, h1, h2]⟩

end Sys2Proof.Machine
end

section
-- One proof at a time: the whole text then stays within the memory the check allows.
set_option Elab.async false
/-! PROOFS. O9: the stream engine. -/

namespace Sys2Proof.Machine
open State

/-! ### Fetches -/

theorem fetchIssue_run (n st : Nat) (s : State) {r : FetchReq} (hr : (s.strmOf n).rate ≠ 0) (hq : nextRequest s n st = some r)
    (ha : s.is (F.STRM_SITE_n_FLAGS_ARMED n) = true)
    (hl : r.len + (s.strmOf n).fill + ((s.strmOf n).flight.map (·.len)).sum ≤ 65536 * (s.strmOf n).units)
    (hc : 10 * r.len ≤ (s.strmOf n).creditNow s.now) : fetchIssue n st s = s.updStrm n (fun x => { x with
        credit := (s.strmOf n).creditNow s.now - 10 * r.len
        creditT := s.now
        flight := x.flight ++ [r]
        streams := Tab.set {} st { Tab.get {} x.streams st with req := r.pos + r.len } x.streams }) := by
  have hroom : r.len ≤ fifoSize (s.strmOf n).units - (s.strmOf n).fill - ((s.strmOf n).flight.map (·.len)).sum := by
    rw [fifoSize]
    omega
  rw [fetchIssue, hq]
  exact if_pos ⟨ha, hr, hroom, hc⟩

/-- The pieces of a request are read through the error check, which reaches neither the streams nor memory. -/
theorem eccStep_readPieces (n drw pos : Nat) (l : List (Nat × Nat)) (s : State) : EccStep s (readPieces n drw pos l s).2.2 := by
  induction l generalizing pos s with
  | nil => exact EccStep.refl
  | cons p ps ih => exact (EccStep.eccRead s p.1 p.2 0x1F (some (n, drw))).trans (ih _ _)

/-- Without noted errors a read through the error check finds none and changes nothing. -/
theorem eccRead_clean (s : State) (a n req : Nat) (sd : Option (Nat × Nat)) (hc : s.memc.ceBursts = []) (hu : s.memc.ueBursts = []) :
    s.eccRead a n req sd = ([], s) := by
  rw [State.eccRead, hc, hu]
  split <;> rfl

theorem readPieces_clean (n drw pos : Nat) (l : List (Nat × Nat)) (s : State) (hc : s.memc.ceBursts = []) (hu : s.memc.ueBursts = []) :
    readPieces n drw pos l s = (l.flatMap (fun p => s.rdBytes p.1 p.2), [], s) := by
  induction l generalizing pos with
  | nil => rfl
  | cons p ps ih =>
    obtain ⟨a, k⟩ := p
    rw [readPieces, eccRead_clean s a k _ _ hc hu]
    simp [ih]

/-- Data of a stream that was abandoned leaves the list of requests and is discarded. -/
theorem fetchComplete_discard (n i : Nat) (s : State) {r : FetchReq} (hi : (s.strmOf n).flight[i]? = some r)
    (ha : (s.strmOf n).streams.any (fun p => p.1 == r.stream) = false) : ∃ u : State, u.strm = s.strm ∧ u.mem = s.mem ∧
      fetchComplete n i [] [] s = u.updStrm n (fun x => { x with flight := x.flight.eraseIdx i }) := by
  obtain ⟨⟨a, b, c, d, e⟩, -⟩ := eccStep_readPieces n r.drw r.pos r.chunks (s.addErrs [] [])
  refine ⟨(readPieces n r.drw r.pos r.chunks (s.addErrs [] [])).2.2, by rw [e]; rfl, by rw [e]; rfl, ?_⟩
  rw [fetchComplete, hi]
  simp only
  rw [if_neg]
  have hs : (readPieces n r.drw r.pos r.chunks (s.addErrs [] [])).2.2.strm = s.strm := by rw [e]; rfl
  simp only [State.strmOf] at ha
  simp [State.strmOf, State.updStrm, hs, ha]

theorem addErrs_clean (s : State) (hc : s.memc.ceBursts = []) (hu : s.memc.ueBursts = []) : s.addErrs [] [] = s := by
  rw [State.eq_iff]
  simp only [State.addErrs, hc, hu, List.append_nil, List.dedup_nil, true_and, and_true]
  generalize s.memc = m at *
  cases m
  simp_all

/-- The segment that the data of a request becomes. -/
def State.fetchSeg (s : State) (r : FetchReq) : Seg := { pos := r.pos, data := r.chunks.flatMap (fun p => s.rdBytes p.1 p.2), bad := [] }

/-- Request `i` leaves the list of site `n`, nothing is counted as late, and its stream gains a segment. -/
def State.fetchStored (s : State) (n i : Nat) (r : FetchReq) : State :=
  ((s.updStrm n (fun x => { x with flight := x.flight.eraseIdx i })).addSat (R.STRM_SITE_n_LATE_DROP n) 0).updStrm n (fun x => { x with
    streams := Tab.set {} r.stream { Tab.get {} (s.strmOf n).streams r.stream with
      segs := insSeg (s.fetchSeg r) (Tab.get {} (s.strmOf n).streams r.stream).segs } x.streams })

/-- Data that is wanted and comes in time, read without errors, becomes a segment of its stream. -/
theorem fetchComplete_keep (n i : Nat) (s : State) {r : FetchReq} (hi : (s.strmOf n).flight[i]? = some r) (hl : r.late = false)
    (ha : (s.strmOf n).streams.any (fun p => p.1 == r.stream) = true) (hb : (Tab.get {} (s.strmOf n).streams r.stream).base ≤ r.pos)
    (hc : s.memc.ceBursts = []) (hu : s.memc.ueBursts = []) (hd : r.chunks.flatMap (fun p => s.rdBytes p.1 p.2) ≠ []) :
    fetchComplete n i [] [] s = ((s.fetchStored n i r).fillShow n).primeCheck n := by
  have hlate : (Tab.get {} (s.strmOf n).streams r.stream).base - r.pos = 0 := by omega
  have hst : (s.updStrm n (fun x => { x with flight := x.flight.eraseIdx i })).strmOf n =
      { s.strmOf n with flight := (s.strmOf n).flight.eraseIdx i } := by simp [State.strmOf, State.updStrm]
  rw [fetchComplete, hi]
  simp only [addErrs_clean s hc hu, readPieces_clean n r.drw r.pos r.chunks s hc hu, hst, ha, hl, hlate, Bool.not_false, Bool.and_self,
    if_true, Nat.zero_min, List.drop_zero, State.when, List.isEmpty_eq_false_iff.2 hd, Nat.add_zero]
  rfl

theorem strmOf_fetchStored (s : State) (n i : Nat) (r : FetchReq) : ((s.fetchStored n i r).strmOf n).flight = (s.strmOf n).flight.eraseIdx i ∧
    (Tab.get {} ((s.fetchStored n i r).strmOf n).streams r.stream).segs =
      insSeg (s.fetchSeg r) (Tab.get {} (s.strmOf n).streams r.stream).segs := by
  simp [State.fetchStored, State.strmOf, State.updStrm]

theorem strm_primeCheck (s : State) (n : Nat) : (s.primeCheck n).strm = s.strm ∧ (s.primeCheck n).mem = s.mem ∧
    RegsIf (· ≠ R.STRM_SITE_n_FLAGS n) s (s.primeCheck n) := by
  have h : RegStep (· ≠ R.STRM_SITE_n_FLAGS n) s (s.primeCheck n) := RegStep.refl.when fun h => h.put (by simp [F.STRM_SITE_n_FLAGS_PRIMED])
  rw [h.others]
  exact ⟨rfl, rfl, h.2⟩

/-! ### Staged sets -/

/-- Marking the staged slots of a site changes the cache and nothing else. -/
theorem stagedDue_others (s : State) (n : Nat) : ∃ x, s.stagedDue n = { s with ts := x } :=
  State.each_keeps (fun t => ∃ x, t = { s with ts := x }) _ _ s ⟨s.ts, rfl⟩ fun t k ht =>
    State.each_keeps (fun t => ∃ x, t = { s with ts := x }) _ _ t ht fun u i hu => by
      obtain ⟨x, rfl⟩ := hu
      split
      · exact ⟨_, rfl⟩
      · exact ⟨x, rfl⟩

/-! ### The ledger -/

/-- A percentage in range is stored, and guarantee and comparison are computed anew. -/
theorem ledgerPctWrite_run (s : State) (v : Word) (hl : 50 ≤ v.toNat % 128) (hh : v.toNat % 128 ≤ 90) :
    ledgerPctWrite v s = (s.put F.STRM_LEDGER_CTRL_PCT (v.toNat % 128)).ledgerRefresh := by
  have hf : findRow R.STRM_LEDGER_CTRL = some ⟨0x300004, [], [⟨6, 0, .rw, 0x50, [(50, 90)]⟩]⟩ := by decide +kernel
  simp [ledgerPctWrite, State.plainWrite, hf, writeFields, writeField, inRanges, bitsOf, hl, hh]
  rfl

/-- Settles O9: a fetch changes the ledger of its site (`fetchIssue_run`), its data the streams (`fetchComplete_discard`,
`fetchComplete_keep`); readiness and ledger are computed where their commands say. -/
theorem streamCommands : Obligations.StreamCommands := by
  refine ⟨?_, ?_, ?_, ?_, ?_⟩
  · intro s n st r hr hq ha hl hc
    refine completes_of_eq rfl (fetchIssue_run n st s hr hq ha hl hc) ⟨?_, ?_, fun m hm => ?_, rfl⟩
    · simp [State.strmOf, State.updStrm]
    · simp [State.strmOf, State.updStrm]
    · have : m.val ≠ n.val := fun e => hm (Fin.ext e)
      simp [State.strmOf, State.updStrm, Tab.get_set, this]
  · intro s n i r hi ha
    obtain ⟨u, hs, hm, e⟩ := fetchComplete_discard n i s hi ha
    refine completes_of_eq rfl e ?_
    simp [State.strmOf, State.updStrm, hs, hm]
  · intro s n i r hi hl ha hb hc hu hd
    refine completes_of_eq rfl (fetchComplete_keep n i s hi hl ha hb hc hu hd) ?_
    obtain ⟨hp, hm, hr⟩ := strm_primeCheck ((s.fetchStored n i r).fillShow n) n
    have hs : (((s.fetchStored n i r).fillShow n).primeCheck n).strmOf n = (s.fetchStored n i r).strmOf n := by
      rw [State.strmOf, hp]
      rfl
    obtain ⟨hf, hg⟩ := strmOf_fetchStored s n i r
    rw [hs]
    refine ⟨hf, hg, ?_, ?_, ?_⟩
    · rw [hr.num (by simp [R.STRM_SITE_n_FILL, R.STRM_SITE_n_FLAGS]), State.fillShow, num_putN]
    · rw [regsBut_iff]
      have h0 : RegsIf (· ∉ [R.STRM_SITE_n_FILL n, R.STRM_SITE_n_FLAGS n, R.STRM_SITE_n_LATE_DROP n]) s ((s.fetchStored n i r).fillShow n) := by
        refine RegsIf.putN (RegsIf.of_regs (RegsIf.addSat (RegsIf.refl.of_regs ?_) ?_) (updStrm_regs _ _ _)) ?_
        · rfl
        · simp
        · simp
      exact h0.trans fun o ho => hr o (ne_of_unlisted ho (by simp))
    · rw [hm]
      rfl
  · intro s n hn
    have hp : s.playing n = true := by simp [State.playing, hn, stRunning]
    refine ⟨_, rfl, ?_⟩
    obtain ⟨x, hx⟩ := stagedDue_others s n
    rw [readinessPoint, hp, Bool.true_or, if_pos rfl, hx]
    generalize framesReady s n (16 - (s.playOf n).inFrame) 16 = p
    simp only [State.when]
    split
    · simp [State.strmOf, State.updStrm, State.eq_iff]
    · simp [State.strmOf, State.updStrm]
  · intro s v hl hh
    refine completes_of_eq rfl (ledgerPctWrite_run s v hl hh) ?_
    have hp : F.STRM_LEDGER_CTRL_PCT.fits (v.toNat % 128) = true := Fld.fits_of_lt (n := 128) (by decide) (Nat.mod_lt _ (by decide))
    have hg : F.STRM_LEDGER_GUAR_GUAR.fits (ledgerGuar (v.toNat % 128) (s.get F.STRM_LEDGER_RSV_REFRESH) (s.get F.STRM_LEDGER_RSV_RETRAIN)) =
        true := Fld.fits_of_lt (n := 2 ^ 16) (by decide) (by rw [ledgerGuar]; omega)
    rw [State.ledgerRefresh]
    simp (disch := decide) only [get_put_same _ _ _ hp, get_put_apart]
    generalize hv : ledgerGuar (v.toNat % 128) (s.get F.STRM_LEDGER_RSV_REFRESH) (s.get F.STRM_LEDGER_RSV_RETRAIN) = g at hg
    have hS : RegStep (· ∉ [R.STRM_LEDGER_CTRL, R.STRM_LEDGER_GUAR, R.STRM_STATUS, R.STRM_EVENT]) s
        ((((s.put F.STRM_LEDGER_CTRL_PCT (v.toNat % 128)).put F.STRM_LEDGER_GUAR_GUAR g).put F.STRM_STATUS_LEDGER_OVER
          (b2n (decide (g < s.get F.STRM_LEDGER_SUM_SUM)))).when (decide (g < s.get F.STRM_LEDGER_SUM_SUM) &&
            !(s.put F.STRM_LEDGER_CTRL_PCT (v.toNat % 128)).is F.STRM_STATUS_LEDGER_OVER) (fun t => t.put F.STRM_EVENT_LEDGER_OVER 1)) :=
      (((RegStep.refl.put (by decide)).put (by decide)).put (by decide)).when fun h => h.put (by decide)
    refine ⟨?_, ?_, ?_, hS.2, hS.others⟩
    · rw [State.when]
      split <;> simp (disch := decide) [get_put_same _ _ _ hp]
    · change _ = ledgerGuar (v.toNat % 128) _ _
      rw [hv, State.when]
      split <;> simp (disch := decide) [get_put_same _ _ _ hg]
    · rw [State.when]
      split <;> simp (disch := decide) [get_put_same _ _ _ hg, get_put_b2n]

end Sys2Proof.Machine
end

section
-- One proof at a time: the whole text then stays within the memory the check allows.
set_option Elab.async false
/-! PROOFS. O11: retraining sessions and power states of the pseudo-channels. -/

namespace Sys2Proof.Machine
open State

/-- The pseudo-channel of the session that runs is one of 32. -/
theorem retrainPc_fin (s : State) : ∃ q : Fin 32, s.get F.MEMC_STATUS_RETRAIN_PC = q :=
  ⟨⟨s.get F.MEMC_STATUS_RETRAIN_PC, s.get_lt F.MEMC_STATUS_RETRAIN_PC⟩, rfl⟩

theorem nextTurn_own (s : State) (p : Cluster) (ht : s.memc.turn = p) (hp : s.pcState p ≤ 1) : s.nextTurn = some p.val := by
  have : (s.memc.turn + 0) % 32 = p := by omega
  rw [State.nextTurn, List.find?_map, show List.range 32 = 0 :: (List.range 32).tail from rfl, List.find?_cons_of_pos]
  · exact congrArg some this
  · simpa only [Function.comp, this, decide_eq_true_eq] using hp

/-- What the beginning of a session shows. -/
theorem beginSession_shows (s : State) (p : Cluster) : ∀ t, t = s.beginSession p → t.get F.MEMC_STATUS_RETRAINING = 1 ∧
    t.get F.MEMC_STATUS_RETRAIN_PC = p ∧ t.memc.turn = s.memc.turn ∧ RegsBut [R.MEMC_STATUS] s t ∧ 
    t = { s with regs := t.regs, memc := t.memc } := by
  have hf : F.MEMC_STATUS_RETRAIN_PC.fits p = true := Fld.fits_of_lt (by decide) p.isLt
  rintro t rfl
  simp -implicitDefEqProofs (disch := decide) [State.beginSession, State.eq_iff, get_put_same _ _ _ hf]
  intro o ho
  simp -implicitDefEqProofs (disch := exact ne_of_unlisted ho (by decide))

/-- The end of a session that no other follows. -/
theorem retrainEnd_run (ok : Bool) (s : State) (h : s.get F.MEMC_STATUS_RETRAINING = 1) (hr : s.memc.startReq = none) : retrainEnd ok s =
    (((s.put F.MEMC_STATUS_RETRAINING 0).put (F.MEMC_PC_p_STATE_TRAINING (s.get F.MEMC_STATUS_RETRAIN_PC)) 0).bump R.MEMC_RETRAIN_CNT).when
      (!ok) (fun t => (t.bump R.MEMC_RETRAIN_FAIL).put F.MEMC_EVENT_RETRAIN_FAIL 1) := by
  cases ok <;> simp [retrainEnd, is_eq, h, hr, State.when]

theorem ledgerRefresh_step (s : State) : RegStep (· ∉ [R.STRM_LEDGER_GUAR, R.STRM_STATUS, R.STRM_EVENT]) s s.ledgerRefresh := by
  rw [State.ledgerRefresh]
  refine ((RegStep.refl.put ?_).put ?_).when fun h => h.put ?_
  all_goals decide

theorem get_guar_ledgerRefresh (s : State) : s.ledgerRefresh.get F.STRM_LEDGER_GUAR_GUAR =
    ledgerGuar (s.get F.STRM_LEDGER_CTRL_PCT) (s.get F.STRM_LEDGER_RSV_REFRESH) (s.get F.STRM_LEDGER_RSV_RETRAIN) % 2 ^ 16 := by
  rw [State.ledgerRefresh, State.when]
  split <;> simp (disch := decide) only [get_put_apart] <;> exact get_put _ _ _ (by decide) (by decide)

/-- A write of MEMC_RETRAIN_CTRL with an interval in range stores both fields, the reservation and the ledger. -/
theorem retrainCtrlWrite_run (v : Word) (s : State) (h : 10 ≤ v.toNat / 2 ^ 16) : retrainCtrlWrite v s =
    (((s.put F.MEMC_RETRAIN_CTRL_INTERVAL (v.toNat / 2 ^ 16)).put F.MEMC_RETRAIN_CTRL_ENABLE (v.toNat % 2)).put F.STRM_LEDGER_RSV_RETRAIN
      (if v.toNat % 2 = 1 then 384 else 0)).ledgerRefresh := by
  have hf : findRow R.MEMC_RETRAIN_CTRL = some ⟨0x400004, [], [⟨31, 16, .rw, 0x64, [(10, 65535)]⟩, fA 0 0 .rw 1]⟩ := by decide +kernel
  have hv := v.isLt
  have hi : v.toNat / 65536 % 65536 = v.toNat / 65536 := Nat.mod_eq_of_lt (by omega)
  have h' : 10 ≤ v.toNat / 65536 ∧ v.toNat / 65536 ≤ 65535 := by omega
  have he : F.MEMC_RETRAIN_CTRL_ENABLE.fits (v.toNat % 2) = true := Fld.fits_of_lt (n := 2) (by decide) (Nat.mod_lt _ (by decide))
  have hw : s.plainWrite R.MEMC_RETRAIN_CTRL v =
      (s.put F.MEMC_RETRAIN_CTRL_INTERVAL (v.toNat / 2 ^ 16)).put F.MEMC_RETRAIN_CTRL_ENABLE (v.toNat % 2) := by
    simp [State.plainWrite, hf, writeFields, writeField, fA, inRanges, bitsOf, hi, h']
    rfl
  rw [retrainCtrlWrite, hw]
  simp [is_eq, get_put_same _ _ _ he]

/-- The rows of all 48 banks of a pseudo-channel close. -/
def State.closeRows (s : State) (p : Nat) : State := s.each (List.range 48) (fun t b => t.updBank p b (fun x => { x with openRow := none }))

theorem closeRows_others (s : State) (p : Nat) : ∃ m, s.closeRows p = { s with memc := m } :=
  State.each_keeps (fun t => ∃ m, t = { s with memc := m }) _ _ s ⟨s.memc, rfl⟩ fun t b ht => by
    obtain ⟨m, rfl⟩ := ht
    exact ⟨_, rfl⟩

theorem openRow_closeRows (s : State) (p : Nat) (j : Fin 48) : ((s.closeRows p).bankOf p j).openRow = none := by
  have step : ∀ (t : State) (b : Nat), (b = j.val ∨ (t.bankOf p j).openRow = none) →
      ((t.updBank p b (fun x => { x with openRow := none })).bankOf p j).openRow = none := by
    intro t b h
    by_cases hb : b = j.val
    · simp [State.bankOf, State.updBank, hb]
    · simpa [State.bankOf, State.updBank, Tab.get_set, Ne.symm hb] using h.resolve_left hb
  obtain ⟨a, b, e⟩ := List.append_of_mem (List.mem_range.2 j.isLt)
  rw [State.closeRows, e, State.each, List.foldl_append, List.foldl_cons]
  exact State.each_keeps (fun t => (t.bankOf p j).openRow = none) b _ _ (step _ _ (.inl rfl)) fun t x h => step t x (.inr h)

theorem powerEnter_run (p : Nat) (s : State) (hb : s.pcBusy p = false) (hw : (s.pcOf p).waking = false)
    (ht : s.get (F.MEMC_PC_p_STATE_TRAINING p) = 0) (hd : s.pcState p < s.deepest) :
    powerEnter p s = (s.closeRows p).put (F.MEMC_PC_p_STATE_STATE p) s.deepest := by
  simp [powerEnter, hb, hw, is_eq, ht, hd, State.closeRows]

theorem deepest_le (s : State) : s.deepest < 4 := by
  rw [State.deepest]
  dsimp only
  split
  · omega
  split
  · omega
  split <;> omega

/-- Settles O11: sessions begin and end as `beginSession_shows` and `retrainEnd_run` say; a power state closes the rows
(`openRow_closeRows`). -/
theorem retrainAndPower : Obligations.RetrainAndPower := by
  refine ⟨?_, ?_, ?_, ?_, ?_, ?_, ?_, ?_, ?_, ?_⟩
  · intro s p he hr ht hp
    refine ⟨_, rfl, ?_⟩
    have e : retrainStart s = State.beginSession { s with memc := { s.memc with turn := (p + 1) % 32 } } p := by
      simp [retrainStart, is_eq, he, hr, nextTurn_own s p ht hp]
    rw [e]
    exact beginSession_shows { s with memc := { s.memc with turn := (p + 1) % 32 } } p _ rfl
  · intro s start hr
    obtain ⟨q, hq⟩ := retrainPc_fin s
    refine ⟨_, rfl, ?_⟩
    rw [hq]
    cases start <;> simp (disch := (apply all_fin q; decide +kernel)) [retrainSlice, is_eq, hr, hq, b2n, State.eq_iff]
    all_goals
      intro o ho
      simp (disch := (refine ne_of_unlisted ho ?_; apply all_fin q; decide +kernel))
  · intro s p hr
    refine ⟨_, rfl, ?_⟩
    rw [retrainRequest, is_eq, hr]
    obtain ⟨h1, h2, -, h3, h4⟩ := beginSession_shows s p _ rfl
    exact ⟨h1, h2, h3, h4⟩
  · intro s p hr
    simp [exec, execMemcRetrainStart, retrainRequest, is_eq, hr]
  · intro s v hv
    refine completes_of_eq rfl (retrainCtrlWrite_run v s hv) ?_
    have he : F.MEMC_RETRAIN_CTRL_ENABLE.fits (v.toNat % 2) = true := Fld.fits_of_lt (n := 2) (by decide) (Nat.mod_lt _ (by decide))
    have hi : F.MEMC_RETRAIN_CTRL_INTERVAL.fits (v.toNat / 65536) = true :=
      Fld.fits_of_lt (n := 2 ^ 16) (by decide) (by have := v.isLt; omega)
    have hr : F.STRM_LEDGER_RSV_RETRAIN.fits (if v.toNat % 2 = 1 then 384 else 0) = true :=
      Fld.fits_of_lt (n := 2 ^ 16) (by decide) (by split <;> decide)
    generalize hu : ((s.put F.MEMC_RETRAIN_CTRL_INTERVAL (v.toNat / 2 ^ 16)).put F.MEMC_RETRAIN_CTRL_ENABLE (v.toNat % 2)).put
      F.STRM_LEDGER_RSV_RETRAIN (if v.toNat % 2 = 1 then 384 else 0) = u
    have hL := ledgerRefresh_step u
    rw [get_guar_ledgerRefresh, hL.keeps.get (by decide), hL.keeps.get (by decide), hL.keeps.get (by decide)]
    refine ⟨?_, ?_, ?_, ?_, ?_⟩
    · rw [← hu]
      simp (disch := decide) [get_put_same _ _ _ he]
    · rw [← hu]
      simp (disch := decide) [get_put_same _ _ _ hi]
    · rw [← hu]
      simp (disch := decide) [get_put_same _ _ _ hr]
    · rw [← hu]
      simp (disch := decide) only [get_put_same _ _ _ hr, get_put_apart, ledgerGuar]
    · have hS : RegStep (fun _ => False) s u := hu ▸ ((RegStep.refl.put id).put id).put id
      exact (hS.trans (hL.weaken fun _ => False.elim)).others
  · intro s p hb hw ht hd
    refine completes_of_eq rfl (powerEnter_run p s hb hw ht hd) ?_
    have hf : (F.MEMC_PC_p_STATE_STATE p).fits s.deepest = true := Fld.fits_of_lt (n := 4) rfl (deepest_le s)
    refine ⟨?_, fun j => openRow_closeRows s p j, ?_, ?_⟩
    · rw [State.pcState, get_put_same _ _ _ hf]
    all_goals
      obtain ⟨m, hm⟩ := closeRows_others s p
      rw [hm]
    · intro o ho
      simp (disch := (refine ne_of_unlisted ho ?_; apply all_fin p; decide +kernel))
    · simp -implicitDefEqProofs [State.eq_iff]
  · intro s p hs
    refine ⟨_, rfl, ?_⟩
    rw [pcWake, if_pos hs, State.when]
    by_cases h2 : 2 ≤ s.pcState p
    all_goals
      have h2' := h2
      rw [State.pcState] at h2'
      simp (disch := (apply all_fin p; decide +kernel)) [State.updPc, State.pcState, State.pcOf, h2', State.eq_iff]
    · intro o ho
      simp (disch := (refine ne_of_unlisted ho ?_; apply all_fin p; decide +kernel))
    · intro o ho
      simp
  · intro s p hs
    refine ⟨_, rfl, ?_⟩
    rw [pcWakeDone, if_pos hs]
    simp (disch := (apply all_fin p; decide +kernel)) [State.updPc, State.pcState, State.pcOf, State.eq_iff]
    intro o ho
    simp (disch := (refine ne_of_unlisted ho ?_; apply all_fin p; decide +kernel))
  · intro s hr hq
    obtain ⟨q, hp⟩ := retrainPc_fin s
    refine completes_of_eq rfl (retrainEnd_run false s hr hq) ?_
    rw [hp]
    simp (disch := (apply all_fin q; decide +kernel)) [State.when, State.eq_iff]
    intro o ho
    simp (disch := (refine ne_of_unlisted ho ?_; apply all_fin q; decide +kernel))
  · intro s hr hq
    obtain ⟨q, hp⟩ := retrainPc_fin s
    refine completes_of_eq rfl (retrainEnd_run true s hr hq) ?_
    rw [hp]
    simp (disch := (apply all_fin q; decide +kernel)) [State.when, State.eq_iff]
    intro o ho
    simp (disch := (refine ne_of_unlisted ho ?_; apply all_fin q; decide +kernel))

end Sys2Proof.Machine
end

section
-- One proof at a time: the whole text then stays within the memory the check allows.
set_option Elab.async false
/-! PROOFS. O12: timing sets. -/

namespace Sys2Proof.Machine
open State

/-! ### The row of a register with several indices -/

/-- Where the registers of a row end, counted from the first. -/
def dimsSpan : List (Nat × Nat) → Nat
  | [] => 1
  | (c, st) :: _ => c * st

theorem lt_dimsSpan {dims : List (Nat × Nat)} {rel : Nat} (h : dimsHit dims rel = true) (hst : dims.all (fun d => decide (0 < d.2)) = true) :
    rel < dimsSpan dims := by
  cases dims with
  | nil => simp_all [dimsHit, dimsSpan]
  | cons d ds =>
    obtain ⟨c, st⟩ := d
    simp only [dimsHit, Bool.and_eq_true, decide_eq_true_eq, List.all_cons] at h hst
    exact (Nat.div_lt_iff_lt_mul hst.1).1 h.1

/-- A row that ends before an offset does not hold it. -/
theorem hit_of_below {q : RegRow} {lo off : Nat} (h : (q.dims.all (fun d => decide (0 < d.2)) && decide (q.off + dimsSpan q.dims ≤ lo)) = true)
    (ho : lo ≤ off) : q.hit off = false := by
  rw [Bool.and_eq_true, decide_eq_true_eq] at h
  rw [← Bool.not_eq_true]
  intro hh
  rw [RegRow.hit, Bool.and_eq_true, decide_eq_true_eq] at hh
  have := lt_dimsSpan hh.2 h.1
  omega

/-- The row of an offset is the first of its block that holds it. -/
theorem findRow_of_hit {off : Nat} (b : RegBlock) (i : Nat) (l m : List RegRow) (r : RegRow) (hb : regBlocks[i]? = some b)
    (hpre : (regBlocks.take i).all (fun c => decide (c.base + c.size ≤ b.base)) = true) (hlo : b.base ≤ off) (hhi : off < b.base + b.size)
    (hrows : b.rows = l ++ r :: m) (hl : ∀ q ∈ l, q.hit off = false) (hr : r.hit off = true) : findRow off = some r := by
  have hfind : regBlocks.find? (fun b => decide (b.base ≤ off) && decide (off < b.base + b.size)) = some b := by
    obtain ⟨hi, hib⟩ := List.getElem?_eq_some_iff.1 hb
    rw [List.find?_eq_some_iff_getElem]
    refine ⟨by simp [hlo, hhi], i, hi, hib, fun j hj => ?_⟩
    have := List.all_eq_true.1 hpre regBlocks[j] (List.mem_take_iff_getElem.2 ⟨j, by omega, rfl⟩)
    simp only [decide_eq_true_eq] at this
    simp
    omega
  rw [findRow, hfind]
  simp only [hrows]
  rw [List.find?_append, List.find?_eq_none.2 (by simpa using hl), Option.none_or, List.find?_cons, hr]

theorem findRow_tsetEnt (c : Channel) (x : Set8) (w : Fin 6) : findRow (R.TSET_ENT_c_s_Wi c x w) =
    some ⟨0xa00004, [(512, 0x2000), (256, 0x20), (6, 4)], [fA 31 0 .rw 0]⟩ := by
  have hc := c.isLt
  have hx := x.isLt
  have hw := w.isLt
  have hlo : 0xa00000 ≤ R.TSET_ENT_c_s_Wi c x w := by simp only [R.TSET_ENT_c_s_Wi]; omega
  refine findRow_of_hit ⟨0x600000, 0xa00000, rowsTSET⟩ 6 (rowsTSET.take 18) (rowsTSET.drop 19) _ rfl (by decide) ?_ ?_ rfl ?_ ?_
  · simp only [R.TSET_ENT_c_s_Wi]; omega
  · simp only [R.TSET_ENT_c_s_Wi]; omega
  · rw [show rowsTSET.take 18 = rowsTSET.take 17 ++ [⟨0xa00000, [(512, 0x2000), (256, 0x20)], [fA 16 16 .rw 0, fA 13 8 .rw 0, ⟨7, 0, .rw, 0, [(0, 6)]⟩]⟩] from rfl]
    intro q hq
    rcases List.mem_append.1 hq with hq | hq
    · refine hit_of_below ?_ hlo
      exact List.all_eq_true.1 (by decide : (rowsTSET.take 17).all (fun q => q.dims.all (fun d => decide (0 < d.2)) && decide (q.off + dimsSpan q.dims ≤ 0xa00000)) = true) q hq
    · obtain rfl := List.mem_singleton.1 hq
      have hrel : R.TSET_ENT_c_s_Wi c x w - 0xa00000 = 0x2000 * c + 0x20 * x + (4 * w + 4) := by simp only [R.TSET_ENT_c_s_Wi]; omega
      rw [RegRow.hit, hrel, Bool.and_eq_false_iff, ← Bool.not_eq_true, ← Bool.not_eq_true]
      refine .inr fun h => ?_
      simp only [dimsHit, Bool.and_eq_true, decide_eq_true_eq, beq_iff_eq] at h
      omega
  · have hrel : R.TSET_ENT_c_s_Wi c x w - 0xa00004 = 0x2000 * c + 0x20 * x + 4 * w := by simp only [R.TSET_ENT_c_s_Wi]; omega
    have hge : 0xa00004 ≤ R.TSET_ENT_c_s_Wi c x w := by simp only [R.TSET_ENT_c_s_Wi]; omega
    rw [RegRow.hit, hrel, decide_eq_true hge, Bool.true_and]
    simp only [dimsHit, Bool.and_eq_true, decide_eq_true_eq, beq_iff_eq]
    omega

/-! ### The commands -/

/-- A write of an offset word stores it and marks the entry. -/
theorem tsetEntryWrite_offset (c : Channel) (x : Set8) (w : Fin 6) (v : Word) (s : State) (h0 : s.compat 0 = false) (hc : s.committing x = false) :
    tsetEntryWrite c x (w.val + 1) v s = (s.putN (R.TSET_ENT_c_s_Wi c x w) v.toNat).markEnt c x := by
  have ho : R.TSET_ENT_c_s_W0 c x + 4 * (w.val + 1) = R.TSET_ENT_c_s_Wi c x w := by
    simp only [R.TSET_ENT_c_s_W0, R.TSET_ENT_c_s_Wi]
    omega
  have hp : s.plainWrite (R.TSET_ENT_c_s_Wi c x w) v = s.putN (R.TSET_ENT_c_s_Wi c x w) v.toNat := by
    simp only [State.plainWrite, findRow_tsetEnt, writeFields, writeField, fA, inRanges, List.foldl_cons, List.foldl_nil,
      List.isEmpty_nil, Bool.true_or, if_true]
    rw [put_wholeWord, bitsOf_word]
  simp [tsetEntryWrite, h0, hc, ho, hp]

/-- Both commands, written while BUSY is 0. -/
theorem tsetCmd_accepted (op : Fin 16) (tag : Set8) (x : Nat) (s : State) (h : s.get F.TSET_CMD_STATUS_BUSY = 0) :
    ∀ t, t = tsetCmd op tag x s → t.get F.TSET_CMD_STATUS_BUSY = 1 ∧ t.get F.TSET_CMD_STATUS_OP = op ∧ t.get F.TSET_CMD_STATUS_TAG = tag ∧
      RegsBut [R.TSET_CMD_STATUS] s t ∧ t = { s with regs := t.regs, ts := t.ts } := by
  have ho : F.TSET_CMD_STATUS_OP.fits op = true := Fld.fits_of_lt (by decide) op.isLt
  have ht : F.TSET_CMD_STATUS_TAG.fits tag = true := Fld.fits_of_lt (by decide) tag.isLt
  rintro t rfl
  rw [tsetCmd, if_neg (by simp [is_eq, h])]
  simp -implicitDefEqProofs (disch := decide) [State.eq_iff, get_put_same _ _ _ ho, get_put_same _ _ _ ht]
  intro o ho
  simp -implicitDefEqProofs (disch := exact ne_of_unlisted ho (by decide))

/-- Both commands, written while BUSY is 1. -/
theorem tsetCmd_refused (op tag x : Nat) (s : State) (h : s.get F.TSET_CMD_STATUS_BUSY = 1) :
    tsetCmd op tag x s = (s.bump R.TSET_CMD_REFUSED).put F.TSET_EVENT_CMD_REFUSED 1 := by
  simp [tsetCmd, is_eq, h]

/-! ### A commit that passes -/

/-- `t` is `s` but for registers, of which those that satisfy `P` are the same, and the slots of the caches. -/
def SlotStep (P : Nat → Prop) (s t : State) : Prop :=
  (∃ r l, t = { s with regs := r, ts := { s.ts with slots := l } }) ∧ RegsIf P s t

namespace SlotStep
variable {P : Nat → Prop} {r s t : State}

theorem refl : SlotStep P s s := ⟨⟨s.regs, s.ts.slots, rfl⟩, RegsIf.refl⟩

theorem trans_regs (h : SlotStep P r s) (g : RegStep P s t) : SlotStep P r t := by
  obtain ⟨⟨a, l, rfl⟩, hr⟩ := h
  obtain ⟨⟨b, rfl⟩, gr⟩ := g
  exact ⟨⟨b, l, rfl⟩, hr.trans gr⟩

theorem updSlot (h : SlotStep P r s) (k i : Nat) (f : EcSlot → EcSlot) : SlotStep P r (s.updSlot k i f) := by
  obtain ⟨⟨a, l, rfl⟩, hr⟩ := h
  exact ⟨⟨a, _, rfl⟩, hr.of_regs rfl⟩

theorem replaceSlot (h : SlotStep P r s) (k i : Nat) (hP : ¬ P (R.CLU_k_EC_SLOT_i k i)) : SlotStep P r (s.replaceSlot k i) := by
  rw [State.replaceSlot]
  split
  · exact (h.updSlot _ _ _).trans_regs (((RegStep.refl.put hP).put hP).put hP)
  · exact h

theorem stageSlot (h : SlotStep P r s) (x k i : Nat) (hP : ¬ P (R.CLU_k_EC_SLOT_i k i)) : SlotStep P r (s.stageSlot x k i) := by
  rw [State.stageSlot]
  split
  · have hs := fun f => (h.updSlot k i f).trans_regs (RegStep.refl.put (f := F.CLU_k_EC_SLOT_i_STAGED k i) (v := 1) hP)
    dsimp only
    split
    · exact hs _
    · exact (hs _).replaceSlot k i hP
  · exact h

/-- Staging a set in all caches reaches the slots and their registers. -/
theorem stageAll (s : State) (x : Nat) :
    SlotStep (· < 0x1000000) s (s.each (List.range 32) (fun u k => u.each (List.range 32) (fun v i => v.stageSlot x k i))) :=
  State.each_keeps (SlotStep _ s) _ _ s refl fun t k ht => State.each_keeps (SlotStep _ s) _ _ t ht fun u i hu =>
    hu.stageSlot x k i (by simp [R.CLU_k_EC_SLOT_i]; omega)

end SlotStep

/-- `t` is `s` but for registers and the timing sets. -/
def TsStep (s t : State) : Prop := ∃ r l, t = { s with regs := r, ts := l }

theorem TsStep.trans {r s t : State} (h : TsStep r s) (g : TsStep s t) : TsStep r t := by
  obtain ⟨a, b, rfl⟩ := h
  obtain ⟨c, d, rfl⟩ := g
  exact ⟨c, d, rfl⟩

theorem TsStep.eq {s t : State} (h : TsStep s t) : t = { s with regs := t.regs, ts := t.ts } := by
  obtain ⟨a, b, rfl⟩ := h
  rfl

theorem RegStep.ts {P : Nat → Prop} {s t : State} (h : RegStep P s t) : TsStep s t := by
  obtain ⟨⟨r, rfl⟩, -⟩ := h
  exact ⟨r, s.ts, rfl⟩

/-- A set committed: its marks are cleared, its generation moves, and its copies are staged. -/
theorem tsetCommitted_shows (s : State) (x : Set8) : ∀ t, t = s.tsetCommitted x →
    t.get (F.TSET_GEN_s_GEN x) = (s.get (F.TSET_GEN_s_GEN x) + 1) % 2 ^ 16 ∧ t.bit (R.TSET_DIRTY_MAP_w (x / 32)) (x % 32) = false ∧
      t.ts.dirtyEnt = s.ts.dirtyEnt.filter (fun y => y % 256 != x.val) ∧ t.ts.dirtyPer = s.ts.dirtyPer.filter (fun y => y % 256 != x.val) ∧
      RegsIf (· < R.TSET_DIRTY_MAP_w 0) s t ∧ TsStep s t := by
  have hx := x.isLt
  rintro t rfl
  rw [State.tsetCommitted]
  generalize hu : State.wrapInc _ (F.TSET_GEN_s_GEN x) = u
  obtain ⟨⟨r, l, e⟩, hr⟩ := SlotStep.stageAll u x
  have hm : R.TSET_DIRTY_MAP_w (x / 32) ≠ R.TSET_GEN_s x := by simp only [R.TSET_DIRTY_MAP_w, R.TSET_GEN_s]; omega
  have hS : RegStep (· < R.TSET_DIRTY_MAP_w 0) { s with ts := { s.ts with
      dirtyEnt := s.ts.dirtyEnt.filter (fun y => y % 256 != x.val), dirtyPer := s.ts.dirtyPer.filter (fun y => y % 256 != x.val) } } u := by
    rw [← hu]
    refine (RegStep.refl.putBit ?_).put ?_
    · simp only [R.TSET_DIRTY_MAP_w]; omega
    · simp only [R.TSET_DIRTY_MAP_w, F.TSET_GEN_s_GEN, R.TSET_GEN_s]; omega
  refine ⟨?_, ?_, ?_, ?_, ?_, ?_⟩
  · rw [hr.get (by simp only [F.TSET_GEN_s_GEN, R.TSET_GEN_s]; omega), ← hu, State.wrapInc, get_put _ _ _ (by simp [F.TSET_GEN_s_GEN]) (by simp [F.TSET_GEN_s_GEN]), get_putBit_ne _ _ _ _ _ hm.symm]
    rfl
  · rw [hr.bit (by simp only [R.TSET_DIRTY_MAP_w]; omega), ← hu, State.wrapInc, bit_put_ne _ _ _ _ _ hm, bit_putBit _ _ _ _ _ (Nat.mod_lt _ (by decide)), if_pos rfl]
  · rw [e, hS.others]
  · rw [e, hS.others]
  · exact (RegsIf.of_regs (RegsIf.refl) (by rfl)).trans (hS.keeps.trans fun o ho => hr o (by simp only [R.TSET_DIRTY_MAP_w] at ho; omega))
  · rw [e, hS.others]
    exact ⟨_, _, rfl⟩

/-- Completion of a command while BUSY is 1. -/
theorem tsetDone_busy (s : State) (hb : s.get F.TSET_CMD_STATUS_BUSY = 1) : tsetDone s =
    if s.get F.TSET_CMD_STATUS_OP = 1 then
      match tsetCheck s s.ts.cmdSet with
      | some (code, loc) => (((s.put F.TSET_CMD_STATUS_BUSY 0).put F.TSET_EVENT_CMD_DONE 1).put F.TSET_CMD_STATUS_RESULT code).putN R.TSET_ERR_LOC loc
      | none => (((s.put F.TSET_CMD_STATUS_BUSY 0).put F.TSET_EVENT_CMD_DONE 1).put F.TSET_CMD_STATUS_RESULT 0).tsetCommitted s.ts.cmdSet
    else ((s.put F.TSET_CMD_STATUS_BUSY 0).put F.TSET_EVENT_CMD_DONE 1).put F.TSET_CMD_STATUS_RESULT 0 := by
  rw [tsetDone, if_pos (by simp [is_eq, hb])] <;> rfl

/-! ### A load that finds its slot -/

/-- The register of a slot after a clean load of set `x` for site `n`. -/
def slotShown (k n x i : Nat) (s : State) : State :=
  s.putN (R.CLU_k_EC_SLOT_i k i) (2 ^ 31 + n * 2 ^ 22 + s.get (F.TSET_GEN_s_GEN x) % 256 * 2 ^ 8 + x)

/-- The copy of a slot after a load of set `x` for site `n`. -/
def slotLoaded (k n x i : Nat) (s : State) : State :=
  (s.updSlot k i (fun _ => { ents := s.cluEnts k x, per := s.masterPer n x })).touchSlot k i

theorem ecLoadDone_clean (s : State) (k n x i : Nat) (rest : List (Nat × Nat)) (hl : s.loadsOf k = (n, x) :: rest)
    (hp : s.pickSlot k (s.portion k n) = some i) (hd : s.loadDirty k n x = false) :
    ecLoadDone k s = (slotLoaded k n x i (slotShown k n x i (((s.setLoads k rest).bump (R.CLU_k_EC_LOADS k)).when
      (s.is (F.CLU_k_EC_SLOT_i_VALID k i)) (fun u => u.bump (R.CLU_k_EC_EVICT k))))).primeCheck n := by
  rw [ecLoadDone, hl]
  simp only [hp, hd, slotLoaded, slotShown, b2n, State.when, Bool.false_eq_true, if_false, Nat.zero_mul, Nat.add_zero]

theorem loadsOf_setLoads (s : State) (k : Nat) (l : List (Nat × Nat)) : (s.setLoads k l).loadsOf k = l := by
  simp [State.loadsOf, State.setLoads, Tab.get_set]

theorem loadsOf_others (s : State) (r : List (Nat × Word)) (k : Nat) : ({ s with regs := r } : State).loadsOf k = s.loadsOf k := rfl

theorem loadsOf_putN (s : State) (o v k : Nat) : (s.putN o v).loadsOf k = s.loadsOf k := rfl

theorem loadsOf_updSlot (s : State) (m i : Nat) (f : EcSlot → EcSlot) (k : Nat) : (s.updSlot m i f).loadsOf k = s.loadsOf k := rfl

theorem loadsOf_touchSlot (s : State) (m i k : Nat) : (s.touchSlot m i).loadsOf k = s.loadsOf k := rfl

theorem touchSlot_per (s : State) (k i : Nat) : ((s.touchSlot k i).slotOf k i).per = (s.slotOf k i).per := by
  simp [State.touchSlot, State.slotOf, State.updSlot, Tab.get_set]

theorem slotOf_updSlot (s : State) (k i : Nat) (f : EcSlot → EcSlot) : (s.updSlot k i f).slotOf k i = f (s.slotOf k i) := by
  simp [State.slotOf, State.updSlot, Tab.get_set]

/-- The fields of a slot register that is written whole. -/
theorem slotShown_shows (k n x i : Nat) (s : State) (hn : n < 64) (hx : x < 256) : ∀ t, t = slotShown k n x i s → t.get (F.CLU_k_EC_SLOT_i_VALID k i) = 1 ∧ t.get (F.CLU_k_EC_SLOT_i_SET k i) = x ∧ t.get (F.CLU_k_EC_SLOT_i_SITE k i) = n ∧
      t.get (F.CLU_k_EC_SLOT_i_DIRTY_COPY k i) = 0 := by
  rintro t rfl
  simp only [slotShown, F.CLU_k_EC_SLOT_i_VALID, F.CLU_k_EC_SLOT_i_SET, F.CLU_k_EC_SLOT_i_SITE, F.CLU_k_EC_SLOT_i_DIRTY_COPY, State.get, word_putN,
    if_pos, bitsOf, BitVec.toNat_ofNat]
  omega

theorem slotShown_step (k n x i : Nat) (s : State) : RegStep (· < 0x1030100 + 0x40000 * k) s (slotShown k n x i s) :=
  RegStep.refl.putN (by simp only [R.CLU_k_EC_SLOT_i]; omega)

/-- The copy is held under its slot; registers do not change. -/
theorem slotLoaded_shows (k n x i : Nat) (s : State) : ∀ t, t = slotLoaded k n x i s →
    t.loadsOf k = s.loadsOf k ∧ t.regs = s.regs ∧ (t.slotOf k i).per = s.masterPer n x ∧ TsStep s t := by
  rintro t rfl
  exact ⟨rfl, rfl, by rw [slotLoaded, touchSlot_per, slotOf_updSlot], _, _, rfl⟩

/-- A slot register, and the copy under it, when the site has been looked at for priming. -/
theorem primeCheck_slots (s : State) (n k i : Nat) : ∀ t, t = s.primeCheck n →
    (∀ f : Fld, 0x1000000 ≤ f.off → n < 64 → t.get f = s.get f) ∧ (n < 64 → t.num (R.CLU_k_EC_LOADS k) = s.num (R.CLU_k_EC_LOADS k)) ∧
      t.loadsOf k = s.loadsOf k ∧ t.slotOf k i = s.slotOf k i ∧ TsStep s t := by
  have hS : RegStep (· ≠ R.STRM_SITE_n_FLAGS n) s (s.primeCheck n) := RegStep.refl.when fun h => h.put (by simp [F.STRM_SITE_n_FLAGS_PRIMED])
  rintro t rfl
  refine ⟨fun f hf hn => hS.2.get ?_, fun hn => hS.2.num ?_, ?_, ?_, hS.ts⟩
  · simp only [R.STRM_SITE_n_FLAGS]
    omega
  · simp only [R.CLU_k_EC_LOADS, R.STRM_SITE_n_FLAGS]
    omega
  · rw [hS.others]
    rfl
  · rw [hS.others]
    rfl

/-- Settles O12: acceptance by BUSY, the check before the commit, and the slot that a load finds. -/
theorem timingSetCommands : Obligations.TimingSetCommands := by
  refine ⟨?_, ?_, ?_, ?_, ?_, ?_, ?_, ?_, ?_, ?_⟩
  · intro s c x w v h0 hc
    have hx := x.isLt
    have hne : R.TSET_ENT_c_s_Wi c x w ≠ R.TSET_DIRTY_MAP_w (x / 32) := by simp only [R.TSET_ENT_c_s_Wi, R.TSET_DIRTY_MAP_w]; omega
    refine completes_of_eq rfl (tsetEntryWrite_offset c x w v s h0 hc) ⟨?_, ?_, ?_, ?_, ?_⟩
    · rw [State.markEnt, word_putBit_ne _ _ _ _ _ hne]
      exact (word_putN _ _ _).trans (by simp)
    · simp only [State.markEnt, putBit_ts, addOnce]
      split <;> simp_all
    · rw [State.markEnt, bit_putBit _ _ _ _ _ (Nat.mod_lt _ (by decide)), if_pos rfl]
    · rw [State.markEnt, regsBut_iff]
      exact ((RegsIf.refl.putN (by simp)).of_regs rfl).putBit (by simp)
    · simp -implicitDefEqProofs [State.markEnt, State.eq_iff]
  · intro s c x w v h0 hc
    simp [exec, execTsetEntryWrite, tsetEntryWrite, h0, hc, State.tsetWpDrop]
  · exact fun s tag h => ⟨_, rfl, tsetCmd_accepted 0 tag 0 s h _ rfl⟩
  · exact fun s tag h => congrArg _ (tsetCmd_refused 0 tag 0 s h)
  · exact fun s tag x h => ⟨_, rfl, tsetCmd_accepted 1 tag x s h _ rfl⟩
  · exact fun s tag x h => congrArg _ (tsetCmd_refused 1 tag x s h)
  · intro s hb ho
    refine ⟨_, rfl, ?_⟩
    simp -implicitDefEqProofs (disch := decide) [tsetDone, is_eq, hb, ho, State.eq_iff]
    intro o ho
    simp (disch := exact ne_of_unlisted ho (by decide))
  · intro s code loc hb ho hk
    refine ⟨_, rfl, ?_⟩
    have hS : RegStep (· ∉ [R.TSET_CMD_STATUS, R.TSET_EVENT, R.TSET_ERR_LOC]) s ((((s.put F.TSET_CMD_STATUS_BUSY 0).put
        F.TSET_EVENT_CMD_DONE 1).put F.TSET_CMD_STATUS_RESULT code).putN R.TSET_ERR_LOC loc) :=
      (((RegStep.refl.put (by decide)).put (by decide)).put (by decide)).putN (by decide)
    simp only [tsetDone, is_eq, hb, ho, hk, if_true, bne_iff_ne, ne_eq, one_ne_zero, not_false_eq_true]
    refine ⟨?_, ?_, ?_, ?_, hS.2, hS.others⟩
    · simp (disch := decide)
    · rw [get_putN_apart _ _ _ _ (by decide), get_put _ _ _ (by decide) (by decide)]
      rfl
    · simp
    · simp (disch := decide)
  · intro s x hb ho hx hk
    obtain ⟨hg, hm, he, hp, hr, hs⟩ := tsetCommitted_shows (((s.put F.TSET_CMD_STATUS_BUSY 0).put F.TSET_EVENT_CMD_DONE 1).put F.TSET_CMD_STATUS_RESULT 0) x _ rfl
    have hrun := tsetDone_busy s hb
    rw [if_pos ho, hx, hk] at hrun
    refine completes_of_eq rfl hrun ?_
    rw [hr.get (by decide), hr.get (by decide), hg]
    refine ⟨?_, ?_, ?_, hm, ?_, ?_⟩
    · simp (disch := decide)
    · simp (disch := decide)
    · simp (disch := (apply all_fin x; decide +kernel))
    · intro e hex
      rw [he, hp]
      simp -implicitDefEqProofs [hex]
    · exact ((((RegStep.refl.put (P := fun _ => False) id).put id).put id).ts.trans hs).eq
  · intro s k n x i rest hn hx hl hp hd
    refine completes_of_eq rfl (ecLoadDone_clean s k n x i rest hl hp hd) ?_
    generalize hu : State.when _ _ _ = u
    have hS : RegStep (· ∉ [R.CLU_k_EC_EVICT k]) ((s.setLoads k rest).bump (R.CLU_k_EC_LOADS k)) u := by
      rw [← hu]
      exact RegStep.refl.when fun h => h.bump (by simp)
    have hB : RegStep (· ∉ [R.CLU_k_EC_LOADS k, R.CLU_k_EC_EVICT k]) (s.setLoads k rest) u :=
      (RegStep.refl.bump (by simp)).trans (hS.weaken (by simp))
    have hw := slotShown_step k n x i u
    obtain ⟨hv, hset, hsite, hdc⟩ := slotShown_shows k n x i u hn hx _ rfl
    obtain ⟨hls, hzr, hper, hzs⟩ := slotLoaded_shows k n x i (slotShown k n x i u) _ rfl
    obtain ⟨hget, hnum, hl2, hsl, hp2⟩ := primeCheck_slots (slotLoaded k n x i (slotShown k n x i u)) n k i _ rfl
    have hslot : 0x1000000 ≤ R.CLU_k_EC_SLOT_i k i := by simp only [R.CLU_k_EC_SLOT_i]; omega
    refine ⟨?_, ?_, ?_, ?_, ?_, ?_, ?_, ?_⟩
    · rw [hl2, hls, hw.others, loadsOf_others, hB.others]
      exact loadsOf_setLoads s k rest
    · rw [hnum hn, State.num, State.word, hzr]
      refine (hw.2.num (by simp only [R.CLU_k_EC_LOADS]; omega)).trans ?_
      rw [hS.2.num (by simp [R.CLU_k_EC_LOADS, R.CLU_k_EC_EVICT]), num_bump_same]
      rfl
    · rw [hget _ hslot hn, get_congr hzr, hv]
    · rw [hget _ hslot hn, get_congr hzr, hset]
    · rw [hget _ hslot hn, get_congr hzr, hsite]
    · rw [hget _ hslot hn, get_congr hzr, hdc]
    · rw [hsl, hper, State.masterPer, State.pair, hw.2.num, hw.2.num, hB.2.num, hB.2.num]
      · rfl
      all_goals
        simp [R.CLU_k_EC_LOADS, R.CLU_k_EC_EVICT, R.TSET_PER_n_s_LO]
        omega
    · exact (TsStep.trans ⟨_, _, rfl⟩ (hB.ts.trans (hw.ts.trans (hzs.trans hp2)))).eq

end Sys2Proof.Machine
end

section
-- One proof at a time: the whole text then stays within the memory the check allows.
set_option Elab.async false
/-! PROOFS. O13, O14, O15, O16: instructions in run-ahead. -/

namespace Sys2Proof.Machine
open State

/-! ### Contexts, paths and engines -/

@[simp] theorem seqOf_updSeq (s : State) (n : Nat) (f : SeqCtx → SeqCtx) : (s.updSeq n f).seqOf n = f (s.seqOf n) := by
  simp [State.seqOf, State.updSeq, Tab.get_set]

@[simp] theorem engOf_updEng (s : State) (e : Nat) (f : Engine → Engine) : (s.updEng e f).engOf e = f (s.engOf e) := by
  simp [State.engOf, State.updEng, Tab.get_set]

theorem engOf_congr {s t : State} (h : t.eng = s.eng) (e : Nat) : t.engOf e = s.engOf e := by
  rw [State.engOf, h, State.engOf]

theorem seqOf_congr {s t : State} (h : t.seq = s.seq) (n : Nat) : t.seqOf n = s.seqOf n := by
  rw [State.seqOf, h, State.seqOf]

theorem pathOf_setPath {c : SeqCtx} {p : Option Nat} {y : Path} (h : pathOf c p = some y) (x : Path) : pathOf (setPath c p x) p = some x := by
  cases p with
  | none => rfl
  | some i =>
    simp only [pathOf, setPath, Option.map_eq_some_iff] at h ⊢
    obtain ⟨q, hq, -⟩ := h
    exact ⟨{ q with path := x }, by rw [List.getElem?_modify_eq, hq]; rfl, rfl⟩

/-- What a path other than the fall-through one leaves alone. -/
theorem setPath_some (c : SeqCtx) (i : Nat) (x : Path) : (setPath c (some i) x).main = c.main := rfl

theorem any_key_setPath (c : SeqCtx) (p : Option Nat) (x : Path) (k : PfKey) :
    (setPath c p x).pfs.any (fun q => q.key == k) = c.pfs.any (fun q => q.key == k) := by
  cases p with
  | none => rfl
  | some i =>
    have hm : ∀ l : List Prefetch, ∀ i, (l.modify i (fun q => { q with path := x })).any (fun q => q.key == k) = l.any (fun q => q.key == k) := by
      intro l
      induction l with
      | nil => exact fun i => by simp
      | cons a l ih =>
        intro i
        cases i with
        | zero => simp
        | succ i => simp [ih]
    exact hm c.pfs i

/-! ### How a path is left -/

theorem requestSet_same (s : State) (n m : Nat) : ∃ r, s.requestSet n m = { s with ts := r } :=
  State.each_keeps (fun t => ∃ r, t = { s with ts := r }) _ _ s ⟨s.ts, rfl⟩ fun t k ht => by
    obtain ⟨r, rfl⟩ := ht
    split
    · exact ⟨r, rfl⟩
    · exact ⟨_, rfl⟩

/-- The state in which a path is put back: it may have asked for a set. -/
theorem leave_eq (s : State) (n : Nat) (p : Option Nat) (x : Path) : ∃ r, s.leave n p x =
    ((({ s with ts := r } : State).putPath n p { x with stop := s.nextStop n p x }).seqShow n).primeCheck n := by
  have h : ∀ c : Bool, ∃ r, (((s.when c (fun t => t.requestSet n x.lastTset)).putPath n p
      { x with stop := (s.when c (fun t => t.requestSet n x.lastTset)).nextStop n p x }).seqShow n).primeCheck n =
      ((({ s with ts := r } : State).putPath n p { x with stop := s.nextStop n p x }).seqShow n).primeCheck n := by
    intro c
    cases c with
    | false => exact ⟨s.ts, rfl⟩
    | true =>
      obtain ⟨r, hr⟩ := requestSet_same s n x.lastTset
      refine ⟨r, ?_⟩
      rw [State.when, if_pos rfl, hr]
      rfl
  exact h _

/-- Showing a path and looking for readiness changes registers only. -/
theorem shown_step (s : State) (n : Nat) : RegStep (fun _ => False) s ((s.seqShow n).primeCheck n) := by
  have h : RegStep (fun _ => False) s (s.seqShow n) := ((RegStep.refl.putN id).putN id).putN id
  exact h.when fun g => g.put id

theorem shown_others (s : State) (n : Nat) : ∃ r, (s.seqShow n).primeCheck n = { s with regs := r } := ⟨_, (shown_step s n).others⟩

theorem leave_seqOf (s : State) (n : Nat) (p : Option Nat) (x : Path) :
    (s.leave n p x).seqOf n = setPath (s.seqOf n) p { x with stop := s.nextStop n p x } := by
  obtain ⟨r, h⟩ := leave_eq s n p x
  obtain ⟨q, g⟩ := shown_others (({ s with ts := r } : State).putPath n p { x with stop := s.nextStop n p x }) n
  rw [h, g]
  exact seqOf_updSeq ({ s with ts := r } : State) n (fun c => setPath c p { x with stop := s.nextStop n p x })

theorem leave_eng (s : State) (n : Nat) (p : Option Nat) (x : Path) : (s.leave n p x).eng = s.eng := by
  obtain ⟨r, h⟩ := leave_eq s n p x
  obtain ⟨q, g⟩ := shown_others (({ s with ts := r } : State).putPath n p { x with stop := s.nextStop n p x }) n
  rw [h, g]
  rfl

theorem leave_mem (s : State) (n : Nat) (p : Option Nat) (x : Path) : (s.leave n p x).mem = s.mem := by
  rw [(seqOnly_leave s n p x).1]

theorem leave_path {s : State} {n : Nat} {p : Option Nat} {y : Path} (h : s.path n p = some y) (x : Path) :
    (s.leave n p x).path n p = some { x with stop := s.nextStop n p x } := by
  rw [State.path, leave_seqOf]
  exact pathOf_setPath h _

/-- A path that an instruction stopped stays stopped for that reason. -/
theorem nextStop_of_ne {s : State} {n : Nat} {p : Option Nat} {x : Path} (h : x.stop ≠ .none) : s.nextStop n p x = x.stop := by
  rw [State.nextStop]
  split
  · next e => exact absurd e h
  · rfl

theorem leave_path_stopped {s : State} {n : Nat} {p : Option Nat} {y : Path} (h : s.path n p = some y) (x : Path) (hx : x.stop ≠ .none) :
    (s.leave n p x).path n p = some x := by
  rw [leave_path h, nextStop_of_ne hx]

theorem leave_path_core {s : State} {n : Nat} {p : Option Nat} {y : Path} (h : s.path n p = some y) (x : Path) :
    ((s.leave n p x).path n p).map Path.core = some x.core := by
  rw [leave_path h]
  rfl

/-! ### How an instruction begins -/

/-- What an instruction of word `w` changes before its own effect. -/
def started (s : State) (n w : Nat) : State := (s.charge n (cyclesOf w)).updSeq n (fun c => { c with ser := c.ser + 1 })

theorem started_seqOnly (s : State) (n w : Nat) : SeqOnly n s (started s n w) := seqOnly_started s n _

theorem started_seqOf (s : State) (n w : Nat) : (started s n w).seqOf n = { s.seqOf n with ser := (s.seqOf n).ser + 1 } := by
  rw [started, seqOf_updSeq]
  rfl

theorem started_path {s : State} {n : Nat} {p : Option Nat} {x : Path} (h : s.path n p = some x) (w : Nat) :
    (started s n w).path n p = some x := by
  rw [State.path, started_seqOf, ← h]
  cases p <;> rfl

theorem started_slice (s : State) (n w : Nat) : ((started s n w).engOf (n % 16)).slice = (s.engOf (n % 16)).slice + cyclesOf w := by
  have h : (started s n w).engOf (n % 16) = (s.charge n (cyclesOf w)).engOf (n % 16) := rfl
  rw [h, State.charge, engOf_updEng]

theorem started_setBlocked (s : State) (n w t : Nat) : (started s n w).setBlocked n t = s.setBlocked n t := by
  have h : (started s n w).playOf n = s.playOf n := by rw [State.playOf, started_seqOf, State.playOf]
  have h' : (started s n w).coming n = s.coming n := by rw [State.coming, started_seqOf, State.coming]
  rw [State.setBlocked, h, h']
  rfl

theorem started_logMark (s : State) (n w : Nat) : (started s n w).logMark = s.logMark := rfl

theorem started_ctxHolds (s : State) (n w id : Nat) : (started s n w).ctxHolds n id = s.ctxHolds n id := by
  rw [State.ctxHolds, started_seqOf, State.ctxHolds]
  rfl

theorem started_ctxHeld (s : State) (n w : Nat) : (started s n w).ctxHeld n = s.ctxHeld n := by
  rw [State.ctxHeld, started_seqOf, State.ctxHeld]
  rfl

theorem canRun_stop {s : State} {n : Nat} {x : Path} (h : s.canRun n x = true) : x.stop = .none := by
  simp only [State.canRun, Path.active, Bool.and_eq_true, beq_iff_eq] at h
  exact h.2

/-- An instruction that stands at a path and has no fault runs on the state in which it started. -/
theorem seqInstr_issues {s : State} {n : Nat} {p : Option Nat} {x : Path} {w : Nat} (h : s.issues n p x w) {ok : Nat → Bool} (ho : ok w = true)
    (run : Nat → Option Nat → Path → Nat → State → State) :
    seqInstr ok run n p false s = run n p (s.numbered n x) w (started s n w) := by
  obtain ⟨hx, hr, hw, hd, hf⟩ := h
  exact seqInstr_run ok run n p s x { word := w } hx hw hr (by simp [IWord.undef, hd]) ho hf

/-! ### Instructions that only play -/

theorem runEff_shows {s : State} {n : Nat} {p : Option Nat} {x : Path} {w : Nat} (h : s.issues n p x w) {ok : Nat → Bool} (ho : ok w = true)
    (f : Nat → Eff) : ∀ t, t = seqInstr ok (runEff f) n p false s →
    (t.path n p).map Path.core = some { (s.numbered n x).push (.eff (f w)) with idx := x.idx + 1 } ∧
      (t.engOf (n % 16)).slice = (s.engOf (n % 16)).slice + cyclesOf w ∧ SeqOnly n s t := by
  rintro t rfl
  have hs := canRun_stop h.2.1
  rw [seqInstr_issues h ho, runEff]
  refine ⟨?_, ?_, (started_seqOnly s n w).trans (seqOnly_leave _ n p _)⟩
  · rw [leave_path_core (started_path h.1 w)]
    simp only [Path.core, Path.push, State.numbered, hs]
  · rw [engOf_congr (leave_eng _ n p _), started_slice]

/-- Settles O13: each is one play entry, put at the end of its path. -/
theorem instructionsThatOnlyPlay : Obligations.InstructionsThatOnlyPlay := by
  refine ⟨?_, ?_, ?_, ?_, ?_, ?_, ?_, ?_, ?_, ?_, ?_⟩ <;>
    exact fun s n p x w h ho => ⟨_, rfl, runEff_shows h ho _ _ rfl⟩

end Sys2Proof.Machine
end

section
-- One proof at a time: the whole text then stays within the memory the check allows.
set_option Elab.async false
/-! PROOFS. O14: instructions that move the cursor, and loops. -/

namespace Sys2Proof.Machine
open State

theorem core_of_stop {x : Path} (h : x.stop = .none) : x.core = x := by
  cases x
  simp_all [Path.core]

@[simp] theorem push_stop (x : Path) (b : ItemBody) : (x.push b).stop = x.stop := rfl

@[simp] theorem push_ent (x : Path) (b : ItemBody) : (x.push b).ent = x.ent := rfl

@[simp] theorem push_idx (x : Path) (b : ItemBody) : (x.push b).idx = x.idx := rfl

@[simp] theorem push_cursor (x : Path) (b : ItemBody) : (x.push b).cursor = x.cursor := rfl

@[simp] theorem push_loops (x : Path) (b : ItemBody) : (x.push b).loops = x.loops := rfl

@[simp] theorem push_calls (x : Path) (b : ItemBody) : (x.push b).calls = x.calls := rfl

@[simp] theorem grow_stop (x : Path) (k per : Nat) : (x.grow k per).stop = x.stop := rfl

@[simp] theorem pad_stop (x : Path) (per : Nat) : (x.pad per).stop = x.stop := by
  rw [Path.pad]
  split <;> rfl

@[simp] theorem pad_ent (x : Path) (per : Nat) : (x.pad per).ent = x.ent := by
  rw [Path.pad]
  split <;> rfl

@[simp] theorem pad_idx (x : Path) (per : Nat) : (x.pad per).idx = x.idx := by
  rw [Path.pad]
  split <;> rfl

@[simp] theorem pad_cursor (x : Path) (per : Nat) : (x.pad per).cursor = x.cursor := by
  rw [Path.pad]
  split <;> rfl

@[simp] theorem pad_loops (x : Path) (per : Nat) : (x.pad per).loops = x.loops := by
  rw [Path.pad]
  split <;> rfl

@[simp] theorem pad_calls (x : Path) (per : Nat) : (x.pad per).calls = x.calls := by
  rw [Path.pad]
  split <;> rfl

@[simp] theorem pad_tset (x : Path) (per : Nat) : (x.pad per).tset = x.tset := by
  rw [Path.pad]
  split <;> rfl

@[simp] theorem foldl_push_stop (l : List Nat) (x : Path) (b : ItemBody) : (l.foldl (fun y _ => y.push b) x).stop = x.stop := by
  induction l generalizing x with
  | nil => rfl
  | cons a l ih => exact ih (x.push b)

/-- What a path loses in a change of one context and its engine, in the words of the statements. -/
theorem SeqOnly.ctx {n : Nat} {s t : State} (h : SeqOnly n s t) :
    t = { s with regs := t.regs, seq := t.seq, eng := t.eng, ts := t.ts } ∧ (∀ m, m ≠ n → t.seqOf m = s.seqOf m) := by
  obtain ⟨h1, h2, -, -⟩ := h
  refine ⟨h1.trans ?_, h2⟩
  rw [show t.ts = { s.ts with loads := t.ts.loads } from congrArg State.ts h1]

theorem requestSet_path (s : State) (n m k : Nat) (p : Option Nat) : (s.requestSet n m).path k p = s.path k p := by
  obtain ⟨r, h⟩ := requestSet_same s n m
  rw [h]
  rfl

theorem requestSet_eng (s : State) (n m : Nat) : (s.requestSet n m).eng = s.eng := by
  obtain ⟨r, h⟩ := requestSet_same s n m
  rw [h]

/-- Granules that no locked cache keeps back are resolved. -/
theorem resolve_shows {s : State} {n : Nat} {p : Option Nat} {y x : Path} (h : s.path n p = some y) (hb : s.setBlocked n x.tset = false) (f : Path → Path) :
    ∀ t, t = s.resolve n p x f → (t.path n p).map Path.core = some (f x).core ∧ t.eng = s.eng ∧ SeqOnly n s t := by
  rintro t rfl
  rw [State.resolve, hb]
  refine ⟨leave_path_core ((requestSet_path s n _ n p).trans h) _, (leave_eng _ n p _).trans (requestSet_eng s n _),
    (seqOnly_requestSet s n _).trans (seqOnly_leave _ n p _)⟩

/-- A parity error of the control store halts the site where the instruction stands. -/
theorem seqInstr_parity {ok : Nat → Bool} {run : Nat → Option Nat → Path → Nat → State → State} {s : State} {n : Nat} {p : Option Nat} {x : Path} {w : IWord}
    (hx : s.path n p = some x) (hw : x.wordAt = some w) (hr : s.canRun n x = true) (hu : w.undef = false) (ho : ok w.word = true) :
    seqInstr ok run n p true s =
      (((started s n w.word).bump R.SEQ_UCS_PARITY).put F.SEQ_EVENT_UCS_PARITY 1).seqFault n p (s.numbered n x) hcIllegal false := by
  have hx' : pathOf (s.seqOf n) p = some x := hx
  simp only [seqInstr, hx', hw, hr, hu, ho, Bool.not_false, Bool.and_self, if_true]
  rfl

theorem started_mem (s : State) (n w : Nat) : (started s n w).mem = s.mem := rfl

theorem started_pathPer (s : State) (n w : Nat) (x : Path) : (started s n w).pathPer n (s.numbered n x) = s.pathPer n x := rfl

theorem started_pathPer_pad (s : State) (n w : Nat) (x : Path) (k : Nat) :
    (started s n w).pathPer n ((s.numbered n x).pad k) = s.pathPer n x := by
  rw [State.pathPer, pad_tset]
  rfl

/-- The period of a site is read from the caches and the tables of chapter 06 only. -/
theorem sitePer_regs {s t : State} (h : RegStep (0x600000 ≤ ·) s t) (n k : Nat) : t.sitePer n k = s.sitePer n k := by
  have hm : t.masterPer n k = s.masterPer n k := by
    rw [State.masterPer, State.pair, h.2.num, h.2.num]
    · rfl
    · simp only [R.TSET_PER_n_s_LO]; omega
    · simp only [R.TSET_PER_n_s_LO]; omega
  have hc : ∀ c, t.cluPer c n k = s.cluPer c n k := fun c => by
    have hf : t.ecFind c n k = s.ecFind c n k := by
      have hg : ∀ i, 0x600000 ≤ R.CLU_k_EC_SLOT_i c i := fun i => by simp only [R.CLU_k_EC_SLOT_i]; omega
      simp only [State.ecFind, is_eq, h.2.get (f := F.CLU_k_EC_SLOT_i_VALID c _) (hg _), h.2.get (f := F.CLU_k_EC_SLOT_i_SITE c _) (hg _),
        h.2.get (f := F.CLU_k_EC_SLOT_i_SET c _) (hg _)]
    have hs : t.slotOf c = s.slotOf c := by
      rw [h.others]
      rfl
    rw [State.cluPer, State.slotFor, hf, hm, hs]
    rfl
  have ht : t.timeClu n = s.timeClu n := by
    rw [h.others]
    rfl
  rw [State.sitePer, ht, hc, State.sitePer]

theorem started_pathPer_shown (s : State) (n w : Nat) (x : Path) :
    (((started s n w).bump R.SEQ_UCS_PARITY).put F.SEQ_EVENT_UCS_PARITY 1).pathPer n (s.numbered n x) = s.pathPer n x :=
  sitePer_regs ((RegStep.refl.bump (by decide)).put (by decide)) n x.tset

theorem started_num (s : State) (n w o : Nat) : (started s n w).num o = s.num o := rfl

section
variable {s : State} {n : Nat} {p : Option Nat} {x : Path} {w : Nat}

/-- An instruction whose effect is to leave its path as `y`, which goes on. -/
theorem left_goesOn (h : s.issues n p x w) {y : Path} (hy : y.stop = .none) {t : State} (ht : t = (started s n w).leave n p y) :
    (t.path n p).map Path.core = some y ∧ SeqOnly n s t := by
  subst ht
  exact ⟨by rw [leave_path_core (started_path h.1 w), core_of_stop hy], (started_seqOnly s n w).trans (seqOnly_leave _ n p _)⟩

/-- An instruction whose effect is to leave its path as `y`, which stops. -/
theorem left_stops (h : s.issues n p x w) {y : Path} (hy : y.stop ≠ .none) {t : State} (ht : t = (started s n w).leave n p y) :
    t.path n p = some y ∧ SeqOnly n s t := by
  subst ht
  exact ⟨leave_path_stopped (started_path h.1 w) _ hy, (started_seqOnly s n w).trans (seqOnly_leave _ n p _)⟩

/-- An instruction whose effect is to resolve granules. -/
theorem resolved_shows (h : s.issues n p x w) (hb : s.setBlocked n x.tset = false) {f : Path → Path} (hf : (f (s.numbered n x)).stop = .none)
    {t : State} (ht : t = (started s n w).resolve n p (s.numbered n x) f) :
    (t.path n p).map Path.core = some (f (s.numbered n x)) ∧ (t.engOf (n % 16)).slice = (s.engOf (n % 16)).slice + cyclesOf w ∧ SeqOnly n s t := by
  obtain ⟨hp, he, hs⟩ := resolve_shows (started_path h.1 w) (x := s.numbered n x) ((started_setBlocked s n w _).trans hb) f t ht
  exact ⟨by rw [hp, core_of_stop hf], by rw [engOf_congr he, started_slice], (started_seqOnly s n w).trans hs⟩

theorem runVec_resolves (h : s.issues n p x w) (ho : isOp opVec w = true) {g : Nat} (hg : 0 < g)
    (hreq : g = (if wf w 31 0 = 0 then x.ent.len - x.cursor else wf w 31 0)) (hlen : x.cursor + g ≤ x.ent.len) :
    seqInstr (isOp opVec) runVec n p false s = (started s n w).resolve n p (s.numbered n x)
      (fun _ => { (((s.numbered n x).push (.run x.strm x.cursor g x.ent)).grow g (s.pathPer n x)) with cursor := x.cursor + g, idx := x.idx + 1 }) := by
  have hk : min g (x.ent.len - x.cursor) = g := by omega
  rw [seqInstr_issues h ho, runVec]
  simp only [State.numbered, ← hreq, hk, Nat.lt_irrefl, if_false, hg.ne']
  rfl

theorem runRpt_resolves (h : s.issues n p x w) (ho : isOp opRpt w = true) (hg : 0 < wf w 15 0) (hlen : x.cursor + wf w 15 0 ≤ x.ent.len) :
    seqInstr (isOp opRpt) runRpt n p false s = (started s n w).resolve n p (s.numbered n x)
      (fun _ => { (((List.range (wf w 39 16)).foldl (fun (y : Path) _ => y.push (.run x.strm x.cursor (wf w 15 0) x.ent)) (s.numbered n x)).grow
        (wf w 39 16 * wf w 15 0) (s.pathPer n x)) with cursor := x.cursor + wf w 15 0, idx := x.idx + 1 }) := by
  have hk : min (wf w 15 0) (x.ent.len - x.cursor) = wf w 15 0 := by omega
  have hm : max x.cursor (min (x.cursor + wf w 15 0) x.ent.len) = x.cursor + wf w 15 0 := by omega
  rw [seqInstr_issues h ho, runRpt]
  simp only [State.numbered, hk, Nat.lt_irrefl, if_false, hg.ne', hm]
  rfl

/-- A parity error counts, is shown, and halts the site where the instruction stands. -/
theorem parity_shows (h : s.issues n p x w) (hn : n < 64) {ok : Nat → Bool} (ho : ok w = true) (run : Nat → Option Nat → Path → Nat → State → State) :
    ∀ t, t = seqInstr ok run n p true s →
      t.path n p = some { ((s.numbered n x).pad (s.pathPer n x)).push (.eff (.fault hcIllegal false)) with stop := .done } ∧
      t.num R.SEQ_UCS_PARITY = min satMax (s.num R.SEQ_UCS_PARITY + 1) ∧ t.get F.SEQ_EVENT_UCS_PARITY = 1 ∧ t.mem = s.mem := by
  have hp := started_path h.1 w
  obtain ⟨hx, hr, hw, hd, hf⟩ := h
  rintro t rfl
  rw [seqInstr_parity (p := p) hx hw hr (by simp [IWord.undef, hd]) ho]
  generalize hu : ((started s n w).bump R.SEQ_UCS_PARITY).put F.SEQ_EVENT_UCS_PARITY 1 = u
  have hpu : u.path n p = some x := by rw [State.path, seqOf_congr (t := u) (s := started s n w) (by rw [← hu, put_seq, bump_seq])]; exact hp
  have hper : u.pathPer n (s.numbered n x) = s.pathPer n x := by rw [← hu]; exact started_pathPer_shown s n w x
  obtain ⟨-, -, -, hR⟩ := seqOnly_seqFault u n p (s.numbered n x) hcIllegal false
  refine ⟨?_, ?_, ?_, ?_⟩
  · rw [State.seqFault, leave_path_stopped hpu _ (by simp), hper]
  · rw [RegsIf.num (regsBut_iff.1 hR) (by simp [R.SEQ_UCS_PARITY, R.SEQ_CTX_n_PC_DRW, R.SEQ_CTX_n_PC_IDX, R.SEQ_CTX_n_CURSOR, R.STRM_SITE_n_FLAGS]; omega)]
    rw [← hu, num_put_apart _ _ _ _ (by decide), num_bump_same, started_num]
  · rw [RegsIf.get (regsBut_iff.1 hR) (by simp [F.SEQ_EVENT_UCS_PARITY, R.SEQ_EVENT, R.SEQ_CTX_n_PC_DRW, R.SEQ_CTX_n_PC_IDX, R.SEQ_CTX_n_CURSOR, R.STRM_SITE_n_FLAGS]; omega)]
    rw [← hu, get_put_same _ _ _ (by decide)]
  · rw [State.seqFault, leave_mem, ← hu, put_mem, bump_mem, started_mem]

/-- LOOP with room in the stack opens an entry. -/
theorem runLoop_opens (h : s.issues n none x w) (ho : isOp opLoop w = true) (hl : x.loops.length < 8) :
    seqInstr (isOp opLoop) runLoop n none false s = (started s n w).leave n none
      { ((s.numbered n x).pad (s.pathPer n x)).push (.eff .step) with
        loops := { count := wf w 31 0, drw := x.ent.id, idx := x.idx + 1, cursor := x.cursor, rewind := wf w 55 55 == 1 } :: x.loops, idx := x.idx + 1 } := by
  rw [seqInstr_issues h ho, runLoop]
  have hl' : ¬ 8 ≤ (s.numbered n x).loops.length := Nat.not_le.2 hl
  simp only [pad_loops, Option.isNone_none, Option.isSome_none, Bool.true_and, hl', decide_false, Bool.false_eq_true, if_false, push_ent, push_idx, push_cursor, push_loops,
    pad_ent, pad_idx, pad_cursor, started_pathPer]
  rfl

/-- LOOP with a full stack halts the site. -/
theorem runLoop_tooDeep (h : s.issues n none x w) (ho : isOp opLoop w = true) (hl : 8 ≤ x.loops.length) :
    seqInstr (isOp opLoop) runLoop n none false s = (started s n w).leave n none
      { (((s.numbered n x).pad (s.pathPer n x)).pad (s.pathPer n x)).push (.eff (.fault hcLoopNest false)) with stop := .done } := by
  rw [seqInstr_issues h ho, runLoop]
  have hl' : 8 ≤ (s.numbered n x).loops.length := hl
  simp only [pad_loops, Option.isNone_none, Bool.true_and, hl', decide_true, if_true, State.seqFault, started_pathPer, started_pathPer_pad]

/-- ENDL of the last iteration closes the loop. -/
theorem runEndl_closes {top : LoopEnt} {rest : List LoopEnt} (h : s.issues n p x w) (ho : isOp opEndl w = true) (hl : x.loops = top :: rest)
    (hc : top.count = 1) : seqInstr (isOp opEndl) runEndl n p false s = (started s n w).leave n p
      { ((s.numbered n x).pad (s.pathPer n x)).push (.eff .step) with loops := rest, idx := x.idx + 1 } := by
  have hl' : (s.numbered n x).loops = top :: rest := hl
  rw [seqInstr_issues h ho, runEndl]
  simp only [hl', hc, if_true, push_idx, pad_idx, started_pathPer]
  rfl

/-- ENDL before the last iteration goes back inside the drawer. -/
theorem runEndl_loops {top : LoopEnt} {rest : List LoopEnt} (h : s.issues n p x w) (ho : isOp opEndl w = true) (hl : x.loops = top :: rest)
    (hc : top.count ≠ 1) (hd : top.drw = x.ent.id) : seqInstr (isOp opEndl) runEndl n p false s = (started s n w).leave n p
      { ((s.numbered n x).pad (s.pathPer n x)).push (.eff .step) with
        loops := { top with count := top.count - 1 } :: rest, idx := top.idx, cursor := (if top.rewind then top.cursor else x.cursor) } := by
  have hl' : (s.numbered n x).loops = top :: rest := hl
  have he : (s.numbered n x).ent.id = top.drw := hd.symm
  rw [seqInstr_issues h ho, runEndl]
  simp only [hl', hc, if_false, State.goBack, push_ent, pad_ent, push_cursor, pad_cursor, started_pathPer, he, if_true, ne_eq, not_true, or_false]
  rfl

/-- ENDL with no open loop is counted in play. -/
theorem runEndl_empty (h : s.issues n none x w) (ho : isOp opEndl w = true) (hl : x.loops = []) :
    seqInstr (isOp opEndl) runEndl n none false s = (started s n w).leave n none
      { ((s.numbered n x).pad (s.pathPer n x)).push (.eff .endlEmpty) with idx := x.idx + 1 } := by
  have hl' : (s.numbered n x).loops = [] := hl
  rw [seqInstr_issues h ho, runEndl]
  simp only [hl', Option.isSome_none, Bool.false_eq_true, if_false, pad_idx, started_pathPer]
  rfl

end

/-- Settles O14: each leaves its path with what it resolved, and moves its place. -/
theorem instructionsThatMoveTheCursor : Obligations.InstructionsThatMoveTheCursor := by
  refine ⟨?_, ?_, ?_, ?_, ?_, ?_, ?_, ?_, ?_, ?_⟩
  · intro s n p x w g h ho hb hg hreq hlen
    have hcyc : cyclesOf w = 4 := by rw [isOp, beq_iff_eq] at ho; simp [cyclesOf, ho]
    obtain ⟨hp, he, hs⟩ := resolved_shows h hb (by exact canRun_stop h.2.1) (runVec_resolves h ho hg hreq hlen)
    exact ⟨_, rfl, hp, hcyc ▸ he, hs.ctx⟩
  · exact fun s n p x w h ho => ⟨_, rfl, parity_shows h n.isLt ho _ _ rfl⟩
  · intro s n p x w h ho hb hg hlen
    have hcyc : cyclesOf w = 4 + wf w 39 16 := by rw [isOp, beq_iff_eq] at ho; simp [cyclesOf, ho, opRpt, opVec]
    obtain ⟨hp, he, hs⟩ := resolved_shows h hb (by simp [State.numbered, canRun_stop h.2.1]) (runRpt_resolves h ho hg hlen)
    exact ⟨_, rfl, hp, he.trans (by rw [hcyc, Nat.add_assoc]), hs.ctx⟩
  · intro s n p x w h ho hb
    obtain ⟨hp, -, hs⟩ := resolved_shows h hb (by simp [State.numbered, canRun_stop h.2.1]) (seqInstr_issues h ho runKeep)
    exact ⟨_, rfl, hp, hs.ctx⟩
  · exact fun s n p x w h ho => ⟨_, rfl, left_goesOn h (by exact canRun_stop h.2.1) (seqInstr_issues h ho runTset)⟩
  · rintro s n p x w h ho rfl hl
    exact ⟨_, rfl, left_goesOn h (by simp [State.numbered, canRun_stop h.2.1]) (runLoop_opens h ho hl)⟩
  · rintro s n p x w h ho rfl hl
    exact ⟨_, rfl, left_stops h (by simp) (runLoop_tooDeep h ho hl)⟩
  · intro s n p x w top rest h ho hl hc
    exact ⟨_, rfl, left_goesOn h (by simp [State.numbered, canRun_stop h.2.1]) (runEndl_closes h ho hl hc)⟩
  · intro s n p x w top rest h ho hl hc hd
    exact ⟨_, rfl, left_goesOn h (by simp [State.numbered, canRun_stop h.2.1]) (runEndl_loops h ho hl hc hd)⟩
  · rintro s n p x w h ho hl rfl
    exact ⟨_, rfl, left_goesOn h (by simp [State.numbered, canRun_stop h.2.1]) (runEndl_empty h ho hl)⟩

end Sys2Proof.Machine
end

section
-- One proof at a time: the whole text then stays within the memory the check allows.
set_option Elab.async false
/-! PROOFS. O15: instructions that change drawers. -/

namespace Sys2Proof.Machine
open State

/-! ### Selection -/

theorem select_missing {s : State} {id : Nat} (h : s.committed id = false) (n : Nat) (p : Option Nat) (x : Path) (ok stall : Stop) :
    s.select n p x id ok stall = s.seqFault n p x hcMissing false := by
  rw [State.select, if_pos (by simp [h])]

theorem select_held {s : State} {n id : Nat} (h : s.committed id = true) (h0 : id ≠ 0) (hh : s.ctxHolds n id = true) (p : Option Nat) (x : Path)
    (ok stall : Stop) : s.select n p x id ok stall = s.leave n p { x with stop := ok } := by
  rw [State.select, if_neg (by simp [h, h0]), if_pos hh]

theorem select_new {s : State} {n id : Nat} (h : s.committed id = true) (h0 : id ≠ 0) (hh : s.ctxHolds n id = false) (hc : s.ctxHeld n < 4)
    (p : Option Nat) (x : Path) (ok stall : Stop) : s.select n p x id ok stall =
      (s.updSeq n (fun c => { c with sels := c.sels ++ [⟨id, s.logMark⟩] })).leave n p { x with stop := ok } := by
  rw [State.select, if_neg (by simp [h, h0]), if_neg (by simp [hh]), if_neg (by omega)]

/-! ### What a prefetch leaves alone -/

/-- `t` has the fall-through path, the memory and the prefetch keys of `s`. -/
def Aside (n : Nat) (s t : State) : Prop :=
  (t.seqOf n).main = (s.seqOf n).main ∧ t.mem = s.mem ∧
    ∀ k, (t.seqOf n).pfs.any (fun q => q.key == k) = (s.seqOf n).pfs.any (fun q => q.key == k)

namespace Aside
variable {n : Nat} {r s t : State}

theorem refl : Aside n s s := ⟨rfl, rfl, fun _ => rfl⟩

theorem trans (h : Aside n r s) (g : Aside n s t) : Aside n r t :=
  ⟨g.1.trans h.1, g.2.1.trans h.2.1, fun k => (g.2.2 k).trans (h.2.2 k)⟩

theorem of_regs {P : Nat → Prop} (h : RegStep P s t) : Aside n s t := by
  obtain ⟨⟨r, rfl⟩, -⟩ := h
  exact refl

theorem updSeq (s : State) (n : Nat) (f : SeqCtx → SeqCtx) (hm : (f (s.seqOf n)).main = (s.seqOf n).main) (hp : (f (s.seqOf n)).pfs = (s.seqOf n).pfs) :
    Aside n s (s.updSeq n f) := by
  refine ⟨?_, updSeq_mem s n f, fun k => ?_⟩
  · rw [seqOf_updSeq, hm]
  · rw [seqOf_updSeq, hp]

theorem leave (s : State) (n i : Nat) (x : Path) : Aside n s (s.leave n (some i) x) := by
  refine ⟨?_, leave_mem s n _ x, fun k => ?_⟩
  · rw [leave_seqOf, setPath_some]
  · rw [leave_seqOf, any_key_setPath]

theorem select (s : State) (n i : Nat) (x : Path) (id : Nat) (ok stall : Stop) : Aside n s (s.select n (some i) x id ok stall) := by
  rw [State.select]
  split
  · exact leave s n i _
  · split
    · exact leave s n i _
    · split
      · exact leave s n i _
      · exact (updSeq s n _ rfl rfl).trans (leave _ n i _)

end Aside

/-- The path that a prefetch from `x` begins with. -/
def prefetchBase (s : State) (n : Nat) (x : Path) : Path := {
  ent := x.ent
  idx := x.idx
  cursor := x.cursor
  ibuf := x.ibuf
  stop := .none
  strm := (s.newStrm n).1
  tset := x.tset
  tset0 := x.tset
  lastTset := x.tset
  limit := 16 * (s.seqOf n).spec }

/-- The state in which a prefetch stands before its first step. -/
def prefetchAdded (s : State) (n : Nat) (key : PfKey) (x : Path) : State :=
  (s.newStrm n).2.updSeq n (fun c => { c with pfs := c.pfs ++ [{ key := key, path := prefetchBase s n x }] })

theorem prefetch_target {s : State} {n id goff : Nat} {x : Path} (h : (s.seqOf n).pfs.any (fun q => q.key == .target id goff) = false) :
    s.prefetch n (.target id goff) x = (prefetchAdded s n (.target id goff) x).select n (some (s.seqOf n).pfs.length) (prefetchBase s n x) id
      (.dir id goff) (.art id goff) := by
  rw [State.prefetch]
  simp only [h, Bool.false_eq_true, if_false]
  rfl

theorem prefetch_cont {s : State} {n m idx : Nat} {x : Path} (h : (s.seqOf n).pfs.any (fun q => q.key == .cont m idx) = false) :
    s.prefetch n (.cont m idx) x = (prefetchAdded s n (.cont m idx) x).leave n (some (s.seqOf n).pfs.length) { prefetchBase s n x with idx := idx } := by
  rw [State.prefetch]
  simp only [h, Bool.false_eq_true, if_false]
  rfl

theorem prefetchAdded_seqOf (s : State) (n : Nat) (key : PfKey) (x : Path) : ((prefetchAdded s n key x).seqOf n).main = (s.seqOf n).main ∧
    ((prefetchAdded s n key x).seqOf n).pfs = (s.seqOf n).pfs ++ [{ key := key, path := prefetchBase s n x }] := by
  have h : (s.newStrm n).2.seqOf n = { s.seqOf n with nextStrm := (s.seqOf n).nextStrm + 1 } :=
    seqOf_updSeq s n (fun c => { c with nextStrm := (s.seqOf n).nextStrm + 1 })
  rw [prefetchAdded, seqOf_updSeq, h]
  exact ⟨rfl, rfl⟩

theorem prefetch_aside (s : State) (n : Nat) (key : PfKey) (x : Path) (h : (s.seqOf n).pfs.any (fun q => q.key == key) = false) :
    Aside n (prefetchAdded s n key x) (s.prefetch n key x) := by
  cases key with
  | target id goff =>
    rw [prefetch_target h]
    exact Aside.select _ n _ _ _ _ _
  | cont m idx =>
    rw [prefetch_cont h]
    exact Aside.leave _ n _ _

/-- A prefetch adds its key, and leaves the fall-through path and the keys that are there. -/
theorem prefetch_shows (s : State) (n : Nat) (key : PfKey) (x : Path) : ∀ t, t = s.prefetch n key x →
    (t.seqOf n).main = (s.seqOf n).main ∧ t.mem = s.mem ∧ (t.seqOf n).pfs.any (fun q => q.key == key) = true ∧
      ∀ k, (s.seqOf n).pfs.any (fun q => q.key == k) = true → (t.seqOf n).pfs.any (fun q => q.key == k) = true := by
  rintro t rfl
  cases hk : (s.seqOf n).pfs.any (fun q => q.key == key) with
  | true =>
    rw [State.prefetch]
    simp only [hk, if_true]
    exact ⟨trivial, trivial, trivial, fun _ h => h⟩
  | false =>
    obtain ⟨hm, hmem, hpf⟩ := prefetch_aside s n key x hk
    obtain ⟨gm, gp⟩ := prefetchAdded_seqOf s n key x
    refine ⟨hm.trans gm, hmem.trans rfl, ?_, fun k h => ?_⟩
    · rw [hpf, gp]
      simp
    · rw [hpf, gp, List.any_append, h, Bool.true_or]

section
variable {s : State} {n : Nat} {x : Path} {w : Nat}

theorem jump_held (h : s.issues n none x w) {id : Nat} (hc : s.committed id = true) (h0 : id ≠ 0) (hh : s.ctxHolds n id = true) (y : Path) (ok stall : Stop) :
    (started s n w).select n none y id ok stall = (started s n w).leave n none { y with stop := ok } :=
  select_held (s := started s n w) hc h0 ((started_ctxHolds s n w id).trans hh) none y ok stall

theorem runJmp_eq (h : s.issues n none x w) (ho : isOp opJmp w = true) : seqInstr (isOp opJmp) runJmp n none false s =
    (started s n w).select n none (((s.numbered n x).pad (s.pathPer n x)).push (.eff .step)) (wf w 43 24) (.dir (wf w 43 24) (wf w 23 0))
      (.art (wf w 43 24) (wf w 23 0)) := seqInstr_issues h ho runJmp

theorem runCall_eq (h : s.issues n none x w) (ho : isOp opCall w = true) (hc : x.calls.length < 16) : seqInstr (isOp opCall) runCall n none false s =
    (started s n w).select n none { ((s.numbered n x).pad (s.pathPer n x)).push (.eff .step) with
        calls := { drw := x.ent.id, idx := x.idx + 1, cursor := x.cursor, depth := x.loops.length } :: x.calls }
      (wf w 43 24) (.dir (wf w 43 24) (wf w 23 0)) (.art (wf w 43 24) (wf w 23 0)) := by
  have hc' : ¬ 16 ≤ (s.numbered n x).calls.length := Nat.not_le.2 hc
  rw [seqInstr_issues h ho, runCall]
  simp only [pad_calls, Option.isNone_none, Option.isSome_none, Bool.true_and, hc', decide_false, Bool.false_eq_true, if_false, push_ent, push_idx,
    push_cursor, push_loops, push_calls, pad_ent, pad_idx, pad_cursor, pad_loops, started_pathPer]
  rfl

/-- A target that is not committed halts the site in play. -/
theorem runJmp_missing (h : s.issues n none x w) (ho : isOp opJmp w = true) (hc : s.committed (wf w 43 24) = false) :
    seqInstr (isOp opJmp) runJmp n none false s = (started s n w).leave n none
      { ((((s.numbered n x).pad (s.pathPer n x)).push (.eff .step)).pad (s.pathPer n x)).push (.eff (.fault hcMissing false)) with stop := .done } := by
  have hper : (started s n w).pathPer n (((s.numbered n x).pad (s.pathPer n x)).push (.eff .step)) = s.pathPer n x :=
    started_pathPer_pad s n w x (s.pathPer n x)
  rw [runJmp_eq h ho, select_missing (s := started s n w) hc, State.seqFault, hper]

/-- CALL with a full stack halts the site. -/
theorem runCall_tooDeep (h : s.issues n none x w) (ho : isOp opCall w = true) (hc : 16 ≤ x.calls.length) :
    seqInstr (isOp opCall) runCall n none false s = (started s n w).leave n none
      { (((s.numbered n x).pad (s.pathPer n x)).pad (s.pathPer n x)).push (.eff (.fault hcStackOver false)) with stop := .done } := by
  have hc' : 16 ≤ (s.numbered n x).calls.length := hc
  rw [seqInstr_issues h ho, runCall]
  simp only [pad_calls, Option.isNone_none, Bool.true_and, hc', decide_true, if_true, State.seqFault, started_pathPer, started_pathPer_pad]

/-- RET inside its drawer goes back to the return point. -/
theorem runRet_returns {e : CallEnt} {rest : List CallEnt} (h : s.issues n none x w) (ho : isOp opRet w = true) (hc : x.calls = e :: rest)
    (hd : e.drw = x.ent.id) : seqInstr (isOp opRet) runRet n none false s = (started s n w).leave n none
      { ((s.numbered n x).pad (s.pathPer n x)).push (.eff .step) with
        calls := rest, loops := x.loops.drop (x.loops.length - e.depth), idx := e.idx, cursor := e.cursor } := by
  have hc' : (s.numbered n x).calls = e :: rest := hc
  have he : e.drw = (s.numbered n x).ent.id := hd
  rw [seqInstr_issues h ho, runRet]
  simp only [hc', State.goBack, push_ent, pad_ent, push_loops, pad_loops, started_pathPer, ← he, if_true]
  rfl

/-- RET with an empty stack halts the site. -/
theorem runRet_empty (h : s.issues n none x w) (ho : isOp opRet w = true) (hc : x.calls = []) :
    seqInstr (isOp opRet) runRet n none false s = (started s n w).leave n none
      { ((s.numbered n x).pad (s.pathPer n x)).push (.eff (.fault hcStackUnder false)) with stop := .done } := by
  have hc' : (s.numbered n x).calls = [] := hc
  rw [seqInstr_issues h ho, runRet]
  simp only [hc', Option.isSome_none, Bool.false_eq_true, if_false, State.seqFault, started_pathPer]

/-- The shadow that a JMPC of word `w` opens on path `x`. -/
def jmpcShadow (s : State) (n w : Nat) (x : Path) : Nat :=
  max 1 (s.shadowTime n x.lastTset (wf w 51 48) (s.onSpan n && (wf w 51 48 == 2 || wf w 51 48 == 3))).toNat

/-- JMPC goes on in an open shadow, and its target is prefetched. -/
theorem runJmpc_eq (h : s.issues n none x w) (ho : isOp opJmpc w = true) : seqInstr (isOp opJmpc) runJmpc n none false s =
    ((started s n w).leave n none { ((s.numbered n x).pad (s.pathPer n x)).push (.eff (.jmpc (wf w 51 48) (wf w 55 55 == 1) (wf w 43 24) (wf w 23 0)
        x.loops x.calls)) with idx := x.idx + 1, shadow := some (jmpcShadow s n w ((s.numbered n x).pad (s.pathPer n x))) }).prefetch n
      (.target (wf w 43 24) (wf w 23 0)) ((s.numbered n x).pad (s.pathPer n x)) := by
  rw [seqInstr_issues h ho, runJmpc]
  simp only [pad_loops, pad_calls, pad_idx, started_pathPer, State.when, Option.isNone_none, if_true]
  rfl

end

/-- Settles O15: the place and the stacks of the path, and the drawer that it waits for. -/
theorem instructionsThatChangeDrawers : Obligations.InstructionsThatChangeDrawers := by
  refine ⟨?_, ?_, ?_, ?_, ?_, ?_, ?_, ?_⟩
  · intro s n x w h ho hc h0 hh
    refine ⟨_, rfl, left_stops h (by simp) ((runJmp_eq h ho).trans (jump_held h hc h0 hh _ _ _))⟩
  · intro s n x w h ho hc h0 hh h4
    have hrun := (runJmp_eq h ho).trans (select_new (s := started s n w) hc h0 ((started_ctxHolds s n w _).trans hh) (by rw [started_ctxHeld]; exact h4) _ _ _ _)
    refine completes_of_eq rfl hrun ⟨?_, ?_, ?_⟩
    · refine leave_path_stopped (y := x) ?_ _ (by simp)
      rw [State.path, seqOf_updSeq]
      exact started_path h.1 w
    · rw [leave_seqOf, seqOf_updSeq, started_seqOf]
      rfl
    · exact ((started_seqOnly s n w).trans (seqOnly_updSeq _ n _)).trans (seqOnly_leave _ n _ _)
  · exact fun s n x w h ho hc => ⟨_, rfl, left_stops h (by simp) (runJmp_missing h ho hc)⟩
  · intro s n x w h ho hc h0 hh h4
    exact ⟨_, rfl, left_stops h (by simp) ((runCall_eq h ho h4).trans (jump_held h hc h0 hh _ _ _))⟩
  · exact fun s n x w h ho hc => ⟨_, rfl, left_stops h (by simp) (runCall_tooDeep h ho hc)⟩
  · intro s n x w e rest h ho hc hd
    exact ⟨_, rfl, left_goesOn h (by simp [State.numbered, canRun_stop h.2.1]) (runRet_returns h ho hc hd)⟩
  · exact fun s n x w h ho hc => ⟨_, rfl, left_stops h (by simp) (runRet_empty h ho hc)⟩
  · intro s n x w h ho
    obtain ⟨hm, hmem, hk, -⟩ := prefetch_shows _ n _ _ _ (runJmpc_eq h ho)
    rw [leave_seqOf] at hm
    have hp : (seqInstr (isOp opJmpc) runJmpc n none false s).path n none = _ := congrArg some hm
    refine ⟨_, rfl, ?_, ?_, hk, ?_⟩
    · rw [hp]
      simp [setPath, State.numbered]
    · rw [hp]
      rfl
    · rw [hmem, leave_mem, started_mem]

end Sys2Proof.Machine
end

section
-- One proof at a time: the whole text then stays within the memory the check allows.
set_option Elab.async false
/-! PROOFS. O16: instructions that wait, and words that halt. -/

namespace Sys2Proof.Machine
open State

theorem requestSet_mem (s : State) (n m : Nat) : (s.requestSet n m).mem = s.mem := by
  obtain ⟨r, h⟩ := requestSet_same s n m
  rw [h]

section
variable {s : State} {n : Nat} {x : Path} {w : Nat}

theorem runMatchwait_held (h : s.issues n none x w) (ho : isOp opMatchwait w = true) (hc : s.committed (wf w 35 16) = true) (h0 : wf w 35 16 ≠ 0)
    (hh : s.ctxHolds n (wf w 35 16) = true) : seqInstr (isOp opMatchwait) runMatchwait n none false s = (started s n w).leave n none
      { ((s.numbered n x).pad (s.pathPer n x)) with shadow := none, stop := .loopDir (wf w 35 16) } := by
  rw [seqInstr_issues h ho, runMatchwait, State.atWait]
  simp only [Option.isSome_none, Bool.false_eq_true, if_false, started_pathPer]
  exact jump_held h hc h0 hh _ _ _

theorem runHalt_eq (h : s.issues n none x w) (ho : isOp opHalt w = true) : seqInstr (isOp opHalt) runHalt n none false s =
    (started s n w).leave n none { ((s.numbered n x).pad (s.pathPer n x)).push (.eff (.halt (wf w 7 0))) with stop := .done } := by
  rw [seqInstr_issues h ho, runHalt, State.atWait]
  simp only [Option.isSome_none, Bool.false_eq_true, if_false, started_pathPer]

theorem runTransit_eq {c : Nat} (h : s.issues n none x w) (ho : isTransit c w = true) (hb : s.setBlocked n x.tset = false) :
    seqInstr (isTransit c) runTransit n none false s = ((started s n w).requestSet n x.tset).leave n none
      { ((s.numbered n x).pad (s.pathPer n x)).push (.eff (.transit c (wf w 31 0))) with idx := x.idx + 1, stop := .wait } := by
  have hc : wf w 55 55 = c := by
    simp only [isTransit, Bool.and_eq_true, beq_iff_eq] at ho
    exact ho.2
  have ht : ((s.numbered n x).pad (s.pathPer n x)).tset = x.tset := pad_tset _ _
  have hb' : (started s n w).setBlocked n x.tset = false := (started_setBlocked s n w x.tset).trans hb
  rw [seqInstr_issues h ho, runTransit, State.atWait]
  simp only [Option.isSome_none, Bool.false_eq_true, if_false, started_pathPer, ht, hb', hc, pad_idx]
  rfl

theorem transit_shows {c : Nat} (h : s.issues n none x w) (ho : isTransit c w = true) (hb : s.setBlocked n x.tset = false) :
    ∀ t, t = seqInstr (isTransit c) runTransit n none false s →
      t.path n none = some { ((s.numbered n x).pad (s.pathPer n x)).push (.eff (.transit c (wf w 31 0))) with idx := x.idx + 1, stop := .wait } ∧
      (t = { s with regs := t.regs, seq := t.seq, eng := t.eng, ts := t.ts } ∧ (∀ m, m ≠ n → t.seqOf m = s.seqOf m)) := by
  rintro t rfl
  rw [runTransit_eq h ho hb]
  refine ⟨leave_path_stopped (y := x) ?_ _ (by simp), (((started_seqOnly s n w).trans (seqOnly_requestSet _ n _)).trans (seqOnly_leave _ n _ _)).ctx⟩
  rw [requestSet_path]
  exact started_path h.1 w

/-- WAITCORE stands in the play queue, and both its continuations are prefetched. -/
theorem runWaitcore_eq (h : s.issues n none x w) (ho : isOp opWaitcore w = true) (hb : s.setBlocked n x.tset = false) :
    seqInstr (isOp opWaitcore) runWaitcore n none false s = ((((started s n w).requestSet n x.tset).leave n none
      { ((s.numbered n x).pad (s.pathPer n x)).push (.eff (.waitCore (wf w 55 55 == 1) (wf w 54 52) (wf w 31 0) (wf w 47 32))) with stop := .wait }).prefetch n
        (.cont x.ent.id (x.idx + 1)) ((s.numbered n x).pad (s.pathPer n x))).prefetch n
        (.cont x.ent.id (wf w 47 32)) ((s.numbered n x).pad (s.pathPer n x)) := by
  have ht : ((s.numbered n x).pad (s.pathPer n x)).tset = x.tset := pad_tset _ _
  have hb' : (started s n w).setBlocked n x.tset = false := (started_setBlocked s n w x.tset).trans hb
  rw [seqInstr_issues h ho, runWaitcore, State.atWait]
  simp only [Option.isSome_none, Bool.false_eq_true, if_false, started_pathPer, ht, hb', State.holdAt, pad_ent, pad_idx]
  rfl

/-- A word whose fault ends run-ahead. -/
theorem seqInstr_wordFault {ok : Nat → Bool} {run : Nat → Option Nat → Path → Nat → State → State} {p : Option Nat} {code : Nat} (hx : s.path n p = some x)
    (hr : s.canRun n x = true) (hw : x.wordAt = some { word := w }) (hd : opDefined (opcodeOf w) = true) (ho : ok w = true) (hf : s.wordFault w = some code) :
    seqInstr ok run n p false s = (started s n w).seqFault n p (s.numbered n x) code false := by
  have hx' : pathOf (s.seqOf n) p = some x := hx
  have hf' : ((s.charge n (cyclesOf w)).updSeq n (fun c => { c with ser := c.ser + 1 })).wordFault w = some code := hf
  have hu : IWord.undef { word := w } = false := by simp [IWord.undef, hd]
  simp only [seqInstr, hx', hw, hr, hu, ho, Bool.not_false, Bool.and_self, if_true, Bool.false_eq_true, if_false]
  rw [hf']
  rfl

theorem undefinedOpcode_eq {p : Option Nat} {v : IWord} (hx : s.path n p = some x) (hr : s.canRun n x = true) (hw : x.wordAt = some v) (hu : v.undef = true) :
    undefinedOpcode n p s = (s.updSeq n (fun c => { c with ser := c.ser + 1 })).seqFault n p (s.numbered n x) hcIllegal v.poison := by
  have hx' : pathOf (s.seqOf n) p = some x := hx
  simp only [undefinedOpcode, hx', hw, hr, hu, Bool.and_self, if_true]
  rfl

end

/-- Settles O16: what the play queue ends with, and why the path stops. -/
theorem instructionsThatWait : Obligations.InstructionsThatWait := by
  refine ⟨?_, ?_, ?_, ?_, ?_, ?_, ?_⟩
  · exact fun s n x w h ho hc h0 hh => ⟨_, rfl, left_stops h (by simp) (runMatchwait_held h ho hc h0 hh)⟩
  · intro s n x w h ho hb
    obtain ⟨hm2, hmem2, hk2, hi2⟩ := prefetch_shows _ n _ _ _ (runWaitcore_eq h ho hb)
    obtain ⟨hm1, hmem1, hk1, hi1⟩ := prefetch_shows (((started s n w).requestSet n x.tset).leave n none
      { ((s.numbered n x).pad (s.pathPer n x)).push (.eff (.waitCore (wf w 55 55 == 1) (wf w 54 52) (wf w 31 0) (wf w 47 32))) with stop := .wait }) n
        (.cont x.ent.id (x.idx + 1)) ((s.numbered n x).pad (s.pathPer n x)) _ rfl
    rw [hm1, leave_seqOf] at hm2
    have hp : (seqInstr (isOp opWaitcore) runWaitcore n none false s).path n none = _ := congrArg some hm2
    refine ⟨_, rfl, ?_, hi2 _ hk1, hk2, ?_⟩
    · rw [hp]
      simp [setPath, State.numbered, nextStop_of_ne]
    · rw [hmem2, hmem1, leave_mem, requestSet_mem, started_mem]
  · exact fun s n x w h ho hb => ⟨_, rfl, transit_shows h ho hb _ rfl⟩
  · exact fun s n x w h ho hb => ⟨_, rfl, transit_shows h ho hb _ rfl⟩
  · exact fun s n x w h ho => ⟨_, rfl, left_stops h (by simp) (runHalt_eq h ho)⟩
  · intro s n p x v hx hr hw hu
    refine completes_of_eq rfl (undefinedOpcode_eq hx hr hw hu) ⟨?_, (seqOnly_updSeq s n _).trans (seqOnly_seqFault _ n p _ _ _)⟩
    refine leave_path_stopped (y := x) ?_ _ (by simp)
    rw [State.path, seqOf_updSeq, ← hx]
    cases p <;> rfl
  · intro s n p x w hx hr hw ho hf
    have hd : opDefined (opcodeOf w) = true := by
      rw [isOp, beq_iff_eq] at ho
      rw [ho]
      rfl
    exact completes_of_eq rfl (seqInstr_wordFault hx hr hw hd ho hf) ⟨leave_path_stopped (started_path hx w) _ (by simp),
      (started_seqOnly s n w).trans (seqOnly_seqFault _ n p _ _ _)⟩

end Sys2Proof.Machine
end

section
-- One proof at a time: the whole text then stays within the memory the check allows.
set_option Elab.async false
/-! PROOFS. O17: services of run-ahead. -/

namespace Sys2Proof.Machine
open State

/-- The engine passes to the next context, which is active. -/
theorem contextSwitch_next {s : State} {e q : Nat} (hq : q = ((s.engOf e).cur + 1) % 4) (ha : s.ctxActive (e + 16 * q) = true)
    (hi : s.ctxActive (e + 16 * (s.engOf e).cur) = false) (hc : (s.engOf e).cur < 4) :
    contextSwitch e s = s.updEng e (fun g => { cur := q, slice := 0, cycles := g.cycles + 2 }) := by
  have hne : q ≠ (s.engOf e).cur := by omega
  have hf : [1, 2, 3, 4].find? (fun d => s.ctxActive (e + 16 * (((s.engOf e).cur + d) % 4))) = some 1 :=
    List.find?_cons_of_pos (by rw [← hq]; exact ha)
  rw [contextSwitch]
  simp only [hf, hi, Bool.not_false, Bool.true_or, if_true, ← hq]
  simp only [State.updEng, hne, if_false]

/-- `t` is `s` but for registers and the governor. -/
def GovStep (s t : State) : Prop := ∃ r g, t = { s with regs := r, gov := g }

namespace GovStep
variable {r s t : State}

theorem trans (h : GovStep r s) (g : GovStep s t) : GovStep r t := by
  obtain ⟨a, b, rfl⟩ := h
  obtain ⟨c, d, rfl⟩ := g
  exact ⟨c, d, rfl⟩

theorem of_regs {P : Nat → Prop} (h : RegStep P s t) : GovStep s t := by
  obtain ⟨⟨r, rfl⟩, -⟩ := h
  exact ⟨r, s.gov, rfl⟩

theorem updGov (s : State) (n : Nat) (f : GovSite → GovSite) : GovStep s (s.updGov n f) := ⟨_, _, rfl⟩

theorem setCharge (s : State) (n v : Nat) : GovStep s (s.setCharge n v) :=
  (updGov s n _).trans (of_regs (((RegStep.refl (P := fun _ => False)).putN id).putN id |>.put id))

theorem chargeRaise (s : State) (n : Nat) : GovStep s (s.chargeRaise n) := by
  rw [State.chargeRaise]
  split
  · exact (setCharge s n _).trans (of_regs ((RegStep.refl (P := fun _ => False)).put id))
  · exact ⟨s.regs, s.gov, rfl⟩

theorem chargeDrawer (s : State) (n : Nat) (e : DirEnt) : GovStep s (s.chargeDrawer n e) :=
  (updGov s n _).trans (chargeRaise _ n)

theorem seqOf (h : GovStep s t) (n : Nat) : t.seqOf n = s.seqOf n := by
  obtain ⟨a, b, rfl⟩ := h
  rfl

theorem mem (h : GovStep s t) : t.mem = s.mem := by
  obtain ⟨a, b, rfl⟩ := h
  rfl

end GovStep

/-- The flags of a context after some were written alike. -/
theorem flag_each (s : State) (n : Nat) (b : Bool) (l : List Nat) (hl : ∀ i ∈ l, i < 4) (j : Nat) (hj : j < 32) :
    (s.each l (fun t i => t.putFlag n (4 + i) b)).flag n j = if ∃ i ∈ l, j = 4 + i then b else s.flag n j := by
  induction l generalizing s with
  | nil => simp [State.each]
  | cons a l ih =>
    have ha := hl a (by simp)
    refine (ih (s.putFlag n (4 + a) b) fun i hi => hl i (by simp [hi])).trans ?_
    rw [State.flag, State.putFlag, bit_putBit _ _ _ _ _ (by omega), State.flag]
    by_cases h1 : ∃ i ∈ l, j = 4 + i <;> by_cases h2 : j = 4 + a <;> simp [h1, h2]

/-- CORE flags written alike: what the commands show. -/
theorem coreFlags_show (s : State) (n : Nat) (m : Fin 16) (b : Bool) : ∀ t, t = s.each (bitList 4 m) (fun t i => t.putFlag n (4 + i) b) →
    (∀ i : Fin 4, t.flag n (4 + i) = if m.val.testBit i then b else s.flag n (4 + i)) ∧
      t.flag n 0 = s.flag n 0 ∧ t.flag n 1 = s.flag n 1 ∧ t.flag n 8 = s.flag n 8 ∧
      RegsBut [R.SEQ_CTX_n_FLAGS n] s t ∧ t = { s with regs := t.regs } := by
  have hl : ∀ i ∈ bitList 4 m, i < 4 := fun i hi => List.mem_range.1 (List.mem_filter.1 hi).1
  have hS : RegStep (· ∉ [R.SEQ_CTX_n_FLAGS n]) s (s.each (bitList 4 m) (fun t i => t.putFlag n (4 + i) b)) :=
    RegStep.refl.each fun h => h.putBit (by simp)
  have hne : ∀ j, (∀ i < 4, j ≠ 4 + i) → ¬ ∃ i ∈ bitList 4 m, j = 4 + i := fun j h ⟨i, hi, e⟩ => h i (hl i hi) e
  rintro t rfl
  refine ⟨fun i => ?_, ?_, ?_, ?_, regsBut_iff.2 hS.2, hS.others⟩
  · rw [flag_each s n b _ hl _ (by omega)]
    simp [bitList]
  · rw [flag_each s n b _ hl _ (by decide), if_neg (hne 0 (by omega))]
  · rw [flag_each s n b _ hl _ (by decide), if_neg (hne 1 (by omega))]
  · rw [flag_each s n b _ hl _ (by decide), if_neg (hne 8 (by omega))]

/-- A path that stopped for room goes on. -/
theorem nextStop_none {s : State} {n : Nat} {x : Path} (hs : x.stop = .none) (hg : granCount x.items < s.fullAt n) (hb : (x.ibuf.lookup x.idx).isSome = true) :
    s.nextStop n none x = .none := by
  have hb' : (x.ibuf.lookup x.idx).isNone = false := by simpa [Option.isSome_iff_ne_none] using hb
  rw [State.nextStop, hs]
  simp [Nat.not_le.2 hg, hb']

/-- The 128 bits of the control-store data registers. -/
def ucsWord (s : State) : Nat := ((List.range 4).map (fun k => s.num (R.SEQ_UCS_DATAk k) * 2 ^ (32 * k))).sum

theorem ucsWord_eq (s : State) : ucsWord s = s.num (R.SEQ_UCS_DATAk 0) + 2 ^ 32 * s.num (R.SEQ_UCS_DATAk 1) + 2 ^ 64 * s.num (R.SEQ_UCS_DATAk 2) +
    2 ^ 96 * s.num (R.SEQ_UCS_DATAk 3) := by
  rw [ucsWord, show List.range 4 = [0, 1, 2, 3] from rfl]
  simp only [List.map_cons, List.map_nil, List.sum_cons, List.sum_nil, Nat.mul_comm (s.num _), Nat.mul_zero, Nat.reduceMul, pow_zero, Nat.one_mul,
    Nat.add_zero, Nat.add_assoc]

/-- The control store after the 128 bits went to its address. -/
def ucsStored (s : State) : State :=
  { s with ucs := Tab.set 0 (s.get F.SEQ_UCS_ADDR_ADDR) (ucsWord s) s.ucs }.put F.SEQ_UCS_ADDR_ADDR (s.get F.SEQ_UCS_ADDR_ADDR + 1)

theorem ucsWordWrite_eq (s : State) (v : Word) (hr : s.ready = false) : ucsWordWrite v s = ucsStored (s.setWord (R.SEQ_UCS_DATAk 3) v) := by
  rw [ucsWordWrite, hr]
  rfl

theorem ucsStored_shows (s : State) : Tab.get 0 (ucsStored s).ucs (s.get F.SEQ_UCS_ADDR_ADDR) = ucsWord s ∧
    (ucsStored s).get F.SEQ_UCS_ADDR_ADDR = (s.get F.SEQ_UCS_ADDR_ADDR + 1) % 2 ^ (F.SEQ_UCS_ADDR_ADDR.hi + 1) ∧ RegsBut [R.SEQ_UCS_ADDR] s (ucsStored s) ∧
    ∃ r u, ucsStored s = { s with regs := r, ucs := u } := by
  have hS := (RegStep.refl (P := (· ∉ [R.SEQ_UCS_ADDR])) (s := { s with ucs := Tab.set 0 (s.get F.SEQ_UCS_ADDR_ADDR) (ucsWord s) s.ucs })).put
    (f := F.SEQ_UCS_ADDR_ADDR) (v := s.get F.SEQ_UCS_ADDR_ADDR + 1) (by decide)
  refine ⟨?_, ?_, ?_, _, _, hS.others⟩
  · rw [ucsStored, put_ucs, Tab.get_set_same]
  · rw [ucsStored, get_put _ _ _ (by decide) (by decide)]
    simp [F.SEQ_UCS_ADDR_ADDR]
  · rw [regsBut_iff]
    exact (RegsIf.of_regs RegsIf.refl (by rfl)).trans hS.2

/-- The fourth word of a control-store word stores all four and moves the address on. -/
theorem ucsWordWrite_shows (s : State) (v : Word) (hr : s.ready = false) : ∀ t, t = ucsWordWrite v s →
    Tab.get 0 t.ucs (s.get F.SEQ_UCS_ADDR_ADDR) = s.num (R.SEQ_UCS_DATAk 0) + 2 ^ 32 * s.num (R.SEQ_UCS_DATAk 1) + 2 ^ 64 * s.num (R.SEQ_UCS_DATAk 2) + 2 ^ 96 * v.toNat ∧
      t.get F.SEQ_UCS_ADDR_ADDR = (s.get F.SEQ_UCS_ADDR_ADDR + 1) % (2 ^ (F.SEQ_UCS_ADDR_ADDR.hi + 1)) ∧
      RegsBut [R.SEQ_UCS_ADDR, R.SEQ_UCS_DATAk 3] s t ∧ t = { s with regs := t.regs, ucs := t.ucs } := by
  rintro t rfl
  have hS : RegStep (· ∉ [R.SEQ_UCS_ADDR, R.SEQ_UCS_DATAk 3]) s (s.setWord (R.SEQ_UCS_DATAk 3) v) := RegStep.refl.setWord (by simp)
  have hn : ∀ k, k < 3 → (s.setWord (R.SEQ_UCS_DATAk 3) v).num (R.SEQ_UCS_DATAk k) = s.num (R.SEQ_UCS_DATAk k) := fun k hk => by
    rw [State.num, word_setWord_ne _ _ _ _ (by simp only [R.SEQ_UCS_DATAk]; omega), State.num]
  have h3 : (s.setWord (R.SEQ_UCS_DATAk 3) v).num (R.SEQ_UCS_DATAk 3) = v.toNat := by rw [State.num, word_setWord]
  have ha : (s.setWord (R.SEQ_UCS_DATAk 3) v).get F.SEQ_UCS_ADDR_ADDR = s.get F.SEQ_UCS_ADDR_ADDR := get_setWord_ne s _ v _ (by decide)
  obtain ⟨hu, hget, hR, hs⟩ := ucsStored_shows (s.setWord (R.SEQ_UCS_DATAk 3) v)
  rw [ucsWord_eq, hn 0 (by decide), hn 1 (by decide), hn 2 (by decide), h3, ha] at hu
  rw [ha] at hget
  rw [ucsWordWrite_eq s v hr]
  refine ⟨hu, hget, ?_, ?_⟩
  · rw [regsBut_iff] at hR ⊢
    exact hS.2.trans fun o ho => hR o (by simp at ho ⊢; exact ho.1)
  · obtain ⟨r, u, hs⟩ := hs
    rw [hS.others] at hs
    generalize ucsStored _ = t at hs
    subst hs
    rfl

/-- Settles O17: each service, from the equation of its function. -/
theorem runAheadServices : Obligations.RunAheadServices := by
  refine ⟨?_, ?_, ?_, ?_, ?_, ?_, ?_⟩
  · exact fun s e q hq ha hi hc => congrArg _ (contextSwitch_next hq ha hi hc)
  · intro s n p x id g hx hs ht hce hue
    have hrun : directoryDone n p s = (s.chargeDrawer n (s.entry id)).leave n p (x.at (s.entry id) 0 g) := by
      have hx' : pathOf (s.seqOf n) p = some x := hx
      simp only [directoryDone, hx', hs, ht, if_false, eccRead_clean s _ _ _ _ hce hue]
    have hG := GovStep.chargeDrawer s n (s.entry id)
    generalize s.chargeDrawer n (s.entry id) = u at hrun hG
    have hu : u.path n p = some x := by
      rw [State.path, hG.seqOf]
      exact hx
    refine completes_of_eq rfl hrun ⟨leave_path_core hu _, (leave_mem u n p _).trans hG.mem, fun m hm => ?_⟩
    exact ((seqOnly_leave u n p _).2.1 m hm).trans (hG.seqOf m)
  · intro s n p x i k hx hs hk hce hue
    have hmin : min k (x.ent.ilen - i) = k := by omega
    have hrun : ilistDone n p i k [] [] s = s.leave n p { x with
        ibuf := (List.range k).map (fun j => (i + j, { word := s.rdLe (x.ent.iaddr + 8 * i + 8 * j) 8 : IWord })) ++ x.ibuf, stop := .none } := by
      have hx' : pathOf (s.seqOf n) p = some x := hx
      simp only [ilistDone, hx', hs, addErrs_clean s hce hue, eccRead_clean s _ _ _ _ hce hue, hmin]
      rfl
    exact completes_of_eq rfl hrun ⟨leave_path_core (y := x) hx _, leave_mem _ _ _ _⟩
  · intro s n x hx hs hg hb
    have hrun : runaheadResume n none s = s.leave n none { x with stop := .none } := by
      have hx' : pathOf (s.seqOf n) none = some x := hx
      simp only [runaheadResume, hx', hs]
    refine completes_of_eq rfl hrun ⟨?_, seqOnly_leave s n none _⟩
    rw [leave_path hx, nextStop_none (x := { x with stop := .none }) rfl hg hb]
    rfl
  · intro s n m
    obtain ⟨hf, hr⟩ := coreFlags_show s n m true _ rfl
    refine ⟨_, rfl, fun i => ?_, hr⟩
    refine (hf i).trans ?_
    cases m.val.testBit i <;> simp
  · intro s n m
    obtain ⟨hf, hr⟩ := coreFlags_show s n m false _ rfl
    refine ⟨_, rfl, fun i => ?_, hr⟩
    refine (hf i).trans ?_
    cases m.val.testBit i <;> simp
  · intro s v hr
    obtain ⟨hu, ha, hk, hre⟩ := ucsWordWrite_shows s v hr _ rfl
    exact ⟨_, rfl, hu, ha, hk, hre⟩

end Sys2Proof.Machine
end

section
-- One proof at a time: the whole text then stays within the memory the check allows.
set_option Elab.async false
/-! PROOFS. O19: halts and aborts. -/

namespace Sys2Proof.Machine
open State

/-! ### What the parts of a halt leave alone -/

/-- The registers that satisfy `P` and the contexts are the same. -/
def CtxKept (P : Nat → Prop) (s t : State) : Prop := RegsIf P s t ∧ t.seq = s.seq

namespace CtxKept
variable {P : Nat → Prop} {r s t : State}

theorem refl : CtxKept P s s := ⟨RegsIf.refl, rfl⟩

theorem trans (h : CtxKept P r s) (g : CtxKept P s t) : CtxKept P r t := ⟨h.1.trans g.1, g.2.trans h.2⟩

theorem of_eq (hr : t.regs = s.regs) (hs : t.seq = s.seq) : CtxKept P s t := ⟨RegsIf.refl.of_regs hr, hs⟩

theorem regs (h : CtxKept P r s) (g : RegStep P s t) : CtxKept P r t := by
  obtain ⟨⟨a, rfl⟩, gr⟩ := g
  exact ⟨h.1.trans gr, h.2⟩

theorem put {f : Fld} {v : Nat} (h : CtxKept P r s) (ho : ¬ P f.off) : CtxKept P r (s.put f v) := h.regs (RegStep.refl.put ho)

theorem putN {o v : Nat} (h : CtxKept P r s) (ho : ¬ P o) : CtxKept P r (s.putN o v) := h.regs (RegStep.refl.putN ho)

theorem bump {o : Nat} (h : CtxKept P r s) (ho : ¬ P o) : CtxKept P r (s.bump o) := h.regs (RegStep.refl.bump ho)

theorem addSat {o k : Nat} (h : CtxKept P r s) (ho : ¬ P o) : CtxKept P r (s.addSat o k) := h.regs (RegStep.refl.addSat ho)

theorem each {α : Type} {l : List α} {f : State → α → State} (h : CtxKept P r s) (hf : ∀ {t x}, CtxKept P r t → CtxKept P r (f t x)) :
    CtxKept P r (s.each l f) := State.each_keeps (CtxKept P r) l f s h fun _ _ => hf

theorem each_mem {α : Type} {l : List α} {f : State → α → State} (h : CtxKept P r s)
    (hf : ∀ {t x}, x ∈ l → CtxKept P r t → CtxKept P r (f t x)) : CtxKept P r (s.each l f) := by
  induction l generalizing s with
  | nil => exact h
  | cons x xs ih => exact ih (hf List.mem_cons_self h) fun hx => hf (List.mem_cons_of_mem _ hx)

theorem when {c : Bool} {f : State → State} (h : CtxKept P r s) (hf : CtxKept P r s → CtxKept P r (f s)) : CtxKept P r (s.when c f) :=
  State.when_keeps (CtxKept P r) c f s h hf

theorem seqOf (h : CtxKept P s t) (n : Nat) : t.seqOf n = s.seqOf n := seqOf_congr h.2 n

end CtxKept

/-- The registers in which a site shows that it has halted. -/
def haltRegs (n : Nat) : List Nat :=
  [R.SITE_n_STATUS n, R.SEQ_CTX_n_STATE n, R.SEQ_CTX_n_HALT_DRW n, R.SEQ_CTX_n_HALT_IDX n, R.SEQ_CTX_n_EVENT n]

/-- Those and the result of the site. -/
def shownRegs (n : Nat) : List Nat := R.FAIL_SITE_n_RESULT n :: haltRegs n

theorem not_mem_shownRegs {n o : Nat} (hn : n < 64) (h : o < 0x500000 ∨ (0x600000 ≤ o ∧ o < 0x2000000) ∨ (0x2010000 ≤ o ∧ o < 0x6000000)) :
    o ∉ shownRegs n := by
  simp only [shownRegs, haltRegs, List.mem_cons, List.not_mem_nil, or_false, R.FAIL_SITE_n_RESULT, R.SITE_n_STATUS, R.SEQ_CTX_n_STATE, R.SEQ_CTX_n_HALT_DRW,
    R.SEQ_CTX_n_HALT_IDX, R.SEQ_CTX_n_EVENT]
  omega

theorem not_mem_haltRegs {n o : Nat} (h : o ∉ shownRegs n) : o ∉ haltRegs n := fun g => h (List.mem_cons_of_mem _ g)

section
variable {n : Nat} (hn : n < 64)
include hn

theorem ecSlot_not_shown (k : Nat) {i : Nat} (hi : i < 32) : R.CLU_k_EC_SLOT_i k i ∉ shownRegs n := by
  simp only [shownRegs, haltRegs, List.mem_cons, List.not_mem_nil, or_false, R.FAIL_SITE_n_RESULT, R.SITE_n_STATUS, R.SEQ_CTX_n_STATE, R.SEQ_CTX_n_HALT_DRW,
    R.SEQ_CTX_n_HALT_IDX, R.SEQ_CTX_n_EVENT, R.CLU_k_EC_SLOT_i]
  omega

theorem ecColl_not_shown (k : Nat) {j : Nat} (hj : j < 16) : R.CLU_k_EC_COLL_j k j ∉ shownRegs n := by
  simp only [shownRegs, haltRegs, List.mem_cons, List.not_mem_nil, or_false, R.FAIL_SITE_n_RESULT, R.SITE_n_STATUS, R.SEQ_CTX_n_STATE, R.SEQ_CTX_n_HALT_DRW,
    R.SEQ_CTX_n_HALT_IDX, R.SEQ_CTX_n_EVENT, R.CLU_k_EC_COLL_j]
  omega

omit hn in
theorem failResult_not_halt (hn : n < 64) (m : Nat) (hm : m < 64) : R.FAIL_SITE_n_RESULT m ∉ haltRegs n := by
  simp only [haltRegs, List.mem_cons, List.not_mem_nil, or_false, R.FAIL_SITE_n_RESULT, R.SITE_n_STATUS, R.SEQ_CTX_n_STATE, R.SEQ_CTX_n_HALT_DRW,
    R.SEQ_CTX_n_HALT_IDX, R.SEQ_CTX_n_EVENT]
  omega

theorem ctxKept_invalidate (s : State) (i : Nat) : CtxKept (· ∈ haltRegs n) s (s.invalidate n i) := by
  have h := failResult_not_halt hn n hn
  exact CtxKept.refl.regs (((RegStep.refl.putBit h).putBit h).putBit h)

theorem ctxKept_collide (s : State) (c k : Nat) : CtxKept (· ∈ haltRegs n) s (s.collide n c k) := by
  have h1 : CtxKept (· ∈ haltRegs n) s ((s.addSat (R.TSET_SITE_n_COLL_CNT n) k).addSat (R.CLU_k_EC_COLL_j (c / 16) (c % 16)) k) :=
    (CtxKept.refl.addSat (not_mem_haltRegs (not_mem_shownRegs hn (by simp only [R.TSET_SITE_n_COLL_CNT]; omega)))).addSat
      (not_mem_haltRegs (ecColl_not_shown hn _ (Nat.mod_lt _ (by decide))))
  rw [State.collide]
  split
  · exact CtxKept.refl
  · dsimp only
    split
    · refine ((h1.put ?_).put ?_).trans (ctxKept_invalidate hn _ _)
      · exact not_mem_haltRegs (not_mem_shownRegs hn (by simp only [F.TSET_SITE_n_STATUS_COLLIDE_OVER, R.TSET_SITE_n_STATUS]; omega))
      · exact not_mem_haltRegs (not_mem_shownRegs hn (by decide))
    · exact h1

theorem ctxKept_fireSite (s : State) (t : Option Nat) : CtxKept (· ∈ haltRegs n) s (s.fireSite n t) :=
  CtxKept.refl.each fun h => h.trans ((CtxKept.of_eq (by rfl) (by rfl)).trans (ctxKept_collide hn _ _ _))

theorem ctxKept_replaceSlot (s : State) (k : Nat) {i : Nat} (hi : i < 32) : CtxKept (· ∈ shownRegs n) s (s.replaceSlot k i) := by
  have h := ecSlot_not_shown hn k hi
  rw [State.replaceSlot]
  split
  · exact CtxKept.put (CtxKept.put (CtxKept.put (CtxKept.of_eq (by rfl) (by rfl)) h) h) h
  · exact CtxKept.refl

theorem ctxKept_replaceStaged (s : State) (m : Nat) (f : EcSlot → Bool) : CtxKept (· ∈ shownRegs n) s (s.replaceStaged m f) := by
  refine CtxKept.refl.each fun h => h.each_mem fun {t i} hi g => ?_
  have hi' : i < 32 := List.mem_range.1 (List.mem_filter.1 hi).1
  split
  · exact g.trans (ctxKept_replaceSlot hn _ _ hi')
  · exact g

theorem ctxKept_artClear (s : State) : CtxKept (· ∈ shownRegs n) s (s.artClear n) := by
  refine CtxKept.refl.each_mem fun {t i} hi h => ?_
  have hi' : i < 256 := by simp [artSlots] at hi; omega
  have ha : R.DRW_ART_n i ∉ shownRegs n := not_mem_shownRegs hn (by simp only [R.DRW_ART_n]; omega)
  exact (h.regs (RegStep.refl.setWord ha)).trans (CtxKept.of_eq (by rfl) (by rfl))

theorem ctxKept_dropStreams (s : State) : CtxKept (· ∈ shownRegs n) s (s.dropStreams n) :=
  CtxKept.putN (CtxKept.of_eq (by rfl) (by rfl)) (not_mem_shownRegs hn (by simp only [R.STRM_SITE_n_FILL]; omega))

theorem ctxKept_chargeRelease (s : State) : CtxKept (· ∈ shownRegs n) s (s.chargeRelease n) := by
  refine CtxKept.put (CtxKept.put (CtxKept.putN (CtxKept.putN (CtxKept.of_eq (by rfl) (by rfl)) ?_) ?_) ?_) ?_
  · exact not_mem_shownRegs hn (by simp only [R.GOV_SITE_n_CHARGE]; omega)
  · exact not_mem_shownRegs hn (by decide)
  · exact not_mem_shownRegs hn (by decide)
  · exact not_mem_shownRegs hn (by simp only [F.GOV_SITE_n_STATUS_STATE, R.GOV_SITE_n_STATUS]; omega)

omit hn in
theorem ctxKept_lanesHalt (s : State) : CtxKept (· ∈ shownRegs n) s (s.lanesHalt n) := by
  refine CtxKept.refl.each fun h => ?_
  split
  · exact h.trans (CtxKept.of_eq (by rfl) (by rfl))
  · exact h

theorem ctxKept_capture (s : State) (v g : Nat) (r : List Byte) : CtxKept (· ∈ shownRegs n) s (s.capture n v g r) := by
  have hl : R.CAPT_SITE_n_LOST n ∉ shownRegs n := not_mem_shownRegs hn (by simp only [R.CAPT_SITE_n_LOST]; omega)
  rw [State.capture]
  split
  · exact CtxKept.refl
  · split
    · exact CtxKept.refl.bump hl
    · split
      · refine CtxKept.bump (CtxKept.put (CtxKept.put (CtxKept.of_eq (by rfl) (by rfl)) ?_) ?_) hl
        · exact not_mem_shownRegs hn (by simp only [F.CAPT_SITE_n_STATUS_OVERFLOW, R.CAPT_SITE_n_STATUS]; omega)
        · exact not_mem_shownRegs hn (by decide)
      · exact CtxKept.of_eq (by rfl) (by rfl)

theorem ctxKept_captFinish (s : State) : CtxKept (· ∈ shownRegs n) s (s.captFinish n) := by
  rw [State.captFinish]
  split
  · exact CtxKept.refl
  · split
    · refine CtxKept.put (CtxKept.trans (CtxKept.when (CtxKept.each CtxKept.refl fun h => h.trans (ctxKept_capture hn _ _ _ _))
        fun h => h.trans (ctxKept_capture hn _ _ _ _)) (CtxKept.of_eq (by rfl) (by rfl))) ?_
      exact not_mem_shownRegs hn (by simp only [F.CAPT_SITE_n_STATUS_CAPTURING, R.CAPT_SITE_n_STATUS]; omega)
    · exact CtxKept.refl

theorem ctxKept_spanCheck (s : State) : CtxKept (· ∈ shownRegs n) s (s.spanCheck n) := by
  rw [State.spanCheck]
  split
  · refine CtxKept.trans (CtxKept.put (CtxKept.putN CtxKept.refl ?_) ?_) (CtxKept.of_eq (updSite_regs _ _ _) (updSite_seq _ _ _)) <;>
    · simp only [shownRegs, haltRegs, List.mem_cons, List.not_mem_nil, or_false, R.FAIL_SITE_n_RESULT, R.SITE_n_STATUS, R.SEQ_CTX_n_STATE, R.SEQ_CTX_n_HALT_DRW,
        R.SEQ_CTX_n_HALT_IDX, R.SEQ_CTX_n_EVENT, R.SITE_n_SPAN_RESULT, F.SITE_n_EVENT_SPAN_DONE, R.SITE_n_EVENT]
      omega
  · exact CtxKept.refl

end

theorem ctxKept_sendAll (P : Nat → Prop) (s : State) (l : List Nat) (m : Msg) : CtxKept P s (s.sendAll l m) :=
  CtxKept.refl.each fun h => h.trans (CtxKept.of_eq (by rfl) (by rfl))

/-! ### A halt in its parts -/

/-- The registers in which a halt is shown are written. -/
def haltShown (s : State) (n code : Nat) (at_ : Nat × Nat) (poison : Bool) : State :=
  let s := (s.setSiteState n stHalted).put (F.SEQ_CTX_n_STATE_HALT_CODE n) code
  let s := (s.putN (R.SEQ_CTX_n_HALT_DRW n) at_.1).putN (R.SEQ_CTX_n_HALT_IDX n) at_.2
  (s.put (F.SEQ_CTX_n_EVENT_HALT n) 1).when poison (fun t => t.put (F.SEQ_CTX_n_EVENT_POISON n) 1)

/-- The result of the run is written. -/
def haltResult (s : State) (n code : Nat) : State :=
  s.putN (R.FAIL_SITE_n_RESULT n) (setBitN (setBitN (s.num (R.FAIL_SITE_n_RESULT n) / 256 * 256 + code) 28 true) 30 (s.passAtHalt n code))

/-- A context that has halted. -/
def haltedCtx (c : SeqCtx) : SeqCtx := { c with
  halted := true
  main := { c.main with items := [], stop := .done }
  pfs := []
  sels := []
  play := { c.play with
    on := false
    decs := []
    taken := none
    wait := .none
    rep := []
    pendMarks := [] } }

/-- The capture of a site that has halted is told where, and its context ends. -/
def haltPlay (s : State) (n : Nat) (p : Play) : State :=
  (s.updCapt n (fun x => { x with haltAt := some (32 * p.nGran, p.gStart / 8), haltMarks := p.pendMarks })).updSeq n haltedCtx

/-- What a halt does to the other blocks. -/
def haltRest (s : State) (n : Nat) : State :=
  let s := ((s.replaceStaged n (fun _ => true)).artClear n).dropStreams n
  let s := ((s.chargeRelease n).lanesHalt n).captFinish n
  let x := s.siteOf n
  let w := s.num (R.FAIL_SITE_n_RESULT n)
  if x.role = 0 then s
  else ((s.updSite n (fun y => { y with words := Tab.ins y.index w y.words })).spanCast n 3 [s.spanIdxBlock n w]).spanCheck n

theorem haltSite_eq (s : State) (n code : Nat) (at_ : Nat × Nat) (poison : Bool) : s.haltSite n code at_ poison =
    haltRest (haltPlay (haltResult ((haltShown s n code at_ poison).fireSite n none) n code) n (s.playOf n)) n := rfl

theorem ctxKept_haltRest {n : Nat} (hn : n < 64) (s : State) : CtxKept (· ∈ shownRegs n) s (haltRest s n) := by
  have h : CtxKept (· ∈ shownRegs n) s ((((((s.replaceStaged n (fun _ => true)).artClear n).dropStreams n).chargeRelease n).lanesHalt n).captFinish n) :=
    (((((ctxKept_replaceStaged hn s n _).trans (ctxKept_artClear hn _)).trans (ctxKept_dropStreams hn _)).trans (ctxKept_chargeRelease hn _)).trans
      (ctxKept_lanesHalt _)).trans (ctxKept_captFinish hn _)
  rw [haltRest]
  split
  · exact h
  · exact ((h.trans (CtxKept.of_eq (updSite_regs _ _ _) (updSite_seq _ _ _))).trans (ctxKept_sendAll _ _ _ _)).trans (ctxKept_spanCheck hn _)

/-- What the registers show after a halt. -/
theorem haltShown_shows (s : State) (n : Site) (code : Nat) (at_ : Nat × Nat) (poison : Bool) : ∀ t, t = haltShown s n code at_ poison →
    t.siteState n = 5 ∧ t.get (F.SEQ_CTX_n_EVENT_HALT n) = 1 ∧ t.get (F.SEQ_CTX_n_STATE_HALT_CODE n) = code % 2 ^ 8 ∧
      t.num (R.SEQ_CTX_n_HALT_DRW n) = at_.1 % 2 ^ 32 ∧ t.num (R.SEQ_CTX_n_HALT_IDX n) = at_.2 % 2 ^ 32 ∧ t.seq = s.seq := by
  have hcode : ∀ u : State, (u.put (F.SEQ_CTX_n_STATE_HALT_CODE n) code).get (F.SEQ_CTX_n_STATE_HALT_CODE n) = code % 2 ^ 8 := fun u =>
    get_put u _ _ (by simp [F.SEQ_CTX_n_STATE_HALT_CODE]) (by simp [F.SEQ_CTX_n_STATE_HALT_CODE])
  rintro t rfl
  rw [haltShown, State.when]
  refine ⟨?_, ?_, ?_, ?_, ?_, ?_⟩ <;> cases poison <;>
    simp -implicitDefEqProofs (disch := (apply all_fin n; decide +kernel)) only [if_true, if_false, Bool.false_eq_true, State.siteState, State.setSiteState,
      stHalted, get_put_same, get_put_apart, get_putN_apart, num_put_apart, num_putN_apart, num_putN, hcode, put_seq, putN_seq]

theorem haltPlay_regs (s : State) (n : Nat) (p : Play) : (haltPlay s n p).regs = s.regs := rfl

theorem haltPlay_seqOf (s : State) (n : Nat) (p : Play) : (haltPlay s n p).seqOf n = haltedCtx (s.seqOf n) := by
  rw [haltPlay, seqOf_updSeq]
  rfl

theorem bit_haltResult (s : State) (n : Nat) {code : Nat} (hc : code < 256) : (haltResult s n code).bit (R.FAIL_SITE_n_RESULT n) 28 = true := by
  have hv : s.num (R.FAIL_SITE_n_RESULT n) / 256 * 256 + code < 2 ^ 32 := by
    have := num_lt s (R.FAIL_SITE_n_RESULT n)
    omega
  have hlt := setBitN_lt _ 30 (s.passAtHalt n code) 32 (setBitN_lt _ 28 true 32 hv (by decide)) (by decide)
  rw [State.bit, haltResult, num_putN, Nat.mod_eq_of_lt hlt, testBit_setBitN, if_neg (by decide), testBit_setBitN, if_pos rfl]

theorem haltSite_shows (s : State) (n : Site) {code : Nat} (hc : code < 256) (at_ : Nat × Nat) (poison : Bool) : ∀ t, t = s.haltSite n code at_ poison →
    t.siteState n = 5 ∧ t.get (F.SEQ_CTX_n_EVENT_HALT n) = 1 ∧ t.get (F.SEQ_CTX_n_STATE_HALT_CODE n) = code ∧
      t.num (R.SEQ_CTX_n_HALT_DRW n) = at_.1 % 2 ^ 32 ∧ t.num (R.SEQ_CTX_n_HALT_IDX n) = at_.2 % 2 ^ 32 ∧
      t.bit (R.FAIL_SITE_n_RESULT n) 28 = true ∧ t.seqOf n = haltedCtx (s.seqOf n) := by
  rintro t rfl
  rw [haltSite_eq]
  obtain ⟨h1, h2, h3, h4, h5, h6⟩ := haltShown_shows s n code at_ poison _ rfl
  generalize haltShown s n code at_ poison = u at *
  obtain ⟨hf, hfs⟩ := ctxKept_fireSite n.isLt u none
  generalize u.fireSite n none = v at *
  have hb := bit_haltResult v n hc
  have hr : CtxKept (· ∈ haltRegs n) v (haltResult v n code) := CtxKept.refl.putN (failResult_not_halt n.isLt n n.isLt)
  generalize haltResult v n code = w at *
  have hp := haltPlay_seqOf w n (s.playOf n)
  have hpr := haltPlay_regs w n (s.playOf n)
  generalize haltPlay w n (s.playOf n) = x at *
  obtain ⟨hk, hks⟩ := ctxKept_haltRest n.isLt x
  generalize haltRest x n = y at *
  have hall : RegsIf (· ∈ haltRegs n) u y :=
    (hf.trans (hr.1.of_regs hpr)).trans fun o ho => hk o (List.mem_cons_of_mem _ ho)
  refine ⟨?_, ?_, ?_, ?_, ?_, ?_, ?_⟩
  · rw [State.siteState, hall.get (by simp [haltRegs, F.SITE_n_STATUS_STATE]), ← h1, State.siteState]
  · rw [hall.get (by simp [haltRegs, F.SEQ_CTX_n_EVENT_HALT]), h2]
  · rw [hall.get (by simp [haltRegs, F.SEQ_CTX_n_STATE_HALT_CODE]), h3]
    exact Nat.mod_eq_of_lt hc
  · rw [hall.num (by simp [haltRegs]), h4]
  · rw [hall.num (by simp [haltRegs]), h5]
  · rw [hk.bit (by simp [shownRegs]), State.bit, num_congr hpr, ← hb, State.bit]
  · rw [seqOf_congr hks, hp, hr.seqOf, seqOf_congr hfs, seqOf_congr h6]

/-- An abort of a site that does not play. -/
theorem seqAbort_halts {s : State} {n : Nat} (h : s.siteState n = 1 ∨ s.siteState n = 2 ∨ s.siteState n = 4) :
    seqAbort n s = s.haltSite n hcAbort (s.nextInstr n) false := by
  have h3 : s.siteState n ≠ stRunning := by rw [stRunning]; omega
  rw [seqAbort]
  simp only [h3, if_false, show s.siteState n = stArmed ∨ s.siteState n = stStarting ∨ s.siteState n = stWait from h, if_true]
  rw [State.asyncHalt]
  rfl

/-- A HALT at the front of the play queue halts the site at the boundary. -/
theorem granuleBoundary_halts {s : State} {n : Nat} {i : Item} {is : List Item} {code : Nat} (hst : s.siteState n = 3) (hon : (s.playOf n).on = true)
    (hd : (s.playOf n).decs = []) (hw : (s.playOf n).wait = .none) (ht : (s.playOf n).taken = none) (hth : (s.seqOf n).thermal = false)
    (hsl : (s.seqOf n).spanLost = false) (hab : (s.seqOf n).abort = false) (hr : (s.playOf n).rep = []) (hf : (s.playOf n).inFrame < 16)
    (hi : (s.seqOf n).main.items = i :: is) (hb : i.body = .eff (.halt code)) :
    granuleBoundary n s = s.beginProg n := by
  have hplay : s.playing n = true := by rw [State.playing, hst]; rfl
  have hcore : s.coreSample n = s := by rw [State.coreSample, hw]
  have hlate : s.coreTimeout n = none := by rw [State.coreTimeout, hw]
  have hmat : s.matchSample n = s := by rw [State.matchSample, hw]
  have hmerge : s.tryMerge n = s := by rw [State.tryMerge]; simp only [ht]
  have hend : s.endGranule n = some s := by
    rw [State.endGranule, hd]
    simp only [List.any_nil, Bool.false_eq_true, if_false, hcore, hlate, hmat, hw, hmerge]
  have hasync : s.asyncNow n false = none := by
    rw [State.asyncNow]
    split
    · rfl
    · rw [State.asyncCode]
      simp [hsl, hab]
  rw [granuleBoundary]
  simp only [hplay, hon, hf, hr, or_true, and_self, if_true, ne_eq, not_true, if_false, hend, hasync]

theorem setsShow_step (s : State) (n : Site) : RegStep (· ∈ shownRegs n) s (s.setsShow n) := by
  refine ((RegStep.refl.putN ?_).put ?_).put ?_ <;> (apply all_fin n; decide +kernel)

/-- Effects end where nothing is left to play. -/
theorem runEffects_nil {s : State} {n : Nat} (h : (s.seqOf n).main.items = []) (k : Nat) : runEffects n k s = s := by
  cases k with
  | zero => rfl
  | succ k => rw [runEffects, h]

/-- The halt that stands at the front of the play queue. -/
def frontHalt (s : State) (n : Nat) (i : Item) (is : List Item) (code : Nat) : State :=
  ((s.updSeq n (fun c => { c with main := { c.main with items := is }, play := { c.play with instr := i.tag } })).stacksShow n i.loops i.calls).haltSite n
    code (i.drw, i.idx) false

theorem beginProg_halts {s : State} {n : Site} {i : Item} {is : List Item} {code : Nat} (hst : s.siteState n = 3) (hw : (s.playOf n).wait = .none)
    (hi : (s.seqOf n).main.items = i :: is) (hb : i.body = .eff (.halt code)) (h5 : (frontHalt s n i is code).siteState n = 5) {c : SeqCtx}
    (hc : (frontHalt s n i is code).seqOf n = haltedCtx c) : s.beginProg n = (frontHalt s n i is code).setsShow n := by
  have hopen : s.effOpen n = true := by rw [State.effOpen, State.playing, hst, hw]; rfl
  have hrun : runEffects n (i :: is).length s = frontHalt s n i is code := by
    rw [List.length_cons, runEffects, hi]
    simp only [hb, hopen, if_true]
    exact runEffects_nil (by rw [show State.playEff _ n i (.halt code) = frontHalt s n i is code from rfl, hc]; rfl) _
  have hplay : (frontHalt s n i is code).playing n = false := by rw [State.playing, h5]; rfl
  have heff : s.effects n = (frontHalt s n i is code).setsShow n := by
    rw [State.effects, hi, hrun]
    simp only [hplay, State.when, Bool.false_eq_true, if_false]
  have hS := setsShow_step (frontHalt s n i is code) n
  have hseq : ((frontHalt s n i is code).setsShow n).seqOf n = haltedCtx c := (seqOf_congr (by rw [hS.others]) n).trans hc
  have hpl : ((frontHalt s n i is code).setsShow n).playOf n = (haltedCtx c).play := by rw [State.playOf, hseq]
  have hplay' : ((frontHalt s n i is code).setsShow n).playing n = false := by
    rw [State.playing, State.siteState, hS.2.get (by simp [shownRegs, haltRegs, F.SITE_n_STATUS_STATE])]
    exact hplay
  have hmerge : ((frontHalt s n i is code).setsShow n).tryMerge n = (frontHalt s n i is code).setsShow n := by
    rw [State.tryMerge, hpl]
    rfl
  rw [State.beginProg, heff, hmerge]
  simp only [hpl, hplay', Bool.false_eq_true, if_false]
  rfl

/-- Settles O19: a halt in its parts, and the two ways to it. -/
theorem haltsAndAborts : Obligations.HaltsAndAborts := by
  refine ⟨?_, ?_, ?_⟩
  · intro s n i is code hst hon hd hw ht hth hsl hab hr hf hi hb hdrw hidx
    refine completes_of_eq rfl (granuleBoundary_halts hst hon hd hw ht hth hsl hab hr hf hi hb) ?_
    obtain ⟨h1, h2, h3, h4, h5, h6, h7⟩ := haltSite_shows ((s.updSeq n (fun c => { c with main := { c.main with items := is }, play := { c.play with
      instr := i.tag } })).stacksShow n i.loops i.calls) n code.isLt (i.drw, i.idx) false (frontHalt s n i is code) rfl
    rw [beginProg_halts hst hw hi hb h1 h7]
    have hS := setsShow_step (frontHalt s n i is code) n
    generalize frontHalt s n i is code = u at *
    obtain ⟨⟨r, e⟩, hP⟩ := hS
    have hseq : (u.setsShow n).seqOf n = haltedCtx _ := (seqOf_congr (by rw [e]) n).trans h7
    refine ⟨?_, ?_, ?_, ?_, ?_, ?_, ?_, ?_⟩
    · rw [State.siteState, hP.get (by simp [shownRegs, haltRegs, F.SITE_n_STATUS_STATE]), ← h1, State.siteState]
    · rw [hseq]
      rfl
    · rw [hP.get (by simp [shownRegs, haltRegs, F.SEQ_CTX_n_EVENT_HALT]), h2]
    · rw [hP.bit (by simp [shownRegs]), h6]
    · rw [State.playOf, hseq]
      rfl
    · rw [hP.get (by simp [shownRegs, haltRegs, F.SEQ_CTX_n_STATE_HALT_CODE]), h3]
    · rw [hP.num (by simp [shownRegs, haltRegs]), h4, Nat.mod_eq_of_lt (by omega)]
    · rw [hP.num (by simp [shownRegs, haltRegs]), h5, Nat.mod_eq_of_lt (by omega)]
  · intro s n h
    have h3 : seqAbort n s = s.updSeq n (fun c => { c with abort := true }) := by rw [seqAbort]; simp only [h, stRunning, if_true]
    exact congrArg _ h3
  · intro s n h
    obtain ⟨h1, h2, h3, -, -, h6, h7⟩ := haltSite_shows s n (code := hcAbort) (by decide) (s.nextInstr n) false _ (seqAbort_halts h)
    refine ⟨_, rfl, h1, ?_, h2, h6, ?_, h3⟩
    · rw [h7]
      rfl
    · rw [State.playOf, h7]
      rfl

end Sys2Proof.Machine
end

section
-- One proof at a time: the whole text then stays within the memory the check allows.
set_option Elab.async false
/-! PROOFS. O21: banks and levels. -/

namespace Sys2Proof.Machine
open State

/-- Whether channel 0 settles at time 0 in the state of an outcome. -/
def Outcome.settles : Host.Outcome State Fault Refusal → Bool
  | .next t => (t.chanOf 0).settling 0
  | _ => false

/-- A state whose bank 0 is out of its window, and whose channel 0 has a settling window that begins in 0.25 ps. -/
def settlesLater : State :=
  { regs := [(R.CLU_k_BANK_CFG 0, 1000)], chan := [(0, { settle := some (1, 2) })] }

/-- Refutes O21: a start inside a settling window that has not ended keeps the beginning of that window, and where the window begins
later than now the channel does not settle now. The clause on a bank that comes back quantifies over such states as well. -/
theorem not_banksAndLevels : ¬ Obligations.BanksAndLevels := by
  rintro ⟨-, -, -, h, -⟩
  obtain ⟨t, ht, -, hs, -⟩ := h settlesLater 0 1000 (by decide +kernel) (by decide +kernel) (by decide +kernel)
  have e : Outcome.settles (exec (.bankInWindow 0 1000) settlesLater) = (t.chanOf 0).settling 0 := congrArg Outcome.settles ht
  have h0 : (t.chanOf 0).settling 0 = true := hs 0
  exact absurd (e.trans h0) (by decide +kernel)

end Sys2Proof.Machine
end

section
-- One proof at a time: the whole text then stays within the memory the check allows.
set_option Elab.async false
/-! PROOFS. O23: vector verdicts. -/

namespace Sys2Proof.Machine
open State

/-- The count of failing vectors of site 0 in the state of an outcome. -/
def Outcome.failVectors : Host.Outcome State Fault Refusal → Nat
  | .next t => t.num (R.FAIL_SITE_n_FVEC_CNT 0)
  | _ => 0

/-- A granule whose first channel plays EDGE_OUT with a compare, on a symbol that EDGE_OUT does not know. -/
def badSymbolGran : Gran :=
  { hold := false, ranks := [0], slabs := [[6]], ents := [{ format := fmtEdgeOut, en := 16 }] }

/-- Outside the safe state, site 0 holds octet 128, whose cluster 64 shows its bank in the window; the granule waits to be judged. -/
def strayOctet : State :=
  { regs := [(R.GLB_STATUS, 0), (R.CLU_k_BANK_STATUS 64, 2)], seq := [(0, { play := { judging := [badSymbolGran] } })], site := [(0, { octs := [128] })] }

/-- Refutes O23: the count of bad symbols of the first channel of cluster 64 would lie at the offset at which FAIL_SITE_0_FVEC_CNT lies.
In a state that binds octet 128 to site 0, over which the clause also quantifies, one failing vector counts twice. -/
theorem not_vectorVerdicts : ¬ Obligations.VectorVerdicts := by
  rintro ⟨h, -⟩
  obtain ⟨t, ht, -, -, hc, -⟩ := h strayOctet 0 [] badSymbolGran [] (by decide +kernel) (by decide +kernel) (by decide +kernel) (by decide +kernel)
    (by decide +kernel) (by decide +kernel)
  have e : Outcome.failVectors (exec (.vectorResult 0 []) strayOctet) = t.num (R.FAIL_SITE_n_FVEC_CNT 0) := congrArg Outcome.failVectors ht
  exact absurd (e.trans hc) (by decide +kernel)

end Sys2Proof.Machine
end

section
-- One proof at a time: the whole text then stays within the memory the check allows.
set_option Elab.async false
/-! PROOFS. O24: the trigger sequencer. -/

namespace Sys2Proof.Machine
open State

@[simp] theorem captOf_updCapt (s : State) (n : Nat) (f : CaptSite → CaptSite) : (s.updCapt n f).captOf n = f (s.captOf n) := by
  simp [State.captOf, State.updCapt]

theorem captOf_congr {s t : State} (h : t.capt = s.capt) (n : Nat) : t.captOf n = s.captOf n := by
  rw [State.captOf, h, State.captOf]

/-- A field and a bit of its register outside it. -/
theorem get_putBit_outside (s : State) (f : Fld) (i : Nat) (b : Bool) (hi : i < 32) (h : i < f.lo ∨ f.hi < i) :
    (s.putBit f.off i b).get f = s.get f := by
  have hn : (s.putBit f.off i b).num f.off = setBitN (s.num f.off) i b := by
    rw [State.putBit, num_putN, Nat.mod_eq_of_lt (setBitN_lt _ _ _ _ (num_lt s _) hi)]
  have hg : ∀ t : State, t.get f = t.num f.off / 2 ^ f.lo % 2 ^ (f.hi + 1 - f.lo) := fun t => rfl
  rw [hg, hg, hn]
  apply Nat.eq_of_testBit_eq
  intro j
  simp only [Nat.testBit_mod_two_pow, Nat.testBit_div_two_pow, testBit_setBitN]
  by_cases hj : j < f.hi + 1 - f.lo
  · rw [if_neg (by omega)]
  · simp [hj]

/-- What each update of a fold over members of a list keeps, the fold keeps. -/
theorem each_mem_keeps {α : Type} (P : State → Prop) (l : List α) (f : State → α → State) {s : State} (h : P s)
    (hf : ∀ t x, x ∈ l → P t → P (f t x)) : P (s.each l f) := by
  induction l generalizing s with
  | nil => exact h
  | cons x xs ih => exact ih (hf s x List.mem_cons_self h) fun t y hy => hf t y (List.mem_cons_of_mem _ hy)

/-! ### What an evaluation leaves alone -/

/-- The trigger state, its hold-off, memory and the contexts are the same. -/
structure TrigKept (n : Nat) (s t : State) : Prop where
  tstate : t.get (F.CAPT_SITE_n_STATUS_TSTATE n) = s.get (F.CAPT_SITE_n_STATUS_TSTATE n)
  mem : t.mem = s.mem
  seq : t.seq = s.seq
  hold : (t.captOf n).holdFrom = (s.captOf n).holdFrom
  cnt : (t.captOf n).holdCnt = (s.captOf n).holdCnt
  valid : (t.captOf n).evValid = (s.captOf n).evValid

namespace TrigKept
variable {n : Nat} {r s t : State}

theorem refl : TrigKept n s s := ⟨rfl, rfl, rfl, rfl, rfl, rfl⟩

theorem trans (h : TrigKept n r s) (g : TrigKept n s t) : TrigKept n r t :=
  ⟨g.tstate.trans h.tstate, g.mem.trans h.mem, g.seq.trans h.seq, g.hold.trans h.hold, g.cnt.trans h.cnt, g.valid.trans h.valid⟩

theorem regs {P : Nat → Prop} (h : RegStep P s t) (ht : t.get (F.CAPT_SITE_n_STATUS_TSTATE n) = s.get (F.CAPT_SITE_n_STATUS_TSTATE n)) : TrigKept n s t := by
  obtain ⟨⟨a, rfl⟩, -⟩ := h
  exact ⟨ht, rfl, rfl, rfl, rfl, rfl⟩

theorem put {f : Fld} {v : Nat} (h : f.apart (F.CAPT_SITE_n_STATUS_TSTATE n) = true) : TrigKept n s (s.put f v) :=
  regs ((RegStep.refl (P := fun _ => False)).put id) (get_put_apart _ _ _ _ h)

theorem bump {o : Nat} (h : R.CAPT_SITE_n_STATUS n ≠ o) : TrigKept n s (s.bump o) :=
  regs ((RegStep.refl (P := fun _ => False)).bump id) (get_bump_apart _ _ _ h)

theorem putN {o v : Nat} (h : R.CAPT_SITE_n_STATUS n ≠ o) : TrigKept n s (s.putN o v) :=
  regs ((RegStep.refl (P := fun _ => False)).putN id) (get_putN_apart _ _ _ _ h)

theorem timerBit (s : State) {k : Nat} (hk : k < 4) (b : Bool) : TrigKept n s (s.putBit (R.CAPT_SITE_n_STATUS n) (12 + k) b) :=
  regs ((RegStep.refl (P := fun _ => False)).putBit id)
    (get_putBit_outside s (F.CAPT_SITE_n_STATUS_TSTATE n) (12 + k) b (by omega) (.inr (by simp [F.CAPT_SITE_n_STATUS_TSTATE]; omega)))

theorem updCapt (s : State) (f : CaptSite → CaptSite) (hf : (f (s.captOf n)).holdFrom = (s.captOf n).holdFrom)
    (hc : (f (s.captOf n)).holdCnt = (s.captOf n).holdCnt) (hv : (f (s.captOf n)).evValid = (s.captOf n).evValid) : TrigKept n s (s.updCapt n f) :=
  ⟨rfl, rfl, rfl, by rw [captOf_updCapt, hf], by rw [captOf_updCapt, hc], by rw [captOf_updCapt, hv]⟩

theorem updChan (s : State) (c : Nat) (f : Chan → Chan) : TrigKept n s (s.updChan c f) := ⟨rfl, rfl, rfl, rfl, rfl, rfl⟩

theorem when {c : Bool} {f : State → State} (h : TrigKept n r s) (hf : TrigKept n r s → TrigKept n r (f s)) : TrigKept n r (s.when c f) :=
  State.when_keeps (TrigKept n r) c f s h hf

theorem each {α : Type} {l : List α} {f : State → α → State} (h : TrigKept n r s) (hf : ∀ {t x}, TrigKept n r t → TrigKept n r (f t x)) :
    TrigKept n r (s.each l f) := State.each_keeps (TrigKept n r) l f s h fun _ _ => hf

end TrigKept

section
variable {n : Site}

theorem trigKept_capture (s : State) (v g : Nat) (r : List Byte) : TrigKept n s (s.capture n v g r) := by
  have hl : R.CAPT_SITE_n_STATUS n ≠ R.CAPT_SITE_n_LOST n := by simp only [R.CAPT_SITE_n_STATUS, R.CAPT_SITE_n_LOST]; omega
  rw [State.capture]
  split
  · exact TrigKept.refl
  · split
    · exact TrigKept.bump hl
    · split
      · refine TrigKept.trans (TrigKept.trans (TrigKept.trans (TrigKept.updCapt _ _ rfl rfl rfl) (TrigKept.put ?_)) (TrigKept.put ?_)) (TrigKept.bump hl) <;>
          (apply all_fin n; decide +kernel)
      · exact TrigKept.updCapt _ _ rfl rfl rfl

theorem trigKept_captFinish (s : State) : TrigKept n s (s.captFinish n) := by
  rw [State.captFinish]
  split
  · exact TrigKept.refl
  · split
    · refine ((TrigKept.when (TrigKept.each TrigKept.refl fun h => h.trans (trigKept_capture _ _ _ _)) fun h => h.trans (trigKept_capture _ _ _ _)).trans
        (TrigKept.updCapt _ _ rfl rfl rfl)).trans (TrigKept.put ?_)
      apply all_fin n; decide +kernel
    · exact TrigKept.refl

/-- The actions of a transition leave the trigger state to `trigEnter`. -/
theorem trigKept_trigActions (s : State) (st act : Nat) : TrigKept n s (s.trigActions n st act) := by
  have hgate : (F.CAPT_SITE_n_STATUS_GATE n).apart (F.CAPT_SITE_n_STATUS_TSTATE n) = true := by
    apply all_fin n; decide +kernel
  have hout : F.CAPT_EVENT_TRIG_OUT.apart (F.CAPT_SITE_n_STATUS_TSTATE n) = true := by
    apply all_fin n; decide +kernel
  have hcnt : ∀ k, R.CAPT_SITE_n_STATUS n ≠ R.CAPT_SITE_n_CNT_k n k := fun k => by
    simp only [R.CAPT_SITE_n_STATUS, R.CAPT_SITE_n_CNT_k]; omega
  have h0 : TrigKept n s (if act.testBit 1 then s.put (F.CAPT_SITE_n_STATUS_GATE n) 0
      else s.when (act.testBit 0) (fun t => t.put (F.CAPT_SITE_n_STATUS_GATE n) 1)) := by
    split
    · exact TrigKept.put hgate
    · exact TrigKept.refl.when fun h => h.trans (TrigKept.put hgate)
  refine each_mem_keeps _ _ _ ((h0.when fun h => h.trans (trigKept_capture _ _ _ _)).when fun h => h.trans (TrigKept.put hout)) fun t k hk h => ?_
  have hk' : k < 4 := List.mem_range.1 hk
  have h1 := TrigKept.when (f := fun u => u.putN (R.CAPT_SITE_n_CNT_k n k) 0) (c := act.testBit (4 + k)) h fun g => h.trans (TrigKept.putN (hcnt k))
  dsimp only
  split
  · exact (h1.trans (TrigKept.updCapt _ _ rfl rfl rfl)).trans (TrigKept.timerBit _ hk' _)
  · split
    · exact (h1.trans (TrigKept.updCapt _ _ rfl rfl rfl)).trans (TrigKept.timerBit _ hk' _)
    · exact h1

/-- The rest of an evaluation, once the transition is taken. -/
def evalDone (s : State) (n : Nat) (x : CaptSite) : State :=
  let s := s.when (x.inCapt && !x.captNow) (fun t =>
    (t.capture n x.evVec x.evTtag (capRec x.evVec false 0 2 x.evTtag 0 0 0 0)).updCapt n (fun x => { x with inCapt := false }))
  (s.updCapt n (fun x => { x with evValid := false, tmrHit := [false, false, false, false] })).captFinish n

theorem evalDone_shows (s : State) (x : CaptSite) : ∀ t, t = evalDone s n x →
    t.get (F.CAPT_SITE_n_STATUS_TSTATE n) = s.get (F.CAPT_SITE_n_STATUS_TSTATE n) ∧ (t.captOf n).evValid = false ∧
      (t.captOf n).holdFrom = (s.captOf n).holdFrom ∧ (t.captOf n).holdCnt = (s.captOf n).holdCnt ∧ t.mem = s.mem ∧ t.seq = s.seq := by
  rintro t rfl
  rw [evalDone]
  generalize hu : State.when _ _ _ = u
  have h : TrigKept n s u := by
    rw [← hu]
    exact TrigKept.refl.when fun h => (h.trans (trigKept_capture _ _ _ _)).trans (TrigKept.updCapt _ _ rfl rfl rfl)
  have hf := trigKept_captFinish (n := n) (u.updCapt n (fun x => { x with evValid := false, tmrHit := [false, false, false, false] }))
  generalize hv : u.updCapt n _ = v at hf
  have hc : v.captOf n = { u.captOf n with evValid := false, tmrHit := [false, false, false, false] } := by rw [← hv, captOf_updCapt]
  have hg : v.get (F.CAPT_SITE_n_STATUS_TSTATE n) = u.get (F.CAPT_SITE_n_STATUS_TSTATE n) := get_congr (by rw [← hv, updCapt_regs]) _
  refine ⟨hf.tstate.trans (hg.trans h.tstate), ?_, ?_, ?_, hf.mem.trans (Eq.trans (by rw [← hv, updCapt_mem]) h.mem),
    hf.seq.trans (Eq.trans (by rw [← hv, updCapt_seq]) h.seq)⟩
  · rw [hf.valid, hc]
  · rw [hf.hold, hc, h.hold]
  · rw [hf.cnt, hc, h.cnt]

/-- With the hold-off over and the event of arm A true, the transition of arm A is taken. -/
theorem triggerEvaluate_armA {s : State} (hv : (s.captOf n).evValid = true) (hp : (s.captOf n).evPhase = 2)
    (ha : (s.captOf n).event (fldOf (F.CAPT_SITE_n_TRIG_ST_s_TRANS_EV_A n (s.get (F.CAPT_SITE_n_STATUS_TSTATE n)))
      ((s.captOf n).trans.getD (s.get (F.CAPT_SITE_n_STATUS_TSTATE n)) 0)) = true) :
    triggerEvaluate n s = evalDone ((s.trigActions n (s.get (F.CAPT_SITE_n_STATUS_TSTATE n))
        (fldOf (F.CAPT_SITE_n_TRIG_ST_s_ACT_ACT_A n (s.get (F.CAPT_SITE_n_STATUS_TSTATE n))) ((s.captOf n).acts.getD (s.get (F.CAPT_SITE_n_STATUS_TSTATE n)) 0))).trigEnter n
        (fldOf (F.CAPT_SITE_n_TRIG_ST_s_TRANS_NEXT_A n (s.get (F.CAPT_SITE_n_STATUS_TSTATE n))) ((s.captOf n).trans.getD (s.get (F.CAPT_SITE_n_STATUS_TSTATE n)) 0)))
      n (s.captOf n) := by
  have h2 : s.evalStep2 n = s := by rw [State.evalStep2, if_neg (by omega)]
  have h3 : s.evalStep3 n = s := by rw [State.evalStep3, h2, if_neg (by omega)]
  rw [triggerEvaluate, if_pos hv, h3]
  simp only [hp, ha, and_self, if_true]
  rfl

theorem triggerEvaluate_held {s : State} (hv : (s.captOf n).evValid = true) (hp : (s.captOf n).evPhase = 3) :
    triggerEvaluate n s = evalDone s n (s.captOf n) := by
  have h2 : s.evalStep2 n = s := by rw [State.evalStep2, if_neg (by omega)]
  have h3 : s.evalStep3 n = s := by rw [State.evalStep3, h2, if_neg (by omega)]
  rw [triggerEvaluate, if_pos hv, h3]
  simp only [hp, show (3 : Nat) ≠ 2 by decide, false_and, if_false]
  rfl

end

/-! ### Counters -/

/-- Memory, the counters of site `n` and their limits and results are the same. -/
structure CntKept (n : Nat) (s t : State) : Prop where
  regs : RegsIf (fun o => ∃ k, o = R.CAPT_SITE_n_CNT_k n k ∧ k < 4) s t
  mem : t.mem = s.mem
  limit : (t.captOf n).cntLimit = (s.captOf n).cntLimit
  done : (t.captOf n).cntDone = (s.captOf n).cntDone

namespace CntKept
variable {n : Nat} {r s t : State}

theorem refl : CntKept n s s := ⟨RegsIf.refl, rfl, rfl, rfl⟩

theorem trans (h : CntKept n r s) (g : CntKept n s t) : CntKept n r t :=
  ⟨h.regs.trans g.regs, g.mem.trans h.mem, g.limit.trans h.limit, g.done.trans h.done⟩

theorem of_regs (h : RegStep (fun o => ∃ k, o = R.CAPT_SITE_n_CNT_k n k ∧ k < 4) s t) : CntKept n s t := by
  obtain ⟨⟨a, rfl⟩, h⟩ := h
  exact ⟨h, rfl, rfl, rfl⟩

theorem put {f : Fld} {v : Nat} (h : ∀ k < 4, f.off ≠ R.CAPT_SITE_n_CNT_k n k) : CntKept n s (s.put f v) :=
  of_regs (RegStep.refl.put fun ⟨k, e, hk⟩ => h k hk e)

theorem bump {o : Nat} (h : ∀ k < 4, o ≠ R.CAPT_SITE_n_CNT_k n k) : CntKept n s (s.bump o) :=
  of_regs (RegStep.refl.bump fun ⟨k, e, hk⟩ => h k hk e)

theorem putBit {o i : Nat} {b : Bool} (h : ∀ k < 4, o ≠ R.CAPT_SITE_n_CNT_k n k) : CntKept n s (s.putBit o i b) :=
  of_regs (RegStep.refl.putBit fun ⟨k, e, hk⟩ => h k hk e)

theorem updCapt (s : State) (f : CaptSite → CaptSite) (hl : (f (s.captOf n)).cntLimit = (s.captOf n).cntLimit)
    (hd : (f (s.captOf n)).cntDone = (s.captOf n).cntDone) : CntKept n s (s.updCapt n f) :=
  ⟨RegsIf.refl.of_regs rfl, rfl, by rw [captOf_updCapt, hl], by rw [captOf_updCapt, hd]⟩

theorem updChan (s : State) (c : Nat) (f : Chan → Chan) : CntKept n s (s.updChan c f) := ⟨RegsIf.refl.of_regs rfl, rfl, rfl, rfl⟩

theorem when {c : Bool} {f : State → State} (h : CntKept n r s) (hf : CntKept n r s → CntKept n r (f s)) : CntKept n r (s.when c f) :=
  State.when_keeps (CntKept n r) c f s h hf

theorem each {α : Type} {l : List α} {f : State → α → State} (h : CntKept n r s) (hf : ∀ {t x}, CntKept n r t → CntKept n r (f t x)) :
    CntKept n r (s.each l f) := State.each_keeps (CntKept n r) l f s h fun _ _ => hf

end CntKept

section
variable {n : Site}

theorem cntKept_capture (s : State) (v g : Nat) (r : List Byte) : CntKept n s (s.capture n v g r) := by
  have hl : ∀ k < 4, R.CAPT_SITE_n_LOST n ≠ R.CAPT_SITE_n_CNT_k n k := fun k _ => by simp only [R.CAPT_SITE_n_LOST, R.CAPT_SITE_n_CNT_k]; omega
  rw [State.capture]
  split
  · exact CntKept.refl
  · split
    · exact CntKept.bump hl
    · split
      · refine (((CntKept.updCapt _ _ rfl rfl).trans (CntKept.put fun k _ => ?_)).trans (CntKept.put fun k _ => ?_)).trans (CntKept.bump hl)
        · simp only [F.CAPT_SITE_n_STATUS_OVERFLOW, R.CAPT_SITE_n_STATUS, R.CAPT_SITE_n_CNT_k]; omega
        · simp only [F.CAPT_EVENT_OVERFLOW, R.CAPT_EVENT, R.CAPT_SITE_n_CNT_k]; omega
      · exact CntKept.updCapt _ _ rfl rfl

theorem cntKept_takeSamples (s : State) (l : List Sample) : CntKept n s (s.takeSamples l).1 := by
  have h : ∀ (l : List Sample) (acc : State × Bool × List Nat), CntKept n s acc.1 → CntKept n s (l.foldl (fun (acc : State × Bool × List Nat) a =>
      let (t, ch, cs) := acc
      let x := t.chanOf a.ch
      let diff := x.sample != a.st
      (t.updChan a.ch (fun x => { x with sample := a.st, unrep := false }),
        ch || (diff && x.sample != 3), if diff || x.unrep then cs ++ [a.ch] else cs)) acc).1 := by
    intro l
    induction l with
    | nil => exact fun _ h => h
    | cons a l ih =>
      rintro ⟨t, ch, cs⟩ h
      refine ih _ ?_
      exact CntKept.trans (s := t) h (CntKept.updChan t a.ch fun x => { x with sample := a.st, unrep := false })
  exact h l _ CntKept.refl

theorem cntKept_sampled {s u v : State} {l : List Sample} {x : Bool × List Nat} (h : CntKept n s u) (e : u.takeSamples l = (v, x)) : CntKept n s v := by
  have g := cntKept_takeSamples (n := n) u l
  rw [e] at g
  exact h.trans g

theorem cntKept_dataRecs (s : State) (h2 : Bool) (l : List Sample) (c : List Nat) : CntKept n s (s.dataRecs n h2 l c) := by
  refine CntKept.refl.each fun h => ?_
  dsimp only
  split
  · exact h
  · exact h.trans (cntKept_capture _ _ _ _)

theorem cntKept_startRecs (s : State) (l : List Sample) : CntKept n s (s.startRecs n l) := by
  refine CntKept.refl.each fun h => CntKept.each (h.trans (cntKept_capture _ _ _ _)) fun g => ?_
  split
  · exact g.trans (CntKept.updChan _ _ _)
  · exact g

theorem cntKept_evalCapture (s : State) : CntKept n s (s.evalCapture n) := by
  have hst : ∀ k < 4, R.CAPT_SITE_n_STATUS n ≠ R.CAPT_SITE_n_CNT_k n k := fun k _ => by simp only [R.CAPT_SITE_n_STATUS, R.CAPT_SITE_n_CNT_k]; omega
  unfold State.evalCapture
  extract_lets _ s1 _ s2
  have h1 : CntKept n s s1 := by
    unfold s1
    split
    · exact CntKept.put hst
    · exact CntKept.refl
  have h2 : CntKept n s s2 := by
    unfold s2
    split
    · exact h1.trans (cntKept_capture _ _ _ _)
    · exact h1
  split
  next s3 _ _ e3 =>
    have h3 : CntKept n s s3 := cntKept_sampled (h2.when fun h => h.trans (cntKept_startRecs _ _)) e3
    extract_lets
    split
    next s4 _ _ e4 =>
      have h4 : CntKept n s s4 := cntKept_sampled (h3.when fun h => h.trans (cntKept_dataRecs _ _ _ _)) e4
      extract_lets
      exact ((CntKept.each (h4.when fun h => h.trans (cntKept_dataRecs _ _ _ _)) fun h => h.trans (cntKept_capture _ _ _ _)).trans (CntKept.put hst)).trans
        (CntKept.updCapt _ _ rfl rfl)

theorem cntKept_evalTimer (s : State) (k : Nat) : CntKept n s (s.evalTimer n k) := by
  rw [State.evalTimer]
  split
  · refine (CntKept.updCapt _ _ rfl rfl).trans (CntKept.putBit fun k _ => ?_)
    simp only [R.CAPT_SITE_n_STATUS, R.CAPT_SITE_n_CNT_k]; omega
  · split
    · exact CntKept.updCapt _ _ rfl rfl
    · exact CntKept.refl

/-- The counters of a site before and after one of them is evaluated. -/
theorem captOf_countUp (s : State) (b : Bool) (o : Nat) (m : Nat) : (s.when b (fun t => t.bump o)).captOf m = s.captOf m := by
  cases b <;> rfl

theorem evalCounter_mem (s : State) (j : Nat) : (s.evalCounter n j).mem = s.mem ∧ ((s.evalCounter n j).captOf n).cntLimit = (s.captOf n).cntLimit ∧
    ((s.evalCounter n j).captOf n).cntDone.length = (s.captOf n).cntDone.length := by
  rw [State.evalCounter]
  rw [captOf_updCapt, captOf_countUp]
  refine ⟨?_, rfl, List.length_set⟩
  rw [updCapt_mem, State.when]
  split
  · exact bump_mem _ _
  · rfl

/-- What the evaluation of one counter does to another. -/
theorem evalCounter_other (s : State) {j k : Nat} (hjk : j ≠ k) : (s.evalCounter n j).num (R.CAPT_SITE_n_CNT_k n k) = s.num (R.CAPT_SITE_n_CNT_k n k) ∧
    ((s.evalCounter n j).captOf n).cntDone.getD k false = (s.captOf n).cntDone.getD k false := by
  have hne : R.CAPT_SITE_n_CNT_k n k ≠ R.CAPT_SITE_n_CNT_k n j := by simp only [R.CAPT_SITE_n_CNT_k]; omega
  rw [State.evalCounter]
  refine ⟨?_, ?_⟩
  · rw [num_congr (updCapt_regs _ _ _), State.when]
    split
    · exact num_bump_apart _ _ _ hne
    · rfl
  · rw [captOf_updCapt, captOf_countUp]
    simp [List.getD_eq_getElem?_getD, List.getElem?_set_ne hjk]

/-- A counter whose evaluation shows it done stands at its limit. -/
theorem evalCounter_done (s : State) {k : Nat} (hk : k < (s.captOf n).cntDone.length) (hl : (s.captOf n).cntLimit.getD k 0 < 2 ^ 32)
    (hd : ((s.evalCounter n k).captOf n).cntDone.getD k false = true) :
    (s.evalCounter n k).num (R.CAPT_SITE_n_CNT_k n k) = (s.captOf n).cntLimit.getD k 0 ∧
      s.num (R.CAPT_SITE_n_CNT_k n k) + 1 = (s.captOf n).cntLimit.getD k 0 := by
  rw [State.evalCounter] at hd ⊢
  rw [captOf_updCapt, captOf_countUp] at hd
  simp only [List.getD_eq_getElem?_getD, List.getElem?_set_self hk, Option.getD_some, Bool.and_eq_true, beq_iff_eq] at hd
  obtain ⟨⟨hup, -⟩, hc⟩ := hd
  refine ⟨?_, by simpa [List.getD_eq_getElem?_getD] using hc⟩
  rw [num_congr (updCapt_regs _ _ _), State.when, if_pos (by simpa [List.getD_eq_getElem?_getD] using hup), num_bump_same]
  rw [List.getD_eq_getElem?_getD] at hl
  rw [List.getD_eq_getElem?_getD, hc, satMax]
  omega

/-- Of counters evaluated one after another, one that is done at the end stands at its limit. -/
theorem evalCounters_done {k : Nat} (l : List Nat) (hl : k ∈ l) (hn : l.Nodup) (s : State) (hk : k < (s.captOf n).cntDone.length)
    (hlim : (s.captOf n).cntLimit.getD k 0 < 2 ^ 32) : ∀ t, t = s.each l (fun t j => t.evalCounter n j) → (t.captOf n).cntDone.getD k false = true →
    t.num (R.CAPT_SITE_n_CNT_k n k) = (s.captOf n).cntLimit.getD k 0 ∧ s.num (R.CAPT_SITE_n_CNT_k n k) + 1 = (s.captOf n).cntLimit.getD k 0 := by
  induction l generalizing s with
  | nil => simp at hl
  | cons j l ih =>
    rintro t rfl hd
    obtain ⟨-, hlm, hlen⟩ := evalCounter_mem (n := n) s j
    obtain ⟨hj, hnd⟩ := List.nodup_cons.1 hn
    by_cases hjk : j = k
    · subst hjk
      have hrest : ∀ (l : List Nat), j ∉ l → ∀ u : State, (u.each l (fun t j => t.evalCounter n j)).num (R.CAPT_SITE_n_CNT_k n j) = u.num (R.CAPT_SITE_n_CNT_k n j) ∧
          ((u.each l (fun t j => t.evalCounter n j)).captOf n).cntDone.getD j false = (u.captOf n).cntDone.getD j false := by
        intro l
        induction l with
        | nil => exact fun _ u => ⟨rfl, rfl⟩
        | cons i l ih' =>
          intro hi u
          obtain ⟨g1, g2⟩ := evalCounter_other (n := n) u (j := i) (k := j) fun e => hi (e ▸ List.mem_cons_self)
          obtain ⟨h1, h2⟩ := ih' (fun h => hi (List.mem_cons_of_mem _ h)) (u.evalCounter n i)
          exact ⟨h1.trans g1, h2.trans g2⟩
      obtain ⟨h1, h2⟩ := hrest l hj (s.evalCounter n j)
      obtain ⟨e1, e2⟩ := evalCounter_done s hk hlim (h2.symm.trans hd)
      exact ⟨h1.trans e1, e2⟩
    · obtain ⟨e1, e2⟩ := ih ((List.mem_cons.1 hl).resolve_left (Ne.symm hjk)) hnd (s.evalCounter n j) (by rw [hlen]; exact hk)
        (by rw [hlm]; exact hlim) _ rfl hd
      rw [hlm] at e1 e2
      rw [(evalCounter_other s hjk).1] at e2
      exact ⟨e1, e2⟩

/-- The first two steps of an evaluation: capture and timers, then the counters. -/
theorem evalStep2_eq {s : State} (hp : (s.captOf n).evPhase = 0) : ∃ u, CntKept n s u ∧
    s.evalStep2 n = (u.each (List.range 4) (fun t j => t.evalCounter n j)).updCapt n (fun x => { x with evPhase := 1 }) := by
  refine ⟨(s.evalCapture n).each (List.range 4) (fun t k => t.evalTimer n k),
    (cntKept_evalCapture s).each fun h => h.trans (cntKept_evalTimer _ _), ?_⟩
  rw [State.evalStep2, if_pos hp]

end

/-- Settles O24: the steps of an evaluation, each with what it leaves alone. -/
theorem triggerSequencer : Obligations.TriggerSequencer := by
  refine ⟨?_, ?_, ?_, ?_, ?_⟩
  · intro s n hv hp ha
    obtain ⟨h1, h2, h3, h4, h5, h6⟩ := evalDone_shows _ _ _ (triggerEvaluate_armA hv hp ha)
    have hk := trigKept_trigActions (n := n) s (s.get (F.CAPT_SITE_n_STATUS_TSTATE n))
      (fldOf (F.CAPT_SITE_n_TRIG_ST_s_ACT_ACT_A n (s.get (F.CAPT_SITE_n_STATUS_TSTATE n))) ((s.captOf n).acts.getD (s.get (F.CAPT_SITE_n_STATUS_TSTATE n)) 0))
    refine ⟨_, rfl, ?_, h2, ?_, ?_, ?_, ?_⟩
    · rw [h1, State.trigEnter, get_congr (updCapt_regs _ _ _)]
      refine (get_put _ _ _ (by simp [F.CAPT_SITE_n_STATUS_TSTATE]) (by simp [F.CAPT_SITE_n_STATUS_TSTATE])).trans (Nat.mod_eq_of_lt ?_)
      exact Nat.mod_lt _ (Nat.two_pow_pos 3)
    · rw [h3, State.trigEnter, captOf_updCapt]
    · rw [h4, State.trigEnter, captOf_updCapt]
    · rw [h5, State.trigEnter, updCapt_mem, put_mem, hk.mem]
    · rw [State.playOf, seqOf_congr h6, State.trigEnter, seqOf_congr (updCapt_seq _ _ _), seqOf_congr (put_seq _ _ _), seqOf_congr hk.seq, State.playOf]
  · intro s n hv hp
    obtain ⟨h1, h2, h3, h4, h5, h6⟩ := evalDone_shows _ _ _ (triggerEvaluate_held hv hp)
    exact ⟨_, rfl, h1, h2, h5⟩
  · intro s n k hv hp he hl hd
    have hrun : timerExpire n k s = (s.updCapt n (fun x => { x with tmrDue := x.tmrDue.set k none, tmrHit := x.tmrHit.set k true })).putBit
        (R.CAPT_SITE_n_STATUS n) (12 + k) false := by
      rw [timerExpire]
      simp only [hv, hp, he, and_self, if_true]
      rw [State.evalTimer]
      simp only [he, if_true]
    have hc : ((s.updCapt n (fun x => { x with tmrDue := x.tmrDue.set k none, tmrHit := x.tmrHit.set k true })).putBit
        (R.CAPT_SITE_n_STATUS n) (12 + k) false).captOf n = { s.captOf n with tmrDue := (s.captOf n).tmrDue.set k none, tmrHit := (s.captOf n).tmrHit.set k true } := by
      rw [captOf_congr (putBit_capt _ _ _ _), captOf_updCapt]
    refine completes_of_eq rfl hrun ⟨?_, ?_, ?_, ?_, ?_⟩
    · rw [hc]
      simp [List.getD_eq_getElem?_getD, hd]
    · rw [hc]
      simp [List.getD_eq_getElem?_getD, hl]
    · rw [bit_putBit _ _ _ _ _ (by omega), if_pos rfl]
    · rw [regsBut_iff]
      exact RegsIf.putBit (RegsIf.of_regs RegsIf.refl (updCapt_regs _ _ _)) (by simp)
    · simp -implicitDefEqProofs [State.eq_iff]
  · intro s n k hv hp hd hl hlim
    obtain ⟨u, hu, h2⟩ := evalStep2_eq hp
    have hrun : counterDone n k s = s.evalStep2 n := by
      rw [counterDone]
      simp only [hv, hp, hd, and_self, if_true]
    have hmem : ∀ (l : List Nat) (v : State), (v.each l (fun t j => t.evalCounter n j)).mem = v.mem := fun l v =>
      State.each_keeps (fun t => t.mem = v.mem) l _ v rfl fun t j h => (evalCounter_mem t j).1.trans h
    rw [h2, captOf_updCapt] at hd
    obtain ⟨e1, e2⟩ := evalCounters_done (n := n) (List.range 4) (List.mem_range.2 k.isLt) List.nodup_range u (by rw [hu.done, hl]; exact k.isLt)
      (by rw [hu.limit]; exact hlim) _ rfl hd
    have hnum : u.num (R.CAPT_SITE_n_CNT_k n k) = s.num (R.CAPT_SITE_n_CNT_k n k) := hu.regs.num ⟨k, rfl, k.isLt⟩
    refine completes_of_eq rfl (hrun.trans h2) ⟨?_, ?_, ?_, ?_⟩
    · rw [num_congr (updCapt_regs _ _ _), e1, hu.limit]
    · rw [← hnum, e2, hu.limit]
    · rw [captOf_updCapt]
    · rw [updCapt_mem, hmem, hu.mem]
  · intro s n f hv hp hm hc hf hle hov
    have h2 : s.evalStep2 n = s := by rw [State.evalStep2, if_neg (by omega)]
    have hh : s.holdStep n = (true, fun y => { y with holdOver := true }) := by
      rw [State.holdStep]
      simp only [hm, hc, hf, hov, Bool.false_eq_true, Option.getD_some, hle, if_true, if_false, or_self, one_ne_zero]
    have h3 : s.evalStep3 n = s.updCapt n (fun x => { x with holdOver := true, evPhase := 2 }) := by
      rw [State.evalStep3, h2, if_pos hp, hh]
      rfl
    have hrun : holdoffEnd n s = s.updCapt n (fun x => { x with holdOver := true, evPhase := 2 }) := by
      rw [holdoffEnd, h3]
      simp only [hv, hp, captOf_updCapt, and_self, if_true]
      rfl
    exact completes_of_eq rfl hrun ⟨by rw [captOf_updCapt], by rw [captOf_updCapt], rfl⟩

end Sys2Proof.Machine
end

section
-- One proof at a time: the whole text then stays within the memory the check allows.
set_option Elab.async false
/-! PROOFS. O26: the time-interval units of a cluster. -/

namespace Sys2Proof.Machine
open State

/-- A property of pairs of members of two finite types, from its truth for all of them. -/
theorem all_fin₂ {k l : Nat} {P : Fin k → Fin l → Prop} (n : Fin k) (m : Fin l) (h : ∀ n m, P n m) : P n m := h n m

/-- A pair holds what was written, cut to 64 bits. -/
theorem pair_putPair_mod (s : State) (o v : Nat) : (s.putPair o v).pair o = v % 2 ^ 64 := by
  have h1 : (s.putPair o v).num o = v % 2 ^ 32 := by
    rw [State.putPair, num_putN_ne _ _ _ _ (by omega), num_putN, Nat.mod_mod]
  have h2 : (s.putPair o v).num (o + 4) = v / 2 ^ 32 % 2 ^ 32 := by rw [State.putPair, num_putN, Nat.mod_mod]
  rw [State.pair, h1, h2]
  omega

theorem word_clearRegs_of_notMem (s : State) {l : List Nat} {o : Nat} (h : o ∉ l) : (s.clearRegs l).word o = s.word o := by
  induction l generalizing s with
  | nil => rfl
  | cons x xs ih =>
    rw [List.mem_cons, not_or] at h
    exact (ih (s.setWord x (resetWord x)) h.2).trans (word_setWord_ne _ _ _ _ h.1)

/-- A register that is cleared holds its reset value. -/
theorem word_clearRegs_of_mem (s : State) {l : List Nat} {o : Nat} (h : o ∈ l) : (s.clearRegs l).word o = resetWord o := by
  induction l generalizing s with
  | nil => cases h
  | cons x xs ih =>
    by_cases hm : o ∈ xs
    · exact ih (s.setWord x (resetWord x)) hm
    · obtain rfl : o = x := (List.mem_cons.1 h).resolve_right hm
      exact (word_clearRegs_of_notMem _ hm).trans (word_setWord ..)

theorem regStep_clearRegs {P : Nat → Prop} (s : State) (l : List Nat) (h : ∀ o ∈ l, ¬ P o) : RegStep P s (s.clearRegs l) :=
  RegStep.refl.each_mem fun hx ht => ht.setWord (h _ hx)

@[simp] theorem tdcOf_updTdc (s : State) (k u : Nat) (f : Tdc → Tdc) : (s.updTdc k u f).tdcOf k u = f (s.tdcOf k u) := by
  simp [State.tdcOf, State.updTdc]

@[simp] theorem get_updTdc (s : State) (k u : Nat) (f : Tdc → Tdc) (g : Fld) : (s.updTdc k u f).get g = s.get g := rfl
@[simp] theorem num_updTdc (s : State) (k u : Nat) (f : Tdc → Tdc) (o : Nat) : (s.updTdc k u f).num o = s.num o := rfl
@[simp] theorem word_updTdc (s : State) (k u : Nat) (f : Tdc → Tdc) (o : Nat) : (s.updTdc k u f).word o = s.word o := rfl

theorem tdcOf_congr {s t : State} (h : t.tdc = s.tdc) (k u : Nat) : t.tdcOf k u = s.tdcOf k u := by rw [State.tdcOf, h, State.tdcOf]

/-! ### What a unit changes -/

/-- Register words and the interval units change, and nothing else. -/
def TdcStep (s t : State) : Prop := ∃ r x, t = { s with regs := r, tdc := x }

namespace TdcStep
variable {r s t : State}

theorem refl : TdcStep s s := ⟨s.regs, s.tdc, rfl⟩

theorem regs {P : Nat → Prop} (h : TdcStep r s) (g : RegStep P s t) : TdcStep r t := by
  obtain ⟨a, x, rfl⟩ := h
  obtain ⟨⟨b, rfl⟩, -⟩ := g
  exact ⟨b, x, rfl⟩

theorem put {f : Fld} {v : Nat} (h : TdcStep r s) : TdcStep r (s.put f v) := h.regs (RegStep.refl.put (P := fun _ => False) id)
theorem putN {o v : Nat} (h : TdcStep r s) : TdcStep r (s.putN o v) := h.regs (RegStep.refl.putN (P := fun _ => False) id)
theorem bump {o : Nat} (h : TdcStep r s) : TdcStep r (s.bump o) := h.regs (RegStep.refl.bump (P := fun _ => False) id)
theorem putPair {o v : Nat} (h : TdcStep r s) : TdcStep r (s.putPair o v) := h.putN.putN
theorem putBit {o i : Nat} {b : Bool} (h : TdcStep r s) : TdcStep r (s.putBit o i b) := h.regs (RegStep.refl.putBit (P := fun _ => False) id)
theorem note {k : Nat} (h : TdcStep r s) : TdcStep r (s.tdcNote k) := h.regs (regStep_tdcNote (P := fun _ => False) s k fun _ _ => id)

theorem updTdc {k u : Nat} {f : Tdc → Tdc} (h : TdcStep r s) : TdcStep r (s.updTdc k u f) := by
  obtain ⟨a, x, rfl⟩ := h
  exact ⟨a, _, rfl⟩

theorem eq (h : TdcStep s t) : t = { s with regs := t.regs, tdc := t.tdc } := by
  obtain ⟨a, x, rfl⟩ := h
  rfl

end TdcStep

/-- A note sets bits 18 to 20 of a unit's status: it keeps the lower fields. -/
theorem get_tdcNote_low (s : State) (k : Nat) (f : Fld) (hl : f.lo ≤ f.hi) (h : f.hi < 18) : (s.tdcNote k).get f = s.get f := by
  have ap (u : Nat) (i : Nat) (h1 : 18 ≤ i) (h2 : i < 32) (t : State) (v : Nat) : (t.put ⟨R.CLU_k_TDC_u_STATUS k u, i, i⟩ v).get f = t.get f := by
    refine get_put_apart _ _ _ _ ?_
    simp only [Fld.apart, Bool.or_eq_true, Bool.and_eq_true, decide_eq_true_eq]
    omega
  refine State.each_keeps (fun t => t.get f = s.get f) _ _ _ rfl fun t u ht => ?_
  dsimp only
  split
  · refine State.when_keeps (fun t => t.get f = s.get f) _ _ _ ?_ fun h => (ap u 19 (by decide) (by decide) _ _).trans h
    refine State.when_keeps (fun t => t.get f = s.get f) _ _ _ ?_ fun h => (ap u 20 (by decide) (by decide) _ _).trans h
    exact State.when_keeps (fun t => t.get f = s.get f) _ _ _ ht fun h => (ap u 18 (by decide) (by decide) _ _).trans h
  · exact ht

section
variable {k : Cluster} {u : Fin 4}

/-- A note keeps every register but the four status words of the cluster's units. -/
theorem regStep_tdcNote_status (s : State) (k : Nat) : RegStep (fun o => ∀ u < 4, o ≠ R.CLU_k_TDC_u_STATUS k u) s (s.tdcNote k) :=
  regStep_tdcNote s k fun u hu h => h u hu rfl

@[simp] theorem tdcOf_tdcNote (s : State) (k k' u : Nat) : (s.tdcNote k).tdcOf k' u = s.tdcOf k' u := by
  obtain ⟨⟨r, h⟩, -⟩ := regStep_tdcNote_status s k
  rw [h]
  rfl

theorem num_tdcNote (s : State) (k : Nat) {o : Nat} (h : ∀ u < 4, o ≠ R.CLU_k_TDC_u_STATUS k u) : (s.tdcNote k).num o = s.num o :=
  (regStep_tdcNote_status s k).keeps.num h

theorem pair_tdcNote (s : State) (k : Nat) {o : Nat} (h : ∀ u < 4, o ≠ R.CLU_k_TDC_u_STATUS k u ∧ o + 4 ≠ R.CLU_k_TDC_u_STATUS k u) :
    (s.tdcNote k).pair o = s.pair o := by
  rw [State.pair, num_tdcNote s k fun u hu => (h u hu).1, num_tdcNote s k fun u hu => (h u hu).2, State.pair]

/-- The registers that arming clears. -/
def armCleared (k u : Nat) : List Nat :=
  [R.CLU_k_TDC_u_EARLY k u, R.CLU_k_TDC_u_EXTRA k u, R.CLU_k_TDC_u_MISSED k u,
    R.CLU_k_TDC_u_START_TIME_LO k u, R.CLU_k_TDC_u_START_TIME_HI k u, R.CLU_k_TDC_u_HIST_CNT k u,
    R.CLU_k_TDC_u_HIST_UNDER k u, R.CLU_k_TDC_u_HIST_OVER k u, R.CLU_k_TDC_u_HIST_NOSTOP k u] ++
    (List.range 16).flatMap (fun i => [R.CLU_k_TDC_u_STOP_i_LO k u i, R.CLU_k_TDC_u_STOP_i_HI k u i]) ++
    (List.range 256).map (R.CLU_k_TDC_u_HBIN_b k u)

/-- The state of a unit that has been armed. -/
def armedUnit (s : State) (k u : Nat) : Tdc where
  hist := s.get (F.CLU_k_TDC_u_CFG_MODE k u) == 1
  endFull := s.is (F.CLU_k_TDC_u_CFG_END_FULL k u)
  stopMax := s.get (F.CLU_k_TDC_u_CFG_STOP_MAX k u)
  tag := s.get (F.CLU_k_TDC_u_CFG_TAG k u)
  startSrc := s.get (F.CLU_k_TDC_u_CFG_START_SRC k u)
  startPol := s.get (F.CLU_k_TDC_u_CFG_START_POL k u)
  stopSrc := s.get (F.CLU_k_TDC_u_CFG_STOP_SRC k u)
  stopPol := s.get (F.CLU_k_TDC_u_CFG_STOP_POL k u)
  openNs := s.num (R.CLU_k_TDC_u_OPEN k u)
  closeNs := s.num (R.CLU_k_TDC_u_CLOSE k u)
  histBase := s.pair (R.CLU_k_TDC_u_HIST_BASE_LO k u)
  binw := s.get (F.CLU_k_TDC_u_HIST_CFG_BINW k u)
  histN := s.num (R.CLU_k_TDC_u_HIST_N k u)
  lastEdge := (s.tdcOf k u).lastEdge

theorem tdcArm_run (k u : Nat) (s : State) (h1 : s.get (F.CLU_k_TDC_u_STATUS_STATE k u) ≠ 1) (h2 : s.get (F.CLU_k_TDC_u_STATUS_STATE k u) ≠ 2)
    (hc : s.get (F.CAL_CL_k_STATE_ACTIVE k) ≠ 1) (hw : s.get (F.CLU_k_TDC_u_OPEN_NS k u) ≤ s.get (F.CLU_k_TDC_u_CLOSE_NS k u)) :
    tdcArm k u s = (((s.clearRegs (armCleared k u)).putN (R.CLU_k_TDC_u_STATUS k u) tdcWait).updTdc k u fun _ =>
      armedUnit ((s.clearRegs (armCleared k u)).putN (R.CLU_k_TDC_u_STATUS k u) tdcWait) k u).tdcNote k := by
  rw [tdcArm, if_neg (by simp [tdcWait, tdcRun, h1, h2]), if_neg (by simp [State.tdcCal, hc]), if_neg (by omega)]
  rfl

theorem not_mem_armCleared {k u o : Nat} (h : o < 0x1028014 + 0x40000 * k + 0x1000 * u) : o ∉ armCleared k u := by
  simp only [armCleared, List.mem_append, List.mem_cons, List.not_mem_nil, or_false, List.mem_flatMap, List.mem_map, List.mem_range,
    R.CLU_k_TDC_u_EARLY, R.CLU_k_TDC_u_EXTRA, R.CLU_k_TDC_u_MISSED, R.CLU_k_TDC_u_START_TIME_LO, R.CLU_k_TDC_u_START_TIME_HI,
    R.CLU_k_TDC_u_HIST_CNT, R.CLU_k_TDC_u_HIST_UNDER, R.CLU_k_TDC_u_HIST_OVER, R.CLU_k_TDC_u_HIST_NOSTOP, R.CLU_k_TDC_u_STOP_i_LO,
    R.CLU_k_TDC_u_STOP_i_HI, R.CLU_k_TDC_u_HBIN_b]
  omega

/-- A field reads its bits of a number that was written to its register. -/
theorem get_putN_field (s : State) (f : Fld) (v : Nat) : (s.putN f.off v).get f = v % 2 ^ 32 / 2 ^ f.lo % 2 ^ (f.hi + 1 - f.lo) := by
  have hg : (s.putN f.off v).get f = (s.putN f.off v).num f.off / 2 ^ f.lo % 2 ^ (f.hi + 1 - f.lo) := rfl
  rw [hg, num_putN]

/-- The unit after arming. -/
theorem tdcArm_shows (s : State) (h1 : s.get (F.CLU_k_TDC_u_STATUS_STATE k u) ≠ 1) (h2 : s.get (F.CLU_k_TDC_u_STATUS_STATE k u) ≠ 2)
    (hc : s.get (F.CAL_CL_k_STATE_ACTIVE k) ≠ 1) (hw : s.get (F.CLU_k_TDC_u_OPEN_NS k u) ≤ s.get (F.CLU_k_TDC_u_CLOSE_NS k u)) :
    Completes (.tdcArm k u) s (fun t => t.get (F.CLU_k_TDC_u_STATUS_STATE k u) = 1 ∧
      t.get (F.CLU_k_TDC_u_STATUS_ARM_ERR k u) = 0 ∧
      t.get (F.CLU_k_TDC_u_STATUS_COUNT k u) = 0 ∧
      t.num (R.CLU_k_TDC_u_MISSED k u) = 0 ∧
      t.num (R.CLU_k_TDC_u_HIST_CNT k u) = 0 ∧
      (t.tdcOf k u).openNs = s.num (R.CLU_k_TDC_u_OPEN k u) ∧
      (t.tdcOf k u).closeNs = s.num (R.CLU_k_TDC_u_CLOSE k u) ∧
      (t.tdcOf k u).stopMax = s.get (F.CLU_k_TDC_u_CFG_STOP_MAX k u) ∧
      t = { s with regs := t.regs, tdc := t.tdc }) := by
  refine completes_of_eq rfl (tdcArm_run k u s h1 h2 hc hw) ?_
  have hR : RegStep (· ∉ armCleared k u) s (s.clearRegs (armCleared k u)) := regStep_clearRegs s _ fun o ho h => h ho
  have zero (o : Nat) (hm : o ∈ armCleared k u) (hs : ∀ j < 4, o ≠ R.CLU_k_TDC_u_STATUS k j) (h0 : resetWord o = 0) (x : Tdc) :
      ((((s.clearRegs (armCleared k u)).putN (R.CLU_k_TDC_u_STATUS k u) tdcWait).updTdc k u fun _ => x).tdcNote k).num o = 0 := by
    rw [num_tdcNote _ _ hs, num_updTdc, num_putN_ne _ _ _ _ (hs u u.isLt), State.num, word_clearRegs_of_mem _ hm, h0]
    rfl
  have kept (o : Nat) (ho : o < 0x1028010 + 0x40000 * k.val + 0x1000 * u.val) :
      ((s.clearRegs (armCleared k u)).putN (R.CLU_k_TDC_u_STATUS k u) tdcWait).num o = s.num o := by
    rw [num_putN_ne _ _ _ _ (by simp only [R.CLU_k_TDC_u_STATUS]; omega), hR.keeps.num (not_mem_armCleared (by omega))]
  have st (f : Fld) (hf : f.off = R.CLU_k_TDC_u_STATUS k u) (hl : f.lo ≤ f.hi) (hh : f.hi < 18) (x : Tdc) :
      ((((s.clearRegs (armCleared k u)).putN (R.CLU_k_TDC_u_STATUS k u) tdcWait).updTdc k u fun _ => x).tdcNote k).get f =
        tdcWait % 2 ^ 32 / 2 ^ f.lo % 2 ^ (f.hi + 1 - f.lo) := by
    rw [get_tdcNote_low _ _ _ hl hh, get_updTdc, ← hf, get_putN_field]
  refine ⟨(st (F.CLU_k_TDC_u_STATUS_STATE k u) rfl (show 0 ≤ 2 by decide) (show 2 < 18 by decide) _).trans
      (by simp [F.CLU_k_TDC_u_STATUS_STATE, tdcWait]),
    (st (F.CLU_k_TDC_u_STATUS_ARM_ERR k u) rfl (show 4 ≤ 7 by decide) (show 7 < 18 by decide) _).trans (by simp [F.CLU_k_TDC_u_STATUS_ARM_ERR, tdcWait]),
    (st (F.CLU_k_TDC_u_STATUS_COUNT k u) rfl (show 12 ≤ 16 by decide) (show 16 < 18 by decide) _).trans (by simp [F.CLU_k_TDC_u_STATUS_COUNT, tdcWait]), ?_, ?_, ?_, ?_, ?_, ?_⟩
  · exact zero _ (by simp [armCleared]) (fun j _ => by simp only [R.CLU_k_TDC_u_MISSED, R.CLU_k_TDC_u_STATUS]; omega)
      (by apply all_fin₂ k u; decide +kernel) _
  · exact zero _ (by simp [armCleared]) (fun j _ => by simp only [R.CLU_k_TDC_u_HIST_CNT, R.CLU_k_TDC_u_STATUS]; omega)
      (by apply all_fin₂ k u; decide +kernel) _
  · rw [tdcOf_tdcNote, tdcOf_updTdc]
    exact kept _ (by simp only [R.CLU_k_TDC_u_OPEN]; omega)
  · rw [tdcOf_tdcNote, tdcOf_updTdc]
    exact kept _ (by simp only [R.CLU_k_TDC_u_CLOSE]; omega)
  · rw [tdcOf_tdcNote, tdcOf_updTdc, armedUnit, State.get, State.get]
    have e := kept (R.CLU_k_TDC_u_CFG k u) (by simp only [R.CLU_k_TDC_u_CFG]; omega)
    exact congrArg (fun x => x / 2 ^ 24 % 2 ^ 5) e
  · exact ((TdcStep.refl.regs hR).putN.updTdc.note).eq

/-- The state of a unit that was aborted by the host. -/
def abortedUnit (s : State) (k u : Nat) : State :=
  ((((s.tdcNote k).put (F.CLU_k_TDC_u_STATUS_STATE k u) tdcAborted).put (F.CLU_k_TDC_u_STATUS_ABORT_CAUSE k u) 1).updTdc k u
    (fun x => { x with rearm := false })).putBit (R.CLU_k_TDC_EVENT k) (4 + u) true

theorem tdcAbort_run (k u : Nat) (s : State)
    (h : s.get (F.CLU_k_TDC_u_STATUS_STATE k u) = 1 ∨ s.get (F.CLU_k_TDC_u_STATUS_STATE k u) = 2) : tdcAbort k u s = abortedUnit s k u := by
  rw [tdcAbort, State.tdcAbortUnit, if_pos (by simpa [tdcWait, tdcRun] using h)] <;> rfl

theorem tdcStart_run (k u c p : Nat) (fall : Bool) (s : State) (h : s.get (F.CLU_k_TDC_u_STATUS_STATE k u) = 1)
    (hf : s.srcFires k (s.tdcOf k u).startSrc = true) (he : edgeOk (s.tdcOf k u).startSrc (s.tdcOf k u).startPol fall = true)
    (hd : (s.tdcOf k u).dead (s.tdcTime k u c p) = false) : tdcStart k u c p fall s =
      (((s.put (F.CLU_k_TDC_u_STATUS_STATE k u) tdcRun).putPair (R.CLU_k_TDC_u_START_TIME_LO k u) s.now).updTdc k u
        (fun x => { x with start := s.tdcTime k u c p, lastEdge := some (s.tdcTime k u c p) })).tdcNote k := by
  rw [tdcStart, if_pos ⟨h, hf, he⟩, if_neg (by simp [hd])] <;> rfl

/-- The state after a stop edge that is stored as the `n`th, `i` after the start. -/
def stopStored (s : State) (k u n : Nat) (t : Int) (i : Nat) (fall : Bool) : State :=
  (((s.updTdc k u (fun x => { x with lastEdge := some t })).putN (R.CLU_k_TDC_u_STOP_i_LO k u n) (i % 2 ^ 32)).putN
    (R.CLU_k_TDC_u_STOP_i_HI k u n) (i / 2 ^ 32 % 2 ^ 12 + 2 ^ 16 * b2n fall)).put (F.CLU_k_TDC_u_STATUS_COUNT k u) (n + 1)

theorem tdcStop_run (k u c p : Nat) (fall : Bool) (s : State) {i : Nat} (h : s.get (F.CLU_k_TDC_u_STATUS_STATE k u) = 2)
    (hr : (s.tdcOf k u).rearm = false) (hf : s.srcFires k (s.tdcOf k u).stopSrc = true)
    (he : edgeOk (s.tdcOf k u).stopSrc (s.tdcOf k u).stopPol fall = true) (hd : (s.tdcOf k u).dead (s.tdcTime k u c p) = false)
    (ht : s.tdcTime k u c p = (s.tdcOf k u).start + i) (ho : 8000 * (s.tdcOf k u).openNs ≤ i) (hc : i ≤ 8000 * (s.tdcOf k u).closeNs)
    (hn : s.get (F.CLU_k_TDC_u_STATUS_COUNT k u) < (s.tdcOf k u).stopMax) (hend : (s.tdcOf k u).endFull = false) :
    tdcStop k u c p fall s = stopStored s k u (s.get (F.CLU_k_TDC_u_STATUS_COUNT k u)) (s.tdcTime k u c p) i fall := by
  have hi : (s.tdcTime k u c p - (s.tdcOf k u).start).toNat = i := by rw [ht]; omega
  have hlt : ¬ s.tdcTime k u c p < (s.tdcOf k u).start := by rw [ht]; omega
  rw [tdcStop, if_pos ⟨h, by simp [hr], hf, he⟩]
  dsimp only
  rw [if_neg hlt, if_neg (by simp [hd]), hi, if_neg (by omega), if_neg (by omega), get_updTdc, if_neg (by omega), hend]
  rfl

/-- What a stored stop edge leaves in the registers. -/
theorem stopStored_shows (s : State) {n : Fin 16} (hn : n.val = s.get (F.CLU_k_TDC_u_STATUS_COUNT k u))
    (h : s.get (F.CLU_k_TDC_u_STATUS_STATE k u) = 2) (t : Int) (i : Nat) (fall : Bool) :
    let v := stopStored s k u n t i fall
    v.num (R.CLU_k_TDC_u_STOP_i_LO k u n) = i % 2 ^ 32 ∧
    v.num (R.CLU_k_TDC_u_STOP_i_HI k u n) = i / 2 ^ 32 % 2 ^ 12 + 2 ^ 16 * b2n fall ∧
    v.get (F.CLU_k_TDC_u_STATUS_COUNT k u) = n + 1 ∧
    v.get (F.CLU_k_TDC_u_STATUS_STATE k u) = 2 ∧
    RegsBut [R.CLU_k_TDC_u_STATUS k u, R.CLU_k_TDC_u_STOP_i_LO k u n, R.CLU_k_TDC_u_STOP_i_HI k u n] s v ∧
    v = { s with regs := v.regs, tdc := v.tdc } := by
  dsimp only
  have hlo : R.CLU_k_TDC_u_STOP_i_LO k u n ≠ R.CLU_k_TDC_u_STATUS k u := by
    simp only [R.CLU_k_TDC_u_STOP_i_LO, R.CLU_k_TDC_u_STATUS]; omega
  have hhi : R.CLU_k_TDC_u_STOP_i_HI k u n ≠ R.CLU_k_TDC_u_STATUS k u := by
    simp only [R.CLU_k_TDC_u_STOP_i_HI, R.CLU_k_TDC_u_STATUS]; omega
  have hne : R.CLU_k_TDC_u_STOP_i_LO k u n ≠ R.CLU_k_TDC_u_STOP_i_HI k u n := by
    simp only [R.CLU_k_TDC_u_STOP_i_HI, R.CLU_k_TDC_u_STOP_i_LO]; omega
  have hb : b2n fall < 2 := by cases fall <;> decide
  refine ⟨?_, ?_, ?_, ?_, ?_, TdcStep.refl.updTdc.putN.putN.put.eq⟩
  · rw [stopStored, num_put_apart _ _ _ _ hlo, num_putN_apart _ _ _ _ hne, num_putN, Nat.mod_mod]
  · rw [stopStored, num_put_apart _ _ _ _ hhi, num_putN_same _ _ _ (by omega)]
  · rw [stopStored, get_put_same _ _ _ (Fld.fits_of_lt (n := 17) (by apply all_fin₂ k u; decide +kernel) (by omega))]
  · rw [stopStored, get_put_apart _ _ _ _ (by apply all_fin₂ k u; decide +kernel), get_putN_apart _ _ _ _ hhi.symm,
      get_putN_apart _ _ _ _ hlo.symm, get_updTdc, h]
  · refine regsBut_iff.2 ((((RegsIf.refl.of_regs (updTdc_regs ..)).putN ?_).putN ?_).put ?_)
    · simp
    · simp
    · exact fun h => h (by simp [F.CLU_k_TDC_u_STATUS_COUNT])

theorem tdcClose_single (k u : Nat) (s : State) (h : s.get (F.CLU_k_TDC_u_STATUS_STATE k u) = 2) (hr : (s.tdcOf k u).rearm = false)
    (hh : (s.tdcOf k u).hist = false) :
    tdcClose k u s = ((s.tdcNote k).put (F.CLU_k_TDC_u_STATUS_STATE k u) tdcDone).tdcEvent k u := by
  rw [tdcClose, if_pos ⟨h, by simp [hr]⟩, State.tdcEnd, if_neg (by simp [hh])]

theorem tdcClose_hist (k u : Nat) (s : State) (h : s.get (F.CLU_k_TDC_u_STATUS_STATE k u) = 2) (hr : (s.tdcOf k u).rearm = false)
    (hh : (s.tdcOf k u).hist = true) : tdcClose k u s = (s.tdcNote k).updTdc k u (fun x => { x with rearm := true }) := by
  rw [tdcClose, if_pos ⟨h, by simp [hr]⟩, State.tdcEnd, if_pos (by simp [hh])]

/-- The state after a measurement was binned in bin `b`, the unit waiting again. -/
def binned (s : State) (k u b : Nat) : State :=
  ((((s.bump (R.CLU_k_TDC_u_HBIN_b k u b)).bump (R.CLU_k_TDC_u_HIST_CNT k u)).updTdc k u (fun x => { x with rearm := false })).put
    (F.CLU_k_TDC_u_STATUS_STATE k u) tdcWait).put (F.CLU_k_TDC_u_STATUS_COUNT k u) 0

/-- What binning leaves in the registers. -/
theorem binned_shows (s : State) (b : Fin 256) :
    let v := binned s k u b
    v.num (R.CLU_k_TDC_u_HBIN_b k u b) = min satMax (s.num (R.CLU_k_TDC_u_HBIN_b k u b) + 1) ∧
    v.num (R.CLU_k_TDC_u_HIST_CNT k u) = min satMax (s.num (R.CLU_k_TDC_u_HIST_CNT k u) + 1) ∧
    v.get (F.CLU_k_TDC_u_STATUS_STATE k u) = 1 ∧
    v.get (F.CLU_k_TDC_u_STATUS_COUNT k u) = 0 ∧
    (v.tdcOf k u).rearm = false ∧
    RegsBut [R.CLU_k_TDC_u_HBIN_b k u b, R.CLU_k_TDC_u_HIST_CNT k u, R.CLU_k_TDC_u_STATUS k u] s v ∧
    v = { s with regs := v.regs, tdc := v.tdc } := by
  dsimp only
  have hb : R.CLU_k_TDC_u_HBIN_b k u b ≠ R.CLU_k_TDC_u_STATUS k u := by
    simp only [R.CLU_k_TDC_u_HBIN_b, R.CLU_k_TDC_u_STATUS]; omega
  have hc : R.CLU_k_TDC_u_HIST_CNT k u ≠ R.CLU_k_TDC_u_STATUS k u := by
    simp only [R.CLU_k_TDC_u_HIST_CNT, R.CLU_k_TDC_u_STATUS]; omega
  have hne : R.CLU_k_TDC_u_HIST_CNT k u ≠ R.CLU_k_TDC_u_HBIN_b k u b := by
    simp only [R.CLU_k_TDC_u_HIST_CNT, R.CLU_k_TDC_u_HBIN_b]; omega
  refine ⟨?_, ?_, ?_, ?_, ?_, ?_, TdcStep.refl.bump.bump.updTdc.put.put.eq⟩
  · rw [binned, num_put_apart _ _ _ _ hb, num_put_apart _ _ _ _ hb, num_updTdc, num_bump_apart _ _ _ hne.symm, num_bump_same]
  · rw [binned, num_put_apart _ _ _ _ hc, num_put_apart _ _ _ _ hc, num_updTdc, num_bump_same, num_bump_apart _ _ _ hne]
  · rw [binned, get_put_apart _ _ _ _ (by apply all_fin₂ k u; decide +kernel), get_put_same _ _ _ (by apply all_fin₂ k u; decide +kernel)]
    rfl
  · rw [binned, get_put_same _ _ _ (by apply all_fin₂ k u; decide +kernel)]
  · rw [binned, tdcOf_congr (put_tdc ..), tdcOf_congr (put_tdc ..), tdcOf_updTdc]
  · refine regsBut_iff.2 ((((((RegsIf.refl).bump ?_).bump ?_).of_regs (updTdc_regs ..)).put ?_).put ?_)
    · simp
    · simp
    · exact fun h => h (by simp [F.CLU_k_TDC_u_STATUS_STATE])
    · exact fun h => h (by simp [F.CLU_k_TDC_u_STATUS_COUNT])

theorem tdcRearm_run (k u : Nat) (b : Fin 256) (s : State) (h : s.get (F.CLU_k_TDC_u_STATUS_STATE k u) = 2)
    (hr : (s.tdcOf k u).rearm = true) (hn : s.get (F.CLU_k_TDC_u_STATUS_COUNT k u) ≠ 0)
    (hb : (s.tdcOf k u).histBase ≤ s.num (R.CLU_k_TDC_u_STOP_i_LO k u 0) + 2 ^ 32 * s.get (F.CLU_k_TDC_u_STOP_i_HI_INTERVAL k u 0))
    (hq : (s.num (R.CLU_k_TDC_u_STOP_i_LO k u 0) + 2 ^ 32 * s.get (F.CLU_k_TDC_u_STOP_i_HI_INTERVAL k u 0) - (s.tdcOf k u).histBase) /
      2 ^ (s.tdcOf k u).binw = b) (hz : (s.tdcOf k u).histN = 0) : tdcRearm k u s = binned s k u b := by
  have hlt : ¬ (s.tdcOf k u).histBase + 256 * 2 ^ (s.tdcOf k u).binw ≤
      s.num (R.CLU_k_TDC_u_STOP_i_LO k u 0) + 2 ^ 32 * s.get (F.CLU_k_TDC_u_STOP_i_HI_INTERVAL k u 0) := by
    have := (Nat.div_lt_iff_lt_mul (Nat.two_pow_pos (s.tdcOf k u).binw)).1 (hq.trans_lt b.isLt)
    omega
  rw [tdcRearm, if_pos ⟨h, hr⟩]
  dsimp only
  rw [if_neg hn, if_neg (Nat.not_lt.2 hb), if_neg hlt, if_neg (by simp [hz]), hq]
  rfl

end

/-- Settles O26: per command, the units' registers read what the command writes last; the note of a lost reference touches
only the upper status bits. -/
theorem intervalMeasurement : Obligations.IntervalMeasurement := by
  refine ⟨?_, ?_, ?_, ?_, ?_, ?_, ?_, ?_, ?_, ?_, ?_⟩
  · intro s k u h1 h2 hc hw
    exact tdcArm_shows s h1 h2 hc hw
  · intro s k u h
    show Host.Outcome.next (tdcArm k u s) = _
    rw [tdcArm, if_pos (by simpa [tdcWait, tdcRun] using h)]
  · intro s k u h1 h2 hc
    show Host.Outcome.next (tdcArm k u s) = _
    rw [tdcArm, if_neg (by simp [tdcWait, tdcRun, h1, h2]), if_pos (by simp [State.tdcCal, hc])]
  · intro s k u h1 h2 hc hw
    show Host.Outcome.next (tdcArm k u s) = _
    rw [tdcArm, if_neg (by simp [tdcWait, tdcRun, h1, h2]), if_neg (by simp [State.tdcCal, hc]), if_pos hw]
  · intro s k u h
    refine completes_of_eq rfl (tdcAbort_run k u s h) ⟨?_, ?_, ?_, ?_⟩
    · simp (disch := (apply all_fin₂ k u; decide +kernel)) [abortedUnit, tdcAborted]
    · simp (disch := (apply all_fin₂ k u; decide +kernel)) [abortedUnit, tdcAborted]
    · rw [abortedUnit, bit_putBit _ _ _ _ _ (by omega), if_pos rfl]
    · exact TdcStep.refl.note.put.put.updTdc.putBit.eq
  · intro s k u c p fall h hf he hd
    refine completes_of_eq rfl (tdcStart_run k u c p fall s h hf he hd) ⟨?_, ?_, ?_, ?_, ?_⟩
    · rw [get_tdcNote_low _ _ _ (show 0 ≤ 2 by decide) (show 2 < 18 by decide), get_updTdc]
      simp (disch := (apply all_fin₂ k u; decide +kernel)) [tdcRun]
    · rw [tdcOf_tdcNote, tdcOf_updTdc]
    · rw [tdcOf_tdcNote, tdcOf_updTdc]
    · rw [pair_tdcNote _ _ fun j _ => by simp only [R.CLU_k_TDC_u_START_TIME_LO, R.CLU_k_TDC_u_STATUS]; omega]
      exact pair_putPair_mod _ _ _
    · exact TdcStep.refl.put.putPair.updTdc.note.eq
  · intro s k u c p fall h hf he hd
    show Host.Outcome.next (tdcStart k u c p fall s) = _
    rw [tdcStart, if_pos ⟨h, hf, he⟩, if_pos hd]
  · intro s k u c p fall i h hr hf he hd ht ho hc hn h16 hend
    refine completes_of_eq rfl (tdcStop_run k u c p fall s h hr hf he hd ht ho hc hn hend) ?_
    obtain ⟨n, hn⟩ : ∃ n : Fin 16, n.val = s.get (F.CLU_k_TDC_u_STATUS_COUNT k u) := ⟨⟨_, h16⟩, rfl⟩
    rw [← hn]
    exact stopStored_shows s hn h _ i fall
  · intro s k u h hr hh
    refine completes_of_eq rfl (tdcClose_single k u s h hr hh) ⟨?_, ?_, ?_, ?_⟩
    · simp (disch := (apply all_fin₂ k u; decide +kernel)) [State.tdcEvent, tdcDone]
    · rw [State.tdcEvent, bit_putBit _ _ _ _ _ (by omega), if_pos rfl]
    · rw [State.tdcEvent, get_putBit_apart _ _ _ _ _ (by apply all_fin₂ k u; decide +kernel),
        get_put_apart _ _ _ _ (by apply all_fin₂ k u; decide +kernel),
        get_tdcNote_low _ _ _ (show 12 ≤ 16 by decide) (show 16 < 18 by decide)]
    · exact TdcStep.refl.note.put.putBit.eq
  · intro s k u h hr hh
    refine completes_of_eq rfl (tdcClose_hist k u s h hr hh) ⟨?_, ?_, ?_⟩
    · rw [get_updTdc, get_tdcNote_low _ _ _ (show 0 ≤ 2 by decide) (show 2 < 18 by decide), h]
    · rw [tdcOf_updTdc]
    · exact TdcStep.refl.note.updTdc.eq
  · intro s k u b h hr hn hb hq hz
    refine completes_of_eq rfl (tdcRearm_run k u b s h hr hn hb hq hz) (binned_shows s b)

end Sys2Proof.Machine
end

section
-- One proof at a time: the whole text then stays within the memory the check allows.
set_option Elab.async false
/-! PROOFS. O27: arming and disarming a site. -/

namespace Sys2Proof.Machine
open State

/-- The state of site 0 in the state of an outcome. -/
def Outcome.siteZero : Host.Outcome State Fault Refusal → Nat
  | .next t => t.siteState 0
  | _ => 0

/-- Site 0 has passed its arm checks with octet 0x1FFF01. -/
def armedStray : State := { site := [(0, { octs := [0x1FFF01], cmd := 1 })] }

/-- Refutes O27: the fail count of a channel of octet 0x1FFF01, which arming clears, would lie at the offset at which SITE_0_STATUS lies.
In a state that binds this octet to site 0, over which the clause of an arm that completes also quantifies, the site is not ARMED. -/
theorem not_siteArmAndDisarm : ¬ Obligations.SiteArmAndDisarm := by
  rintro ⟨-, -, -, -, -, -, -, h, -⟩
  obtain ⟨t, ht, hc, -⟩ := h armedStray 0 (by decide +kernel) (by decide +kernel)
  have e : Outcome.siteZero (exec (.siteArmDone 0) armedStray) = t.siteState 0 := congrArg Outcome.siteZero ht
  exact absurd (e.trans hc) (by decide +kernel)

end Sys2Proof.Machine
end

section
-- One proof at a time: the whole text then stays within the memory the check allows.
set_option Elab.async false
/-! PROOFS. O33: the lanes of an Ulten port. -/

namespace Sys2Proof.Machine
open State

/-! ### A port that goes down while the recovered clock is in use -/

/-- The calibration state is `c`. -/
structure CalIs (c : CalState) (s : State) : Prop where
  eq : s.cal = c

namespace CalIs
variable {c : CalState} {s t : State}

theorem put {f : Fld} {v : Nat} (h : CalIs c s) : CalIs c (s.put f v) := ⟨(put_cal ..).trans h.eq⟩

theorem bump {o : Nat} (h : CalIs c s) : CalIs c (s.bump o) := ⟨(bump_cal ..).trans h.eq⟩

theorem addSat {o k : Nat} (h : CalIs c s) : CalIs c (s.addSat o k) := ⟨(addSat_cal ..).trans h.eq⟩

theorem withUlt {x : UltState} (h : CalIs c s) : CalIs c { s with ult := x } := ⟨h.eq⟩

theorem ite {p : Prop} [Decidable p] (h : CalIs c s) (g : CalIs c t) : CalIs c (if p then s else t) := by
  split
  · exact h
  · exact g

theorem each {α : Type} {l : List α} {f : State → α → State} (h : CalIs c s) (hf : ∀ {t x}, CalIs c t → CalIs c (f t x)) :
    CalIs c (s.each l f) := State.each_keeps (CalIs c) l f s h fun _ _ => hf

theorem reportUp (h : CalIs c s) : CalIs c s.reportUp := by
  rw [State.reportUp]
  split
  · exact h
  · split
    · exact .ite h (.withUlt (.withUlt h))
    · exact h

theorem treeUpdate (h : CalIs c s) : CalIs c s.treeUpdate := by
  unfold State.treeUpdate
  extract_lets _ s1 _ _ s2
  have h1 : CalIs c s1 := by
    unfold s1
    split
    · exact h
    · split
      · exact .ite (.put (.put h)) (.put (.put (.put h)))
      · exact .put h
  have h2 : CalIs c s2 := .each h1 fun h => .put (.put h)
  exact .reportUp (.ite (.withUlt h2) h2)

end CalIs

/-- A lost reference is noted by a SPAN_SKEW that holds its clusters. -/
theorem refBad_refInvalid (s : State) (h : s.cal.span.holds = true) : s.refInvalid.cal.span.refBad = true := by
  have h1 : ((s.refLostAll.each clusterNums (fun t k => t.tdcNote k)).each clusterNums State.calMark).cal.span.holds = true := by
    refine State.each_keeps (fun t => t.cal.span.holds = true) _ _ _ ?_ fun t k ht => ?_
    · have hs : RegStep (fun _ => False) s (s.refLostAll.each clusterNums (fun t k => t.tdcNote k)) :=
        (regStep_invalidateAll s _ _ fun _ _ => id).trans
          (RegStep.refl.each fun {t k} ht => ht.trans (regStep_tdcNote t k fun _ _ => id))
      rw [hs.others]
      exact h
    · rw [State.calMark]
      split
      · exact ht
      · exact ht
  rw [refInvalid_eq]
  dsimp only
  rw [if_pos h1]

/-- The up-port that goes down loses the recovered clock. -/
theorem refBad_ultDown (s : State) (k : Nat) (hm : s.ult.mgmt = none) (hu : s.get F.ULT_STATUS_UP_PORT = k) (hk : k < 4)
    (hr : s.get F.CLK_REF_STATUS_USING_RECOVERED = 1) (hh : s.cal.span.holds = true) : (s.ultDown k).cal.span.refBad = true := by
  unfold State.ultDown
  extract_lets r s1 s2 s3 s4
  have e2 : s2 = s1 := by
    have hm1 : s1.ult.mgmt = none := hm
    unfold s2
    rw [hm1]
  have h4 : RegsIf (fun o => o < 0x3001000 ∧ o ≠ R.ULT_EVENT) s s4 := by
    have h1 : RegsIf (fun o => o < 0x3001000 ∧ o ≠ R.ULT_EVENT) s s1 := (RegsIf.refl.of_regs rfl).addSat fun h => by
      simp only [R.ULT_Pk_LINK_DROP] at h; omega
    refine RegsIf.of_regs ((RegsIf.bump (e2 ▸ h1) fun h => ?_).put fun h => h.2 rfl) rfl
    simp only [R.ULT_Pk_LINK_DOWN_CNT] at h; omega
  have hc : CalIs s.cal s4 := by
    have h1 : CalIs s.cal s1 := .addSat ⟨rfl⟩
    exact .withUlt (.put (.bump (e2 ▸ h1)))
  have hu4 : s4.upPort = some k := by rw [State.upPort, h4.get ⟨by decide, by decide⟩, hu, if_pos hk]
  rw [if_pos hu4, (CalIs.treeUpdate ⟨rfl⟩).eq, State.upPortLost]
  dsimp only
  rw [if_pos (by rw [is_eq, get_putN_apart _ _ _ _ (by decide), h4.get ⟨by decide, by decide⟩, hr]; rfl)]
  refine refBad_refInvalid _ ?_
  simp only [put_cal, putN_cal]
  rw [hc.eq, hh]

/-- Lane 0 of port 0 waits for its partner while the port, the chip's up-port, still shows one ACTIVE lane; the PLLs run from the
recovered clock and a SPAN_SKEW holds its clusters. -/
def staleWidth : State :=
  { regs := [(R.CLK_REF_STATUS, 4), (R.ULT_STATUS, 0), (R.ULT_Pk_STATUS 0, 0x100000), (R.ULT_Pk_Lm_STATE 0 0, 1)],
    cal := { span := { holds := true } } }

/-- The state in which the port of `staleWidth` goes down. -/
def staleDown : State :=
  ((staleWidth.updUlane 0 0 (fun x => { x with rate := 0 })).put (F.ULT_Pk_Lm_STATE_STATE 0 0) ulBase).put (F.ULT_Pk_STATUS_WIDTH 0) 0

/-- The new state of the lane takes the port down. -/
theorem staleWidth_down : ultPartnerDetect 0 0 staleWidth = staleDown.ultDown 0 := by
  have ha : ((staleWidth.updUlane 0 0 (fun x => { x with rate := 0 })).put (F.ULT_Pk_Lm_STATE_STATE 0 0) ulBase).ulActives 0 = [] := by
    decide +kernel
  have hw : (staleWidth.updUlane 0 0 (fun x => { x with rate := 0 })).get (F.ULT_Pk_STATUS_WIDTH 0) = 1 := by decide +kernel
  rw [ultPartnerDetect, if_pos (by decide +kernel), State.ulEnter]
  rw [ha, hw, if_neg (by simp), if_pos ⟨by decide, rfl⟩] <;> rfl

/-- Refutes O33: where a port's WIDTH does not count its ACTIVE lanes, over which the clause of a detected partner also quantifies, the
lane's new state takes the port down; with it the recovered clock is lost, and the calibration that runs notes it. -/
theorem not_ultenLanes : ¬ Obligations.UltenLanes := by
  rintro ⟨-, -, -, -, -, h, -⟩
  obtain ⟨t, ht, -, -, -, hc⟩ := h staleWidth 0 0 (by decide +kernel)
  have ht' : staleDown.ultDown 0 = t := staleWidth_down ▸ Host.Outcome.next.inj ht
  have hb := refBad_ultDown staleDown 0 rfl (by decide +kernel) (by decide) (by decide +kernel) rfl
  rw [ht', hc] at hb
  exact Bool.noConfusion hb

end Sys2Proof.Machine
end

section
-- One proof at a time: the whole text then stays within the memory the check allows.
set_option Elab.async false
/-! PROOFS. O43: the governor. -/

namespace Sys2Proof.Machine
open State

/-- The charge of site 0 in the state of an outcome. -/
def Outcome.chargeZero : Host.Outcome State Fault Refusal → Nat
  | .next t => (t.govOf 0).charge
  | _ => 0

/-- Site 0 is STARTING and plays the timing set 0x7DC201. -/
def strayPeriod : State :=
  { regs := [(R.GOV_SITE_n_CHARGE 0, 1), (R.SITE_n_STATUS 0, 2)], seq := [(0, { play := { tset := 0x7DC201 } })],
    gov := { sites := [(0, { emax := 1 })] } }

/-- Refutes O43: the high word of the period of timing set 0x7DC201 would lie at the offset at which GOV_SITE_0_STATUS lies. In a state in
which site 0 plays this set, over which the clause of an admitted request also quantifies, the grant itself lengthens the period, and the
charge held is not the one that the request asked for. -/
theorem not_governor : ¬ Obligations.Governor := by
  rintro ⟨-, h, -⟩
  obtain ⟨t, ht, -, -, hc, -⟩ := h strayPeriod 0 rfl (by decide +kernel) (by decide +kernel) (by decide +kernel) (by decide +kernel)
    (by decide +kernel)
  have e : Outcome.chargeZero (exec (.admissionRequest 0) strayPeriod) = (t.govOf 0).charge := congrArg Outcome.chargeZero ht
  exact absurd (e.trans hc) (by decide +kernel)

end Sys2Proof.Machine
end

section
-- One proof at a time: the whole text then stays within the memory the check allows.
set_option Elab.async false
/-! PROOFS. O45: SPAN_SKEW of a span. -/

namespace Sys2Proof.Machine
open State

/-- The skew of site 1 in the state of an outcome. -/
def Outcome.skewOne : Host.Outcome State Fault Refusal → Nat
  | .next t => t.get (F.CAL_SITE_n_SKEW_SKEW 1)
  | _ => 0

/-- A SPAN_SKEW of site 1, which binds octet 128 and has a skew of 4 steps, holds its clusters. -/
def straySkew : State :=
  { regs := [(R.CAL_SITE_n_SKEW 1, 4)], site := [(1, { octs := [128] })], cal := { span := { site := some 1, holds := true } } }

/-- Refutes O45: the calibration state of cluster 64 would lie at the offset at which CAL_SITE_1_SKEW lies. In a state in which site 1 binds
octet 128, over which the clause of a SPAN_SKEW that fails also quantifies, the release of the clusters clears the skew. -/
theorem not_spanSkewAndEphemeris : ¬ Obligations.SpanSkewAndEphemeris := by
  rintro ⟨-, -, -, -, -, -, -, -, h, -⟩
  obtain ⟨t, ht, -, -, -, hc⟩ := h straySkew 1 0 (by decide +kernel) (by decide +kernel) (by decide +kernel)
  have e : Outcome.skewOne (exec (.spanSkewEnd 0 true) straySkew) = t.get (F.CAL_SITE_n_SKEW_SKEW 1) := congrArg Outcome.skewOne ht
  exact absurd (e.trans hc) (by decide +kernel)

end Sys2Proof.Machine
end

section
-- One proof at a time: the whole text then stays within the memory the check allows.
set_option Elab.async false
/-! PROOFS. O30: flags, heartbeats and losses of a span. -/

namespace Sys2Proof.Machine
open State

/-- Bit 2 of the second MISS_MAP word of site 0 in the state of an outcome. -/
def Outcome.missBit : Host.Outcome State Fault Refusal → Bool
  | .next t => t.bit (R.SITE_n_MISS_MAP_w 0 1) 2
  | _ => false

/-- Site 0 runs as a member of a span of 64 chips, binds octet 0xCFF82, and its SPAN_SKEW holds the clusters. -/
def heldStray : State :=
  { regs := [(R.SITE_n_STATUS 0, 3)], site := [(0, { octs := [0xCFF82], role := 2, chips := 64 })], cal := { span := { site := some 0, holds := true } } }

/-- Refutes O30: CAL_CL_k_STATE of cluster 0x67FC1, to which octet 0xCFF82 would belong, would lie at the offset of the second MISS_MAP
word of site 0. In a state that binds this octet to the site, over which the clause of a lost member also quantifies, the loss of member 34
sets the bit, and the end of the SPAN_SKEW reads it as an active SPAN and clears it. -/
theorem not_spanFlagsAndLoss : ¬ Obligations.SpanFlagsAndLoss := by
  rintro ⟨-, -, -, -, -, h, -⟩
  obtain ⟨t, ht, hc, -⟩ := h heldStray 0 34 (by decide +kernel) (by decide +kernel) (by decide +kernel) (by decide +kernel) (by decide +kernel)
  have e : Outcome.missBit (exec (.memberLost 0 34) heldStray) = t.bit (R.SITE_n_MISS_MAP_w 0 1) 2 := congrArg Outcome.missBit ht
  exact absurd (e.trans hc) (by decide +kernel)

end Sys2Proof.Machine
end

section
-- One proof at a time: the whole text then stays within the memory the check allows.
set_option Elab.async false
/-! PROOFS. O48: the records of CHIP_CONFIG. -/

namespace Sys2Proof.Machine
open State

/-- The boot error in the state of an outcome. -/
def Outcome.bootErr : Host.Outcome State Fault Refusal → Nat
  | .next t => t.get F.BOOT_STAGE_ERR
  | _ => 0

/-- The bytes `l` of the flash from address `a` on. -/
def flashBytes (a : Nat) (l : List Byte) : Tab Byte := l.zipIdx.map (fun x => (a + x.2, x.1))

/-- CHIP_CONFIG of slot A is one REG record for an unmapped register, and the count of unmapped accesses is saturated. -/
def saturatedUnmapped : State :=
  { regs := [(R.GLB_ERR_UNMAPPED, BitVec.ofNat 32 satMax), (R.BOOT_STAGE, 9)],
    mgmt := { flash := flashBytes 0x14 [1] ++ flashBytes 0xE0 [1, 0, 0, 0, 0x40, 2, 0, 0, 12, 0, 0, 0] ++
      flashBytes 0x240 [1, 0, 8, 0, 0xFC, 0xFF, 0xFF, 7, 0, 0, 0, 0] } }

/-- Refutes O48: a refused record is noticed by a counter of refusals that rises, and GLB_ERR_UNMAPPED does not rise once it is
saturated. In such a state, over which the clause of a refused REG record also quantifies, the record counts as done. -/
theorem not_configurationRecords : ¬ Obligations.ConfigurationRecords := by
  rintro ⟨-, -, -, -, -, -, -, -, -, -, -, -, h⟩
  obtain ⟨t, ht, hc, -⟩ := h saturatedUnmapped 0 16 (by decide +kernel) (by decide +kernel)
  have e : Outcome.bootErr (exec .configReg saturatedUnmapped) = t.get F.BOOT_STAGE_ERR := congrArg Outcome.bootErr ht
  exact absurd (e.trans hc) (by decide +kernel)

end Sys2Proof.Machine
end

section
-- One proof at a time: the whole text then stays within the memory the check allows.
set_option Elab.async false
/-! PROOFS. O53: the console, the SMBus responder and the TAP. -/

namespace Sys2Proof.Machine
open State

/-! ### The console -/

/-- The fills are shown in MGS_UART_STATUS, and nothing else changes. -/
theorem uartShow_shows (s : State) : RegStep (· ∉ [R.MGS_UART_STATUS]) s s.uartShow ∧
    (s.mgmt.rx.length < 256 → s.uartShow.get F.MGS_UART_STATUS_RX_FILL = s.mgmt.rx.length) ∧
    (s.mgmt.tx.length < 256 → s.uartShow.get F.MGS_UART_STATUS_TX_FILL = s.mgmt.tx.length) := by
  refine ⟨(RegStep.refl.put (by simp [F.MGS_UART_STATUS_RX_FILL])).put (by simp [F.MGS_UART_STATUS_TX_FILL]), fun h => ?_, fun h => ?_⟩
  · rw [State.uartShow, get_put_apart _ _ _ _ (by decide), get_put_same _ _ _ (Fld.fits_of_lt (n := 256) rfl h)]
  · rw [State.uartShow, get_put_same _ _ _ (Fld.fits_of_lt (n := 256) rfl h)]

/-- The state with other FIFOs and other balls, whose fills are shown. -/
theorem uartShow_others {s : State} {m : MgmtState} {p : Pins} (t : State) (h : t = { s with mgmt := m, pins := p }.uartShow) :
    RegsBut [R.MGS_UART_STATUS] s t ∧ t.mgmt = m ∧ t.pins = p ∧ t = { s with regs := t.regs, mgmt := t.mgmt, pins := t.pins } := by
  obtain ⟨⟨⟨r, hr⟩, hs⟩, -, -⟩ := uartShow_shows { s with mgmt := m, pins := p }
  rw [hr] at hs h
  subst h
  exact ⟨hs, rfl, rfl, rfl⟩

/-! ### The SMBus responder -/

theorem smbAnswer_plain {s : State} (cmd : Nat) (d : List Byte) (h : s.get F.MGS_SMB_CFG_PEC = 0) :
    s.smbAnswer cmd d = { s with mgmt := { s.mgmt with smb := d } } := by
  simp [State.smbAnswer, is_eq, h]

theorem smbAnswer_pec {s : State} (cmd : Nat) (d : List Byte) (h : s.get F.MGS_SMB_CFG_PEC = 1) :
    s.smbAnswer cmd d = { s with mgmt := { s.mgmt with smb := d ++ [BitVec.ofNat 8
      (([BitVec.ofNat 8 (2 * s.get F.MGS_SMB_CFG_ADDR), BitVec.ofNat 8 cmd, BitVec.ofNat 8 (2 * s.get F.MGS_SMB_CFG_ADDR + 1)] ++
        d).foldl pecByte 0)] } } := by
  simp [State.smbAnswer, is_eq, h]

theorem completes_smbAnswer_plain {c : Instr} {s : State} {cmd : Nat} {d : List Byte} (e : exec c s = .next (s.smbAnswer cmd d))
    (h : s.get F.MGS_SMB_CFG_PEC = 0) :
    Completes c s (fun t => t.mgmt.smb = d ∧ t = { s with mgmt := { s.mgmt with smb := t.mgmt.smb } }) :=
  completes_of_eq e (smbAnswer_plain cmd d h) ⟨rfl, rfl⟩

theorem completes_smbAnswer_pec {c : Instr} {s : State} {cmd : Nat} {d : List Byte} (b : Byte) (e : exec c s = .next (s.smbAnswer cmd d))
    (hb : BitVec.ofNat 8 cmd = b) (h : s.get F.MGS_SMB_CFG_PEC = 1) :
    Completes c s (fun t => t.mgmt.smb = d ++ [BitVec.ofNat 8
      (([BitVec.ofNat 8 (2 * s.get F.MGS_SMB_CFG_ADDR), b, BitVec.ofNat 8 (2 * s.get F.MGS_SMB_CFG_ADDR + 1)] ++ d).foldl pecByte 0)] ∧
      t.regs = s.regs) :=
  completes_of_eq e (smbAnswer_pec cmd d h) ⟨by rw [hb], rfl⟩

/-! ### The TAP -/

/-- The bypass register holds 0 at first: it delays the bits by one. -/
theorem take_bypass {d : List Bool} (h : d ≠ []) : (false :: d).take d.length = false :: d.dropLast := by
  obtain ⟨n, hn⟩ : ∃ n, d.length = n + 1 := Nat.exists_eq_succ_of_ne_zero (by simpa using h)
  rw [hn, List.take_succ_cons, List.dropLast_eq_take, hn, Nat.add_sub_cancel]

/-- Outside the registers that are captured when they are read, a read refreshes nothing. -/
theorem refreshRead_eq {off : Nat} (s : State) (h : ¬ (R.XL_n_CTRL 0 ≤ off ∧ off < R.XL_n_CTRL 128))
    (hr : (List.range 8).find? (fun i => off == R.ULT_Pk_Lm_RAW_RX_LO (i / 2) (i % 2) || off == R.ULT_Pk_Lm_RAW_SYNC (i / 2) (i % 2)) = none) :
    s.refreshRead off = s := by
  rw [State.refreshRead, if_neg h, hr]

theorem rq_answer (r : Req) (v : Word) (s : State) : (s.answer r v).rq r = { s.rq r with rword := v } := by
  rw [State.answer, State.updRq, State.rq, Tab.get_set_same]

/-- A 32-bit read of a scratch register answers its word. -/
theorem registerRead_scratch (r : Req) (k : Fin 4) (s : State) :
    ∃ q, registerRead r (R.GLB_SCRATCHk k) s = { s with req := q } ∧
      (registerRead r (R.GLB_SCRATCHk k) s).rq r = { s.rq r with rword := s.word (R.GLB_SCRATCHk k) } := by
  have hf : ∀ k : Fin 4, findRow (R.GLB_SCRATCHk k) = some ⟨0x40, [(4, 4)], [fA 31 0 .rw 0]⟩ := by decide +kernel
  have hspace : ∀ k : Fin 4, inRegSpace (R.GLB_SCRATCHk k) = true := by decide
  have ha : ∀ k : Fin 4, R.GLB_SCRATCHk k % 4 = 0 := by decide
  have hd : ∀ k : Fin 4, R.GLB_SCRATCHk k / 4 * 4 = R.GLB_SCRATCHk k := by decide
  have hsram : ∀ k : Fin 4, inMgmtSram (R.GLB_SCRATCHk k) = false := by decide
  have hrr : ∀ k : Fin 4, readRules.find? (fun w => arrHit w.off w.dims (R.GLB_SCRATCHk k)) = none := by decide +kernel
  have hvr : ∀ k : Fin 4, viewRules.find? (fun w => arrHit w.off w.dims (R.GLB_SCRATCHk k)) = none := by decide +kernel
  have hlo : ∀ k : Fin 4, isPairLo (R.GLB_SCRATCHk k) = false := by decide +kernel
  have hhi : ∀ k : Fin 4, isPairHi (R.GLB_SCRATCHk k) = false := by decide +kernel
  have hx : ∀ k : Fin 4, ¬ (R.XL_n_CTRL 0 ≤ R.GLB_SCRATCHk k ∧ R.GLB_SCRATCHk k < R.XL_n_CTRL 128) := by decide
  have hu : ∀ k : Fin 4, (List.range 8).find? (fun i => R.GLB_SCRATCHk k == R.ULT_Pk_Lm_RAW_RX_LO (i / 2) (i % 2) ||
    R.GLB_SCRATCHk k == R.ULT_Pk_Lm_RAW_SYNC (i / 2) (i % 2)) = none := by decide
  have hm : s.regMapped (R.GLB_SCRATCHk k) = true := by
    have : ∀ k : Fin 4, ¬ (0xC00000 ≤ R.GLB_SCRATCHk k ∧ R.GLB_SCRATCHk k < 0xE00000) := by decide
    have := this k
    simp [State.regMapped, hf k]
    omega
  have hr : regRead r (R.GLB_SCRATCHk k) s = s.answer r (s.word (R.GLB_SCRATCHk k)) := by
    have hv : s.regView r (R.GLB_SCRATCHk k) = s.word (R.GLB_SCRATCHk k) := by
      simp [State.regView, hvr k, hf k, maskRead, fA]
    simp [regRead, hsram k, hrr k, hhi k, hlo k, refreshRead_eq s (hx k) (hu k), hf k, clearRc, fA, hv]
  have e : registerRead r (R.GLB_SCRATCHk k) s = (s.answer r (s.word (R.GLB_SCRATCHk k))).answer r (s.word (R.GLB_SCRATCHk k)) := by
    have hw : ((s.answer r (s.word (R.GLB_SCRATCHk k))).rq r).rword = s.word (R.GLB_SCRATCHk k) := by rw [rq_answer]
    have hv : BitVec.ofNat 32 ((s.word (R.GLB_SCRATCHk k)).toNat % 4294967296) = s.word (R.GLB_SCRATCHk k) := by
      rw [Nat.mod_eq_of_lt (s.word (R.GLB_SCRATCHk k)).isLt, BitVec.ofNat_toNat, BitVec.setWidth_eq]
    simp [registerRead, hspace k, regLoad, ha k, hd k, hm, hr, hw, hv]
  exact ⟨_, e, by rw [e, rq_answer, rq_answer]⟩

/-- Settles O53: each command is rewritten to what it stores. The console's clauses rest on `uartShow_shows`, the SMBus's on the two equations
of `smbAnswer`, and register access through the TAP on plain writes and reads of a scratch register. -/
theorem consoleSmbusTap : Obligations.ConsoleSmbusTap := by
  refine ⟨?_, ?_, ?_, ?_, ?_, ?_, ?_, ?_, ?_, ?_, ?_, ?_, ?_, ?_, ?_, ?_, ?_, ?_, ?_, ?_, ?_, ?_, ?_, ?_, ?_, ?_, ?_, ?_, ?_, ?_⟩
  · intro s b he hl
    refine completes_of_eq rfl (t := { s with mgmt := { s.mgmt with rx := s.mgmt.rx ++ [b] } }.uartShow) ?_ ?_
    · have : ¬ 64 ≤ s.mgmt.rx.length := by omega
      simp [uartRxByte, is_eq, he, this]
    · obtain ⟨hr, hm, hp, ho⟩ := uartShow_others (s := s) _ rfl
      refine ⟨congrArg MgmtState.rx hm, ?_, hr, ho.trans (by rw [hp])⟩
      rw [(uartShow_shows _).2.1 (by simp; omega)]
      simp
  · intro s b he hl
    exact congrArg Host.Outcome.next (by simp [uartRxByte, is_eq, he, hl])
  · intro s b he
    exact congrArg Host.Outcome.next (by simp [uartRxByte, is_eq, he])
  · intro s b p he
    exact congrArg Host.Outcome.next (by simp [uartRxByte, is_eq, he])
  · intro s v hl
    refine completes_of_eq rfl (t := { s with mgmt := { s.mgmt with tx := s.mgmt.tx ++ [BitVec.ofNat 8 (bitsOf v 7 0)] } }.uartShow) ?_ ?_
    · have : ¬ 64 ≤ s.mgmt.tx.length := by omega
      simp [uartDataWrite, this]
    · obtain ⟨hr, hm, hp, ho⟩ := uartShow_others (s := s) _ rfl
      refine ⟨congrArg MgmtState.tx hm, ?_, hr, ho.trans (by rw [hp])⟩
      rw [(uartShow_shows _).2.2 (by simp; omega)]
      simp
  · intro s r b l h hl
    have hq := uartShow_others (s := s) (m := { s.mgmt with rx := l }) (p := s.pins) _ rfl
    have hl := (uartShow_shows { s with mgmt := { s.mgmt with rx := l } }).2.1 (by simp; omega)
    refine completes_of_eq rfl (t := ({ s with mgmt := { s.mgmt with rx := l } }.uartShow).answer r (BitVec.ofNat 32 (256 + b.toNat)))
      (by rw [uartDataRead, h]; rfl) ?_
    generalize ({ s with mgmt := { s.mgmt with rx := l } } : State).uartShow = u at hq hl
    obtain ⟨hr, hm, hp, ho⟩ := hq
    refine ⟨?_, ?_, (get_congr (updRq_regs _ _ _) _).trans hl, RegsIf.of_regs hr (updRq_regs _ _ _), ?_⟩
    · have : b.toNat < 256 := b.isLt
      rw [rq_answer]
      simp
      omega
    · exact congrArg MgmtState.rx hm
    · rw [ho, hp]
      rfl
  · intro s r h
    exact congrArg Host.Outcome.next (by rw [uartDataRead, h])
  · intro s b l h hl
    refine completes_of_eq rfl (t := { s with mgmt := { s.mgmt with tx := l }, pins := { s.pins with uartTx := s.pins.uartTx ++ [b] } }.uartShow)
      (by rw [uartTxSent, h]) ?_
    obtain ⟨hr, hm, hp, ho⟩ := uartShow_others (s := s) _ rfl
    exact ⟨congrArg MgmtState.tx hm, congrArg Pins.uartTx hp, (uartShow_shows _).2.2 (by simp; omega), hr⟩
  · exact fun s h => completes_smbAnswer_plain rfl h
  · exact fun s h => completes_smbAnswer_pec 1 rfl rfl h
  · exact fun s h => completes_smbAnswer_plain rfl h
  · exact fun s h => completes_smbAnswer_pec 2 rfl rfl h
  · exact fun s h => completes_smbAnswer_plain rfl h
  · exact fun s h => completes_smbAnswer_pec 3 rfl rfl h
  · exact fun s h => completes_smbAnswer_plain rfl h
  · exact fun s h => completes_smbAnswer_pec 4 rfl rfl h
  · exact fun s h => completes_smbAnswer_plain rfl h
  · exact fun s h => completes_smbAnswer_pec 5 rfl rfl h
  · exact fun s h => ⟨_, rfl, by simp [smbAra, State.smbAlert, h], rfl⟩
  · intro s h ht
    have : ¬ (8 * (s.get F.GOV_TJ_CFG_ADMIT : Int) ≤ s.hottest) := by omega
    exact ⟨_, rfl, by simp [smbAra, State.smbAlert, h, this], rfl⟩
  · exact fun s => ⟨_, rfl, rfl, rfl, rfl⟩
  · exact fun s d h => ⟨_, rfl, rfl, take_bypass h, rfl, rfl⟩
  · exact fun s d h => ⟨_, rfl, rfl, take_bypass h, rfl, rfl⟩
  · exact fun s d h => ⟨_, rfl, rfl, take_bypass h, rfl, rfl⟩
  · exact fun s => ⟨_, rfl, rfl, by simp [jtagIdcode, State.tapLoad, bitsLsb], by simp [jtagIdcode, State.tapLoad, bitsLsb, List.range_succ_eq_map]; omega, rfl⟩
  · exact fun s d e => ⟨_, rfl, rfl, rfl, rfl, rfl⟩
  · exact fun s d e => ⟨_, rfl, rfl, rfl, rfl, rfl⟩
  · intro s m h
    have hs : inRegSpace (R.GLB_SCRATCHk m) = true := by clear h; revert m; decide
    obtain ⟨q, e, hq⟩ := registerRead_scratch .mgmt m s
    refine completes_of_eq rfl (t := { s with req := q }.tapLoad tapReg (bitsLsb 32 (s.num (R.GLB_SCRATCHk m)))) ?_ ⟨rfl, rfl, rfl⟩
    have hn : (({ s with req := q } : State).rq .mgmt).rword.toNat = s.num (R.GLB_SCRATCHk m) := by rw [← e, hq, State.num]
    rw [jtagRegAccess, if_pos ⟨h, hs⟩, e]
    exact congrArg (fun n => State.tapLoad { s with req := q } tapReg (bitsLsb 32 n)) hn
  · intro s m v h
    have hs : inRegSpace (R.GLB_SCRATCHk m) = true := by clear h; revert m; decide
    have hp : ∀ k : Fin 4, plainAt (R.GLB_SCRATCHk k) = true := by decide +kernel
    have hf : ∀ k : Fin 4, findRow (R.GLB_SCRATCHk k) = some ⟨0x40, [(4, 4)], [fA 31 0 .rw 0]⟩ := by decide +kernel
    have hw : regStore .mgmt (R.GLB_SCRATCHk m) 4 v s = s.putN (R.GLB_SCRATCHk m) v.toNat := by
      have := registerWrite_plain .mgmt v.toNat s (hp m)
      simp [registerWrite, hs] at this
      rw [this]
      simp [State.plainWrite, hf m, writeFields, writeField, fA, inRanges]
      rw [put_wholeWord, bitsOf, Nat.pow_zero, Nat.div_one, Nat.mod_eq_of_lt v.isLt]
    refine completes_of_eq rfl (t := (s.putN (R.GLB_SCRATCHk m) v.toNat).tapLoad tapReg []) ?_ ⟨?_, ?_, rfl⟩
    · simp only [jtagRegAccess, if_pos (show s.jtagOk (R.GLB_SCRATCHk m) = true ∧ inRegSpace (R.GLB_SCRATCHk m) = true from ⟨h, hs⟩), hw]
    · simp [State.tapLoad, State.putN, word_setWord]
    · exact (RegsIf.refl.putN (by simp)).of_regs rfl
  · intro s o v h
    refine completes_of_eq rfl (t := s.tapLoad tapReg []) ?_ ⟨rfl, rfl⟩
    simp [jtagRegAccess, h]

end Sys2Proof.Machine
end

section
-- One proof at a time: the whole text then stays within the memory the check allows.
set_option Elab.async false
/-! PROOFS. O46: power, resets and what they leave. -/

namespace Sys2Proof.Machine
open State

/-- With room in the queue, an event of the chip queues one record. -/
theorem logEvent_queues (s : State) (src : Nat) (h : s.mgmt.logQ.length < 256) :
    ∃ n b, s.logEvent src = { s with free := n, mgmt := { s.mgmt with logQ := s.mgmt.logQ ++ [b] } } := by
  have : ¬ 256 ≤ s.mgmt.logQ.length := by omega
  simp only [State.logEvent, State.logPush, State.freeBits, this, if_false]
  exact ⟨_, _, rfl⟩

/-- Registers that the start of a boot changes. -/
def bootRegs : List Nat :=
  [R.BOOT_STRAP, R.BOOT_RESET_CAUSE, R.BOOT_STAGE, R.GLB_STATUS, R.GLB_COMPAT, R.ULT_STATUS, R.BOOT_TRIAL_CNT, R.MGS_SAFE_STATUS,
    R.MGS_KA_STATUS]

/-- `t` is what a reset leaves of `s`. -/
structure AfterReset (s t : State) : Prop where
  regs : RegsIf (· ∉ bootRegs ++ [R.MGS_KA_BOOTS]) State.reset t
  mem : t.mem = []
  flash : t.mgmt.flash = s.mgmt.flash
  boots : t.num R.MGS_KA_BOOTS = s.num R.MGS_KA_BOOTS
  now : t.now = 0
  blocks : t.seq = [] ∧ t.strm = [] ∧ t.site = [] ∧ t.hart = [] ∧ t.sched = {} ∧ t.intc = {} ∧ t.ult = {} ∧ t.gov = {}

theorem AfterReset.regStep {s t u : State} (h : AfterReset s t) (g : RegStep (· ∉ bootRegs) t u) : AfterReset s u := by
  obtain ⟨⟨r, rfl⟩, hr⟩ := g
  exact ⟨h.regs.trans (fun o ho => hr o fun hb => ho (List.mem_append_left _ hb)), h.mem, h.flash, (hr.num (by decide)).trans h.boots, h.now, h.blocks⟩

theorem AfterReset.others {s t : State} (h : AfterReset s t) (n : Nat) (b : BootState) (q : List (List Byte)) :
    AfterReset s { t with free := n, boot := b, mgmt := { t.mgmt with logQ := q } } :=
  ⟨h.regs.of_regs rfl, h.mem, h.flash, h.boots, h.now, h.blocks⟩

/-- The state of a reset before the registers that outlive it are written. -/
def State.resetBase (s : State) : State :=
  { State.reset with
    pending := s.pending
    free := s.free
    pins := { s.pins with vid := 3, thermtripN := !s.pins.pwrgood || s.pins.thermtripN }
    boot := { first := !s.pins.pwrgood }
    mgmt := { flash := s.mgmt.flash, rtc := s.mgmt.rtc + s.now, vbatLost := s.mgmt.vbatLost, tap := s.mgmt.tap } }

theorem resetAll_eq (s : State) (c : Nat) : ∃ v, s.resetAll c =
    ((((s.resetBase.setWord R.MGS_KA_STATUS (s.word R.MGS_KA_STATUS)).setWord R.MGS_KA_BOOTS (s.word R.MGS_KA_BOOTS)).put
      F.BOOT_TRIAL_CNT_COUNT (s.get F.BOOT_TRIAL_CNT_COUNT)).put F.MGS_SAFE_STATUS_SRC v).put F.BOOT_RESET_CAUSE_CAUSE c := ⟨_, rfl⟩

/-- A reset of every block. -/
theorem resetAll_shows (s : State) (c : Nat) (hc : c < 8) (t : State) (h : t = s.resetAll c) :
    AfterReset s t ∧ t.mgmt.logQ = [] ∧ t.mgmt.expired = false ∧ t.pins.pwrgood = s.pins.pwrgood ∧ t.get F.BOOT_RESET_CAUSE_CAUSE = c ∧
      RegsIf (· ∉ [R.MGS_KA_STATUS, R.MGS_KA_BOOTS, R.BOOT_TRIAL_CNT, R.MGS_SAFE_STATUS, R.BOOT_RESET_CAUSE]) State.reset t := by
  obtain ⟨v, hv⟩ := resetAll_eq s c
  have g : RegStep (· ∉ [R.MGS_KA_STATUS, R.MGS_KA_BOOTS, R.BOOT_TRIAL_CNT, R.MGS_SAFE_STATUS, R.BOOT_RESET_CAUSE]) s.resetBase t := by
    rw [h, hv]
    exact ((((RegStep.refl.setWord (by decide)).setWord (by decide)).put (by decide)).put (by decide)).put (by decide)
  have hb : t.num R.MGS_KA_BOOTS = s.num R.MGS_KA_BOOTS := by
    rw [h, hv]
    simp (disch := decide) only [num_put_apart]
    rw [State.num, word_setWord, State.num]
  have hr : t.get F.BOOT_RESET_CAUSE_CAUSE = c := by rw [h, hv, get_put_same _ _ _ (Fld.fits_of_lt (n := 8) rfl hc)]
  obtain ⟨⟨r, rfl⟩, hk⟩ := g
  refine ⟨⟨fun o ho => (hk o fun hm => ho ?_).trans rfl, rfl, rfl, hb, rfl, rfl, rfl, rfl, rfl, rfl, rfl, rfl, rfl⟩, rfl, rfl, rfl, hr,
    fun o ho => (hk o ho).trans rfl⟩
  simp only [bootRegs, List.cons_append, List.nil_append, List.mem_cons, List.not_mem_nil, or_false] at hm ⊢
  tauto

/-- The straps are shown. -/
theorem straps_shows (t : State) (c r : Bool) {b : Nat} (hb : b < 4) (u : State) (hu : u = t.straps c r b) :
    RegStep (· ∉ [R.BOOT_STRAP, R.GLB_STATUS, R.ULT_STATUS, R.GLB_COMPAT]) t u ∧
      u.get F.BOOT_STRAP_BOOTSEL = b ∧ u.get F.ULT_STATUS_ROOT = b2n r ∧ u.get F.GLB_STATUS_COMPAT_STRAP = b2n !c ∧
      (c = false → u.num R.GLB_COMPAT = 0x3F) ∧ (c = true → u.num R.GLB_COMPAT = t.num R.GLB_COMPAT) := by
  subst hu
  have hg : (t.putN R.BOOT_STRAP (16 * b2n r + 8 * b2n c + b)).get F.BOOT_STRAP_BOOTSEL = b := by
    rw [show R.BOOT_STRAP = F.BOOT_STRAP_BOOTSEL.off from rfl, get_putN_field]
    cases r <;> cases c <;> simp [b2n, F.BOOT_STRAP_BOOTSEL] <;> omega
  refine ⟨?_, ?_⟩
  · have h1 : RegStep (· ∉ [R.BOOT_STRAP, R.GLB_STATUS, R.ULT_STATUS, R.GLB_COMPAT]) t (((t.putN R.BOOT_STRAP (16 * b2n r + 8 * b2n c + b)).put
      F.GLB_STATUS_COMPAT_STRAP (b2n !c)).put F.ULT_STATUS_ROOT (b2n r)) := ((RegStep.refl.putN (by decide)).put (by decide)).put (by decide)
    exact h1.when (c := !c) (f := fun t => t.putN R.GLB_COMPAT 0x3F) fun h => h.putN (by decide)
  · cases c <;> simp (disch := decide) [State.straps, State.when, hg, get_put_b2n]

/-- The boot starts. -/
theorem bootStart_shows {s t : State} (h : AfterReset s t) (hq : t.mgmt.logQ = []) (c : Nat) (hc : c < 8) (u : State) (hu : u = t.bootStart c) :
    AfterReset s u ∧ u.get F.BOOT_STAGE_STAGE = 1 ∧ u.get F.BOOT_RESET_CAUSE_CAUSE = c ∧ u.boot.first = false ∧ u.mgmt.logQ.length = 1 ∧
      u.mgmt.expired = t.mgmt.expired ∧ RegsIf (· ∉ [R.BOOT_RESET_CAUSE, R.BOOT_STAGE]) t u := by
  have g : RegStep (· ∉ [R.BOOT_RESET_CAUSE, R.BOOT_STAGE]) t ((t.put F.BOOT_RESET_CAUSE_CAUSE c).put F.BOOT_STAGE_STAGE 1) :=
    (RegStep.refl.put (by decide)).put (by decide)
  have h1 : ((t.put F.BOOT_RESET_CAUSE_CAUSE c).put F.BOOT_STAGE_STAGE 1).get F.BOOT_STAGE_STAGE = 1 := get_put_same _ _ _ (by decide)
  have h2 : ((t.put F.BOOT_RESET_CAUSE_CAUSE c).put F.BOOT_STAGE_STAGE 1).get F.BOOT_RESET_CAUSE_CAUSE = c := by
    rw [get_put_apart _ _ _ _ (by decide), get_put_same _ _ _ (Fld.fits_of_lt (n := 8) rfl hc)]
  have hg := h.regStep (g.weaken fun o ho hm => ho (by
    simp only [bootRegs, List.mem_cons, List.not_mem_nil, or_false] at hm ⊢
    tauto))
  have e : u = ({ ((t.put F.BOOT_RESET_CAUSE_CAUSE c).put F.BOOT_STAGE_STAGE 1) with
    boot := { t.boot with first := false } } : State).logEvent logBoot := hu
  generalize (t.put F.BOOT_RESET_CAUSE_CAUSE c).put F.BOOT_STAGE_STAGE 1 = v at g h1 h2 hg e
  have hv : v.mgmt = t.mgmt := by
    obtain ⟨⟨r, rfl⟩, -⟩ := g
    rfl
  obtain ⟨n, b, el⟩ := logEvent_queues { v with boot := { t.boot with first := false } } logBoot (by simp only [hv, hq]; decide)
  obtain rfl := e.trans el
  exact ⟨hg.others _ _ _, h1, h2, rfl, by simp [hv, hq], (congrArg MgmtState.expired hv :), g.2⟩

/-- What a boot that starts after a reset of `s` shows, whatever the straps are. -/
theorem started_shows (s : State) (cause : Nat) (hc : cause < 8) (c r : Bool) {b : Nat} (hb : b < 4) (t : State)
    (ht : t = ((s.resetAll cause).straps c r b).bootStart cause) :
    AfterReset s t ∧ t.get F.BOOT_STAGE_STAGE = 1 ∧ t.get F.BOOT_RESET_CAUSE_CAUSE = cause ∧ t.get F.BOOT_STRAP_BOOTSEL = b ∧
      t.get F.ULT_STATUS_ROOT = b2n r ∧ t.get F.GLB_STATUS_COMPAT_STRAP = b2n !c ∧ (c = false → t.num R.GLB_COMPAT = 0x3F) ∧
      (c = true → t.num R.GLB_COMPAT = State.reset.num R.GLB_COMPAT) ∧ t.boot.first = false ∧ t.mgmt.logQ.length = 1 ∧
      t.mgmt.expired = false := by
  obtain ⟨ha, hq, he, -, -, hr⟩ := resetAll_shows s cause hc _ rfl
  obtain ⟨hs, hsel, hroot, hcs, hc0, hc1⟩ := straps_shows (s.resetAll cause) c r hb _ rfl
  have ha' := ha.regStep (hs.weaken fun o ho hm => ho (by
    simp only [bootRegs, List.mem_cons, List.not_mem_nil, or_false] at hm ⊢
    tauto))
  have hq' : ((s.resetAll cause).straps c r b).mgmt = (s.resetAll cause).mgmt := by
    rw [hs.others]
  obtain ⟨hA, h1, h2, h3, h4, h5, hk⟩ := bootStart_shows ha' (by rw [hq', hq]) cause hc t ht
  refine ⟨hA, h1, h2, (hk.get (by decide)).trans hsel, (hk.get (by decide)).trans hroot, (hk.get (by decide)).trans hcs,
    fun h => (hk.num (by decide)).trans (hc0 h), fun h => (hk.num (by decide)).trans ((hc1 h).trans (hr.num (by decide))), h3, h4, ?_⟩
  rw [h5, hq', he]

/-- The clause of a start that samples the straps. -/
theorem release_shows (s : State) (c r : Bool) (b : Fin 4) (t : State) (ht : t = s.release_ c r b) :
    RegsBut [R.BOOT_STRAP, R.BOOT_RESET_CAUSE, R.BOOT_STAGE, R.GLB_STATUS, R.GLB_COMPAT, R.ULT_STATUS, R.BOOT_TRIAL_CNT, R.MGS_SAFE_STATUS, R.MGS_KA_STATUS, R.MGS_KA_BOOTS] State.reset t ∧
      t.mem = [] ∧ t.mgmt.flash = s.mgmt.flash ∧ t.num R.MGS_KA_BOOTS = s.num R.MGS_KA_BOOTS ∧ t.now = 0 ∧
      t.seq = [] ∧ t.strm = [] ∧ t.site = [] ∧ t.hart = [] ∧ t.sched = {} ∧ t.intc = {} ∧ t.ult = {} ∧ t.gov = {} ∧
      t.get F.BOOT_STAGE_STAGE = 1 ∧ t.get F.BOOT_RESET_CAUSE_CAUSE = (if s.boot.first then 0 else 1) ∧
      t.get F.BOOT_STRAP_BOOTSEL = b ∧ t.get F.ULT_STATUS_ROOT = b2n r ∧ t.get F.GLB_STATUS_COMPAT_STRAP = b2n !c ∧
      (c = false → t.num R.GLB_COMPAT = 0x3F) ∧ (c = true → t.num R.GLB_COMPAT = State.reset.num R.GLB_COMPAT) ∧
      t.boot.first = false ∧ t.mgmt.logQ.length = 1 := by
  obtain ⟨h, h1, h2, h3, h4, h5, h6, h7, h8, h9, -⟩ := started_shows s (if s.boot.first then causePowerOn else causePin)
    (by split <;> decide) c r b.isLt t ht
  obtain ⟨b1, b2, b3, b4, b5, b6, b7, b8⟩ := h.blocks
  exact ⟨h.regs, h.mem, h.flash, h.boots, h.now, b1, b2, b3, b4, b5, b6, b7, b8, h1, h2, h3, h4, h5, h6, h7, h8, h9⟩

/-- The clause of a reset that keeps the straps. -/
theorem warmReset_shows (s : State) (cause : Nat) (hc : cause < 8) (t : State) (ht : t = s.warmReset cause) :
    AfterReset s t ∧ t.get F.BOOT_STAGE_STAGE = 1 ∧ t.get F.BOOT_RESET_CAUSE_CAUSE = cause ∧
      t.get F.BOOT_STRAP_BOOTSEL = s.get F.BOOT_STRAP_BOOTSEL ∧ t.get F.ULT_STATUS_ROOT = s.get F.BOOT_STRAP_ULT_ROOT ∧
      t.mgmt.expired = false := by
  have hb : bitsOf (s.word R.BOOT_STRAP) 1 0 < 4 := Nat.mod_lt _ (by decide)
  obtain ⟨h, h1, h2, h3, h4, -, -, -, -, -, h5⟩ := started_shows s cause hc _ _ hb t ht
  refine ⟨h, h1, h2, h3, h4.trans ?_, h5⟩
  have : bitsOf (s.word R.BOOT_STRAP) 4 4 < 2 := Nat.mod_lt _ (by decide)
  have e : s.get F.BOOT_STRAP_ULT_ROOT = bitsOf (s.word R.BOOT_STRAP) 4 4 := rfl
  rw [e]
  generalize bitsOf (s.word R.BOOT_STRAP) 4 4 = n at this
  interval_cases n <;> rfl

/-- Settles O46: every reset is `resetAll`, after which the straps and the start of the boot change registers of `bootRegs` only. -/
theorem resets : Obligations.Resets := by
  have warm : ∀ (s : State) (cause : Nat), cause < 8 → ∀ t, t = s.warmReset cause →
      RegsBut [R.BOOT_STRAP, R.BOOT_RESET_CAUSE, R.BOOT_STAGE, R.GLB_STATUS, R.GLB_COMPAT, R.ULT_STATUS, R.BOOT_TRIAL_CNT, R.MGS_SAFE_STATUS, R.MGS_KA_STATUS, R.MGS_KA_BOOTS] State.reset t ∧
      t.mem = [] ∧ t.mgmt.flash = s.mgmt.flash ∧ t.num R.MGS_KA_BOOTS = s.num R.MGS_KA_BOOTS ∧ t.now = 0 ∧
      t.seq = [] ∧ t.strm = [] ∧ t.site = [] ∧ t.hart = [] ∧ t.sched = {} ∧ t.intc = {} ∧ t.ult = {} ∧ t.gov = {} ∧
      t.get F.BOOT_STAGE_STAGE = 1 ∧ t.get F.BOOT_RESET_CAUSE_CAUSE = cause ∧
      t.get F.BOOT_STRAP_BOOTSEL = s.get F.BOOT_STRAP_BOOTSEL ∧ t.get F.ULT_STATUS_ROOT = s.get F.BOOT_STRAP_ULT_ROOT := by
    intro s cause hc t ht
    obtain ⟨h, h1, h2, h3, h4, -⟩ := warmReset_shows s cause hc t ht
    obtain ⟨b1, b2, b3, b4, b5, b6, b7, b8⟩ := h.blocks
    exact ⟨h.regs, h.mem, h.flash, h.boots, h.now, b1, b2, b3, b4, b5, b6, b7, b8, h1, h2, h3, h4⟩
  refine ⟨?_, ?_, ?_, ?_, ?_, ?_, ?_, ?_, ?_⟩
  · intro s h
    have e : pwrgoodRise s = ({ s with pins := { s.pins with pwrgood := true } }.freeBits 1).2.put F.MGS_KA_STATUS_VBAT_LOW
        ({ s with pins := { s.pins with pwrgood := true } }.freeBits 1).1 := by simp [pwrgoodRise, h]
    have g := RegStep.refl (s := ({ s with pins := { s.pins with pwrgood := true } }.freeBits 1).2) (P := (· ∉ [R.MGS_KA_STATUS]))
      |>.put (f := F.MGS_KA_STATUS_VBAT_LOW) (v := ({ s with pins := { s.pins with pwrgood := true } }.freeBits 1).1) (by decide)
    refine completes_of_eq rfl e ?_
    generalize State.put _ _ _ = t at g
    obtain ⟨⟨r, rfl⟩, hr⟩ := g
    exact ⟨rfl, hr, rfl⟩
  · intro s
    refine completes_intro rfl fun t ht => ?_
    obtain ⟨h, hq, he, hp, h1, hr⟩ := resetAll_shows _ causePowerOn (by decide) t ht
    obtain ⟨b1, b2, b3, b4, b5, b6, b7, b8⟩ := h.blocks
    exact ⟨h.regs, h.mem, h.flash, h.boots, h.now, b1, b2, b3, b4, b5, b6, b7, b8, hp, h1, (hr.get (by decide)).trans rfl⟩
  · intro s c r b hp hr
    refine completes_of_eq rfl (t := { s with pins := { s.pins with rstN := true } }.release_ c r b) (by simp [rstNRise, hp, hr]) ?_
    exact release_shows { s with pins := { s.pins with rstN := true } } c r b _ rfl
  · intro s c r b hp
    refine completes_of_eq rfl (t := { s with pins := { s.pins with rstN := true } }.release_ c r b) (by simp [rstNPulse, hp]) ?_
    exact release_shows { s with pins := { s.pins with rstN := true } } c r b _ rfl
  · intro s c r b hp hr hf
    refine completes_of_eq rfl (t := s.release_ c r b) (by simp [internalRelease, hp, hr, hf]) ?_
    have h := release_shows s c r b _ rfl
    simpa only [hf, if_true] using h
  · intro s v h1 h2
    exact completes_of_eq rfl (by simp [bootResetWrite, h1, h2]) (warm s causeSoftware (by decide) _ rfl)
  · intro s v h
    exact congrArg Host.Outcome.next (by simp [bootResetWrite, h])
  · intro s h
    exact completes_of_eq rfl (by simp [softwareReset, h]) (warm s causeSoftware (by decide) _ rfl)
  · intro s h
    exact congrArg Host.Outcome.next (by simp [softwareReset, h])

end Sys2Proof.Machine
end

section
-- One proof at a time: the whole text then stays within the memory the check allows.
set_option Elab.async false
/-! PROOFS. O41: the mailboxes. -/

namespace Sys2Proof.Machine
open State

/-- An event of the host interface makes vectors pending. -/
theorem regStep_hostEvent (s : State) (e : Nat) : RegStep (· ∉ [R.HOSTIF_MSIX_PBA_w 0, R.HOSTIF_MSIX_PBA_w 1]) s (s.hostEvent e) := by
  rw [State.hostEvent]
  refine RegStep.each_mem RegStep.refl fun {t v} hv h => ?_
  have hv : v < 64 := List.mem_range.1 hv
  have : v / 32 = 0 ∨ v / 32 = 1 := by omega
  split
  · refine h.putBit ?_
    rcases this with e | e <;> simp [e]
  · exact h

/-- The change of a mailbox, after which vectors may be pending. -/
theorem regStep_mbxChange (s : State) (m : Nat) (f : State → State) :
    RegStep (· ∉ [R.HOSTIF_MSIX_PBA_w 0, R.HOSTIF_MSIX_PBA_w 1]) (f s) (s.mbxChange m f) := by
  rw [State.mbxChange]
  exact RegStep.when RegStep.refl fun _ => regStep_hostEvent _ _

section
variable (s : State) (m : Nat) (f : Mbx → Mbx) (o : Nat)

theorem mbxOf_updMbx : (s.updMbx m f).mbxOf m = f (s.mbxOf m) := by
  rw [State.mbxOf, State.updMbx, Tab.get_set_same]

@[simp] theorem get_updMbx (g : Fld) : (s.updMbx m f).get g = s.get g := rfl
@[simp] theorem num_updMbx : (s.updMbx m f).num o = s.num o := rfl
@[simp] theorem word_updMbx : (s.updMbx m f).word o = s.word o := rfl
end

section
variable (s : State) (r : Req) (f : ReqCtx → ReqCtx) (o : Nat)

theorem rq_updRq : (s.updRq r f).rq r = f (s.rq r) := by
  rw [State.rq, State.updRq, Tab.get_set_same]

@[simp] theorem get_updRq (g : Fld) : (s.updRq r f).get g = s.get g := rfl
@[simp] theorem num_updRq : (s.updRq r f).num o = s.num o := rfl
@[simp] theorem word_updRq : (s.updRq r f).word o = s.word o := rfl
end

theorem reqCode_lt (r : Req) : reqCode r < 32 := by
  cases r with
  | core n => simp only [reqCode]; omega
  | dma n => exact Nat.lt_of_sub_eq_succ rfl
  | _ => decide

/-- `t` is `s` but for registers, of which those that satisfy `P` are the same, contexts of requesters and the host interface. -/
def HostStep (P : Nat → Prop) (s t : State) : Prop := (∃ a q h, t = { s with regs := a, req := q, host := h }) ∧ RegsIf P s t

namespace HostStep
variable {P : Nat → Prop} {r s t : State}

theorem refl : HostStep P s s := ⟨⟨s.regs, s.req, s.host, rfl⟩, RegsIf.refl⟩

theorem others (h : HostStep P s t) : t = { s with regs := t.regs, req := t.req, host := t.host } := by
  obtain ⟨⟨a, q, x, rfl⟩, -⟩ := h
  rfl

theorem regStep (h : HostStep P r s) (g : RegStep P s t) : HostStep P r t := by
  obtain ⟨⟨a, q, x, rfl⟩, hr⟩ := h
  obtain ⟨⟨b, rfl⟩, gr⟩ := g
  exact ⟨⟨b, q, x, rfl⟩, hr.trans gr⟩

theorem weaken {Q : Nat → Prop} (h : HostStep P s t) (i : ∀ o, Q o → P o) : HostStep Q s t := ⟨h.1, fun o ho => h.2 o (i o ho)⟩

theorem setWord {o : Nat} {v : Word} (h : HostStep P r s) (ho : ¬ P o) : HostStep P r (s.setWord o v) := h.regStep (RegStep.refl.setWord ho)

theorem put {f : Fld} {v : Nat} (h : HostStep P r s) (ho : ¬ P f.off) : HostStep P r (s.put f v) := h.setWord ho

theorem bump {o : Nat} (h : HostStep P r s) (ho : ¬ P o) : HostStep P r (s.bump o) := h.regStep (RegStep.refl.bump ho)

theorem withReq (h : HostStep P r s) (q : Tab ReqCtx) : HostStep P r { s with req := q } := by
  obtain ⟨⟨a, _, x, rfl⟩, hr⟩ := h
  exact ⟨⟨a, q, x, rfl⟩, hr⟩

theorem withHost (h : HostStep P r s) (x : HostSt) : HostStep P r { s with host := x } := by
  obtain ⟨⟨a, q, _, rfl⟩, hr⟩ := h
  exact ⟨⟨a, q, x, rfl⟩, hr⟩

theorem updRq {q : Req} {f : ReqCtx → ReqCtx} (h : HostStep P r s) : HostStep P r (s.updRq q f) := h.withReq _

theorem updMbx {m : Nat} {f : Mbx → Mbx} (h : HostStep P r s) : HostStep P r (s.updMbx m f) := h.withHost _

theorem mbxTimer {m : Nat} (h : HostStep P r s) : HostStep P r (s.mbxTimer m) := h.withHost _

end HostStep

/-- The staged notice of a post. -/
def State.mbxNotice (s : State) (r : Req) (m : Nat) (v : Word) : State :=
  ((s.setWord (R.MBX_m_NOTICE_LO m) v).setWord (R.MBX_m_NOTICE_HI m) (s.rq r).staged).updRq r (fun q => { q with staged := 0 })

/-- The mailbox after a post. -/
def State.mbxFilled (s : State) (r : Req) (m : Nat) (v : Word) : State :=
  ((((s.mbxNotice r m v).put (F.MBX_m_STATUS_SRC m) (reqCode r)).put (F.MBX_m_STATUS_FULL m) 1).put (F.MBX_m_RX_EVENT_NOTICE m) 1).mbxTimer m

theorem hostStep_mbxFilled (s : State) (r : Req) (m : Nat) (v : Word) :
    HostStep (· ∉ [R.MBX_m_NOTICE_LO m, R.MBX_m_NOTICE_HI m, R.MBX_m_STATUS m, R.MBX_m_RX_EVENT m]) s (s.mbxFilled r m v) := by
  refine (((HostStep.put (HostStep.setWord (HostStep.setWord HostStep.refl ?_) ?_).updRq ?_).put ?_).put ?_).mbxTimer
  all_goals simp [F.MBX_m_STATUS_SRC, F.MBX_m_STATUS_FULL, F.MBX_m_RX_EVENT_NOTICE]

theorem mbxNotice_shows (s : State) (r : Req) (m : Mailbox) (v : Word) :
    (s.mbxNotice r m v).word (R.MBX_m_NOTICE_LO m) = v ∧ (s.mbxNotice r m v).word (R.MBX_m_NOTICE_HI m) = (s.rq r).staged ∧
      ((s.mbxNotice r m v).rq r).staged = 0 ∧ (s.mbxNotice r m v).get (F.MBX_m_CFG_TMO m) = s.get (F.MBX_m_CFG_TMO m) := by
  refine ⟨?_, ?_, ?_, ?_⟩
  · simp -implicitDefEqProofs (disch := (apply all_fin m; decide +kernel)) [State.mbxNotice, word_setWord]
  · simp -implicitDefEqProofs (disch := (apply all_fin m; decide +kernel)) [State.mbxNotice, word_setWord]
  · rw [State.mbxNotice, rq_updRq]
  · rw [State.mbxNotice, get_updRq, get_setWord_ne _ _ _ _ (by apply all_fin m; decide +kernel),
      get_setWord_ne _ _ _ _ (by apply all_fin m; decide +kernel)]

theorem mbxFilled_shows (s : State) (r : Req) (m : Mailbox) (v : Word) :
    (s.mbxFilled r m v).word (R.MBX_m_NOTICE_LO m) = v ∧ (s.mbxFilled r m v).word (R.MBX_m_NOTICE_HI m) = (s.rq r).staged ∧
      ((s.mbxFilled r m v).rq r).staged = 0 ∧ (s.mbxFilled r m v).get (F.MBX_m_STATUS_FULL m) = 1 ∧
      (s.mbxFilled r m v).get (F.MBX_m_STATUS_SRC m) = reqCode r ∧ (s.mbxFilled r m v).get (F.MBX_m_RX_EVENT_NOTICE m) = 1 ∧
      ((s.mbxFilled r m v).mbxOf m).timer = some (s.now, s.get (F.MBX_m_CFG_TMO m)) := by
  have hr : (F.MBX_m_STATUS_SRC m).fits (reqCode r) = true := Fld.fits_of_lt (n := 32) rfl (reqCode_lt r)
  obtain ⟨h1, h2, h3, h4⟩ := mbxNotice_shows s r m v
  have hn : (s.mbxNotice r m v).now = s.now := by simp [State.mbxNotice]
  rw [State.mbxFilled]
  generalize s.mbxNotice r m v = u at h1 h2 h3 h4 hn
  refine ⟨?_, ?_, ?_, ?_, ?_, ?_, ?_⟩
  · simp -implicitDefEqProofs (disch := (apply all_fin m; decide +kernel)) [State.mbxTimer, h1]
  · simp -implicitDefEqProofs (disch := (apply all_fin m; decide +kernel)) [State.mbxTimer, h2]
  · rw [← h3, State.rq, State.rq]
    simp -implicitDefEqProofs [State.mbxTimer]
  · simp -implicitDefEqProofs (disch := (apply all_fin m; decide +kernel)) [State.mbxTimer]
  · simp -implicitDefEqProofs (disch := (apply all_fin m; decide +kernel)) [State.mbxTimer, get_put_same _ _ _ hr]
  · simp -implicitDefEqProofs (disch := (apply all_fin m; decide +kernel)) [State.mbxTimer]
  · simp -implicitDefEqProofs (disch := (apply all_fin m; decide +kernel)) [State.mbxTimer, mbxOf_updMbx, h4, hn]

/-- A post into a full mailbox also counts a collision. -/
def State.mbxCollided (s : State) (m : Nat) : State := (s.put (F.MBX_m_RX_EVENT_COLLISION m) 1).bump (R.MBX_m_COLL_CNT m)

theorem full_mbxNotice (s : State) (r : Req) (m : Mailbox) (v : Word) :
    (s.mbxNotice r m v).get (F.MBX_m_STATUS_FULL m) = s.get (F.MBX_m_STATUS_FULL m) := by
  rw [State.mbxNotice, get_updRq, get_setWord_ne _ _ _ _ (by apply all_fin m; decide +kernel),
    get_setWord_ne _ _ _ _ (by apply all_fin m; decide +kernel)]

theorem regStep_mbxPost (s : State) (r : Req) (m : Mailbox) (v : Word) (u : State)
    (hu : u = (s.mbxFilled r m v).when (s.is (F.MBX_m_STATUS_FULL m)) (fun t => t.mbxCollided m)) :
    RegStep (· ∉ [R.HOSTIF_MSIX_PBA_w 0, R.HOSTIF_MSIX_PBA_w 1]) u (mbxPost r m v s) := by
  have h := regStep_mbxChange (s.mbxNotice r m v) m (fun s =>
    let full := s.is (F.MBX_m_STATUS_FULL m)
    let s := (s.put (F.MBX_m_STATUS_SRC m) (reqCode r)).put (F.MBX_m_STATUS_FULL m) 1
    let s := (s.put (F.MBX_m_RX_EVENT_NOTICE m) 1).mbxTimer m
    s.when full (fun t => t.mbxCollided m))
  have e : (s.mbxNotice r m v).is (F.MBX_m_STATUS_FULL m) = s.is (F.MBX_m_STATUS_FULL m) := by rw [is_eq, is_eq, full_mbxNotice]
  simp only [e] at h
  rw [hu]
  exact h

/-- The mailbox after a timeout. -/
def State.mbxExpired (s : State) (m : Nat) : State :=
  ((s.updMbx m (fun x => { x with timer := none, toFor := s.get (F.MBX_m_STATUS_SRC m) })).put (F.MBX_m_TX_EVENT_TIMEOUT m) 1).bump
    (R.MBX_m_TMO_CNT m)

/-- The mailbox after an acknowledgement. -/
def State.mbxAcked (s : State) (m : Nat) (v : Word) : State :=
  (((s.put (F.MBX_m_STATUS_ACK_CODE m) (bitsOf v 15 0)).put (F.MBX_m_STATUS_ACK_PEND m) 0).updMbx m
    (fun x => { x with ackFor := s.get (F.MBX_m_STATUS_TAKEN_SRC m) })).put (F.MBX_m_TX_EVENT_ACKED m) 1

/-- The vectors that become pending are none of the mailbox's words. -/
theorem mbx_notMem_pba {o : Nat} (h : o < 0x4400000) : o ∉ [R.HOSTIF_MSIX_PBA_w 0, R.HOSTIF_MSIX_PBA_w 1] := by
  simp only [R.HOSTIF_MSIX_PBA_w, List.mem_cons, List.not_mem_nil, or_false]
  omega

/-- Words of mailboxes lie below those of the host interface. -/
theorem mbx_lt (m : Mailbox) : R.MBX_m_TMO_CNT m < 0x4400000 := by
  simp only [R.MBX_m_TMO_CNT]
  omega

/-- What is shown of a mailbox after a change stays when vectors become pending. -/
theorem mbx_kept {u t : State} (h : RegStep (· ∉ [R.HOSTIF_MSIX_PBA_w 0, R.HOSTIF_MSIX_PBA_w 1]) u t) (r : Req) (m : Mailbox) :
    t.rq r = u.rq r ∧ t.mbxOf m = u.mbxOf m ∧ (∀ f : Fld, f.off ≤ R.MBX_m_TMO_CNT m → t.get f = u.get f) ∧
      ∀ o, o ≤ R.MBX_m_TMO_CNT m → t.word o = u.word o ∧ t.num o = u.num o := by
  obtain ⟨⟨a, rfl⟩, hk⟩ := h
  have hm := mbx_lt m
  exact ⟨rfl, rfl, fun f hf => hk.get (mbx_notMem_pba (by omega)), fun o ho => ⟨hk o (mbx_notMem_pba (by omega)), hk.num (mbx_notMem_pba (by omega))⟩⟩

/-- The frame of a change of a mailbox that may make vectors pending. -/
theorem hostStep_pba {l : List Nat} {s u t : State} (h : HostStep (· ∉ l) s u)
    (g : RegStep (· ∉ [R.HOSTIF_MSIX_PBA_w 0, R.HOSTIF_MSIX_PBA_w 1]) u t) :
    HostStep (· ∉ R.HOSTIF_MSIX_PBA_w 0 :: R.HOSTIF_MSIX_PBA_w 1 :: l) s t :=
  (h.weaken fun o ho hm => ho (by simp [hm])).regStep (g.weaken fun o ho hm => ho (by
    simp only [List.mem_cons, List.not_mem_nil, or_false] at hm ⊢
    tauto))

theorem mbxCollided_others (s : State) (r : Req) (m : Nat) : (s.mbxCollided m).rq r = s.rq r ∧ (s.mbxCollided m).mbxOf m = s.mbxOf m := by
  rw [State.rq, State.mbxOf, State.mbxCollided, bump_req, put_req, bump_host, put_host, ← State.rq, ← State.mbxOf]
  exact ⟨rfl, rfl⟩

theorem mbxCollided_shows (s : State) (m : Mailbox) :
    (s.mbxCollided m).word (R.MBX_m_NOTICE_LO m) = s.word (R.MBX_m_NOTICE_LO m) ∧
      (s.mbxCollided m).word (R.MBX_m_NOTICE_HI m) = s.word (R.MBX_m_NOTICE_HI m) ∧
      (s.mbxCollided m).get (F.MBX_m_STATUS_FULL m) = s.get (F.MBX_m_STATUS_FULL m) ∧
      (s.mbxCollided m).get (F.MBX_m_STATUS_SRC m) = s.get (F.MBX_m_STATUS_SRC m) ∧
      (s.mbxCollided m).get (F.MBX_m_RX_EVENT_NOTICE m) = s.get (F.MBX_m_RX_EVENT_NOTICE m) ∧
      (s.mbxCollided m).get (F.MBX_m_RX_EVENT_COLLISION m) = 1 ∧
      (s.mbxCollided m).num (R.MBX_m_COLL_CNT m) = min satMax (s.num (R.MBX_m_COLL_CNT m) + 1) := by
  simp -implicitDefEqProofs (disch := (apply all_fin m; decide +kernel)) [State.mbxCollided]

/-- A read of the notice, which takes nothing. -/
def State.mbxRead (s : State) (r : Req) (m : Nat) : State :=
  s.updRq r (fun q => { q with rword := s.word (R.MBX_m_NOTICE_LO m), snap := s.word (R.MBX_m_NOTICE_HI m) })

/-- The mailbox after its receiver has taken the notice. -/
def State.mbxTaken (s : State) (r : Req) (m : Nat) : State :=
  ((((s.mbxRead r m).put (F.MBX_m_STATUS_FULL m) 0).updMbx m (fun x => { x with timer := none })).put (F.MBX_m_STATUS_TAKEN_SRC m)
    (s.get (F.MBX_m_STATUS_SRC m))).put (F.MBX_m_STATUS_ACK_PEND m) 1

theorem mbxTake_full {s : State} {r : Req} {m : Mailbox} (hr : reqCode r = s.get (F.MBX_m_CFG_RX m))
    (hf : s.get (F.MBX_m_STATUS_FULL m) = 1) : mbxTake r m s = s.mbxTaken r m := by
  have e : (((s.mbxRead r m).put (F.MBX_m_STATUS_FULL m) 0).updMbx m (fun x => { x with timer := none })).get (F.MBX_m_STATUS_SRC m) =
      s.get (F.MBX_m_STATUS_SRC m) := by
    simp -implicitDefEqProofs (disch := (apply all_fin m; decide +kernel)) [State.mbxRead]
  have hc : reqCode r = (s.mbxRead r m).get (F.MBX_m_CFG_RX m) ∧ (s.mbxRead r m).is (F.MBX_m_STATUS_FULL m) = true :=
    ⟨hr, by rw [is_eq, State.mbxRead, get_updRq, hf]; rfl⟩
  rw [State.mbxTaken, ← e]
  exact if_pos hc

theorem hostStep_mbxTaken (s : State) (r : Req) (m : Nat) : HostStep (· ∉ [R.MBX_m_STATUS m]) s (s.mbxTaken r m) := by
  refine (((HostStep.put (HostStep.updRq HostStep.refl) ?_).updMbx).put ?_).put ?_
  all_goals simp [F.MBX_m_STATUS_FULL, F.MBX_m_STATUS_TAKEN_SRC, F.MBX_m_STATUS_ACK_PEND]

theorem mbxTaken_shows (s : State) (r : Req) (m : Mailbox) :
    ((s.mbxTaken r m).rq r).rword = s.word (R.MBX_m_NOTICE_LO m) ∧ ((s.mbxTaken r m).rq r).snap = s.word (R.MBX_m_NOTICE_HI m) ∧
      (s.mbxTaken r m).get (F.MBX_m_STATUS_FULL m) = 0 ∧ (s.mbxTaken r m).get (F.MBX_m_STATUS_ACK_PEND m) = 1 ∧
      (s.mbxTaken r m).get (F.MBX_m_STATUS_TAKEN_SRC m) = s.get (F.MBX_m_STATUS_SRC m) ∧ ((s.mbxTaken r m).mbxOf m).timer = none := by
  have hsrc : (F.MBX_m_STATUS_TAKEN_SRC m).fits (s.get (F.MBX_m_STATUS_SRC m)) = true := Fld.fits_of_lt (n := 32) rfl (get_lt s (F.MBX_m_STATUS_SRC m))
  have hq : (s.mbxTaken r m).req = (s.mbxRead r m).req := by simp -implicitDefEqProofs [State.mbxTaken]
  have hq' : (s.mbxTaken r m).rq r = (s.mbxRead r m).rq r := by rw [State.rq, hq, State.rq]
  refine ⟨?_, ?_, ?_, ?_, ?_, ?_⟩
  · rw [hq', State.mbxRead, rq_updRq]
  · rw [hq', State.mbxRead, rq_updRq]
  · simp -implicitDefEqProofs (disch := (apply all_fin m; decide +kernel)) [State.mbxTaken]
  · simp -implicitDefEqProofs (disch := (apply all_fin m; decide +kernel)) [State.mbxTaken]
  · simp -implicitDefEqProofs (disch := (apply all_fin m; decide +kernel)) [State.mbxTaken, get_put_same _ _ _ hsrc]
  · rw [State.mbxTaken, State.mbxOf, put_host, put_host, ← State.mbxOf, mbxOf_updMbx]

theorem hostStep_mbxExpired (s : State) (m : Nat) : HostStep (· ∉ [R.MBX_m_TX_EVENT m, R.MBX_m_TMO_CNT m]) s (s.mbxExpired m) := by
  refine ((HostStep.updMbx HostStep.refl).put ?_).bump ?_
  all_goals simp [F.MBX_m_TX_EVENT_TIMEOUT]

theorem mbxExpired_shows (s : State) (m : Mailbox) :
    (s.mbxExpired m).get (F.MBX_m_TX_EVENT_TIMEOUT m) = 1 ∧
      (s.mbxExpired m).num (R.MBX_m_TMO_CNT m) = min satMax (s.num (R.MBX_m_TMO_CNT m) + 1) ∧
      ((s.mbxExpired m).mbxOf m).timer = none ∧ (s.mbxExpired m).get (F.MBX_m_STATUS_FULL m) = s.get (F.MBX_m_STATUS_FULL m) := by
  refine ⟨?_, ?_, ?_, ?_⟩
  · simp -implicitDefEqProofs (disch := (apply all_fin m; decide +kernel)) [State.mbxExpired]
  · simp -implicitDefEqProofs (disch := (apply all_fin m; decide +kernel)) [State.mbxExpired]
  · rw [State.mbxExpired, State.mbxOf, bump_host, put_host, ← State.mbxOf, mbxOf_updMbx]
  · simp -implicitDefEqProofs (disch := (apply all_fin m; decide +kernel)) [State.mbxExpired]

theorem req_of_regStep {P : Nat → Prop} {s t : State} (h : RegStep P s t) : t.req = s.req := by
  obtain ⟨⟨_, rfl⟩, -⟩ := h
  rfl

theorem mbxExpired_req (s : State) (m : Nat) : (s.mbxExpired m).req = s.req := by
  rw [State.mbxExpired, bump_req, put_req, updMbx_req]

theorem mbxAcked_req (s : State) (m : Nat) (v : Word) : (s.mbxAcked m v).req = s.req := by
  rw [State.mbxAcked, put_req, updMbx_req, put_req, put_req]

theorem mbxTimeout_full {s : State} {m : Nat} (ht : (s.mbxOf m).timer ≠ none) (hf : s.get (F.MBX_m_STATUS_FULL m) = 1) :
    mbxTimeout m s = s.mbxChange m (fun s => s.mbxExpired m) := by
  rw [mbxTimeout, if_pos ⟨Option.isSome_iff_ne_none.2 ht, by simp [is_eq, hf]⟩]
  simp only [State.mbxExpired]

theorem mbxAck_pending {s : State} {r : Req} {m : Nat} (v : Word) (hr : reqCode r = s.get (F.MBX_m_CFG_RX m))
    (hp : s.get (F.MBX_m_STATUS_ACK_PEND m) = 1) : mbxAck r m v s = s.mbxChange m (fun s => s.mbxAcked m v) := by
  rw [mbxAck, if_pos ⟨hr, by simp [is_eq, hp]⟩]
  simp only [State.mbxAcked]

theorem hostStep_mbxAcked (s : State) (m : Nat) (v : Word) : HostStep (· ∉ [R.MBX_m_STATUS m, R.MBX_m_TX_EVENT m]) s (s.mbxAcked m v) := by
  refine (((HostStep.put HostStep.refl ?_).put ?_).updMbx).put ?_
  all_goals simp [F.MBX_m_STATUS_ACK_CODE, F.MBX_m_STATUS_ACK_PEND, F.MBX_m_TX_EVENT_ACKED]

theorem mbxAcked_shows (s : State) (m : Mailbox) (v : Word) :
    (s.mbxAcked m v).get (F.MBX_m_STATUS_ACK_CODE m) = bitsOf v 15 0 ∧ (s.mbxAcked m v).get (F.MBX_m_STATUS_ACK_PEND m) = 0 ∧
      (s.mbxAcked m v).get (F.MBX_m_TX_EVENT_ACKED m) = 1 := by
  have hv : (F.MBX_m_STATUS_ACK_CODE m).fits (bitsOf v 15 0) = true :=
    Fld.fits_of_lt (n := 2 ^ 16) (by simp [F.MBX_m_STATUS_ACK_CODE]) (bitsOf_lt v 15 0)
  simp -implicitDefEqProofs (disch := (apply all_fin m; decide +kernel)) [State.mbxAcked, get_put_same _ _ _ hv]

/-- Settles O41: a post, a timeout and an acknowledgement store what they say and then, at most, make vectors pending (`regStep_mbxChange`). -/
theorem mailboxes : Obligations.Mailboxes := by
  refine ⟨?_, ?_, ?_, ?_, ?_, ?_, ?_⟩
  · intro s r m v h
    have hg := regStep_mbxPost s r m v (s.mbxFilled r m v) (by simp [is_eq, h, State.when])
    obtain ⟨h1, h2, h3, h4, h5, h6, h7⟩ := mbxFilled_shows s r m v
    have hs := hostStep_mbxFilled s r m v
    refine completes_intro rfl fun t ht => ?_
    rw [← ht] at hg
    generalize s.mbxFilled r m v = u at *
    obtain ⟨e1, e2, e3, e4⟩ := mbx_kept hg r m
    have hw := hostStep_pba (hs.weaken fun o ho hm => ho (List.mem_append_left [R.MBX_m_COLL_CNT m] hm)) hg
    refine ⟨(e4 _ ?_).1.trans h1, (e4 _ ?_).1.trans h2, (congrArg ReqCtx.staged e1).trans h3, (e3 _ ?_).trans h4, (e3 _ ?_).trans h5,
      (e3 _ ?_).trans h6, (congrArg Mbx.timer e2).trans h7, (e4 _ ?_).2.trans (hs.2.num ?_), hw.2, hw.others⟩
    all_goals apply all_fin m; decide +kernel
  · intro s r m v h
    have hg := regStep_mbxPost s r m v ((s.mbxFilled r m v).mbxCollided m) (by simp [is_eq, h, State.when])
    obtain ⟨h1, h2, h3, h4, h5, h6, h7⟩ := mbxFilled_shows s r m v
    have hs := hostStep_mbxFilled s r m v
    refine completes_intro rfl fun t ht => ?_
    rw [← ht] at hg
    generalize s.mbxFilled r m v = u at *
    have hc : HostStep (· ∉ [R.MBX_m_NOTICE_LO m, R.MBX_m_NOTICE_HI m, R.MBX_m_STATUS m, R.MBX_m_RX_EVENT m, R.MBX_m_COLL_CNT m]) s (u.mbxCollided m) :=
      ((hs.weaken fun o ho hm => ho (List.mem_append_left [R.MBX_m_COLL_CNT m] hm)).put (by simp [F.MBX_m_RX_EVENT_COLLISION])).bump (by simp)
    have hn : u.num (R.MBX_m_COLL_CNT m) = s.num (R.MBX_m_COLL_CNT m) := hs.2.num (by apply all_fin m; decide +kernel)
    obtain ⟨e1, e2, e3, e4⟩ := mbx_kept hg r m
    obtain ⟨k1, k2, k3, k4, k5, k6, k7⟩ := mbxCollided_shows u m
    obtain ⟨k8, k9⟩ := mbxCollided_others u r m
    refine ⟨(e4 _ ?_).1.trans (k1.trans h1), (e4 _ ?_).1.trans (k2.trans h2), (congrArg ReqCtx.staged (e1.trans k8)).trans h3,
      (e3 _ ?_).trans (k3.trans h4), (e3 _ ?_).trans (k4.trans h5), (e3 _ ?_).trans (k5.trans h6), (congrArg Mbx.timer (e2.trans k9)).trans h7,
      (e3 _ ?_).trans k6, (e4 _ ?_).2.trans (k7.trans (by rw [hn])), (hostStep_pba hc hg).2⟩
    all_goals apply all_fin m; decide +kernel
  · intro s r m hr hf
    refine completes_of_eq rfl (t := s.mbxTaken r m) (mbxTake_full hr hf) ?_
    have hs := hostStep_mbxTaken s r m
    obtain ⟨h1, h2, h3, h4, h5, h6⟩ := mbxTaken_shows s r m
    exact ⟨h1, h2, h3, h4, h5, h6, hs.2, hs.others⟩
  · intro s r m hr
    refine completes_of_eq rfl (t := s.mbxRead r m) (by simp [mbxTake, hr, State.mbxRead]) ?_
    exact ⟨by rw [State.mbxRead, rq_updRq], by rw [State.mbxRead, rq_updRq], rfl⟩
  · intro s m ht hf
    have hg := regStep_mbxChange s m (fun s => s.mbxExpired m)
    have hs := hostStep_mbxExpired s m
    obtain ⟨h1, h2, h3, h4⟩ := mbxExpired_shows s m
    rw [← mbxTimeout_full ht hf] at hg
    obtain ⟨-, e2, e3, e4⟩ := mbx_kept hg .host m
    have hq : (mbxTimeout m s).req = s.req := (req_of_regStep hg).trans (mbxExpired_req s m)
    refine completes_intro rfl fun t e => ?_
    rw [← show t = mbxTimeout m s from e] at hg e2 e3 e4 hq
    have hw := hostStep_pba hs hg
    refine ⟨(e3 _ ?_).trans h1, (e4 _ ?_).2.trans h2, (congrArg Mbx.timer e2).trans h3, (e3 _ ?_).trans (h4.trans hf), hw.2, hq ▸ hw.others⟩
    all_goals apply all_fin m; decide +kernel
  · intro s r m v hr hp
    have hg := regStep_mbxChange s m (fun s => s.mbxAcked m v)
    rw [← mbxAck_pending v hr hp] at hg
    have hs := hostStep_mbxAcked s m v
    obtain ⟨h1, h2, h3⟩ := mbxAcked_shows s m v
    obtain ⟨-, e2, e3, e4⟩ := mbx_kept hg .host m
    have hq : (mbxAck r m v s).req = s.req := (req_of_regStep hg).trans (mbxAcked_req s m v)
    refine completes_intro rfl fun t e => ?_
    rw [← show t = mbxAck r m v s from e] at hg e2 e3 e4 hq
    have hw := hostStep_pba hs hg
    refine ⟨(e3 _ ?_).trans h1, (e3 _ ?_).trans h2, (e3 _ ?_).trans h3, hw.2, hq ▸ hw.others⟩
    all_goals apply all_fin m; decide +kernel
  · intro s r m v h
    refine congrArg Host.Outcome.next (if_neg ?_)
    rintro ⟨h1, h2⟩
    rcases h with h | h
    · exact h h1
    · simp [is_eq, h] at h2

end Sys2Proof.Machine
end

section
-- One proof at a time: the whole text then stays within the memory the check allows.
set_option Elab.async false
/-! PROOFS. O37: the work scheduler. -/

namespace Sys2Proof.Machine
open State

/-! ### Steps of the scheduler -/

/-- `t` is `s` but for registers, of which those that satisfy `P` are the same, contexts of requesters and the scheduler. -/
def SchedStep (P : Nat → Prop) (s t : State) : Prop := (∃ a q h, t = { s with regs := a, req := q, sched := h }) ∧ RegsIf P s t

namespace SchedStep
variable {P : Nat → Prop} {r s t : State}

theorem refl : SchedStep P s s := ⟨⟨s.regs, s.req, s.sched, rfl⟩, RegsIf.refl⟩

theorem others (h : SchedStep P s t) : t = { s with regs := t.regs, req := t.req, sched := t.sched } := by
  obtain ⟨⟨a, q, x, rfl⟩, -⟩ := h
  rfl

theorem weaken {Q : Nat → Prop} (h : SchedStep P s t) (i : ∀ o, Q o → P o) : SchedStep Q s t := ⟨h.1, fun o ho => h.2 o (i o ho)⟩

theorem regStep (h : SchedStep P r s) (g : RegStep P s t) : SchedStep P r t := by
  obtain ⟨⟨a, q, x, rfl⟩, hr⟩ := h
  obtain ⟨⟨b, rfl⟩, gr⟩ := g
  exact ⟨⟨b, q, x, rfl⟩, hr.trans gr⟩

theorem trans (h : SchedStep P r s) (g : SchedStep P s t) : SchedStep P r t := by
  obtain ⟨⟨a, q, x, rfl⟩, hr⟩ := h
  obtain ⟨⟨b, q', y, rfl⟩, gr⟩ := g
  exact ⟨⟨b, q', y, rfl⟩, hr.trans gr⟩

theorem put {f : Fld} {v : Nat} (h : SchedStep P r s) (ho : ¬ P f.off) : SchedStep P r (s.put f v) := h.regStep (RegStep.refl.put ho)

theorem putN {o v : Nat} (h : SchedStep P r s) (ho : ¬ P o) : SchedStep P r (s.putN o v) := h.regStep (RegStep.refl.putN ho)

theorem bump {o : Nat} (h : SchedStep P r s) (ho : ¬ P o) : SchedStep P r (s.bump o) := h.regStep (RegStep.refl.bump ho)

theorem withReq (h : SchedStep P r s) (q : Tab ReqCtx) : SchedStep P r { s with req := q } := by
  obtain ⟨⟨a, _, x, rfl⟩, hr⟩ := h
  exact ⟨⟨a, q, x, rfl⟩, hr⟩

theorem withSched (h : SchedStep P r s) (x : SchedState) : SchedStep P r { s with sched := x } := by
  obtain ⟨⟨a, q, _, rfl⟩, hr⟩ := h
  exact ⟨⟨a, q, x, rfl⟩, hr⟩

theorem updRq {q : Req} {f : ReqCtx → ReqCtx} (h : SchedStep P r s) : SchedStep P r (s.updRq q f) := h.withReq _

theorem updCore {n : Nat} {f : CoreSlot → CoreSlot} (h : SchedStep P r s) : SchedStep P r (s.updCore n f) := h.withSched _

end SchedStep

section
variable (s : State) (n : Nat) (f : CoreSlot → CoreSlot) (o : Nat)

theorem slotOfCore_updCore : (s.updCore n f).slotOfCore n = f (s.slotOfCore n) := by
  rw [State.slotOfCore, State.updCore, Tab.get_set_same]

theorem slotOfCore_updCore_ne {k : Nat} (h : k ≠ n) : (s.updCore n f).slotOfCore k = s.slotOfCore k :=
  Tab.get_set_ne _ _ _ _ _ _ h

@[simp] theorem get_updCore (g : Fld) : (s.updCore n f).get g = s.get g := rfl
@[simp] theorem num_updCore : (s.updCore n f).num o = s.num o := rfl
end

/-- A fold whose steps all leave the state alone. -/
theorem each_fixed {α : Type} {s : State} {l : List α} {f : State → α → State} (h : ∀ x ∈ l, f s x = s) : s.each l f = s := by
  induction l with
  | nil => rfl
  | cons x xs ih =>
    rw [State.each, List.foldl_cons, h x List.mem_cons_self]
    exact ih fun y hy => h y (List.mem_cons_of_mem _ hy)

/-- Where no slot can be filled, a round of passes does nothing. -/
theorem round_idle {s : State} (h : ∀ q : Core, s.canFill q = false) : s.round = s := by
  refine each_fixed fun x hx => ?_
  obtain ⟨i, -, rfl⟩ := List.mem_map.1 hx
  rw [State.pass, h ⟨(s.sched.last + 1 + i) % 16, Nat.mod_lt _ (by decide)⟩]
  rfl

theorem canFill_congr {s t : State} {n : Nat} (hs : (t.slotOfCore n).slot = (s.slotOfCore n).slot)
    (hr : t.get (F.SCHED_CORE_n_CTRL_RUN n) = s.get (F.SCHED_CORE_n_CTRL_RUN n))
    (he : t.get (F.SCHED_CORE_n_CFG_SCHED_EN n) = s.get (F.SCHED_CORE_n_CFG_SCHED_EN n)) : t.canFill n = s.canFill n := by
  rw [State.canFill, State.canFill, hs, is_eq, is_eq, is_eq, is_eq, hr, he]

theorem leNat_lt (l : List Byte) : leNat l < 256 ^ l.length := by
  induction l with
  | nil => simp [leNat]
  | cons b l ih =>
    have hb : b.toNat < 256 := b.isLt
    rw [leNat, List.length_cons, Nat.pow_succ]
    omega

theorem sub_lt (l : List Byte) (i n : Nat) : sub l i n < 256 ^ n :=
  lt_of_lt_of_le (leNat_lt _) (Nat.pow_le_pow_right (by decide) (List.length_take_le _ _))

theorem flow_lt (i : WItem) : i.flow < 2 ^ 16 := sub_lt i.bytes 0x10 2

/-- The flow in service of a core, 0 where none is. -/
def CoreSlot.curFlow (c : CoreSlot) : Nat := (c.svc.map WItem.flow).getD 0

theorem coreShow_eq (s : State) (n : Nat) : ∃ a b : Nat, s.coreShow n =
    ((((s.put (F.SCHED_CORE_n_STATUS_RUNNING n) a).put (F.SCHED_CORE_n_STATUS_WFI n) b).put (F.SCHED_CORE_n_STATUS_IN_SERVICE n)
      (b2n (s.slotOfCore n).svc.isSome)).put (F.SCHED_CORE_n_STATUS_SLOT_FULL n) (b2n (s.slotOfCore n).slot.isSome)).put
      (F.SCHED_CORE_n_STATUS_CUR_FLOW n) (s.slotOfCore n).curFlow := by
  refine ⟨s.get (F.SCHED_CORE_n_CTRL_RUN n), b2n (s.hartOf n).wfi, ?_⟩
  rw [State.coreShow, CoreSlot.curFlow]
  cases (s.slotOfCore n).svc <;> rfl

/-- The status of a core is shown. -/
theorem coreShow_shows (s : State) (n : Core) :
    RegStep (· ∉ [R.SCHED_CORE_n_STATUS n]) s (s.coreShow n) ∧
      (s.coreShow n).get (F.SCHED_CORE_n_STATUS_IN_SERVICE n) = b2n (s.slotOfCore n).svc.isSome ∧
      (s.coreShow n).get (F.SCHED_CORE_n_STATUS_CUR_FLOW n) = (s.slotOfCore n).curFlow := by
  obtain ⟨a, b, e⟩ := coreShow_eq s n
  have hst : ∀ f : Fld, f.off = R.SCHED_CORE_n_STATUS n → ¬ (f.off ∉ [R.SCHED_CORE_n_STATUS n]) := by simp
  have hf : (F.SCHED_CORE_n_STATUS_CUR_FLOW n).fits (s.slotOfCore n).curFlow = true := by
    refine Fld.fits_of_lt (n := 2 ^ 16) (by simp [F.SCHED_CORE_n_STATUS_CUR_FLOW]) ?_
    rw [CoreSlot.curFlow]
    cases (s.slotOfCore n).svc with
    | none => decide
    | some i => exact flow_lt i
  rw [e]
  refine ⟨?_, ?_, ?_⟩
  · exact ((((RegStep.refl.put (hst _ rfl)).put (hst _ rfl)).put (hst _ rfl)).put (hst _ rfl)).put (hst _ rfl)
  · simp -implicitDefEqProofs (disch := (apply all_fin n; decide +kernel)) [get_put_b2n]
  · rw [get_put_same _ _ _ hf]

/-! ### Enqueue -/

section
variable {s : State} {q : Tab ReqCtx} {i : WItem}

theorem flowCount_withReq (f : Nat) : ({ s with req := q } : State).flowCount f = s.flowCount f := by
  simp only [State.flowCount, State.ready_, State.slotOfCore]

theorem readyCount_withReq : ({ s with req := q } : State).readyCount = s.readyCount := by
  simp only [State.readyCount, State.ready_]

theorem canFill_withReq (n : Nat) : ({ s with req := q } : State).canFill n = s.canFill n := by
  simp only [State.canFill, State.slotOfCore, State.is, State.get, State.word]

theorem get_withReq (f : Fld) : ({ s with req := q } : State).get f = s.get f := rfl

theorem enqueue_flow (h : i.flow = 0xFFFF ∨ s.get F.SCHED_FLOW_MAX_COUNT ≤ s.flowCount i.flow) :
    ({ s with req := q } : State).enqueue i =
      (enqFlow, (({ s with req := q } : State).bump R.SCHED_REFUSED_FLOW).put F.SCHED_EVENT_REFUSED 1) := by
  rw [State.enqueue, if_pos (by rw [flowCount_withReq, get_withReq]; exact h)]

theorem enqueue_allowed (h0 : i.flow ≠ 0xFFFF) (h1 : s.flowCount i.flow < s.get F.SCHED_FLOW_MAX_COUNT) :
    ¬ (i.flow = flowSelf ∨ ({ s with req := q } : State).get F.SCHED_FLOW_MAX_COUNT ≤ ({ s with req := q } : State).flowCount i.flow) := by
  rw [flowCount_withReq, get_withReq]
  rintro (h | h)
  · exact h0 h
  · omega

theorem enqueue_full (h0 : i.flow ≠ 0xFFFF) (h1 : s.flowCount i.flow < s.get F.SCHED_FLOW_MAX_COUNT)
    (h : s.get F.SCHED_CTRL_EN = 0 ∨ 4096 ≤ s.readyCount) : ({ s with req := q } : State).enqueue i =
      (enqFull, (({ s with req := q } : State).bump R.SCHED_REFUSED_FULL).put F.SCHED_EVENT_REFUSED 1) := by
  have hf : (!({ s with req := q } : State).is F.SCHED_CTRL_EN) = true ∨ 4096 ≤ ({ s with req := q } : State).readyCount := by
    rw [readyCount_withReq, is_eq, get_withReq]
    exact h.imp_left fun h => by simp [h]
  rw [State.enqueue, if_neg (enqueue_allowed h0 h1), if_pos hf]

theorem enqueue_accepted (h0 : i.flow ≠ 0xFFFF) (h1 : s.flowCount i.flow < s.get F.SCHED_FLOW_MAX_COUNT)
    (he : s.get F.SCHED_CTRL_EN = 1) (hc : s.readyCount < 4096) : ({ s with req := q } : State).enqueue i =
      (enqAccepted, (({ s with req := q } : State).setReady i.prio (s.ready_ i.prio ++ [i])).round) := by
  have hf : ¬ ((!({ s with req := q } : State).is F.SCHED_CTRL_EN) = true ∨ 4096 ≤ ({ s with req := q } : State).readyCount) := by
    rw [readyCount_withReq, is_eq, get_withReq]
    rintro (h | h)
    · simp [he] at h
    · omega
  rw [State.enqueue, if_neg (enqueue_allowed h0 h1), if_neg hf]
  rfl

end

/-- The item that a requester submits with its last word. -/
def State.stagedItem (s : State) (r : Req) (v : Word) : WItem :=
  { bytes := (List.range 8).flatMap (fun k => leBytes 4 (Tab.get 0 (Tab.set 0 7 v (s.rq r).itemW) k).toNat) }

/-- The result of an enqueue is answered to the requester. -/
def State.enqAnswer (s : State) (r : Req) (res : Nat) : State :=
  s.updRq r (fun c => { c with enqResult := BitVec.ofNat 32 ((c.enqResult.toNat / 2 ^ 24 + 1) % 256 * 2 ^ 24 + res) })

theorem schedEnqueue_eq (r : Req) (v : Word) (s : State) : ∃ q : Tab ReqCtx,
    (Tab.get {} q (reqKey r)).enqResult = (s.rq r).enqResult ∧
      schedEnqueue r v s = (({ s with req := q } : State).enqueue (s.stagedItem r v)).2.enqAnswer r
        (({ s with req := q } : State).enqueue (s.stagedItem r v)).1 := by
  refine ⟨(s.updRq r (fun c => { c with itemW := Tab.set 0 7 v c.itemW })).req, ?_, ?_⟩
  · change ((s.updRq r (fun c => { c with itemW := Tab.set 0 7 v c.itemW })).rq r).enqResult = _
    rw [rq_updRq]
  · have h : ((s.updRq r (fun c => { c with itemW := Tab.set 0 7 v c.itemW })).rq r).itemW = Tab.set 0 7 v (s.rq r).itemW := by rw [rq_updRq]
    simp only [schedEnqueue, h]
    rfl

theorem enqAnswer_shows (s : State) (r : Req) {res : Nat} (h : res < 256) :
    ((s.enqAnswer r res).rq r).enqResult.toNat % 256 = res ∧
      ((s.enqAnswer r res).rq r).enqResult.toNat / 2 ^ 24 = ((s.rq r).enqResult.toNat / 2 ^ 24 + 1) % 256 := by
  rw [State.enqAnswer, rq_updRq]
  simp only [BitVec.toNat_ofNat]
  omega

/-- The ready list of a priority is replaced. -/
theorem setReady_shows (s : State) {p : Nat} (hp : p < 4) (l : List WItem) :
    SchedStep (· ∉ [R.SCHED_FILL, R.SCHED_FILL_Pp 0, R.SCHED_FILL_Pp 1, R.SCHED_FILL_Pp 2, R.SCHED_FILL_Pp 3]) s (s.setReady p l) ∧
      (s.setReady p l).ready_ p = l ∧ (∀ q, q ≠ p → (s.setReady p l).ready_ q = s.ready_ q) ∧
      (∀ n, (s.setReady p l).slotOfCore n = s.slotOfCore n) ∧ (s.setReady p l).req = s.req := by
  refine ⟨((SchedStep.refl.withSched _).putN ?_).putN ?_, ?_, ?_, ?_, ?_⟩
  · interval_cases p <;> simp
  · simp
  · rw [State.setReady, State.ready_, putN_sched, putN_sched]
    exact Tab.get_set_same _ _ _ _
  · intro q hq
    rw [State.setReady, State.ready_, putN_sched, putN_sched]
    exact Tab.get_set_ne _ _ _ _ _ _ hq
  · intro n
    rw [State.setReady, State.slotOfCore, putN_sched, putN_sched, State.slotOfCore]
  · rw [State.setReady, putN_req, putN_req]

/-- A refusal is counted and answered. -/
theorem enqRefused_shows (s : State) (r : Req) {q : Tab ReqCtx} (hq : (Tab.get {} q (reqKey r)).enqResult = (s.rq r).enqResult) {o res : Nat}
    (ho : o = R.SCHED_REFUSED_FLOW ∨ o = R.SCHED_REFUSED_FULL) (hr : res < 256) (t : State)
    (ht : t = (((({ s with req := q } : State).bump o).put F.SCHED_EVENT_REFUSED 1).enqAnswer r res)) :
    t.num o = min satMax (s.num o + 1) ∧ t.get F.SCHED_EVENT_REFUSED = 1 ∧ (t.rq r).enqResult.toNat % 256 = res ∧
      (t.rq r).enqResult.toNat / 2 ^ 24 = ((s.rq r).enqResult.toNat / 2 ^ 24 + 1) % 256 ∧ RegsBut [o, R.SCHED_EVENT] s t ∧
      t = { s with regs := t.regs, req := t.req } := by
  have hne : R.SCHED_EVENT ≠ o := by rcases ho with rfl | rfl <;> decide
  have hg : RegStep (· ∉ [o, R.SCHED_EVENT]) ({ s with req := q } : State) ((({ s with req := q } : State).bump o).put F.SCHED_EVENT_REFUSED 1) :=
    (RegStep.refl.bump (by simp)).put (by simp [F.SCHED_EVENT_REFUSED])
  have h1 : ((({ s with req := q } : State).bump o).put F.SCHED_EVENT_REFUSED 1).num o = min satMax (s.num o + 1) := by
    rw [num_put_apart _ _ _ _ (Ne.symm hne), num_bump_same]
    rfl
  have h2 : ((({ s with req := q } : State).bump o).put F.SCHED_EVENT_REFUSED 1).get F.SCHED_EVENT_REFUSED = 1 := get_put_same _ _ _ (by decide)
  generalize ((({ s with req := q } : State).bump o).put F.SCHED_EVENT_REFUSED 1) = u at *
  obtain ⟨⟨a, rfl⟩, hk⟩ := hg
  obtain ⟨h3, h4⟩ := enqAnswer_shows { s with req := q, regs := a } r hr
  subst ht
  exact ⟨h1, h2, h3, h4.trans (by rw [← hq]; rfl), hk, rfl⟩

/-! ### TAKE and DONE -/

theorem sched_of_regStep {P : Nat → Prop} {s t : State} (h : RegStep P s t) : t.req = s.req ∧ t.sched = s.sched := by
  obtain ⟨⟨_, rfl⟩, -⟩ := h
  exact ⟨rfl, rfl⟩

theorem slotOfCore_congr {s t : State} (h : t.sched = s.sched) (n : Nat) : t.slotOfCore n = s.slotOfCore n := by
  rw [State.slotOfCore, h, State.slotOfCore]

/-- The item in service completes. -/
theorem complete_shows (s : State) (n : Core) (t : State) (ht : t = (s.complete n).1) :
    SchedStep (· ∉ [R.SCHED_CORE_n_STATUS n]) s t ∧ t.slotOfCore n = { s.slotOfCore n with svc := none } ∧
      (∀ k, k ≠ n.val → t.slotOfCore k = s.slotOfCore k) ∧ t.req = s.req ∧ t.get (F.SCHED_CORE_n_STATUS_IN_SERVICE n) = 0 := by
  obtain ⟨hc, hi, -⟩ := coreShow_shows (s.updCore n (fun c => { c with svc := none })) n
  have e : t = (s.updCore n (fun c => { c with svc := none })).coreShow n := ht
  rw [← e] at hc hi
  obtain ⟨hr, hs⟩ := sched_of_regStep hc
  refine ⟨SchedStep.refl.updCore.regStep hc, ?_, fun k hk => ?_, ?_, ?_⟩
  · rw [slotOfCore_congr hs, slotOfCore_updCore]
  · rw [slotOfCore_congr hs, slotOfCore_updCore_ne _ _ _ hk]
  · rw [hr, updCore_req]
  · rw [hi, slotOfCore_updCore]
    rfl

/-- The item of a slot is taken into service. -/
def State.taken (s : State) (r : Req) (n : Nat) (i : WItem) : State :=
  (((s.updRq r (fun q => { q with rword := BitVec.ofNat 32 (2 ^ 31 + (s.slotOfCore n).buf * 2 ^ 30 + i.flow) })).updCore n
    (fun c => { slot := none, svc := some i, buf := 1 - c.buf })).bump (R.SCHED_CORE_n_ITEMS n)).coreShow n

theorem schedTake_full {s u : State} {r : Req} {n : Core} {i : WItem} (hv : (s.slotOfCore n).svc = none) (hu : u = (s.complete n).1)
    (hs : (u.slotOfCore n).slot = some i) : schedTake r n s = (u.taken r n i).pass n := by
  have hr : (s.complete n).2 = false := by
    rw [State.complete, hv]
    rfl
  simp [schedTake, ← hu, hr, hs, State.taken]

theorem schedTake_empty {s u : State} {r : Req} {n : Core} (hv : (s.slotOfCore n).svc = none) (hu : u = (s.complete n).1)
    (hs : (u.slotOfCore n).slot = none) : schedTake r n s = u.updRq r (fun q => { q with rword := 0 }) := by
  have hr : (s.complete n).2 = false := by
    rw [State.complete, hv]
    rfl
  simp [schedTake, ← hu, hr, hs]

theorem taken_shows (s : State) (r : Req) (n : Core) (i : WItem) (t : State) (ht : t = s.taken r n i) :
    ((t.rq r).rword.toNat = 2 ^ 31 + (s.slotOfCore n).buf % 2 * 2 ^ 30 + i.flow ∨ 2 ≤ (s.slotOfCore n).buf) ∧
      t.slotOfCore n = { slot := none, svc := some i, buf := 1 - (s.slotOfCore n).buf } ∧
      t.num (R.SCHED_CORE_n_ITEMS n) = min satMax (s.num (R.SCHED_CORE_n_ITEMS n) + 1) ∧
      t.get (F.SCHED_CORE_n_STATUS_CUR_FLOW n) = i.flow ∧
      SchedStep (· ∉ [R.SCHED_CORE_n_ITEMS n, R.SCHED_CORE_n_STATUS n]) s t := by
  subst ht
  have hq := rq_updRq s r (fun q => { q with rword := BitVec.ofNat 32 (2 ^ 31 + (s.slotOfCore n).buf * 2 ^ 30 + i.flow) })
  have hs := SchedStep.updRq (q := r) (f := fun q => { q with rword := BitVec.ofNat 32 (2 ^ 31 + (s.slotOfCore n).buf * 2 ^ 30 + i.flow) })
    (SchedStep.refl (P := (· ∉ [R.SCHED_CORE_n_ITEMS n, R.SCHED_CORE_n_STATUS n])) (s := s))
  have hb : (s.updRq r (fun q => { q with rword := BitVec.ofNat 32 (2 ^ 31 + (s.slotOfCore n).buf * 2 ^ 30 + i.flow) })).slotOfCore n =
      s.slotOfCore n := slotOfCore_congr (updRq_sched _ _ _) _
  have hi := num_updRq s r (fun q => { q with rword := BitVec.ofNat 32 (2 ^ 31 + (s.slotOfCore n).buf * 2 ^ 30 + i.flow) }) (R.SCHED_CORE_n_ITEMS n)
  rw [State.taken]
  generalize s.updRq r _ = u at *
  have hw := SchedStep.bump (o := R.SCHED_CORE_n_ITEMS n)
    (hs.updCore (n := n) (f := fun c => { slot := none, svc := some i, buf := 1 - c.buf })) (by simp)
  have hc : ((u.updCore n (fun c => { slot := none, svc := some i, buf := 1 - c.buf })).bump (R.SCHED_CORE_n_ITEMS n)).slotOfCore n =
      { slot := none, svc := some i, buf := 1 - (s.slotOfCore n).buf } := by
    rw [slotOfCore_congr (bump_sched _ _), slotOfCore_updCore, hb]
  have hn : ((u.updCore n (fun c => { slot := none, svc := some i, buf := 1 - c.buf })).bump (R.SCHED_CORE_n_ITEMS n)).num (R.SCHED_CORE_n_ITEMS n) =
      min satMax (s.num (R.SCHED_CORE_n_ITEMS n) + 1) := by
    rw [num_bump_same, num_updCore, hi]
  have hr : ((u.updCore n (fun c => { slot := none, svc := some i, buf := 1 - c.buf })).bump (R.SCHED_CORE_n_ITEMS n)).rq r = u.rq r := by
    rw [State.rq, bump_req, updCore_req, State.rq]
  generalize (u.updCore n (fun c => { slot := none, svc := some i, buf := 1 - c.buf })).bump (R.SCHED_CORE_n_ITEMS n) = w at *
  obtain ⟨h1, -, h3⟩ := coreShow_shows w n
  obtain ⟨e1, e2⟩ := sched_of_regStep h1
  have hrq : ((w.coreShow n).rq r).rword = BitVec.ofNat 32 (2 ^ 31 + (s.slotOfCore n).buf * 2 ^ 30 + i.flow) := by
    rw [State.rq, e1, ← State.rq, hr, hq]
  refine ⟨?_, ?_, ?_, ?_, hw.regStep (h1.weaken fun o ho hm => ho (by simp at hm; simp [hm]))⟩
  · rw [hrq, BitVec.toNat_ofNat]
    have := flow_lt i
    omega
  · rw [slotOfCore_congr e2, hc]
  · rw [h1.2.num (by apply all_fin n; decide +kernel), hn]
  · rw [h3, hc]
    rfl

/-- The fields of a core's CFG that a write always stores. -/
def State.coreCfg (s : State) (n : Nat) (v : Word) : State :=
  (s.put (F.SCHED_CORE_n_CFG_SCHED_EN n) (bitsOf v 31 31)).put (F.SCHED_CORE_n_CFG_PRIO_MASK n) (bitsOf v 23 20)

theorem coreCfg_shows (s : State) (n : Core) (v : Word) :
    (s.coreCfg n v).get (F.SCHED_CORE_n_CFG_SCHED_EN n) = bitsOf v 31 31 ∧ (s.coreCfg n v).get (F.SCHED_CORE_n_CFG_PRIO_MASK n) = bitsOf v 23 20 ∧
      (s.coreCfg n v).get (F.SCHED_CORE_n_CFG_SLOT_OFF n) = s.get (F.SCHED_CORE_n_CFG_SLOT_OFF n) ∧
      RegStep (· ∉ [R.SCHED_CORE_n_CFG n]) s (s.coreCfg n v) := by
  have h1 : (F.SCHED_CORE_n_CFG_SCHED_EN n).fits (bitsOf v 31 31) = true := Fld.fits_of_lt (n := 2) rfl (bitsOf_lt v 31 31)
  have h2 : (F.SCHED_CORE_n_CFG_PRIO_MASK n).fits (bitsOf v 23 20) = true := Fld.fits_of_lt (n := 16) rfl (bitsOf_lt v 23 20)
  refine ⟨?_, ?_, ?_, (RegStep.refl.put (by simp [F.SCHED_CORE_n_CFG_SCHED_EN])).put (by simp [F.SCHED_CORE_n_CFG_PRIO_MASK])⟩
  all_goals simp -implicitDefEqProofs (disch := (apply all_fin n; decide +kernel)) [State.coreCfg, get_put_same _ _ _ h1, get_put_same _ _ _ h2]

/-- A write of CFG that leaves SCHED_EN as it is makes no pass. -/
theorem coreCfgWrite_eq {s : State} {n : Core} {v : Word} (hv : bitsOf v 31 31 = s.get (F.SCHED_CORE_n_CFG_SCHED_EN n)) {t : State}
    (ht : t = if bitsOf v 16 0 % 64 = 0 then (s.coreCfg n v).put (F.SCHED_CORE_n_CFG_SLOT_OFF n) (bitsOf v 16 0) else (s.coreCfg n v).enumRefused) :
    coreCfgWrite n v s = t := by
  have he : t.is (F.SCHED_CORE_n_CFG_SCHED_EN n) = s.is (F.SCHED_CORE_n_CFG_SCHED_EN n) := by
    rw [is_eq, is_eq, ← hv, ← (coreCfg_shows s n v).1, ht]
    split
    · rw [get_put_apart _ _ _ _ (by apply all_fin n; decide +kernel)]
    · rw [State.enumRefused, get_bump_apart _ _ _ (by apply all_fin n; decide +kernel)]
  have e : coreCfgWrite n v s = if s.is (F.SCHED_CORE_n_CFG_SCHED_EN n) && !t.is (F.SCHED_CORE_n_CFG_SCHED_EN n) then t.retreat n
      else if !s.is (F.SCHED_CORE_n_CFG_SCHED_EN n) && t.is (F.SCHED_CORE_n_CFG_SCHED_EN n) then t.pass n else t := by
    rw [ht]
    rfl
  rw [e, he]
  cases s.is (F.SCHED_CORE_n_CFG_SCHED_EN n) <;> rfl

/-- Settles O37: the scheduler's steps are followed through `setReady`, `complete` and `taken`; no pass fills a slot (`round_idle`). -/
theorem workScheduler : Obligations.WorkScheduler := by
  refine ⟨?_, ?_, ?_, ?_, ?_, ?_, ?_, ?_, ?_⟩
  · intro s r v i hi h0 h1 he hc hf
    obtain ⟨q, hq, e⟩ := schedEnqueue_eq r v s
    obtain ⟨hs, hl, hl', hn, hr⟩ := setReady_shows ({ s with req := q } : State) (p := i.prio) (Nat.mod_lt _ (by decide)) (s.ready_ i.prio ++ [i])
    rw [show s.stagedItem r v = i from hi.symm, enqueue_accepted h0 h1 he hc] at e
    generalize ({ s with req := q } : State).setReady i.prio (s.ready_ i.prio ++ [i]) = u at *
    have hi : u.round = u := round_idle fun k => by
      refine (canFill_congr (congrArg CoreSlot.slot (hn k)) (hs.2.get ?_) (hs.2.get ?_)).trans ((canFill_withReq k).trans (hf k))
      all_goals apply all_fin k; decide +kernel
    rw [hi] at e
    obtain ⟨h3, h4⟩ := enqAnswer_shows u r (show enqAccepted < 256 by decide)
    obtain ⟨⟨a, q', x, rfl⟩, hk⟩ := hs
    refine completes_of_eq rfl e ⟨hl, hl', h3, h4.trans ?_, hk, rfl⟩
    obtain rfl : q' = q := hr
    rw [← hq]
    rfl
  · intro s r v i hi h
    obtain ⟨q, hq, e⟩ := schedEnqueue_eq r v s
    rw [show s.stagedItem r v = i from hi.symm, enqueue_flow h] at e
    exact completes_intro rfl fun t ht => enqRefused_shows s r hq (.inl rfl) (by decide) t (ht.trans e)
  · intro s r v i hi h0 h1 h
    obtain ⟨q, hq, e⟩ := schedEnqueue_eq r v s
    rw [show s.stagedItem r v = i from hi.symm, enqueue_full h0 h1 h] at e
    exact completes_intro rfl fun t ht => enqRefused_shows s r hq (.inr rfl) (by decide) t (ht.trans e)
  · intro s r n i hv hs he
    obtain ⟨h1, h2, -, h4, h5⟩ := complete_shows s n _ rfl
    have hu : ((s.complete n).1.slotOfCore n) = s.slotOfCore n := by rw [h2, ← hv]
    have e := schedTake_full (r := r) hv rfl (by rw [hu, hs])
    generalize (s.complete n).1 = u at *
    obtain ⟨k1, k2, k3, k4, k5⟩ := taken_shows u r n i _ rfl
    generalize u.taken r n i = w at *
    have hf : w.canFill n = false := by
      have : w.get (F.SCHED_CORE_n_CFG_SCHED_EN n) = s.get (F.SCHED_CORE_n_CFG_SCHED_EN n) :=
        (k5.2.get (by apply all_fin n; decide +kernel)).trans (h1.2.get (by apply all_fin n; decide +kernel))
      simp [State.canFill, is_eq, this, he]
    have hp : w.pass n = w := by rw [State.pass, if_neg (by simp [hf])]
    have hI : u.num (R.SCHED_CORE_n_ITEMS n) = s.num (R.SCHED_CORE_n_ITEMS n) := h1.2.num (by apply all_fin n; decide +kernel)
    have hS := (h1.weaken (Q := (· ∉ [R.SCHED_CORE_n_ITEMS n, R.SCHED_CORE_n_STATUS n])) fun o ho hm => ho (by simp at hm; simp [hm])).trans k5
    rw [hu] at k1 k2
    rw [hI] at k3
    rw [hp] at e
    exact completes_of_eq rfl e ⟨k1, by rw [k2], by rw [k2], by rw [k2], k3, k4, hS.2, hS.others⟩
  · intro s r n hv hs
    obtain ⟨h1, h2, -, h4, h5⟩ := complete_shows s n _ rfl
    have hu : ((s.complete n).1.slotOfCore n) = s.slotOfCore n := by rw [h2, ← hv]
    have e := schedTake_empty (r := r) hv rfl (by rw [hu, hs])
    generalize (s.complete n).1 = u at *
    refine completes_of_eq rfl e ⟨?_, ?_, h1.2.of_regs (updRq_regs _ _ _)⟩
    · rw [rq_updRq]
    · rw [slotOfCore_congr (updRq_sched _ _ _), hu]
  · intro s n v i hv hs hf
    obtain ⟨h1, h2, h3, h4, h5⟩ := complete_shows s n _ rfl
    have hr : (s.complete n).2 = true := by
      rw [State.complete, hs]
      rfl
    have e : schedDone n v s = (s.complete n).1.round := by simp [schedDone, hv, hr]
    generalize (s.complete n).1 = u at *
    have hi : u.round = u := round_idle fun k => by
      rw [← hf k]
      refine canFill_congr ?_ (h1.2.get ?_) (h1.2.get ?_)
      · by_cases hk : k = n
        · rw [hk, h2]
        · rw [h3 k fun h => hk (Fin.ext h)]
      all_goals apply all_fin₂ k n; decide +kernel
    rw [hi] at e
    exact completes_of_eq rfl e ⟨by rw [h2], by rw [h2], h5, h1.2, h4 ▸ h1.others⟩
  · intro s n v hv
    exact congrArg Host.Outcome.next (if_neg (by simp [hv]))
  · intro s n v hv ho
    obtain ⟨h1, h2, -, h4⟩ := coreCfg_shows s n v
    refine completes_of_eq rfl (coreCfgWrite_eq hv (if_pos ho).symm) ?_
    have hS := h4.put (f := F.SCHED_CORE_n_CFG_SLOT_OFF n) (v := bitsOf v 16 0) (by simp [F.SCHED_CORE_n_CFG_SLOT_OFF])
    have hf : (F.SCHED_CORE_n_CFG_SLOT_OFF n).fits (bitsOf v 16 0) = true :=
      Fld.fits_of_lt (n := 2 ^ 17) (by simp [F.SCHED_CORE_n_CFG_SLOT_OFF]) (bitsOf_lt v 16 0)
    refine ⟨?_, get_put_same _ _ _ hf, ?_, hS.2, hS.others⟩
    · rw [get_put_apart _ _ _ _ (by apply all_fin n; decide +kernel), h2]
    · rw [get_put_apart _ _ _ _ (by apply all_fin n; decide +kernel), h1]
  · intro s n v hv ho
    obtain ⟨-, h2, h3, h4⟩ := coreCfg_shows s n v
    refine completes_of_eq rfl (coreCfgWrite_eq hv (if_neg ho).symm) ?_
    have he : (s.coreCfg n v).num R.GLB_ERR_ENUM = s.num R.GLB_ERR_ENUM := h4.2.num (by apply all_fin n; decide +kernel)
    refine ⟨?_, ?_, ?_, ?_⟩
    · rw [State.enumRefused, get_bump_apart _ _ _ (by apply all_fin n; decide +kernel), h3]
    · rw [State.enumRefused, get_bump_apart _ _ _ (by apply all_fin n; decide +kernel), h2]
    · rw [State.enumRefused, num_bump_same, he]
    · exact ((h4.weaken fun o ho hm => ho (by simp at hm; simp [hm])).bump (by simp)).2

end Sys2Proof.Machine
end

section
-- One proof at a time: the whole text then stays within the memory the check allows.
set_option Elab.async false
/-! PROOFS. O52: the event log and the ledger. -/

namespace Sys2Proof.Machine
open State

/-! ### The flash -/

theorem flashByte_congr {s t : State} (h : t.mgmt.flash = s.mgmt.flash) (a : Nat) : t.flashByte a = s.flashByte a := by
  rw [State.flashByte, h, State.flashByte]

theorem Tab.get_filter {α : Type} (d : α) (p : Nat → Bool) (t : Tab α) (i : Nat) :
    Tab.get d (t.filter (fun x => p x.1)) i = if p i then Tab.get d t i else d := by
  induction t with
  | nil => simp [Tab.get]
  | cons x t ih =>
    obtain ⟨k, v⟩ := x
    by_cases hk : p k
    · by_cases hi : i = k
      · subst hi
        simp [Tab.get, hk]
      · simp only [List.filter_cons_of_pos (p := fun x : Nat × α => p x.1) (a := (k, v)) hk, Tab.get, ih, if_neg hi]
    · by_cases hi : i = k
      · subst hi
        simp [hk, ih]
      · simp only [List.filter_cons_of_neg (p := fun x : Nat × α => p x.1) (a := (k, v)) hk, Tab.get, ih, if_neg hi]

/-- An erased range reads 0xFF. -/
theorem flashByte_flashErase (s : State) (a n i : Nat) :
    (s.flashErase a n).flashByte i = if a ≤ i ∧ i < a + n then 0xFF else s.flashByte i := by
  rw [State.flashByte, State.flashErase]
  refine (Tab.get_filter 0xFF (fun k => !(decide (a ≤ k) && decide (k < a + n))) s.mgmt.flash i).trans ?_
  by_cases h : a ≤ i ∧ i < a + n
  · simp [h]
  · rw [if_neg h, if_pos (by simp; omega)]
    rfl

/-- Bytes programmed one after the other. -/
theorem get_programmed (l : List Byte) (a k : Nat) (f : Tab Byte) (i : Nat) :
    Tab.get 0xFF ((l.zipIdx k).foldl (fun f p => Tab.set 0xFF (a + p.2) p.1 f) f) i =
      if a + k ≤ i ∧ i < a + k + l.length then l.getD (i - (a + k)) 0 else Tab.get 0xFF f i := by
  induction l generalizing k f with
  | nil =>
    rw [if_neg (by simp)]
    rfl
  | cons b l ih =>
    rw [List.zipIdx_cons, List.foldl_cons, ih, List.length_cons]
    by_cases h1 : a + (k + 1) ≤ i ∧ i < a + (k + 1) + l.length
    · rw [if_pos h1, if_pos (by omega), show i - (a + k) = i - (a + (k + 1)) + 1 by omega, List.getD_cons_succ]
    · rw [if_neg h1]
      by_cases h2 : i = a + k
      · rw [if_pos (by omega), h2]
        simp
      · rw [if_neg (by omega), Tab.get_set_ne _ _ _ _ _ _ h2]

theorem flashByte_flashWr (s : State) (a : Nat) (l : List Byte) (i : Nat) :
    (s.flashWr a l).flashByte i = if a ≤ i ∧ i < a + l.length then l.getD (i - a) 0 else s.flashByte i :=
  get_programmed l a 0 s.mgmt.flash i

theorem flashWr_others (s : State) (a : Nat) (l : List Byte) : (s.flashWr a l).mgmt.commit = s.mgmt.commit ∧
    (s.flashWr a l).mgmt.ledger = s.mgmt.ledger ∧ s.flashWr a l = { s with mgmt := (s.flashWr a l).mgmt } := ⟨rfl, rfl, rfl⟩

/-- What was programmed is read back. -/
theorem flashRd_flashWr (s : State) (a : Nat) (l : List Byte) {n : Nat} (h : l.length = n) : (s.flashWr a l).flashRd a n = l := by
  refine List.ext_getElem (by simp [State.flashRd, h]) fun i h1 h2 => ?_
  simp only [State.flashRd, List.getElem_map, List.getElem_range]
  rw [flashByte_flashWr, if_pos (by omega), Nat.add_sub_cancel_left, List.getD_eq_getElem _ _ h2]

theorem flashRd_congr {s t : State} (h : t.mgmt.flash = s.mgmt.flash) (a n : Nat) : t.flashRd a n = s.flashRd a n :=
  List.map_congr_left fun i _ => flashByte_congr h (a + i)

/-! ### The event log -/

theorem length_leBytes (n v : Nat) : (leBytes n v).length = n := by
  induction n generalizing v with
  | zero => rfl
  | succ n ih => rw [leBytes, List.length_cons, ih]

/-- The 64 bytes of a record with the number `q`. -/
def logRecord (q : Nat) (b : List Byte) : List Byte := leBytes 4 q ++ b ++ leBytes 4 (crc32c (leBytes 4 q ++ b))

theorem length_logRecord (q : Nat) {b : List Byte} (h : b.length = 56) : (logRecord q b).length = 64 := by
  simp [logRecord, length_leBytes, h]

/-- The flash before a record is programmed into ring slot `i`: the first slot of a sector erases it. -/
def State.logSector (s : State) (i : Nat) : State := if i % 64 = 0 then s.flashErase (logBase + 64 * i) 4096 else s

/-- The ring after a record. -/
def State.logAdvance (s : State) (l : List (List Byte)) (q i : Nat) : State :=
  { s with mgmt := { s.mgmt with logQ := l, logNext := q + 1, logStart := i } }.putN R.MGS_LOG_NEWEST q

theorem logRecordWrite_eq {s : State} {b : List Byte} {l : List (List Byte)} (hq : s.mgmt.logQ = b :: l) (hs : s.logSlots ≠ 0) :
    logRecordWrite s = ((s.logSector s.mgmt.logStart).flashWr (logBase + 64 * s.mgmt.logStart) (logRecord (s.mgmt.logNext % 2 ^ 32) b)).logAdvance l
      (s.mgmt.logNext % 2 ^ 32) ((s.mgmt.logStart + 1) % s.logSlots) := by
  have h : ((s.logSector s.mgmt.logStart).flashWr (logBase + 64 * s.mgmt.logStart) (logRecord (s.mgmt.logNext % 2 ^ 32) b)).logSlots = s.logSlots := by
    rw [State.logSector]
    split <;> rfl
  rw [logRecordWrite, hq]
  simp only [hs, if_false]
  rw [State.logAdvance, ← h]
  rfl

theorem logAdvance_shows (s : State) (l : List (List Byte)) {q : Nat} (hq : q < 2 ^ 32) (i : Nat) :
    (s.logAdvance l q i).mgmt.flash = s.mgmt.flash ∧ (s.logAdvance l q i).mgmt.logQ = l ∧ (s.logAdvance l q i).mgmt.logNext = q + 1 ∧
      (s.logAdvance l q i).mgmt.logStart = i ∧ (s.logAdvance l q i).num R.MGS_LOG_NEWEST = q ∧
      s.logAdvance l q i = { s with regs := (s.logAdvance l q i).regs, mgmt := (s.logAdvance l q i).mgmt } := by
  refine ⟨by rw [State.logAdvance, putN_mgmt], by rw [State.logAdvance, putN_mgmt], by rw [State.logAdvance, putN_mgmt],
    by rw [State.logAdvance, putN_mgmt], by rw [State.logAdvance, num_putN_same _ _ _ hq], ?_⟩
  obtain ⟨⟨r, e⟩, -⟩ := RegStep.refl (P := fun _ => False) (s := { s with mgmt := { s.mgmt with logQ := l, logNext := q + 1, logStart := i } })
    |>.putN (o := R.MGS_LOG_NEWEST) (v := q) id
  rw [State.logAdvance, e]

theorem logSector_mgmt (s : State) (i : Nat) : s.logSector i = { s with mgmt := (s.logSector i).mgmt } := by
  rw [State.logSector]
  split <;> rfl

/-- What a record that is written shows, but for the rest of its sector. -/
theorem logRecordWrite_shows {s : State} {b : List Byte} {l : List (List Byte)} (hq : s.mgmt.logQ = b :: l) (hb : b.length = 56)
    (hs : s.logSlots ≠ 0) (t : State) (ht : t = logRecordWrite s) :
    t.flashRd (0x1020000 + 64 * s.mgmt.logStart) 64 = logRecord (s.mgmt.logNext % 2 ^ 32) b ∧
      (∀ a, a < 0x1020000 + 64 * s.mgmt.logStart ∨ 0x1020000 + 64 * s.mgmt.logStart + 64 ≤ a →
        t.flashByte a = (s.logSector s.mgmt.logStart).flashByte a) ∧
      t.mgmt.logQ = l ∧ t.mgmt.logNext = s.mgmt.logNext % 2 ^ 32 + 1 ∧ t.mgmt.logStart = (s.mgmt.logStart + 1) % s.logSlots ∧
      t.num R.MGS_LOG_NEWEST = s.mgmt.logNext % 2 ^ 32 ∧ t = { s with regs := t.regs, mgmt := t.mgmt } := by
  have hl := length_logRecord (s.mgmt.logNext % 2 ^ 32) hb
  rw [logRecordWrite_eq hq hs] at ht
  have hm : (s.logSector s.mgmt.logStart).flashWr (logBase + 64 * s.mgmt.logStart) (logRecord (s.mgmt.logNext % 2 ^ 32) b) =
      { s with mgmt := ((s.logSector s.mgmt.logStart).flashWr (logBase + 64 * s.mgmt.logStart) (logRecord (s.mgmt.logNext % 2 ^ 32) b)).mgmt } := by
    rw [logSector_mgmt]
    rfl
  have hr := flashRd_flashWr (s.logSector s.mgmt.logStart) (logBase + 64 * s.mgmt.logStart) (logRecord (s.mgmt.logNext % 2 ^ 32) b) hl
  have hw := flashByte_flashWr (s.logSector s.mgmt.logStart) (logBase + 64 * s.mgmt.logStart) (logRecord (s.mgmt.logNext % 2 ^ 32) b)
  generalize (s.logSector s.mgmt.logStart).flashWr (logBase + 64 * s.mgmt.logStart) (logRecord (s.mgmt.logNext % 2 ^ 32) b) = u at *
  obtain ⟨h1, h2, h3, h4, h5, h6⟩ := logAdvance_shows u l (Nat.mod_lt s.mgmt.logNext (by decide : 0 < 2 ^ 32)) ((s.mgmt.logStart + 1) % s.logSlots)
  rw [← ht] at h1 h2 h3 h4 h5 h6
  refine ⟨(flashRd_congr h1 _ _).trans hr, fun a ha => ?_, h2, h3, h4, h5, h6.trans (by rw [hm])⟩
  rw [flashByte_congr h1, hw, if_neg (by rw [hl]; simp only [logBase]; omega)]

theorem logPush_room {s : State} (h : s.mgmt.logQ.length < 256) (src sev code req : Nat) (d : List Byte) :
    s.logPush src sev code req d = { s with mgmt := { s.mgmt with logQ := s.mgmt.logQ ++ [s.logBody src sev code req d] } } :=
  if_neg (by omega)

theorem logPush_full {s : State} (h : 256 ≤ s.mgmt.logQ.length) (src sev code req : Nat) (d : List Byte) :
    s.logPush src sev code req d = (s.bump R.MGS_LOG_LOST).put F.MGS_EVENT_LOG_LOST 1 := if_pos h

/-- What an event of the chip leaves: it queues a record or counts a lost one. -/
def LogStep (s t : State) : Prop :=
  (∃ r n l, t = { s with regs := r, free := n, mgmt := { s.mgmt with logQ := l } }) ∧ RegsIf (· ∉ [R.MGS_LOG_LOST, R.MGS_EVENT]) s t ∧
    ∀ f : Fld, f.off = R.MGS_EVENT → F.MGS_EVENT_LOG_LOST.apart f = true → t.get f = s.get f

theorem logStep_logPush (s : State) (src sev code req : Nat) (d : List Byte) : LogStep s (s.logPush src sev code req d) := by
  by_cases h : s.mgmt.logQ.length < 256
  · rw [logPush_room h]
    exact ⟨⟨s.regs, s.free, _, rfl⟩, RegsIf.refl, fun _ _ _ => rfl⟩
  · rw [logPush_full (by omega)]
    have g : RegStep (· ∉ [R.MGS_LOG_LOST, R.MGS_EVENT]) s ((s.bump R.MGS_LOG_LOST).put F.MGS_EVENT_LOG_LOST 1) :=
      (RegStep.refl.bump (by decide)).put (by decide)
    have hg : ∀ f : Fld, f.off = R.MGS_EVENT → F.MGS_EVENT_LOG_LOST.apart f = true →
        ((s.bump R.MGS_LOG_LOST).put F.MGS_EVENT_LOG_LOST 1).get f = s.get f := fun f hf ha => by
      rw [get_put_apart _ _ _ _ ha, get_bump_apart _ _ _ (by rw [hf]; decide)]
    generalize (s.bump R.MGS_LOG_LOST).put F.MGS_EVENT_LOG_LOST 1 = t at *
    obtain ⟨⟨r, rfl⟩, hr⟩ := g
    exact ⟨⟨r, s.free, s.mgmt.logQ, rfl⟩, hr, hg⟩

theorem logStep_logEvent (s : State) (src : Nat) : LogStep s (s.logEvent src) := by
  obtain ⟨⟨r, n, l, e⟩, h⟩ := logStep_logPush (((s.freeBits 2).2.freeBits 15).2.freeBits 256).2 src (s.freeBits 2).1 ((s.freeBits 2).2.freeBits 15).1 0
    (leBytes 32 (((s.freeBits 2).2.freeBits 15).2.freeBits 256).1)
  exact ⟨⟨r, n, l, e⟩, h⟩

theorem logAppend_eq (s : State) (r : Req) {v : Word} (h : 0x8000 ≤ bitsOf v 15 0) :
    ∃ n sev d, logAppend r v s = ({ s with free := n } : State).logPush 0xFE sev (bitsOf v 15 0) (reqCode r) d :=
  ⟨_, _, _, if_neg (by omega)⟩

/-! ### The ledger -/

theorem length_bankBytes (s : State) (q : Nat) : (s.bankBytes q).length = 0xFFFC := by
  have h : ∀ f : Nat → Nat, ((List.range 64).flatMap (fun i => leBytes 80 (f i))).length = 64 * 80 := fun f => by
    simp [List.length_flatMap, length_leBytes]
  simp only [State.bankBytes, List.length_append, length_leBytes, h]

/-- The bank that a commit programs. -/
def State.commitBank (s : State) : Nat := if s.get F.MGS_LEDGER_STATUS_VALID = 0 then 0 else 1 - s.get F.MGS_LEDGER_STATUS_BANK

theorem commitBank_le (s : State) : s.commitBank ≤ 1 := by
  rw [State.commitBank]
  split <;> omega

/-- Erasing the bank that a commit programs; the commit is no longer due. -/
def State.commitBegun (s : State) : State := { s with mgmt := { s.mgmt with commit := false } }.flashErase (bankBase s.commitBank) 0x10000

theorem ledgerShow_step (s : State) : RegStep (· ∉ [R.BOOT_RB_COUNTER, R.CAL_EPH_RECORDS, R.BOOT_STATUS]) s s.ledgerShow :=
  ((RegStep.refl.putN (by decide)).putN (by decide)).put (by decide)

/-- The bank is shown as the one in force. -/
def State.bankShown (s : State) (k q : Nat) : State :=
  ((s.put F.MGS_LEDGER_STATUS_BANK k).putBit R.MGS_LEDGER_STATUS k true).putN R.MGS_LEDGER_SEQ q

theorem ledgerCommit_ok {s : State} (hc : s.mgmt.commit = true) (hf : s.flashSize ≠ 0) :
    ledgerCommit none s = ((s.commitBegun.flashWr (bankBase s.commitBank)
      (s.bankBytes ((s.num R.MGS_LEDGER_SEQ + 1) % 2 ^ 32) ++ leBytes 4 (crc32c (s.bankBytes ((s.num R.MGS_LEDGER_SEQ + 1) % 2 ^ 32))))).bankShown
      s.commitBank ((s.num R.MGS_LEDGER_SEQ + 1) % 2 ^ 32)).ledgerShow := by
  rw [ledgerCommit, if_neg (by simp [hc, hf])]
  rfl

theorem bankShown_shows (s : State) {k q : Nat} (hk : k ≤ 1) (hq : q < 2 ^ 32) :
    RegStep (· ∉ [R.MGS_LEDGER_STATUS, R.MGS_LEDGER_SEQ]) s (s.bankShown k q) ∧ (s.bankShown k q).get F.MGS_LEDGER_STATUS_BANK = k ∧
      (s.bankShown k q).num R.MGS_LEDGER_SEQ = q := by
  refine ⟨((RegStep.refl.put (by decide)).putBit (by decide)).putN (by decide), ?_, num_putN_same _ _ _ hq⟩
  rw [State.bankShown, get_putN_apart _ _ _ _ (by decide), show R.MGS_LEDGER_STATUS = F.MGS_LEDGER_STATUS_BANK.off from rfl,
    get_putBit_outside (s.put F.MGS_LEDGER_STATUS_BANK k) F.MGS_LEDGER_STATUS_BANK k true (by omega) (by simp [F.MGS_LEDGER_STATUS_BANK]; omega),
    get_put_same _ _ _ (Fld.fits_of_lt (n := 2) rfl (by omega))]

/-- The state after a commit whose read-back fails, before the ledger in force is shown again. -/
def State.commitFailed (s : State) (d : List Byte) : State :=
  let u := s.commitBegun.flashWr (bankBase s.commitBank) (d.take 0x10000)
  (((u.putBit R.MGS_LEDGER_STATUS s.commitBank (bankValid (u.flashRd (bankBase s.commitBank) 0x10000))).bump R.MGS_LEDGER_FAIL).put
    F.MGS_EVENT_LEDGER_FAIL 1).logEvent logMgs

/-- The state in force is shown again after a failed commit. -/
def State.ledgerAgain (s : State) (l : Ledger) : State := ({ s with mgmt := { s.mgmt with ledger := l } } : State).ledgerShow

theorem ledgerCommit_fail {s : State} (hc : s.mgmt.commit = true) (hf : s.flashSize ≠ 0) (d : List Byte) :
    ∃ (l : Ledger) (op : Bool), ledgerCommit (some d) s = if op then
      { (s.commitFailed d).ledgerAgain l with boot := { ((s.commitFailed d).ledgerAgain l).boot with updWait := some 5 } }
      else (s.commitFailed d).ledgerAgain l := by
  rw [ledgerCommit, if_neg (by simp [hc, hf])]
  exact ⟨_, _, rfl⟩

theorem ledgerAgain_shows (s : State) (l : Ledger) :
    RegsIf (· ∉ [R.BOOT_RB_COUNTER, R.CAL_EPH_RECORDS, R.BOOT_STATUS]) s (s.ledgerAgain l) ∧ (s.ledgerAgain l).mgmt = { s.mgmt with ledger := l } := by
  obtain ⟨⟨r, e⟩, hr⟩ := ledgerShow_step { s with mgmt := { s.mgmt with ledger := l } }
  rw [← State.ledgerAgain] at e hr
  exact ⟨hr, by rw [e]⟩

theorem commitBegun_shows (s : State) : s.commitBegun = { s with mgmt := s.commitBegun.mgmt } ∧ s.commitBegun.mgmt.commit = false ∧
    s.commitBegun.mgmt.ledger = s.mgmt.ledger ∧
    ∀ a, a < bankBase s.commitBank ∨ bankBase s.commitBank + 0x10000 ≤ a → s.commitBegun.flashByte a = s.flashByte a := by
  refine ⟨rfl, rfl, rfl, fun a ha => ?_⟩
  rw [State.commitBegun, flashByte_flashErase, if_neg (by omega)]
  rfl

theorem commitFailed_shows (s : State) (d : List Byte) (t : State) (ht : t = s.commitFailed d) :
    t.num R.MGS_LEDGER_FAIL = min satMax (s.num R.MGS_LEDGER_FAIL + 1) ∧ t.get F.MGS_EVENT_LEDGER_FAIL = 1 ∧
      t.get F.MGS_LEDGER_STATUS_BANK = s.get F.MGS_LEDGER_STATUS_BANK ∧ t.num R.MGS_LEDGER_SEQ = s.num R.MGS_LEDGER_SEQ ∧
      (∀ a, a < bankBase s.commitBank ∨ bankBase s.commitBank + 0x10000 ≤ a → t.flashByte a = s.flashByte a) ∧ t.mgmt.commit = false := by
  obtain ⟨e, hc, -, hb⟩ := commitBegun_shows s
  have hw := flashByte_flashWr s.commitBegun (bankBase s.commitBank) (d.take 0x10000)
  have hu : s.commitBegun.flashWr (bankBase s.commitBank) (d.take 0x10000) =
      { s with mgmt := (s.commitBegun.flashWr (bankBase s.commitBank) (d.take 0x10000)).mgmt } := by
    rw [e]
    rfl
  have hc' : (s.commitBegun.flashWr (bankBase s.commitBank) (d.take 0x10000)).mgmt.commit = false := hc
  rw [State.commitFailed] at ht
  generalize s.commitBegun.flashWr (bankBase s.commitBank) (d.take 0x10000) = u at *
  have hk : s.commitBank ≤ 1 := commitBank_le s
  have hf : ∀ f : Fld, u.get f = s.get f := fun f => by rw [hu]; rfl
  have hn : ∀ o, u.num o = s.num o := fun o => by rw [hu]; rfl
  generalize bankValid (u.flashRd (bankBase s.commitBank) 0x10000) = v at ht
  have g1 : (((u.putBit R.MGS_LEDGER_STATUS s.commitBank v).bump R.MGS_LEDGER_FAIL).put F.MGS_EVENT_LEDGER_FAIL 1).num R.MGS_LEDGER_FAIL =
      min satMax (s.num R.MGS_LEDGER_FAIL + 1) := by
    rw [num_put_apart _ _ _ _ (by decide), num_bump_same, num_putBit_apart _ _ _ _ _ (by decide), hn]
  have g2 : (((u.putBit R.MGS_LEDGER_STATUS s.commitBank v).bump R.MGS_LEDGER_FAIL).put F.MGS_EVENT_LEDGER_FAIL 1).get F.MGS_EVENT_LEDGER_FAIL = 1 :=
    get_put_same _ _ _ (by decide)
  have g3 : (((u.putBit R.MGS_LEDGER_STATUS s.commitBank v).bump R.MGS_LEDGER_FAIL).put F.MGS_EVENT_LEDGER_FAIL 1).get F.MGS_LEDGER_STATUS_BANK =
      s.get F.MGS_LEDGER_STATUS_BANK := by
    rw [get_put_apart _ _ _ _ (by decide), get_bump_apart _ _ _ (by decide), show R.MGS_LEDGER_STATUS = F.MGS_LEDGER_STATUS_BANK.off from rfl,
      get_putBit_outside u F.MGS_LEDGER_STATUS_BANK s.commitBank v (by omega) (by simp [F.MGS_LEDGER_STATUS_BANK]; omega), hf]
  have g4 : (((u.putBit R.MGS_LEDGER_STATUS s.commitBank v).bump R.MGS_LEDGER_FAIL).put F.MGS_EVENT_LEDGER_FAIL 1).num R.MGS_LEDGER_SEQ =
      s.num R.MGS_LEDGER_SEQ := by
    rw [num_put_apart _ _ _ _ (by decide), num_bump_apart _ _ _ (by decide), num_putBit_apart _ _ _ _ _ (by decide), hn]
  have g5 : (((u.putBit R.MGS_LEDGER_STATUS s.commitBank v).bump R.MGS_LEDGER_FAIL).put F.MGS_EVENT_LEDGER_FAIL 1).mgmt = u.mgmt := by
    rw [put_mgmt, bump_mgmt, putBit_mgmt]
  generalize ((u.putBit R.MGS_LEDGER_STATUS s.commitBank v).bump R.MGS_LEDGER_FAIL).put F.MGS_EVENT_LEDGER_FAIL 1 = w at *
  obtain ⟨⟨r, n, l, el⟩, hr, he⟩ := logStep_logEvent w logMgs
  rw [← ht] at el hr he
  have hm : t.mgmt = { u.mgmt with logQ := l } := by rw [el, ← g5]
  refine ⟨(hr.num (by decide)).trans g1, (he _ rfl (by decide)).trans g2, (hr.get (by decide)).trans g3, (hr.num (by decide)).trans g4, fun a ha => ?_, ?_⟩
  · rw [flashByte_congr (s := u) (by rw [hm]), hw, if_neg (by simp only [List.length_take]; omega), hb a ha]
  · rw [hm]
    exact hc'

/-- Numbers written to different registers. -/
theorem num_each_putN (l : List Nat) (a : Nat → Nat) (ha : ∀ i j, a i = a j → i = j) (f : Nat → Nat) (hf : ∀ w, f w < 2 ^ 32) (s : State) (w : Nat) :
    (s.each l (fun t w => t.putN (a w) (f w))).num (a w) = if w ∈ l then f w else s.num (a w) := by
  induction l generalizing s with
  | nil => rfl
  | cons x xs ih =>
    refine (ih (s.putN (a x) (f x))).trans ?_
    by_cases hx : w ∈ xs
    · rw [if_pos hx, if_pos (List.mem_cons_of_mem _ hx)]
    · rw [if_neg hx]
      by_cases he : w = x
      · rw [he, num_putN_same _ _ _ (hf x), if_pos List.mem_cons_self]
      · rw [num_putN_apart _ _ _ _ fun h => he (ha _ _ h), if_neg (by simp [he, hx])]

/-- A record that is read is shown word by word. -/
theorem logWords_shows (s : State) (f : Nat → Nat) (hf : ∀ w, f w < 2 ^ 32) :
    RegStep (· ∉ (List.range 16).map R.MGS_LOG_RD_Dw) s (s.each (List.range 16) (fun t w => t.putN (R.MGS_LOG_RD_Dw w) (f w))) ∧
      ∀ w, w < 16 → (s.each (List.range 16) (fun t w => t.putN (R.MGS_LOG_RD_Dw w) (f w))).num (R.MGS_LOG_RD_Dw w) = f w := by
  refine ⟨RegStep.each_mem RegStep.refl fun {t w} hw h => h.putN (by simpa using ⟨w, List.mem_range.1 hw, rfl⟩), fun w hw => ?_⟩
  rw [num_each_putN _ _ (fun i j h => by simpa [R.MGS_LOG_RD_Dw] using h) f hf, if_pos (List.mem_range.2 hw)]

theorem plainWrite_wholeWord {o a : Nat} {dims : List (Nat × Nat)} {rv : Nat} (s : State) (v : Word) (h : findRow o = some ⟨a, dims, [fA 31 0 .rw rv]⟩) :
    s.plainWrite o v = s.putN o v.toNat := by
  simp [State.plainWrite, h, writeFields, writeField, fA, inRanges]
  rw [put_wholeWord, bitsOf, Nat.pow_zero, Nat.div_one, Nat.mod_eq_of_lt v.isLt]

theorem logUsed_putN (s : State) (n : Nat) : (s.putN R.MGS_LOG_RD_IDX n).logUsed = s.logUsed := by
  have hf : (s.putN R.MGS_LOG_RD_IDX n).flashSize = s.flashSize := by
    rw [State.flashSize, get_putN_apart _ _ _ _ (by decide), State.flashSize]
  rw [State.logUsed, putN_mgmt, State.logSlots, hf, State.logUsed, State.logSlots]

theorem logAt_putN (s : State) (n i : Nat) : (s.putN R.MGS_LOG_RD_IDX n).logAt i = s.logAt i := by
  rw [State.logAt, flashRd_congr (s := s) (by rw [putN_mgmt]), State.logAt]

/-- A write of RD_IDX stores the number and looks for its record. -/
theorem logRdIdxWrite_eq (v : Word) (s : State) : logRdIdxWrite v s =
    match s.logUsed.findSome? (fun i => (s.logAt i).bind (fun r => if sub r 0 4 = v.toNat then some r else none)) with
    | some r => ((s.putN R.MGS_LOG_RD_IDX v.toNat).each (List.range 16) (fun t w => t.putN (R.MGS_LOG_RD_Dw w) (sub r (4 * w) 4))).put
        F.MGS_LOG_RD_STATUS_VALID 1
    | none => (s.putN R.MGS_LOG_RD_IDX v.toNat).put F.MGS_LOG_RD_STATUS_VALID 0 := by
  have hf : findRow R.MGS_LOG_RD_IDX = some ⟨R.MGS_LOG_RD_IDX, [], [fA 31 0 .rw 0]⟩ := by decide +kernel
  rw [logRdIdxWrite, plainWrite_wholeWord s v hf]
  simp only [logUsed_putN, logAt_putN] <;> rfl

/-- Settles O52: writes of the flash are followed byte by byte (`flashByte_flashErase`, `flashByte_flashWr`), and what the chip itself
logs changes two registers and the queue (`LogStep`). -/
theorem logAndLedger : Obligations.LogAndLedger := by
  refine ⟨?_, ?_, ?_, ?_, ?_, ?_, ?_, ?_, ?_, ?_, ?_, ?_⟩
  · intro s r v hv hl
    obtain ⟨n, sev, d, e⟩ := logAppend_eq s r hv
    exact completes_of_eq rfl (e.trans (logPush_room (s := { s with free := n }) hl _ _ _ _ _)) ⟨by simp, by simp, rfl⟩
  · intro s r v hv hl
    obtain ⟨n, sev, d, e⟩ := logAppend_eq s r hv
    have g : RegStep (· ∉ [R.MGS_LOG_LOST, R.MGS_EVENT]) ({ s with free := n } : State)
        ((({ s with free := n } : State).bump R.MGS_LOG_LOST).put F.MGS_EVENT_LOG_LOST 1) := (RegStep.refl.bump (by decide)).put (by decide)
    refine completes_of_eq rfl (e.trans (logPush_full (s := { s with free := n }) hl _ _ _ _ _)) ⟨?_, get_put_same _ _ _ (by decide), ?_, g.2⟩
    · rw [num_put_apart _ _ _ _ (by decide), num_bump_same]
      rfl
    · rw [put_mgmt, bump_mgmt]
  · intro s r v hv
    exact congrArg Host.Outcome.next (if_pos hv)
  · intro s b l i q hq hb hs hi hn h0
    subst hi hn
    refine completes_intro rfl fun t ht => ?_
    obtain ⟨h1, h2, h3, h4, h5, h6, h7⟩ := logRecordWrite_shows hq hb hs t ht
    refine ⟨h1, fun a ha => (h2 a ha).trans ?_, h3, h4, h5, h6, h7⟩
    rw [State.logSector, if_neg h0]
  · intro s b l i q hq hb hs hi hn h0
    subst hi hn
    refine completes_intro rfl fun t ht => ?_
    obtain ⟨h1, h2, h3, -, -, -, -⟩ := logRecordWrite_shows hq hb hs t ht
    have he : ∀ a, (s.logSector s.mgmt.logStart).flashByte a =
        if 0x1020000 + 64 * s.mgmt.logStart ≤ a ∧ a < 0x1020000 + 64 * s.mgmt.logStart + 4096 then 0xFF else s.flashByte a := fun a => by
      rw [State.logSector, if_pos h0, flashByte_flashErase, logBase]
    refine ⟨h1, fun a ha hb => ?_, fun a ha => ?_, h3⟩
    · rw [h2 a (by omega), he, if_pos (by omega)]
    · rw [h2 a (by omega), he, if_neg (by omega)]
  · intro s h
    exact congrArg Host.Outcome.next (by rw [logRecordWrite, h])
  · intro s v i d hu hd hv
    obtain ⟨hw, hn⟩ := logWords_shows (s.putN R.MGS_LOG_RD_IDX v.toNat) (fun w => sub d (4 * w) 4) (fun w => sub_lt d (4 * w) 4)
    have e : logRdIdxWrite v s = ((s.putN R.MGS_LOG_RD_IDX v.toNat).each (List.range 16)
        (fun t w => t.putN (R.MGS_LOG_RD_Dw w) (sub d (4 * w) 4))).put F.MGS_LOG_RD_STATUS_VALID 1 := by
      simp [logRdIdxWrite_eq, hu, hd, hv]
    have hi : (s.putN R.MGS_LOG_RD_IDX v.toNat).word R.MGS_LOG_RD_IDX = v := by
      rw [State.putN, word_setWord, BitVec.ofNat_toNat, BitVec.setWidth_eq]
    have hS := (RegStep.refl (P := fun _ => False) (s := s)).putN (o := R.MGS_LOG_RD_IDX) (v := v.toNat) id
    generalize s.putN R.MGS_LOG_RD_IDX v.toNat = u at *
    generalize u.each (List.range 16) (fun t w => t.putN (R.MGS_LOG_RD_Dw w) (sub d (4 * w) 4)) = w at *
    refine completes_of_eq rfl e ⟨?_, get_put_same _ _ _ (by decide), fun k => ?_, ?_⟩
    · rw [word_put_apart _ _ _ _ (by decide), hw.2 _ (by decide), hi]
    · rw [num_put_apart _ _ _ _ (by apply all_fin k; decide +kernel), hn k k.isLt]
    · exact ((hS.trans (hw.weaken fun _ => False.elim)).put (f := F.MGS_LOG_RD_STATUS_VALID) (v := 1) id).others
  · intro s v hu
    have e : logRdIdxWrite v s = (s.putN R.MGS_LOG_RD_IDX v.toNat).put F.MGS_LOG_RD_STATUS_VALID 0 := by
      simp [logRdIdxWrite_eq, hu]
    have hS : RegStep (· ∉ [R.MGS_LOG_RD_IDX, R.MGS_LOG_RD_STATUS]) s ((s.putN R.MGS_LOG_RD_IDX v.toNat).put F.MGS_LOG_RD_STATUS_VALID 0) :=
      (RegStep.refl.putN (by decide)).put (by decide)
    refine completes_of_eq rfl e ⟨?_, get_put_same _ _ _ (by decide), hS.2, hS.others⟩
    rw [word_put_apart _ _ _ _ (by decide), State.putN, word_setWord, BitVec.ofNat_toNat, BitVec.setWidth_eq]
  · intro s k hc hf hk
    obtain rfl : k = s.commitBank := hk
    have hq : (s.num R.MGS_LEDGER_SEQ + 1) % 2 ^ 32 < 2 ^ 32 := Nat.mod_lt _ (by decide)
    have hl : (s.bankBytes ((s.num R.MGS_LEDGER_SEQ + 1) % 2 ^ 32) ++
        leBytes 4 (crc32c (s.bankBytes ((s.num R.MGS_LEDGER_SEQ + 1) % 2 ^ 32)))).length = 0x10000 := by
      simp only [List.length_append, length_bankBytes, length_leBytes]
    have e := ledgerCommit_ok hc hf
    generalize s.bankBytes ((s.num R.MGS_LEDGER_SEQ + 1) % 2 ^ 32) ++
      leBytes 4 (crc32c (s.bankBytes ((s.num R.MGS_LEDGER_SEQ + 1) % 2 ^ 32))) = d at *
    generalize (s.num R.MGS_LEDGER_SEQ + 1) % 2 ^ 32 = q at *
    obtain ⟨eb, hcc, hll, hb⟩ := commitBegun_shows s
    have hrd := flashRd_flashWr s.commitBegun (bankBase s.commitBank) d hl
    have hw := flashByte_flashWr s.commitBegun (bankBase s.commitBank) d
    obtain ⟨hcu, hlu, hmu⟩ := flashWr_others s.commitBegun (bankBase s.commitBank) d
    rw [hcc] at hcu
    rw [hll] at hlu
    replace hmu : (s.commitBegun.flashWr (bankBase s.commitBank) d).mem = s.mem := by rw [hmu, eb]
    generalize s.commitBegun.flashWr (bankBase s.commitBank) d = u at *
    obtain ⟨g1, g2, g3⟩ := bankShown_shows u (commitBank_le s) hq
    generalize u.bankShown s.commitBank q = w at *
    have hS := ledgerShow_step w
    have hm : w.ledgerShow.mgmt = u.mgmt ∧ w.ledgerShow.mem = u.mem := by
      obtain ⟨⟨a, rfl⟩, -⟩ := g1
      rw [hS.others]
      exact ⟨rfl, rfl⟩
    refine completes_of_eq rfl e ⟨?_, fun a ha => ?_, ?_, (hS.2.num (by decide)).trans g3, ?_, ?_, hm.2.trans hmu⟩
    · rw [flashRd_congr (s := u) (by rw [hm.1]), hrd]
    · rw [flashByte_congr (s := u) (by rw [hm.1]), hw, if_neg (by omega), hb a ha]
    · rw [hS.2.get (by decide), g2, Nat.mod_eq_of_lt (Nat.lt_succ_of_le (commitBank_le s))]
    · rw [hm.1, hcu]
    · rw [hm.1, hlu]
  · intro s k d hc hf hk
    obtain rfl : k = s.commitBank := hk
    obtain ⟨l, op, e⟩ := ledgerCommit_fail hc hf d
    obtain ⟨h1, h2, h3, h4, h5, h6⟩ := commitFailed_shows s d _ rfl
    generalize s.commitFailed d = u at *
    obtain ⟨hr, hm⟩ := ledgerAgain_shows u l
    generalize u.ledgerAgain l = w at *
    have hb : ∀ a, w.flashByte a = u.flashByte a := flashByte_congr (by rw [hm])
    have hcc : w.mgmt.commit = u.mgmt.commit := by rw [hm]
    refine completes_of_eq rfl e ?_
    cases op with
    | true => exact ⟨(hr.num (by decide)).trans h1, (hr.get (by decide)).trans h2, (hr.get (by decide)).trans h3, (hr.num (by decide)).trans h4,
        fun a ha => (hb a).trans (h5 a ha), hcc.trans h6⟩
    | false => exact ⟨(hr.num (by decide)).trans h1, (hr.get (by decide)).trans h2, (hr.get (by decide)).trans h3, (hr.num (by decide)).trans h4,
        fun a ha => (hb a).trans (h5 a ha), hcc.trans h6⟩
  · intro s g hc
    exact congrArg Host.Outcome.next (if_pos (.inl (by simp [hc])))
  · exact fun s => rfl

end Sys2Proof.Machine
end

section
-- One proof at a time: the whole text then stays within the memory the check allows.
set_option Elab.async false
/-! PROOFS. O50: the safe state. -/

namespace Sys2Proof.Machine
open State

/-! ### Folds that act on one block of registers after the other -/

theorem each_append {α : Type} (s : State) (l k : List α) (f : State → α → State) : s.each (l ++ k) f = (s.each l f).each k f :=
  List.foldl_append

/-- What a fold leaves in the block of one index is what the step of that index leaves. -/
theorem each_block {α : Type} {B : α → Nat → Prop} {s : State} {l : List α} {f : State → α → State}
    (hf : ∀ u, ∀ x ∈ l, RegsIf (fun o => ¬ B x o) u (f u x)) (hl : l.Nodup) {n : α} (hn : n ∈ l)
    (hB : ∀ x ∈ l, x ≠ n → ∀ o, B n o → ¬ B x o) : ∃ u, RegsIf (B n) s u ∧ RegsIf (B n) (f u n) (s.each l f) := by
  obtain ⟨a, b, rfl⟩ := List.append_of_mem hn
  have hk : ∀ k : List α, (∀ x ∈ k, x ∈ a ++ n :: b ∧ x ≠ n) → ∀ u : State, RegsIf (B n) u (u.each k f) := fun k hk u =>
    RegsIf.each_mem RegsIf.refl fun {t x} hx h => h.trans fun o ho => hf t x (hk x hx).1 o (hB x (hk x hx).1 (hk x hx).2 o ho)
  obtain ⟨-, h2, h3⟩ := List.nodup_append.1 hl
  refine ⟨s.each a f, hk a (fun x hx => ⟨List.mem_append_left _ hx, h3 x hx n List.mem_cons_self⟩) s, ?_⟩
  rw [each_append]
  exact hk b (fun x hx => ⟨List.mem_append_right _ (List.mem_cons_of_mem _ hx), fun e => (List.nodup_cons.1 h2).1 (e ▸ hx)⟩) _

/-! ### Lanes -/

/-- `t` is `s` but for registers, of which those that satisfy `P` are the same, and what the express lanes hold. -/
def LaneStep (P : Nat → Prop) (s t : State) : Prop := (∃ a x, t = { s with regs := a, xl := x }) ∧ RegsIf P s t

namespace LaneStep
variable {P : Nat → Prop} {r s t : State}

theorem refl : LaneStep P s s := ⟨⟨s.regs, s.xl, rfl⟩, RegsIf.refl⟩

theorem others (h : LaneStep P s t) : t = { s with regs := t.regs, xl := t.xl } := by
  obtain ⟨⟨a, x, rfl⟩, -⟩ := h
  rfl

theorem trans (h : LaneStep P r s) (g : LaneStep P s t) : LaneStep P r t := by
  obtain ⟨⟨a, x, rfl⟩, hr⟩ := h
  obtain ⟨⟨b, y, rfl⟩, gr⟩ := g
  exact ⟨⟨b, y, rfl⟩, hr.trans gr⟩

theorem weaken {Q : Nat → Prop} (h : LaneStep P s t) (i : ∀ o, Q o → P o) : LaneStep Q s t := ⟨h.1, fun o ho => h.2 o (i o ho)⟩

theorem of_regStep (h : RegStep P s t) : LaneStep P s t := by
  obtain ⟨⟨a, rfl⟩, hr⟩ := h
  exact ⟨⟨a, s.xl, rfl⟩, hr⟩

theorem regStep (h : LaneStep P r s) (g : RegStep P s t) : LaneStep P r t := h.trans (of_regStep g)

theorem put {f : Fld} {v : Nat} (h : LaneStep P r s) (ho : ¬ P f.off) : LaneStep P r (s.put f v) := h.regStep (RegStep.refl.put ho)

theorem putN {o v : Nat} (h : LaneStep P r s) (ho : ¬ P o) : LaneStep P r (s.putN o v) := h.regStep (RegStep.refl.putN ho)

theorem putBit {o i : Nat} {b : Bool} (h : LaneStep P r s) (ho : ¬ P o) : LaneStep P r (s.putBit o i b) := h.regStep (RegStep.refl.putBit ho)

theorem putPair {o v : Nat} (h : LaneStep P r s) (ho : ¬ P o) (ho' : ¬ P (o + 4)) : LaneStep P r (s.putPair o v) :=
  h.regStep (RegStep.refl.putPair ho ho')

theorem bump {o : Nat} (h : LaneStep P r s) (ho : ¬ P o) : LaneStep P r (s.bump o) := h.regStep (RegStep.refl.bump ho)

theorem updLane {n : Nat} {f : XLane → XLane} (h : LaneStep P r s) : LaneStep P r (s.updLane n f) := by
  obtain ⟨⟨a, x, rfl⟩, hr⟩ := h
  exact ⟨⟨a, _, rfl⟩, hr⟩

theorem ite {c : Prop} [Decidable c] (h : LaneStep P r s) (g : LaneStep P r t) : LaneStep P r (if c then s else t) := by
  split
  · exact h
  · exact g

theorem when {c : Bool} {f : State → State} (h : LaneStep P r s) (hf : LaneStep P r s → LaneStep P r (f s)) : LaneStep P r (s.when c f) :=
  State.when_keeps (LaneStep P r) c f s h hf

theorem each_mem {α : Type} {l : List α} {f : State → α → State} (h : LaneStep P r s)
    (hf : ∀ {t x}, x ∈ l → LaneStep P r t → LaneStep P r (f t x)) : LaneStep P r (s.each l f) := by
  induction l generalizing s with
  | nil => exact h
  | cons x xs ih => exact ih (hf List.mem_cons_self h) fun hx => hf (List.mem_cons_of_mem _ hx)

end LaneStep

section
variable (s : State) (n : Nat) (f : XLane → XLane) (o : Nat)

theorem laneOf_updLane : (s.updLane n f).laneOf n = f (s.laneOf n) := by
  rw [State.laneOf, State.updLane, Tab.get_set_same]

@[simp] theorem get_updLane (g : Fld) : (s.updLane n f).get g = s.get g := rfl
@[simp] theorem num_updLane : (s.updLane n f).num o = s.num o := rfl
@[simp] theorem word_updLane : (s.updLane n f).word o = s.word o := rfl
end

/-- A scan of the eye that runs is aborted. -/
theorem laneStep_eyeAbort (s : State) (n : Nat) : LaneStep (· ∉ [R.XL_n_STATUS n, R.XL_n_EYE_STATUS n]) s (s.eyeAbort n) :=
  LaneStep.ite ((LaneStep.refl.put (by simp [F.XL_n_STATUS_EYE_BUSY])).put (by simp [F.XL_n_EYE_STATUS_ABORTED])) LaneStep.refl

theorem laneStep_xlQuiet (s : State) (n : Nat) : LaneStep (· ∉ [R.XL_n_STATUS n, R.XL_n_EYE_STATUS n]) s (s.xlQuiet n) := by
  have h : LaneStep (· ∉ [R.XL_n_STATUS n, R.XL_n_EYE_STATUS n]) s (((s.eyeAbort n).put (F.XL_n_STATUS_LOCK n) 0).put (F.XL_n_STATUS_SIG_DET n) 0) :=
    ((laneStep_eyeAbort s n).put (by simp [F.XL_n_STATUS_LOCK])).put (by simp [F.XL_n_STATUS_SIG_DET])
  rw [State.xlQuiet]
  exact h.updLane

theorem laneStep_xlEnter (s : State) (n st : Nat) : LaneStep (· ∉ [R.XL_n_STATUS n, R.XL_n_EYE_STATUS n]) s (s.xlEnter n st) :=
  ((laneStep_xlQuiet s n).put (by simp [F.XL_n_STATUS_STATE])).updLane

theorem xlState_xlEnter (s : State) (n : Nat) {st : Nat} (h : st < 8) : (s.xlEnter n st).xlState n = st := by
  rw [State.xlState, State.xlEnter, get_updLane, get_put_same _ _ _ (Fld.fits_of_lt (n := 8) rfl h)]

/-- The words of a lane that entering a state changes, and the one that enables it, belong to no other lane. -/
def laneBlock (n o : Nat) : Prop := o = R.XL_n_STATUS n ∨ o = R.XL_n_EYE_STATUS n ∨ o = R.XL_n_CTRL n

theorem laneBlock_disjoint {m n : Nat} (h : m ≠ n) (o : Nat) (hn : laneBlock n o) : ¬ laneBlock m o := by
  simp only [laneBlock, R.XL_n_STATUS, R.XL_n_EYE_STATUS, R.XL_n_CTRL] at *
  omega

theorem notMem_of_notLaneBlock {n o : Nat} (h : ¬ laneBlock n o) : o ∉ [R.XL_n_STATUS n, R.XL_n_EYE_STATUS n] := by
  simp only [laneBlock] at h
  simp
  tauto

/-- Registers of the express lanes. -/
def isLaneReg (o : Nat) : Prop := R.XL_n_CTRL 0 ≤ o ∧ o < R.XL_n_CTRL 128

theorem isLaneReg_of_block {n o : Nat} (hn : n < 128) (h : laneBlock n o) : isLaneReg o := by
  simp only [laneBlock, isLaneReg, R.XL_n_STATUS, R.XL_n_EYE_STATUS, R.XL_n_CTRL] at *
  omega

/-- A fold over the lanes, each step of which changes the words of its lane only. -/
theorem lanes_shows {s : State} {f : State → Nat → State} (hf : ∀ u, ∀ x < 128, LaneStep (fun o => ¬ laneBlock x o) u (f u x)) :
    LaneStep (fun o => ¬ isLaneReg o) s (s.each (List.range 128) f) ∧
      ∀ n : Lane, ∃ u, RegsIf (laneBlock n) s u ∧ (s.each (List.range 128) f).xlState n = (f u n).xlState n := by
  refine ⟨LaneStep.each_mem LaneStep.refl fun {t x} hx h =>
    h.trans ((hf t x (List.mem_range.1 hx)).weaken fun o ho hb => ho (isLaneReg_of_block (List.mem_range.1 hx) hb)), fun n => ?_⟩
  obtain ⟨u, h1, h2⟩ := each_block (B := laneBlock) (s := s) (l := List.range 128) (f := f) (fun u x hx => (hf u x (List.mem_range.1 hx)).2)
    List.nodup_range (List.mem_range.2 n.isLt) (fun x _ hx o ho => laneBlock_disjoint hx o ho)
  exact ⟨u, h1, h2.get (f := F.XL_n_STATUS_STATE n) (.inl rfl)⟩

/-- Every enabled lane is taken to SAFE. -/
theorem lanesSafe_shows (s : State) : LaneStep (fun o => ¬ isLaneReg o) s s.lanesSafe ∧
    (∀ n : Lane, s.get (F.XL_n_CTRL_ENABLE n) = 1 → s.lanesSafe.xlState n = 4) ∧
    (∀ n : Lane, s.get (F.XL_n_CTRL_ENABLE n) = 0 → s.lanesSafe.xlState n = s.xlState n) := by
  obtain ⟨h1, h2⟩ := lanes_shows (s := s) (f := fun t n => if t.is (F.XL_n_CTRL_ENABLE n) then t.xlEnter n xlSafe else t) fun u x _ =>
    LaneStep.ite ((laneStep_xlEnter u x xlSafe).weaken fun o ho => notMem_of_notLaneBlock ho) LaneStep.refl
  refine ⟨h1, fun n hn => ?_, fun n hn => ?_⟩
  · obtain ⟨u, hu, e⟩ := h2 n
    have he : u.get (F.XL_n_CTRL_ENABLE n) = 1 := (hu.get (.inr (.inr rfl))).trans hn
    rw [State.lanesSafe, e, if_pos (by simp [is_eq, he]), xlState_xlEnter _ _ (by decide)]
    rfl
  · obtain ⟨u, hu, e⟩ := h2 n
    have he : u.get (F.XL_n_CTRL_ENABLE n) = 0 := (hu.get (.inr (.inr rfl))).trans hn
    rw [State.lanesSafe, e, if_neg (by simp [is_eq, he])]
    exact hu.get (.inl rfl)

/-- Every lane in SAFE goes back to IDLE. -/
theorem lanesBack_shows (s : State) : LaneStep (fun o => ¬ isLaneReg o) s s.lanesBack ∧
    (∀ n : Lane, s.xlState n = 4 → s.lanesBack.xlState n = 1) ∧ (∀ n : Lane, s.xlState n ≠ 4 → s.lanesBack.xlState n = s.xlState n) := by
  obtain ⟨h1, h2⟩ := lanes_shows (s := s) (f := fun t n => if t.xlState n = xlSafe then t.put (F.XL_n_STATUS_STATE n) xlIdle else t) fun u x _ =>
    LaneStep.ite (LaneStep.refl.put (fun h => h (.inl rfl))) LaneStep.refl
  refine ⟨h1, fun n hn => ?_, fun n hn => ?_⟩
  · obtain ⟨u, hu, e⟩ := h2 n
    have he : u.xlState n = 4 := (hu.get (f := F.XL_n_STATUS_STATE n) (.inl rfl)).trans hn
    rw [State.lanesBack, e, if_pos (by rw [he]; rfl), State.xlState, get_put_same _ _ _ (by apply all_fin n; decide +kernel)]
    rfl
  · obtain ⟨u, hu, e⟩ := h2 n
    have he : u.xlState n = s.xlState n := hu.get (f := F.XL_n_STATUS_STATE n) (.inl rfl)
    rw [State.lanesBack, e, if_neg (by rw [he]; exact hn), he]

/-! ### Sources -/

/-- The bits of SRC after one of them is set or cleared. -/
theorem src_shows (s : State) (b : Fin 5) (on : Bool) (t : State)
    (ht : t = s.put F.MGS_SAFE_STATUS_SRC (setBitN (s.get F.MGS_SAFE_STATUS_SRC) b on)) :
    (t.get F.MGS_SAFE_STATUS_SRC).testBit b = on ∧
      (∀ i : Fin 5, i ≠ b → (t.get F.MGS_SAFE_STATUS_SRC).testBit i = (s.get F.MGS_SAFE_STATUS_SRC).testBit i) ∧
      t.get F.MGS_SAFE_STATUS_ACTIVE = s.get F.MGS_SAFE_STATUS_ACTIVE ∧ RegStep (· ∉ [R.MGS_SAFE_STATUS]) s t := by
  have hlt : setBitN (s.get F.MGS_SAFE_STATUS_SRC) b on < 32 := setBitN_lt _ _ _ 5 (get_lt s F.MGS_SAFE_STATUS_SRC) b.isLt
  have hg : t.get F.MGS_SAFE_STATUS_SRC = setBitN (s.get F.MGS_SAFE_STATUS_SRC) b on := by
    rw [ht, get_put_same _ _ _ (Fld.fits_of_lt (n := 32) rfl hlt)]
  refine ⟨?_, fun i hi => ?_, ?_, ?_⟩
  · rw [hg, testBit_setBitN, if_pos rfl]
  · rw [hg, testBit_setBitN, if_neg fun e => hi (Fin.ext e)]
  · rw [ht, get_put_apart _ _ _ _ (by decide)]
  · rw [ht]
    exact RegStep.refl.put (by decide)

/-- The state after the first source has begun. -/
def State.safeEntered (s : State) : State :=
  (((s.put F.MGS_SAFE_STATUS_ACTIVE 1).put F.GLB_STATUS_SAFE 1).bump R.MGS_SAFE_CNT).lanesSafe.logEvent logMgs

/-- What the begin of the safe state changes besides the lanes. -/
def safeRegs : List Nat := [R.MGS_SAFE_STATUS, R.GLB_STATUS, R.MGS_SAFE_CNT, R.MGS_LOG_LOST, R.MGS_EVENT]

theorem safeEntered_shows (s : State) (t : State) (ht : t = s.safeEntered) :
    t.get F.MGS_SAFE_STATUS_SRC = s.get F.MGS_SAFE_STATUS_SRC ∧ t.safe = true ∧ t.get F.MGS_SAFE_STATUS_ACTIVE = 1 ∧
      t.num R.MGS_SAFE_CNT = min satMax (s.num R.MGS_SAFE_CNT + 1) ∧
      (∀ n : Lane, s.get (F.XL_n_CTRL_ENABLE n) = 1 → t.xlState n = 4) ∧
      (∀ n : Lane, s.get (F.XL_n_CTRL_ENABLE n) = 0 → t.xlState n = s.xlState n) ∧ t.mem = s.mem ∧ t.pins = s.pins ∧
      t.mgmt = { s.mgmt with logQ := t.mgmt.logQ } ∧ (∀ f : Fld, f.off = R.MGS_EVENT → F.MGS_EVENT_LOG_LOST.apart f = true → t.get f = s.get f) := by
  have h1 : RegStep (· ∉ safeRegs) s (((s.put F.MGS_SAFE_STATUS_ACTIVE 1).put F.GLB_STATUS_SAFE 1).bump R.MGS_SAFE_CNT) :=
    ((RegStep.refl.put (by decide)).put (by decide)).bump (by decide)
  have k1 : (((s.put F.MGS_SAFE_STATUS_ACTIVE 1).put F.GLB_STATUS_SAFE 1).bump R.MGS_SAFE_CNT).get F.MGS_SAFE_STATUS_SRC =
      s.get F.MGS_SAFE_STATUS_SRC := by simp -implicitDefEqProofs (disch := decide)
  have k2 : (((s.put F.MGS_SAFE_STATUS_ACTIVE 1).put F.GLB_STATUS_SAFE 1).bump R.MGS_SAFE_CNT).get F.GLB_STATUS_SAFE = 1 := by
    simp -implicitDefEqProofs (disch := decide)
  have k3 : (((s.put F.MGS_SAFE_STATUS_ACTIVE 1).put F.GLB_STATUS_SAFE 1).bump R.MGS_SAFE_CNT).get F.MGS_SAFE_STATUS_ACTIVE = 1 := by
    simp -implicitDefEqProofs (disch := decide)
  have k4 : (((s.put F.MGS_SAFE_STATUS_ACTIVE 1).put F.GLB_STATUS_SAFE 1).bump R.MGS_SAFE_CNT).num R.MGS_SAFE_CNT =
      min satMax (s.num R.MGS_SAFE_CNT + 1) := by simp -implicitDefEqProofs (disch := decide)
  have k5 : ∀ f : Fld, f.off = R.MGS_EVENT →
      (((s.put F.MGS_SAFE_STATUS_ACTIVE 1).put F.GLB_STATUS_SAFE 1).bump R.MGS_SAFE_CNT).get f = s.get f := fun f hf => by
    rw [get_bump_apart _ _ _ (by rw [hf]; decide), get_put_apart _ _ _ _ (by simp [Fld.apart, hf, F.GLB_STATUS_SAFE, R.GLB_STATUS, R.MGS_EVENT]),
      get_put_apart _ _ _ _ (by simp [Fld.apart, hf, F.MGS_SAFE_STATUS_ACTIVE, R.MGS_SAFE_STATUS, R.MGS_EVENT])]
  rw [State.safeEntered] at ht
  generalize ((s.put F.MGS_SAFE_STATUS_ACTIVE 1).put F.GLB_STATUS_SAFE 1).bump R.MGS_SAFE_CNT = u at *
  obtain ⟨l1, l2, l3⟩ := lanesSafe_shows u
  obtain ⟨⟨r, m, q, e⟩, hr, he⟩ := logStep_logEvent u.lanesSafe logMgs
  rw [← ht] at e hr he
  have hu : ∀ n : Lane, u.xlState n = s.xlState n ∧ u.get (F.XL_n_CTRL_ENABLE n) = s.get (F.XL_n_CTRL_ENABLE n) := fun n =>
    ⟨h1.2.get (by apply all_fin n; decide +kernel), h1.2.get (by apply all_fin n; decide +kernel)⟩
  have hn : ∀ n : Lane, t.xlState n = u.lanesSafe.xlState n := fun n => hr.get (by apply all_fin n; decide +kernel)
  have hl : ∀ {o : Nat}, o ∈ safeRegs → ¬ isLaneReg o := fun {o} ho => by
    simp only [safeRegs, List.mem_cons, List.not_mem_nil, or_false] at ho
    rcases ho with rfl | rfl | rfl | rfl | rfl <;> (unfold isLaneReg; decide)
  obtain ⟨⟨a, rfl⟩, -⟩ := h1
  obtain ⟨⟨a', x, el⟩, hl2⟩ := l1
  refine ⟨(hr.get (by decide)).trans ((hl2.get (hl (by decide))).trans k1), ?_, (hr.get (by decide)).trans ((hl2.get (hl (by decide))).trans k3),
    (hr.num (by decide)).trans ((hl2.num (hl (by decide))).trans k4), fun n h => (hn n).trans (l2 n ((hu n).2.trans h)),
    fun n h => (hn n).trans ((l3 n ((hu n).2.trans h)).trans (hu n).1), ?_, ?_, ?_, fun f hf ha => ?_⟩
  · rw [State.safe, is_eq, hr.get (by decide), hl2.get (hl (by decide)), k2]
    rfl
  · rw [e, el]
  · rw [e, el]
  · rw [e, el]
  · rw [he f hf ha, hl2.get (by rw [hf]; exact hl (by decide)), k5 f hf]

theorem safeSrc_off (s : State) (b : Nat) : s.safeSrc b false = s.put F.MGS_SAFE_STATUS_SRC (setBitN (s.get F.MGS_SAFE_STATUS_SRC) b false) := rfl

theorem safe_put_src (s : State) (v : Nat) : (s.put F.MGS_SAFE_STATUS_SRC v).safe = s.safe := by
  rw [State.safe, is_eq, get_put_apart _ _ _ _ (by decide), State.safe, is_eq]

theorem safeSrc_on {s : State} (h : s.safe = true) (b : Nat) :
    s.safeSrc b true = s.put F.MGS_SAFE_STATUS_SRC (setBitN (s.get F.MGS_SAFE_STATUS_SRC) b true) := by
  rw [State.safeSrc, safe_put_src, h]
  rfl

theorem safeSrc_first {s : State} (h : s.safe = false) (b : Nat) :
    s.safeSrc b true = (s.put F.MGS_SAFE_STATUS_SRC (setBitN (s.get F.MGS_SAFE_STATUS_SRC) b true)).safeEntered := by
  rw [State.safeSrc, safe_put_src, h]
  rfl

/-- The first source that begins. -/
theorem safeSrc_first_shows {s : State} (h : s.safe = false) (b : Fin 5) (t : State) (ht : t = s.safeSrc b true) :
    (t.get F.MGS_SAFE_STATUS_SRC).testBit b = true ∧
      (∀ i : Fin 5, i.val ≠ b.val → (t.get F.MGS_SAFE_STATUS_SRC).testBit i = (s.get F.MGS_SAFE_STATUS_SRC).testBit i) ∧
      t.safe = true ∧ t.get F.MGS_SAFE_STATUS_ACTIVE = 1 ∧ t.num R.MGS_SAFE_CNT = min satMax (s.num R.MGS_SAFE_CNT + 1) ∧
      (∀ n : Lane, s.get (F.XL_n_CTRL_ENABLE n) = 1 → t.xlState n = 4) ∧
      (∀ n : Lane, s.get (F.XL_n_CTRL_ENABLE n) = 0 → t.xlState n = s.xlState n) ∧ t.mem = s.mem ∧ t.pins = s.pins ∧
      t.mgmt = { s.mgmt with logQ := t.mgmt.logQ } ∧ (∀ f : Fld, f.off = R.MGS_EVENT → F.MGS_EVENT_LOG_LOST.apart f = true → t.get f = s.get f) := by
  obtain ⟨h1, h2, -, hr⟩ := src_shows s b true _ rfl
  rw [safeSrc_first h] at ht
  generalize s.put F.MGS_SAFE_STATUS_SRC (setBitN (s.get F.MGS_SAFE_STATUS_SRC) b true) = u at *
  obtain ⟨e1, e2, e3, e4, e5, e6, e7, e8, e9, e10⟩ := safeEntered_shows u t ht
  have hu : ∀ n : Lane, u.xlState n = s.xlState n ∧ u.get (F.XL_n_CTRL_ENABLE n) = s.get (F.XL_n_CTRL_ENABLE n) := fun n =>
    ⟨hr.2.get (by apply all_fin n; decide +kernel), hr.2.get (by apply all_fin n; decide +kernel)⟩
  have hc : u.num R.MGS_SAFE_CNT = s.num R.MGS_SAFE_CNT := hr.2.num (by decide)
  have he : ∀ f : Fld, f.off = R.MGS_EVENT → u.get f = s.get f := fun f hf => hr.2.get (by rw [hf]; decide)
  obtain ⟨⟨a, rfl⟩, -⟩ := hr
  refine ⟨by rw [e1, h1], fun i hi => by rw [e1, h2 i fun e => hi (congrArg Fin.val e)], e2, e3, by rw [e4, hc], fun n hn => e5 n ((hu n).2.trans hn),
    fun n hn => (e6 n ((hu n).2.trans hn)).trans (hu n).1, e7, e8, e9, fun f hf ha => (e10 f hf ha).trans (he f hf)⟩


/-! ### The end of the safe state -/

/-- Every PPMU goes to OFF, and its channel settles. -/
def State.ppmusOff (s : State) : State :=
  s.each (List.range 512) (fun t c => (t.put (F.CLU_k_PP_j_CTRL_MODE (c / 16) (c % 16)) 0).startSettle c t.nowQ)

theorem ppmusOff_shows (s : State) : RegsIf (fun o => ¬ (0x1000000 ≤ o ∧ o < 0x2000000)) s s.ppmusOff ∧ s.ppmusOff.mem = s.mem ∧
    ∀ (k : Cluster) (j : Chan16), s.ppmusOff.get (F.CLU_k_PP_j_CTRL_MODE k j) = 0 := by
  have hf : ∀ (u : State) (c : Nat), RegsIf (fun o => ¬ o = R.CLU_k_PP_j_CTRL (c / 16) (c % 16)) u
      ((u.put (F.CLU_k_PP_j_CTRL_MODE (c / 16) (c % 16)) 0).startSettle c u.nowQ) := fun u c =>
    (RegsIf.refl.put fun h => h rfl).of_regs (updChan_regs _ _ _)
  refine ⟨RegsIf.each_mem RegsIf.refl fun {t c} hc h => h.trans fun o ho => hf t c o fun he => ho ?_, ?_, fun k j => ?_⟩
  · have := List.mem_range.1 hc
    simp only [he, R.CLU_k_PP_j_CTRL]
    omega
  · exact State.each_keeps (fun t => t.mem = s.mem) _ (fun t c => (t.put (F.CLU_k_PP_j_CTRL_MODE (c / 16) (c % 16)) 0).startSettle c t.nowQ) s rfl
      fun t c h => h
  · obtain ⟨u, -, h⟩ := each_block (B := fun c o => o = R.CLU_k_PP_j_CTRL (c / 16) (c % 16)) (s := s) (l := List.range 512)
      (fun u c _ => hf u c) List.nodup_range (n := 16 * k + j) (List.mem_range.2 (by omega)) (fun x _ hx o ho => by
        simp only [R.CLU_k_PP_j_CTRL] at ho ⊢
        omega)
    have hk : (16 * k.val + j.val) / 16 = k.val := by omega
    have hj : (16 * k.val + j.val) % 16 = j.val := by omega
    rw [hk, hj] at h
    rw [State.ppmusOff, h.get (f := F.CLU_k_PP_j_CTRL_MODE k j) rfl]
    refine (get_congr (updChan_regs _ _ _) _).trans (get_put_same _ _ _ ?_)
    apply all_fin₂ k j
    decide +kernel

theorem safeLeave_eq (s : State) : s.safeLeave =
    (((((s.put F.MGS_SAFE_STATUS_ACTIVE 0).put F.GLB_STATUS_SAFE 0).put F.MGS_EVENT_SAFE_EXIT 1).lanesBack).ppmusOff).logEvent logMgs := rfl

theorem safeLeave_shows (s : State) (t : State) (ht : t = s.safeLeave) :
    t.safe = false ∧ t.get F.MGS_SAFE_STATUS_ACTIVE = 0 ∧ t.get F.MGS_EVENT_SAFE_EXIT = 1 ∧ (∀ n : Lane, s.xlState n = 4 → t.xlState n = 1) ∧
      (∀ n : Lane, s.xlState n ≠ 4 → t.xlState n = s.xlState n) ∧ (∀ (k : Cluster) (j : Chan16), t.get (F.CLU_k_PP_j_CTRL_MODE k j) = 0) ∧
      t.mem = s.mem := by
  have h1 : RegStep (· ∉ [R.MGS_SAFE_STATUS, R.GLB_STATUS, R.MGS_EVENT]) s
      (((s.put F.MGS_SAFE_STATUS_ACTIVE 0).put F.GLB_STATUS_SAFE 0).put F.MGS_EVENT_SAFE_EXIT 1) :=
    ((RegStep.refl.put (by decide)).put (by decide)).put (by decide)
  have k1 : (((s.put F.MGS_SAFE_STATUS_ACTIVE 0).put F.GLB_STATUS_SAFE 0).put F.MGS_EVENT_SAFE_EXIT 1).get F.GLB_STATUS_SAFE = 0 := by
    simp -implicitDefEqProofs (disch := decide)
  have k2 : (((s.put F.MGS_SAFE_STATUS_ACTIVE 0).put F.GLB_STATUS_SAFE 0).put F.MGS_EVENT_SAFE_EXIT 1).get F.MGS_SAFE_STATUS_ACTIVE = 0 := by
    simp -implicitDefEqProofs (disch := decide)
  have k3 : (((s.put F.MGS_SAFE_STATUS_ACTIVE 0).put F.GLB_STATUS_SAFE 0).put F.MGS_EVENT_SAFE_EXIT 1).get F.MGS_EVENT_SAFE_EXIT = 1 := by
    simp -implicitDefEqProofs (disch := decide)
  rw [safeLeave_eq] at ht
  generalize ((s.put F.MGS_SAFE_STATUS_ACTIVE 0).put F.GLB_STATUS_SAFE 0).put F.MGS_EVENT_SAFE_EXIT 1 = u at *
  obtain ⟨l1, l2, l3⟩ := lanesBack_shows u
  have hu : ∀ n : Lane, u.xlState n = s.xlState n := fun n => h1.2.get (by apply all_fin n; decide +kernel)
  have hum : u.mem = s.mem := by rw [h1.others]
  have hlm : u.lanesBack.mem = u.mem := by rw [l1.others]
  generalize u.lanesBack = v at *
  obtain ⟨p1, p2, p3⟩ := ppmusOff_shows v
  generalize v.ppmusOff = w at *
  obtain ⟨⟨r, m, q, e⟩, hr, he⟩ := logStep_logEvent w logMgs
  rw [← ht] at e hr he
  have hn : ∀ n : Lane, t.xlState n = v.xlState n := fun n =>
    (hr.get (by apply all_fin n; decide +kernel)).trans (p1.get (by simp only [F.XL_n_STATUS_STATE, R.XL_n_STATUS]; omega))
  refine ⟨?_, ?_, ?_, fun n h => (hn n).trans (l2 n ((hu n).trans h)), fun n h => (hn n).trans ((l3 n fun e => h ((hu n).symm.trans e)).trans (hu n)),
    fun k j => (hr.get (by apply all_fin₂ k j; decide +kernel)).trans (p3 k j), ?_⟩
  · rw [State.safe, is_eq, hr.get (by decide), p1.get (by decide), l1.2.get (by unfold isLaneReg; decide), k1]
    rfl
  · rw [hr.get (by decide), p1.get (by decide), l1.2.get (by unfold isLaneReg; decide), k2]
  · rw [he _ rfl (by decide), p1.get (by decide), l1.2.get (by unfold isLaneReg; decide), k3]
  · rw [e, p2, hlm, hum]

/-- A source that sets or clears its bit and nothing else. -/
theorem source_shows (s : State) (p : Pins) (b : Fin 5) (on : Bool) (t : State)
    (ht : t = ({ s with pins := p } : State).put F.MGS_SAFE_STATUS_SRC (setBitN (({ s with pins := p } : State).get F.MGS_SAFE_STATUS_SRC) b on)) :
    (t.get F.MGS_SAFE_STATUS_SRC).testBit b = on ∧
      (∀ i : Fin 5, i.val ≠ b.val → (t.get F.MGS_SAFE_STATUS_SRC).testBit i = (s.get F.MGS_SAFE_STATUS_SRC).testBit i) ∧
      t.safe = s.safe ∧ t.get F.MGS_SAFE_STATUS_ACTIVE = s.get F.MGS_SAFE_STATUS_ACTIVE ∧ t.pins = p ∧
      RegsBut [R.MGS_SAFE_STATUS] s t ∧ t = { s with regs := t.regs, pins := t.pins } := by
  obtain ⟨h1, h2, h3, hr⟩ := src_shows { s with pins := p } b on t ht
  have hs : t.safe = s.safe := by
    rw [ht, safe_put_src]
    rfl
  obtain ⟨⟨a, rfl⟩, hk⟩ := hr
  exact ⟨h1, fun i hi => h2 i fun e => hi (congrArg Fin.val e), hs, h3, rfl, hk, rfl⟩

/-- The write of SAFE_CTRL changes FORCE, and no source. -/
theorem regStep_safeCtrl (s : State) (v : Word) : RegStep (· ∉ [R.MGS_SAFE_CTRL]) s (s.plainWrite R.MGS_SAFE_CTRL v) :=
  regStep_plainWrite s R.MGS_SAFE_CTRL v (by decide) (.inl (by decide +kernel))

theorem safeForceWrite_eq (s : State) (v : Word) {on : Bool} (h : (s.plainWrite R.MGS_SAFE_CTRL v).is F.MGS_SAFE_CTRL_FORCE = on) :
    safeForceWrite v s = (s.plainWrite R.MGS_SAFE_CTRL v).safeSrc ssSw on := by
  rw [safeForceWrite, h]

/-- Settles O50: a source is one bit of SRC (`src_shows`), the first enters the safe state (`safeEntered`), and the fold over the lanes, or the
PPMUs, leaves in each block of registers what its own step leaves (`each_block`). -/
theorem safeState : Obligations.SafeState := by
  refine ⟨?_, ?_, ?_, ?_, ?_, ?_, ?_, ?_, ?_, ?_⟩
  · intro s h
    refine completes_intro rfl fun t ht => ?_
    obtain ⟨e1, e2, e3, e4, e5, e6, e7, e8, e9, -⟩ := safeSrc_first_shows (s := { s with pins := { s.pins with peSafeN := false } }) h 0 t ht
    exact ⟨e1, e2, e3, e4, e5, e6, e7, e8, by rw [e9]⟩
  · intro s h
    refine completes_of_eq rfl (safeSrc_on (s := { s with pins := { s.pins with peSafeN := false } }) h ssPin) ?_
    obtain ⟨e1, e2, -, -, e5, e6, e7⟩ := source_shows s { s.pins with peSafeN := false } 0 true _ rfl
    exact ⟨e1, e2, congrArg Pins.peSafeN e5, e6, e7⟩
  · intro s h
    refine completes_intro rfl fun t ht => ?_
    obtain ⟨e1, e2, e3, e4, e5, e6, e7, e8, e9, -⟩ := safeSrc_first_shows (s := { s with pins := { s.pins with thermtripN := false } }) h 1 t ht
    exact ⟨e1, e2, e3, e4, e5, e6, e7, e8, by rw [e9]⟩
  · intro s h
    refine completes_of_eq rfl (safeSrc_on (s := { s with pins := { s.pins with thermtripN := false } }) h ssTrip) ?_
    obtain ⟨e1, e2, -, -, e5, e6, e7⟩ := source_shows s { s.pins with thermtripN := false } 1 true _ rfl
    exact ⟨e1, e2, congrArg Pins.thermtripN e5, e6, e7⟩
  · intro s v hv h
    have hw := regStep_safeCtrl s v
    have e := safeForceWrite_eq s v (on := true) (by simp [is_eq, hv])
    generalize s.plainWrite R.MGS_SAFE_CTRL v = u at *
    have hu : u.safe = false := by rw [State.safe, is_eq, hw.2.get (by decide), ← is_eq]; exact h
    obtain ⟨e1, e2, e3, e4, e5, e6, e7, e8, e9, -⟩ := safeSrc_first_shows hu 3 _ rfl
    have hx : ∀ n : Lane, u.get (F.XL_n_CTRL_ENABLE n) = s.get (F.XL_n_CTRL_ENABLE n) ∧ u.xlState n = s.xlState n := fun n =>
      ⟨hw.2.get (by apply all_fin n; decide +kernel), hw.2.get (by apply all_fin n; decide +kernel)⟩
    have hs : u.get F.MGS_SAFE_STATUS_SRC = s.get F.MGS_SAFE_STATUS_SRC := hw.2.get (by decide)
    have hc : u.num R.MGS_SAFE_CNT = s.num R.MGS_SAFE_CNT := hw.2.num (by decide)
    obtain ⟨⟨a, rfl⟩, -⟩ := hw
    exact completes_of_eq rfl e ⟨e1, fun i hi => (e2 i hi).trans (by rw [hs]), e3, e4, e5.trans (by rw [hc]), fun n hn => e6 n ((hx n).1.trans hn),
      fun n hn => (e7 n ((hx n).1.trans hn)).trans (hx n).2, e8, e9⟩
  · intro s v hv h
    have hw := regStep_safeCtrl s v
    have e := safeForceWrite_eq s v (on := true) (by simp [is_eq, hv])
    generalize s.plainWrite R.MGS_SAFE_CTRL v = u at *
    have hu : u.safe = true := by rw [State.safe, is_eq, hw.2.get (by decide), ← is_eq]; exact h
    have hs : u.get F.MGS_SAFE_STATUS_SRC = s.get F.MGS_SAFE_STATUS_SRC := hw.2.get (by decide)
    rw [safeSrc_on hu] at e
    obtain ⟨⟨a, rfl⟩, hk⟩ := hw
    obtain ⟨e1, e2, -, -, e5, e6, e7⟩ := source_shows { s with regs := a } s.pins 3 true _ rfl
    refine completes_of_eq rfl e ⟨e1, fun i hi => (e2 i hi).trans (by rw [hs]), e5, ?_, e7⟩
    exact RegsIf.trans (fun o ho => hk o fun hm => ho (by simp at hm; simp [hm])) fun o ho => e6 o fun hm => ho (by simp at hm; simp [hm])
  · intro s
    refine completes_of_eq rfl (safeSrc_off { s with pins := { s.pins with peSafeN := true } } ssPin) ?_
    obtain ⟨e1, e2, e3, e4, e5, e6, e7⟩ := source_shows s { s.pins with peSafeN := true } 0 false _ rfl
    exact ⟨e1, e2, e3, e4, congrArg Pins.peSafeN e5, e6, e7⟩
  · intro s v hv
    have hw := regStep_safeCtrl s v
    have e := safeForceWrite_eq s v (on := false) (by simp [is_eq, hv])
    generalize s.plainWrite R.MGS_SAFE_CTRL v = u at *
    have hu : u.safe = s.safe := by rw [State.safe, is_eq, hw.2.get (by decide), ← is_eq]; rfl
    have hs : u.get F.MGS_SAFE_STATUS_SRC = s.get F.MGS_SAFE_STATUS_SRC := hw.2.get (by decide)
    have ha : u.get F.MGS_SAFE_STATUS_ACTIVE = s.get F.MGS_SAFE_STATUS_ACTIVE := hw.2.get (by decide)
    rw [safeSrc_off] at e
    obtain ⟨⟨a, rfl⟩, hk⟩ := hw
    obtain ⟨e1, e2, e3, e4, e5, e6, e7⟩ := source_shows { s with regs := a } s.pins 3 false _ rfl
    refine completes_of_eq rfl e ⟨e1, fun i hi => (e2 i hi).trans (by rw [hs]), e3.trans hu, e4.trans ha, ?_, e7⟩
    exact RegsIf.trans (fun o ho => hk o fun hm => ho (by simp at hm; simp [hm])) fun o ho => e6 o fun hm => ho (by simp at hm; simp [hm])
  · intro s h h0
    obtain ⟨e1, e2, e3, e4, e5, e6, e7⟩ := safeLeave_shows s _ rfl
    exact completes_of_eq rfl (if_pos ⟨h, h0⟩) ⟨e1, e2, e3, e4, e5, e6, e7⟩
  · intro s h
    exact congrArg Host.Outcome.next (if_neg fun e => h e.2)

end Sys2Proof.Machine
end

section
-- One proof at a time: the whole text then stays within the memory the check allows.
set_option Elab.async false
/-! PROOFS. O51: the watchdog, the sensors and the keep-alive island. -/

namespace Sys2Proof.Machine
open State

/-! ### The watchdog -/

/-- Whatever the state is, a source that begins leaves the safe state active, and the rest of MGS_EVENT as it was. -/
theorem safeSrc_begins (s : State) (b : Fin 5) (t : State) (ht : t = s.safeSrc b true) :
    (t.get F.MGS_SAFE_STATUS_SRC).testBit b = true ∧ t.safe = true ∧ t.mem = s.mem ∧ (∃ q, t.mgmt = { s.mgmt with logQ := q }) ∧
      ∀ f : Fld, f.off = R.MGS_EVENT → F.MGS_EVENT_LOG_LOST.apart f = true → t.get f = s.get f := by
  cases h : s.safe with
  | true =>
    obtain ⟨e1, -, -, hr⟩ := src_shows s b true _ rfl
    have hs := safe_put_src s (setBitN (s.get F.MGS_SAFE_STATUS_SRC) b true)
    rw [safeSrc_on h] at ht
    rw [← ht] at e1 hs hr
    have hm : t.mem = s.mem ∧ t.mgmt = s.mgmt := by
      obtain ⟨⟨a, rfl⟩, -⟩ := hr
      exact ⟨rfl, rfl⟩
    exact ⟨e1, hs.trans h, hm.1, ⟨s.mgmt.logQ, hm.2⟩, fun f hf _ => hr.2.get (by rw [hf]; decide)⟩
  | false =>
    obtain ⟨e1, -, e3, -, -, -, -, e8, -, e10, e11⟩ := safeSrc_first_shows h b t ht
    exact ⟨e1, e3, e8, ⟨_, e10⟩, e11⟩

/-- The watchdog expires. -/
theorem wdtFire_shows (s : State) (t : State) (ht : t = s.wdtFire) : t.mgmt.expired = true ∧ t.mgmt.expiredAt = s.now ∧
    t.get F.MGS_EVENT_WDT = 1 ∧ (t.get F.MGS_SAFE_STATUS_SRC).testBit 2 = true ∧ t.safe = true ∧ t.mem = s.mem := by
  have g1 : (({ s with mgmt := { s.mgmt with expired := true, expiredAt := s.now } } : State).put F.MGS_EVENT_WDT 1).get F.MGS_EVENT_WDT = 1 :=
    get_put_same _ _ _ (by decide)
  have g2 : (({ s with mgmt := { s.mgmt with expired := true, expiredAt := s.now } } : State).put F.MGS_EVENT_WDT 1).mgmt =
    { s.mgmt with expired := true, expiredAt := s.now } := put_mgmt _ _ _
  have g3 : (({ s with mgmt := { s.mgmt with expired := true, expiredAt := s.now } } : State).put F.MGS_EVENT_WDT 1).mem = s.mem := put_mem _ _ _
  rw [State.wdtFire] at ht
  generalize ({ s with mgmt := { s.mgmt with expired := true, expiredAt := s.now } } : State).put F.MGS_EVENT_WDT 1 = u at *
  obtain ⟨⟨r, n, l, el⟩, -, he⟩ := logStep_logEvent u logMgs
  have k1 := he F.MGS_EVENT_WDT rfl (by decide)
  have k2 : (u.logEvent logMgs).mgmt = { u.mgmt with logQ := l } := by rw [el]
  have k3 : (u.logEvent logMgs).mem = u.mem := by rw [el]
  generalize u.logEvent logMgs = v at *
  obtain ⟨h1, h2, h3, ⟨q, hq⟩, h5⟩ := safeSrc_begins v 2 t ht
  exact ⟨by rw [hq, k2, g2], by rw [hq, k2, g2], (h5 _ rfl (by decide)).trans (k1.trans g1), h1, h2, h3.trans (k3.trans g3)⟩

/-! ### Sensors -/

theorem sext_toBits {x : Int} (h : -2048 ≤ x ∧ x < 2048) : sext 12 (toBits 12 x) = x := by
  have e : ((x % 2 ^ 12).toNat : Int) = x % 4096 := Int.toNat_of_nonneg (Int.emod_nonneg x (by decide))
  have h2 : (2 : Nat) ^ (12 - 1) = 2048 := rfl
  have h3 : (2 : Int) ^ 12 = 4096 := rfl
  rw [sext, toBits, h2, e, h3]
  by_cases hx : 0 ≤ x
  · rw [if_pos (by omega)]
    omega
  · rw [if_neg (by omega)]
    omega

theorem toBits_lt (w : Nat) (x : Int) : toBits w x < 2 ^ w := by
  rw [toBits]
  have h1 := Int.emod_nonneg x (show (2 ^ w : Int) ≠ 0 by positivity)
  have h2 := Int.emod_lt_of_pos x (show (0 : Int) < 2 ^ w by positivity)
  zify
  omega

/-- The largest of the readings is one of them. -/
theorem foldl_max_spec (l : List Nat) (f : Nat → Int) (m : Int) :
    (l.foldl (fun m i => max m (f i)) m = m ∨ ∃ i ∈ l, l.foldl (fun m i => max m (f i)) m = f i) ∧
      m ≤ l.foldl (fun m i => max m (f i)) m ∧ ∀ i ∈ l, f i ≤ l.foldl (fun m i => max m (f i)) m := by
  induction l generalizing m with
  | nil => simp
  | cons x xs ih =>
    obtain ⟨h1, h2, h3⟩ := ih (max m (f x))
    rw [List.foldl_cons]
    refine ⟨?_, le_trans (le_max_left _ _) h2, fun i hi => ?_⟩
    · rcases h1 with h | ⟨i, hi, h⟩
      · rcases max_choice m (f x) with e | e
        · exact .inl (h.trans e)
        · exact .inr ⟨x, List.mem_cons_self, h.trans e⟩
      · exact .inr ⟨i, List.mem_cons_of_mem _ hi, h⟩
    · rcases List.mem_cons.1 hi with rfl | hi
      · exact le_trans (le_max_right _ _) h2
      · exact h3 i hi

theorem hottest_spec (s : State) : (∃ i : Fin 64, s.hottest = sext 12 (s.get (F.MGS_DIODE_i_TEMP i))) ∧
    ∀ i : Fin 64, sext 12 (s.get (F.MGS_DIODE_i_TEMP i)) ≤ s.hottest := by
  obtain ⟨h1, h2, h3⟩ := foldl_max_spec (List.range 63) (fun i => sext 12 (s.get (F.MGS_DIODE_i_TEMP (i + 1)))) (sext 12 (s.get (F.MGS_DIODE_i_TEMP 0)))
  refine ⟨?_, fun i => ?_⟩
  · rcases h1 with h | ⟨i, hi, h⟩
    · exact ⟨0, h⟩
    · exact ⟨⟨i + 1, by have := List.mem_range.1 hi; omega⟩, h⟩
  · obtain ⟨i, hi⟩ := i
    cases i with
    | zero => exact h2
    | succ i => exact h3 i (List.mem_range.2 (by omega))

theorem hottest_congr {s t : State} (h : ∀ i : Fin 64, t.get (F.MGS_DIODE_i_TEMP i) = s.get (F.MGS_DIODE_i_TEMP i)) : t.hottest = s.hottest := by
  obtain ⟨⟨i, hi⟩, h1⟩ := hottest_spec s
  obtain ⟨⟨j, hj⟩, h2⟩ := hottest_spec t
  have a := h2 i
  have b := h1 j
  rw [h] at a hj
  omega

/-- A fold over a list with positions is one over the positions. -/
theorem each_zipIdx {α : Type} (d : α) (l : List α) (s : State) (f : State → α × Nat → State) :
    s.each l.zipIdx f = s.each (List.range l.length) (fun t i => f t (l.getD i d, i)) := by
  have h : l.zipIdx = (List.range l.length).map (fun i => (l.getD i d, i)) := by
    refine List.ext_getElem (by simp) fun i h1 h2 => ?_
    have hi : i < l.length := by simpa using h1
    simp [hi]
  rw [h, State.each, List.foldl_map]
  rfl

/-- Values put in one field each, in different registers. -/
theorem each_put_shows (k : Nat) (f : Nat → Fld) (v : Nat → Nat) (hf : ∀ i j, i ≠ j → (f i).off ≠ (f j).off) (hv : ∀ i < k, (f i).fits (v i) = true)
    (s : State) :
    RegStep (fun o => ∀ i < k, o ≠ (f i).off) s (s.each (List.range k) (fun t i => t.put (f i) (v i))) ∧
      ∀ i < k, (s.each (List.range k) (fun t i => t.put (f i) (v i))).get (f i) = v i := by
  refine ⟨RegStep.each_mem RegStep.refl fun {t i} hi h => h.put fun ho => ho i (List.mem_range.1 hi) rfl, fun i hi => ?_⟩
  obtain ⟨u, -, hu⟩ := each_block (B := fun i o => o = (f i).off) (s := s) (l := List.range k) (f := fun t i => t.put (f i) (v i))
    (fun u i _ => RegsIf.refl.put fun h => h rfl) List.nodup_range (List.mem_range.2 hi) fun x _ hx o ho he => hf x i hx (he.symm.trans ho)
  rw [hu.get rfl, get_put_same _ _ _ (hv i hi)]

/-! ### The voltage monitors -/

/-- A reading before its limits are looked at. -/
def State.vmonRead (s : State) (j mv : Nat) : State := (s.put (F.MGS_VMON_v_MV j) mv).when (8 ≤ j) (fun u => u.bankMeas (j - 8) mv)

/-- One monitor is refreshed. -/
def State.vmonShow (s : State) (j mv : Nat) : State :=
  (s.vmonRead j mv).when ((s.vmonRead j mv).get (F.MGS_VMON_v_MV j) < (s.vmonRead j mv).get (F.MGS_VMON_v_LIM_LO j) ||
      (s.vmonRead j mv).get (F.MGS_VMON_v_LIM_HI j) < (s.vmonRead j mv).get (F.MGS_VMON_v_MV j))
    (fun u => (u.put (F.MGS_VMON_v_OUT j) 1).put F.MGS_EVENT_VMON 1)

theorem regStep_bankMeas {P : Nat → Prop} {r s : State} (h : RegStep P r s) (k mv : Nat) (hk : ¬ P (R.CLU_k_BANK_STATUS k)) : RegStep P r (s.bankMeas k mv) :=
  (h.put hk).put hk

theorem when_true (s : State) (f : State → State) : s.when true f = f s := rfl

theorem when_false (s : State) (f : State → State) : s.when false f = s := rfl

theorem regStep_vmonRead (s : State) (j mv : Nat) : RegStep (fun o => o ≠ R.MGS_VMON_v j ∧ o ≠ R.CLU_k_BANK_STATUS (j - 8)) s (s.vmonRead j mv) :=
  RegStep.when (RegStep.refl.put fun h => h.1 rfl) fun h => regStep_bankMeas h _ _ fun h => h.2 rfl

theorem get_vmonRead (s : State) (j : Fin 40) {mv : Nat} (hm : mv < 4096) : (s.vmonRead j mv).get (F.MGS_VMON_v_MV j) = mv := by
  have hg : (s.put (F.MGS_VMON_v_MV j) mv).get (F.MGS_VMON_v_MV j) = mv :=
    get_put_same _ _ _ (Fld.fits_of_lt (n := 4096) (by simp [F.MGS_VMON_v_MV]) hm)
  have hb : R.MGS_VMON_v j ≠ R.CLU_k_BANK_STATUS (j - 8) := by
    simp only [R.MGS_VMON_v, R.CLU_k_BANK_STATUS]
    omega
  have hr : RegStep (fun o => o ≠ R.CLU_k_BANK_STATUS (j - 8)) (s.put (F.MGS_VMON_v_MV j) mv) (s.vmonRead j mv) :=
    RegStep.when RegStep.refl fun h => regStep_bankMeas h _ _ fun h => h rfl
  rw [hr.2.get hb, hg]

theorem regStep_vmonShow (s : State) (j mv : Nat) :
    RegStep (fun o => o ≠ R.MGS_EVENT ∧ o ≠ R.MGS_VMON_v j ∧ o ≠ R.CLU_k_BANK_STATUS (j - 8)) s (s.vmonShow j mv) := by
  rw [State.vmonShow]
  exact RegStep.when ((regStep_vmonRead s j mv).weaken fun o ho => ho.2) fun h => (h.put fun h => h.2.1 rfl).put fun h => h.1 rfl

theorem vmonShow_shows (s : State) (j : Fin 40) {mv : Nat} (hm : mv < 4096) :
    (s.vmonShow j mv).get (F.MGS_VMON_v_MV j) = mv ∧
      (mv < s.get (F.MGS_VMON_v_LIM_LO j) → (s.vmonShow j mv).get (F.MGS_VMON_v_OUT j) = 1 ∧ (s.vmonShow j mv).get F.MGS_EVENT_VMON = 1) ∧
      (s.get F.MGS_EVENT_VMON = 1 → (s.vmonShow j mv).get F.MGS_EVENT_VMON = 1) := by
  have hr := regStep_vmonRead s j mv
  have hg := get_vmonRead s j hm
  have hl : (s.vmonRead j mv).get (F.MGS_VMON_v_LIM_LO j) = s.get (F.MGS_VMON_v_LIM_LO j) := hr.2.get (by
    simp only [F.MGS_VMON_v_LIM_LO, R.MGS_VMON_v_LIM, R.MGS_VMON_v, R.CLU_k_BANK_STATUS]
    omega)
  have he : (s.vmonRead j mv).get F.MGS_EVENT_VMON = s.get F.MGS_EVENT_VMON := hr.2.get (by
    simp only [F.MGS_EVENT_VMON, R.MGS_EVENT, R.MGS_VMON_v, R.CLU_k_BANK_STATUS]
    omega)
  rw [State.vmonShow, hg, hl]
  generalize s.vmonRead j mv = u at *
  generalize hc : (decide (mv < s.get (F.MGS_VMON_v_LIM_LO j)) || decide (u.get (F.MGS_VMON_v_LIM_HI j) < mv)) = c
  cases c with
  | false =>
    rw [when_false]
    refine ⟨hg, fun h => ?_, fun h => by rw [he, h]⟩
    simp [h] at hc
  | true =>
    rw [when_true]
    refine ⟨?_, fun _ => ⟨?_, ?_⟩, fun _ => ?_⟩
    all_goals simp -implicitDefEqProofs (disch := (apply all_fin j; decide +kernel)) [hg]

/-- The monitors, one after the other. -/
theorem vmons_shows (s : State) (m : List Nat) (hl : m.length = 40) (hm : ∀ x ∈ m, x < 4096) (t : State)
    (ht : t = s.each (List.range 40) (fun t j => t.vmonShow j (m.getD j 0))) :
    RegStep (fun o => o ≠ R.MGS_EVENT ∧ (o < 0x1000000 ∨ 0x2000000 ≤ o) ∧ (o < 0x5000200 ∨ 0x5000300 ≤ o)) s t ∧
      (∀ j : Fin 40, t.get (F.MGS_VMON_v_MV j) = m.getD j 0) ∧
      ∀ j : Fin 40, m.getD j 0 < s.get (F.MGS_VMON_v_LIM_LO j) → t.get (F.MGS_VMON_v_OUT j) = 1 ∧ t.get F.MGS_EVENT_VMON = 1 := by
  have hr : ∀ {u : State} {j : Nat}, j < 40 → RegStep (fun o => o ≠ R.MGS_EVENT ∧ (o < 0x1000000 ∨ 0x2000000 ≤ o) ∧ (o < 0x5000200 ∨ 0x5000300 ≤ o)) u
      (u.vmonShow j (m.getD j 0)) := fun {u j} hj => (regStep_vmonShow u j _).weaken fun o ho => by
    simp only [R.MGS_VMON_v, R.CLU_k_BANK_STATUS]
    omega
  have hv : ∀ j : Fin 40, m.getD j 0 < 4096 := fun j => by
    rw [List.getD_eq_getElem _ _ (by rw [hl]; exact j.isLt)]
    exact hm _ (List.getElem_mem _)
  rw [ht]
  refine ⟨RegStep.each_mem RegStep.refl fun hj h => h.trans (hr (List.mem_range.1 hj)), ?_⟩
  have hb : ∀ j : Fin 40, ∃ u, RegsIf (fun o => o = R.MGS_VMON_v j ∨ o = R.MGS_VMON_v_LIM j) s u ∧
      RegsIf (fun o => o = R.MGS_VMON_v j ∨ o = R.MGS_VMON_v_LIM j) (u.vmonShow j (m.getD j 0))
        (s.each (List.range 40) (fun t j => t.vmonShow j (m.getD j 0))) ∧
      ((u.vmonShow j (m.getD j 0)).get F.MGS_EVENT_VMON = 1 →
        (s.each (List.range 40) (fun t j => t.vmonShow j (m.getD j 0))).get F.MGS_EVENT_VMON = 1) := fun j => by
    obtain ⟨a, b, hab⟩ := List.append_of_mem (List.mem_range.2 j.isLt)
    obtain ⟨-, h2, h3⟩ := List.nodup_append.1 (hab ▸ List.nodup_range)
    have hf : ∀ k : List Nat, (∀ x ∈ k, x < 40 ∧ x ≠ j) → ∀ u : State,
        RegsIf (fun o => o = R.MGS_VMON_v j ∨ o = R.MGS_VMON_v_LIM j) u (u.each k (fun t j => t.vmonShow j (m.getD j 0))) ∧
          (u.get F.MGS_EVENT_VMON = 1 → (u.each k (fun t j => t.vmonShow j (m.getD j 0))).get F.MGS_EVENT_VMON = 1) := fun k hk u => by
      refine ⟨RegsIf.each_mem RegsIf.refl fun {t x} hx h => h.trans fun o ho => (regStep_vmonShow t x _).2 o ?_, fun h0 => ?_⟩
      · obtain ⟨h1, h2⟩ := hk x hx
        have := j.isLt
        simp only [R.MGS_VMON_v, R.MGS_VMON_v_LIM, R.MGS_EVENT, R.CLU_k_BANK_STATUS] at ho ⊢
        omega
      · exact each_mem_keeps (fun w => w.get F.MGS_EVENT_VMON = 1) k _ h0 fun w x hx hw => (vmonShow_shows w ⟨x, (hk x hx).1⟩ (hv ⟨x, (hk x hx).1⟩)).2.2 hw
    have hx : ∀ x ∈ a ++ j.val :: b, x < 40 := fun x hx => List.mem_range.1 (hab ▸ hx)
    rw [hab, each_append]
    have ka := hf a (fun x h => ⟨hx x (by simp [h]), fun e => h3 x h x (by simp [e]) rfl⟩) s
    have kb := hf b (fun x h => ⟨hx x (by simp [h]), fun e => (List.nodup_cons.1 h2).1 (e ▸ h)⟩) ((s.each a fun t j => t.vmonShow j (m.getD j 0)).vmonShow j (m.getD j 0))
    exact ⟨_, ka.1, kb.1, kb.2⟩
  refine ⟨fun j => ?_, fun j hj => ?_⟩
  · obtain ⟨u, -, h2, -⟩ := hb j
    exact (h2.get (.inl rfl)).trans (vmonShow_shows u j (hv j)).1
  · obtain ⟨u, h1, h2, h3⟩ := hb j
    have hl : u.get (F.MGS_VMON_v_LIM_LO j) = s.get (F.MGS_VMON_v_LIM_LO j) := h1.get (.inr rfl)
    obtain ⟨e1, e2⟩ := (vmonShow_shows u j (hv j)).2.1 (by rw [hl]; exact hj)
    exact ⟨(h2.get (.inl rfl)).trans e1, h3 e2⟩

/-! ### The refresh -/

theorem roundFree_others (s : State) (w : Nat) (n : Int) (d : Nat) : ∃ a, (s.roundFree w n d).2 = { s with free := a } := by
  rw [State.roundFree]
  split
  · exact ⟨_, rfl⟩
  · split
    · exact ⟨s.free, rfl⟩
    · exact ⟨_, rfl⟩

/-- The hottest diode and the temperature are shown. -/
def State.tempShow (s : State) : State :=
  ((s.roundFree 8 s.hottest 8).2.put F.MGS_TEMP_DIODE (((List.range 64).find? (fun i => sext 12 (s.get (F.MGS_DIODE_i_TEMP i)) == s.hottest)).getD 0)).put
    F.MGS_TEMP_MAX (toBits 8 (s.roundFree 8 s.hottest 8).1)

theorem tempShow_shows (s t : State) (ht : t = s.tempShow) : RegsIf (· ≠ R.MGS_TEMP) s t ∧ t.mem = s.mem ∧
    sext 12 (s.get (F.MGS_DIODE_i_TEMP (t.get F.MGS_TEMP_DIODE))) = s.hottest ∧ t.get F.MGS_TEMP_DIODE < 64 := by
  obtain ⟨a, ha⟩ := roundFree_others s 8 s.hottest 8
  have hi : ∃ i, (List.range 64).find? (fun i => sext 12 (s.get (F.MGS_DIODE_i_TEMP i)) == s.hottest) = some i ∧ i < 64 ∧
      sext 12 (s.get (F.MGS_DIODE_i_TEMP i)) = s.hottest := by
    cases h : (List.range 64).find? (fun i => sext 12 (s.get (F.MGS_DIODE_i_TEMP i)) == s.hottest) with
    | none =>
      obtain ⟨⟨i, hi⟩, -⟩ := hottest_spec s
      exact absurd (beq_iff_eq.2 hi.symm) (by simpa using List.find?_eq_none.1 h i (List.mem_range.2 i.isLt))
    | some i => exact ⟨i, rfl, List.mem_range.1 (List.mem_of_find?_eq_some h), beq_iff_eq.1 (List.find?_some (p := fun i => sext 12 (s.get (F.MGS_DIODE_i_TEMP i)) == s.hottest) h)⟩
  obtain ⟨i, h1, h2, h3⟩ := hi
  have e : t = (({ s with free := a } : State).put F.MGS_TEMP_DIODE i).put F.MGS_TEMP_MAX (toBits 8 (s.roundFree 8 s.hottest 8).1) := by
    rw [ht, State.tempShow, h1, ha] <;> rfl
  have hg : t.get F.MGS_TEMP_DIODE = i := by
    have := get_put_same { s with free := a } F.MGS_TEMP_DIODE i (Fld.fits_of_lt (n := 64) rfl h2)
    rw [e]
    simp -implicitDefEqProofs (disch := decide) [this]
  refine ⟨?_, by rw [e, put_mem, put_mem], by rw [hg, h3], hg ▸ h2⟩
  have : RegsIf (· ≠ R.MGS_TEMP) s { s with free := a } := RegsIf.refl.of_regs rfl
  rw [e]
  exact (this.put fun h => h rfl).put fun h => h rfl

/-- A refresh of the sensors, in its three parts. -/
theorem sensorRefresh_run {d : List Int} {m : List Nat} (hd : d.length = 64) (hm : m.length = 40) (s : State) : sensorRefresh d m s =
    (s.each (List.range 64) (fun t i => t.put (F.MGS_DIODE_i_TEMP i) (toBits 12 (d.getD i 0)))).tempShow.each (List.range 40)
      (fun t j => t.vmonShow j (m.getD j 0)) := by
  have h1 := each_zipIdx 0 d s fun t p => t.put (F.MGS_DIODE_i_TEMP p.2) (toBits 12 p.1)
  have h2 : ∀ u : State, u.each m.zipIdx (fun t p => t.vmonShow p.2 p.1) = u.each (List.range m.length) (fun t j => t.vmonShow j (m.getD j 0)) :=
    fun u => each_zipIdx 0 m u fun t p => t.vmonShow p.2 p.1
  rw [hd] at h1
  rw [hm] at h2
  rw [sensorRefresh, if_neg (by omega)]
  rw [← h1, ← h2] <;> rfl

theorem sensorRefresh_shows (s : State) (d : List Int) (m : List Nat) (hd : d.length = 64) (hm : m.length = 40) (hx : ∀ x ∈ d, -2048 ≤ x ∧ x < 2048)
    (hy : ∀ x ∈ m, x < 4096) (t : State) (ht : t = sensorRefresh d m s) :
    (∀ i : Fin 64, sext 12 (t.get (F.MGS_DIODE_i_TEMP i)) = d.getD i 0) ∧
      (∀ j : Fin 40, t.get (F.MGS_VMON_v_MV j) = m.getD j 0) ∧
      (∀ j : Fin 40, m.getD j 0 < s.get (F.MGS_VMON_v_LIM_LO j) → t.get (F.MGS_VMON_v_OUT j) = 1 ∧ t.get F.MGS_EVENT_VMON = 1) ∧
      ((t.hottest ∈ d) ∧ ∀ x ∈ d, x ≤ t.hottest) ∧
      sext 12 (t.get (F.MGS_DIODE_i_TEMP (t.get F.MGS_TEMP_DIODE))) = t.hottest ∧ t.mem = s.mem := by
  rw [sensorRefresh_run hd hm] at ht
  obtain ⟨h1, h2⟩ := each_put_shows 64 F.MGS_DIODE_i_TEMP (fun i => toBits 12 (d.getD i 0))
    (fun i j h => by simp only [F.MGS_DIODE_i_TEMP, R.MGS_DIODE_i]; omega)
    (fun i _ => Fld.fits_of_lt (n := 4096) (by simp [F.MGS_DIODE_i_TEMP]) (toBits_lt 12 _)) s
  generalize s.each (List.range 64) (fun t i => t.put (F.MGS_DIODE_i_TEMP i) (toBits 12 (d.getD i 0))) = u at *
  obtain ⟨k1, k2, k3, k4⟩ := tempShow_shows u _ rfl
  generalize u.tempShow = w at *
  obtain ⟨l1, l2, l3⟩ := vmons_shows w m hm hy t ht
  have hw : ∀ i : Fin 64, w.get (F.MGS_DIODE_i_TEMP i) = u.get (F.MGS_DIODE_i_TEMP i) := fun i => k1.get (by
    simp only [F.MGS_DIODE_i_TEMP, R.MGS_DIODE_i, R.MGS_TEMP]
    omega)
  have hg : ∀ i : Fin 64, t.get (F.MGS_DIODE_i_TEMP i) = u.get (F.MGS_DIODE_i_TEMP i) := fun i => (l1.2.get (by
    simp only [F.MGS_DIODE_i_TEMP, R.MGS_DIODE_i, R.MGS_EVENT]
    omega)).trans (hw i)
  have hi : ∀ i : Fin 64, sext 12 (t.get (F.MGS_DIODE_i_TEMP i)) = d.getD i 0 := fun i => by
    rw [hg, h2 i i.isLt]
    exact sext_toBits (hx _ (by rw [List.getD_eq_getElem _ _ (by omega)]; exact List.getElem_mem _))
  have he : t.hottest = u.hottest := hottest_congr hg
  have hn : t.get F.MGS_TEMP_DIODE = w.get F.MGS_TEMP_DIODE := l1.2.get (by decide)
  refine ⟨hi, l2, fun j hj => l3 j ?_, ⟨?_, fun x hx => ?_⟩, ?_, ?_⟩
  · have : w.get (F.MGS_VMON_v_LIM_LO j) = s.get (F.MGS_VMON_v_LIM_LO j) := (k1.get (by
      simp only [F.MGS_VMON_v_LIM_LO, R.MGS_VMON_v_LIM, R.MGS_TEMP]
      omega)).trans (h1.2.get fun i hi => by
        simp only [F.MGS_VMON_v_LIM_LO, R.MGS_VMON_v_LIM, F.MGS_DIODE_i_TEMP, R.MGS_DIODE_i]
        omega)
    rw [this]
    exact hj
  · obtain ⟨⟨i, e⟩, -⟩ := hottest_spec t
    rw [e, hi, List.getD_eq_getElem _ _ (by omega)]
    exact List.getElem_mem _
  · obtain ⟨i, h, rfl⟩ := List.getElem_of_mem hx
    have := (hottest_spec t).2 ⟨i, by omega⟩
    rwa [hi, List.getD_eq_getElem _ _ h] at this
  · have := hg ⟨_, k4⟩
    rw [hn, he, this, k3]
  · obtain ⟨⟨a, rfl⟩, -⟩ := l1
    obtain ⟨⟨b, rfl⟩, -⟩ := h1
    exact k2

/-! ### The keep-alive island -/

theorem rtcSec_now (s : State) (x : Nat) (h : s.mgmt.rtc = (x % 2 ^ 48 : Nat) * 1000000000 - (s.now : Int)) : s.rtcSec = x % 2 ^ 48 := by
  rw [State.rtcSec, h]
  omega

/-- The island after the loss of VBAT. -/
theorem vbatLost_shows (s t : State) (ht : t = (((((({ s with mgmt := { s.mgmt with rtc := -(s.now : Int), vbatLost := true } } : State).putN
      R.MGS_KA_BOOTS 0).put F.BOOT_TRIAL_CNT_COUNT 0).put F.MGS_KA_STATUS_RTC_VALID 0).put F.MGS_KA_STATUS_TAMPER 1).put F.MGS_KA_STATUS_VBAT_LOW 1)) :
    t.num R.MGS_KA_BOOTS = 0 ∧ t.get F.BOOT_TRIAL_CNT_COUNT = 0 ∧ t.get F.MGS_KA_STATUS_RTC_VALID = 0 ∧ t.get F.MGS_KA_STATUS_TAMPER = 1 ∧
      t.get F.MGS_KA_STATUS_VBAT_LOW = 1 ∧ t.mgmt.vbatLost = true ∧ t.rtcSec = 0 ∧
      RegsBut [R.MGS_KA_BOOTS, R.BOOT_TRIAL_CNT, R.MGS_KA_STATUS] s t ∧ t = { s with regs := t.regs, mgmt := t.mgmt } := by
  have hm : t.mgmt = { s.mgmt with rtc := -(s.now : Int), vbatLost := true } := by rw [ht]; simp
  have hn : t.now = s.now := by rw [ht]; simp
  refine ⟨?_, ?_, ?_, ?_, ?_, by rw [hm], ?_, ?_, ?_⟩
  · rw [ht]
    simp -implicitDefEqProofs (disch := decide) [num_putN_same]
  · rw [ht]
    simp -implicitDefEqProofs (disch := decide)
  · rw [ht]
    simp -implicitDefEqProofs (disch := decide)
  · rw [ht]
    simp -implicitDefEqProofs (disch := decide)
  · rw [ht]
    simp -implicitDefEqProofs (disch := decide)
  · rw [State.rtcSec, hm, hn]
    simp
  · rw [ht]
    refine RegsIf.put (RegsIf.put (RegsIf.put (RegsIf.put (RegsIf.putN ?_ ?_) ?_) ?_) ?_) ?_
    · exact RegsIf.refl.of_regs rfl
    all_goals decide
  · rw [ht]
    rw [State.eq_iff] <;> simp

theorem rtcWritten_shows (s : State) (v : Word) (t : State) (ht : t = (s.takeStaged .mgmt).2.rtcCommit .mgmt (v.toNat + 2 ^ 32 * (s.takeStaged .mgmt).1.toNat)) :
    t.rtcSec = (v.toNat + 2 ^ 32 * (s.rq .mgmt).staged.toNat) % 2 ^ 48 ∧ t.get F.MGS_KA_STATUS_RTC_VALID = 1 ∧ (t.rq .mgmt).staged = 0 ∧
      RegsBut [R.MGS_KA_STATUS] s t ∧ t = { s with regs := t.regs, req := t.req, mgmt := t.mgmt } := by
  rw [State.takeStaged, State.rtcCommit, if_pos rfl] at ht
  simp only [] at ht
  generalize v.toNat + 2 ^ 32 * (s.rq .mgmt).staged.toNat = x at *
  have hq : ((s.updRq .mgmt fun c => { c with staged := 0 }).rq .mgmt).staged = 0 := by rw [rq_updRq]
  have hr : RegsIf (· ∉ [R.MGS_KA_STATUS]) s (s.updRq .mgmt fun c => { c with staged := 0 }) := RegsIf.refl.of_regs rfl
  have hu : ∃ q, (s.updRq .mgmt fun c => { c with staged := 0 }) = { s with req := q } := ⟨_, rfl⟩
  generalize (s.updRq .mgmt fun c => { c with staged := 0 }) = u at *
  have hg : t.get F.MGS_KA_STATUS_RTC_VALID = 1 := by rw [ht, get_put_same _ _ _ (by decide)]
  have hm : RegStep (· ∉ [R.MGS_KA_STATUS]) { u with mgmt := { u.mgmt with rtc := (x % 2 ^ 48 : Nat) * 1000000000 - u.now } } t := by
    rw [ht]
    exact RegStep.refl.put (by decide)
  obtain ⟨q, rfl⟩ := hu
  obtain ⟨⟨a, rfl⟩, hk⟩ := hm
  exact ⟨rtcSec_now _ _ rfl, hg, hq, (hr.of_regs rfl).trans hk, rfl⟩

/-- Settles O51: a source of the safe state begins whatever the state is (`safeSrc_begins`), a refresh is its diodes, the hottest of
them and the monitors (`sensorRefresh_shows`), and the reset of the watchdog is that of `warmReset_shows`. -/
theorem watchdogSensorsKeepAlive : Obligations.WatchdogSensorsKeepAlive := by
  refine ⟨?_, ?_, ?_, ?_, ?_, ?_, ?_, ?_, ?_, ?_, ?_, ?_, ?_, ?_, ?_, ?_, ?_⟩
  · intro s v h1 h2
    have g : RegStep (· ∉ [R.MGS_WDT_CTRL, R.GLB_ERR_ENUM]) s (s.plainWrite R.MGS_WDT_CTRL v) :=
      regStep_plainWrite s R.MGS_WDT_CTRL v (by decide) (.inr (by decide))
    refine completes_of_eq rfl (t := (s.plainWrite R.MGS_WDT_CTRL v).wdtLoad) (by simp [wdtEnable, is_eq, h1, h2]) ?_
    generalize s.plainWrite R.MGS_WDT_CTRL v = u at *
    obtain ⟨⟨a, rfl⟩, hr⟩ := g
    exact ⟨rfl, rfl, h2, hr, rfl⟩
  · intro s v h
    refine congrArg Host.Outcome.next ?_
    rcases h with h | h <;> simp [wdtEnable, is_eq, h]
  · intro s v h1 h2
    exact completes_of_eq rfl (t := s.wdtLoad) (by simp [wdtKick, h1, h2]) ⟨rfl, rfl, rfl⟩
  · intro s v h1 h2
    exact completes_of_eq rfl (t := s.wdtFire) (by simp [wdtKick, h1, h2]) (wdtFire_shows s _ rfl)
  · intro s r v h
    exact congrArg Host.Outcome.next (by simp [wdtKick, h])
  · intro s h1 h2
    exact completes_of_eq rfl (t := s.wdtFire) (by simp [wdtExpire, is_eq, h1, h2]) (wdtFire_shows s _ rfl)
  · intro s h
    refine congrArg Host.Outcome.next ?_
    rcases h with h | h <;> simp [wdtExpire, is_eq, h]
  · intro s h1 h2
    refine completes_of_eq rfl (t := s.warmReset causeWatchdog) (by simp [wdtReset, h1, h2]) ?_
    obtain ⟨h, e1, e2, -, -, e5⟩ := warmReset_shows s causeWatchdog (by decide) _ rfl
    exact ⟨h.regs, h.mem, h.flash, e2, e1, e5⟩
  · intro s d m hd hm hx hy
    exact completes_intro rfl fun t ht => sensorRefresh_shows s d m hd hm hx hy t ht
  · intro s c hc hx
    refine completes_intro rfl fun t ht => ?_
    have he : t = s.each (List.range 40) (fun t i => t.put (F.MGS_RAIL_r_I_CURRENT i) (c.getD i 0)) := by
      have := each_zipIdx 0 c s fun t p => t.put (F.MGS_RAIL_r_I_CURRENT p.2) p.1
      rw [hc] at this
      rw [ht, ← this, railSense, if_neg (by omega)]
    obtain ⟨h1, h2⟩ := each_put_shows 40 F.MGS_RAIL_r_I_CURRENT (fun i => c.getD i 0)
      (fun i j h => by simp only [F.MGS_RAIL_r_I_CURRENT, R.MGS_RAIL_r_I]; omega)
      (fun i hi => Fld.fits_of_lt (n := 65536) (by simp [F.MGS_RAIL_r_I_CURRENT]) (hx _ (by
        rw [List.getD_eq_getElem _ _ (by omega)]
        exact List.getElem_mem _))) s
    rw [he]
    generalize s.each _ _ = u at *
    exact ⟨fun j => h2 j j.isLt, h1.others⟩
  · intro s h
    refine completes_of_eq rfl (if_neg (by simp [h])) (vbatLost_shows s _ rfl)
  · intro s v
    exact completes_of_eq rfl rfl (rtcWritten_shows s v _ rfl)
  · intro s r v h
    exact congrArg Host.Outcome.next (by simp [kaRtcWrite, State.takeStaged, State.rtcCommit, h])
  · intro s v h
    exact congrArg Host.Outcome.next (by simp [kaClr, h])
  · intro s r v h
    refine congrArg Host.Outcome.next (if_neg ?_)
    tauto
  · intro s h
    exact completes_of_eq rfl (if_pos h) ⟨rfl, rfl⟩
  · intro s h
    exact congrArg Host.Outcome.next (by simp [vidStep, h])

end Sys2Proof.Machine
end

section
-- One proof at a time: the whole text then stays within the memory the check allows.
set_option Elab.async false
/-! PROOFS. O39: the endpoint, MSI-X and the doorbells. -/

namespace Sys2Proof.Machine
open State

/-- What each step of a fold makes true of its own index, and every step of the others keeps, holds after the fold. -/
theorem each_makes {α : Type} (Q : α → State → Prop) (l : List α) (f : State → α → State) (s : State) (h1 : ∀ t, ∀ x ∈ l, Q x (f t x))
    (h2 : ∀ t, ∀ x ∈ l, ∀ y ∈ l, Q x t → Q x (f t y)) : ∀ x ∈ l, Q x (s.each l f) := fun x hx => by
  obtain ⟨a, b, rfl⟩ := List.append_of_mem hx
  rw [each_append]
  exact each_mem_keeps (Q x) b f (h1 (s.each a f) x hx) fun t y hy h => h2 t x hx y (by simp [hy]) h

/-! ### The configuration space -/

/-- The answer to a configuration request. -/
def State.cfgAnswer (s : State) (a : CfgRsp) : State := { s with host := { s.host with rsp := a } }

/-- A configuration word is written. -/
def State.cfgStore (s : State) (reg : Nat) (v : Word) : State := { s with host := { s.host with cfg := Tab.set 0 reg v s.host.cfg } }

theorem configRequest_early {s : State} (h : s.ready = false) (reg : Nat) (wr : Option Word) : configRequest reg wr s = s.cfgAnswer .retry := by
  simp [configRequest, h, State.cfgAnswer]

theorem configRequest_read {s : State} (h : s.ready = true) (reg : Nat) : configRequest reg none s =
    s.cfgAnswer (.word (if reg = 0 then hostifId else if reg = 2 then 0x12000000 else Tab.get 0 s.host.cfg reg)) := by
  simp [configRequest, h, State.cfgAnswer]

theorem configRequest_write {s : State} (h : s.ready = true) {reg : Nat} (h0 : reg ≠ 0) (h2 : reg ≠ 2) (v : Word) :
    configRequest reg (some v) s = (s.cfgStore reg v).cfgAnswer .done := by
  simp [configRequest, h, h0, h2, State.cfgAnswer, State.cfgStore]

/-! ### The end of the DMA engines -/

section
variable (s : State) (e : Nat) (f : Dma → Dma) (o : Nat)

theorem dmaOf_updDma : (s.updDma e f).dmaOf e = f (s.dmaOf e) := by
  rw [State.dmaOf, State.updDma, Tab.get_set_same]

theorem dmaOf_updDma_ne {n : Nat} (h : n ≠ e) : (s.updDma e f).dmaOf n = s.dmaOf n := by
  rw [State.dmaOf, State.updDma, Tab.get_set_ne _ _ _ _ _ _ h, State.dmaOf]

@[simp] theorem get_updDma (g : Fld) : (s.updDma e f).get g = s.get g := rfl
@[simp] theorem num_updDma : (s.updDma e f).num o = s.num o := rfl
@[simp] theorem word_updDma : (s.updDma e f).word o = s.word o := rfl
@[simp] theorem bit_updDma (i : Nat) : (s.updDma e f).bit o i = s.bit o i := rfl
end

@[simp] theorem dmaOf_setWord (s : State) (o : Nat) (v : Word) (e : Nat) : (s.setWord o v).dmaOf e = s.dmaOf e := by
  rw [State.dmaOf, State.dmaOf, setWord_host]

@[simp] theorem dmaOf_put (s : State) (f : Fld) (v e : Nat) : (s.put f v).dmaOf e = s.dmaOf e := by
  rw [State.dmaOf, State.dmaOf, put_host]

theorem dmaOf_regStep {P : Nat → Prop} {s t : State} (h : RegStep P s t) (e : Nat) : t.dmaOf e = s.dmaOf e := by
  obtain ⟨⟨a, rfl⟩, -⟩ := h
  rfl

/-- `t` is `s` but for registers, of which those that satisfy `P` are the same, and the host interface. -/
def DmaStep (P : Nat → Prop) (s t : State) : Prop := (∃ a h, t = { s with regs := a, host := h }) ∧ RegsIf P s t

namespace DmaStep
variable {P : Nat → Prop} {r s t : State}

theorem refl : DmaStep P s s := ⟨⟨s.regs, s.host, rfl⟩, RegsIf.refl⟩

theorem others (h : DmaStep P s t) : t = { s with regs := t.regs, host := t.host } := by
  obtain ⟨⟨a, x, rfl⟩, -⟩ := h
  rfl

theorem regStep (h : DmaStep P r s) (g : RegStep P s t) : DmaStep P r t := by
  obtain ⟨⟨a, x, rfl⟩, hr⟩ := h
  obtain ⟨⟨b, rfl⟩, gr⟩ := g
  exact ⟨⟨b, x, rfl⟩, hr.trans gr⟩

theorem weaken {Q : Nat → Prop} (h : DmaStep P s t) (i : ∀ o, Q o → P o) : DmaStep Q s t := ⟨h.1, fun o ho => h.2 o (i o ho)⟩

theorem put {f : Fld} {v : Nat} (h : DmaStep P r s) (ho : ¬ P f.off) : DmaStep P r (s.put f v) := h.regStep (RegStep.refl.put ho)

theorem withHost (h : DmaStep P r s) (x : HostSt) : DmaStep P r { s with host := x } := by
  obtain ⟨⟨a, _, rfl⟩, hr⟩ := h
  exact ⟨⟨a, x, rfl⟩, hr⟩

theorem updDma {e : Nat} {f : Dma → Dma} (h : DmaStep P r s) : DmaStep P r (s.updDma e f) := h.withHost _

theorem each_mem {α : Type} {l : List α} {f : State → α → State} (h : DmaStep P r s)
    (hf : ∀ {t : State} {x : α}, x ∈ l → DmaStep P r t → DmaStep P r (f t x)) : DmaStep P r (s.each l f) :=
  each_mem_keeps (DmaStep P r) l f h fun _ _ hx ht => hf hx ht

end DmaStep

/-- An engine that is off and moves nothing. -/
def State.dmaIdle (s : State) (e : Nat) : Prop :=
  s.get (F.HOSTIF_DMA_e_CTRL_ENABLE e) = 0 ∧ s.get (F.HOSTIF_DMA_e_STATUS_BUSY e) = 0 ∧ (s.dmaOf e).cur = none

theorem dmaAbort_idle (s : State) (e : Engine8) : (dmaAbort e s).dmaIdle e := by
  refine ⟨?_, ?_, ?_⟩
  · simp -implicitDefEqProofs (disch := (apply all_fin e; decide +kernel)) [dmaAbort, State.dmaAbandon]
  · simp -implicitDefEqProofs (disch := (apply all_fin e; decide +kernel)) [dmaAbort, State.dmaAbandon]
  · rw [dmaAbort, State.dmaAbandon, dmaOf_put, dmaOf_updDma]

theorem dmaStep_dmaAbort (s : State) (e : Nat) : DmaStep (fun o => o ≠ R.HOSTIF_DMA_e_CTRL e ∧ o ≠ R.HOSTIF_DMA_e_STATUS e) s (dmaAbort e s) :=
  ((DmaStep.refl.put fun h => h.1 rfl).updDma).put fun h => h.2 rfl

theorem dmaOf_dmaAbort_ne (s : State) {e n : Nat} (h : n ≠ e) : (dmaAbort e s).dmaOf n = s.dmaOf n := by
  rw [dmaAbort, State.dmaAbandon, dmaOf_put, dmaOf_updDma_ne _ _ _ h, dmaOf_put]

theorem dmaIdle_dmaAbort (s : State) (n e : Engine8) (h : s.dmaIdle n) : (dmaAbort e s).dmaIdle n := by
  by_cases hn : n = e
  · rw [hn]
    exact dmaAbort_idle s e
  · obtain ⟨h1, h2, h3⟩ := h
    have hr := dmaStep_dmaAbort s e
    have hv : n.val ≠ e.val := fun h => hn (Fin.ext h)
    refine ⟨(hr.2.get ?_).trans h1, (hr.2.get ?_).trans h2, by rw [dmaOf_dmaAbort_ne _ hv, h3]⟩
    all_goals
      simp only [F.HOSTIF_DMA_e_CTRL_ENABLE, F.HOSTIF_DMA_e_STATUS_BUSY, R.HOSTIF_DMA_e_CTRL, R.HOSTIF_DMA_e_STATUS]
      omega

/-- The tables of MSI-X as after a reset. -/
def State.msixClear (s : State) : State :=
  (s.each (List.range 64) (fun t v => t.each (List.range 4) (fun u i =>
    u.setWord (R.HOSTIF_MSIX_TABLE_v_i v i) (resetWord (R.HOSTIF_MSIX_TABLE_v_i v i))))).putN (R.HOSTIF_MSIX_PBA_w 0) 0 |>.putN (R.HOSTIF_MSIX_PBA_w 1) 0

theorem regStep_msixClear (s : State) : RegStep (fun o => o < 0x4408000) s s.msixClear := by
  rw [State.msixClear]
  refine ((RegStep.each_mem RegStep.refl fun hv h => RegStep.each_mem h fun hi h => h.setWord ?_).putN (by decide)).putN (by decide)
  simp only [R.HOSTIF_MSIX_TABLE_v_i]
  omega

theorem msixClear_shows (s : State) : s.msixClear.num (R.HOSTIF_MSIX_PBA_w 0) = 0 ∧ s.msixClear.num (R.HOSTIF_MSIX_PBA_w 1) = 0 := by
  rw [State.msixClear]
  generalize s.each _ _ = u
  constructor
  · simp -implicitDefEqProofs (disch := decide) [num_putN_same]
  · simp -implicitDefEqProofs (disch := decide) [num_putN_same]

theorem endpointReset_eq (s : State) :
    s.endpointReset = (s.each engineNums (fun t e => dmaAbort e t)).msixClear.put F.HOSTIF_EVENT_LINK_DOWN 1 := rfl

theorem endpointReset_shows (s t : State) (ht : t = s.endpointReset) :
    (∀ e : Engine8, t.dmaIdle e) ∧ t.num (R.HOSTIF_MSIX_PBA_w 0) = 0 ∧ t.num (R.HOSTIF_MSIX_PBA_w 1) = 0 ∧ t.get F.HOSTIF_EVENT_LINK_DOWN = 1 ∧
      DmaStep (· = R.HOSTIF_LINK) s t := by
  have h1 : ∀ e ∈ engineNums, (s.each engineNums (fun t e => dmaAbort e t)).dmaIdle e :=
    each_makes (fun e t => t.dmaIdle e) _ _ s (fun t e he => dmaAbort_idle t ⟨e, List.mem_range.1 he⟩)
      fun t n hn e he h => dmaIdle_dmaAbort t ⟨n, List.mem_range.1 hn⟩ ⟨e, List.mem_range.1 he⟩ h
  have h2 : DmaStep (· = R.HOSTIF_LINK) s (s.each engineNums (fun t e => dmaAbort e t)) := DmaStep.each_mem DmaStep.refl fun {t e} _ h =>
    (((h.put fun h => by simp only [F.HOSTIF_DMA_e_CTRL_ENABLE, R.HOSTIF_DMA_e_CTRL, R.HOSTIF_LINK] at h; omega).updDma).put
      fun h => by simp only [F.HOSTIF_DMA_e_STATUS_BUSY, R.HOSTIF_DMA_e_STATUS, R.HOSTIF_LINK] at h; omega)
  rw [endpointReset_eq] at ht
  generalize s.each engineNums (fun t e => dmaAbort e t) = u at *
  have h3 := regStep_msixClear u
  obtain ⟨h4, h5⟩ := msixClear_shows u
  generalize u.msixClear = w at *
  have h6 : RegStep (· ≠ R.HOSTIF_EVENT) w t := by
    rw [ht]
    exact RegStep.refl.put fun h => h rfl
  have hg : t.get F.HOSTIF_EVENT_LINK_DOWN = 1 := by rw [ht, get_put_same _ _ _ (by decide)]
  refine ⟨fun e => ?_, (h6.2.num (by decide)).trans h4, (h6.2.num (by decide)).trans h5, hg,
    (h2.regStep (h3.weaken fun o ho => by rw [ho]; decide)).regStep (h6.weaken fun o ho => by rw [ho]; decide)⟩
  obtain ⟨i1, i2, i3⟩ := h1 e (List.mem_range.2 e.isLt)
  refine ⟨(h6.2.get ?_).trans ((h3.2.get ?_).trans i1), (h6.2.get ?_).trans ((h3.2.get ?_).trans i2), by rw [dmaOf_regStep h6, dmaOf_regStep h3, i3]⟩
  all_goals
    simp only [F.HOSTIF_DMA_e_CTRL_ENABLE, F.HOSTIF_DMA_e_STATUS_BUSY, R.HOSTIF_DMA_e_CTRL, R.HOSTIF_DMA_e_STATUS, R.HOSTIF_EVENT]
    omega

theorem pcieReset_shows (s : State) (d : Bool) (t : State) (ht : t = pcieReset d s) :
    (∀ e : Engine8, t.dmaIdle e) ∧ t.num (R.HOSTIF_MSIX_PBA_w 0) = 0 ∧ t.num (R.HOSTIF_MSIX_PBA_w 1) = 0 ∧ t.get F.HOSTIF_EVENT_LINK_DOWN = 1 ∧
      t.num R.HOSTIF_LINK = (if d then 0 else s.num R.HOSTIF_LINK) ∧ t = { s with regs := t.regs, host := t.host } := by
  obtain ⟨h1, h2, h3, h4, h5⟩ := endpointReset_shows s _ rfl
  rw [pcieReset] at ht
  generalize s.endpointReset = u at *
  have hl := h5.2.num (o := R.HOSTIF_LINK) rfl
  cases d with
  | false =>
    rw [when_false] at ht
    obtain ⟨⟨a, x, rfl⟩, -⟩ := h5
    rw [ht]
    exact ⟨h1, h2, h3, h4, hl, rfl⟩
  | true =>
    rw [when_true, State.linkDown] at ht
    have hr : RegStep (· ≠ R.HOSTIF_LINK) u t := by
      rw [ht]
      exact RegStep.refl.putN fun h => h rfl
    have hn : t.num R.HOSTIF_LINK = 0 := by rw [ht, num_putN_same _ _ _ (by decide)]
    refine ⟨fun e => ?_, (hr.2.num (by decide)).trans h2, (hr.2.num (by decide)).trans h3, (hr.2.get (by decide)).trans h4, hn, ?_⟩
    · obtain ⟨i1, i2, i3⟩ := h1 e
      refine ⟨(hr.2.get ?_).trans i1, (hr.2.get ?_).trans i2, by rw [dmaOf_regStep hr, i3]⟩
      all_goals
        simp only [F.HOSTIF_DMA_e_CTRL_ENABLE, F.HOSTIF_DMA_e_STATUS_BUSY, R.HOSTIF_DMA_e_CTRL, R.HOSTIF_DMA_e_STATUS, R.HOSTIF_LINK]
        omega
    · obtain ⟨⟨a, x, rfl⟩, -⟩ := h5
      obtain ⟨⟨b, rfl⟩, -⟩ := hr
      rfl

theorem pciePerst_low (s : State) : pciePerst true s = pcieReset true { s with pins := { s.pins with perstN := false } } := by
  rw [pciePerst, pcieReset, when_true, when_true, Bool.not_true]

/-! ### MSI-X -/

theorem msixSend_run {s : State} {v : Nat} (h1 : s.bit (R.HOSTIF_MSIX_PBA_w (v / 32)) (v % 32) = true)
    (h2 : s.bit (R.HOSTIF_MSIX_TABLE_v_i v 3) 0 = false) : msixSend v s =
    ({ s with host := { s.host with out := s.host.out ++ [(s.num (R.HOSTIF_MSIX_TABLE_v_i v 0) + 2 ^ 32 * s.num (R.HOSTIF_MSIX_TABLE_v_i v 1),
      leBytes 4 (s.num (R.HOSTIF_MSIX_TABLE_v_i v 2)))] } } : State).putBit (R.HOSTIF_MSIX_PBA_w (v / 32)) (v % 32) false := by
  rw [msixSend, if_pos (by simp [h1, h2])]

/-! ### Doorbells -/

/-- A doorbell bit is set. -/
theorem doorbell_shows {w : Nat} (hw : w < 2) {b : Nat} (hb : b < 32) (s t : State) (ht : t = s.doorbell (32 * w + b)) :
    (∀ j, t.bit (R.MBX_DB_D2H_SET_w w) j = if j = b then true else s.bit (R.MBX_DB_D2H_SET_w w) j) ∧
      RegStep (· ∉ [R.MBX_DB_D2H_SET_w w, R.HOSTIF_MSIX_PBA_w 0, R.HOSTIF_MSIX_PBA_w 1]) s t := by
  have h1 : (32 * w + b) / 32 = w := by omega
  have h2 : (32 * w + b) % 32 = b := by omega
  have hp : R.MBX_DB_D2H_SET_w w ∉ [R.HOSTIF_MSIX_PBA_w 0, R.HOSTIF_MSIX_PBA_w 1] := by
    simp only [R.MBX_DB_D2H_SET_w, R.HOSTIF_MSIX_PBA_w, List.mem_cons, List.not_mem_nil, or_false]
    omega
  rw [State.doorbell, h1, h2] at ht
  have hs : RegStep (· ≠ R.MBX_DB_D2H_SET_w w) s (s.putBit (R.MBX_DB_D2H_SET_w w) b true) := RegStep.refl.putBit fun h => h rfl
  have hg := fun j => bit_putBit s (R.MBX_DB_D2H_SET_w w) b j true hb
  generalize s.putBit (R.MBX_DB_D2H_SET_w w) b true = u at *
  have hr : RegStep (· ∉ [R.HOSTIF_MSIX_PBA_w 0, R.HOSTIF_MSIX_PBA_w 1]) u t := by
    rw [ht]
    exact RegStep.when RegStep.refl fun _ => regStep_hostEvent u _
  refine ⟨fun j => (hr.2.bit hp).trans (hg j), (hs.weaken fun o ho e => ho (by simp [e])).trans (hr.weaken fun o ho e => ho ?_)⟩
  exact List.mem_cons_of_mem _ e

/-- Doorbell bits are set one after the other. -/
theorem doorbells_shows {w : Nat} (hw : w < 2) (l : List Nat) (hl : ∀ b ∈ l, b < 32) (s t : State)
    (ht : t = s.each l (fun t b => t.doorbell (32 * w + b))) :
    (∀ j, t.bit (R.MBX_DB_D2H_SET_w w) j = (s.bit (R.MBX_DB_D2H_SET_w w) j || l.contains j)) ∧
      RegStep (· ∉ [R.MBX_DB_D2H_SET_w w, R.HOSTIF_MSIX_PBA_w 0, R.HOSTIF_MSIX_PBA_w 1]) s t := by
  induction l generalizing s with
  | nil =>
    rw [ht]
    exact ⟨fun j => by simp [State.each], RegStep.refl⟩
  | cons b bs ih =>
    obtain ⟨h1, h2⟩ := doorbell_shows hw (hl b List.mem_cons_self) s _ rfl
    obtain ⟨h3, h4⟩ := ih (fun x hx => hl x (List.mem_cons_of_mem _ hx)) (s.doorbell (32 * w + b)) ht
    refine ⟨fun j => ?_, h2.trans h4⟩
    rw [h3, h1, List.contains_cons]
    by_cases h : j = b
    · simp [h]
    · rw [if_neg h, beq_eq_false_iff_ne.2 h, Bool.false_or]

theorem word_of_bits {s t : State} {o : Nat} {v : Word} (h : ∀ j, t.bit o j = (s.bit o j || (bitList 32 v.toNat).contains j)) :
    t.word o = s.word o ||| v := by
  refine BitVec.eq_of_getLsbD_eq fun j hj => ?_
  have := h j
  rw [State.bit, State.bit, State.num, State.num] at this
  rw [BitVec.getLsbD_or, BitVec.getLsbD, BitVec.getLsbD, BitVec.getLsbD, this]
  congr 1
  rw [Bool.eq_iff_iff, List.contains_iff_mem, bitList, List.mem_filter, List.mem_range]
  exact ⟨fun h => h.2, fun h => ⟨hj, h⟩⟩

/-- Settles O39: a reset of the endpoint ends engine after engine (`endpointReset_shows`), and doorbell bits are set one after the
other (`doorbells_shows`). -/
theorem hostEndpoint : Obligations.HostEndpoint := by
  refine ⟨?_, ?_, ?_, ?_, ?_, ?_, ?_, ?_, ?_, ?_, ?_, ?_, ?_, ?_⟩
  · intro s reg wr h
    exact completes_of_eq rfl (configRequest_early h reg wr) ⟨rfl, rfl, rfl⟩
  · intro s h
    exact completes_of_eq rfl (configRequest_read h 0) ⟨rfl, rfl⟩
  · intro s reg h h0 h2
    refine completes_of_eq rfl (configRequest_read h reg) ⟨?_, rfl, rfl⟩
    rw [if_neg h0, if_neg h2]
    rfl
  · intro s reg v h h0 h2
    exact completes_of_eq rfl (configRequest_write h h0 h2 v) ⟨Tab.get_set_same _ _ _ _, rfl, fun k hk => Tab.get_set_ne _ _ _ _ _ _ hk, rfl⟩
  · intro s d
    exact completes_intro rfl fun t ht => pcieReset_shows s d t ht
  · intro s
    obtain ⟨h1, h2, h3, h4, h5, h6⟩ := pcieReset_shows { s with pins := { s.pins with perstN := false } } true _ rfl
    refine completes_of_eq rfl (pciePerst_low s) ?_
    generalize pcieReset true _ = t at *
    exact ⟨h1, h2, h3, h4, h5, by rw [h6], by rw [h6]⟩
  · intro s
    rfl
  · intro s w g hp hw h1 h5
    have hc : s.pins.perstN = true ∧ [1, 2, 4, 8].contains w.val = true ∧ 1 ≤ g.val ∧ g.val ≤ 5 := ⟨hp, by simp [hw], h1, h5⟩
    refine completes_of_eq rfl (if_pos hc) ⟨?_, ?_, ?_, ?_, ?_⟩
    · simp -implicitDefEqProofs (disch := decide)
    · have := get_put_same (s.put F.HOSTIF_LINK_UP 1) F.HOSTIF_LINK_WIDTH w (Fld.fits_of_lt (n := 16) rfl w.isLt)
      simp -implicitDefEqProofs (disch := decide) [this]
    · exact get_put_same _ _ _ (Fld.fits_of_lt (n := 16) rfl g.isLt)
    · exact ((RegsIf.refl.put (by decide)).put (by decide)).put (by decide)
    · rw [State.eq_iff] <;> simp
  · intro s v h1 h2
    refine completes_of_eq rfl (msixSend_run h1 h2) ?_
    have hb : v.val % 32 < 32 := Nat.mod_lt _ (by decide)
    refine ⟨by rw [putBit_host], ?_, fun b hb' => ?_, ?_, ?_⟩
    · rw [bit_putBit _ _ _ _ _ hb, if_pos rfl]
    · rw [bit_putBit _ _ _ _ _ hb, if_neg hb'] <;> rfl
    · exact RegsIf.putBit (RegsIf.refl.of_regs rfl) (by simp)
    · rw [State.eq_iff] <;> simp
  · intro s v h
    refine congrArg Host.Outcome.next (if_neg ?_)
    rcases h with h | h <;> simp [h]
  · intro s w v
    exact completes_of_eq rfl rfl ⟨word_setWord _ _ _, RegsIf.refl.setWord (by simp), rfl⟩
  · intro s w v
    exact completes_of_eq rfl rfl ⟨word_setWord _ _ _, RegsIf.refl.setWord (by simp), rfl⟩
  · intro s w v
    refine completes_intro rfl fun t ht => ?_
    obtain ⟨h1, h2⟩ := doorbells_shows w.isLt (bitList 32 v.toNat) (fun b hb => List.mem_range.1 (List.mem_filter.1 hb).1) s t ht
    exact ⟨word_of_bits h1, h2.2, h2.others⟩
  · intro s w v
    exact completes_of_eq rfl rfl ⟨word_setWord _ _ _, RegsIf.refl.setWord (by simp), rfl⟩

end Sys2Proof.Machine
end

section
-- One proof at a time: the whole text then stays within the memory the check allows.
set_option Elab.async false
/-! PROOFS. What a write and a read of the shared memory do: its bytes are stored beat by beat. -/

namespace Sys2Proof.Machine
open State

/-- `t` is `s` but for the bytes of memory and the reservations of the site cores. -/
def StoreStep (s t : State) : Prop := ∃ m h, t = { s with mem := m, hart := h }

namespace StoreStep
variable {r s t : State}

theorem refl : StoreStep s s := ⟨s.mem, s.hart, rfl⟩

theorem others (h : StoreStep s t) : t = { s with mem := t.mem, hart := t.hart } := by
  obtain ⟨m, x, rfl⟩ := h
  rfl

theorem trans (h : StoreStep r s) (g : StoreStep s t) : StoreStep r t := by
  obtain ⟨m, x, rfl⟩ := h
  obtain ⟨n, y, rfl⟩ := g
  exact ⟨n, y, rfl⟩

end StoreStep

theorem wrBytes_others (s : State) (a : Nat) (d : List Byte) : ∃ m, s.wrBytes a d = { s with mem := m } := by
  induction d generalizing s a with
  | nil => exact ⟨s.mem, rfl⟩
  | cons b bs ih =>
    obtain ⟨m, hm⟩ := ih (s.wrByte a b) (a + 1)
    exact ⟨m, by rw [State.wrBytes, hm, State.wrByte]⟩

theorem dropResv_others (s : State) (who : Option Nat) (a n : Nat) : ∃ h, s.dropResv who a n = { s with hart := h } :=
  each_keeps (fun t => ∃ h, t = { s with hart := h }) coreNums _ s ⟨s.hart, rfl⟩ fun t c ⟨h, ht⟩ => by
    split
    · split
      · exact ⟨_, by rw [State.updHart, ht]⟩
      · exact ⟨h, ht⟩
    · exact ⟨h, ht⟩

theorem store_step (s : State) (r : Req) (a : Nat) (d : List Byte) : StoreStep s (s.store r a d) := by
  obtain ⟨m, hm⟩ := wrBytes_others s a d
  obtain ⟨h, hh⟩ := dropResv_others (s.wrBytes a d) (reqCore r) a d.length
  exact ⟨m, h, by rw [State.store, hh, hm]⟩

theorem rdByte_store (s : State) (r : Req) (a : Nat) (d : List Byte) (b : Nat) : (s.store r a d).rdByte b = (s.wrBytes a d).rdByte b := by
  obtain ⟨h, hh⟩ := dropResv_others (s.wrBytes a d) (reqCore r) a d.length
  exact rdByte_congr (by rw [State.store, hh]) b

theorem each_cons {α : Type} (s : State) (x : α) (l : List α) (f : State → α → State) : s.each (x :: l) f = (f s x).each l f := rfl

/-! ### Beats -/

/-- Every beat lies in its range. -/
theorem beats_within {a n : Nat} {p : Nat × Nat} (h : p ∈ beats a n) : a ≤ p.1 ∧ p.1 + p.2 ≤ a + n := by
  rw [beats] at h
  split at h
  · simp at h
  · obtain ⟨i, hi, rfl⟩ := List.mem_map.1 h
    have := List.mem_range.1 hi
    dsimp only
    omega

/-- Every byte of the range lies in a beat. -/
theorem beats_cover {a n i : Nat} (h : i < n) : ∃ p ∈ beats a n, p.1 ≤ a + i ∧ a + i < p.1 + p.2 := by
  rw [beats, if_neg (by omega)]
  refine ⟨_, List.mem_map.2 ⟨(a + i) / 64 - a / 64, List.mem_range.2 (by omega), rfl⟩, ?_, ?_⟩
  · dsimp only
    omega
  · dsimp only
    omega

/-- A range inside one beat is that beat. -/
theorem beats_single {a n : Nat} (hn : 0 < n) (h : a / 64 = (a + n - 1) / 64) : beats a n = [(a, n)] := by
  have h1 : (a + n - 1) / 64 + 1 - a / 64 = 1 := by omega
  rw [beats, if_neg (by omega), h1]
  simp only [List.range_one, List.map_cons, List.map_nil, List.cons.injEq, Prod.mk.injEq, and_true]
  omega

/-- The address lies in the shared memory. -/
def inSram (a : Nat) : Prop := 0xD00000000 ≤ a ∧ a < 0xD00400000

theorem inHbm_sram {a : Nat} (h : 0xD00000000 ≤ a) : inHbm a = false := by
  have : dirEnd ≤ 0xD00000000 := by decide
  rw [inHbm, decide_eq_false_iff_not]
  omega

theorem regionOf_sram {a : Nat} (h : inSram a) : regionOf a = .sram := by
  obtain ⟨h1, h2⟩ := h
  have hs : inShelf a = false := by
    have : shelfEnd ≤ 0xD00000000 := by decide
    rw [inShelf, Bool.and_eq_false_iff, decide_eq_false_iff_not, decide_eq_false_iff_not]
    omega
  rw [regionOf, inHbm_sram h1, hs, if_neg (by decide), if_neg (by omega), if_neg (by decide), if_neg (by omega), if_pos ⟨h1, h2⟩]

/-- The part of a write that a beat is. -/
def beatData (a0 : Nat) (d : List Byte) (p : Nat × Nat) : List Byte := (d.drop (p.1 - a0)).take p.2

theorem writeBeats_sram (r : Req) (a0 : Nat) (d : List Byte) (l : List (Nat × Nat)) (s : State) (h : ∀ p ∈ l, inSram p.1) :
    writeBeats r a0 d l s = ([], s.each l fun t p => t.store r p.1 (beatData a0 d p)) := by
  induction l generalizing s with
  | nil => rfl
  | cons p ps ih =>
    obtain ⟨a, n⟩ := p
    have hb : writeBeat r a ((d.drop (a - a0)).take n) s = (none, s.store r a (beatData a0 d (a, n))) := by
      rw [writeBeat, regionOf_sram (h (a, n) List.mem_cons_self)] <;> rfl
    rw [each_cons, writeBeats, hb]
    dsimp only
    rw [ih _ fun q hq => h q (List.mem_cons_of_mem _ hq), Option.toList_none, List.nil_append]

/-- Pieces of one text, each stored at its place, leave the text where they cover it. -/
theorem stores_shows (r : Req) (a : Nat) (d : List Byte) (l : List (Nat × Nat)) (hl : ∀ p ∈ l, a ≤ p.1 ∧ p.1 + p.2 ≤ a + d.length) (s t : State)
    (ht : t = s.each l fun t p => t.store r p.1 (beatData a d p)) :
    StoreStep s t ∧ MemBut a d.length s t ∧ ∀ i (h : i < d.length), (∃ p ∈ l, p.1 ≤ a + i ∧ a + i < p.1 + p.2) → t.rdByte (a + i) = d[i] := by
  have hlen : ∀ p ∈ l, (beatData a d p).length = p.2 := fun p hp => by
    have := hl p hp
    rw [beatData, List.length_take, List.length_drop]
    omega
  have hin : ∀ (u : State), ∀ p ∈ l, ∀ i (h : i < d.length), p.1 ≤ a + i → a + i < p.1 + p.2 →
      (u.store r p.1 (beatData a d p)).rdByte (a + i) = d[i] := fun u p hp i h h1 h2 => by
    have := hl p hp
    have e : a + i = p.1 + (a + i - p.1) := by omega
    have hi : a + i - p.1 < (beatData a d p).length := by
      rw [hlen p hp]
      omega
    rw [rdByte_store, e, rdByte_wrBytes _ _ _ _ hi]
    simp only [beatData, List.getElem_take, List.getElem_drop]
    congr 1
    omega
  have hout : ∀ (u : State), ∀ p ∈ l, ∀ b, b < p.1 ∨ p.1 + p.2 ≤ b → (u.store r p.1 (beatData a d p)).rdByte b = u.rdByte b := fun u p hp b hb => by
    rw [rdByte_store, rdByte_wrBytes_ne _ _ _ _ (by rwa [hlen p hp])]
  rw [ht]
  refine ⟨?_, fun b hb => ?_, fun i h hp => ?_⟩
  · exact each_keeps (StoreStep s) l _ s StoreStep.refl fun u p hu => hu.trans (store_step u r _ _)
  · refine each_mem_keeps (fun u => u.rdByte b = s.rdByte b) l _ rfl fun u p hp hu => (hout u p hp b ?_).trans hu
    have := hl p hp
    omega
  · obtain ⟨p, hm, h1, h2⟩ := hp
    refine each_makes (fun (p : Nat × Nat) u => p.1 ≤ a + i → a + i < p.1 + p.2 → u.rdByte (a + i) = d[i]) l _ s
      (fun u p hp => hin u p hp i h) (fun u p _ q hq hu g1 g2 => ?_) p hm h1 h2
    by_cases hc : q.1 ≤ a + i ∧ a + i < q.1 + q.2
    · exact hin u q hq i h hc.1 hc.2
    · rw [hout u q hq _ (by omega), hu g1 g2]

/-- A write of the shared memory stores its bytes and drops none. -/
theorem memWrite_sram (r : Req) (a : Nat) (d : List Byte) (s : State) (h1 : 0xD00000000 ≤ a) (h2 : a + d.length ≤ 0xD00400000) :
    ∃ t, memWrite r a d s = ([], t) ∧ StoreStep s t ∧ MemBut a d.length s t ∧ ∀ i (h : i < d.length), t.rdByte (a + i) = d[i] := by
  have hb : ∀ p ∈ beats a d.length, inSram p.1 := fun p hp => by
    have := beats_within hp
    rw [beats] at hp
    split at hp
    · simp at hp
    · obtain ⟨i, hi, rfl⟩ := List.mem_map.1 hp
      have := List.mem_range.1 hi
      simp only [inSram] at this ⊢
      omega
  obtain ⟨g1, g2, g3⟩ := stores_shows r a d _ (fun p hp => beats_within hp) s _ rfl
  exact ⟨_, by rw [memWrite, writeBeats_sram r a d _ s hb], g1, g2, fun i h => g3 i h (beats_cover h)⟩

/-! ### Reads -/

/-- A read inside one beat of the shared memory answers its bytes; the bursts that are noted are none. -/
theorem memRead_sram (r : Req) (a n : Nat) (ce ue : List Nat) (s : State) (h1 : 0xD00000000 ≤ a) (h2 : a + n ≤ 0xD00400000) (hn : 0 < n)
    (h : a / 64 = (a + n - 1) / 64) : ∃ m, memRead r a n ce ue s = (⟨[(a, s.rdBytes a n, true)], []⟩, { s with memc := m }) := by
  have he : ∀ l : List Nat, l.filter (fun b => inHbm (32 * b) && (burstsOf a n).contains b) = [] := fun l => by
    refine List.filter_eq_nil_iff.2 fun b _ hb => ?_
    rw [Bool.and_eq_true, List.contains_iff_mem, burstsOf, if_neg (by omega), List.mem_range'] at hb
    obtain ⟨hb, i, hi, hi'⟩ := hb
    rw [inHbm_sram (by omega)] at hb
    exact absurd hb (by decide)
  have hb : readBeat r a n (s.addErrs [] []) = (⟨[(a, s.rdBytes a n, true)], []⟩, s.addErrs [] []) := by
    rw [readBeat, regionOf_sram ⟨h1, by omega⟩]
    dsimp only
    rw [rdBytes_congr (s := s) (t := s.addErrs [] []) rfl]
  refine ⟨(s.addErrs [] []).memc, ?_⟩
  rw [memRead, he, he, beats_single hn h, readBeats, readBeats, hb]
  rfl

end Sys2Proof.Machine
end

section
-- One proof at a time: the whole text then stays within the memory the check allows.
set_option Elab.async false
/-! PROOFS. What the tree of chips and the sending of messages rest on. -/

namespace Sys2Proof.Machine
open State

/-- The registers that say where messages go. -/
def IsTree (o : Nat) : Prop := o = R.ULT_STATUS ∨ o = R.ULT_ROUTE_EN ∨ ∃ k, k < 4 ∧ (o = R.ULT_ROUTE_k k ∨ o = R.ULT_Pk_STATUS k)

section
variable {s t : State} (h : RegsIf IsTree s t)
include h

theorem upPort_congr : t.upPort = s.upPort := by
  rw [State.upPort, h.get (.inl rfl), State.upPort]

theorem chipId_congr : t.chipId = s.chipId := h.get (.inl rfl)

theorem isRoot_congr : t.isRoot = s.isRoot := by
  rw [State.isRoot, is_eq, h.get (.inl rfl), State.isRoot, is_eq]

theorem portLive_congr {k : Nat} (hk : k < 4) : t.portLive k = s.portLive k := by
  have hs : IsTree (R.ULT_Pk_STATUS k) := .inr (.inr ⟨k, hk, .inr rfl⟩)
  rw [State.portLive, State.portUp, is_eq, is_eq, h.get hs, h.get hs, State.portLive, State.portUp, is_eq, is_eq]

theorem downPorts_congr : t.downPorts = s.downPorts := by
  rw [State.downPorts, State.downPorts, upPort_congr h]
  exact List.filter_congr fun k hk => by rw [portLive_congr h (List.mem_range.1 hk)]

theorem bcastPorts_congr : t.bcastPorts = s.bcastPorts := by
  rw [State.bcastPorts, is_eq, h.get (.inl rfl), downPorts_congr h, State.bcastPorts, is_eq]

theorem bulkMsg_congr (m : Bool) (dest a : Nat) (d : List Byte) : t.bulkMsg m dest a d = s.bulkMsg m dest a d := by
  rw [State.bulkMsg, chipId_congr h, State.bulkMsg]

end

/-- `s` with messages that left. -/
def State.withSent (s : State) (l : List (Nat × Msg)) : State := { s with ult := { s.ult with sent := s.ult.sent ++ l } }

theorem sendOn_eq (s : State) (k : Nat) (m : Msg) : s.sendOn k m = s.withSent [(k, m)] := rfl

theorem withSent_withSent (s : State) (l k : List (Nat × Msg)) : (s.withSent l).withSent k = s.withSent (l ++ k) := by
  rw [State.withSent, State.withSent, State.withSent, List.append_assoc]

theorem sendAll_eq (s : State) (l : List Nat) (m : Msg) : s.sendAll l m = s.withSent (l.map fun k => (k, m)) := by
  induction l generalizing s with
  | nil => simp [State.sendAll, State.each, State.withSent]
  | cons k ks ih =>
    rw [State.sendAll, each_cons, sendOn_eq]
    exact (ih (s.withSent [(k, m)])).trans (by rw [withSent_withSent] <;> rfl)

theorem sendTo_port {s : State} {m : Msg} {k : Nat} (h : s.route m.dest = .port k) (hl : s.portLive k = true) : s.sendTo m = s.withSent [(k, m)] := by
  rw [State.sendTo, h]
  exact if_pos hl

section
variable (s : State) (l : List (Nat × Msg)) (o : Nat)
@[simp] theorem get_withSent (f : Fld) : (s.withSent l).get f = s.get f := rfl
@[simp] theorem num_withSent : (s.withSent l).num o = s.num o := rfl
@[simp] theorem word_withSent : (s.withSent l).word o = s.word o := rfl
end

end Sys2Proof.Machine
end

section
-- One proof at a time: the whole text then stays within the memory the check allows.
set_option Elab.async false
/-! PROOFS. O40: the DMA engines. -/

namespace Sys2Proof.Machine
open State

/-! ### Rings -/

theorem dmaEnableWrite_abort (e : Nat) {v : Word} (s : State) (h : bitsOf v 30 30 = 1) :
    dmaEnableWrite e v s = dmaAbort e (s.plainWrite (R.HOSTIF_DMA_e_CTRL e) v) := by
  simp [dmaEnableWrite, h]

theorem dmaEnableWrite_enable (e : Nat) {v : Word} {s : State} (h : bitsOf v 30 30 = 0) (h0 : s.get (F.HOSTIF_DMA_e_CTRL_ENABLE e) = 0)
    (h1 : (s.plainWrite (R.HOSTIF_DMA_e_CTRL e) v).get (F.HOSTIF_DMA_e_CTRL_ENABLE e) = 1) : dmaEnableWrite e v s =
    (s.plainWrite (R.HOSTIF_DMA_e_CTRL e) v).updDma e (fun d => { d with
      ring := (s.plainWrite (R.HOSTIF_DMA_e_CTRL e) v).pair (R.HOSTIF_DMA_e_RING_LO e) / 4096 * 4096
      log2 := (s.plainWrite (R.HOSTIF_DMA_e_CTRL e) v).get (F.HOSTIF_DMA_e_CTRL_RING_LOG2 e) }) := by
  simp [dmaEnableWrite, is_eq, h, h0, h1]

theorem dmaEnableWrite_shows (e : Engine8) {v : Word} {s : State} (h : bitsOf v 30 30 = 0) (h0 : s.get (F.HOSTIF_DMA_e_CTRL_ENABLE e) = 0)
    (h1 : (s.plainWrite (R.HOSTIF_DMA_e_CTRL e) v).get (F.HOSTIF_DMA_e_CTRL_ENABLE e) = 1) (t : State) (ht : t = dmaEnableWrite e v s) :
    (t.dmaOf e).ring = s.pair (R.HOSTIF_DMA_e_RING_LO e) / 4096 * 4096 ∧ (t.dmaOf e).log2 = t.get (F.HOSTIF_DMA_e_CTRL_RING_LOG2 e) ∧
      t.get (F.HOSTIF_DMA_e_CTRL_ENABLE e) = 1 ∧ (t.dmaOf e).cur = (s.dmaOf e).cur ∧
      RegsBut [R.HOSTIF_DMA_e_CTRL e, R.GLB_ERR_ENUM] s t ∧ t = { s with regs := t.regs, host := t.host } := by
  have g : RegStep (· ∉ [R.HOSTIF_DMA_e_CTRL e, R.GLB_ERR_ENUM]) s (s.plainWrite (R.HOSTIF_DMA_e_CTRL e) v) :=
    regStep_plainWrite s _ v (by simp) (.inr (by simp))
  rw [dmaEnableWrite_enable e h h0 h1] at ht
  generalize s.plainWrite (R.HOSTIF_DMA_e_CTRL e) v = u at *
  have hp : u.pair (R.HOSTIF_DMA_e_RING_LO e) = s.pair (R.HOSTIF_DMA_e_RING_LO e) := by
    rw [State.pair, g.2.num (by apply all_fin e; decide +kernel), g.2.num (by apply all_fin e; decide +kernel), State.pair]
  have hd : t.dmaOf e = { u.dmaOf e with
      ring := u.pair (R.HOSTIF_DMA_e_RING_LO e) / 4096 * 4096, log2 := u.get (F.HOSTIF_DMA_e_CTRL_RING_LOG2 e) } := by
    rw [ht, dmaOf_updDma]
  have hk : DmaStep (· ∉ [R.HOSTIF_DMA_e_CTRL e, R.GLB_ERR_ENUM]) s t := by
    rw [ht]
    exact (DmaStep.refl.regStep g).updDma
  refine ⟨by rw [hd, hp], by rw [hd, ht, get_updDma], by rw [ht, get_updDma, h1], by rw [hd, dmaOf_regStep g], hk.2, hk.others⟩

theorem dmaAbort_shows (s : State) (e : Engine8) (t : State) (ht : t = dmaAbort e s) :
    t.get (F.HOSTIF_DMA_e_CTRL_ENABLE e) = 0 ∧ t.get (F.HOSTIF_DMA_e_STATUS_BUSY e) = 0 ∧ (t.dmaOf e).cur = none ∧ (t.dmaOf e).acks = [] ∧
      (t.dmaOf e).conds = [] ∧ DmaStep (fun o => o ≠ R.HOSTIF_DMA_e_CTRL e ∧ o ≠ R.HOSTIF_DMA_e_STATUS e) s t := by
  obtain ⟨h1, h2, h3⟩ := dmaAbort_idle s e
  have hd : t.dmaOf e = { s.dmaOf e with cur := none, conds := [], moved := false, acks := [] } := by
    rw [ht, dmaAbort, State.dmaAbandon, dmaOf_put, dmaOf_updDma, dmaOf_put]
  refine ⟨ht ▸ h1, ht ▸ h2, by rw [hd], by rw [hd], by rw [hd], ht ▸ dmaStep_dmaAbort s e⟩

/-- A write of a register with one field. -/
theorem plainWrite_field {o a hi lo : Nat} {dims : List (Nat × Nat)} {rv : Nat} (s : State) (v : Word)
    (h : findRow o = some ⟨a, dims, [fA hi lo .rw rv]⟩) : s.plainWrite o v = s.put ⟨o, hi, lo⟩ (bitsOf v hi lo) := by
  simp [State.plainWrite, h, writeFields, writeField, fA, inRanges]

/-! ### Descriptors -/

/-- A descriptor arrives: what of it moves, and what is already wrong with it. -/
def State.dmaLoaded (s : State) (e : Nat) (d : DmaDesc) (bad : Bool) (conds : List Nat) : State :=
  (s.updDma e (fun x => { x with cur := some d, conds := conds, moved := bad, acks := [] })).put (F.HOSTIF_DMA_e_STATUS_BUSY e) 1

/-- One more descriptor was fetched. -/
def State.dmaFetched (s : State) : State := { s with host := { s.host with fetches := s.host.fetches + 1 } }

theorem dmaFetch_ok {s : State} {e : Nat} {l : List Byte} (h1 : s.get (F.HOSTIF_DMA_e_CTRL_ENABLE e) = 1) (h2 : s.ringBusy e = true)
    (h3 : (s.dmaOf e).cur = none) (h4 : l.length = 32) : dmaFetch e l true s =
    s.dmaFetched.dmaLoaded e (descOf l s.host.fetches) (descBad l (descOf l s.host.fetches))
      (if descBad l (descOf l s.host.fetches) then [dcBadDesc] else []) := by
  rw [dmaFetch, if_pos (by simp [is_eq, h1, h2, h3, h4])] <;> rfl

theorem dmaFetch_failed {s : State} {e : Nat} {l : List Byte} (h1 : s.get (F.HOSTIF_DMA_e_CTRL_ENABLE e) = 1) (h2 : s.ringBusy e = true)
    (h3 : (s.dmaOf e).cur = none) (h4 : l.length = 32) : dmaFetch e l false s =
    s.dmaFetched.cplErr.dmaLoaded e (descOf l s.host.fetches) true [dcHostErr] := by
  rw [dmaFetch, if_pos (by simp [is_eq, h1, h2, h3, h4])] <;> rfl

theorem dmaLoaded_shows (s : State) (e : Engine8) (d : DmaDesc) (bad : Bool) (conds : List Nat) (t : State) (ht : t = s.dmaLoaded e d bad conds) :
    (t.dmaOf e).cur = some d ∧ (t.dmaOf e).moved = bad ∧ (t.dmaOf e).conds = conds ∧ t.get (F.HOSTIF_DMA_e_STATUS_BUSY e) = 1 ∧
      DmaStep (· ∉ [R.HOSTIF_DMA_e_STATUS e]) s t := by
  have hd : t.dmaOf e = { s.dmaOf e with cur := some d, conds := conds, moved := bad, acks := [] } := by
    rw [ht, State.dmaLoaded, dmaOf_put, dmaOf_updDma]
  refine ⟨by rw [hd], by rw [hd], by rw [hd], ?_, ?_⟩
  · rw [ht]
    exact get_put_same _ _ _ (by apply all_fin e; decide +kernel)
  · rw [ht]
    exact DmaStep.refl.updDma.put (by simp [F.HOSTIF_DMA_e_STATUS_BUSY])

theorem cplErr_shows (s t : State) (ht : t = s.cplErr) : t.num R.HOSTIF_CPL_ERR = min satMax (s.num R.HOSTIF_CPL_ERR + 1) ∧
    t.get F.HOSTIF_EVENT_HOST_ERR = 1 ∧ RegStep (fun o => o ≠ R.HOSTIF_CPL_ERR ∧ o ≠ R.HOSTIF_EVENT) s t := by
  rw [ht, State.cplErr]
  refine ⟨?_, get_put_same _ _ _ (by decide), (RegStep.refl.bump fun h => h.1 rfl).put fun h => h.2 rfl⟩
  simp -implicitDefEqProofs (disch := decide)

/-! ### What descriptors move -/

theorem dmaStart_cur {s : State} {e op : Nat} {c : DmaDesc} (h : s.dmaStart e op = some c) : (s.dmaOf e).cur = some c := by
  rw [State.dmaStart] at h
  split at h
  · simp at h
  · next d hd =>
    split at h
    · rw [hd, h]
    · simp at h

theorem dmaHostData_ok {s : State} {e op : Nat} {c : DmaDesc} {d : List Byte} (h : s.dmaStart e op = some c) (hl : d.length = c.len)
    (f : DmaDesc → State → State) : s.dmaHostData e op d true f = f c s := by
  rw [State.dmaHostData, h]
  exact (if_neg (by simp)).trans (if_pos hl)

theorem dmaHostData_failed {s : State} {e op : Nat} {c : DmaDesc} (d : List Byte) (h : s.dmaStart e op = some c) (f : DmaDesc → State → State) :
    s.dmaHostData e op d false f = s.cplErr.dmaMoved e [dcHostErr] [] := by
  rw [State.dmaHostData, h]
  rfl

theorem dmaMoved_shows (s : State) (e : Nat) (conds acks : List Nat) (t : State) (ht : t = s.dmaMoved e conds acks) :
    (t.dmaOf e).moved = true ∧ (t.dmaOf e).conds = (s.dmaOf e).conds ++ conds ∧ (t.dmaOf e).acks = acks ∧ (t.dmaOf e).cur = (s.dmaOf e).cur ∧
      ∃ h, t = { s with host := h } := by
  have hd : t.dmaOf e = { s.dmaOf e with moved := true, conds := (s.dmaOf e).conds ++ conds, acks := acks } := by
    rw [ht, State.dmaMoved, dmaOf_updDma]
  exact ⟨by rw [hd], by rw [hd], by rw [hd], by rw [hd], _, ht⟩

theorem dmaOf_host {s t : State} (h : t.host = s.host) (e : Nat) : t.dmaOf e = s.dmaOf e := by
  rw [State.dmaOf, h, State.dmaOf]

theorem bulkParts_single {a : Nat} {d : List Byte} (h0 : 0 < d.length) (h : d.length ≤ 256) : bulkParts a d = [(a, d)] := by
  have : ceilDiv d.length 256 = 1 := by
    rw [ceilDiv]
    omega
  rw [bulkParts, this]
  simp [List.take_of_length_le h]

/-- Data goes to host memory. -/
def State.hostOut (s : State) (l : List (Nat × List Byte)) : State := { s with host := { s.host with out := s.host.out ++ l } }

theorem dmaD2h_run {s u : State} {e : Engine8} {c : DmaDesc} {ce ue : List Nat} {d : List Byte} (h : s.dmaStart e 1 = some c)
    (hm : memRead (.dma e) c.dev c.len ce ue s = (⟨[(c.dev, d, true)], []⟩, u)) : dmaD2h e ce ue s = (u.hostOut [(c.host, d)]).dmaMoved e [] [] := by
  have h : s.dmaStart e dmaOpD2h = some c := h
  have hc : c.host + (c.dev - c.dev) = c.host := by omega
  rw [dmaD2h, h]
  dsimp only
  rw [hm, List.filter_cons_of_pos (by rfl), List.filter_nil, List.map_cons, List.map_nil, hc]
  rfl

/-- The messages of a broadcast of one message. -/
theorem dmaBcast_run {s : State} {e : Engine8} {c : DmaDesc} {d : List Byte} {u : State} (h : s.dmaStart e 2 = some c) (hl : d.length = c.len)
    (h0 : 0 < c.len) (h1 : c.len ≤ 256) (hu : memWrite (.dma e) c.dev d s = ([], u)) : dmaBcast e d true s =
    ((u.addSat R.ULT_BULK_DROP 0).sendAll (u.addSat R.ULT_BULK_DROP 0).bcastPorts ((u.addSat R.ULT_BULK_DROP 0).bulkMsg true 0 c.dev d)).dmaMoved e [] [] := by
  rw [dmaBcast, dmaHostData_ok (op := dmaOpBcast) h hl, hu, bulkParts_single (hl ▸ h0) (hl ▸ h1)]
  rfl

theorem dmaRemote_run {s : State} {e : Engine8} {c : DmaDesc} {d : List Byte} {k : Nat} (h : s.dmaStart e 3 = some c) (hl : d.length = c.len)
    (h0 : 0 < c.len) (h1 : c.len ≤ 256) (hr : s.route c.dest = .port k) (hk : s.portLive k = true) : dmaRemote e d true s =
    (s.withSent [(k, s.bulkMsg false c.dest c.dev d)]).dmaMoved e [] [c.dev] := by
  have hs : s.sendAny (s.bulkMsg false c.dest c.dev d) = s.withSent [(k, s.bulkMsg false c.dest c.dev d)] := by
    have hd : s.route (s.bulkMsg false c.dest c.dev d).dest = .port k := hr
    rw [State.sendAny, hd, if_neg (by simp), sendTo_port hd hk]
  rw [dmaRemote, dmaHostData_ok (op := dmaOpRemote) h hl, bulkParts_single (hl ▸ h0) (hl ▸ h1), ← hs]
  rfl

/-! ### The end of a descriptor -/

/-- The status of a descriptor goes to host memory. -/
def State.dmaStatusOut (s : State) (e head code : Nat) : State :=
  { s with host := { s.host with out := s.host.out ++ [((s.dmaOf e).ring + 32 * head + 0x18, leBytes 4 (2 ^ 31 + code))] } }

/-- HEAD moves on, and the code is shown. -/
def State.dmaAdvanced (s : State) (e head code : Nat) : State :=
  (((s.dmaAbandon e).put (F.HOSTIF_DMA_e_HEAD_IDX e) head).put (F.HOSTIF_DMA_e_STATUS_LAST_CODE e) code).bump (R.HOSTIF_DMA_e_DONE_CNT e)

/-- An error is counted. -/
def State.dmaFailed (s : State) (e : Nat) : State := (s.bump (R.HOSTIF_DMA_e_ERR_CNT e)).put F.HOSTIF_EVENT_DMA_ERR 1

/-- What is noted of a descriptor that ended with a code. -/
def State.dmaNoted (s : State) (e : Nat) (c : DmaDesc) (code : Nat) : State :=
  (s.when (code != 0) (fun t => t.dmaFailed e)).dmaEvent e (b2n (c.flags.testBit 0) + 2 * b2n (code != 0))

/-- A descriptor ends, and its engine is stopped where an error stops it. -/
def State.dmaEnded (s : State) (e : Nat) (c : DmaDesc) (head code : Nat) : State :=
  (((s.dmaStatusOut e head code).dmaAdvanced e ((head + 1) % 2 ^ (s.dmaOf e).log2) code).dmaNoted e c code).when
    (code != 0 && (((s.dmaStatusOut e head code).dmaAdvanced e ((head + 1) % 2 ^ (s.dmaOf e).log2) code).dmaNoted e c code).is
      (F.HOSTIF_DMA_e_CTRL_HALT_ON_ERR e)) (fun t => t.put (F.HOSTIF_DMA_e_CTRL_ENABLE e) 0)

theorem dmaDone_run {s : State} {e : Nat} {c : DmaDesc} (h : (s.dmaOf e).cur = some c) (hm : (s.dmaOf e).moved = true)
    (ha : (s.dmaOf e).acks = []) : dmaDone e s = s.dmaEnded e c (s.get (F.HOSTIF_DMA_e_HEAD_IDX e) % 2 ^ (s.dmaOf e).log2)
      (if (s.dmaOf e).conds.isEmpty then 0 else (s.dmaOf e).conds.foldl min 15) := by
  rw [dmaDone, h]
  refine (if_pos ?_).trans ?_
  · simp [hm, ha]
  · rfl

theorem dmaEnded_good (s : State) (e : Nat) (c : DmaDesc) (head : Nat) : s.dmaEnded e c head 0 =
    ((s.dmaStatusOut e head 0).dmaAdvanced e ((head + 1) % 2 ^ (s.dmaOf e).log2) 0).dmaEvent e (b2n (c.flags.testBit 0)) := by
  rw [State.dmaEnded, State.dmaNoted, bne_self_eq_false, Bool.false_and, when_false, when_false]
  rfl

theorem foldl_min_head {a : Nat} {l : List Nat} (h6 : a ≤ 6) (hl : ∀ x ∈ l, a ≤ x) : (a :: l).foldl min 15 = a := by
  have : ∀ k : List Nat, (∀ x ∈ k, a ≤ x) → k.foldl min a = a := fun k => by
    induction k with
    | nil => exact fun _ => rfl
    | cons x xs ih =>
      intro hk
      rw [List.foldl_cons, Nat.min_eq_left (hk x List.mem_cons_self)]
      exact ih fun y hy => hk y (List.mem_cons_of_mem _ hy)
  rw [List.foldl_cons, Nat.min_eq_right (by omega), this l hl]

theorem dmaAdvanced_shows (s : State) (e : Engine8) {head code : Nat} (hh : head < 65536) (hc : code < 16) (t : State) (ht : t = s.dmaAdvanced e head code) :
    t.get (F.HOSTIF_DMA_e_HEAD_IDX e) = head ∧ t.get (F.HOSTIF_DMA_e_STATUS_LAST_CODE e) = code ∧
      t.num (R.HOSTIF_DMA_e_DONE_CNT e) = min satMax (s.num (R.HOSTIF_DMA_e_DONE_CNT e) + 1) ∧ (t.dmaOf e).cur = none ∧
      t.get (F.HOSTIF_DMA_e_STATUS_BUSY e) = 0 ∧ t.host.out = s.host.out ∧
      DmaStep (· ∉ [R.HOSTIF_DMA_e_STATUS e, R.HOSTIF_DMA_e_HEAD e, R.HOSTIF_DMA_e_DONE_CNT e]) s t := by
  have h1 : (F.HOSTIF_DMA_e_HEAD_IDX e).fits head = true := Fld.fits_of_lt (n := 65536) (by simp [F.HOSTIF_DMA_e_HEAD_IDX]) hh
  have h2 : (F.HOSTIF_DMA_e_STATUS_LAST_CODE e).fits code = true := Fld.fits_of_lt (n := 16) (by simp [F.HOSTIF_DMA_e_STATUS_LAST_CODE]) hc
  have hb : (s.dmaAbandon e).get (F.HOSTIF_DMA_e_STATUS_BUSY e) = 0 := get_put_same _ _ _ (by apply all_fin e; decide +kernel)
  have hd : ((s.dmaAbandon e).dmaOf e).cur = none := by rw [State.dmaAbandon, dmaOf_put, dmaOf_updDma]
  have ho : (s.dmaAbandon e).host.out = s.host.out := by rw [State.dmaAbandon, put_host] <;> rfl
  have hs0 : DmaStep (· ≠ R.HOSTIF_DMA_e_STATUS e) s (s.dmaAbandon e) := DmaStep.refl.updDma.put fun h => h rfl
  have hs : DmaStep (· ∉ [R.HOSTIF_DMA_e_STATUS e, R.HOSTIF_DMA_e_HEAD e, R.HOSTIF_DMA_e_DONE_CNT e]) s (s.dmaAbandon e) :=
    hs0.weaken fun o ho h => ho (by simp [h])
  have hn : (s.dmaAbandon e).num (R.HOSTIF_DMA_e_DONE_CNT e) = s.num (R.HOSTIF_DMA_e_DONE_CNT e) := hs0.2.num (by apply all_fin e; decide +kernel)
  rw [State.dmaAdvanced] at ht
  generalize s.dmaAbandon e = u at *
  have ht' : RegStep (· ∉ [R.HOSTIF_DMA_e_STATUS e, R.HOSTIF_DMA_e_HEAD e, R.HOSTIF_DMA_e_DONE_CNT e]) u t := by
    rw [ht]
    exact ((RegStep.refl.put (by simp [F.HOSTIF_DMA_e_HEAD_IDX])).put (by simp [F.HOSTIF_DMA_e_STATUS_LAST_CODE])).bump (by simp)
  refine ⟨?_, ?_, ?_, by rw [dmaOf_regStep ht', hd], ?_, ?_, hs.regStep ht'⟩
  · rw [ht]
    simp -implicitDefEqProofs (disch := (apply all_fin e; decide +kernel)) [get_put_same _ _ _ h1]
  · rw [ht]
    simp -implicitDefEqProofs (disch := (apply all_fin e; decide +kernel)) [get_put_same _ _ _ h2]
  · rw [ht]
    simp -implicitDefEqProofs (disch := (apply all_fin e; decide +kernel)) [hn]
  · rw [ht]
    simp -implicitDefEqProofs (disch := (apply all_fin e; decide +kernel)) [hb]
  · obtain ⟨⟨a, rfl⟩, -⟩ := ht'
    exact ho

theorem dmaEvent_shows (s : State) (e : Engine8) {bits : Nat} (hb : bits < 4) (t : State) (ht : t = s.dmaEvent e bits) :
    (∀ j, bits.testBit j = true → t.bit (R.HOSTIF_DMA_e_EVENT e) j = true) ∧
      RegStep (· ∉ [R.HOSTIF_DMA_e_EVENT e, R.HOSTIF_MSIX_PBA_w 0, R.HOSTIF_MSIX_PBA_w 1]) s t := by
  have hlt : Nat.lor (s.num (R.HOSTIF_DMA_e_EVENT e)) bits < 2 ^ 32 := Nat.or_lt_two_pow (num_lt s _) (by omega)
  have hn : ∀ j, bits.testBit j = true → (s.putN (R.HOSTIF_DMA_e_EVENT e) (Nat.lor (s.num (R.HOSTIF_DMA_e_EVENT e)) bits)).bit (R.HOSTIF_DMA_e_EVENT e) j = true :=
    fun j hj => by
      rw [State.bit, num_putN_same _ _ _ hlt]
      exact (Nat.testBit_or _ _ _).trans (by simp [hj])
  have hs : RegStep (· ≠ R.HOSTIF_DMA_e_EVENT e) s (s.putN (R.HOSTIF_DMA_e_EVENT e) (Nat.lor (s.num (R.HOSTIF_DMA_e_EVENT e)) bits)) :=
    RegStep.refl.putN fun h => h rfl
  rw [State.dmaEvent] at ht
  generalize s.putN (R.HOSTIF_DMA_e_EVENT e) (Nat.lor (s.num (R.HOSTIF_DMA_e_EVENT e)) bits) = u at *
  have hr : RegStep (· ∉ [R.HOSTIF_MSIX_PBA_w 0, R.HOSTIF_MSIX_PBA_w 1]) u t := by
    rw [ht]
    exact RegStep.when RegStep.refl fun _ => regStep_hostEvent u _
  refine ⟨fun j hj => (hr.2.bit (by apply all_fin e; decide +kernel)).trans (hn j hj),
    (hs.weaken fun o ho h => ho (by simp [h])).trans (hr.weaken fun o ho h => ho (List.mem_cons_of_mem _ h))⟩

/-- A descriptor that ends well. -/
theorem dmaDone_good_shows {s : State} (e : Engine8) {c : DmaDesc} {h : Nat} (hc : (s.dmaOf e).cur = some c) (hm : (s.dmaOf e).moved = true)
    (ha : (s.dmaOf e).acks = []) (hn : (s.dmaOf e).conds = []) (hh : h = s.get (F.HOSTIF_DMA_e_HEAD_IDX e) % 2 ^ (s.dmaOf e).log2)
    (hl : (s.dmaOf e).log2 ≤ 15) (t : State) (ht : t = dmaDone e s) :
    t.host.out = s.host.out ++ [((s.dmaOf e).ring + 32 * h + 0x18, [0, 0, 0, 0x80])] ∧
      t.get (F.HOSTIF_DMA_e_HEAD_IDX e) = (h + 1) % 2 ^ (s.dmaOf e).log2 ∧ t.get (F.HOSTIF_DMA_e_STATUS_LAST_CODE e) = 0 ∧
      t.num (R.HOSTIF_DMA_e_DONE_CNT e) = min satMax (s.num (R.HOSTIF_DMA_e_DONE_CNT e) + 1) ∧
      t.num (R.HOSTIF_DMA_e_ERR_CNT e) = s.num (R.HOSTIF_DMA_e_ERR_CNT e) ∧ (t.dmaOf e).cur = none ∧ t.get (F.HOSTIF_DMA_e_STATUS_BUSY e) = 0 ∧
      (c.flags.testBit 0 = true → t.bit (R.HOSTIF_DMA_e_EVENT e) 0 = true) ∧ t = { s with regs := t.regs, host := t.host } := by
  rw [dmaDone_run hc hm ha, hn, ← hh, List.isEmpty_nil, if_pos rfl, dmaEnded_good] at ht
  have hb : 2 ^ (s.dmaOf e).log2 < 65536 := by
    calc 2 ^ (s.dmaOf e).log2 ≤ 2 ^ 15 := Nat.pow_le_pow_right (by decide) hl
      _ < 65536 := by decide
  have hlt : (h + 1) % 2 ^ (s.dmaOf e).log2 < 65536 := lt_trans (Nat.mod_lt _ (Nat.two_pow_pos _)) hb
  have hk : DmaStep (fun _ => True) s (s.dmaStatusOut e h 0) := DmaStep.refl.withHost _
  have ho : (s.dmaStatusOut e h 0).host.out = s.host.out ++ [((s.dmaOf e).ring + 32 * h + 0x18, [0, 0, 0, 0x80])] := rfl
  generalize s.dmaStatusOut e h 0 = u at *
  obtain ⟨a1, a2, a3, a4, a5, a6, a7⟩ := dmaAdvanced_shows u e hlt (code := 0) (by decide) _ rfl
  generalize u.dmaAdvanced e _ 0 = v at *
  obtain ⟨b1, b2⟩ := dmaEvent_shows v e (bits := b2n (c.flags.testBit 0)) (by cases c.flags.testBit 0 <;> decide) t ht
  have hx : t.host = v.host := by
    obtain ⟨⟨a, rfl⟩, -⟩ := b2
    rfl
  have hg : ∀ f : Fld, f.off ∉ [R.HOSTIF_DMA_e_EVENT e, R.HOSTIF_MSIX_PBA_w 0, R.HOSTIF_MSIX_PBA_w 1] → t.get f = v.get f := fun f hf => b2.2.get hf
  refine ⟨by rw [hx, a6, ho], (hg _ ?_).trans a1, (hg _ ?_).trans a2, ?_, ?_, by rw [dmaOf_regStep b2, a4], (hg _ ?_).trans a5, fun hf => b1 0 (by simp [hf, b2n]), ?_⟩
  · apply all_fin e; decide +kernel
  · apply all_fin e; decide +kernel
  · rw [b2.2.num (by apply all_fin e; decide +kernel), a3, hk.2.num trivial]
  · rw [b2.2.num (by apply all_fin e; decide +kernel), a7.2.num (by apply all_fin e; decide +kernel), hk.2.num trivial]
  · apply all_fin e; decide +kernel
  · obtain ⟨⟨x, y, rfl⟩, -⟩ := hk
    obtain ⟨⟨x', y', rfl⟩, -⟩ := a7
    obtain ⟨⟨x'', rfl⟩, -⟩ := b2
    rfl

theorem dmaFailed_shows (s : State) (e : Engine8) (t : State) (ht : t = s.dmaFailed e) :
    t.num (R.HOSTIF_DMA_e_ERR_CNT e) = min satMax (s.num (R.HOSTIF_DMA_e_ERR_CNT e) + 1) ∧ t.get F.HOSTIF_EVENT_DMA_ERR = 1 ∧
      RegStep (· ∉ [R.HOSTIF_DMA_e_ERR_CNT e, R.HOSTIF_EVENT]) s t := by
  rw [ht, State.dmaFailed]
  refine ⟨?_, get_put_same _ _ _ (by decide), (RegStep.refl.bump (by simp)).put (by simp [F.HOSTIF_EVENT_DMA_ERR])⟩
  simp -implicitDefEqProofs (disch := (apply all_fin e; decide +kernel))

/-- A descriptor that ends with an error. -/
theorem dmaDone_bad_shows {s : State} (e : Engine8) {c : DmaDesc} {a : Nat} {l : List Nat} (hc : (s.dmaOf e).cur = some c)
    (hm : (s.dmaOf e).moved = true) (ha : (s.dmaOf e).acks = []) (hn : (s.dmaOf e).conds = a :: l) (h1 : 1 ≤ a) (h6 : a ≤ 6)
    (hl : ∀ x ∈ l, a ≤ x) (t : State) (ht : t = dmaDone e s) :
    t.get (F.HOSTIF_DMA_e_STATUS_LAST_CODE e) = a ∧ t.num (R.HOSTIF_DMA_e_ERR_CNT e) = min satMax (s.num (R.HOSTIF_DMA_e_ERR_CNT e) + 1) ∧
      t.bit (R.HOSTIF_DMA_e_EVENT e) 1 = true ∧ t.get F.HOSTIF_EVENT_DMA_ERR = 1 ∧
      (s.get (F.HOSTIF_DMA_e_CTRL_HALT_ON_ERR e) = 1 → t.get (F.HOSTIF_DMA_e_CTRL_ENABLE e) = 0) := by
  have hne : (a != 0) = true := by
    rw [bne_iff_ne]
    omega
  rw [dmaDone_run hc hm ha, hn, List.isEmpty_cons, if_neg (by simp), foldl_min_head h6 hl, State.dmaEnded, State.dmaNoted, hne, when_true,
    Bool.true_and] at ht
  generalize s.get (F.HOSTIF_DMA_e_HEAD_IDX e) % 2 ^ (s.dmaOf e).log2 = h at ht
  have hk : DmaStep (fun _ => True) s (s.dmaStatusOut e h a) := DmaStep.refl.withHost _
  generalize s.dmaStatusOut e h a = u at *
  have hh : (F.HOSTIF_DMA_e_STATUS_LAST_CODE e).fits a = true := Fld.fits_of_lt (n := 16) (by simp [F.HOSTIF_DMA_e_STATUS_LAST_CODE]) (by omega)
  generalize (h + 1) % 2 ^ (s.dmaOf e).log2 = head at ht
  have g0 : DmaStep (· ∉ [R.HOSTIF_DMA_e_STATUS e, R.HOSTIF_DMA_e_HEAD e, R.HOSTIF_DMA_e_DONE_CNT e]) u (u.dmaAdvanced e head a) := by
    rw [State.dmaAdvanced, State.dmaAbandon]
    exact (((DmaStep.refl.updDma.put (by simp [F.HOSTIF_DMA_e_STATUS_BUSY])).put (by simp [F.HOSTIF_DMA_e_HEAD_IDX])).put
      (by simp [F.HOSTIF_DMA_e_STATUS_LAST_CODE])).regStep (RegStep.refl.bump (by simp))
  have g1 : (u.dmaAdvanced e head a).get (F.HOSTIF_DMA_e_STATUS_LAST_CODE e) = a := by
    rw [State.dmaAdvanced, get_bump_apart _ _ _ (by apply all_fin e; decide +kernel), get_put_same _ _ _ hh]
  generalize u.dmaAdvanced e head a = v at *
  obtain ⟨k1, k2, k3⟩ := dmaFailed_shows v e _ rfl
  generalize v.dmaFailed e = w at *
  obtain ⟨n1, n2⟩ := dmaEvent_shows w e (bits := b2n (c.flags.testBit 0) + 2 * b2n true) (by cases c.flags.testBit 0 <;> decide) _ rfl
  have n3 := n1 1 (by cases c.flags.testBit 0 <;> decide)
  generalize w.dmaEvent e _ = x at *
  have hr : RegStep (· ∉ [R.HOSTIF_DMA_e_CTRL e]) x t := by
    rw [ht]
    exact RegStep.when RegStep.refl fun h => h.put (by simp [F.HOSTIF_DMA_e_CTRL_ENABLE])
  have hx : x.get (F.HOSTIF_DMA_e_CTRL_HALT_ON_ERR e) = s.get (F.HOSTIF_DMA_e_CTRL_HALT_ON_ERR e) := by
    rw [n2.2.get (by apply all_fin e; decide +kernel), k3.2.get (by apply all_fin e; decide +kernel), g0.2.get (by apply all_fin e; decide +kernel),
      hk.2.get trivial]
  refine ⟨?_, ?_, ?_, ?_, fun hs => ?_⟩
  · rw [hr.2.get (by apply all_fin e; decide +kernel), n2.2.get (by apply all_fin e; decide +kernel), k3.2.get (by apply all_fin e; decide +kernel), g1]
  · rw [hr.2.num (by apply all_fin e; decide +kernel), n2.2.num (by apply all_fin e; decide +kernel), k1, g0.2.num (by apply all_fin e; decide +kernel),
      hk.2.num trivial]
  · rw [hr.2.bit (by apply all_fin e; decide +kernel), n3]
  · rw [hr.2.get (by apply all_fin e; decide +kernel), n2.2.get (by apply all_fin e; decide +kernel), k2]
  · have hi : x.is (F.HOSTIF_DMA_e_CTRL_HALT_ON_ERR e) = true := by
      rw [is_eq, hx, hs]
      rfl
    rw [ht, hi, when_true, get_put_same _ _ _ (by apply all_fin e; decide +kernel)]

/-- Settles O40: what a descriptor moves in the shared memory is `memWrite_sram` and `memRead_sram`, and a descriptor ends with its
status, its code and its event (`dmaDone_run`). -/
theorem dmaEngines : Obligations.DmaEngines := by
  refine ⟨?_, ?_, ?_, ?_, ?_, ?_, ?_, ?_, ?_, ?_, ?_, ?_, ?_, ?_, ?_⟩
  · intro s e v h0 h1 h
    exact completes_intro rfl fun t ht => dmaEnableWrite_shows e h h0 h1 t ht
  · intro s e
    refine completes_intro rfl fun t ht => ?_
    obtain ⟨h1, h2, h3, h4, h5, h6⟩ := dmaAbort_shows s e t ht
    have hw : DmaStep (· ∉ [R.HOSTIF_DMA_e_CTRL e, R.HOSTIF_DMA_e_STATUS e]) s t := h6.weaken fun o ho => by simpa using ho
    exact ⟨h1, h2, h3, h4, h5, hw.2.get (by apply all_fin e; decide +kernel), hw.2, hw.others⟩
  · intro s e v h
    obtain ⟨h1, h2, h3, h4, h5, -⟩ := dmaAbort_shows (s.plainWrite (R.HOSTIF_DMA_e_CTRL e) v) e _ rfl
    exact completes_of_eq rfl (dmaEnableWrite_abort e s h) ⟨h1, h2, h3, h4, h5⟩
  · intro s e v
    have hf : findRow (R.HOSTIF_DMA_e_TAIL e) = some ⟨0x440100c, [(8, 0x100)], [fA 15 0 .rw 0]⟩ := by apply all_fin e; decide +kernel
    refine completes_of_eq rfl (plainWrite_field s v hf) ?_
    have hr : RegStep (· ∉ [R.HOSTIF_DMA_e_TAIL e]) s (s.put ⟨R.HOSTIF_DMA_e_TAIL e, 15, 0⟩ (bitsOf v 15 0)) := RegStep.refl.put (by simp)
    exact ⟨get_put_same _ _ _ (Fld.fits_of_lt (n := 65536) (by simp) (bitsOf_lt v 15 0)), hr.2, hr.others⟩
  · intro s e l h1 h2 h3 h4 hb
    have e1 := dmaFetch_ok h1 h2 h3 h4
    rw [hb] at e1
    obtain ⟨k1, k2, k3, k4, k5⟩ := dmaLoaded_shows s.dmaFetched e (descOf l s.host.fetches) false [] _ rfl
    refine completes_of_eq rfl e1 ⟨k1, k2, k3, k4, (RegsIf.refl.of_regs rfl).trans k5.2, ?_⟩
    obtain ⟨⟨a, x, hx⟩, -⟩ := k5
    rw [if_neg (by decide), hx] <;> rfl
  · intro s e l h1 h2 h3 h4 hb
    have e1 := dmaFetch_ok h1 h2 h3 h4
    rw [hb, if_pos rfl] at e1
    obtain ⟨-, k2, k3, k4, k5⟩ := dmaLoaded_shows s.dmaFetched e (descOf l s.host.fetches) true [dcBadDesc] _ rfl
    exact completes_of_eq rfl e1 ⟨k2, k3, k4, (RegsIf.refl.of_regs rfl).trans k5.2⟩
  · intro s e l h1 h2 h3 h4
    obtain ⟨c1, c2, -⟩ := cplErr_shows s.dmaFetched _ rfl
    have e1 := dmaFetch_failed h1 h2 h3 h4
    generalize s.dmaFetched.cplErr = u at *
    obtain ⟨-, k2, k3, k4, k5⟩ := dmaLoaded_shows u e (descOf l s.host.fetches) true [dcHostErr] _ rfl
    refine completes_of_eq rfl e1 ⟨k2, k3, (k5.2.num ?_).trans c1, (k5.2.get ?_).trans c2, k4⟩
    · apply all_fin e; decide +kernel
    · apply all_fin e; decide +kernel
  · intro s e c d h h1 h2 hl
    obtain ⟨u, hu, hs, hm, hd⟩ := memWrite_sram (.dma e) c.dev d s h1 (by rw [hl]; exact h2)
    have e1 : dmaH2d e d true s = u.dmaMoved e [] [] := by
      rw [dmaH2d, dmaHostData_ok (op := dmaOpH2d) h hl, hu]
      rfl
    obtain ⟨k1, k2, k3, k4, x, hx⟩ := dmaMoved_shows u e [] [] _ rfl
    obtain ⟨m, y, rfl⟩ := hs
    rw [hx] at e1 k1 k2 k3 k4
    exact completes_of_eq rfl e1 ⟨k1, k2.trans (List.append_nil _), k3, k4.trans (dmaStart_cur h), hd, hl ▸ hm, rfl⟩
  · intro s e c d h
    obtain ⟨c1, -, ⟨a, ha⟩, -⟩ := cplErr_shows s _ rfl
    obtain ⟨k1, k2, -, -, x, hx⟩ := dmaMoved_shows s.cplErr e [dcHostErr] [] _ rfl
    refine completes_of_eq rfl (dmaHostData_failed (op := dmaOpH2d) d h _) ⟨k1, k2.trans ?_, ?_, ?_⟩
    · rw [dmaOf_host (s := s) (by rw [ha])] <;> rfl
    · rw [hx]
      exact c1
    · rw [hx, ha]
  · intro s e c ce ue h h1 h2 h3 h0
    obtain ⟨m, hm⟩ := memRead_sram (.dma e) c.dev c.len ce ue s h1 h2 h0 h3
    obtain ⟨k1, k2, k3, k4, x, hx⟩ := dmaMoved_shows (({ s with memc := m } : State).hostOut [(c.host, s.rdBytes c.dev c.len)]) e [] [] _ rfl
    refine completes_of_eq rfl (dmaD2h_run h hm) ⟨k1, k2.trans (List.append_nil _), k3, k4.trans (dmaStart_cur h), ?_, ?_⟩
    · rfl
    · rfl
  · intro s e c d h hn h0 h1 h2 hl
    obtain ⟨u, hu, hs, hm, hd⟩ := memWrite_sram (.dma e) c.dev d s h1 (by rw [hl]; exact h2)
    have hr : RegStep (· ∉ [R.ULT_BULK_DROP]) u (u.addSat R.ULT_BULK_DROP 0) := RegStep.refl.addSat (by simp)
    have hn' : (u.addSat R.ULT_BULK_DROP 0).num R.ULT_BULK_DROP = min satMax (u.num R.ULT_BULK_DROP) := num_addSat u _ 0
    have e1 := dmaBcast_run h hl h0 hn hu
    rw [sendAll_eq] at e1
    obtain ⟨m, y, rfl⟩ := hs
    generalize State.addSat _ R.ULT_BULK_DROP 0 = v at *
    have ht : RegsIf IsTree s v := (RegsIf.refl.of_regs rfl).trans fun o ho => hr.2 o fun e => by
      simp only [List.mem_cons, List.not_mem_nil, or_false] at e
      subst e
      obtain h | h | ⟨k, hk, h | h⟩ := ho
      all_goals
        simp only [R.ULT_BULK_DROP, R.ULT_STATUS, R.ULT_ROUTE_EN, R.ULT_ROUTE_k, R.ULT_Pk_STATUS] at h
        omega
    rw [bcastPorts_congr ht, bulkMsg_congr ht] at e1
    obtain ⟨k1, k2, k3, k4, x, hx⟩ := dmaMoved_shows (v.withSent (s.bcastPorts.map fun k => (k, s.bulkMsg true 0 c.dev d))) e [] [] _ rfl
    obtain ⟨⟨a, rfl⟩, -⟩ := hr
    rw [hx] at e1 k1 k2 k3 k4
    exact completes_of_eq rfl e1 ⟨k1, k2.trans (List.append_nil _), k3, k4.trans (dmaStart_cur h), hd, hl ▸ hm, rfl, hn'⟩
  · intro s e c d k h hn h0 hl hr hk
    refine completes_of_eq rfl (dmaRemote_run h hl h0 hn hr hk) ?_
    obtain ⟨k1, k2, k3, k4, x, hx⟩ := dmaMoved_shows (s.withSent [(k.val, s.bulkMsg false c.dest c.dev d)]) e [] [c.dev] _ rfl
    rw [hx] at k1 k3 ⊢
    exact ⟨k1, k3, rfl, rfl⟩
  · intro s e h
    refine congrArg Host.Outcome.next (if_neg ?_)
    simpa using h
  · intro s e c h hc hm ha hn hh hl
    exact completes_intro rfl fun t ht => dmaDone_good_shows e hc hm ha hn hh hl t ht
  · intro s e c a l hc hm ha hn h1 h6 hl
    exact completes_intro rfl fun t ht => dmaDone_bad_shows e hc hm ha hn h1 h6 hl t ht

end Sys2Proof.Machine
end

section
-- One proof at a time: the whole text then stays within the memory the check allows.
set_option Elab.async false
/-! PROOFS. O29: transit barriers. -/

namespace Sys2Proof.Machine
open State

/-! ### Sites and their messages -/

section
variable (s : State) (n : Nat) (f : SiteSt → SiteSt) (o : Nat)

theorem siteOf_updSite : (s.updSite n f).siteOf n = f (s.siteOf n) := by
  rw [State.siteOf, State.updSite, Tab.get_set_same]

theorem siteOf_updSite_ne {m : Nat} (h : m ≠ n) : (s.updSite n f).siteOf m = s.siteOf m := by
  rw [State.siteOf, State.updSite, Tab.get_set_ne _ _ _ _ _ _ h, State.siteOf]

@[simp] theorem get_updSite (g : Fld) : (s.updSite n f).get g = s.get g := rfl
@[simp] theorem num_updSite : (s.updSite n f).num o = s.num o := rfl
@[simp] theorem word_updSite : (s.updSite n f).word o = s.word o := rfl
@[simp] theorem bit_updSite (i : Nat) : (s.updSite n f).bit o i = s.bit o i := rfl
@[simp] theorem siteState_updSite (m : Nat) : (s.updSite n f).siteState m = s.siteState m := rfl
@[simp] theorem tbVal_updSite (i : Nat) : (s.updSite n f).tbVal i = s.tbVal i := rfl
@[simp] theorem playOf_updSite (m : Nat) : (s.updSite n f).playOf m = s.playOf m := rfl
end

theorem siteOf_congr {s t : State} (h : t.site = s.site) (n : Nat) : t.siteOf n = s.siteOf n := by
  rw [State.siteOf, h, State.siteOf]

/-- A message that is passed on changes nothing here. -/
theorem passOn_others (s : State) (k ttl : Nat) (m : Msg) : ∃ u, s.passOn k ttl m = { s with ult := u } := by
  rw [State.passOn]
  split
  · exact ⟨s.ult, rfl⟩
  · exact ⟨_, sendAll_eq _ _ _⟩

/-- The site of the span on this chip takes the message. -/
theorem spanIn_run {s : State} {sp n : Nat} (h : s.spanSite sp = some n) (k ttl src typ : Nat) (blocks : List Nat) (f : Nat → State → State) :
    ∃ u, s.spanIn k ttl sp src typ blocks f = f n { s with ult := u } := by
  obtain ⟨u, hu⟩ := passOn_others s k ttl { cls := clsTransit, mcast := true, dest := sp, src := src, ttl := ttl, typ := typ, blocks := blocks }
  have hs : ({ s with ult := u } : State).spanSite sp = some n := h
  refine ⟨u, ?_⟩
  rw [State.spanIn, hu, hs]

theorem unicastIn_here {s : State} {m : Msg} (h : s.route m.dest = .here) (f : State → State) : s.unicastIn m f = f s := by
  rw [State.unicastIn, h]

/-! ### Arrivals -/

theorem arriveIn_run {s : State} {dest src sp idx n : Nat} (hr : s.route dest = .here) (hs : s.spanSite sp = some n) (h1 : (s.siteOf n).role = 1) :
    arriveIn dest src sp idx s = (s.hear n idx).arrival n idx := by
  rw [arriveIn, unicastIn_here hr, hs]
  exact if_pos h1

theorem arrival_waits {s : State} {n idx : Nat} (h : (s.siteOf n).arrivals.contains idx = false) (hl : (s.siteOf n).arrivals.length + 1 < (s.siteOf n).chips) :
    s.arrival n idx = s.updSite n (fun x => { x with arrivals := if x.arrivals.contains idx then x.arrivals else x.arrivals ++ [idx] }) := by
  rw [State.arrival]
  refine if_neg ?_
  rw [siteOf_updSite]
  simp only [h, Bool.false_eq_true, if_false, List.length_append, List.length_singleton]
  omega

/-! ### Releases -/

theorem release_inTime {s : State} {n g : Nat} (h : s.tbVal 0 + 100 ≤ g) : s.release n g = s.updSite n (fun x => { x with trel := some g }) := by
  rw [State.release]
  exact if_neg (by omega)

theorem release_late {s : State} {n g : Nat} (h : g < s.tbVal 0 + 100) : s.release n g =
    ((s.invalidate n causeSlip).put (F.SITE_n_EVENT_TRANSIT_LATE n) 1).updSite n (fun x => { x with trel := some (ceilTo 10 (s.tbVal 0 + 100)) }) := by
  rw [State.release]
  exact if_pos h

theorem releaseIn_run {s : State} {sp n tm t0 : Nat} (hs : s.spanSite sp = some n) (hw : (s.playOf n).wait = .trStop 0 tm t0)
    (ha : (s.siteOf n).arrived = true) (k ttl src g : Nat) :
    ∃ u, releaseIn k ttl sp src g s = (({ s with ult := u } : State).hear n 0).release n g := by
  obtain ⟨u, hu⟩ := spanIn_run hs k ttl src 6 [sp * 2 ^ 48, g] (fun n s =>
    let s := s.hear n 0
    match (s.playOf n).wait with
    | .trStop 0 _ _ => if (s.siteOf n).arrived then s.release n g else s
    | _ => s)
  have hw' : ((({ s with ult := u } : State).hear n 0).playOf n).wait = .trStop 0 tm t0 := hw
  have ha' : ((({ s with ult := u } : State).hear n 0).siteOf n).arrived = true := by
    rw [State.hear, siteOf_updSite]
    exact ha
  refine ⟨u, ?_⟩
  rw [releaseIn]
  refine hu.trans ?_
  dsimp only
  rw [hw']
  exact if_pos ha'

/-- A run that is spoilt for being late. -/
theorem lateRun_shows (s : State) (n : Site) (t : State) (ht : t = (s.invalidate n causeSlip).put (F.SITE_n_EVENT_TRANSIT_LATE n) 1) :
    t.get (F.SITE_n_EVENT_TRANSIT_LATE n) = 1 ∧ t.bit (R.FAIL_SITE_n_RESULT n) 19 = true ∧ t.bit (R.FAIL_SITE_n_RESULT n) 31 = false ∧
      RegStep (· ∉ [R.FAIL_SITE_n_RESULT n, R.SITE_n_EVENT n]) s t := by
  rw [ht, State.invalidate, causeSlip]
  refine ⟨?_, ?_, ?_, ?_⟩
  · simp -implicitDefEqProofs (disch := (apply all_fin n; decide +kernel))
  · simp -implicitDefEqProofs (disch := (apply all_fin n; decide +kernel))
  · simp -implicitDefEqProofs (disch := (apply all_fin n; decide +kernel))
  · refine (((RegStep.refl.putBit ?_).putBit ?_).putBit ?_).put ?_
    all_goals simp [F.SITE_n_EVENT_TRANSIT_LATE]

/-! ### Releases of a domain -/

/-- What a release of a domain does to one site. -/
def State.dtTake (s : State) (t m : Nat) : State :=
  match (s.playOf m).wait with
  | .trStop 1 _ _ => if (s.siteOf m).arrived then s.release m t else s
  | _ => s

theorem dtRelease_eq (s : State) (t : Nat) : s.dtRelease t = s.each siteNums (fun u m => u.dtTake t m) := rfl

theorem dtTake_others {s : State} {g : Nat} (h : s.tbVal 0 + 100 ≤ g) (m : Nat) :
    (∃ y, s.dtTake g m = { s with site := y }) ∧ ∀ n, n ≠ m → (s.dtTake g m).siteOf n = s.siteOf n := by
  have hu : (∃ y, s.release m g = { s with site := y }) ∧ ∀ n, n ≠ m → (s.release m g).siteOf n = s.siteOf n := by
    rw [release_inTime h]
    exact ⟨⟨_, rfl⟩, fun n hn => siteOf_updSite_ne _ _ _ hn⟩
  have hs : (∃ y, s = { s with site := y }) ∧ ∀ n, n ≠ m → s.siteOf n = s.siteOf n := ⟨⟨s.site, rfl⟩, fun _ _ => rfl⟩
  rw [State.dtTake]
  split
  · split
    · exact hu
    · exact hs
  · exact hs

theorem dtTake_waits {s : State} {g n tm t0 : Nat} (h : s.tbVal 0 + 100 ≤ g) (hw : (s.playOf n).wait = .trStop 1 tm t0) (ha : (s.siteOf n).arrived = true) :
    ((s.dtTake g n).siteOf n).trel = some g := by
  have e : s.dtTake g n = s.release n g := by
    rw [State.dtTake, hw]
    exact if_pos ha
  rw [e, release_inTime h, siteOf_updSite]

theorem dtTakes_others {s : State} {g : Nat} (h : s.tbVal 0 + 100 ≤ g) (l : List Nat) :
    (∃ y, s.each l (fun u m => u.dtTake g m) = { s with site := y }) ∧
      ∀ n, n ∉ l → (s.each l (fun u m => u.dtTake g m)).siteOf n = s.siteOf n := by
  induction l generalizing s with
  | nil => exact ⟨⟨s.site, rfl⟩, fun _ _ => rfl⟩
  | cons m ms ih =>
    obtain ⟨⟨y, hy⟩, h1⟩ := dtTake_others h m
    have ht : (s.dtTake g m).tbVal 0 = s.tbVal 0 := by rw [hy] <;> rfl
    obtain ⟨⟨z, hz⟩, h2⟩ := ih (s := s.dtTake g m) (by rw [ht]; exact h)
    rw [each_cons]
    refine ⟨⟨z, by rw [hz, hy]⟩, fun n hn => ?_⟩
    rw [h2 n fun hm => hn (List.mem_cons_of_mem _ hm), h1 n fun e => hn (by simp [e])]

theorem dtRelease_shows {s : State} {g : Nat} (n : Site) {tm t0 : Nat} (h : s.tbVal 0 + 100 ≤ g) (hw : (s.playOf n).wait = .trStop 1 tm t0)
    (ha : (s.siteOf n).arrived = true) : (∃ y, s.dtRelease g = { s with site := y }) ∧ ((s.dtRelease g).siteOf n).trel = some g := by
  have hm : n.val ∈ siteNums := List.mem_range.2 n.isLt
  have hd : siteNums.Nodup := List.nodup_range
  rw [dtRelease_eq]
  refine ⟨(dtTakes_others h siteNums).1, ?_⟩
  obtain ⟨a, b, hab⟩ := List.append_of_mem hm
  rw [hab] at hd ⊢
  obtain ⟨-, h2, h3⟩ := List.nodup_append.1 hd
  obtain ⟨⟨y, hy⟩, k1⟩ := dtTakes_others h a
  have hn := k1 n fun hx => h3 _ hx _ List.mem_cons_self rfl
  rw [each_append, each_cons]
  generalize s.each a (fun u m => u.dtTake g m) = u at *
  have hu : u.tbVal 0 + 100 ≤ g ∧ (u.playOf n).wait = .trStop 1 tm t0 := by
    rw [hy]
    exact ⟨h, hw⟩
  have k2 := dtTake_waits hu.1 hu.2 (by rw [hn]; exact ha)
  obtain ⟨⟨z, hz⟩, -⟩ := dtTake_others hu.1 n
  have ht : (u.dtTake g n).tbVal 0 + 100 ≤ g := by
    rw [hz]
    exact hu.1
  rw [(dtTakes_others ht b).2 n (List.nodup_cons.1 h2).1, k2]

/-! ### The release takes effect -/

theorem setSiteState_shows (s : State) (n : Site) {st : Nat} (hst : st < 8) (t : State) (ht : t = s.setSiteState n st) :
    t.siteState n = st ∧ RegStep (· ∉ [R.SITE_n_STATUS n, R.SEQ_CTX_n_STATE n]) s t := by
  have hf : (F.SITE_n_STATUS_STATE n).fits st = true := Fld.fits_of_lt (n := 8) (by simp [F.SITE_n_STATUS_STATE]) hst
  rw [ht, State.setSiteState, State.siteState]
  refine ⟨?_, (RegStep.refl.put ?_).put ?_⟩
  · rw [get_put_apart _ _ _ _ (by apply all_fin n; decide +kernel), get_put_same _ _ _ hf]
  · simp [F.SITE_n_STATUS_STATE]
  · simp [F.SEQ_CTX_n_STATE_STATE]

theorem transitResume_run {s : State} {n g : Nat} (h : (s.siteOf n).trel = some g) (hs : s.siteState n = 4) : transitResume n s =
    ((s.putPair (R.SITE_n_T0_LO n) g).updSite n (fun x => { x with trel := none, arrived := false })).resumePlay n := by
  rw [transitResume, h]
  exact if_pos hs

theorem playOf_updPlay (s : State) (n : Nat) (f : Play → Play) : (s.updPlay n f).playOf n = f (s.playOf n) := by
  rw [State.playOf, State.updPlay, seqOf_updSeq] <;> rfl

theorem playOf_regStep {P : Nat → Prop} {s t : State} (h : RegStep P s t) (n : Nat) : t.playOf n = s.playOf n := by
  obtain ⟨⟨a, rfl⟩, -⟩ := h
  rfl

theorem siteOf_regStep {P : Nat → Prop} {s t : State} (h : RegStep P s t) (n : Nat) : t.siteOf n = s.siteOf n := by
  obtain ⟨⟨a, rfl⟩, -⟩ := h
  rfl

theorem resumePlay_shows (s : State) (n : Site) (t : State) (ht : t = s.resumePlay n) : t.siteState n = 3 ∧ (t.playOf n).wait = .none ∧
    (t.playOf n).origin = 32000 * s.now ∧ t.site = s.site ∧ RegsIf (· ∉ [R.SITE_n_STATUS n, R.SEQ_CTX_n_STATE n]) s t ∧
    ∃ a x, t = { s with regs := a, seq := x } := by
  obtain ⟨h1, h2⟩ := setSiteState_shows s n (st := stRunning) (by decide) _ rfl
  rw [State.resumePlay] at ht
  generalize s.setSiteState n stRunning = u at *
  have hp : (t.playOf n).wait = .none ∧ (t.playOf n).origin = 32000 * s.now := by
    rw [ht, State.newOrigin, playOf_updPlay, playOf_updPlay]
    exact ⟨rfl, rfl⟩
  have hx : ∃ x, t = { u with seq := x } := ⟨_, ht⟩
  obtain ⟨⟨a, rfl⟩, hr⟩ := h2
  obtain ⟨x, rfl⟩ := hx
  exact ⟨h1, hp.1, hp.2, rfl, hr.trans (RegsIf.refl.of_regs rfl), a, x, rfl⟩

/-- Settles O29: a message reaches the site of its span (`spanIn_run`), a release of a domain reaches every waiting site
(`dtRelease_shows`), and a timeout is a halt. -/
theorem transitBarriers : Obligations.TransitBarriers := by
  refine ⟨?_, ?_, ?_, ?_, ?_, ?_, ?_, ?_⟩
  · intro s n dest src sp idx hr hs h1 hc hl
    have hn : (s.hear n idx).siteOf n = { s.siteOf n with heard := Tab.ins idx s.now (s.siteOf n).heard } := siteOf_updSite _ _ _
    have e := (arriveIn_run (idx := idx) (src := src) hr hs h1).trans (arrival_waits (by rw [hn]; exact hc) (by rw [hn]; exact hl))
    refine completes_of_eq rfl e ⟨?_, ?_, rfl⟩
    · rw [siteOf_updSite, hn]
      dsimp only
      rw [hc, if_neg (by decide)]
    · rw [siteOf_updSite, hn]
  · intro s n k ttl sp src g tm t0 hs hw ha hg
    obtain ⟨u, hu⟩ := releaseIn_run hs hw ha k ttl src g
    rw [release_inTime (by rw [State.hear, tbVal_updSite]; exact hg)] at hu
    exact completes_of_eq rfl hu ⟨by rw [siteOf_updSite], rfl⟩
  · intro s n k ttl sp src g tm t0 hs hw ha hg
    obtain ⟨u, hu⟩ := releaseIn_run hs hw ha k ttl src g
    have ht : (({ s with ult := u } : State).hear n 0).tbVal 0 = s.tbVal 0 := by
      rw [State.hear, tbVal_updSite] <;> rfl
    rw [release_late (by rw [ht]; exact hg), ht] at hu
    have hx : ∃ y, ({ s with ult := u } : State).hear n 0 = { s with site := y, ult := u } := ⟨_, rfl⟩
    generalize ({ s with ult := u } : State).hear n 0 = v at *
    obtain ⟨h1, h2, h3, h4⟩ := lateRun_shows v n _ rfl
    generalize (v.invalidate n causeSlip).put (F.SITE_n_EVENT_TRANSIT_LATE n) 1 = w at *
    obtain ⟨y, rfl⟩ := hx
    obtain ⟨⟨a, rfl⟩, hr⟩ := h4
    exact completes_of_eq rfl hu ⟨by rw [siteOf_updSite], h1, h2, h3, (RegsIf.refl.of_regs rfl).trans (hr.trans (RegsIf.refl.of_regs rfl)), rfl⟩
  · intro s src m h hl
    refine congrArg Host.Outcome.next ((if_pos h).trans ?_)
    rw [State.dtArrival]
    exact if_neg (by omega)
  · intro s src m u h hu ht
    have e : dtArriveIn src m s = s.withSent [(u, { cls := clsTransit, mcast := false, dest := 0, src := src, ttl := 0, typ := 7, blocks := [m.val] })] := by
      rw [dtArriveIn, h, hu]
      exact (if_neg (by simp)).trans (if_neg (by simp [is_eq, ht]))
    exact completes_of_eq rfl e ⟨rfl, rfl⟩
  · intro s n src g tm t0 hw ha hg
    have hu : ∃ u, dtReleaseIn src g s = ({ s with ult := u } : State).dtRelease g := by
      rw [dtReleaseIn]
      split
      · exact ⟨s.ult, rfl⟩
      · exact ⟨_, by rw [sendAll_eq] <;> rfl⟩
    obtain ⟨u, hu⟩ := hu
    obtain ⟨⟨y, hy⟩, h2⟩ := dtRelease_shows (s := { s with ult := u }) n hg hw ha
    refine completes_of_eq rfl hu ⟨h2, ?_, ?_⟩
    · rw [hy]
    · rw [hy] <;> rfl
  · intro s n g h hs
    have hp : (s.putPair (R.SITE_n_T0_LO n) g).pair (R.SITE_n_T0_LO n) = g % 2 ^ 64 := pair_putPair_mod _ _ _
    have hx : RegStep (fun _ => False) s (s.putPair (R.SITE_n_T0_LO n) g) := RegStep.refl.putPair (by simp) (by simp)
    have e := transitResume_run h hs
    generalize s.putPair (R.SITE_n_T0_LO n) g = u at *
    have hq : ((u.updSite n (fun x => { x with trel := none, arrived := false })).siteOf n).trel = none ∧
        ((u.updSite n (fun x => { x with trel := none, arrived := false })).siteOf n).arrived = false := by
      rw [siteOf_updSite]
      exact ⟨rfl, rfl⟩
    have hy : ∃ y, u.updSite n (fun x => { x with trel := none, arrived := false }) = { u with site := y } := ⟨_, rfl⟩
    generalize u.updSite n (fun x => { x with trel := none, arrived := false }) = w at *
    obtain ⟨h1, h2, h3, h4, h5, a, x, hax⟩ := resumePlay_shows w n _ rfl
    generalize w.resumePlay n = t at *
    have hw : t.pair (R.SITE_n_T0_LO n) = w.pair (R.SITE_n_T0_LO n) := by
      rw [State.pair, h5.num (by apply all_fin n; decide +kernel), h5.num (by apply all_fin n; decide +kernel), State.pair]
    have hst := siteOf_congr h4 n
    obtain ⟨⟨b, rfl⟩, -⟩ := hx
    obtain ⟨y, rfl⟩ := hy
    exact completes_of_eq rfl e ⟨h1, hw.trans hp, by rw [hst, hq.1], by rw [hst, hq.2], h2, h3, by rw [hax]⟩
  · intro s n sc tm t0 hw hs
    have e : transitTimeout n s = s.haltSite n hcTransit (s.playOf n).trAt false := by
      rw [transitTimeout, hw]
      exact if_pos hs
    obtain ⟨h1, h2, h3, -, h5, -⟩ := haltSite_shows s n (code := hcTransit) (by decide) (s.playOf n).trAt false _ rfl
    exact completes_of_eq rfl e ⟨h1, h3, h2, h5⟩

end Sys2Proof.Machine
end

section
-- One proof at a time: the whole text then stays within the memory the check allows.
set_option Elab.async false
/-! PROOFS. O31: the enumeration of chip IDs and register accesses over Ulten. -/

namespace Sys2Proof.Machine
open State

/-! ### Enumeration -/

section
variable (s : State) (k : Nat) (f : UPort → UPort)

theorem portOf_updPort : (s.updPort k f).portOf k = f (s.portOf k) := by
  rw [State.portOf, State.updPort, Tab.get_set_same]

end

theorem enumPorts_nil {s : State} (h : s.downPorts = []) : s.enumPorts = [] := by
  rw [State.enumPorts, h, ite_self]

/-- The registers in which a chip shows its ID. -/
def idRegs : List Nat := [R.ULT_STATUS, R.GLB_CHIP_ID, R.ULT_EVENT, R.ULT_ROUTE_EN]

/-- A chip without down-ports takes its ID and gives none. -/
theorem assignIds_leaf {s : State} (h : s.downPorts = []) (b : Nat) : s.assignIds b = (s.takeId b).putN R.ULT_ROUTE_EN 0 := by
  rw [State.assignIds, enumPorts_nil h]
  rfl

theorem takenId_shows (s : State) {b : Nat} (hb : b < 2 ^ 16) (t : State) (ht : t = (s.takeId b).putN R.ULT_ROUTE_EN 0) :
    t.get F.ULT_STATUS_CHIP_ID = b ∧ t.get F.ULT_STATUS_ID_VALID = 1 ∧ t.get F.GLB_CHIP_ID_CHIP_ID = b ∧ t.get F.GLB_CHIP_ID_VALID = 1 ∧
      t.get F.ULT_EVENT_ENUM_DONE = 1 ∧ t.num R.ULT_ROUTE_EN = 0 ∧ RegStep (· ∉ idRegs) s t := by
  have h1 : F.ULT_STATUS_CHIP_ID.fits b = true := Fld.fits_of_lt (n := 2 ^ 16) (by simp [F.ULT_STATUS_CHIP_ID]) hb
  have h2 : F.GLB_CHIP_ID_CHIP_ID.fits b = true := Fld.fits_of_lt (n := 2 ^ 16) (by simp [F.GLB_CHIP_ID_CHIP_ID]) hb
  have g1 := fun u : State => get_put_same u _ _ h1
  have g2 := fun u : State => get_put_same u _ _ h2
  rw [ht, State.takeId]
  refine ⟨?_, ?_, ?_, ?_, ?_, num_putN_same _ _ _ (by decide), ?_⟩
  · simp -implicitDefEqProofs (disch := decide) only [get_putN_apart, get_put_apart, g1]
  · simp -implicitDefEqProofs (disch := decide) only [get_putN_apart, get_put_apart, get_put_same]
  · simp -implicitDefEqProofs (disch := decide) only [get_putN_apart, get_put_apart, g2]
  · simp -implicitDefEqProofs (disch := decide) only [get_putN_apart, get_put_apart, get_put_same]
  · simp -implicitDefEqProofs (disch := decide) only [get_putN_apart, get_put_apart, get_put_same]
  · refine (((((RegStep.refl.put ?_).put ?_).put ?_).put ?_).put ?_).putN ?_
    all_goals decide

/-- `s` with other fabric state. -/
def State.withUlt (s : State) (u : UltState) : State := { s with ult := u }

theorem enumStart_leaf {s : State} (hr : s.isRoot = true) (ha : s.autoId = true) (hd : s.downPorts = []) :
    ∃ u, s.enumStart = ((s.withUlt u).takeId 0).putN R.ULT_ROUTE_EN 0 := by
  have h1 : s.enumStart = (s.withUlt { s.ult with enumBusy := true }).enumTry := if_pos ⟨hr, ha⟩
  have h2 : (s.withUlt { s.ult with enumBusy := true }).subtrees = some [] := by
    rw [State.subtrees, enumPorts_nil (s := s.withUlt { s.ult with enumBusy := true }) hd]
    rfl
  refine ⟨{ s.ult with enumBusy := false }, ?_⟩
  rw [h1, State.enumTry, h2]
  refine (if_pos ⟨rfl, rfl⟩).trans ?_
  exact assignIds_leaf (s := s.withUlt { s.ult with enumBusy := false }) hd 0

theorem enumStart_shows {s : State} (hr : s.isRoot = true) (ha : s.autoId = true) (hd : s.downPorts = []) (t : State) (ht : t = s.enumStart) :
    t.get F.ULT_STATUS_CHIP_ID = 0 ∧ t.get F.ULT_STATUS_ID_VALID = 1 ∧ t.get F.GLB_CHIP_ID_CHIP_ID = 0 ∧ t.get F.GLB_CHIP_ID_VALID = 1 ∧
      t.get F.ULT_EVENT_ENUM_DONE = 1 ∧ RegsBut idRegs s t ∧ t = { s with regs := t.regs, ult := t.ult } := by
  obtain ⟨u, hu⟩ := enumStart_leaf hr ha hd
  rw [hu] at ht
  obtain ⟨h1, h2, h3, h4, h5, -, ⟨a, h6⟩, hr⟩ := takenId_shows (s.withUlt u) (b := 0) (by decide) t ht
  exact ⟨h1, h2, h3, h4, h5, (RegsIf.refl.of_regs rfl).trans hr, by rw [h6] <;> rfl⟩

/-! ### Remote accesses -/

/-- A remote access is outstanding. -/
def State.rmtAsked (s : State) (wr : Bool) (k : Nat) : State :=
  (s.withUlt { s.ult with tag := s.ult.tag % 256 + 1, mgmt := some { tag := s.ult.tag % 256, dest := s.get F.ULT_RMT_ID_ID, wr := wr, port := k } }).put
    F.ULT_RMT_STATUS_BUSY 1

/-- The request of a remote access. -/
def State.rmtMsg (s : State) (wr : Bool) : Msg :=
  s.mgmtMsg (s.get F.ULT_RMT_ID_ID) (if wr then 3 else 1)
    (if wr then [mgmtHead (s.ult.tag % 256) (s.get F.ULT_RMT_ADDR_OFF), s.num R.ULT_RMT_DATA] else [mgmtHead (s.ult.tag % 256) (s.get F.ULT_RMT_ADDR_OFF)])

theorem rmtCmd_port {s : State} {k : Nat} (wr : Bool) (hb : s.get F.ULT_RMT_STATUS_BUSY = 0) (hr : s.route (s.get F.ULT_RMT_ID_ID) = .port k)
    (hk : k < 4) (hl : s.portLive k = true) : rmtCmd wr s = (s.rmtAsked wr k).withSent [(k, s.rmtMsg wr)] := by
  have hp : (s.rmtAsked wr k).portLive k = true := by
    have h : RegsIf IsTree s (s.rmtAsked wr k) := RegsIf.put (RegsIf.refl.of_regs rfl) (by
      rintro (h | h | ⟨j, hj, h | h⟩)
      all_goals
        simp only [F.ULT_RMT_STATUS_BUSY, R.ULT_RMT_STATUS, R.ULT_STATUS, R.ULT_ROUTE_EN, R.ULT_ROUTE_k, R.ULT_Pk_STATUS] at h
        omega)
    rw [portLive_congr h hk, hl]
  rw [rmtCmd, if_neg (by simp [is_eq, hb]), hr]
  exact if_pos (.inr hp)

theorem rmtAsked_shows (s : State) (wr : Bool) (k : Nat) (m : Msg) (t : State) (ht : t = (s.rmtAsked wr k).withSent [(k, m)]) :
    t.get F.ULT_RMT_STATUS_BUSY = 1 ∧ (t.ult.mgmt.map (fun q => (q.tag, q.wr))) = some (s.ult.tag % 256, wr) ∧
      t.ult.sent = s.ult.sent ++ [(k, m)] ∧ RegsBut [R.ULT_RMT_STATUS] s t ∧ t = { s with regs := t.regs, ult := t.ult } := by
  have hg : (s.rmtAsked wr k).get F.ULT_RMT_STATUS_BUSY = 1 := get_put_same _ _ _ (by decide)
  have hs : RegStep (· ∉ [R.ULT_RMT_STATUS]) (s.withUlt { s.ult with
      tag := s.ult.tag % 256 + 1, mgmt := some { tag := s.ult.tag % 256, dest := s.get F.ULT_RMT_ID_ID, wr := wr, port := k } }) (s.rmtAsked wr k) :=
    RegStep.refl.put (by decide)
  generalize s.rmtAsked wr k = u at *
  obtain ⟨⟨a, rfl⟩, hr⟩ := hs
  rw [ht]
  exact ⟨hg, rfl, rfl, ((RegsIf.refl.of_regs rfl).trans hr).of_regs rfl, rfl⟩

/-- A request for this chip is carried out here. -/
theorem mgmtIn_here {s : State} {m : Msg} (h : s.route m.dest = .here) (rsp tag : Nat) (f : State → State) : s.mgmtIn m rsp tag f = f s := by
  rw [State.mgmtIn, h]

theorem sendAny_port {s : State} {m : Msg} {k : Nat} (h : s.route m.dest = .port k) (hl : s.portLive k = true) : s.sendAny m = s.withSent [(k, m)] := by
  rw [State.sendAny, h, if_neg (by simp), sendTo_port h hl]

theorem rspBlock_word (tag : Nat) (v : Word) : rspBlock tag rmtOk v.toNat = tag % 256 * 2 ^ 56 + v.toNat := by
  rw [rspBlock, Nat.mod_eq_of_lt v.isLt, rmtOk]
  omega

theorem rspBlock_empty (tag : Nat) : rspBlock tag rmtOk 0 = tag % 256 * 2 ^ 56 := by
  rw [rspBlock, rmtOk]
  omega

theorem route_congr {s t : State} (h : RegsIf IsTree s t) (d : Nat) : t.route d = s.route d := by
  have hu := upPort_congr h
  have hf : (List.range 4).find? (fun k => t.bit R.ULT_ROUTE_EN k && t.upPort != some k && t.get (F.ULT_ROUTE_k_LO k) ≤ d && d ≤ t.get (F.ULT_ROUTE_k_HI k)) =
      (List.range 4).find? (fun k => s.bit R.ULT_ROUTE_EN k && s.upPort != some k && s.get (F.ULT_ROUTE_k_LO k) ≤ d && d ≤ s.get (F.ULT_ROUTE_k_HI k)) := by
    refine List.find?_congr fun k hk => ?_
    have hk : IsTree (R.ULT_ROUTE_k k) := .inr (.inr ⟨k, List.mem_range.1 hk, .inl rfl⟩)
    have hl : t.get (F.ULT_ROUTE_k_LO k) = s.get (F.ULT_ROUTE_k_LO k) := h.get hk
    have hh : t.get (F.ULT_ROUTE_k_HI k) = s.get (F.ULT_ROUTE_k_HI k) := h.get hk
    rw [h.bit (.inr (.inl rfl)), hu, hl, hh]
  rw [State.route, hf, hu, chipId_congr h, is_eq, h.get (.inl rfl), State.route, is_eq] <;> rfl

theorem writeReq_scratch (m : Fin 4) (v : Word) (s : State) :
    registerWrite .ulten (R.GLB_SCRATCHk m % 2 ^ 27) 4 v.toNat s = s.putN (R.GLB_SCRATCHk m) v.toNat := by
  have hp : ∀ k : Fin 4, plainAt (R.GLB_SCRATCHk k) = true := by decide +kernel
  have hf : ∀ k : Fin 4, findRow (R.GLB_SCRATCHk k) = some ⟨0x40, [(4, 4)], [fA 31 0 .rw 0]⟩ := by decide +kernel
  have hm : ∀ k : Fin 4, R.GLB_SCRATCHk k % 2 ^ 27 = R.GLB_SCRATCHk k := by decide
  rw [hm, registerWrite_plain .ulten v.toNat s (hp m), plainWrite_wholeWord s _ (hf m), BitVec.toNat_ofNat, Nat.mod_eq_of_lt v.isLt]

/-! ### The end of a remote access -/

/-- The status of a remote access that has ended. -/
def State.rmtShown (s : State) (st : Nat) : State := ((s.withUlt { s.ult with mgmt := none }).putN R.ULT_RMT_STATUS st).put F.ULT_EVENT_RMT_DONE 1

theorem rmtDone_write (s : State) (st : Nat) : s.rmtDone st none = s.rmtShown st := rfl

theorem rmtDone_read (s : State) (st v : Nat) : s.rmtDone st (some v) = (s.rmtShown st).putN R.ULT_RMT_DATA v := rfl

theorem rmtShown_shows (s : State) {st : Nat} (hst : st < 16) (t : State) (ht : t = s.rmtShown st) :
    t.num R.ULT_RMT_STATUS = st ∧ t.get F.ULT_EVENT_RMT_DONE = 1 ∧ t.ult.mgmt = none ∧ RegsBut [R.ULT_RMT_STATUS, R.ULT_EVENT] s t ∧
      t = { s with regs := t.regs, ult := t.ult } := by
  have hs : st < 2 ^ 32 := by omega
  have hn : ((s.withUlt { s.ult with mgmt := none }).putN R.ULT_RMT_STATUS st).num R.ULT_RMT_STATUS = st := num_putN_same _ _ _ hs
  have hu : RegStep (· ∉ [R.ULT_RMT_STATUS, R.ULT_EVENT]) (s.withUlt { s.ult with mgmt := none })
      ((s.withUlt { s.ult with mgmt := none }).putN R.ULT_RMT_STATUS st) := RegStep.refl.putN (by decide)
  rw [State.rmtShown] at ht
  generalize (s.withUlt { s.ult with mgmt := none }).putN R.ULT_RMT_STATUS st = u at *
  have h2 : RegStep (· ∉ [R.ULT_RMT_STATUS, R.ULT_EVENT]) u t := by
    rw [ht]
    exact RegStep.refl.put (by decide)
  have hg : t.get F.ULT_EVENT_RMT_DONE = 1 := by rw [ht, get_put_same _ _ _ (by decide)]
  have hn2 : t.num R.ULT_RMT_STATUS = st := by rw [ht, num_put_apart _ _ _ _ (by decide), hn]
  obtain ⟨⟨a, rfl⟩, k1⟩ := hu
  obtain ⟨⟨b, rfl⟩, k2⟩ := h2
  exact ⟨hn2, hg, rfl, ((RegsIf.refl.of_regs rfl).trans k1).trans k2, rfl⟩

/-- A read that has ended also shows its data. -/
theorem rmtDone_read_shows (s : State) {st : Nat} (hst : st < 16) {v : Nat} (hv : v < 2 ^ 32) (t : State) (ht : t = s.rmtDone st (some v)) :
    t.num R.ULT_RMT_STATUS = st ∧ t.num R.ULT_RMT_DATA = v ∧ t.get F.ULT_EVENT_RMT_DONE = 1 ∧ t.ult.mgmt = none ∧
      RegsBut [R.ULT_RMT_STATUS, R.ULT_RMT_DATA, R.ULT_EVENT] s t ∧ t = { s with regs := t.regs, ult := t.ult } := by
  obtain ⟨h1, h2, h3, h4, h5⟩ := rmtShown_shows s hst _ rfl
  rw [rmtDone_read] at ht
  generalize s.rmtShown st = u at *
  have hr : RegStep (· ∉ [R.ULT_RMT_DATA]) u t := by
    rw [ht]
    exact RegStep.refl.putN (by decide)
  have hd : t.num R.ULT_RMT_DATA = v := by rw [ht, num_putN_same _ _ _ hv]
  have h1' := (hr.2.num (o := R.ULT_RMT_STATUS) (by decide)).trans h1
  have h2' := (hr.2.get (f := F.ULT_EVENT_RMT_DONE) (by decide)).trans h2
  have hk : RegsBut [R.ULT_RMT_STATUS, R.ULT_RMT_DATA, R.ULT_EVENT] s t := fun o ho => by
    simp only [List.mem_cons, List.not_mem_nil, or_false, not_or] at ho
    exact (hr.2 o (by simpa using ho.2.1)).trans (h4 o (by simp [ho]))
  obtain ⟨⟨a, rfl⟩, -⟩ := hr
  exact ⟨h1', hd, h2', h3, hk, by rw [h5]⟩

theorem rspIn_run {s : State} {q : MgmtReq} (hq : s.ult.mgmt = some q) (hb : s.get F.ULT_RMT_STATUS_BUSY = 1) (status : Nat) (data : Word) :
    s.rspIn q.wr q.tag status data = s.rmtDone (status % 16) (if q.wr ∨ status ≠ rmtOk then none else some data.toNat) := by
  rw [State.rspIn, hq]
  exact if_pos ⟨rfl, rfl, by rw [is_eq, hb]; rfl⟩

/-- Settles O31: a chip without down-ports takes its ID (`assignIds_leaf`), a remote access is asked (`rmtCmd_port`) and ends
(`rmtShown_shows`). -/
theorem enumerationAndRemoteAccesses : Obligations.EnumerationAndRemoteAccesses := by
  refine ⟨?_, ?_, ?_, ?_, ?_, ?_, ?_, ?_, ?_, ?_, ?_, ?_, ?_, ?_⟩
  · intro s h hr ha hd
    exact completes_of_eq rfl (if_pos h) (enumStart_shows hr ha hd _ rfl)
  · intro s hr ha hd
    exact completes_intro rfl fun t ht => enumStart_shows hr ha hd t ht
  · intro s h
    exact congrArg Host.Outcome.next (if_neg (by simp [h]))
  · intro s k z ha hk hr hb
    have e : enumReport k z s = s.updPort k (fun p => { p with subtree := some z }) := by
      have h1 : (s.updPort k (fun p => { p with subtree := some z })).isRoot = true := hr
      have h2 : (s.updPort k (fun p => { p with subtree := some z })).ult.enumBusy = false := hb
      rw [enumReport, if_pos ⟨ha, List.contains_iff_mem.1 hk⟩]
      dsimp only
      rw [h1, if_pos rfl, State.enumTry, h2]
      exact if_neg (by simp)
    exact completes_of_eq rfl e ⟨by rw [portOf_updPort], by rw [portOf_updPort], rfl⟩
  · intro s k b ha hr hu ht hd hb
    have e : enumAssign k b s = (s.takeId b).putN R.ULT_ROUTE_EN 0 := by
      rw [enumAssign, if_pos ⟨ha, by simp [hr], hu, by simp [is_eq, ht]⟩, assignIds_leaf hd]
    obtain ⟨h1, h2, h3, h4, h5, h6, ⟨a, h7⟩, hr⟩ := takenId_shows s hb _ rfl
    refine completes_of_eq rfl e ⟨h1, h2, h3, h4, h5, hr, ?_, h6⟩
    rw [h7]
  · intro s k hb hr hl
    exact completes_of_eq rfl (rmtCmd_port false hb hr k.isLt hl) (rmtAsked_shows s false k _ _ rfl)
  · intro s hb
    exact congrArg Host.Outcome.next (if_pos (by simp [is_eq, hb]))
  · intro s k hb hr hl
    exact completes_of_eq rfl (rmtCmd_port true hb hr k.isLt hl) (rmtAsked_shows s true k _ _ rfl)
  · intro s hb
    exact congrArg Host.Outcome.next (if_pos (by simp [is_eq, hb]))
  · intro s dest src tag k m hd hr hl
    have hm : R.GLB_SCRATCHk m % 2 ^ 27 = R.GLB_SCRATCHk m := by revert m; decide
    obtain ⟨q, hq, hw⟩ := registerRead_scratch .ulten m s
    rw [hq] at hw
    have hs : ∀ bl : List Nat, ({ s with req := q } : State).sendAny (({ s with req := q } : State).mgmtMsg src 2 bl) =
        ({ s with req := q } : State).withSent [(k.val, ({ s with req := q } : State).mgmtMsg src 2 bl)] := fun bl =>
      sendAny_port (s := { s with req := q }) hr hl
    have e : rdReq dest src tag (R.GLB_SCRATCHk m) s = ({ s with req := q } : State).withSent [(k.val,
        ({ s with req := q } : State).mgmtMsg src 2 [tag % 256 * 2 ^ 56 + s.num (R.GLB_SCRATCHk m)])] := by
      rw [rdReq, mgmtIn_here hd]
      dsimp only
      rw [hm, hq, hs, hw]
      dsimp only
      rw [rspBlock_word, State.num]
    exact completes_of_eq rfl e ⟨rfl, rfl⟩
  · intro s dest src tag v k m hd hr hl
    have hv : (s.putN (R.GLB_SCRATCHk m) v.toNat).word (R.GLB_SCRATCHk m) = v := by
      rw [State.putN, word_setWord, BitVec.ofNat_toNat, BitVec.setWidth_eq]
    have hs : RegStep (· ∉ [R.GLB_SCRATCHk m]) s (s.putN (R.GLB_SCRATCHk m) v.toNat) := RegStep.refl.putN (by simp)
    have ht : RegsIf IsTree s (s.putN (R.GLB_SCRATCHk m) v.toNat) := RegsIf.refl.putN (by
      rintro (h | h | ⟨j, hj, h | h⟩)
      all_goals
        simp only [R.GLB_SCRATCHk, R.ULT_STATUS, R.ULT_ROUTE_EN, R.ULT_ROUTE_k, R.ULT_Pk_STATUS] at h
        omega)
    have e : wrReq dest src tag (R.GLB_SCRATCHk m) v s = (s.putN (R.GLB_SCRATCHk m) v.toNat).sendAny
        ((s.putN (R.GLB_SCRATCHk m) v.toNat).mgmtMsg src 4 [rspBlock tag rmtOk 0]) := by
      rw [wrReq, mgmtIn_here hd]
      dsimp only
      rw [writeReq_scratch]
    generalize s.putN (R.GLB_SCRATCHk m) v.toNat = u at *
    have hm : u.mgmtMsg src 4 [rspBlock tag rmtOk 0] =
        { cls := clsMgmt, mcast := false, dest := src, src := s.chipId, ttl := 0, typ := 4, blocks := [tag % 256 * 2 ^ 56] } := by
      rw [State.mgmtMsg, chipId_congr ht, rspBlock_empty]
    rw [sendAny_port (k := k) ((route_congr ht src).trans hr) ((portLive_congr ht k.isLt).trans hl), hm] at e
    obtain ⟨⟨a, rfl⟩, hr⟩ := hs
    exact completes_of_eq rfl e ⟨hv, rfl, hr, rfl⟩
  · intro s dest src tag d q hd hq ht hw hb
    have e : rdRsp dest src tag 0 d s = s.rmtDone 0 (some d.toNat) := by
      have h := rspIn_run hq hb 0 d
      rw [hw, ht] at h
      rw [rdRsp, unicastIn_here hd, h]
      rfl
    obtain ⟨h1, h2, h3, h4, h5, h6⟩ := rmtDone_read_shows s (st := 0) (by decide) d.isLt _ rfl
    exact completes_of_eq rfl e ⟨h1, BitVec.eq_of_toNat_eq h2, h3, h4, h5, h6⟩
  · intro s dest src tag st q hd hq ht hw hb hst
    have e : wrRsp dest src tag st s = s.rmtDone st none := by
      have h := rspIn_run hq hb st 0
      rw [hw, ht, Nat.mod_eq_of_lt (by omega : st < 16), if_pos (.inl rfl)] at h
      rw [wrRsp, unicastIn_here hd, h]
    exact completes_of_eq rfl (e.trans (rmtDone_write s st)) (rmtShown_shows s (by omega) _ rfl)
  · intro s q hq hb
    have e : mgmtTimeout s = s.rmtDone rmtTimeout (if q.wr then none else some 0xFFFFFFFF) := by
      rw [mgmtTimeout, if_pos (by rw [is_eq, hb]; rfl), State.rmtLost, hq]
    cases hw : q.wr with
    | true =>
      rw [hw, if_pos rfl] at e
      obtain ⟨h1, h3, h4, h5, -⟩ := rmtShown_shows s (st := rmtTimeout) (by decide) _ rfl
      refine completes_of_eq rfl (e.trans (rmtDone_write s _)) ⟨h1, fun h => absurd h (by simp), fun _ => RegsIf.num h5 (by decide), h3, h4,
        fun o ho => h5 o fun h => ho ?_⟩
      simp only [List.mem_cons, List.not_mem_nil, or_false] at h ⊢
      tauto
    | false =>
      rw [hw, if_neg (by simp)] at e
      obtain ⟨h1, h2, h3, h4, h5, -⟩ := rmtDone_read_shows s (st := rmtTimeout) (by decide) (v := 0xFFFFFFFF) (by decide) _ rfl
      exact completes_of_eq rfl e ⟨h1, fun _ => h2, fun h => absurd h (by simp), h3, h4, h5⟩

end Sys2Proof.Machine
end

section
-- One proof at a time: the whole text then stays within the memory the check allows.
set_option Elab.async false
/-! PROOFS. O42: time bases and network time. -/

namespace Sys2Proof.Machine
open State

/-! ### Numbers -/

theorem toBits_lt_word (x : Int) : toBits 64 x < 2 ^ 64 := toBits_lt 64 x

/-- Adding signed numbers is adding their words. -/
theorem toBits_add_sext {a b : Nat} : toBits 64 (sext 64 a + sext 64 b) = (a + b) % 2 ^ 64 := by
  have h : ∀ n : Nat, ∃ k : Int, sext 64 n = n - k * 2 ^ 64 := fun n => by
    rw [sext]
    split
    · exact ⟨0, by ring⟩
    · exact ⟨1, by ring⟩
  obtain ⟨i, hi⟩ := h a
  obtain ⟨j, hj⟩ := h b
  have e : (sext 64 a + sext 64 b) % 2 ^ 64 = ((a + b : Nat) : Int) % 2 ^ 64 := by
    rw [hi, hj]
    push_cast
    omega
  rw [toBits, e]
  exact_mod_cast Int.toNat_natCast _

/-! ### Rates and offsets -/

theorem tbGet_updTb (s : State) (i : Nat) (f : TBase → TBase) : Tab.get {} (s.updTb i f).tb i = f (Tab.get {} s.tb i) := Tab.get_set_same _ _ _ _

theorem timeRateWrite_run {i : Nat} (h : i ≠ 0) (v : Word) (s : State) : timeRateWrite i v s =
    ((s.putPair (R.TIME_TB_i_OFFSET_LO i) (toBits 64 (s.tbOffset i + s.tbCorr i / 2 ^ 44))).setWord (R.TIME_TB_i_RATE i) v).updTb i
      (fun _ => { anchor := s.now, frac := (s.tbCorr i % 2 ^ 44).toNat }) := if_neg h

theorem tbPair_shows (s : State) (i : Fin 4) {x : Nat} (hx : x < 2 ^ 64) (t : State) (ht : t = s.putPair (R.TIME_TB_i_OFFSET_LO i) x) :
    t.pair (R.TIME_TB_i_OFFSET_LO i) = x ∧ RegStep (· ∉ [R.TIME_TB_i_OFFSET_LO i, R.TIME_TB_i_OFFSET_LO i + 4]) s t := by
  rw [ht]
  exact ⟨pair_putPair _ _ _ hx, RegStep.refl.putPair (by simp) (by simp)⟩

theorem timeRateWrite_shows (i : Fin 4) (h : i.val ≠ 0) (v : Word) (s t : State) (ht : t = timeRateWrite i v s) :
    t.word (R.TIME_TB_i_RATE i) = v ∧ t.pair (R.TIME_TB_i_OFFSET_LO i) = toBits 64 (s.tbOffset i + s.tbCorr i / 2 ^ 44) ∧
      Tab.get {} t.tb i = { anchor := s.now, frac := (s.tbCorr i % 2 ^ 44).toNat } ∧
      RegsBut [R.TIME_TB_i_RATE i, R.TIME_TB_i_OFFSET_LO i, R.TIME_TB_i_OFFSET_LO i + 4] s t ∧ t = { s with regs := t.regs, tb := t.tb } := by
  rw [timeRateWrite_run h] at ht
  obtain ⟨h1, h2⟩ := tbPair_shows s i (toBits_lt_word (s.tbOffset i + s.tbCorr i / 2 ^ 44)) _ rfl
  generalize s.putPair _ _ = u at *
  have h3 : RegStep (· ≠ R.TIME_TB_i_RATE i) u (u.setWord (R.TIME_TB_i_RATE i) v) := RegStep.refl.setWord fun h => h rfl
  have h4 : (u.setWord (R.TIME_TB_i_RATE i) v).word (R.TIME_TB_i_RATE i) = v := word_setWord _ _ _
  generalize u.setWord (R.TIME_TB_i_RATE i) v = w at *
  have hp : w.pair (R.TIME_TB_i_OFFSET_LO i) = u.pair (R.TIME_TB_i_OFFSET_LO i) := by
    rw [State.pair, h3.2.num (by apply all_fin i; decide +kernel), h3.2.num (by apply all_fin i; decide +kernel), State.pair]
  have hk : RegsBut [R.TIME_TB_i_RATE i, R.TIME_TB_i_OFFSET_LO i, R.TIME_TB_i_OFFSET_LO i + 4] s w := fun o ho => by
    simp only [List.mem_cons, List.not_mem_nil, or_false, not_or] at ho
    exact (h3.2 o ho.1).trans (h2.2 o (by simpa using ho.2))
  have hb := tbGet_updTb w i fun _ => { anchor := s.now, frac := (s.tbCorr i % 2 ^ 44).toNat }
  obtain ⟨⟨a, rfl⟩, -⟩ := h2
  obtain ⟨⟨b, rfl⟩, -⟩ := h3
  rw [ht]
  exact ⟨h4, hp.trans h1, hb, RegsIf.of_regs hk rfl, rfl⟩

/-- The staged word of a requester is taken. -/
theorem takeStaged_shows (s : State) (r : Req) : (s.takeStaged r).1 = (s.rq r).staged ∧ ((s.takeStaged r).2.rq r).staged = 0 ∧
    ∃ q, (s.takeStaged r).2 = { s with req := q } := by
  refine ⟨rfl, ?_, _, rfl⟩
  rw [State.takeStaged, rq_updRq]

theorem offsetCommit_run {s : State} {i : Nat} (h : i ≠ 0) (v : Nat) : s.offsetCommit i v =
    (s.putPair (R.TIME_TB_i_OFFSET_LO i) v).updTb i (fun b => { b with anchor := s.now }) := by
  rw [State.offsetCommit, if_neg fun g => h g.1, if_neg h]

theorem offsetCommit_zero {s : State} (h : s.tb0Governed = false) (v : Nat) : s.offsetCommit 0 v =
    (s.putPair (R.TIME_TB_i_OFFSET_LO 0) (toBits 64 (nearest10 (sext 64 v)))).updTb 0 (fun b => { b with anchor := s.now }) := by
  rw [State.offsetCommit, if_neg (by simp [h]), if_pos rfl]

theorem timeDropped_shows (s : State) (r : Req) (q : Tab ReqCtx) (hq : (({ s with req := q } : State).rq r).staged = 0) :
    (({ s with req := q } : State).timeDrop).num R.TIME_WR_DROP = min satMax (s.num R.TIME_WR_DROP + 1) ∧
      ((({ s with req := q } : State).timeDrop).rq r).staged = 0 ∧ RegsBut [R.TIME_WR_DROP] s ({ s with req := q } : State).timeDrop ∧
      ({ s with req := q } : State).timeDrop = { s with regs := (({ s with req := q } : State).timeDrop).regs, req := (({ s with req := q } : State).timeDrop).req } := by
  have h1 : (({ s with req := q } : State).timeDrop).num R.TIME_WR_DROP = min satMax (s.num R.TIME_WR_DROP + 1) := num_bump { s with req := q } R.TIME_WR_DROP
  have h2 : RegStep (· ∉ [R.TIME_WR_DROP]) { s with req := q } ({ s with req := q } : State).timeDrop := by
    rw [State.timeDrop]
    exact RegStep.refl.bump (by decide)
  generalize ({ s with req := q } : State).timeDrop = u at *
  obtain ⟨⟨a, rfl⟩, hr⟩ := h2
  exact ⟨h1, hq, (RegsIf.refl.of_regs rfl).trans hr, rfl⟩

/-! ### Reads and the timestamp queue -/

theorem timeTbNsRead_shows (s : State) (r : Req) (i : Nat) (f : Nat × Nat × Nat) (hf : s.format (s.tbVal i) = f) (t : State)
    (ht : t = timeTbNsRead r i s) : (t.rq r).rword = BitVec.ofNat 32 f.1 ∧ Tab.get 0 (t.rq r).secl i = BitVec.ofNat 32 f.2.1 ∧
      Tab.get 0 (t.rq r).sech i = BitVec.ofNat 32 f.2.2 ∧ t = { s with req := t.req } := by
  rw [timeTbNsRead, hf] at ht
  have h : t.rq r = { s.rq r with
      rword := BitVec.ofNat 32 f.1
      secl := Tab.set 0 i (BitVec.ofNat 32 f.2.1) (s.rq r).secl
      sech := Tab.set 0 i (BitVec.ofNat 32 f.2.2) (s.rq r).sech } := by
    rw [ht, rq_updRq]
  rw [h]
  exact ⟨rfl, Tab.get_set_same _ _ _ _, Tab.get_set_same _ _ _ _, by rw [ht] <;> rfl⟩

/-- An entry leaves the timestamp queue. -/
def State.tsqDrop (s : State) (x : TsEntry) : State :=
  ({ s with time := { s.time with tsq := s.time.tsq.erase x } } : State).put F.TIME_TSQ_STATUS_COUNT (s.time.tsq.erase x).length

theorem tsqFind_hit {s : State} {v : Word} {x : TsEntry} (h0 : bitsOf v 31 31 = 0)
    (h : s.time.tsq.find? (fun e => e.typ == bitsOf v 19 16 && e.seq == bitsOf v 15 0) = some x) (r : Req) : tsqFind r v s =
    (s.tsqDrop x).updRq r (fun c => { c with
      tsqEnt := BitVec.ofNat 32 (2 ^ 31 + 2 ^ 16 * x.typ + x.seq)
      tsqNs := BitVec.ofNat 32 x.ns
      tsqSecl := BitVec.ofNat 32 x.secl
      tsqSech := BitVec.ofNat 32 x.sech }) := by
  have h' : s.time.tsq.find? (fun e => decide (bitsOf v 31 31 = 1) || (e.typ == bitsOf v 19 16 && e.seq == bitsOf v 15 0)) = some x := by
    rw [h0]
    exact h
  rw [tsqFind]
  dsimp only
  rw [h']
  rfl

theorem tsqDrop_shows (s : State) {x : TsEntry} (hx : x ∈ s.time.tsq) (hl : s.time.tsq.length ≤ 16) (t : State) (ht : t = s.tsqDrop x) :
    t.time.tsq = s.time.tsq.erase x ∧ t.get F.TIME_TSQ_STATUS_COUNT = (s.time.tsq.erase x).length ∧ RegsBut [R.TIME_TSQ_STATUS] s t := by
  have h1 : (s.time.tsq.erase x).length < 32 := by
    rw [List.length_erase_of_mem hx]
    omega
  rw [ht, State.tsqDrop]
  refine ⟨by rw [put_time], get_put_same _ _ _ (Fld.fits_of_lt (n := 32) rfl h1), RegsIf.put (RegsIf.refl.of_regs rfl) (by decide)⟩

/-! ### SYNC -/

theorem fallbackUpdate_idle {s : State} (h : s.get F.TIME_CTRL_FALLBACK = 0) (h' : s.get F.TIME_STATUS_FALLBACK_ACTIVE = 0) : s.fallbackUpdate = s := by
  simp [State.fallbackUpdate, is_eq, h, h']

/-- A clean SYNC is counted, and the fourth in a row locks. -/
def State.syncClean (s : State) : State :=
  ({ s with time := { s.time with clean := min 4 (s.time.clean + 1) } } : State).when (min 4 (s.time.clean + 1) == 4) (fun u => u.put F.TIME_STATUS_LOCKED 1)

/-- What a SYNC without error shows. -/
def State.syncShown (s : State) : State := (s.putN R.TIME_TB0_ERR 0).put F.TIME_STATUS_HOLDOVER 0

theorem roundNearest_exact (s : State) {p : Nat} (h : p % 1000 = 0) : s.roundNearest p 1000 = (((p / 1000 : Nat) : Int), s) := by
  have h1 : ¬ ((2 * (p : Int)) % (2 * (1000 : Nat)) = (1000 : Nat)) := by omega
  rw [State.roundNearest, if_neg h1, nearest, if_pos (by omega)]
  congr 1
  omega

/-- A SYNC with error `e` at the chip: the error is shown and corrected, and the SYNC is sent on. -/
def State.syncTaken (s : State) (t p res : Nat) (e : Int) : State :=
  let s := s.putN R.TIME_TB0_ERR (toBits 32 (max (-(2 ^ 31 - 1)) (min (2 ^ 31 - 1) e)))
  let s := (s.put F.TIME_STATUS_HOLDOVER 0).fallbackUpdate
  let s := if nearest10 e ≠ 0 then s.tb0Step (nearest10 e) else s.syncClean
  if s.is F.ULT_STATUS_TOO_DEEP then s else s.sendAll s.downPorts (s.timeMsg 1 [t, (p + res) % 2 ^ 48])

theorem syncMsg_eq (k t corr res : Nat) (s : State) : syncMsg k t corr res s = if s.isRoot ∨ s.upPort ≠ some k then s
    else (s.roundNearest (corr + s.get (F.ULT_Pk_LAT_PS k) : Nat) 1000).2.syncTaken t (corr + s.get (F.ULT_Pk_LAT_PS k)) res
      (sext 64 (toBits 64 ((t : Int) + (s.roundNearest (corr + s.get (F.ULT_Pk_LAT_PS k) : Nat) 1000).1 -
        (s.roundNearest (corr + s.get (F.ULT_Pk_LAT_PS k) : Nat) 1000).2.tbVal 0))) := rfl

theorem syncTaken_clean {s : State} (hf : s.get F.TIME_CTRL_FALLBACK = 0) (ha : s.get F.TIME_STATUS_FALLBACK_ACTIVE = 0)
    (hd : s.syncShown.syncClean.get F.ULT_STATUS_TOO_DEEP = 0) (t p res : Nat) : s.syncTaken t p res 0 =
    s.syncShown.syncClean.sendAll s.syncShown.syncClean.downPorts (s.syncShown.syncClean.timeMsg 1 [t, (p + res) % 2 ^ 48]) := by
  have hx : s.syncShown.fallbackUpdate = s.syncShown := by
    refine fallbackUpdate_idle ?_ ?_
    · rw [State.syncShown, get_put_apart _ _ _ _ (by decide), get_putN_apart _ _ _ _ (by decide), hf]
    · rw [State.syncShown, get_put_apart _ _ _ _ (by decide), get_putN_apart _ _ _ _ (by decide), ha]
  have hz : toBits 32 (max (-(2 ^ 31 - 1)) (min (2 ^ 31 - 1) (0 : Int))) = 0 := by decide
  have hs : (s.putN R.TIME_TB0_ERR 0).put F.TIME_STATUS_HOLDOVER 0 = s.syncShown := rfl
  have hn : ¬ (nearest10 0 ≠ 0) := by decide
  rw [State.syncTaken]
  rw [hz, hs, hx, if_neg hn, if_neg (by simp [is_eq, hd])]

theorem syncMsg_clean {s : State} {k g c res : Nat} (hr : s.isRoot = false) (hu : s.upPort = some k) (hp : (c + s.get (F.ULT_Pk_LAT_PS k)) % 1000 = 0)
    (hg : g + (c + s.get (F.ULT_Pk_LAT_PS k)) / 1000 = s.tbVal 0) (hf : s.get F.TIME_CTRL_FALLBACK = 0) (ha : s.get F.TIME_STATUS_FALLBACK_ACTIVE = 0)
    (hd : s.syncShown.syncClean.get F.ULT_STATUS_TOO_DEEP = 0) : syncMsg k g c res s =
    s.syncShown.syncClean.sendAll s.syncShown.syncClean.downPorts
      (s.syncShown.syncClean.timeMsg 1 [g, (c + s.get (F.ULT_Pk_LAT_PS k) + res) % 2 ^ 48]) := by
  have he : sext 64 (toBits 64 ((g : Int) + ((c + s.get (F.ULT_Pk_LAT_PS k)) / 1000 : Nat) - s.tbVal 0)) = 0 := by
    rw [← hg]
    have : (g : Int) + ((c + s.get (F.ULT_Pk_LAT_PS k)) / 1000 : Nat) - ((g + (c + s.get (F.ULT_Pk_LAT_PS k)) / 1000 : Nat) : Int) = 0 := by
      push_cast
      ring
    rw [this]
    decide
  rw [syncMsg_eq, if_neg (by simp [hr, hu]), roundNearest_exact s hp]
  dsimp only
  rw [he, syncTaken_clean hf ha hd]

theorem not_isTree {o : Nat} (h : o < 0x3000000 ∨ 0x4000000 ≤ o) : ¬ IsTree o := by
  rintro (h | h | ⟨j, hj, h | h⟩)
  all_goals
    simp only [R.ULT_STATUS, R.ULT_ROUTE_EN, R.ULT_ROUTE_k, R.ULT_Pk_STATUS] at h
    omega

theorem syncShown_shows (s t : State) (ht : t = s.syncShown) : t.num R.TIME_TB0_ERR = 0 ∧ t.get F.TIME_STATUS_HOLDOVER = 0 ∧
    t.get F.TIME_STATUS_LOCKED = s.get F.TIME_STATUS_LOCKED ∧ RegStep (· ∉ [R.TIME_TB0_ERR, R.TIME_STATUS]) s t := by
  rw [ht, State.syncShown]
  refine ⟨?_, get_put_same _ _ _ (by decide), ?_, (RegStep.refl.putN (by decide)).put (by decide)⟩
  · rw [num_put_apart _ _ _ _ (by decide), num_putN_same _ _ _ (by decide)]
  · rw [get_put_apart _ _ _ _ (by decide), get_putN_apart _ _ _ _ (by decide)]

theorem syncClean_shows (s t : State) (ht : t = s.syncClean) : t.time.clean = min 4 (s.time.clean + 1) ∧ RegsIf (· ∉ [R.TIME_STATUS]) s t ∧
    t.get F.TIME_STATUS_HOLDOVER = s.get F.TIME_STATUS_HOLDOVER ∧ t.ult = s.ult ∧
    (s.time.clean < 3 → t.get F.TIME_STATUS_LOCKED = s.get F.TIME_STATUS_LOCKED) ∧ (3 ≤ s.time.clean → t.get F.TIME_STATUS_LOCKED = 1) := by
  rw [State.syncClean] at ht
  generalize hc : (min 4 (s.time.clean + 1) == 4) = b at ht
  cases b with
  | false =>
    rw [when_false] at ht
    have : min 4 (s.time.clean + 1) ≠ 4 := by simpa using hc
    rw [ht]
    exact ⟨rfl, RegsIf.refl.of_regs rfl, rfl, rfl, fun _ => rfl, fun h => absurd h (by omega)⟩
  | true =>
    rw [when_true] at ht
    have : min 4 (s.time.clean + 1) = 4 := by simpa using hc
    rw [ht]
    refine ⟨by rw [put_time], RegsIf.put (RegsIf.refl.of_regs rfl) (by decide), ?_, by rw [put_ult], fun h => absurd h (by omega),
      fun _ => get_put_same _ _ _ (by decide)⟩
    rw [get_put_apart _ _ _ _ (by decide)] <;> rfl

theorem syncMsg_shows {s : State} {k g c res : Nat} (hr : s.isRoot = false) (hu : s.upPort = some k) (hp : (c + s.get (F.ULT_Pk_LAT_PS k)) % 1000 = 0)
    (hg : g + (c + s.get (F.ULT_Pk_LAT_PS k)) / 1000 = s.tbVal 0) (hf : s.get F.TIME_CTRL_FALLBACK = 0) (ha : s.get F.TIME_STATUS_FALLBACK_ACTIVE = 0)
    (hd : s.get F.ULT_STATUS_TOO_DEEP = 0) (t : State) (ht : t = syncMsg k g c res s) :
    t.num R.TIME_TB0_ERR = 0 ∧ t.get F.TIME_STATUS_HOLDOVER = 0 ∧ t.time.clean = min 4 (s.time.clean + 1) ∧
      (s.time.clean < 3 → t.get F.TIME_STATUS_LOCKED = s.get F.TIME_STATUS_LOCKED) ∧ (3 ≤ s.time.clean → t.get F.TIME_STATUS_LOCKED = 1) ∧
      t.ult.sent = s.ult.sent ++ s.downPorts.map (fun p => (p, s.timeMsg 1 [g, (c + s.get (F.ULT_Pk_LAT_PS k) + res) % 2 ^ 48])) ∧ RegsBut [R.TIME_TB0_ERR, R.TIME_STATUS] s t := by
  have e := fun h => syncMsg_clean (res := res) hr hu hp hg hf ha h
  obtain ⟨a1, a2, a3, a4⟩ := syncShown_shows s _ rfl
  obtain ⟨b1, b2, b3, b4, b5, b6⟩ := syncClean_shows s.syncShown _ rfl
  generalize s.syncShown.syncClean = w at *
  generalize s.syncShown = u at *
  have hk : RegsIf (· ∉ [R.TIME_TB0_ERR, R.TIME_STATUS]) s w := fun o ho =>
    (b2 o fun h => ho (List.mem_cons_of_mem _ h)).trans (a4.2 o ho)
  have ht' : RegsIf IsTree s w := fun o ho => hk o fun h => by
    simp only [List.mem_cons, List.not_mem_nil, or_false] at h
    rcases h with h | h
    · exact absurd (h ▸ ho) (not_isTree (by decide))
    · exact absurd (h ▸ ho) (not_isTree (by decide))
  have hw : w.get F.ULT_STATUS_TOO_DEEP = 0 := (ht'.get (.inl rfl)).trans hd
  have hm : ∀ b, w.timeMsg 1 b = s.timeMsg 1 b := fun b => by rw [State.timeMsg, chipId_congr ht', State.timeMsg]
  have hh : u.time = s.time := by
    obtain ⟨⟨a, rfl⟩, -⟩ := a4
    rfl
  have hv : u.ult = s.ult := by
    obtain ⟨⟨a, rfl⟩, -⟩ := a4
    rfl
  rw [e hw, sendAll_eq, downPorts_congr ht', hm] at ht
  rw [ht]
  rw [hh] at b1 b5 b6
  refine ⟨(b2.num (by decide)).trans a1, b3.trans a2, b1, fun h => (b5 h).trans a3, b6, ?_, hk.of_regs rfl⟩
  rw [← hv, ← b4]
  rfl

/-! ### ECHO, holdover and fallback -/

theorem echoRsp_run {k g res x : Nat} {s : State} (h : 2 * x + res + 1000 * g = 1000 * s.now) : echoRsp k g res s = s.setLat k x := by
  have h1 : s.roundFree 20 (1000 * ((s.now : Int) - g) - res) 2 = ((x : Int), s) := by
    rw [State.roundFree, if_neg (by decide), if_pos (by omega)]
    congr 1
    omega
  rw [echoRsp, h1]
  rfl

/-- The registers in which a missed SYNC is shown. -/
def State.missedShown (s : State) : State :=
  (((s.put F.TIME_STATUS_HOLDOVER 1).put F.TIME_EVENT_HOLDOVER 1).put F.TIME_STATUS_LOCKED 0).bump R.TIME_SYNC_MISS

theorem missedShown_shows (s t : State) (ht : t = s.missedShown) : t.get F.TIME_STATUS_HOLDOVER = 1 ∧ t.get F.TIME_EVENT_HOLDOVER = 1 ∧
    t.get F.TIME_STATUS_LOCKED = 0 ∧ t.num R.TIME_SYNC_MISS = min satMax (s.num R.TIME_SYNC_MISS + 1) ∧
    t.get F.TIME_STATUS_FALLBACK_ACTIVE = s.get F.TIME_STATUS_FALLBACK_ACTIVE ∧ RegStep (· ∉ [R.TIME_STATUS, R.TIME_EVENT, R.TIME_SYNC_MISS]) s t := by
  rw [ht, State.missedShown]
  refine ⟨?_, ?_, ?_, ?_, ?_, (((RegStep.refl.put (by decide)).put (by decide)).put (by decide)).bump (by decide)⟩
  all_goals simp -implicitDefEqProofs (disch := decide)

theorem syncMissed_run {s : State} (hr : s.isRoot = false) (hh : s.get F.TIME_STATUS_HOLDOVER = 0) :
    syncMissed s = ({ s.missedShown with time := { s.missedShown.time with clean := 0 } } : State).fallbackUpdate := by
  rw [syncMissed, if_neg (by simp [hr, is_eq, hh])] <;> rfl

/-- A step of TB0 other than 0. -/
def State.tb0Stepped (s : State) (d : Int) : State := ((s.tbAdd 0 d).stepped).put F.TIME_STATUS_LOCKED 0

theorem tb0Step_run {d : Int} (h : d ≠ 0) (s : State) :
    s.tb0Step d = { s.tb0Stepped d with time := { s.time with clean := 0 } } := by
  have ht : (s.tb0Stepped d).time = s.time := by
    rw [State.tb0Stepped, State.stepped, State.tbAdd, put_time, put_time, bump_time, putPair_time]
  rw [State.tb0Step, if_neg h, ← ht] <;> rfl

theorem tb0Stepped_shows (s : State) (d : Int) (t : State) (ht : t = s.tb0Stepped d) :
    t.pair (R.TIME_TB_i_OFFSET_LO 0) = toBits 64 (s.tbOffset 0 + d) ∧ t.num R.TIME_STEP_CNT = min satMax (s.num R.TIME_STEP_CNT + 1) ∧
      t.get F.TIME_EVENT_STEP = 1 ∧ t.get F.TIME_STATUS_LOCKED = 0 := by
  obtain ⟨h1, h2⟩ := tbPair_shows s 0 (toBits_lt_word (s.tbOffset 0 + d)) _ rfl
  have h3 := h2.2.num (o := R.TIME_STEP_CNT) (by decide)
  rw [State.tb0Stepped, State.stepped, State.tbAdd] at ht
  have hz : (0 : Fin 4).val = 0 := rfl
  rw [hz] at h1 h2 h3
  generalize s.putPair (R.TIME_TB_i_OFFSET_LO 0) _ = u at *
  rw [ht]
  refine ⟨?_, ?_, ?_, get_put_same _ _ _ (by decide)⟩
  · rw [State.pair] at h1 ⊢
    rw [← h1]
    simp -implicitDefEqProofs (disch := decide)
  · simp -implicitDefEqProofs (disch := decide) [h3]
  · simp -implicitDefEqProofs (disch := decide)

/-! ### Frames -/

/-- A frame leaves. -/
def State.frameOut (s : State) (d : List Byte) : State := { s with time := { s.time with frames := s.time.frames ++ [d] } }

theorem ethFrameTransmit_event {s : State} {d : List Byte} {h : Nat} (he : s.ptpEvent d = some (h, 1)) :
    ∃ a b c, ethFrameTransmit d s = (s.frameOut d).tsqPush { typ := 1, seq := frameBe d (h + 30) 2, ns := a, secl := b, sech := c } := by
  refine ⟨(s.format (s.tbVal (s.get F.TIME_PTP_CFG_TB))).1, (s.format (s.tbVal (s.get F.TIME_PTP_CFG_TB))).2.1,
    (s.format (s.tbVal (s.get F.TIME_PTP_CFG_TB))).2.2, ?_⟩
  rw [ethFrameTransmit, he]
  exact if_pos (.inl rfl)

theorem tsqPush_room {s : State} (h : s.time.tsq.length < 16) (e : TsEntry) : s.tsqPush e =
    (({ s with time := { s.time with tsq := s.time.tsq ++ [e] } } : State).put F.TIME_TSQ_STATUS_COUNT (s.time.tsq.length + 1)).put F.TIME_EVENT_TSQ_AVAIL 1 := by
  rw [State.tsqPush, if_neg (by omega)]
  dsimp only
  rw [List.length_append]
  rfl

/-- Settles O42: writes of a base (`timeRateWrite_shows`), a SYNC without error (`syncMsg_shows`), holdover, steps and frames. -/
theorem timeBases : Obligations.TimeBases := by
  refine ⟨?_, ?_, ?_, ?_, ?_, ?_, ?_, ?_, ?_, ?_, ?_, ?_, ?_, ?_, ?_, ?_, ?_, ?_, ?_, ?_, ?_, ?_, ?_, ?_, ?_⟩
  · intro s i v h
    exact completes_intro rfl fun t ht => timeRateWrite_shows i h v s t ht
  · intro s v
    rfl
  · intro s r i v h
    obtain ⟨h1, h2, q, hq⟩ := takeStaged_shows s r
    have hx : v.toNat + 2 ^ 32 * (s.rq r).staged.toNat < 2 ^ 64 := by
      have := v.isLt
      have := (s.rq r).staged.isLt
      omega
    have e : timeOffsetWrite r i v s = ((s.takeStaged r).2.putPair (R.TIME_TB_i_OFFSET_LO i) (v.toNat + 2 ^ 32 * (s.rq r).staged.toNat)).updTb i
        (fun b => { b with anchor := (s.takeStaged r).2.now }) := by
      rw [timeOffsetWrite, offsetCommit_run h, h1]
    rw [hq] at e h2
    obtain ⟨k1, k2⟩ := tbPair_shows { s with req := q } i hx _ rfl
    generalize State.putPair _ _ _ = u at *
    have hb := tbGet_updTb u i (fun b => { b with anchor := s.now })
    obtain ⟨⟨a, rfl⟩, hr⟩ := k2
    exact completes_of_eq rfl e ⟨k1, h2, congrArg TBase.anchor hb, ((RegsIf.refl.of_regs rfl).trans hr).of_regs rfl, rfl⟩
  · intro s r v h
    obtain ⟨h1, h2, q, hq⟩ := takeStaged_shows s r
    have hg : (s.takeStaged r).2.tb0Governed = false := by
      rw [hq]
      exact h
    have e : timeOffsetWrite r 0 v s = ((s.takeStaged r).2.putPair (R.TIME_TB_i_OFFSET_LO 0)
        (toBits 64 (nearest10 (sext 64 (v.toNat + 2 ^ 32 * (s.rq r).staged.toNat))))).updTb 0 (fun b => { b with anchor := (s.takeStaged r).2.now }) := by
      rw [timeOffsetWrite, offsetCommit_zero hg, h1]
    rw [hq] at e h2
    obtain ⟨k1, k2⟩ := tbPair_shows { s with req := q } 0 (toBits_lt_word (nearest10 (sext 64 (v.toNat + 2 ^ 32 * (s.rq r).staged.toNat)))) _ rfl
    have hz : (0 : Fin 4).val = 0 := rfl
    rw [hz] at k1 k2
    generalize State.putPair _ _ _ = u at *
    obtain ⟨⟨a, rfl⟩, hr⟩ := k2
    exact completes_of_eq rfl e ⟨k1, h2⟩
  · intro s r i v h
    obtain ⟨h1, h2, q, hq⟩ := takeStaged_shows s r
    have e : timeAdjWrite r i v s = (s.takeStaged r).2.putPair (R.TIME_TB_i_OFFSET_LO i)
        (toBits 64 ((s.takeStaged r).2.tbOffset i + sext 64 (v.toNat + 2 ^ 32 * (s.rq r).staged.toNat))) := by
      rw [timeAdjWrite, State.adjCommit, if_neg fun g => h g.1, if_neg h, State.tbAdd, h1]
    have ho : (s.takeStaged r).2.tbOffset i = sext 64 (s.pair (R.TIME_TB_i_OFFSET_LO i)) := by
      rw [hq]
      rfl
    rw [ho, toBits_add_sext, hq] at e
    rw [hq] at h2
    obtain ⟨k1, k2⟩ := tbPair_shows { s with req := q } i (Nat.mod_lt (s.pair (R.TIME_TB_i_OFFSET_LO i) + (v.toNat + 2 ^ 32 * (s.rq r).staged.toNat))
      (by decide : 0 < 2 ^ 64)) _ rfl
    generalize State.putPair _ _ _ = u at *
    obtain ⟨⟨a, rfl⟩, hr⟩ := k2
    exact completes_of_eq rfl e ⟨k1, h2, (RegsIf.refl.of_regs rfl).trans hr, rfl⟩
  · intro s r v h
    obtain ⟨-, h2, q, hq⟩ := takeStaged_shows s r
    have hg : (s.takeStaged r).2.tb0Governed = true := by
      rw [hq]
      exact h
    have e : timeOffsetWrite r 0 v s = (s.takeStaged r).2.timeDrop := if_pos ⟨rfl, hg⟩
    rw [hq] at e h2
    exact completes_of_eq rfl e (timeDropped_shows s r q h2)
  · intro s r v h
    obtain ⟨-, h2, q, hq⟩ := takeStaged_shows s r
    have hg : (s.takeStaged r).2.tb0Governed = true := by
      rw [hq]
      exact h
    have e : timeAdjWrite r 0 v s = (s.takeStaged r).2.timeDrop := if_pos ⟨rfl, hg⟩
    rw [hq] at e h2
    exact completes_of_eq rfl e (timeDropped_shows s r q h2)
  · intro s r i h
    have hf : s.format (s.tbVal i) = longForm (s.tbVal i) := by rw [State.format, h, if_neg (by simp)]
    obtain ⟨h1, h2, h3, h4⟩ := timeTbNsRead_shows s r i _ hf _ rfl
    refine ⟨_, rfl, ?_, ?_, ?_, h4⟩
    · rw [h1, BitVec.toNat_ofNat, longForm]
      dsimp only
      omega
    · rw [h2, BitVec.toNat_ofNat, longForm]
      dsimp only
      omega
    · rw [h3, BitVec.toNat_ofNat, longForm]
      dsimp only
      omega
  · intro s r i h
    have hf : s.format (s.tbVal i) = (s.tbVal i % 2 ^ 32, 0, 0) := by rw [State.format, h, if_pos rfl]
    obtain ⟨h1, h2, h3, -⟩ := timeTbNsRead_shows s r i _ hf _ rfl
    refine ⟨_, rfl, ?_, h2, h3⟩
    rw [h1, BitVec.toNat_ofNat]
    dsimp only
    omega
  · intro s r v x h0 h hl
    obtain ⟨h1, h2, h3⟩ := tsqDrop_shows s (List.mem_of_find?_eq_some h) hl _ rfl
    refine completes_of_eq rfl (tsqFind_hit h0 h r) ⟨h1, h2, ?_, ?_, ?_, RegsIf.of_regs h3 rfl⟩
    · rw [rq_updRq, BitVec.toNat_ofNat]
    · rw [rq_updRq, BitVec.toNat_ofNat]
    · rw [rq_updRq, BitVec.toNat_ofNat]
  · intro s r v h
    have e : tsqFind r v s = s.updRq r (fun c => { c with tsqEnt := 0, tsqNs := 0, tsqSecl := 0, tsqSech := 0 }) := by
      rw [tsqFind, h]
      rfl
    exact completes_of_eq rfl e ⟨by rw [rq_updRq], by rw [rq_updRq], by rw [rq_updRq], by rw [rq_updRq], rfl⟩
  · intro s h
    exact congrArg Host.Outcome.next (if_pos h)
  · intro s h
    exact congrArg Host.Outcome.next (if_neg (by simp [h]))
  · intro s k g c res hr hu hp hg _ hf ha hd hc
    obtain ⟨h1, h2, h3, h4, -, h6, h7⟩ := syncMsg_shows (res := res) hr hu hp hg hf ha hd _ rfl
    exact ⟨_, rfl, h1, h2, h3.trans (by omega), h4 hc, h6, h7⟩
  · intro s k g c res hr hu hp hg _ hf ha hd hc
    obtain ⟨-, -, h3, -, h5, -, h7⟩ := syncMsg_shows (res := res) hr hu hp hg hf ha hd _ rfl
    refine ⟨_, rfl, h5 hc, h3.trans (by omega), ?_⟩
    rw [State.pair, RegsIf.num h7 (by decide), RegsIf.num h7 (by decide), State.pair]
  · intro s k g c res h
    exact congrArg Host.Outcome.next (if_pos h)
  · intro s
    rfl
  · intro s k g res h
    exact congrArg Host.Outcome.next (if_pos h)
  · intro s k g res x h hx
    refine completes_of_eq rfl (echoRsp_run h) ?_
    have hm : x % 2 ^ 20 = x := Nat.mod_eq_of_lt hx
    have hv : x < 2 ^ 32 := by omega
    rw [State.setLat, hm]
    have g1 : (s.putN (R.ULT_Pk_LAT k) x).get (F.ULT_Pk_LAT_PS k) = x := by
      have hn := num_putN_same s (R.ULT_Pk_LAT k) x hv
      rw [State.num] at hn
      rw [State.get, bitsOf, F.ULT_Pk_LAT_PS]
      dsimp only
      rw [hn]
      omega
    have hs : RegStep (· ∉ [R.ULT_Pk_LAT k, R.ULT_Pk_STATUS k]) s (s.putN (R.ULT_Pk_LAT k) x) := RegStep.refl.putN (by simp)
    generalize s.putN (R.ULT_Pk_LAT k) x = u at *
    have hs2 : RegStep (· ∉ [R.ULT_Pk_LAT k, R.ULT_Pk_STATUS k]) s (u.put (F.ULT_Pk_STATUS_LONG k) (b2n (decide (20000 < x)))) :=
      hs.put (by simp [F.ULT_Pk_STATUS_LONG])
    refine ⟨?_, ?_, hs2.2, hs2.others⟩
    · rw [get_put_apart _ _ _ _ (by apply all_fin k; decide +kernel), g1]
    · rw [get_put_same _ _ _ (Fld.fits_of_lt (n := 2) (by simp [F.ULT_Pk_STATUS_LONG]) (by rw [b2n]; split <;> decide)), b2n]
      simp
  · intro s hr hh hf ha
    obtain ⟨h1, h2, h3, h4, h5, h6⟩ := missedShown_shows s _ rfl
    have hf' := (h6.2.get (f := F.TIME_CTRL_FALLBACK) (by decide)).trans hf
    have e := syncMissed_run hr hh
    generalize s.missedShown = u at *
    rw [fallbackUpdate_idle (s := { u with time := { u.time with clean := 0 } }) hf' (h5.trans ha)] at e
    obtain ⟨⟨a, rfl⟩, hk⟩ := h6
    exact completes_of_eq rfl e ⟨h1, h2, h3, h4, rfl, RegsIf.of_regs hk rfl, rfl⟩
  · intro s ha hf
    refine congrArg Host.Outcome.next ((if_pos (by simp [is_eq, ha])).trans ?_)
    have h0 : nearest10 (sext 64 (toBits 64 ((s.tbVal (s.get F.TIME_CTRL_FALLBACK) : Int) - s.tbVal 0))) = 0 := by
      rw [hf, sub_self]
      decide
    rw [State.fallbackAdd, h0, State.tb0Step, if_pos rfl]
  · intro s d ha hd h0
    have e : fallbackStep s = s.tb0Step d := by
      rw [fallbackStep, if_pos (by simp [is_eq, ha]), State.fallbackAdd, ← hd]
    rw [tb0Step_run h0] at e
    obtain ⟨h1, h2, h3, h4⟩ := tb0Stepped_shows s d _ rfl
    generalize s.tb0Stepped d = u at *
    exact completes_of_eq rfl e ⟨h1, h2, h3, h4, rfl⟩
  · intro s d h
    refine congrArg Host.Outcome.next ?_
    rw [ethFrameTransmit, h]
  · intro s d h he hl
    obtain ⟨a, b, c, hx⟩ := ethFrameTransmit_event he
    rw [tsqPush_room (s := s.frameOut d) hl] at hx
    have hc : F.TIME_TSQ_STATUS_COUNT.fits (s.time.tsq.length + 1) = true := Fld.fits_of_lt (n := 32) rfl (by omega)
    have hg := fun u : State => get_put_same u F.TIME_TSQ_STATUS_COUNT (s.time.tsq.length + 1) hc
    refine completes_of_eq rfl hx ?_
    rw [put_time, put_time]
    refine ⟨rfl, List.length_append, ⟨_, rfl, rfl, rfl⟩, ?_, get_put_same _ _ _ (by decide)⟩
    rw [get_put_apart _ _ _ _ (by decide)]
    exact hg _
  · intro s d ok h
    have e : ethFrameReceive d ok s = { s with mgmt := { s.mgmt with eth := s.mgmt.eth ++
        [leBytes 2 d.length ++ leBytes 2 (if ok then 1 else 0) ++ List.replicate 12 0 ++ d] } } := by
      rw [ethFrameReceive, h]
      simp [b2n, leBytes, List.replicate]
    exact completes_of_eq rfl e ⟨rfl, rfl⟩

end Sys2Proof.Machine
end

section
-- One proof at a time: the whole text then stays within the memory the check allows.
set_option Elab.async false
/-! PROOFS. O28: GO of a site and of a span. -/

namespace Sys2Proof.Machine
open State

/-! ### A halt leaves the events of the site but the end of a span -/

/-- The events of a site. -/
def IsEvent (n o : Nat) : Prop := o = R.SITE_n_EVENT n

section
variable {n : Nat} (hn : n < 64)
include hn

theorem not_isEvent {o : Nat} (h : o < 0x6000000 ∧ (o < 0x2000000 ∨ 0x2020000 ≤ o) ∨ 0x6010000 ≤ o) : ¬ IsEvent n o := fun e => by
  simp only [IsEvent, R.SITE_n_EVENT] at e
  omega

theorem evKept_invalidate (s : State) (i : Nat) : CtxKept (IsEvent n) s (s.invalidate n i) := by
  have h : ¬ IsEvent n (R.FAIL_SITE_n_RESULT n) := fun e => by
    simp only [IsEvent, R.SITE_n_EVENT, R.FAIL_SITE_n_RESULT] at e
    omega
  exact CtxKept.refl.regs (((RegStep.refl.putBit h).putBit h).putBit h)

theorem evKept_collide (s : State) (c k : Nat) : CtxKept (IsEvent n) s (s.collide n c k) := by
  have h1 : CtxKept (IsEvent n) s ((s.addSat (R.TSET_SITE_n_COLL_CNT n) k).addSat (R.CLU_k_EC_COLL_j (c / 16) (c % 16)) k) := by
    refine (CtxKept.refl.addSat fun e => ?_).addSat fun e => ?_
    all_goals
      simp only [IsEvent, R.SITE_n_EVENT, R.TSET_SITE_n_COLL_CNT, R.CLU_k_EC_COLL_j] at e
      omega
  rw [State.collide]
  split
  · exact CtxKept.refl
  · dsimp only
    split
    · refine ((h1.put fun e => ?_).put fun e => ?_).trans (evKept_invalidate hn _ _)
      all_goals
        simp only [IsEvent, R.SITE_n_EVENT, F.TSET_SITE_n_STATUS_COLLIDE_OVER, R.TSET_SITE_n_STATUS, F.TSET_EVENT_COLLIDE_OVER, R.TSET_EVENT] at e
        omega
    · exact h1

theorem evKept_fireSite (s : State) (t : Option Nat) : CtxKept (IsEvent n) s (s.fireSite n t) :=
  CtxKept.refl.each fun h => h.trans ((CtxKept.of_eq (by rfl) (by rfl)).trans (evKept_collide hn _ _ _))

theorem evKept_replaceStaged (s : State) (m : Nat) (f : EcSlot → Bool) : CtxKept (IsEvent n) s (s.replaceStaged m f) := by
  refine CtxKept.refl.each fun h => h.each_mem fun {t i} hi g => ?_
  have hi' : i < 32 := List.mem_range.1 (List.mem_filter.1 hi).1
  have hs : ∀ k : Nat, ¬ IsEvent n (R.CLU_k_EC_SLOT_i k i) := fun k e => by
    simp only [IsEvent, R.SITE_n_EVENT, R.CLU_k_EC_SLOT_i] at e
    omega
  split
  · refine g.trans ?_
    rw [State.replaceSlot]
    split
    · exact CtxKept.put (CtxKept.put (CtxKept.put (CtxKept.of_eq (by rfl) (by rfl)) (hs _)) (hs _)) (hs _)
    · exact CtxKept.refl
  · exact g

theorem evKept_artClear (s : State) : CtxKept (IsEvent n) s (s.artClear n) := by
  refine CtxKept.refl.each_mem fun {t i} hi h => ?_
  have hi' : i < 256 := by simp [artSlots] at hi; omega
  have ha : ¬ IsEvent n (R.DRW_ART_n i) := fun e => by
    simp only [IsEvent, R.SITE_n_EVENT, R.DRW_ART_n] at e
    omega
  exact (h.regs (RegStep.refl.setWord ha)).trans (CtxKept.of_eq (by rfl) (by rfl))

theorem evKept_dropStreams (s : State) : CtxKept (IsEvent n) s (s.dropStreams n) :=
  CtxKept.putN (CtxKept.of_eq (by rfl) (by rfl)) fun e => by
    simp only [IsEvent, R.SITE_n_EVENT, R.STRM_SITE_n_FILL] at e
    omega

theorem evKept_chargeRelease (s : State) : CtxKept (IsEvent n) s (s.chargeRelease n) := by
  refine CtxKept.put (CtxKept.put (CtxKept.putN (CtxKept.putN (CtxKept.of_eq (by rfl) (by rfl)) ?_) ?_) ?_) ?_
  all_goals
    refine fun e => ?_
    simp only [IsEvent, R.SITE_n_EVENT, R.GOV_SITE_n_CHARGE, F.GOV_SITE_n_STATUS_STATE, R.GOV_SITE_n_STATUS, R.GOV_PWR_CHARGED,
      F.GOV_STATUS_OVER, R.GOV_STATUS] at e
    omega

omit hn in
theorem evKept_lanesHalt (s : State) : CtxKept (IsEvent n) s (s.lanesHalt n) := by
  refine CtxKept.refl.each fun h => ?_
  split
  · exact h.trans (CtxKept.of_eq (by rfl) (by rfl))
  · exact h

theorem evKept_capture (s : State) (v g : Nat) (r : List Byte) : CtxKept (IsEvent n) s (s.capture n v g r) := by
  have hl : ¬ IsEvent n (R.CAPT_SITE_n_LOST n) := fun e => by
    simp only [IsEvent, R.SITE_n_EVENT, R.CAPT_SITE_n_LOST] at e
    omega
  rw [State.capture]
  split
  · exact CtxKept.refl
  · split
    · exact CtxKept.refl.bump hl
    · split
      · refine CtxKept.bump (CtxKept.put (CtxKept.put (CtxKept.of_eq (by rfl) (by rfl)) ?_) ?_) hl
        all_goals
          refine fun e => ?_
          simp only [IsEvent, R.SITE_n_EVENT, F.CAPT_SITE_n_STATUS_OVERFLOW, R.CAPT_SITE_n_STATUS, F.CAPT_EVENT_OVERFLOW, R.CAPT_EVENT] at e
          omega
      · exact CtxKept.of_eq (by rfl) (by rfl)

theorem evKept_captFinish (s : State) : CtxKept (IsEvent n) s (s.captFinish n) := by
  rw [State.captFinish]
  split
  · exact CtxKept.refl
  · split
    · refine CtxKept.put (CtxKept.trans (CtxKept.when (CtxKept.each CtxKept.refl fun h => h.trans (evKept_capture hn _ _ _ _))
        fun h => h.trans (evKept_capture hn _ _ _ _)) (CtxKept.of_eq (by rfl) (by rfl))) fun e => ?_
      simp only [IsEvent, R.SITE_n_EVENT, F.CAPT_SITE_n_STATUS_CAPTURING, R.CAPT_SITE_n_STATUS] at e
      omega
    · exact CtxKept.refl

end

/-- The end of a span does not take back that GO was late. -/
theorem goLate_spanCheck (s : State) (n : Site) : (s.spanCheck n).get (F.SITE_n_EVENT_GO_LATE n) = s.get (F.SITE_n_EVENT_GO_LATE n) := by
  rw [State.spanCheck]
  split
  · rw [State.spanFinish, get_updSite, get_put_apart _ _ _ _ (by apply all_fin n; decide +kernel), get_putN_apart _ _ _ _ (by apply all_fin n; decide +kernel)]
  · rfl

theorem goLate_haltRest (s : State) (n : Site) : (haltRest s n).get (F.SITE_n_EVENT_GO_LATE n) = s.get (F.SITE_n_EVENT_GO_LATE n) := by
  have h := ((((((evKept_replaceStaged n.isLt s n (fun _ => true)).trans (evKept_artClear n.isLt _)).trans (evKept_dropStreams n.isLt _)).trans
    (evKept_chargeRelease n.isLt _)).trans (evKept_lanesHalt _)).trans (evKept_captFinish n.isLt _)).1.get (f := F.SITE_n_EVENT_GO_LATE n) rfl
  rw [haltRest]
  split
  · exact h
  · rw [goLate_spanCheck, State.spanCast, sendAll_eq, get_withSent, get_updSite, h]

theorem goLate_haltSite (s : State) (n : Site) (code : Nat) (at_ : Nat × Nat) (poison : Bool) :
    (s.haltSite n code at_ poison).get (F.SITE_n_EVENT_GO_LATE n) = s.get (F.SITE_n_EVENT_GO_LATE n) := by
  have h1 : (haltShown s n code at_ poison).get (F.SITE_n_EVENT_GO_LATE n) = s.get (F.SITE_n_EVENT_GO_LATE n) := by
    rw [haltShown, State.when]
    cases poison <;> simp -implicitDefEqProofs (disch := (apply all_fin n; decide +kernel)) [State.setSiteState]
  have h2 : ((haltShown s n code at_ poison).fireSite n none).get (F.SITE_n_EVENT_GO_LATE n) = _ :=
    (evKept_fireSite n.isLt (haltShown s n code at_ poison) none).1.get (f := F.SITE_n_EVENT_GO_LATE n) rfl
  rw [haltSite_eq, goLate_haltRest, get_congr (haltPlay_regs _ _ _), haltResult, get_putN_apart _ _ _ _ (by apply all_fin n; decide +kernel), h2, h1]

/-- A halt leaves the result of GO. -/
theorem goResult_haltSite (s : State) (n : Site) (code : Nat) (at_ : Nat × Nat) (poison : Bool) :
    (s.haltSite n code at_ poison).get (F.SITE_n_STATUS_GO_RESULT n) = s.get (F.SITE_n_STATUS_GO_RESULT n) := by
  have h1 : (haltShown s n code at_ poison).get (F.SITE_n_STATUS_GO_RESULT n) = s.get (F.SITE_n_STATUS_GO_RESULT n) := by
    rw [haltShown, State.when]
    cases poison <;> simp -implicitDefEqProofs (disch := (apply all_fin n; decide +kernel)) [State.setSiteState]
  have h2 : ((haltShown s n code at_ poison).fireSite n none).get (F.SITE_n_STATUS_GO_RESULT n) = _ :=
    (ctxKept_fireSite n.isLt (haltShown s n code at_ poison) none).1.get (f := F.SITE_n_STATUS_GO_RESULT n)
      (by simp [haltRegs, F.SITE_n_STATUS_GO_RESULT])
  have h3 : ∀ u : State, (haltRest u n).get (F.SITE_n_STATUS_GO_RESULT n) = u.get (F.SITE_n_STATUS_GO_RESULT n) := fun u =>
    (ctxKept_haltRest n.isLt u).1.get (f := F.SITE_n_STATUS_GO_RESULT n) (by simp [shownRegs, haltRegs, F.SITE_n_STATUS_GO_RESULT])
  rw [haltSite_eq, h3, get_congr (haltPlay_regs _ _ _), haltResult, get_putN_apart _ _ _ _ (by apply all_fin n; decide +kernel), h2, h1]

/-! ### The commands -/

theorem siteCmd_idle {s : State} {n : Nat} (h : s.get (F.SITE_n_STATUS_BUSY n) = 0) (f : State → State) : s.siteCmd n f = f s :=
  if_neg (by simp [is_eq, h])

theorem goResult_shows (s : State) (n : Site) {r : Nat} (hr : r < 256) (t : State) (ht : t = s.goResult n r) :
    t.get (F.SITE_n_STATUS_GO_RESULT n) = r ∧ t.get (F.SITE_n_EVENT_CMD_DONE n) = 1 ∧ t.siteState n = s.siteState n ∧
      RegStep (· ∉ [R.SITE_n_STATUS n, R.SITE_n_EVENT n]) s t := by
  have hf : (F.SITE_n_STATUS_GO_RESULT n).fits r = true := Fld.fits_of_lt (n := 256) (by simp [F.SITE_n_STATUS_GO_RESULT]) hr
  rw [ht, State.goResult]
  refine ⟨?_, get_put_same _ _ _ (by apply all_fin n; decide +kernel), ?_, (RegStep.refl.put ?_).put ?_⟩
  · rw [get_put_apart _ _ _ _ (by apply all_fin n; decide +kernel), get_put_same _ _ _ hf]
  · rw [State.siteState, get_put_apart _ _ _ _ (by apply all_fin n; decide +kernel), get_put_apart _ _ _ _ (by apply all_fin n; decide +kernel),
      State.siteState]
  · simp [F.SITE_n_STATUS_GO_RESULT]
  · simp [F.SITE_n_EVENT_CMD_DONE]

/-- A change of state keeps the other fields of the site's status. -/
theorem goResult_setSiteState (s : State) (n : Site) (st : Nat) :
    (s.setSiteState n st).get (F.SITE_n_STATUS_GO_RESULT n) = s.get (F.SITE_n_STATUS_GO_RESULT n) := by
  rw [State.setSiteState, get_put_apart _ _ _ _ (by apply all_fin n; decide +kernel), get_put_apart _ _ _ _ (by apply all_fin n; decide +kernel)]

/-- A message leaves by a port, or is counted as unroutable. -/
theorem sendTo_others (s : State) (m : Msg) : (∃ a u, s.sendTo m = { s with regs := a, ult := u }) ∧ RegsIf (· ≠ R.ULT_UNROUTABLE) s (s.sendTo m) := by
  rw [State.sendTo]
  split
  · split
    · exact ⟨⟨s.regs, _, rfl⟩, RegsIf.refl.of_regs rfl⟩
    · exact ⟨⟨s.regs, s.ult, rfl⟩, RegsIf.refl⟩
  · exact ⟨⟨s.regs, s.ult, rfl⟩, RegsIf.refl⟩
  · obtain ⟨⟨a, ha⟩, hr⟩ : RegStep (· ≠ R.ULT_UNROUTABLE) s (s.when s.isRoot fun t => t.bump R.ULT_UNROUTABLE) :=
      RegStep.when RegStep.refl fun h => h.bump fun h => h rfl
    exact ⟨⟨a, s.ult, ha⟩, hr⟩

theorem siteGo_alone {s : State} {n : Nat} (hb : s.get (F.SITE_n_STATUS_BUSY n) = 0) (hs : s.siteState n = 1) (hr : (s.siteOf n).role = 0) :
    siteGo n s = (s.setSiteState n stStarting).updSite n (fun x => { x with goAt := s.now, tgo := none, answers := [], readySent := false }) := by
  have h1 : ¬ (s.siteState n ≠ stArmed) := not_not.2 hs
  have h2 : (s.siteOf n).role ≠ 2 := by omega
  rw [siteGo, siteCmd_idle hb]
  dsimp only
  exact (if_neg h1).trans ((if_neg h2).trans (if_pos hr))

/-- A state change and a change of the site's own record. -/
theorem stateAndSite_shows (s : State) (n : Site) {st : Nat} (hst : st < 8) (f : SiteSt → SiteSt) (t : State) (ht : t = (s.setSiteState n st).updSite n f) :
    t.siteState n = st ∧ t.siteOf n = f (s.siteOf n) ∧ RegsBut [R.SITE_n_STATUS n, R.SEQ_CTX_n_STATE n] s t ∧
      t.get (F.SITE_n_STATUS_GO_RESULT n) = s.get (F.SITE_n_STATUS_GO_RESULT n) ∧ ∃ a y, t = { s with regs := a, site := y } := by
  obtain ⟨h1, h2⟩ := setSiteState_shows s n hst _ rfl
  have h3 := goResult_setSiteState s n st
  generalize s.setSiteState n st = u at *
  have h4 := siteOf_regStep h2 n
  obtain ⟨⟨a, rfl⟩, hr⟩ := h2
  rw [ht]
  exact ⟨h1, by rw [siteOf_updSite, h4], RegsIf.of_regs hr rfl, h3, a, _, rfl⟩

theorem goSchedule_run {s : State} {n : Nat} (hs : s.siteState n = 2) (ht : (s.siteOf n).tgo = none) (hr : (s.siteOf n).readySent = false)
    (hw : s.cal.span.goWaits = false) (hg : s.goReady n = true) : goSchedule n s =
    if (s.siteOf n).role = 0 then s.updSite n (fun x => { x with tgo := some (s.leadTime (s.get (F.SITE_n_GO_CFG_LEAD n))) })
    else if (s.siteOf n).role = 1 then
      (s.updSite n (fun x => { x with readySent := true })).goAnswer n (s.siteOf n).index (s.get (F.SEQ_CTX_n_SPAN_LAT_NS n)) (s.siteOf n).chips
    else (s.updSite n (fun x => { x with readySent := true })).spanSend (s.siteOf n).primary 2
      [(s.updSite n (fun x => { x with readySent := true })).spanIdxBlock n (s.get (F.SEQ_CTX_n_SPAN_LAT_NS n) * 2 ^ 24 + (s.siteOf n).chips)] := by
  rw [goSchedule]
  exact if_pos ⟨hs, by rw [ht]; rfl, by simp [hr], by simp [hw], hg⟩

/-! ### The start -/

/-- T_go is reached, and shown. -/
def State.goneShown (s : State) (n g : Nat) : State :=
  ((s.putPair (R.SITE_n_T0_LO n) g).goResult n 1).updSite n (fun x => { x with tgo := none, seqNo := 0, flagsIn := [] })

theorem siteStart_run {s : State} {n g : Nat} (h : (s.siteOf n).tgo = some g) (hs : s.siteState n = 2) : siteStart n s = (s.goneShown n g).startPlay n := by
  rw [siteStart, h]
  exact if_pos hs

theorem goneShown_shows (s : State) (n : Site) (g : Nat) (t : State) (ht : t = s.goneShown n g) :
    t.pair (R.SITE_n_T0_LO n) = g % 2 ^ 64 ∧ t.get (F.SITE_n_STATUS_GO_RESULT n) = 1 ∧ t.get (F.SITE_n_EVENT_CMD_DONE n) = 1 ∧
      (t.siteOf n).tgo = none ∧ ∃ a y, t = { s with regs := a, site := y } := by
  have hp : (s.putPair (R.SITE_n_T0_LO n) g).pair (R.SITE_n_T0_LO n) = g % 2 ^ 64 := pair_putPair_mod _ _ _
  have hx : RegStep (fun _ => False) s (s.putPair (R.SITE_n_T0_LO n) g) := RegStep.refl.putPair (by simp) (by simp)
  rw [State.goneShown] at ht
  generalize s.putPair (R.SITE_n_T0_LO n) g = u at *
  obtain ⟨h1, h2, -, h4⟩ := goResult_shows u n (r := 1) (by decide) _ rfl
  generalize u.goResult n 1 = w at *
  have hw : w.pair (R.SITE_n_T0_LO n) = u.pair (R.SITE_n_T0_LO n) := by
    rw [State.pair, h4.2.num (by apply all_fin n; decide +kernel), h4.2.num (by apply all_fin n; decide +kernel), State.pair]
  have hs : (t.siteOf n).tgo = none := by rw [ht, siteOf_updSite]
  obtain ⟨⟨a, rfl⟩, -⟩ := hx
  obtain ⟨⟨b, rfl⟩, -⟩ := h4
  exact ⟨by rw [ht]; exact hw.trans hp, by rw [ht]; exact h1, by rw [ht]; exact h2, hs, b, _, ht⟩

theorem regStep_setsShow (s : State) (n : Nat) :
    RegStep (fun o => o ≠ R.SEQ_CTX_n_SETS n ∧ o ≠ R.SEQ_CTX_n_SHADOW n) s (s.setsShow n) :=
  ((RegStep.refl.putN fun h => h.1 rfl).put fun h => h.2 rfl).put fun h => h.2 rfl

theorem startPlay_shows (s : State) (n : Site) (t : State) (ht : t = s.startPlay n) : t.siteState n = 3 ∧ (t.playOf n).on = true ∧
    (t.playOf n).origin = 32000 * s.now ∧ (t.playOf n).gStart = 0 ∧ (t.playOf n).inFrame = 16 ∧ t.site = s.site ∧
    t.get (F.SITE_n_STATUS_GO_RESULT n) = s.get (F.SITE_n_STATUS_GO_RESULT n) ∧
    RegsIf (fun o => o ∉ [R.SITE_n_STATUS n, R.SEQ_CTX_n_STATE n] ∧ o ≠ R.SEQ_CTX_n_SETS n ∧ o ≠ R.SEQ_CTX_n_SHADOW n) s t ∧
    ∃ a x, t = { s with regs := a, seq := x } := by
  obtain ⟨h1, h2⟩ := setSiteState_shows s n (st := stRunning) (by decide) _ rfl
  have h3 := goResult_setSiteState s n stRunning
  have hn : ∃ f : Play → Play, t = ((s.setSiteState n stRunning).updPlay n f).setsShow n ∧
      ∀ p, (f p).on = true ∧ (f p).origin = 32000 * s.now ∧ (f p).gStart = 0 ∧ (f p).inFrame = 16 := by
    rw [ht, State.startPlay]
    exact ⟨_, rfl, fun p => ⟨rfl, rfl, rfl, rfl⟩⟩
  obtain ⟨f, hf, hp⟩ := hn
  generalize s.setSiteState n stRunning = u at *
  have hq := playOf_updPlay u n f
  have hx : ∃ x, u.updPlay n f = { u with seq := x } := ⟨_, rfl⟩
  generalize u.updPlay n f = w at *
  have hs := regStep_setsShow w n
  have hpl := playOf_regStep hs n
  rw [← hf] at hs hpl
  have hst : t.siteState n = w.siteState n := hs.2.get (by
    simp only [F.SITE_n_STATUS_STATE, R.SITE_n_STATUS, R.SEQ_CTX_n_SETS, R.SEQ_CTX_n_SHADOW]
    omega)
  have hgo : t.get (F.SITE_n_STATUS_GO_RESULT n) = w.get (F.SITE_n_STATUS_GO_RESULT n) := hs.2.get (by
    simp only [F.SITE_n_STATUS_GO_RESULT, R.SITE_n_STATUS, R.SEQ_CTX_n_SETS, R.SEQ_CTX_n_SHADOW]
    omega)
  obtain ⟨p1, p2, p3, p4⟩ := hp (u.playOf n)
  rw [← hq, ← hpl] at p1 p2 p3 p4
  obtain ⟨⟨a, rfl⟩, hr⟩ := h2
  obtain ⟨x, rfl⟩ := hx
  obtain ⟨⟨b, rfl⟩, hk⟩ := hs
  exact ⟨hst.trans h1, p1, p2, p3, p4, rfl, hgo.trans h3, fun o ho => (hk o ho.2).trans (hr o ho.1), b, x, rfl⟩

/-! ### Messages of a span -/

theorem hear_site (s : State) (n i : Nat) : (s.hear n i).siteOf n = { s.siteOf n with heard := Tab.ins i s.now (s.siteOf n).heard } := siteOf_updSite _ _ _

/-- The state of a site after a message of its span came in. -/
theorem heard_shows (s : State) (u : UltState) (n i : Nat) (t : State) (ht : t = ({ s with ult := u } : State).hear n i) :
    t.siteOf n = { s.siteOf n with heard := Tab.ins i s.now (s.siteOf n).heard } ∧ ∃ y, t = { s with ult := u, site := y } := by
  rw [ht]
  exact ⟨hear_site _ _ _, _, rfl⟩

/-- A cancelled GO. -/
theorem goCancel_shows (s : State) (n : Site) {r : Nat} (hr : r < 256) (t : State) (ht : t = s.goCancel n r) :
    t.siteState n = 1 ∧ t.get (F.SITE_n_STATUS_GO_RESULT n) = r ∧ t.get (F.SITE_n_EVENT_CMD_DONE n) = 1 ∧ (t.siteOf n).answers = [] ∧
      (t.siteOf n).tgo = none ∧ t.mem = s.mem := by
  have hs : ∃ l, s.goCancel n r = (((s.withSent l).goResult n r).setSiteState n stArmed).updSite n
      (fun x => { x with answers := [], readySent := false, tgo := none }) := ⟨_, by rw [State.goCancel, State.spanAll, sendAll_eq]⟩
  obtain ⟨l, hl⟩ := hs
  rw [hl] at ht
  obtain ⟨h1, h2, -, h4⟩ := goResult_shows (s.withSent l) n hr _ rfl
  generalize (s.withSent l).goResult n r = u at *
  obtain ⟨k1, k2, k3, k4, a, y, k5⟩ := stateAndSite_shows u n (st := stArmed) (by decide) _ t ht
  have hc := RegsIf.get k3 (f := F.SITE_n_EVENT_CMD_DONE n) (by
    simp only [F.SITE_n_EVENT_CMD_DONE, R.SITE_n_EVENT, R.SITE_n_STATUS, R.SEQ_CTX_n_STATE, List.mem_cons, List.not_mem_nil, or_false]
    omega)
  obtain ⟨⟨b, rfl⟩, -⟩ := h4
  exact ⟨k1, k4.trans h1, hc.trans h2, by rw [k2], by rw [k2], by rw [k5] <;> rfl⟩

/-- A member's answer reaches the primary. -/
theorem goReadyIn_run {s : State} {n dest sp : Nat} (hd : s.route dest = .here) (hs : s.spanSite sp = some n) (h2 : s.siteState n = 2)
    (hr : (s.siteOf n).role = 1) (ht : (s.siteOf n).tgo = none) (src idx lat chips : Nat) :
    goReadyIn dest src sp idx lat chips s = (s.hear n idx).goAnswer n idx lat chips := by
  rw [goReadyIn, unicastIn_here hd, hs]
  refine if_pos ⟨h2, ?_, ?_⟩
  · rw [hear_site]
    exact hr
  · rw [hear_site]
    dsimp only
    rw [ht]
    rfl

/-- The primary keeps a new answer that fits. -/
def State.answered (s : State) (n idx lat chips : Nat) : State := s.updSite n (fun x => { x with answers := x.answers ++ [(idx, lat, chips)] })

theorem goAnswer_fits {s : State} {n idx lat chips : Nat} (h : (s.siteOf n).answers.any (fun a => a.1 == idx) = false)
    (hl : lat = s.get (F.SEQ_CTX_n_SPAN_LAT_NS n)) (hc : chips = (s.siteOf n).chips) : s.goAnswer n idx lat chips =
    if (s.siteOf n).chips ≤ (s.siteOf n).answers.length + 1 then
      ((s.answered n idx lat chips).spanAll n 3 [(s.answered n idx lat chips).spanBlock n 0, s.leadTime (s.get (F.SITE_n_GO_CFG_LEAD n))]).updSite n
        (fun x => { x with tgo := some (s.leadTime (s.get (F.SITE_n_GO_CFG_LEAD n))) })
    else s.answered n idx lat chips := by
  rw [State.goAnswer, h, if_neg (by simp), if_neg (by simp [hl, hc])]
  rfl

theorem goAnswer_differs {s : State} {n idx lat chips : Nat} (h : (s.siteOf n).answers.any (fun a => a.1 == idx) = false)
    (hd : lat ≠ s.get (F.SEQ_CTX_n_SPAN_LAT_NS n) ∨ chips ≠ (s.siteOf n).chips) : s.goAnswer n idx lat chips = s.goCancel n 5 := by
  rw [State.goAnswer, h, if_neg (by simp), if_pos hd]

theorem siteGo_starts :
    ∀ s : State, ∀ (n : Site), s.get (F.SITE_n_STATUS_BUSY n) = 0 → s.siteState n = 1 → (s.siteOf n).role = 0 →
    Completes (.siteGo n) s (fun t => t.siteState n = 2 ∧ (t.siteOf n).goAt = s.now ∧ (t.siteOf n).tgo = none ∧
    RegsBut [R.SITE_n_STATUS n, R.SEQ_CTX_n_STATE n] s t ∧ t = { s with regs := t.regs, site := t.site }) := by
  intro s n hb hs hr
  obtain ⟨h1, h2, h3, -, a, y, h5⟩ := stateAndSite_shows s n (st := stStarting) (by decide)
    (fun x => { x with goAt := s.now, tgo := none, answers := [], readySent := false }) _ rfl
  exact completes_of_eq rfl (siteGo_alone hb hs hr) ⟨h1, congrArg SiteSt.goAt h2, congrArg SiteSt.tgo h2, h3, by rw [h5]⟩

theorem member_answers :
    ∀ s : State, ∀ (n : Site), s.siteState n = 2 → (s.siteOf n).tgo = none → (s.siteOf n).readySent = false → s.cal.span.goWaits = false →
    s.goReady n = true → (s.siteOf n).role = 2 → Completes (.goSchedule n) s (fun t => (t.siteOf n).readySent = true ∧ t.siteState n = 2 ∧
    (t.siteOf n).tgo = none ∧ t = { s with regs := t.regs, site := t.site, ult := t.ult }) := by
  intro s n hs ht hr hw hg h2
  have e := goSchedule_run hs ht hr hw hg
  rw [if_neg (by omega), if_neg (by omega)] at e
  have hx : (s.updSite n (fun x => { x with readySent := true })).siteOf n = { s.siteOf n with readySent := true } := siteOf_updSite _ _ _
  have hy : ∃ y, s.updSite n (fun x => { x with readySent := true }) = { s with site := y } := ⟨_, rfl⟩
  rw [State.spanSend] at e
  generalize s.updSite n (fun x => { x with readySent := true }) = u at *
  refine completes_of_eq rfl e ?_
  generalize ({ cls := clsTransit, mcast := false, dest := (s.siteOf n).primary, src := u.chipId, ttl := 0, typ := 2, blocks := _ } : Msg) = m
  obtain ⟨⟨a, v, hv⟩, hk⟩ := sendTo_others u m
  generalize u.sendTo m = t at *
  have h1 : t.siteOf n = u.siteOf n := siteOf_congr (by rw [hv]) n
  have h2 : t.siteState n = u.siteState n := hk.get (by
    simp only [F.SITE_n_STATUS_STATE, R.SITE_n_STATUS, R.ULT_UNROUTABLE]
    omega)
  obtain ⟨y, rfl⟩ := hy
  refine ⟨by rw [h1, hx], h2.trans hs, by rw [h1, hx]; exact ht, ?_⟩
  rw [hv]

theorem site_starts :
    ∀ s : State, ∀ (n : Site) (g : Nat), (s.siteOf n).tgo = some g → s.siteState n = 2 →
    Completes (.siteStart n) s (fun t => t.siteState n = 3 ∧ t.pair (R.SITE_n_T0_LO n) = g % 2 ^ 64 ∧
    t.get (F.SITE_n_STATUS_GO_RESULT n) = 1 ∧ t.get (F.SITE_n_EVENT_CMD_DONE n) = 1 ∧ (t.playOf n).on = true ∧
    (t.playOf n).origin = 32000 * s.now ∧ (t.playOf n).gStart = 0 ∧ (t.playOf n).inFrame = 16 ∧ (t.siteOf n).tgo = none ∧
    t = { s with regs := t.regs, site := t.site, seq := t.seq }) := by
  intro s n g h hs
  have e := siteStart_run h hs
  obtain ⟨h1, h2, h3, h4, a, y, h5⟩ := goneShown_shows s n g _ rfl
  generalize s.goneShown n g = u at *
  obtain ⟨k1, k2, k3, k4, k5, k6, k7, k8, b, x, k9⟩ := startPlay_shows u n _ rfl
  have hp : (u.startPlay n).pair (R.SITE_n_T0_LO n) = u.pair (R.SITE_n_T0_LO n) := by
    have ho : ∀ o, o = R.SITE_n_T0_LO n ∨ o = R.SITE_n_T0_LO n + 4 → (u.startPlay n).num o = u.num o := fun o ho => k8.num (by
      simp only [R.SITE_n_T0_LO, R.SITE_n_STATUS, R.SEQ_CTX_n_STATE, R.SEQ_CTX_n_SETS, R.SEQ_CTX_n_SHADOW, List.mem_cons, List.not_mem_nil, or_false] at ho ⊢
      omega)
    rw [State.pair, ho _ (.inl rfl), ho _ (.inr rfl), State.pair]
  have hc : (u.startPlay n).get (F.SITE_n_EVENT_CMD_DONE n) = u.get (F.SITE_n_EVENT_CMD_DONE n) := k8.get (by
    simp only [F.SITE_n_EVENT_CMD_DONE, R.SITE_n_EVENT, R.SITE_n_STATUS, R.SEQ_CTX_n_STATE, R.SEQ_CTX_n_SETS, R.SEQ_CTX_n_SHADOW, List.mem_cons,
      List.not_mem_nil, or_false]
    omega)
  have hst := siteOf_congr k6 n
  generalize u.startPlay n = t at *
  have hnow : u.now = s.now := by rw [h5]
  exact completes_of_eq rfl e ⟨k1, hp.trans h1, k7.trans h2, hc.trans h3, k2, by rw [k3, hnow], k4, k5, by rw [hst, h4], by rw [k9, h5]⟩

theorem goTimeout_eq {s : State} {n : Site} (hs : s.siteState n = 2) (hr : (s.siteOf n).role = 1) (ht : (s.siteOf n).tgo = none)
    (hz : s.get (F.SITE_n_GO_CFG_TMO n) ≠ 0) : ∃ f, goTimeout n s = (s.goCancel n 4).updSpan f := by
  have hc : s.siteState n = stStarting ∧ (s.siteOf n).role = 1 ∧ (s.siteOf n).tgo.isNone ∧ s.get (F.SITE_n_GO_CFG_TMO n) ≠ 0 :=
    ⟨hs, hr, by rw [ht]; rfl, hz⟩
  rw [goTimeout]
  exact ⟨_, if_pos hc⟩

theorem updSpan_shows (u : State) (f : CalSpan → CalSpan) (n : Nat) :
    (u.updSpan f).siteState n = u.siteState n ∧ (∀ g, (u.updSpan f).get g = u.get g) ∧ (u.updSpan f).siteOf n = u.siteOf n ∧
      (u.updSpan f).mem = u.mem := ⟨rfl, fun _ => rfl, rfl, rfl⟩

theorem goTimeout_arms :
    ∀ s : State, ∀ (n : Site), s.siteState n = 2 → (s.siteOf n).role = 1 → (s.siteOf n).tgo = none → s.get (F.SITE_n_GO_CFG_TMO n) ≠ 0 →
    Completes (.goTimeout n) s (fun t => t.siteState n = 1 ∧ t.get (F.SITE_n_STATUS_GO_RESULT n) = 4 ∧
    t.get (F.SITE_n_EVENT_CMD_DONE n) = 1 ∧ (t.siteOf n).answers = [] ∧ t.mem = s.mem) := by
  intro s n hs hr ht hz
  obtain ⟨f, e⟩ := goTimeout_eq hs hr ht hz
  obtain ⟨h1, h2, h3, h4, -, h6⟩ := goCancel_shows s n (r := 4) (by decide) _ rfl
  generalize s.goCancel n 4 = u at *
  obtain ⟨k1, k2, k3, k4⟩ := updSpan_shows u f n
  exact completes_of_eq rfl e ⟨k1.trans h1, (k2 _).trans h2, (k2 _).trans h3, by rw [k3, h4], k4.trans h6⟩

theorem goReq_starts :
    ∀ s : State, ∀ (n : Site) (k : Port) (ttl : Nat) (sp : Nat) (src : Nat), s.spanSite sp = some n.val → s.siteState n = 1 →
    (s.siteOf n).role = 2 → Completes (.goReq k ttl sp src) s (fun t => t.siteState n = 2 ∧ (t.siteOf n).goAt = s.now ∧
    (t.siteOf n).readySent = false ∧ RegsBut [R.SITE_n_STATUS n, R.SEQ_CTX_n_STATE n] s t ∧
    t = { s with regs := t.regs, site := t.site, ult := t.ult }) := by
  intro s n k ttl sp src hs h1 hr
  obtain ⟨u, hu⟩ := spanIn_run hs k ttl src 1 [sp * 2 ^ 48] (fun n s =>
    let s := s.hear n 0
    if s.siteState n = stArmed ∧ (s.siteOf n).role = 2 then
      (s.setSiteState n stStarting).updSite n (fun x => { x with goAt := s.now, tgo := none, readySent := false })
    else s)
  obtain ⟨k1, y, k2⟩ := heard_shows s u n 0 _ rfl
  have e : goReq k ttl sp src s = ((({ s with ult := u } : State).hear n 0).setSiteState n stStarting).updSite n
      (fun x => { x with goAt := (({ s with ult := u } : State).hear n 0).now, tgo := none, readySent := false }) :=
    hu.trans (if_pos ⟨h1, by rw [k1]; exact hr⟩)
  generalize ({ s with ult := u } : State).hear n 0 = w at *
  obtain ⟨j1, j2, j3, -, a, z, j5⟩ := stateAndSite_shows w n (st := stStarting) (by decide) _ _ rfl
  have hn : w.now = s.now := by rw [k2]
  have hk : RegsIf (· ∉ [R.SITE_n_STATUS n, R.SEQ_CTX_n_STATE n]) s w := RegsIf.refl.of_regs (by rw [k2])
  refine completes_of_eq rfl e ⟨j1, (congrArg SiteSt.goAt j2).trans hn, congrArg SiteSt.readySent j2, hk.trans j3, ?_⟩
  rw [j5, k2]

theorem go_inTime :
    ∀ s : State, ∀ (n : Site) (k : Port) (ttl : Nat) (sp : Nat) (src : Nat) (g : Nat), s.spanSite sp = some n.val → s.siteState n = 2 →
    (s.siteOf n).role = 2 → s.tbVal 0 + 100 ≤ g → Completes (.go k ttl sp src g) s (fun t => (t.siteOf n).tgo = some g ∧
    t = { s with site := t.site, ult := t.ult }) := by
  intro s n k ttl sp src g hs h2 hr hg
  obtain ⟨u, hu⟩ := spanIn_run hs k ttl src 3 [sp * 2 ^ 48, g] (fun n s =>
    let s := s.hear n 0
    if s.siteState n = stStarting ∧ (s.siteOf n).role = 2 then
      if g < s.tbVal 0 + 100 then
        (((s.put (F.SITE_n_STATUS_GO_RESULT n) 6).put (F.SITE_n_EVENT_GO_LATE n) 1).put (F.SITE_n_EVENT_CMD_DONE n) 1).asyncHalt n hcAbort
      else s.updSite n (fun x => { x with tgo := some g })
    else s)
  obtain ⟨k1, y, k2⟩ := heard_shows s u n 0 _ rfl
  have ht : ¬ (g < (({ s with ult := u } : State).hear n 0).tbVal 0 + 100) := by
    have : (({ s with ult := u } : State).hear n 0).tbVal 0 = s.tbVal 0 := by rw [State.hear, tbVal_updSite] <;> rfl
    omega
  have e : goIn k ttl sp src g s = (({ s with ult := u } : State).hear n 0).updSite n (fun x => { x with tgo := some g }) :=
    hu.trans ((if_pos ⟨h2, by rw [k1]; exact hr⟩).trans (if_neg ht))
  generalize ({ s with ult := u } : State).hear n 0 = w at *
  refine completes_of_eq rfl e ⟨by rw [siteOf_updSite], ?_⟩
  rw [k2]
  rfl

theorem go_late :
    ∀ s : State, ∀ (n : Site) (k : Port) (ttl : Nat) (sp : Nat) (src : Nat) (g : Nat), s.spanSite sp = some n.val → s.siteState n = 2 →
    (s.siteOf n).role = 2 → g < s.tbVal 0 + 100 → Completes (.go k ttl sp src g) s (fun t => t.siteState n = 5 ∧
    t.get (F.SITE_n_STATUS_GO_RESULT n) = 6 ∧ t.get (F.SITE_n_EVENT_GO_LATE n) = 1 ∧ t.get (F.SEQ_CTX_n_STATE_HALT_CODE n) = 0x17) := by
  intro s n k ttl sp src g hs h2 hr hg
  obtain ⟨u, hu⟩ := spanIn_run hs k ttl src 3 [sp * 2 ^ 48, g] (fun n s =>
    let s := s.hear n 0
    if s.siteState n = stStarting ∧ (s.siteOf n).role = 2 then
      if g < s.tbVal 0 + 100 then
        (((s.put (F.SITE_n_STATUS_GO_RESULT n) 6).put (F.SITE_n_EVENT_GO_LATE n) 1).put (F.SITE_n_EVENT_CMD_DONE n) 1).asyncHalt n hcAbort
      else s.updSite n (fun x => { x with tgo := some g })
    else s)
  obtain ⟨k1, y, k2⟩ := heard_shows s u n 0 _ rfl
  have ht : g < (({ s with ult := u } : State).hear n 0).tbVal 0 + 100 := by
    have : (({ s with ult := u } : State).hear n 0).tbVal 0 = s.tbVal 0 := by rw [State.hear, tbVal_updSite] <;> rfl
    omega
  have e := hu.trans ((if_pos ⟨h2, by rw [k1]; exact hr⟩).trans (if_pos ht))
  generalize ({ s with ult := u } : State).hear n 0 = w at e
  have g1 : (((w.put (F.SITE_n_STATUS_GO_RESULT n) 6).put (F.SITE_n_EVENT_GO_LATE n) 1).put (F.SITE_n_EVENT_CMD_DONE n) 1).get (F.SITE_n_STATUS_GO_RESULT n) = 6 := by
    simp -implicitDefEqProofs (disch := (apply all_fin n; decide +kernel))
  have g2 : (((w.put (F.SITE_n_STATUS_GO_RESULT n) 6).put (F.SITE_n_EVENT_GO_LATE n) 1).put (F.SITE_n_EVENT_CMD_DONE n) 1).get (F.SITE_n_EVENT_GO_LATE n) = 1 := by
    simp -implicitDefEqProofs (disch := (apply all_fin n; decide +kernel))
  generalize ((w.put (F.SITE_n_STATUS_GO_RESULT n) 6).put (F.SITE_n_EVENT_GO_LATE n) 1).put (F.SITE_n_EVENT_CMD_DONE n) 1 = v at *
  have e2 : v.asyncHalt n hcAbort = v.haltSite n hcAbort (v.nextInstr n) false := when_false _ _
  obtain ⟨j1, -, j3, -⟩ := haltSite_shows v n (code := hcAbort) (by decide) (v.nextInstr n) false _ rfl
  exact completes_of_eq rfl (e.trans e2) ⟨j1, (goResult_haltSite v n _ _ _).trans g1, (goLate_haltSite v n _ _ _).trans g2, j3⟩

theorem goCancel_arms :
    ∀ s : State, ∀ (n : Site) (k : Port) (ttl : Nat) (sp : Nat) (src : Nat), s.spanSite sp = some n.val → s.siteState n = 2 →
    (s.siteOf n).role = 2 → Completes (.goCancel k ttl sp src) s (fun t => t.siteState n = 1 ∧ (t.siteOf n).tgo = none ∧
    RegsBut [R.SITE_n_STATUS n, R.SEQ_CTX_n_STATE n] s t ∧ t = { s with regs := t.regs, site := t.site, ult := t.ult }) := by
  intro s n k ttl sp src hs h2 hr
  obtain ⟨u, hu⟩ := spanIn_run hs k ttl src 4 [sp * 2 ^ 48] (fun n s =>
    let s := s.hear n 0
    if s.siteState n = stStarting ∧ (s.siteOf n).role = 2 then
      (s.setSiteState n stArmed).updSite n (fun x => { x with tgo := none, readySent := false })
    else s)
  obtain ⟨k1, y, k2⟩ := heard_shows s u n 0 _ rfl
  have e : goCancelIn k ttl sp src s = ((({ s with ult := u } : State).hear n 0).setSiteState n stArmed).updSite n
      (fun x => { x with tgo := none, readySent := false }) := hu.trans (if_pos ⟨h2, by rw [k1]; exact hr⟩)
  generalize ({ s with ult := u } : State).hear n 0 = w at *
  obtain ⟨j1, j2, j3, -, a, z, j5⟩ := stateAndSite_shows w n (st := stArmed) (by decide) _ _ rfl
  have hk : RegsIf (· ∉ [R.SITE_n_STATUS n, R.SEQ_CTX_n_STATE n]) s w := RegsIf.refl.of_regs (by rw [k2])
  refine completes_of_eq rfl e ⟨j1, congrArg SiteSt.tgo j2, hk.trans j3, ?_⟩
  rw [j5, k2]

theorem answer_kept :
    ∀ s : State, ∀ (n : Site) (dest : Nat) (src : Nat) (sp : Nat) (idx : Nat) (lat : Nat) (chips : Nat), s.route dest = .here →
    s.spanSite sp = some n.val → s.siteState n = 2 → (s.siteOf n).role = 1 → (s.siteOf n).tgo = none →
    (s.siteOf n).answers.any (fun a => a.1 == idx) = false → lat = s.get (F.SEQ_CTX_n_SPAN_LAT_NS n) → chips = (s.siteOf n).chips →
    (s.siteOf n).answers.length + 1 < chips →
    Completes (.goReady dest src sp idx lat chips) s (fun t => (t.siteOf n).answers = (s.siteOf n).answers ++ [(idx, lat, chips)] ∧
    t.siteState n = 2 ∧ (t.siteOf n).tgo = none ∧ t = { s with site := t.site }) := by
  intro s n dest src sp idx lat chips hd hs h2 hr ht ha hl hc hn
  have hx := hear_site s n idx
  have e := (goReadyIn_run hd hs h2 hr ht src idx lat chips).trans (goAnswer_fits (s := s.hear n idx) (by rw [hx]; exact ha) hl (by rw [hx]; exact hc))
  rw [hx] at e
  rw [if_neg (by dsimp only; omega)] at e
  refine completes_of_eq rfl e ⟨?_, h2, ?_, rfl⟩
  · rw [State.answered, siteOf_updSite, hx]
  · rw [State.answered, siteOf_updSite, hx]
    exact ht

theorem lastAnswer_sets :
    ∀ s : State, ∀ (n : Site) (dest : Nat) (src : Nat) (sp : Nat) (idx : Nat) (lat : Nat) (chips : Nat), s.route dest = .here →
    s.spanSite sp = some n.val → s.siteState n = 2 → (s.siteOf n).role = 1 → (s.siteOf n).tgo = none →
    (s.siteOf n).answers.any (fun a => a.1 == idx) = false → lat = s.get (F.SEQ_CTX_n_SPAN_LAT_NS n) → chips = (s.siteOf n).chips →
    chips ≤ (s.siteOf n).answers.length + 1 →
    Completes (.goReady dest src sp idx lat chips) s (fun t => (t.siteOf n).tgo = some (ceilTo 10 (s.tbVal 0 + 100 * s.get (F.SITE_n_GO_CFG_LEAD n))) ∧
    t.siteState n = 2 ∧ t = { s with site := t.site, ult := t.ult }) := by
  intro s n dest src sp idx lat chips hd hs h2 hr ht ha hl hc hn
  have hx := hear_site s n idx
  have e := (goReadyIn_run hd hs h2 hr ht src idx lat chips).trans (goAnswer_fits (s := s.hear n idx) (by rw [hx]; exact ha) hl (by rw [hx]; exact hc))
  rw [hx] at e
  rw [if_pos (by dsimp only; omega), State.spanAll, sendAll_eq] at e
  have hv : ∃ y, (s.hear n idx).answered n idx lat chips = { s with site := y } := ⟨_, rfl⟩
  have hg : (s.hear n idx).leadTime ((s.hear n idx).get (F.SITE_n_GO_CFG_LEAD n)) = ceilTo 10 (s.tbVal 0 + 100 * s.get (F.SITE_n_GO_CFG_LEAD n)) := by
    rw [State.leadTime, State.hear, tbVal_updSite, get_updSite]
  rw [hg] at e
  generalize (s.hear n idx).answered n idx lat chips = v at *
  obtain ⟨y, rfl⟩ := hv
  exact completes_of_eq rfl e ⟨by rw [siteOf_updSite], h2, rfl⟩

theorem answer_differs :
    ∀ s : State, ∀ (n : Site) (dest : Nat) (src : Nat) (sp : Nat) (idx : Nat) (lat : Nat) (chips : Nat), s.route dest = .here →
    s.spanSite sp = some n.val → s.siteState n = 2 → (s.siteOf n).role = 1 → (s.siteOf n).tgo = none →
    (s.siteOf n).answers.any (fun a => a.1 == idx) = false → (lat ≠ s.get (F.SEQ_CTX_n_SPAN_LAT_NS n) ∨ chips ≠ (s.siteOf n).chips) →
    Completes (.goReady dest src sp idx lat chips) s (fun t => t.siteState n = 1 ∧ t.get (F.SITE_n_STATUS_GO_RESULT n) = 5 ∧
    (t.siteOf n).answers = [] ∧ (t.siteOf n).tgo = none) := by
  intro s n dest src sp idx lat chips hd hs h2 hr ht ha hdf
  have hx := hear_site s n idx
  have e := (goReadyIn_run hd hs h2 hr ht src idx lat chips).trans (goAnswer_differs (s := s.hear n idx) (by rw [hx]; exact ha)
    (by rw [hx]; exact hdf))
  obtain ⟨h1, h2, -, h4, h5, -⟩ := goCancel_shows (s.hear n idx) n (r := 5) (by decide) _ rfl
  exact completes_of_eq rfl e ⟨h1, h2, h4, h5⟩

/-- Settles O28: GO of the site itself, its start (`goneShown_shows`, `startPlay_shows`), the messages of its span (`spanIn_run`) and the
answers at the primary (`goAnswer_fits`). -/
theorem goHandshake : Obligations.GoHandshake := by
  refine ⟨?_, ?_, ?_, ?_, ?_, ?_, ?_, ?_, ?_, ?_, ?_, ?_, ?_, ?_⟩
  · exact siteGo_starts
  · intro s n hb hs
    refine congrArg Host.Outcome.next ?_
    rw [siteGo, siteCmd_idle hb]
    exact if_pos hs
  · intro s n hb hs hr
    have h1 : ¬ (s.siteState n ≠ stArmed) := not_not.2 hs
    refine congrArg Host.Outcome.next ?_
    rw [siteGo, siteCmd_idle hb]
    exact (if_neg h1).trans (if_pos hr)
  · intro s n hs ht hr hw hg h0
    refine congrArg Host.Outcome.next ((goSchedule_run hs ht hr hw hg).trans ?_)
    exact if_pos h0
  · exact member_answers
  · exact site_starts
  · exact goTimeout_arms
  · exact goReq_starts
  · exact go_inTime
  · exact go_late
  · exact goCancel_arms
  · exact answer_kept
  · exact lastAnswer_sets
  · exact answer_differs

end Sys2Proof.Machine
end

section
-- One proof at a time: the whole text then stays within the memory the check allows.
set_option Elab.async false
/-!
PROOFS. Express lanes: what the operations on a lane change (`XlStep`), and what they leave of its status and its sampled configuration.
-/

namespace Sys2Proof.Machine
open State

/-- What a command of lane `n` reaches: that lane, and register words at offsets that do not satisfy `P`. -/
def XlStep (P : Nat → Prop) (n : Nat) (s t : State) : Prop := LaneStep P s t ∧ ∀ m, m ≠ n → t.laneOf m = s.laneOf m

theorem laneOf_updLane_ne (s : State) {m n : Nat} (f : XLane → XLane) (h : m ≠ n) : (s.updLane n f).laneOf m = s.laneOf m := by
  rw [State.laneOf, State.updLane, Tab.get_set_ne _ _ _ _ _ _ h, State.laneOf]

theorem laneOf_put (s : State) (f : Fld) (v m : Nat) : (s.put f v).laneOf m = s.laneOf m := rfl

theorem laneOf_regStep {P : Nat → Prop} {s t : State} (h : RegStep P s t) (m : Nat) : t.laneOf m = s.laneOf m := by
  obtain ⟨⟨a, rfl⟩, -⟩ := h
  rfl

namespace XlStep
variable {P : Nat → Prop} {n : Nat} {r s t : State}

theorem refl : XlStep P n s s := ⟨LaneStep.refl, fun _ _ => rfl⟩

theorem trans (h : XlStep P n r s) (g : XlStep P n s t) : XlStep P n r t := ⟨h.1.trans g.1, fun m hm => (g.2 m hm).trans (h.2 m hm)⟩

theorem weaken {Q : Nat → Prop} (h : XlStep P n s t) (i : ∀ o, Q o → P o) : XlStep Q n s t := ⟨h.1.weaken i, h.2⟩

theorem of_regStep (h : RegStep P s t) : XlStep P n s t := ⟨LaneStep.of_regStep h, fun m _ => laneOf_regStep h m⟩

theorem regStep (h : XlStep P n r s) (g : RegStep P s t) : XlStep P n r t := h.trans (of_regStep g)

theorem put {f : Fld} {v : Nat} (h : XlStep P n r s) (ho : ¬ P f.off) : XlStep P n r (s.put f v) := h.regStep (RegStep.refl.put ho)

theorem putN {o v : Nat} (h : XlStep P n r s) (ho : ¬ P o) : XlStep P n r (s.putN o v) := h.regStep (RegStep.refl.putN ho)

theorem putBit {o i : Nat} {b : Bool} (h : XlStep P n r s) (ho : ¬ P o) : XlStep P n r (s.putBit o i b) := h.regStep (RegStep.refl.putBit ho)

theorem bump {o : Nat} (h : XlStep P n r s) (ho : ¬ P o) : XlStep P n r (s.bump o) := h.regStep (RegStep.refl.bump ho)

theorem putPair {o v : Nat} (h : XlStep P n r s) (ho : ¬ P o) (ho' : ¬ P (o + 4)) : XlStep P n r (s.putPair o v) :=
  h.regStep (RegStep.refl.putPair ho ho')

theorem updLane {f : XLane → XLane} (h : XlStep P n r s) : XlStep P n r (s.updLane n f) :=
  ⟨h.1.updLane, fun m hm => (laneOf_updLane_ne s f hm).trans (h.2 m hm)⟩

theorem ite {c : Prop} [Decidable c] (h : XlStep P n r s) (g : XlStep P n r t) : XlStep P n r (if c then s else t) := by
  split
  · exact h
  · exact g

theorem when {c : Bool} {f : State → State} (h : XlStep P n r s) (hf : XlStep P n r s → XlStep P n r (f s)) : XlStep P n r (s.when c f) :=
  State.when_keeps (XlStep P n r) c f s h hf

theorem others (h : XlStep P n s t) : t = { s with regs := t.regs, xl := t.xl } := h.1.others

theorem lanes (h : XlStep P n s t) : ∀ m, m ≠ n → t.laneOf m = s.laneOf m := h.2

theorem regs (h : XlStep P n s t) : RegsIf P s t := h.1.2

end XlStep

/-! ### Events -/

section
variable (s : State) (n b : Nat)

theorem xlStep_xlEvent : XlStep (· ∉ [R.XL_n_EVENT n]) n s (s.xlEvent n b) := (XlStep.refl.putBit (by simp)).updLane

theorem bit_xlEvent (hb : b < 32) (i : Nat) : (s.xlEvent n b).bit (R.XL_n_EVENT n) i = if i = b then true else s.bit (R.XL_n_EVENT n) i :=
  bit_putBit_same s _ b i true hb

theorem laneOf_xlEvent : ∃ q, (s.xlEvent n b).laneOf n = { s.laneOf n with flagged := q } := by
  rw [State.xlEvent, laneOf_updLane]
  exact ⟨_, rfl⟩

theorem get_xlEvent_apart (f : Fld) (hf : f.off ≠ R.XL_n_EVENT n) : (s.xlEvent n b).get f = s.get f :=
  (xlStep_xlEvent s n b).regs.get (by simpa using hf)

theorem num_xlEvent_apart (o : Nat) (ho : o ≠ R.XL_n_EVENT n) : (s.xlEvent n b).num o = s.num o :=
  (xlStep_xlEvent s n b).regs.num (by simpa using ho)

end

theorem pair_of_regs {P : Nat → Prop} {s t : State} (h : RegsIf P s t) {o : Nat} (h1 : P o) (h2 : P (o + 4)) : t.pair o = s.pair o := by
  rw [State.pair, h.num h1, h.num h2, State.pair]

/-! ### What a lane has seen -/

/-- The word received last and the signal. -/
def State.xlHeard (s : State) (n : Nat) (g : XlSeen) : State := (s.putPair (R.XL_n_RX_WORD_LO n) g.rx.toNat).put (F.XL_n_STATUS_SIG_DET n) (b2n g.sig)

/-- BITS and BERR count what was compared. -/
def State.xlTallied (s : State) (n : Nat) (g : XlSeen) : State :=
  (s.putPair (R.XL_n_BITS_LO n) (min xlMax (s.pair (R.XL_n_BITS_LO n) + g.bits))).putPair (R.XL_n_BERR_LO n)
    (min xlMax (s.pair (R.XL_n_BERR_LO n) + min g.errs g.bits))

/-- BITS and BERR count, and the threshold is watched. -/
def State.xlCounted (s : State) (n : Nat) (g : XlSeen) : State :=
  (s.xlTallied n g).when ((s.xlTallied n g).num (R.XL_n_ERR_THRESH n) != 0 &&
    s.pair (R.XL_n_BERR_LO n) < (s.xlTallied n g).num (R.XL_n_ERR_THRESH n) &&
    (s.xlTallied n g).num (R.XL_n_ERR_THRESH n) ≤ min xlMax (s.pair (R.XL_n_BERR_LO n) + min g.errs g.bits)) (fun t => t.xlEvent n xeThresh)

theorem xlSee_eq (s : State) (n : Nat) (g : XlSeen) : s.xlSee n g =
    if s.xlState n = xlRunning ∧ (s.laneOf n).checker then
      if (s.xlHeard n g).is (F.XL_n_STATUS_LOCK n) then (s.xlHeard n g).xlCounted n g else s.xlHeard n g
    else s := by
  rw [State.xlSee]
  rfl

/-- The words that show what a lane has seen. -/
def seenRegs (n : Nat) : List Nat := [R.XL_n_RX_WORD_LO n, R.XL_n_RX_WORD_LO n + 4, R.XL_n_STATUS n, R.XL_n_BITS_LO n, R.XL_n_BITS_LO n + 4,
  R.XL_n_BERR_LO n, R.XL_n_BERR_LO n + 4, R.XL_n_EVENT n]

theorem regStep_xlHeard (s : State) (n : Nat) (g : XlSeen) :
    RegStep (· ∉ [R.XL_n_RX_WORD_LO n, R.XL_n_RX_WORD_LO n + 4, R.XL_n_STATUS n]) s (s.xlHeard n g) :=
  (RegStep.refl.putPair (by simp) (by simp)).put (by simp [F.XL_n_STATUS_SIG_DET])

theorem regStep_xlTallied (s : State) (n : Nat) (g : XlSeen) :
    RegStep (· ∉ [R.XL_n_BITS_LO n, R.XL_n_BITS_LO n + 4, R.XL_n_BERR_LO n, R.XL_n_BERR_LO n + 4]) s (s.xlTallied n g) :=
  (RegStep.refl.putPair (by simp) (by simp)).putPair (by simp) (by simp)

theorem xlCounted_shows (s : State) (n : Nat) (g : XlSeen) (t : State) (ht : t = s.xlCounted n g) :
    XlStep (· ∉ [R.XL_n_BITS_LO n, R.XL_n_BITS_LO n + 4, R.XL_n_BERR_LO n, R.XL_n_BERR_LO n + 4, R.XL_n_EVENT n]) n s t ∧
      (∃ q, t.laneOf n = { s.laneOf n with flagged := q }) ∧ ∀ i, i ≠ xeThresh → t.bit (R.XL_n_EVENT n) i = s.bit (R.XL_n_EVENT n) i := by
  have hu := regStep_xlTallied s n g
  have hb : ∀ i, (s.xlTallied n g).bit (R.XL_n_EVENT n) i = s.bit (R.XL_n_EVENT n) i := fun i => hu.2.bit (by
    simp only [R.XL_n_EVENT, R.XL_n_BITS_LO, R.XL_n_BERR_LO, List.mem_cons, List.not_mem_nil, or_false]
    omega)
  have hl := laneOf_regStep hu n
  rw [State.xlCounted] at ht
  generalize s.xlTallied n g = u at *
  generalize (u.num (R.XL_n_ERR_THRESH n) != 0 && s.pair (R.XL_n_BERR_LO n) < u.num (R.XL_n_ERR_THRESH n) &&
    u.num (R.XL_n_ERR_THRESH n) ≤ min xlMax (s.pair (R.XL_n_BERR_LO n) + min g.errs g.bits)) = c at ht
  have h1 : XlStep (· ∉ [R.XL_n_BITS_LO n, R.XL_n_BITS_LO n + 4, R.XL_n_BERR_LO n, R.XL_n_BERR_LO n + 4, R.XL_n_EVENT n]) n s u :=
    XlStep.of_regStep (hu.weaken fun o ho => by simp at ho ⊢; tauto)
  cases c
  · subst ht
    exact ⟨h1, ⟨_, hl⟩, fun i _ => hb i⟩
  · obtain ⟨q, hq⟩ := laneOf_xlEvent u n xeThresh
    subst ht
    refine ⟨h1.trans ((xlStep_xlEvent u n xeThresh).weaken fun o ho => by simp at ho ⊢; tauto), ⟨q, by rw [when_true, hq, hl]⟩, fun i hi => ?_⟩
    rw [when_true, bit_xlEvent u n _ (by decide), if_neg hi, hb]

theorem xlSee_shows (s : State) (n : Lane) (g : XlSeen) (t : State) (ht : t = s.xlSee n g) :
    XlStep (· ∉ seenRegs n) n s t ∧ (∃ q, t.laneOf n = { s.laneOf n with flagged := q }) ∧
      (∀ i, i ≠ xeThresh → t.bit (R.XL_n_EVENT n) i = s.bit (R.XL_n_EVENT n) i) ∧
      ∀ f : Fld, f.off = R.XL_n_STATUS n → (F.XL_n_STATUS_SIG_DET n).apart f = true → t.get f = s.get f := by
  have hu := regStep_xlHeard s n g
  have hb : ∀ i, (s.xlHeard n g).bit (R.XL_n_EVENT n) i = s.bit (R.XL_n_EVENT n) i := fun i => hu.2.bit (by
    simp only [R.XL_n_EVENT, R.XL_n_RX_WORD_LO, R.XL_n_STATUS, List.mem_cons, List.not_mem_nil, or_false]
    omega)
  have hf : ∀ f : Fld, f.off = R.XL_n_STATUS n → (F.XL_n_STATUS_SIG_DET n).apart f = true → (s.xlHeard n g).get f = s.get f := fun f h1 h2 => by
    rw [State.xlHeard, get_put_apart _ _ _ _ h2, get_putPair_apart _ _ _ _ (by rw [h1, R.XL_n_STATUS, R.XL_n_RX_WORD_LO]; omega)]
  have hl := laneOf_regStep hu n
  rw [xlSee_eq] at ht
  generalize s.xlHeard n g = u at *
  have h1 : XlStep (· ∉ seenRegs n) n s u := XlStep.of_regStep (hu.weaken fun o ho => by simp [seenRegs] at ho ⊢; tauto)
  split at ht
  · split at ht
    · obtain ⟨k1, ⟨q, k2⟩, k3⟩ := xlCounted_shows u n g t ht
      refine ⟨h1.trans (k1.weaken fun o ho => by simp [seenRegs] at ho ⊢; tauto), ⟨q, by rw [k2, hl]⟩, fun i hi => (k3 i hi).trans (hb i),
        fun f e1 e2 => (k1.regs.get ?_).trans (hf f e1 e2)⟩
      simp only [e1, R.XL_n_STATUS, R.XL_n_EVENT, R.XL_n_BITS_LO, R.XL_n_BERR_LO, List.mem_cons, List.not_mem_nil, or_false]
      omega
    · exact ht ▸ ⟨h1, ⟨_, hl⟩, fun i _ => hb i, hf⟩
  · exact ht ▸ ⟨XlStep.refl, ⟨_, rfl⟩, fun _ _ => rfl, fun _ _ _ => rfl⟩

/-! ### Leaving RUNNING -/

theorem xlStep_eyeAbort (s : State) (n : Nat) : XlStep (· ∉ [R.XL_n_STATUS n, R.XL_n_EYE_STATUS n]) n s (s.eyeAbort n) :=
  XlStep.ite ((XlStep.refl.put (by simp [F.XL_n_STATUS_EYE_BUSY])).put (by simp [F.XL_n_EYE_STATUS_ABORTED])) XlStep.refl

theorem get_eyeAbort_apart (s : State) (n : Nat) (f : Fld)
    (h : (F.XL_n_STATUS_EYE_BUSY n).apart f = true ∧ (F.XL_n_EYE_STATUS_ABORTED n).apart f = true) : (s.eyeAbort n).get f = s.get f := by
  rw [State.eyeAbort]
  split
  · rw [get_put_apart _ _ _ _ h.2, get_put_apart _ _ _ _ h.1]
  · rfl

theorem laneOf_eyeAbort (s : State) (n m : Nat) : (s.eyeAbort n).laneOf m = s.laneOf m := by
  rw [State.eyeAbort]
  split
  · rw [laneOf_put, laneOf_put]
  · rfl

theorem eyeBusy_eyeAbort (s : State) (n : Lane) : (s.eyeAbort n).get (F.XL_n_STATUS_EYE_BUSY n) = 0 := by
  rw [State.eyeAbort]
  split
  · rw [get_put_apart _ _ _ _ (by apply all_fin n; decide +kernel), get_put_same _ _ _ (by apply all_fin n; decide +kernel)]
  · next h => simpa [is_eq] using h

theorem xlStep_xlQuiet (s : State) (n : Nat) : XlStep (· ∉ [R.XL_n_STATUS n, R.XL_n_EYE_STATUS n]) n s (s.xlQuiet n) := by
  have h : XlStep (· ∉ [R.XL_n_STATUS n, R.XL_n_EYE_STATUS n]) n s (((s.eyeAbort n).put (F.XL_n_STATUS_LOCK n) 0).put (F.XL_n_STATUS_SIG_DET n) 0) :=
    ((xlStep_eyeAbort s n).put (by simp [F.XL_n_STATUS_LOCK])).put (by simp [F.XL_n_STATUS_SIG_DET])
  rw [State.xlQuiet]
  exact h.updLane

theorem xlStep_xlEnter (s : State) (n st : Nat) : XlStep (· ∉ [R.XL_n_STATUS n, R.XL_n_EYE_STATUS n]) n s (s.xlEnter n st) :=
  ((xlStep_xlQuiet s n).put (by simp [F.XL_n_STATUS_STATE])).updLane

/-- The fields that change when the checker goes off. -/
def quietFlds (n : Nat) : List Fld := [F.XL_n_STATUS_EYE_BUSY n, F.XL_n_EYE_STATUS_ABORTED n, F.XL_n_STATUS_LOCK n, F.XL_n_STATUS_SIG_DET n]

theorem get_xlQuiet_apart (s : State) (n : Nat) (f : Fld) (h : (quietFlds n).all (Fld.apart · f) = true) : (s.xlQuiet n).get f = s.get f := by
  simp only [quietFlds, List.all_cons, List.all_nil, Bool.and_true, Bool.and_eq_true] at h
  obtain ⟨h1, h2, h3, h4⟩ := h
  rw [State.xlQuiet, get_updLane, get_put_apart _ _ _ _ h4, get_put_apart _ _ _ _ h3, get_eyeAbort_apart s n f ⟨h1, h2⟩]

theorem laneOf_xlQuiet (s : State) (n : Nat) : (s.xlQuiet n).laneOf n = { s.laneOf n with checker := false } := by
  rw [State.xlQuiet, laneOf_updLane, laneOf_put, laneOf_put, laneOf_eyeAbort]

theorem lock_xlQuiet (s : State) (n : Lane) : (s.xlQuiet n).get (F.XL_n_STATUS_LOCK n) = 0 := by
  rw [State.xlQuiet, get_updLane, get_put_apart _ _ _ _ (by apply all_fin n; decide +kernel), get_put_same _ _ _ (by apply all_fin n; decide +kernel)]

theorem get_xlEnter_apart (s : State) (n st : Nat) (f : Fld) (h : (F.XL_n_STATUS_STATE n :: quietFlds n).all (Fld.apart · f) = true) :
    (s.xlEnter n st).get f = s.get f := by
  rw [List.all_cons, Bool.and_eq_true] at h
  rw [State.xlEnter, get_updLane, get_put_apart _ _ _ _ h.1, get_xlQuiet_apart s n f h.2]

theorem laneOf_xlEnter (s : State) (n st : Nat) :
    (s.xlEnter n st).laneOf n = { s.laneOf n with checker := false, txOn := false, payloadEnded := false, pendStart := false } := by
  rw [State.xlEnter, laneOf_updLane, laneOf_put, laneOf_xlQuiet]

theorem lock_xlEnter (s : State) (n : Lane) (st : Nat) : (s.xlEnter n st).get (F.XL_n_STATUS_LOCK n) = 0 := by
  rw [State.xlEnter, get_updLane, get_put_apart _ _ _ _ (by apply all_fin n; decide +kernel), lock_xlQuiet]

/-! ### Entering RUNNING -/

theorem regStep_xlClear (s : State) (n : Nat) :
    RegStep (· ∉ [R.XL_n_BITS_LO n, R.XL_n_BITS_LO n + 4, R.XL_n_BERR_LO n, R.XL_n_BERR_LO n + 4]) s (s.xlClear n) :=
  (RegStep.refl.putPair (by simp) (by simp)).putPair (by simp) (by simp)

theorem pair_xlClear (s : State) (n : Nat) : (s.xlClear n).pair (R.XL_n_BITS_LO n) = 0 ∧ (s.xlClear n).pair (R.XL_n_BERR_LO n) = 0 := by
  rw [State.xlClear]
  refine ⟨?_, pair_putPair _ _ _ (by decide)⟩
  have h : RegStep (· ∉ [R.XL_n_BERR_LO n, R.XL_n_BERR_LO n + 4]) (s.putPair (R.XL_n_BITS_LO n) 0)
      ((s.putPair (R.XL_n_BITS_LO n) 0).putPair (R.XL_n_BERR_LO n) 0) := RegStep.refl.putPair (by simp) (by simp)
  rw [pair_of_regs h.2 (by simp only [R.XL_n_BITS_LO, R.XL_n_BERR_LO, List.mem_cons, List.not_mem_nil, or_false]; omega)
    (by simp only [R.XL_n_BITS_LO, R.XL_n_BERR_LO, List.mem_cons, List.not_mem_nil, or_false]; omega), pair_putPair _ _ _ (by decide)]

/-- The counters, the marks and a scan of the eye before START takes effect. -/
def State.xlFresh (s : State) (n : Nat) (keep : Bool) : State := ((if keep then s else s.xlClear n).eyeAbort n).put (F.XL_n_MARK_TAG_COUNT n) 0

/-- A new rate loses the lock of the PLL. -/
def State.xlRated (s : State) (n : Nat) : State :=
  s.when (s.get (F.XL_n_CTRL_RATE n) != (s.laneOf n).rate) (fun t => t.put (F.XL_n_STATUS_PLL_LOCK n) 0)

/-- The configuration that START samples. -/
def State.xlSampled (s : State) (n rate : Nat) (x : XLane) : XLane :=
  { x with
    rate := rate
    loop := s.get (F.XL_n_CTRL_LOOP n)
    txSrc := s.get (F.XL_n_SRC_TX_SRC n)
    rxSrc := s.get (F.XL_n_SRC_RX_SRC n)
    txInv := s.is (F.XL_n_SRC_TX_INV n)
    rxInv := s.is (F.XL_n_SRC_RX_INV n)
    fixed := s.pair (R.XL_n_FIXED_LO n)
    drw := s.get (F.XL_n_DRW_ID n)
    repeat_ := s.is (F.XL_n_DRW_REPEAT n)
    rxDly := s.get (F.XL_n_RX_DLY_WORDS n)
    pendStart := false
    checker := s.get (F.XL_n_SRC_RX_SRC n) != 0
    txOn := s.is (F.XL_n_STATUS_PLL_LOCK n)
    payloadEnded := false }

theorem xlSampled_shows (s : State) (n rate : Nat) (x : XLane) : (s.xlSampled n rate x).rate = rate ∧
    (s.xlSampled n rate x).txSrc = s.get (F.XL_n_SRC_TX_SRC n) ∧ (s.xlSampled n rate x).rxSrc = s.get (F.XL_n_SRC_RX_SRC n) ∧
    (s.xlSampled n rate x).checker = (s.get (F.XL_n_SRC_RX_SRC n) != 0) ∧ (s.xlSampled n rate x).pendStart = false ∧
    (s.xlSampled n rate x).acts = x.acts := ⟨rfl, rfl, rfl, rfl, rfl, rfl⟩

/-- The lane runs with what was sampled. -/
def State.xlStarted (s : State) (n rate : Nat) : State :=
  ((s.updLane n (s.xlSampled n rate)).put (F.XL_n_STATUS_LOCK n) (b2n (s.get (F.XL_n_SRC_RX_SRC n) == 6 || s.get (F.XL_n_SRC_RX_SRC n) == 7))).put
    (F.XL_n_STATUS_STATE n) xlRunning

theorem xlRun_eq (s : State) (n : Nat) (keep : Bool) :
    s.xlRun n keep = ((s.xlFresh n keep).xlRated n).xlStarted n ((s.xlFresh n keep).get (F.XL_n_CTRL_RATE n)) := by
  rw [State.xlRun]
  rfl

/-- The words that START changes. -/
def runRegs (n : Nat) : List Nat := [R.XL_n_STATUS n, R.XL_n_EYE_STATUS n, R.XL_n_MARK_TAG n, R.XL_n_BITS_LO n, R.XL_n_BITS_LO n + 4,
  R.XL_n_BERR_LO n, R.XL_n_BERR_LO n + 4]

theorem xlFresh_shows (s : State) (n : Lane) (keep : Bool) (t : State) (ht : t = s.xlFresh n keep) :
    XlStep (· ∉ runRegs n) n s t ∧ t.laneOf n = s.laneOf n ∧ t.get (F.XL_n_MARK_TAG_COUNT n) = 0 ∧
      (keep = false → t.pair (R.XL_n_BITS_LO n) = 0 ∧ t.pair (R.XL_n_BERR_LO n) = 0) ∧
      t.get (F.XL_n_STATUS_TRAIN_DONE n) = s.get (F.XL_n_STATUS_TRAIN_DONE n) := by
  have hc : ∃ u, (if keep then s else s.xlClear n) = u ∧
      RegStep (· ∉ [R.XL_n_BITS_LO n, R.XL_n_BITS_LO n + 4, R.XL_n_BERR_LO n, R.XL_n_BERR_LO n + 4]) s u ∧
      (keep = false → u.pair (R.XL_n_BITS_LO n) = 0 ∧ u.pair (R.XL_n_BERR_LO n) = 0) := by
    cases keep
    · exact ⟨_, rfl, regStep_xlClear s n, fun _ => pair_xlClear s n⟩
    · exact ⟨_, rfl, RegStep.refl, fun h => by cases h⟩
  obtain ⟨u, hu, h1, h2⟩ := hc
  have ha := xlStep_eyeAbort u n
  have hl := laneOf_eyeAbort u n n
  have hd := get_eyeAbort_apart u n (F.XL_n_STATUS_TRAIN_DONE n) (by apply all_fin n; decide +kernel)
  rw [State.xlFresh, hu] at ht
  generalize u.eyeAbort n = w at *
  have hk : XlStep (· ∉ [R.XL_n_STATUS n, R.XL_n_EYE_STATUS n, R.XL_n_MARK_TAG n]) n u t :=
    ht ▸ (ha.weaken fun o ho => by simp at ho ⊢; tauto).put (by simp [F.XL_n_MARK_TAG_COUNT])
  have hlt : t.laneOf n = w.laneOf n := by rw [ht, laneOf_put]
  refine ⟨(XlStep.of_regStep (h1.weaken fun o ho => by simp [runRegs] at ho ⊢; tauto)).trans (hk.weaken fun o ho => by simp [runRegs] at ho ⊢; tauto),
    ?_, ?_, fun e => ?_, ?_⟩
  · rw [hlt, hl, laneOf_regStep h1]
  · rw [ht, get_put_same _ _ _ (by apply all_fin n; decide +kernel)]
  · rw [pair_of_regs hk.regs (by apply all_fin n; decide +kernel) (by apply all_fin n; decide +kernel),
      pair_of_regs hk.regs (by apply all_fin n; decide +kernel) (by apply all_fin n; decide +kernel)]
    exact h2 e
  · rw [ht, get_put_apart _ _ _ _ (by apply all_fin n; decide +kernel), hd, h1.2.get (by apply all_fin n; decide +kernel)]

theorem xlStarted_shows (s : State) (n : Lane) (rate : Nat) (t : State) (ht : t = s.xlStarted n rate) :
    XlStep (· ∉ [R.XL_n_STATUS n]) n s t ∧ t.xlState n = 3 ∧ t.laneOf n = s.xlSampled n rate (s.laneOf n) ∧
      t.get (F.XL_n_STATUS_TRAIN_DONE n) = s.get (F.XL_n_STATUS_TRAIN_DONE n) := by
  have hl := laneOf_updLane s n (s.xlSampled n rate)
  have hu : XlStep (· ∉ [R.XL_n_STATUS n]) n s (s.updLane n (s.xlSampled n rate)) := XlStep.refl.updLane
  have hd : (s.updLane n (s.xlSampled n rate)).get (F.XL_n_STATUS_TRAIN_DONE n) = s.get (F.XL_n_STATUS_TRAIN_DONE n) := rfl
  rw [State.xlStarted] at ht
  generalize s.updLane n (s.xlSampled n rate) = u at *
  subst ht
  refine ⟨(hu.put (by simp [F.XL_n_STATUS_LOCK])).put (by simp [F.XL_n_STATUS_STATE]), ?_, hl, ?_⟩
  · rw [State.xlState, get_put_same _ _ _ (by apply all_fin n; decide +kernel)] <;> rfl
  · rw [get_put_apart _ _ _ _ (by apply all_fin n; decide +kernel), get_put_apart _ _ _ _ (by apply all_fin n; decide +kernel), hd]

theorem xlRated_shows (s : State) (n : Lane) (t : State) (ht : t = s.xlRated n) :
    RegStep (· ∉ [R.XL_n_STATUS n]) s t ∧ t.get (F.XL_n_STATUS_TRAIN_DONE n) = s.get (F.XL_n_STATUS_TRAIN_DONE n) := by
  rw [State.xlRated] at ht
  generalize (s.get (F.XL_n_CTRL_RATE n) != (s.laneOf n).rate) = c at ht
  subst ht
  cases c
  · exact ⟨RegStep.refl, rfl⟩
  · exact ⟨RegStep.refl.put (by simp [F.XL_n_STATUS_PLL_LOCK]), get_put_apart _ _ _ _ (by apply all_fin n; decide +kernel)⟩

/-- START that takes effect: the lane runs with its configuration sampled. -/
theorem xlRun_shows (s : State) (n : Lane) (keep : Bool) (t : State) (ht : t = s.xlRun n keep) :
    XlStep (· ∉ runRegs n) n s t ∧ t.xlState n = 3 ∧ t.get (F.XL_n_MARK_TAG_COUNT n) = 0 ∧
      (keep = false → t.pair (R.XL_n_BITS_LO n) = 0 ∧ t.pair (R.XL_n_BERR_LO n) = 0) ∧
      t.get (F.XL_n_STATUS_TRAIN_DONE n) = s.get (F.XL_n_STATUS_TRAIN_DONE n) ∧
      (t.laneOf n).rate = s.get (F.XL_n_CTRL_RATE n) ∧ (t.laneOf n).txSrc = s.get (F.XL_n_SRC_TX_SRC n) ∧
      (t.laneOf n).rxSrc = s.get (F.XL_n_SRC_RX_SRC n) ∧ (t.laneOf n).checker = (s.get (F.XL_n_SRC_RX_SRC n) != 0) ∧
      (t.laneOf n).pendStart = false ∧ (t.laneOf n).acts = (s.laneOf n).acts := by
  rw [xlRun_eq] at ht
  obtain ⟨h1, h2, h3, h4, h5⟩ := xlFresh_shows s n keep _ rfl
  generalize s.xlFresh n keep = u at *
  obtain ⟨k1, k2⟩ := xlRated_shows u n _ rfl
  generalize u.xlRated n = w at *
  obtain ⟨l1, l2, l3, l4⟩ := xlStarted_shows w n (u.get (F.XL_n_CTRL_RATE n)) t ht
  obtain ⟨e1, e2, e3, e4, e5, e6⟩ := xlSampled_shows w n (u.get (F.XL_n_CTRL_RATE n)) (w.laneOf n)
  rw [← l3] at e1 e2 e3 e4 e5 e6
  have hw : RegStep (· ∉ [R.XL_n_STATUS n]) u w := k1
  have hs : ∀ f : Fld, f.off ∉ runRegs n → w.get f = s.get f := fun f hf => by
    rw [hw.2.get (fun h => hf (by simp [runRegs] at h ⊢; tauto)), h1.regs.get hf]
  have ht' : ∀ o, o ≠ R.XL_n_STATUS n → t.num o = u.num o := fun o ho => by
    rw [l1.regs.num (by simpa using ho), hw.2.num (by simpa using ho)]
  have hc : t.get (F.XL_n_MARK_TAG_COUNT n) = u.get (F.XL_n_MARK_TAG_COUNT n) := by
    rw [l1.regs.get (by apply all_fin n; decide +kernel), hw.2.get (by apply all_fin n; decide +kernel)]
  refine ⟨h1.trans ((XlStep.of_regStep hw).trans l1 |>.weaken fun o ho => by simp [runRegs] at ho ⊢; tauto), l2, hc.trans h3, fun e => ?_,
    by rw [l4, k2, h5], ?_, ?_, ?_, ?_, ?_, ?_⟩
  · have hz := h4 e
    rw [State.pair, State.pair, ht' _ (by apply all_fin n; decide +kernel), ht' _ (by apply all_fin n; decide +kernel),
      ht' _ (by apply all_fin n; decide +kernel), ht' _ (by apply all_fin n; decide +kernel)]
    exact hz
  · rw [e1, h1.regs.get (by apply all_fin n; decide +kernel)]
  · rw [e2, hs _ (by apply all_fin n; decide +kernel)]
  · rw [e3, hs _ (by apply all_fin n; decide +kernel)]
  · rw [e4, hs _ (by apply all_fin n; decide +kernel)]
  · exact e5
  · rw [e6, laneOf_regStep hw n, h2]

/-! ### Refusals, marks -/

theorem xlRefuse_shows (s : State) (n : Lane) (t : State) (ht : t = s.xlRefuse n) :
    XlStep (· ∉ [R.XL_n_CMD_REFUSED n, R.XL_n_EVENT n]) n s t ∧ t.num (R.XL_n_CMD_REFUSED n) = min satMax (s.num (R.XL_n_CMD_REFUSED n) + 1) ∧
      t.bit (R.XL_n_EVENT n) 7 = true := by
  subst ht
  refine ⟨(XlStep.refl.bump (by simp)).trans ((xlStep_xlEvent _ n _).weaken fun o ho => by simp at ho ⊢; tauto), ?_, ?_⟩
  · rw [State.xlRefuse, num_xlEvent_apart _ _ _ _ (by apply all_fin n; decide +kernel), num_bump_same]
  · exact (bit_xlEvent _ n xeRefused (by decide) 7).trans (if_pos rfl)

/-- The words that show the last mark. -/
def markRegs (n : Nat) : List Nat := [R.XL_n_MARK_TAG n, R.XL_n_MARK_TX_LO n, R.XL_n_MARK_TX_LO n + 4, R.XL_n_MARK_TIME_LO n, R.XL_n_MARK_TIME_LO n + 4,
  R.XL_n_EVENT n]

theorem xlMarked_shows (s : State) (n : Lane) (sent time : Nat) (t : State) (ht : t = s.xlMarked n sent time) :
    XlStep (· ∉ markRegs n) n s t ∧ t.pair (R.XL_n_MARK_TX_LO n) = sent % 2 ^ 48 ∧ t.pair (R.XL_n_MARK_TIME_LO n) = time % 2 ^ 64 ∧
      t.get (F.XL_n_MARK_TAG_TAG n) = s.get (F.XL_n_MARK_TAG_TAG n) ∧ t.bit (R.XL_n_EVENT n) 3 = true ∧
      ∃ q, t.laneOf n = { s.laneOf n with flagged := q } := by
  have ha : RegStep (· ∉ markRegs n) s (s.wrapInc (F.XL_n_MARK_TAG_COUNT n)) := RegStep.refl.put (by simp [F.XL_n_MARK_TAG_COUNT, markRegs])
  have ht0 : (s.wrapInc (F.XL_n_MARK_TAG_COUNT n)).get (F.XL_n_MARK_TAG_TAG n) = s.get (F.XL_n_MARK_TAG_TAG n) :=
    get_put_apart _ _ _ _ (by apply all_fin n; decide +kernel)
  rw [State.xlMarked] at ht
  generalize s.wrapInc (F.XL_n_MARK_TAG_COUNT n) = u at *
  have hb : RegStep (· ∉ [R.XL_n_MARK_TX_LO n, R.XL_n_MARK_TX_LO n + 4]) u (u.putPair (R.XL_n_MARK_TX_LO n) (sent % 2 ^ 48)) :=
    RegStep.refl.putPair (by simp) (by simp)
  have hp : (u.putPair (R.XL_n_MARK_TX_LO n) (sent % 2 ^ 48)).pair (R.XL_n_MARK_TX_LO n) = sent % 2 ^ 48 := by
    rw [pair_putPair _ _ _ (by omega)]
  generalize u.putPair (R.XL_n_MARK_TX_LO n) (sent % 2 ^ 48) = w at *
  have hc : RegStep (· ∉ [R.XL_n_MARK_TIME_LO n, R.XL_n_MARK_TIME_LO n + 4]) w (w.putPair (R.XL_n_MARK_TIME_LO n) time) :=
    RegStep.refl.putPair (by simp) (by simp)
  have hq : (w.putPair (R.XL_n_MARK_TIME_LO n) time).pair (R.XL_n_MARK_TIME_LO n) = time % 2 ^ 64 := by rw [pair_putPair_mod]
  generalize w.putPair (R.XL_n_MARK_TIME_LO n) time = v at *
  have hd := xlStep_xlEvent v n xeMark
  obtain ⟨q, hl⟩ := laneOf_xlEvent v n xeMark
  have he : (v.xlEvent n xeMark).bit (R.XL_n_EVENT n) 3 = true := by rw [bit_xlEvent _ _ _ (by decide)] <;> rfl
  rw [← ht] at hd hl he
  have hk : RegStep (· ∉ markRegs n) s v := (ha.trans (hb.weaken fun o ho => by simp [markRegs] at ho ⊢; tauto)).trans
    (hc.weaken fun o ho => by simp [markRegs] at ho ⊢; tauto)
  refine ⟨(XlStep.of_regStep hk).trans (hd.weaken fun o ho => by simp [markRegs] at ho ⊢; tauto), ?_, ?_, ?_, he, q, by rw [hl, laneOf_regStep hk]⟩
  · rw [pair_of_regs hd.regs (by apply all_fin n; decide +kernel) (by apply all_fin n; decide +kernel),
      pair_of_regs hc.2 (by apply all_fin n; decide +kernel) (by apply all_fin n; decide +kernel), hp]
  · rw [pair_of_regs hd.regs (by apply all_fin n; decide +kernel) (by apply all_fin n; decide +kernel), hq]
  · rw [hd.regs.get (by apply all_fin n; decide +kernel), hc.2.get (by apply all_fin n; decide +kernel), hb.2.get (by apply all_fin n; decide +kernel), ht0]

/-! ### Checks -/

/-- Whether a lane can play its drawer rests on its sources, its drawer and the directory. -/
theorem badLaneDrawer_congr {P : Nat → Prop} {s t : State} {n : Nat} (h : LaneStep P s t) (h1 : P (R.XL_n_SRC n)) (h2 : P (R.XL_n_DRW n))
    (h3 : ∀ w < 32768, P (R.DRW_COMMIT_MAP_w w)) : t.badLaneDrawer n = s.badLaneDrawer n := by
  have hm : t.mem = s.mem := by rw [h.others]
  have he : ∀ id, t.entry id = s.entry id := fun id => by rw [State.entry, rdBytes_congr hm, State.entry]
  have hid : s.get (F.XL_n_DRW_ID n) / 32 < 32768 := by
    have := get_lt s (F.XL_n_DRW_ID n)
    simp only [F.XL_n_DRW_ID] at this ⊢
    omega
  have hd : t.laneDrawer (s.get (F.XL_n_DRW_ID n)) = s.laneDrawer (s.get (F.XL_n_DRW_ID n)) := by
    rw [State.laneDrawer, State.laneDrawer, State.committed, State.committed, h.2.bit (h3 _ hid), State.pinned, State.pinned, he]
  rw [State.badLaneDrawer, h.2.get (f := F.XL_n_SRC_TX_SRC n) h1, h.2.get (f := F.XL_n_SRC_RX_SRC n) h1, h.2.get (f := F.XL_n_DRW_ID n) h2, hd,
    State.badLaneDrawer]

end Sys2Proof.Machine
end

section
-- One proof at a time: the whole text then stays within the memory the check allows.
set_option Elab.async false
/-!
PROOFS. O35: training, checkers, the eye scan and sequencer coupling of an express lane.
-/

namespace Sys2Proof.Machine
open State

/-- The words that a command of lane `n` changes. -/
def xlRegs (n : Nat) : List Nat := [R.XL_n_STATUS n, R.XL_n_EVENT n, R.XL_n_EYE_STATUS n, R.XL_n_RX_WORD_LO n, R.XL_n_RX_WORD_LO n + 4, R.XL_n_BITS_LO n, R.XL_n_BITS_LO n + 4, R.XL_n_BERR_LO n, R.XL_n_BERR_LO n + 4, R.XL_n_MARK_TAG n, R.XL_n_MARK_TX_LO n, R.XL_n_MARK_TX_LO n + 4, R.XL_n_MARK_TIME_LO n, R.XL_n_MARK_TIME_LO n + 4, R.XL_n_CMD_REFUSED n]

/-- A command of lane `n` that changes words of `xlRegs` and that lane. -/
abbrev XlCmd (n : Nat) (s t : State) : Prop := XlStep (· ∉ xlRegs n) n s t

section
variable {n o : Nat}

theorem notSeen_of_notXl (h : o ∉ xlRegs n) : o ∉ seenRegs n := by
  simp [xlRegs, seenRegs] at h ⊢
  tauto

theorem notRun_of_notXl (h : o ∉ xlRegs n) : o ∉ runRegs n := by
  simp [xlRegs, runRegs] at h ⊢
  tauto

theorem notMark_of_notXl (h : o ∉ xlRegs n) : o ∉ markRegs n := by
  simp [xlRegs, markRegs] at h ⊢
  tauto

theorem notStatus_of_notXl (h : o ∉ xlRegs n) : o ∉ [R.XL_n_STATUS n, R.XL_n_EYE_STATUS n] := by
  simp [xlRegs] at h ⊢
  tauto

theorem notEvent_of_notXl (h : o ∉ xlRegs n) : o ∉ [R.XL_n_EVENT n] := by
  simp [xlRegs] at h ⊢
  tauto

theorem notRefused_of_notXl (h : o ∉ xlRegs n) : o ∉ [R.XL_n_CMD_REFUSED n, R.XL_n_EVENT n] := by
  simp [xlRegs] at h ⊢
  tauto

theorem status_mem_xlRegs : R.XL_n_STATUS n ∈ xlRegs n := by simp [xlRegs]

end

/-- STATE, and the other fields of the status, after what a lane has seen. -/
theorem xlSee_cmd (s : State) (n : Lane) (g : XlSeen) (t : State) (ht : t = s.xlSee n g) :
    XlCmd n s t ∧ t.xlState n = s.xlState n ∧ (∃ q, t.laneOf n = { s.laneOf n with flagged := q }) ∧
      (∀ i, i ≠ xeThresh → t.bit (R.XL_n_EVENT n) i = s.bit (R.XL_n_EVENT n) i) ∧
      ∀ f : Fld, f.off = R.XL_n_STATUS n → (F.XL_n_STATUS_SIG_DET n).apart f = true → t.get f = s.get f := by
  obtain ⟨h1, h2, h3, h4⟩ := xlSee_shows s n g t ht
  exact ⟨h1.weaken fun o => notSeen_of_notXl, h4 _ rfl (by apply all_fin n; decide +kernel), h2, h3, h4⟩

/-! ### The PLL and training -/

theorem xlPllLock_shows {s : State} {n : Lane} (h : s.get (F.XL_n_CTRL_ENABLE n) = 1) (t : State) (ht : t = xlPllLock n s) :
    t.get (F.XL_n_STATUS_PLL_LOCK n) = 1 ∧ (t.laneOf n).txOn = ((s.laneOf n).txOn || s.xlState n == 3) ∧ XlCmd n s t := by
  rw [xlPllLock, if_pos (by simp [is_eq, h])] at ht
  have hu : XlCmd n s (s.put (F.XL_n_STATUS_PLL_LOCK n) 1) := XlStep.refl.put fun h => h status_mem_xlRegs
  have hl := laneOf_put s (F.XL_n_STATUS_PLL_LOCK n) 1 n
  have hg : (s.put (F.XL_n_STATUS_PLL_LOCK n) 1).get (F.XL_n_STATUS_PLL_LOCK n) = 1 := get_put_same _ _ _ (by apply all_fin n; decide +kernel)
  generalize s.put (F.XL_n_STATUS_PLL_LOCK n) 1 = u at *
  subst ht
  refine ⟨by rw [get_updLane, hg], ?_, hu.updLane⟩
  rw [laneOf_updLane, hl] <;> rfl

/-- The coefficients that training ends with. -/
def State.xlTrained (s : State) (n a b : Nat) : State := ((s.put (F.XL_n_FFE_PRE n) a).put (F.XL_n_FFE_POST n) b).put (F.XL_n_STATUS_TRAIN_DONE n) 1

theorem xlTrained_shows (s : State) (n : Lane) {a b : Nat} (ha : a ≤ 8) (hb : b ≤ 16) (t : State) (ht : t = s.xlTrained n a b) :
    RegStep (· ∉ [R.XL_n_STATUS n, R.XL_n_FFE n]) s t ∧ t.get (F.XL_n_FFE_PRE n) = a ∧ t.get (F.XL_n_FFE_POST n) = b ∧
      t.get (F.XL_n_STATUS_TRAIN_DONE n) = 1 := by
  have h1 : (F.XL_n_FFE_PRE n).fits a = true := Fld.fits_of_lt (n := 16) rfl (by omega)
  have h2 : (F.XL_n_FFE_POST n).fits b = true := Fld.fits_of_lt (n := 32) rfl (by omega)
  subst ht
  refine ⟨((RegStep.refl.put (by simp [F.XL_n_FFE_PRE])).put (by simp [F.XL_n_FFE_POST])).put (by simp [F.XL_n_STATUS_TRAIN_DONE]), ?_, ?_, ?_⟩
  · rw [State.xlTrained, get_put_apart _ _ _ _ (by apply all_fin n; decide +kernel), get_put_apart _ _ _ _ (by apply all_fin n; decide +kernel),
      get_put_same _ _ _ h1]
  · rw [State.xlTrained, get_put_apart _ _ _ _ (by apply all_fin n; decide +kernel), get_put_same _ _ _ h2]
  · rw [State.xlTrained, get_put_same _ _ _ (by apply all_fin n; decide +kernel)]

theorem xlTrainDone_run {s : State} {n a b : Nat} (h : s.xlState n = 2) (ha : a ≤ 8) (hb : b ≤ 16) (hab : a + b ≤ 20) :
    xlTrainDone n a b s = (s.xlTrained n a b).trainEnd n := by
  rw [xlTrainDone, if_pos ⟨h, by simp [ffeOk, ha, hb, hab]⟩] <;> rfl

theorem trainEnd_idle {s : State} {n : Nat} (h : (s.laneOf n).pendStart = false) : s.trainEnd n = s.xlEnter n 1 := by
  rw [State.trainEnd, if_neg (by simp [h])] <;> rfl

theorem trainEnd_start {s : State} {n : Nat} (h : (s.laneOf n).pendStart = true) (hb : (s.xlEnter n 1).badLaneDrawer n = false) :
    s.trainEnd n = (s.xlEnter n 1).xlRun n (s.laneOf n).pendKeep := by
  rw [State.trainEnd, if_pos h, if_neg (by rw [xlIdle, hb]; decide)] <;> rfl

theorem badLaneDrawer_xlEnter (s : State) (n : Lane) (st : Nat) : (s.xlEnter n st).badLaneDrawer n = s.badLaneDrawer n :=
  badLaneDrawer_congr (laneStep_xlEnter s n st) (by apply all_fin n; decide +kernel) (by apply all_fin n; decide +kernel) fun w hw => by
    simp only [R.DRW_COMMIT_MAP_w, R.XL_n_STATUS, R.XL_n_EYE_STATUS, List.mem_cons, List.not_mem_nil, or_false]
    omega

theorem trainDone_idle {s : State} {n : Lane} {a b : Nat} (h2 : s.xlState n = 2) (hp : (s.laneOf n).pendStart = false) (ha : a ≤ 8) (hb : b ≤ 16)
    (hab : a + b ≤ 20) (t : State) (ht : t = xlTrainDone n a b s) :
    t.xlState n = 1 ∧ t.get (F.XL_n_STATUS_TRAIN_DONE n) = 1 ∧ t.get (F.XL_n_FFE_PRE n) = a ∧ t.get (F.XL_n_FFE_POST n) = b ∧
      RegsBut [R.XL_n_STATUS n, R.XL_n_EYE_STATUS n, R.XL_n_FFE n, R.XL_n_EVENT n] s t ∧ t = { s with regs := t.regs, xl := t.xl } := by
  rw [xlTrainDone_run h2 ha hb hab] at ht
  obtain ⟨k1, k2, k3, k4⟩ := xlTrained_shows s n ha hb _ rfl
  generalize s.xlTrained n a b = u at *
  rw [trainEnd_idle (by rw [laneOf_regStep k1, hp])] at ht
  have hk := ht ▸ xlStep_xlEnter u n 1
  have hd := ht ▸ get_xlEnter_apart u n 1 (F.XL_n_STATUS_TRAIN_DONE n) (by apply all_fin n; decide +kernel)
  have hs := ht ▸ xlState_xlEnter u n (st := 1) (by decide)
  have hf : XlStep (· ∉ [R.XL_n_STATUS n, R.XL_n_EYE_STATUS n, R.XL_n_FFE n, R.XL_n_EVENT n]) n s t :=
    (XlStep.of_regStep (k1.weaken fun o ho => by simp at ho ⊢; tauto)).trans (hk.weaken fun o ho => by simp at ho ⊢; tauto)
  exact ⟨hs, hd.trans k4, (hk.regs.get (by apply all_fin n; decide +kernel)).trans k2, (hk.regs.get (by apply all_fin n; decide +kernel)).trans k3,
    hf.regs, hf.others⟩

theorem trainDone_start {s : State} {n : Lane} {a b : Nat} (h2 : s.xlState n = 2) (hp : (s.laneOf n).pendStart = true)
    (hd : s.badLaneDrawer n = false) (ha : a ≤ 8) (hb : b ≤ 16) (hab : a + b ≤ 20) (t : State) (ht : t = xlTrainDone n a b s) :
    t.xlState n = 3 ∧ t.get (F.XL_n_STATUS_TRAIN_DONE n) = 1 ∧ (t.laneOf n).pendStart = false ∧
      ((s.laneOf n).pendKeep = false → t.pair (R.XL_n_BERR_LO n) = 0) ∧ t.mem = s.mem := by
  rw [xlTrainDone_run h2 ha hb hab] at ht
  obtain ⟨k1, -, -, k4⟩ := xlTrained_shows s n ha hb _ rfl
  generalize s.xlTrained n a b = u at *
  have hl := laneOf_regStep k1 n
  have hbad : u.badLaneDrawer n = false := by
    rw [badLaneDrawer_congr (LaneStep.of_regStep k1) (by apply all_fin n; decide +kernel) (by apply all_fin n; decide +kernel) fun w hw => by
      simp only [R.DRW_COMMIT_MAP_w, R.XL_n_STATUS, R.XL_n_FFE, List.mem_cons, List.not_mem_nil, or_false]
      omega, hd]
  rw [trainEnd_start (by rw [hl, hp]) (by rw [badLaneDrawer_xlEnter, hbad])] at ht
  have hk := xlStep_xlEnter u n 1
  have hg := get_xlEnter_apart u n 1 (F.XL_n_STATUS_TRAIN_DONE n) (by apply all_fin n; decide +kernel)
  generalize u.xlEnter n 1 = w at *
  obtain ⟨l1, l2, -, l4, l5, -, -, -, -, l10, -⟩ := xlRun_shows w n _ t ht
  have hm : t.mem = s.mem := by rw [l1.others, hk.others, k1.others]
  exact ⟨l2, by rw [l5, hg, k4], l10, fun e => (l4 (by rw [hl, e])).2, hm⟩

theorem trainTimeout_idle {s : State} {n : Lane} (h2 : s.xlState n = 2) (hp : (s.laneOf n).pendStart = false) (t : State)
    (ht : t = xlTrainTimeout n s) : t.xlState n = 1 ∧ t.get (F.XL_n_STATUS_TRAIN_DONE n) = s.get (F.XL_n_STATUS_TRAIN_DONE n) ∧
      t.bit (R.XL_n_EVENT n) 5 = true ∧ RegsBut [R.XL_n_STATUS n, R.XL_n_EYE_STATUS n, R.XL_n_FFE n, R.XL_n_EVENT n] s t ∧
      t = { s with regs := t.regs, xl := t.xl } := by
  rw [xlTrainTimeout, if_pos (show s.xlState n = xlTraining from h2)] at ht
  have hu := xlStep_xlEvent s n xeTrainFail
  obtain ⟨q, hl⟩ := laneOf_xlEvent s n xeTrainFail
  have hb := bit_xlEvent s n xeTrainFail (by decide) 5
  have hg := get_xlEvent_apart s n xeTrainFail (F.XL_n_STATUS_TRAIN_DONE n) (by apply all_fin n; decide +kernel)
  generalize s.xlEvent n xeTrainFail = u at *
  rw [trainEnd_idle (by rw [hl]; exact hp)] at ht
  have hk := ht ▸ xlStep_xlEnter u n 1
  have hd := ht ▸ get_xlEnter_apart u n 1 (F.XL_n_STATUS_TRAIN_DONE n) (by apply all_fin n; decide +kernel)
  have hs := ht ▸ xlState_xlEnter u n (st := 1) (by decide)
  have hf : XlStep (· ∉ [R.XL_n_STATUS n, R.XL_n_EYE_STATUS n, R.XL_n_FFE n, R.XL_n_EVENT n]) n s t :=
    (hu.weaken fun o ho => by simp at ho ⊢; tauto).trans (hk.weaken fun o ho => by simp at ho ⊢; tauto)
  exact ⟨hs, hd.trans hg, (hk.regs.bit (by apply all_fin n; decide +kernel)).trans (hb.trans (if_pos rfl)), hf.regs, hf.others⟩

/-! ### Checkers -/

theorem running_of_prbsOn {s : State} {n : Nat} (h : s.prbsOn n = true) : s.xlState n = 3 := by
  simp only [State.prbsOn, Bool.and_eq_true, beq_iff_eq] at h
  exact h.1.1.1

theorem prbsLock_shows {s : State} {n : Lane} {g : XlSeen} (h : s.prbsOn n = true) (t : State) (ht : t = xlPrbsLock n g s) :
    t.get (F.XL_n_STATUS_LOCK n) = 1 ∧ t.xlState n = 3 ∧ XlCmd n s t := by
  rw [xlPrbsLock, if_pos h] at ht
  obtain ⟨k1, k2, -, -, -⟩ := xlSee_cmd s n g _ rfl
  generalize s.xlSee n g = u at *
  subst ht
  refine ⟨get_put_same _ _ _ (by apply all_fin n; decide +kernel), ?_, k1.put fun h => h status_mem_xlRegs⟩
  rw [State.xlState, get_put_apart _ _ _ _ (by apply all_fin n; decide +kernel)]
  exact k2.trans (running_of_prbsOn h)

theorem lockLoss_shows {s : State} {n : Lane} {g : XlSeen} (h : s.prbsOn n = true) (hl : s.get (F.XL_n_STATUS_LOCK n) = 1) (t : State)
    (ht : t = xlLockLoss n g s) : t.get (F.XL_n_STATUS_LOCK n) = 0 ∧
      t.num (R.XL_n_LOCK_LOSS n) = min satMax (s.num (R.XL_n_LOCK_LOSS n) + 1) ∧ t.bit (R.XL_n_EVENT n) 1 = true ∧
      t.get (F.XL_n_STATUS_EYE_BUSY n) = 0 ∧ t.xlState n = 3 ∧ t = { s with regs := t.regs, xl := t.xl } := by
  rw [xlLockLoss, if_pos ⟨h, by simp [is_eq, hl]⟩] at ht
  dsimp only at ht
  obtain ⟨k1, k2, -, -, -⟩ := xlSee_cmd s n g _ rfl
  generalize s.xlSee n g = u at *
  have ha : XlStep (fun _ => False) n u ((u.put (F.XL_n_STATUS_LOCK n) 0).bump (R.XL_n_LOCK_LOSS n)) := (XlStep.refl.put id).bump id
  have h1 : ((u.put (F.XL_n_STATUS_LOCK n) 0).bump (R.XL_n_LOCK_LOSS n)).get (F.XL_n_STATUS_LOCK n) = 0 := by
    rw [get_bump_apart _ _ _ (by apply all_fin n; decide +kernel), get_put_same _ _ _ (by apply all_fin n; decide +kernel)]
  have h2 : ((u.put (F.XL_n_STATUS_LOCK n) 0).bump (R.XL_n_LOCK_LOSS n)).num (R.XL_n_LOCK_LOSS n) = min satMax (s.num (R.XL_n_LOCK_LOSS n) + 1) := by
    rw [num_bump_same, num_put_apart _ _ _ _ (by apply all_fin n; decide +kernel), k1.regs.num (by apply all_fin n; decide +kernel)]
  have h3 : ((u.put (F.XL_n_STATUS_LOCK n) 0).bump (R.XL_n_LOCK_LOSS n)).get (F.XL_n_STATUS_STATE n) = 3 := by
    rw [get_bump_apart _ _ _ (by apply all_fin n; decide +kernel), get_put_apart _ _ _ _ (by apply all_fin n; decide +kernel)]
    exact k2.trans (running_of_prbsOn h)
  generalize (u.put (F.XL_n_STATUS_LOCK n) 0).bump (R.XL_n_LOCK_LOSS n) = w at *
  have hb := xlStep_eyeAbort w n
  have g1 := get_eyeAbort_apart w n (F.XL_n_STATUS_LOCK n) (by apply all_fin n; decide +kernel)
  have g2 := get_eyeAbort_apart w n (F.XL_n_STATUS_STATE n) (by apply all_fin n; decide +kernel)
  have g3 := eyeBusy_eyeAbort w n
  generalize w.eyeAbort n = v at *
  have hc := xlStep_xlEvent v n xeLockLoss
  have c1 := bit_xlEvent v n xeLockLoss (by decide) 1
  rw [← ht] at hc c1
  have hf : XlStep (fun _ => False) n s t := (((k1.weaken fun _ => False.elim).trans ha).trans (hb.weaken fun _ => False.elim)).trans (hc.weaken fun _ => False.elim)
  refine ⟨?_, ?_, c1.trans (if_pos rfl), ?_, ?_, hf.others⟩
  · rw [hc.regs.get (by apply all_fin n; decide +kernel), g1, h1]
  · rw [hc.regs.num (by apply all_fin n; decide +kernel), hb.regs.num (by apply all_fin n; decide +kernel), h2]
  · rw [hc.regs.get (by apply all_fin n; decide +kernel), g3]
  · rw [State.xlState, hc.regs.get (by apply all_fin n; decide +kernel), g2, h3]

theorem sigLoss_shows {s : State} {n : Lane} {g : XlSeen} (h : s.xlState n = 3) (hc : (s.laneOf n).checker = true) (t : State)
    (ht : t = xlSigLoss n g s) : t.get (F.XL_n_STATUS_SIG_DET n) = 0 ∧ t.bit (R.XL_n_EVENT n) 2 = true ∧ t.xlState n = 3 ∧ XlCmd n s t := by
  rw [xlSigLoss, if_pos ⟨h, hc⟩] at ht
  obtain ⟨k1, k2, -, -, -⟩ := xlSee_cmd s n g _ rfl
  generalize s.xlSee n g = u at *
  have ha : XlCmd n u (u.put (F.XL_n_STATUS_SIG_DET n) 0) := XlStep.refl.put fun h => h status_mem_xlRegs
  have h1 : (u.put (F.XL_n_STATUS_SIG_DET n) 0).get (F.XL_n_STATUS_SIG_DET n) = 0 := get_put_same _ _ _ (by apply all_fin n; decide +kernel)
  have h2 : (u.put (F.XL_n_STATUS_SIG_DET n) 0).get (F.XL_n_STATUS_STATE n) = u.get (F.XL_n_STATUS_STATE n) :=
    get_put_apart _ _ _ _ (by apply all_fin n; decide +kernel)
  generalize u.put (F.XL_n_STATUS_SIG_DET n) 0 = w at *
  have hk := xlStep_xlEvent w n xeSigLoss
  have c1 := bit_xlEvent w n xeSigLoss (by decide) 2
  rw [← ht] at hk c1
  refine ⟨?_, c1.trans (if_pos rfl), ?_, (k1.trans ha).trans (hk.weaken fun o => notEvent_of_notXl)⟩
  · rw [hk.regs.get (by apply all_fin n; decide +kernel), h1]
  · rw [State.xlState, hk.regs.get (by apply all_fin n; decide +kernel), h2]
    exact k2.trans h

theorem xlSee_locked {s : State} {n : Lane} {g : XlSeen} (h : s.xlState n = 3) (hc : (s.laneOf n).checker = true)
    (hl : s.get (F.XL_n_STATUS_LOCK n) = 1) : s.xlSee n g = (s.xlHeard n g).xlCounted n g := by
  have hk : (s.xlHeard n g).get (F.XL_n_STATUS_LOCK n) = s.get (F.XL_n_STATUS_LOCK n) := by
    rw [State.xlHeard, get_put_apart _ _ _ _ (by apply all_fin n; decide +kernel), get_putPair_apart _ _ _ _ (by apply all_fin n; decide +kernel)]
  rw [xlSee_eq, if_pos ⟨h, hc⟩, if_pos (by simp [is_eq, hk, hl])]

theorem xlHeard_shows (s : State) (n : Lane) (g : XlSeen) (t : State) (ht : t = s.xlHeard n g) :
    RegStep (· ∉ [R.XL_n_RX_WORD_LO n, R.XL_n_RX_WORD_LO n + 4, R.XL_n_STATUS n]) s t ∧ t.pair (R.XL_n_RX_WORD_LO n) = g.rx.toNat := by
  have h := regStep_xlHeard s n g
  have hp : RegStep (· ∉ [R.XL_n_STATUS n]) (s.putPair (R.XL_n_RX_WORD_LO n) g.rx.toNat) (s.xlHeard n g) :=
    RegStep.refl.put (by simp [F.XL_n_STATUS_SIG_DET])
  refine ⟨ht ▸ h, ?_⟩
  rw [ht, pair_of_regs hp.2 (by apply all_fin n; decide +kernel) (by apply all_fin n; decide +kernel), pair_putPair _ _ _ g.rx.isLt]

theorem xlTallied_shows (s : State) (n : Lane) (g : XlSeen) (t : State) (ht : t = s.xlTallied n g) :
    RegStep (· ∉ [R.XL_n_BITS_LO n, R.XL_n_BITS_LO n + 4, R.XL_n_BERR_LO n, R.XL_n_BERR_LO n + 4]) s t ∧
      t.pair (R.XL_n_BITS_LO n) = min xlMax (s.pair (R.XL_n_BITS_LO n) + g.bits) ∧
      t.pair (R.XL_n_BERR_LO n) = min xlMax (s.pair (R.XL_n_BERR_LO n) + min g.errs g.bits) := by
  have hx : xlMax < 2 ^ 64 := by decide
  have hp : RegStep (· ∉ [R.XL_n_BERR_LO n, R.XL_n_BERR_LO n + 4])
      (s.putPair (R.XL_n_BITS_LO n) (min xlMax (s.pair (R.XL_n_BITS_LO n) + g.bits))) (s.xlTallied n g) :=
    RegStep.refl.putPair (by simp) (by simp)
  refine ⟨ht ▸ regStep_xlTallied s n g, ?_, ?_⟩
  · rw [ht, pair_of_regs hp.2 (by apply all_fin n; decide +kernel) (by apply all_fin n; decide +kernel),
      pair_putPair _ _ _ (lt_of_le_of_lt (Nat.min_le_left _ _) hx)]
  · rw [ht, State.xlTallied, pair_putPair _ _ _ (lt_of_le_of_lt (Nat.min_le_left _ _) hx)]

theorem errThresh_shows {s : State} {n : Lane} {g : XlSeen} {old : Nat} (h : s.xlState n = 3) (hc : (s.laneOf n).checker = true)
    (hl : s.get (F.XL_n_STATUS_LOCK n) = 1) (ho : old = s.pair (R.XL_n_BERR_LO n)) (hz : s.num (R.XL_n_ERR_THRESH n) ≠ 0)
    (hlt : old < s.num (R.XL_n_ERR_THRESH n)) (hle : s.num (R.XL_n_ERR_THRESH n) ≤ old + g.errs) (he : g.errs ≤ g.bits)
    (hm : old + g.errs < 2 ^ 48) (hb : s.pair (R.XL_n_BITS_LO n) + g.bits < 2 ^ 48) (t : State) (ht : t = s.xlSee n g) :
    t.bit (R.XL_n_EVENT n) 0 = true ∧ t.pair (R.XL_n_BERR_LO n) = old + g.errs ∧
      t.pair (R.XL_n_BITS_LO n) = s.pair (R.XL_n_BITS_LO n) + g.bits ∧ t.pair (R.XL_n_RX_WORD_LO n) = g.rx.toNat := by
  rw [xlSee_locked h hc hl] at ht
  obtain ⟨h1, h2⟩ := xlHeard_shows s n g _ rfl
  have e1 : (s.xlHeard n g).pair (R.XL_n_BERR_LO n) = old :=
    (pair_of_regs h1.2 (by apply all_fin n; decide +kernel) (by apply all_fin n; decide +kernel)).trans ho.symm
  have e2 : (s.xlHeard n g).pair (R.XL_n_BITS_LO n) = s.pair (R.XL_n_BITS_LO n) :=
    pair_of_regs h1.2 (by apply all_fin n; decide +kernel) (by apply all_fin n; decide +kernel)
  have e3 : (s.xlHeard n g).num (R.XL_n_ERR_THRESH n) = s.num (R.XL_n_ERR_THRESH n) := h1.2.num (by apply all_fin n; decide +kernel)
  generalize s.xlHeard n g = u at *
  obtain ⟨k1, k2, k3⟩ := xlTallied_shows u n g _ rfl
  have hx : xlMax = 2 ^ 48 - 1 := rfl
  have e4 : (u.xlTallied n g).num (R.XL_n_ERR_THRESH n) = s.num (R.XL_n_ERR_THRESH n) :=
    (k1.2.num (by apply all_fin n; decide +kernel)).trans e3
  have hmin : min xlMax (old + min g.errs g.bits) = old + g.errs := by omega
  rw [State.xlCounted, e1, e4, hmin] at ht
  rw [e1, hmin] at k3
  rw [e2, show min xlMax (s.pair (R.XL_n_BITS_LO n) + g.bits) = s.pair (R.XL_n_BITS_LO n) + g.bits by omega] at k2
  have e5 : (u.xlTallied n g).pair (R.XL_n_RX_WORD_LO n) = g.rx.toNat :=
    (pair_of_regs k1.2 (by apply all_fin n; decide +kernel) (by apply all_fin n; decide +kernel)).trans h2
  generalize u.xlTallied n g = w at *
  rw [show (s.num (R.XL_n_ERR_THRESH n) != 0 && old < s.num (R.XL_n_ERR_THRESH n) && s.num (R.XL_n_ERR_THRESH n) ≤ old + g.errs) = true by
    simp [hz, hlt, hle], when_true] at ht
  have hk := ht ▸ xlStep_xlEvent w n xeThresh
  exact ⟨(ht ▸ bit_xlEvent w n xeThresh (by decide) 0).trans (if_pos rfl),
    (pair_of_regs hk.regs (by apply all_fin n; decide +kernel) (by apply all_fin n; decide +kernel)).trans k3,
    (pair_of_regs hk.regs (by apply all_fin n; decide +kernel) (by apply all_fin n; decide +kernel)).trans k2,
    (pair_of_regs hk.regs (by apply all_fin n; decide +kernel) (by apply all_fin n; decide +kernel)).trans e5⟩

/-! ### The end of a payload -/

theorem payloadEnd_shows {s : State} {n : Lane} {g : XlSeen} (h : s.xlState n = 3) (hx : (s.laneOf n).txSrc = 7) (hl : (s.laneOf n).loop ≠ 2)
    (hp : (s.laneOf n).payloadEnded = false) (hr : (s.laneOf n).repeat_ = false) (t : State) (ht : t = xlPayloadEnd n g s) :
    t.bit (R.XL_n_EVENT n) 4 = true ∧ (t.laneOf n).payloadEnded = true ∧ t.xlState n = 3 ∧ XlCmd n s t := by
  rw [xlPayloadEnd, if_pos ⟨h, hx, hl, by simp [hp]⟩, if_neg (by simp [hr])] at ht
  obtain ⟨k1, k2, -, -, -⟩ := xlSee_cmd s n g _ rfl
  generalize s.xlSee n g = u at *
  have ha : XlCmd n u (u.updLane n fun x => { x with payloadEnded := true }) := XlStep.refl.updLane
  have hl := laneOf_updLane u n fun x => { x with payloadEnded := true }
  have hs : (u.updLane n fun x => { x with payloadEnded := true }).get (F.XL_n_STATUS_STATE n) = u.get (F.XL_n_STATUS_STATE n) := get_updLane ..
  generalize (u.updLane n fun x => { x with payloadEnded := true }) = w at *
  have hk := xlStep_xlEvent w n xeDrwEnd
  have c1 := bit_xlEvent w n xeDrwEnd (by decide) 4
  obtain ⟨q, c2⟩ := laneOf_xlEvent w n xeDrwEnd
  rw [← ht] at hk c1 c2
  refine ⟨c1.trans (if_pos rfl), by rw [c2, hl], ?_, (k1.trans ha).trans (hk.weaken fun o => notEvent_of_notXl)⟩
  rw [State.xlState, hk.regs.get (by apply all_fin n; decide +kernel), hs]
  exact k2.trans h

theorem payloadEnd_repeats {s : State} {n : Lane} {g : XlSeen} (h : s.xlState n = 3) (hr : (s.laneOf n).repeat_ = true) (t : State)
    (ht : t = xlPayloadEnd n g s) : (t.laneOf n).payloadEnded = (s.laneOf n).payloadEnded ∧ t.xlState n = 3 ∧
      t.bit (R.XL_n_EVENT n) 4 = s.bit (R.XL_n_EVENT n) 4 ∧ XlCmd n s t := by
  rw [xlPayloadEnd] at ht
  by_cases hc : s.xlState n = xlRunning ∧ (s.laneOf n).txSrc = 7 ∧ (s.laneOf n).loop ≠ 2 ∧ !(s.laneOf n).payloadEnded
  · rw [if_pos hc, if_pos hr] at ht
    obtain ⟨k1, k2, ⟨q, k3⟩, k4, -⟩ := xlSee_cmd s n g t ht
    exact ⟨by rw [k3], k2.trans h, k4 4 (by decide), k1⟩
  · rw [if_neg hc] at ht
    subst ht
    exact ⟨rfl, h, rfl, XlStep.refl⟩

/-! ### The eye scan -/

theorem getElem_leBytes (n v i : Nat) (h : i < (leBytes n v).length) : (leBytes n v)[i] = BitVec.ofNat 8 (v / 256 ^ i % 256) := by
  induction n generalizing v i with
  | zero => exact absurd h (by simp [leBytes])
  | succ n ih =>
    cases i with
    | zero => simp [leBytes, BitVec.ofNat_eq_ofNat, BitVec.toNat_eq]
    | succ i =>
      simp only [leBytes, List.getElem_cons_succ]
      rw [ih, Nat.div_div_eq_div_mul, pow_succ, Nat.mul_comm]

/-- The count of one point is stored. -/
def State.eyeStored (s : State) (a v : Nat) : State := (s.wrBytes a (leBytes 4 v)).dropResv none a 4

theorem eyeStored_shows (s : State) (a v : Nat) (t : State) (ht : t = s.eyeStored a v) :
    (∃ m h, t = { s with mem := m, hart := h }) ∧ MemBut a 4 s t ∧ ∀ i : Fin 4, t.rdByte (a + i) = BitVec.ofNat 8 (v / 256 ^ i.val % 256) := by
  obtain ⟨m, hm⟩ := wrBytes_others s a (leBytes 4 v)
  obtain ⟨h, hh⟩ := dropResv_others (s.wrBytes a (leBytes 4 v)) none a 4
  have hr : ∀ b, t.rdByte b = (s.wrBytes a (leBytes 4 v)).rdByte b := fun b => by rw [ht, State.eyeStored, hh] <;> rfl
  have hl := length_leBytes 4 v
  refine ⟨⟨m, h, by rw [ht, State.eyeStored, hh, hm]⟩, fun b hb => ?_, fun i => ?_⟩
  · rw [hr, rdByte_wrBytes_ne _ _ _ _ (by rw [hl]; exact hb)]
  · rw [hr, rdByte_wrBytes _ _ _ _ (by rw [hl]; exact i.isLt), getElem_leBytes]

theorem eyePoint_run {s : State} {n : Nat} {cnt : Nat} (h : s.get (F.XL_n_STATUS_EYE_BUSY n) = 1) : xlEyePointDone n cnt s =
    let u := (s.eyeStored ((s.laneOf n).eyeBase + 4 * s.get (F.XL_n_EYE_STATUS_POINTS n)) (min satMax (min cnt (2 ^ (s.laneOf n).dwell)))).put
      (F.XL_n_EYE_STATUS_POINTS n) (s.get (F.XL_n_EYE_STATUS_POINTS n) + 1)
    if s.get (F.XL_n_EYE_STATUS_POINTS n) + 1 = 8192 then (u.put (F.XL_n_STATUS_EYE_BUSY n) 0).xlEvent n xeEyeDone else u := by
  rw [xlEyePointDone, if_pos (by simp [is_eq, h])] <;> rfl

theorem eyePoint_shows {s : State} {n : Lane} {cnt p : Nat} (h : s.get (F.XL_n_STATUS_EYE_BUSY n) = 1) (hp : p = s.get (F.XL_n_EYE_STATUS_POINTS n))
    (hlt : p < 8191) (hd : (s.laneOf n).dwell < 32) (t : State) (ht : t = xlEyePointDone n cnt s) :
    (∀ i : Fin 4, t.rdByte ((s.laneOf n).eyeBase + 4 * p + i) = BitVec.ofNat 8 (min cnt (2 ^ (s.laneOf n).dwell) / 256 ^ i.val % 256)) ∧
      MemBut ((s.laneOf n).eyeBase + 4 * p) 4 s t ∧ t.get (F.XL_n_EYE_STATUS_POINTS n) = p + 1 ∧ t.get (F.XL_n_STATUS_EYE_BUSY n) = 1 ∧
      RegsBut [R.XL_n_EYE_STATUS n] s t ∧ t = { s with regs := t.regs, mem := t.mem, hart := t.hart } := by
  rw [eyePoint_run h, ← hp] at ht
  dsimp only at ht
  rw [if_neg (by omega)] at ht
  have hpow : 2 ^ (s.laneOf n).dwell ≤ satMax := (Nat.pow_le_pow_right (by decide) (Nat.lt_succ_iff.1 hd)).trans (by decide)
  rw [Nat.min_eq_right ((Nat.min_le_right cnt _).trans hpow)] at ht
  obtain ⟨⟨m, x, h1⟩, h2, h3⟩ := eyeStored_shows s ((s.laneOf n).eyeBase + 4 * p) (min cnt (2 ^ (s.laneOf n).dwell)) _ rfl
  generalize s.eyeStored ((s.laneOf n).eyeBase + 4 * p) (min cnt (2 ^ (s.laneOf n).dwell)) = u at *
  have hk : RegStep (· ∉ [R.XL_n_EYE_STATUS n]) u t := ht ▸ RegStep.refl.put (by simp [F.XL_n_EYE_STATUS_POINTS])
  have hm : t.mem = u.mem := by rw [hk.others]
  have hg : t.get (F.XL_n_EYE_STATUS_POINTS n) = p + 1 := by
    rw [ht, get_put_same _ _ _ (Fld.fits_of_lt (n := 16384) (by simp [F.XL_n_EYE_STATUS_POINTS]) (by omega))]
  have hr : RegsIf (· ∉ [R.XL_n_EYE_STATUS n]) s u := h1 ▸ RegsIf.refl.of_regs rfl
  have hb : t.get (F.XL_n_STATUS_EYE_BUSY n) = 1 := by
    rw [hk.2.get (by apply all_fin n; decide +kernel), hr.get (by apply all_fin n; decide +kernel), h]
  refine ⟨fun i => by rw [rdByte_congr hm, h3], fun b hb => by rw [rdByte_congr hm, h2 b hb], hg, hb, hr.trans hk.2, ?_⟩
  obtain ⟨⟨a, rfl⟩, -⟩ := hk
  rw [h1]

theorem eyeEnd_shows {s : State} {n : Lane} {cnt : Nat} (h : s.get (F.XL_n_STATUS_EYE_BUSY n) = 1) (hp : s.get (F.XL_n_EYE_STATUS_POINTS n) = 8191)
    (t : State) (ht : t = xlEyePointDone n cnt s) : t.get (F.XL_n_EYE_STATUS_POINTS n) = 8192 ∧ t.get (F.XL_n_STATUS_EYE_BUSY n) = 0 ∧
      t.bit (R.XL_n_EVENT n) 6 = true ∧ MemBut ((s.laneOf n).eyeBase + 32764) 4 s t := by
  rw [eyePoint_run h, hp] at ht
  dsimp only at ht
  rw [if_pos rfl] at ht
  obtain ⟨-, h2, -⟩ := eyeStored_shows s ((s.laneOf n).eyeBase + 4 * 8191) (min satMax (min cnt (2 ^ (s.laneOf n).dwell))) _ rfl
  generalize s.eyeStored ((s.laneOf n).eyeBase + 4 * 8191) (min satMax (min cnt (2 ^ (s.laneOf n).dwell))) = u at *
  have hk : RegStep (fun _ => False) u ((u.put (F.XL_n_EYE_STATUS_POINTS n) (8191 + 1)).put (F.XL_n_STATUS_EYE_BUSY n) 0) := (RegStep.refl.put id).put id
  have h3 : ((u.put (F.XL_n_EYE_STATUS_POINTS n) (8191 + 1)).put (F.XL_n_STATUS_EYE_BUSY n) 0).get (F.XL_n_EYE_STATUS_POINTS n) = 8192 := by
    rw [get_put_apart _ _ _ _ (by apply all_fin n; decide +kernel), get_put_same _ _ _ (by apply all_fin n; decide +kernel)]
  have h4 : ((u.put (F.XL_n_EYE_STATUS_POINTS n) (8191 + 1)).put (F.XL_n_STATUS_EYE_BUSY n) 0).get (F.XL_n_STATUS_EYE_BUSY n) = 0 :=
    get_put_same _ _ _ (by apply all_fin n; decide +kernel)
  generalize (u.put (F.XL_n_EYE_STATUS_POINTS n) (8191 + 1)).put (F.XL_n_STATUS_EYE_BUSY n) 0 = w at *
  have he := ht ▸ xlStep_xlEvent w n xeEyeDone
  have hm : t.mem = u.mem := by rw [he.others, hk.others]
  exact ⟨(he.regs.get (by apply all_fin n; decide +kernel)).trans h3, (he.regs.get (by apply all_fin n; decide +kernel)).trans h4,
    (ht ▸ bit_xlEvent w n xeEyeDone (by decide) 6).trans (if_pos rfl), fun b hb => by rw [rdByte_congr hm, h2 b hb]⟩

/-! ### Sequencer coupling -/

/-- The oldest action leaves its list. -/
def State.actTaken (s : State) (n : Nat) (g : XlSeen) (l : List LaneAct) : State := (s.xlSee n g).updLane n (fun x => { x with acts := l })

/-- An action that has left its list acts. -/
def State.actRun (s : State) (n : Nat) (g : XlSeen) (a : LaneAct) : State :=
  match s.xlCheck n (if a.act = 0 then .start else if a.act = 1 then .stop else .mark) with
  | some e => (s.xlRefuse n).put (F.XL_n_STATUS_CMD_RESULT n) e
  | none =>
    if a.act = 0 then s.xlBegin n (a.arg.testBit 0)
    else if a.act = 1 then
      if a.arg.testBit 0 && s.xlState n == xlRunning then s.xlQuiet n else s.xlEnter n xlIdle
    else (s.put (F.XL_n_MARK_TAG_TAG n) a.arg).xlMarked n g.sent a.tb

theorem actTaken_shows (s : State) (n : Lane) (g : XlSeen) (l : List LaneAct) (t : State) (ht : t = s.actTaken n g l) :
    XlStep (· ∉ seenRegs n) n s t ∧ (t.laneOf n).acts = l ∧ t.xlState n = s.xlState n := by
  obtain ⟨h1, -, -, h4⟩ := xlSee_shows s n g _ rfl
  rw [State.actTaken] at ht
  generalize s.xlSee n g = u at *
  subst ht
  exact ⟨h1.updLane, by rw [laneOf_updLane], h4 _ rfl (by apply all_fin n; decide +kernel)⟩

theorem safe_of_regs {P : Nat → Prop} {s t : State} (h : RegsIf P s t) (hp : P R.GLB_STATUS) : t.safe = s.safe := by
  rw [State.safe, is_eq, h.get hp, State.safe, is_eq]

/-- STOP and MARK are accepted on an enabled lane outside the safe state. -/
theorem xlCheck_none {s : State} {n : Nat} {o : XlOp} (he : s.get (F.XL_n_CTRL_ENABLE n) = 1) (hs : s.safe = false)
    (ho : o = .stop ∨ o = .mark) : s.xlCheck n o = none := by
  have h : s.is (F.XL_n_CTRL_ENABLE n) = true := by simp [is_eq, he]
  obtain rfl | rfl := ho <;> simp [State.xlCheck, h, hs]

theorem xlCheck_start {s : State} {n : Nat} (he : s.get (F.XL_n_CTRL_ENABLE n) = 1) (hs : s.safe = false) (hb : s.badLaneDrawer n = false) :
    s.xlCheck n .start = none := by
  have h : s.is (F.XL_n_CTRL_ENABLE n) = true := by simp [is_eq, he]
  simp [State.xlCheck, h, hs, hb]

theorem enabled_seen {s t : State} {n : Lane} (h : XlStep (· ∉ seenRegs n) n s t) :
    t.get (F.XL_n_CTRL_ENABLE n) = s.get (F.XL_n_CTRL_ENABLE n) ∧ t.safe = s.safe ∧ t.badLaneDrawer n = s.badLaneDrawer n :=
  ⟨h.regs.get (by apply all_fin n; decide +kernel), safe_of_regs h.regs (by apply all_fin n; decide +kernel),
    badLaneDrawer_congr h.1 (by apply all_fin n; decide +kernel) (by apply all_fin n; decide +kernel) fun w hw => by
      simp only [seenRegs, R.DRW_COMMIT_MAP_w, R.XL_n_STATUS, R.XL_n_EVENT, R.XL_n_BITS_LO, R.XL_n_BERR_LO, R.XL_n_RX_WORD_LO, List.mem_cons,
        List.not_mem_nil, or_false]
      omega⟩

section
variable {s : State} {n : Lane} {g : XlSeen} {a : LaneAct} {l : List LaneAct}

theorem laneAct_eq (ha : (s.laneOf n).acts = a :: l) : xlmarkLaneAct n g s = (s.actTaken n g l).actRun n g a := by
  rw [xlmarkLaneAct, ha]
  rfl

theorem laneAct_stop (ha : (s.laneOf n).acts = a :: l) (h1 : a.act = 1) (hk : (s.actTaken n g l).xlCheck n .stop = none) :
    xlmarkLaneAct n g s = if a.arg.testBit 0 && (s.actTaken n g l).xlState n == xlRunning then (s.actTaken n g l).xlQuiet n
      else (s.actTaken n g l).xlEnter n xlIdle := by
  rw [laneAct_eq ha]
  generalize s.actTaken n g l = u at *
  simp [State.actRun, h1, hk]

theorem laneAct_mark (ha : (s.laneOf n).acts = a :: l) (h1 : a.act = 2) (hk : (s.actTaken n g l).xlCheck n .mark = none) :
    xlmarkLaneAct n g s = ((s.actTaken n g l).put (F.XL_n_MARK_TAG_TAG n) a.arg).xlMarked n g.sent a.tb := by
  rw [laneAct_eq ha]
  generalize s.actTaken n g l = u at *
  simp [State.actRun, h1, hk]

theorem laneAct_start (ha : (s.laneOf n).acts = a :: l) (h1 : a.act = 0) (hk : (s.actTaken n g l).xlCheck n .start = none) :
    xlmarkLaneAct n g s = (s.actTaken n g l).xlBegin n (a.arg.testBit 0) := by
  rw [laneAct_eq ha]
  generalize s.actTaken n g l = u at *
  simp [State.actRun, h1, hk]

end

theorem actStop_shows {s : State} {n : Lane} {g : XlSeen} {a : LaneAct} {l : List LaneAct} (he : s.get (F.XL_n_CTRL_ENABLE n) = 1)
    (hs : s.safe = false) (ha : (s.laneOf n).acts = a :: l) (h1 : a.act = 1) (hb : a.arg.testBit 0 = false) (t : State)
    (ht : t = xlmarkLaneAct n g s) : t.xlState n = 1 ∧ (t.laneOf n).acts = l ∧ (t.laneOf n).txOn = false ∧ XlCmd n s t := by
  obtain ⟨k1, k2, -⟩ := actTaken_shows s n g l _ rfl
  obtain ⟨e1, e2, -⟩ := enabled_seen k1
  rw [laneAct_stop ha h1 (xlCheck_none (e1.trans he) (e2.trans hs) (.inl rfl)), if_neg (by simp [hb])] at ht
  generalize s.actTaken n g l = u at *
  subst ht
  refine ⟨xlState_xlEnter _ _ (by decide), ?_, ?_, (k1.weaken fun o => notSeen_of_notXl).trans ((xlStep_xlEnter u n 1).weaken fun o => notStatus_of_notXl)⟩
  · rw [laneOf_xlEnter]
    exact k2
  · rw [laneOf_xlEnter]

theorem actQuiet_shows {s : State} {n : Lane} {g : XlSeen} {a : LaneAct} {l : List LaneAct} (he : s.get (F.XL_n_CTRL_ENABLE n) = 1)
    (hs : s.safe = false) (ha : (s.laneOf n).acts = a :: l) (h1 : a.act = 1) (hb : a.arg.testBit 0 = true) (h3 : s.xlState n = 3) (t : State)
    (ht : t = xlmarkLaneAct n g s) : t.xlState n = 3 ∧ (t.laneOf n).acts = l ∧ (t.laneOf n).checker = false ∧ XlCmd n s t := by
  obtain ⟨k1, k2, k3⟩ := actTaken_shows s n g l _ rfl
  obtain ⟨e1, e2, -⟩ := enabled_seen k1
  rw [laneAct_stop ha h1 (xlCheck_none (e1.trans he) (e2.trans hs) (.inl rfl)), if_pos (by rw [hb, k3, h3]; rfl)] at ht
  generalize s.actTaken n g l = u at *
  have hq := get_xlQuiet_apart u n (F.XL_n_STATUS_STATE n) (by apply all_fin n; decide +kernel)
  subst ht
  refine ⟨hq.trans (k3.trans h3), ?_, ?_, (k1.weaken fun o => notSeen_of_notXl).trans ((xlStep_xlQuiet u n).weaken fun o => notStatus_of_notXl)⟩
  · rw [laneOf_xlQuiet]
    exact k2
  · rw [laneOf_xlQuiet]

theorem actMark_shows {s : State} {n : Lane} {g : XlSeen} {a : LaneAct} {l : List LaneAct} (he : s.get (F.XL_n_CTRL_ENABLE n) = 1)
    (hs : s.safe = false) (ha : (s.laneOf n).acts = a :: l) (h1 : a.act = 2) (hb : a.arg < 2 ^ 8) (t : State) (ht : t = xlmarkLaneAct n g s) :
    (t.laneOf n).acts = l ∧ t.get (F.XL_n_MARK_TAG_TAG n) = a.arg ∧ t.pair (R.XL_n_MARK_TIME_LO n) = a.tb % 2 ^ 64 ∧
      t.pair (R.XL_n_MARK_TX_LO n) = g.sent % 2 ^ 48 ∧ t.bit (R.XL_n_EVENT n) 3 = true ∧ t.xlState n = s.xlState n ∧ XlCmd n s t := by
  obtain ⟨k1, k2, k3⟩ := actTaken_shows s n g l _ rfl
  obtain ⟨e1, e2, -⟩ := enabled_seen k1
  rw [laneAct_mark ha h1 (xlCheck_none (e1.trans he) (e2.trans hs) (.inr rfl))] at ht
  generalize s.actTaken n g l = u at *
  have hp : XlCmd n u (u.put (F.XL_n_MARK_TAG_TAG n) a.arg) := XlStep.refl.put (by simp [F.XL_n_MARK_TAG_TAG, xlRegs])
  have hg : (u.put (F.XL_n_MARK_TAG_TAG n) a.arg).get (F.XL_n_MARK_TAG_TAG n) = a.arg :=
    get_put_same _ _ _ (Fld.fits_of_lt (n := 256) (by simp [F.XL_n_MARK_TAG_TAG]) (by omega))
  have hl := laneOf_put u (F.XL_n_MARK_TAG_TAG n) a.arg n
  have hx : (u.put (F.XL_n_MARK_TAG_TAG n) a.arg).get (F.XL_n_STATUS_STATE n) = u.get (F.XL_n_STATUS_STATE n) :=
    get_put_apart _ _ _ _ (by apply all_fin n; decide +kernel)
  generalize u.put (F.XL_n_MARK_TAG_TAG n) a.arg = w at *
  obtain ⟨m1, m2, m3, m4, m5, q, m6⟩ := xlMarked_shows w n g.sent a.tb t ht
  refine ⟨by rw [m6, hl]; exact k2, m4.trans hg, m3, m2, m5, ?_,
    ((k1.weaken fun o => notSeen_of_notXl).trans hp).trans (m1.weaken fun o => notMark_of_notXl)⟩
  rw [State.xlState, m1.regs.get (by apply all_fin n; decide +kernel), hx]
  exact k3

theorem xlBegin_running {s : State} {n : Nat} (h : s.xlState n ≠ 2) (keep : Bool) : s.xlBegin n keep = s.xlRun n keep := by
  rw [State.xlBegin, if_neg (show s.xlState n ≠ xlTraining from h)]

theorem actStart_shows {s : State} {n : Lane} {g : XlSeen} {a : LaneAct} {l : List LaneAct} (he : s.get (F.XL_n_CTRL_ENABLE n) = 1)
    (hs : s.safe = false) (ha : (s.laneOf n).acts = a :: l) (h1 : a.act = 0) (hb : s.badLaneDrawer n = false) (h2 : s.xlState n ≠ 2) (t : State)
    (ht : t = xlmarkLaneAct n g s) : t.xlState n = 3 ∧ (t.laneOf n).acts = l ∧ (a.arg.testBit 0 = false → t.pair (R.XL_n_BITS_LO n) = 0) ∧
      XlCmd n s t := by
  obtain ⟨k1, k2, k3⟩ := actTaken_shows s n g l _ rfl
  obtain ⟨e1, e2, e3⟩ := enabled_seen k1
  rw [laneAct_start ha h1 (xlCheck_start (e1.trans he) (e2.trans hs) (e3.trans hb)), xlBegin_running (by rw [k3]; exact h2)] at ht
  generalize s.actTaken n g l = u at *
  obtain ⟨m1, m2, -, m4, -, -, -, -, -, -, m11⟩ := xlRun_shows u n _ t ht
  exact ⟨m2, m11.trans k2, fun e => (m4 e).1, (k1.weaken fun o => notSeen_of_notXl).trans (m1.weaken fun o => notRun_of_notXl)⟩

theorem haltStop_shows {s : State} {n : Lane} {g : XlSeen} (h : (s.laneOf n).haltStop = true) (hx : s.xlState n = 3 ∨ s.xlState n = 2) (t : State)
    (ht : t = xlHaltStop n g s) : t.xlState n = 1 ∧ (t.laneOf n).haltStop = false ∧ XlCmd n s t := by
  rw [xlHaltStop, if_pos h] at ht
  dsimp only at ht
  obtain ⟨h1, -, -, h4⟩ := xlSee_shows s n g _ rfl
  generalize s.xlSee n g = u at *
  have hk : XlStep (· ∉ seenRegs n) n s (u.updLane n fun x => { x with haltStop := false }) := h1.updLane
  have hs : (u.updLane n fun x => { x with haltStop := false }).xlState n = s.xlState n := h4 _ rfl (by apply all_fin n; decide +kernel)
  have hl : ((u.updLane n fun x => { x with haltStop := false }).laneOf n).haltStop = false := by rw [laneOf_updLane]
  generalize (u.updLane n fun x => { x with haltStop := false }) = w at *
  rw [if_pos (by rw [hs]; exact hx)] at ht
  subst ht
  refine ⟨xlState_xlEnter _ _ (by decide), ?_, (hk.weaken fun o => notSeen_of_notXl).trans ((xlStep_xlEnter w n 1).weaken fun o => notStatus_of_notXl)⟩
  rw [laneOf_xlEnter]
  exact hl

/-- The flag of a site for events of its lanes. -/
def State.xlFlagged (s : State) (m : Nat) : State :=
  (s.putFlag m 8 true).when (!s.flag m 8 && s.playing m) (fun t => t.updCapt m (fun x => { x with xlRises := x.xlRises ++ [s.vecNow m] }))

theorem eventFlag_run {s : State} {n : Nat} {m : Nat} (h1 : Nat.land (s.laneOf n).flagged (s.get (F.XL_n_FLAG_EN_EN n)) ≠ 0)
    (h2 : s.get (F.XL_n_BIND_OWNED n) = 1) (h3 : s.get (F.XL_n_BIND_SITE n) = m) :
    xlEventFlagSet n s = (s.updLane n (fun x => { x with flagged := 0 })).xlFlagged m := by
  subst h3
  rw [xlEventFlagSet, if_pos ⟨h1, by rw [is_eq, get_updLane, h2]; rfl⟩] <;> rfl

theorem eventFlag_off {s : State} {n : Nat} (h : s.get (F.XL_n_BIND_OWNED n) = 0) :
    xlEventFlagSet n s = s.updLane n (fun x => { x with flagged := 0 }) := by
  rw [xlEventFlagSet, if_neg (by rw [is_eq, get_updLane, h]; simp)]

theorem xlFlagged_shows (s : State) (m : Nat) (t : State) (ht : t = s.xlFlagged m) :
    t.flag m 8 = true ∧ t.xl = s.xl ∧ RegsBut [R.SEQ_CTX_n_FLAGS m] s t ∧ t = { s with regs := t.regs, capt := t.capt } := by
  have hk : RegStep (· ∉ [R.SEQ_CTX_n_FLAGS m]) s (s.putFlag m 8 true) := RegStep.refl.putBit (by simp)
  have hf : (s.putFlag m 8 true).flag m 8 = true := (bit_putBit_same s _ 8 8 true (by decide)).trans (if_pos rfl)
  rw [State.xlFlagged] at ht
  generalize s.putFlag m 8 true = u at *
  generalize s.vecNow m = v at ht
  generalize (!s.flag m 8 && s.playing m) = c at ht
  obtain ⟨⟨a, rfl⟩, hr⟩ := hk
  have hc : ∃ c, t = { s with regs := a, capt := c } := by
    subst ht
    cases c
    · exact ⟨s.capt, rfl⟩
    · exact ⟨_, rfl⟩
  obtain ⟨c, rfl⟩ := hc
  exact ⟨hf, rfl, hr, rfl⟩

theorem eventFlag_shows {s : State} {n : Lane} {m : Nat} (h1 : Nat.land (s.laneOf n).flagged (s.get (F.XL_n_FLAG_EN_EN n)) ≠ 0)
    (h2 : s.get (F.XL_n_BIND_OWNED n) = 1) (h3 : s.get (F.XL_n_BIND_SITE n) = m) (t : State) (ht : t = xlEventFlagSet n s) :
    t.flag m 8 = true ∧ (t.laneOf n).flagged = 0 ∧ RegsBut [R.SEQ_CTX_n_FLAGS m] s t ∧
      t = { s with regs := t.regs, xl := t.xl, capt := t.capt } := by
  rw [eventFlag_run h1 h2 h3] at ht
  have hl := laneOf_updLane s n fun x => { x with flagged := 0 }
  have hk : LaneStep (fun _ => True) s (s.updLane n fun x => { x with flagged := 0 }) := LaneStep.refl.updLane
  generalize (s.updLane n fun x => { x with flagged := 0 }) = u at *
  obtain ⟨k1, k2, k3, k4⟩ := xlFlagged_shows u m t ht
  have hx : t.laneOf n = u.laneOf n := by rw [State.laneOf, k2, State.laneOf]
  refine ⟨k1, by rw [hx, hl], RegsIf.trans (fun o _ => hk.2 o trivial) k3, ?_⟩
  obtain ⟨⟨b, y, rfl⟩, -⟩ := hk
  rw [k4]

/-- Settles O35: one lemma per event of a lane. -/
theorem expressLaneEvents : Obligations.ExpressLaneEvents := by
  unfold Obligations.ExpressLaneEvents
  refine ⟨?_, ?_, ?_, ?_, ?_, ?_, ?_, ?_, ?_, ?_, ?_, ?_, ?_, ?_, ?_, ?_, ?_, ?_, ?_⟩
  · intro s n h
    refine completes_intro rfl fun t ht => ?_
    obtain ⟨h1, h2, hk⟩ := xlPllLock_shows h t ht
    exact ⟨h1, h2, hk.regs, hk.lanes, hk.others⟩
  · intro s n a b h2 hp ha hb hab
    exact completes_intro rfl fun t ht => trainDone_idle h2 hp ha hb hab t ht
  · intro s n a b h2 hp hd ha hb hab
    exact completes_intro rfl fun t ht => trainDone_start h2 hp hd ha hb hab t ht
  · intro s n h2 hp
    exact completes_intro rfl fun t ht => trainTimeout_idle h2 hp t ht
  · intro s n g h
    refine completes_intro rfl fun t ht => ?_
    obtain ⟨h1, h2, hk⟩ := prbsLock_shows h t ht
    exact ⟨h1, h2, hk.regs, hk.lanes, hk.others⟩
  · intro s n g h hl
    exact completes_intro rfl fun t ht => lockLoss_shows h hl t ht
  · intro s n g h hc
    refine completes_intro rfl fun t ht => ?_
    obtain ⟨h1, h2, h3, hk⟩ := sigLoss_shows h hc t ht
    exact ⟨h1, h2, h3, hk.regs, hk.lanes, hk.others⟩
  · intro s n g old h hc hl ho hz hlt hle he hm hb
    refine completes_intro rfl fun t ht => ?_
    obtain ⟨h1, h2, h3, h4⟩ := errThresh_shows h hc hl ho hz hlt hle he hm hb t ht
    obtain ⟨hk, -⟩ := xlSee_cmd s n g t ht
    exact ⟨h1, h2, h3, h4, hk.regs, hk.lanes, hk.others⟩
  · intro s n g h hx hl hp hr
    refine completes_intro rfl fun t ht => ?_
    obtain ⟨h1, h2, h3, hk⟩ := payloadEnd_shows h hx hl hp hr t ht
    exact ⟨h1, h2, h3, hk.regs, hk.lanes, hk.others⟩
  · intro s n g h hr
    refine completes_intro rfl fun t ht => ?_
    obtain ⟨h1, h2, h3, hk⟩ := payloadEnd_repeats h hr t ht
    exact ⟨h1, h2, h3, hk.regs, hk.lanes, hk.others⟩
  · intro s n cnt p h hp hlt hd
    exact completes_intro rfl fun t ht => eyePoint_shows h hp hlt hd t ht
  · intro s n cnt h hp
    exact completes_intro rfl fun t ht => eyeEnd_shows h hp t ht
  · intro s n g a l he hs ha h1 hb
    refine completes_intro rfl fun t ht => ?_
    obtain ⟨h1, h2, h3, hk⟩ := actStop_shows he hs ha h1 hb t ht
    exact ⟨h1, h2, h3, hk.regs, hk.lanes, hk.others⟩
  · intro s n g a l he hs ha h1 hb h3
    refine completes_intro rfl fun t ht => ?_
    obtain ⟨h1, h2, h3, hk⟩ := actQuiet_shows he hs ha h1 hb h3 t ht
    exact ⟨h1, h2, h3, hk.regs, hk.lanes, hk.others⟩
  · intro s n g a l he hs ha h1 hb
    refine completes_intro rfl fun t ht => ?_
    obtain ⟨h1, h2, h3, h4, h5, h6, hk⟩ := actMark_shows he hs ha h1 hb t ht
    exact ⟨h1, h2, h3, h4, h5, h6, hk.regs, hk.lanes, hk.others⟩
  · intro s n g a l he hs ha h1 hb h2
    refine completes_intro rfl fun t ht => ?_
    obtain ⟨h1, h2, h3, hk⟩ := actStart_shows he hs ha h1 hb h2 t ht
    exact ⟨h1, h2, h3, hk.regs, hk.lanes, hk.others⟩
  · intro s n g h hx
    refine completes_intro rfl fun t ht => ?_
    obtain ⟨h1, h2, hk⟩ := haltStop_shows h hx t ht
    exact ⟨h1, h2, hk.regs, hk.lanes, hk.others⟩
  · intro s n m h1 h2 h3
    exact completes_intro rfl fun t ht => eventFlag_shows h1 h2 h3 t ht
  · intro s n h
    exact congrArg Host.Outcome.next (eventFlag_off h)

end Sys2Proof.Machine
end

section
-- One proof at a time: the whole text then stays within the memory the check allows.
set_option Elab.async false
/-!
PROOFS. O34: the commands of an express lane and their refusals.
-/

namespace Sys2Proof.Machine
open State

/-! ### Acceptance -/

theorem eyeRangeOk_congr {s t : State} (h : t.drw = s.drw) (a : Nat) : t.eyeRangeOk a = s.eyeRangeOk a := by
  have hr : ∀ r, t.allocated r = s.allocated r := fun r => by rw [State.allocated, h, State.allocated]
  rw [State.eyeRangeOk, hr, State.eyeRangeOk]

/-- What a lane has seen does not change how a command is checked. -/
theorem xlCheck_seen (s : State) (n : Lane) (g : XlSeen) (o : XlOp) : (s.xlSee n g).xlCheck n o = s.xlCheck n o := by
  obtain ⟨h1, -, -, h4⟩ := xlSee_shows s n g _ rfl
  generalize s.xlSee n g = u at *
  obtain ⟨e1, e2, e3⟩ := enabled_seen h1
  have e4 : u.get (F.XL_n_CTRL_TRAIN n) = s.get (F.XL_n_CTRL_TRAIN n) := h1.regs.get (by apply all_fin n; decide +kernel)
  have e5 : u.xlState n = s.xlState n := h4 _ rfl (by apply all_fin n; decide +kernel)
  have e6 := h4 (F.XL_n_STATUS_LOCK n) rfl (by apply all_fin n; decide +kernel)
  have e7 := h4 (F.XL_n_STATUS_EYE_BUSY n) rfl (by apply all_fin n; decide +kernel)
  have e8 : u.pair (R.XL_n_EYE_BASE_LO n) = s.pair (R.XL_n_EYE_BASE_LO n) :=
    pair_of_regs h1.regs (by apply all_fin n; decide +kernel) (by apply all_fin n; decide +kernel)
  have e9 : ∀ a, u.eyeRangeOk a = s.eyeRangeOk a := eyeRangeOk_congr (by rw [h1.others])
  have hi : ∀ {f : Fld}, u.get f = s.get f → u.is f = s.is f := fun h => by rw [is_eq, h, is_eq]
  cases o <;> simp only [State.xlCheck, hi e1, e2, e3, hi e4, e5, hi e6, hi e7, e8, e9]

/-- The result of a command is shown. -/
theorem cmdResult_shows (s : State) (n : Lane) {r : Nat} (hr : r < 256) (t : State) (ht : t = s.put (F.XL_n_STATUS_CMD_RESULT n) r) :
    t.get (F.XL_n_STATUS_CMD_RESULT n) = r ∧ XlStep (· ∉ [R.XL_n_STATUS n]) n s t ∧ t.laneOf n = s.laneOf n ∧
      ∀ f : Fld, (F.XL_n_STATUS_CMD_RESULT n).apart f = true → t.get f = s.get f := by
  subst ht
  exact ⟨get_put_same _ _ _ (Fld.fits_of_lt (n := 256) (by simp [F.XL_n_STATUS_CMD_RESULT]) hr), XlStep.refl.put (by simp [F.XL_n_STATUS_CMD_RESULT]),
    laneOf_put _ _ _ _, fun f hf => get_put_apart _ _ _ _ hf⟩

theorem xlCmd_refused {s : State} {n : Lane} {g : XlSeen} {o : XlOp} {e : Nat} (hk : s.xlCheck n o = some e) :
    xlCmd n [o] g s = ((s.xlSee n g).xlRefuse n).put (F.XL_n_STATUS_CMD_RESULT n) e := by
  rw [← xlCheck_seen s n g] at hk
  rw [xlCmd]
  generalize s.xlSee n g = u at *
  simp only [State.xlOps, hk, if_true]

theorem xlCmd_done {s : State} {n : Lane} {g : XlSeen} {o : XlOp} (hk : s.xlCheck n o = none) :
    xlCmd n [o] g s = ((s.xlSee n g).xlEffect n g.sent o).put (F.XL_n_STATUS_CMD_RESULT n) 0 := by
  rw [← xlCheck_seen s n g] at hk
  rw [xlCmd]
  generalize s.xlSee n g = u at *
  simp only [State.xlOps, hk]

/-- A refused command: its code, the event and the count, and nothing else of the lane. -/
theorem refused_shows {s : State} {n : Lane} {g : XlSeen} {o : XlOp} {e : Nat} (hk : s.xlCheck n o = some e) (he : e < 256) (t : State)
    (ht : t = xlCmd n [o] g s) : t.get (F.XL_n_STATUS_CMD_RESULT n) = e ∧ t.bit (R.XL_n_EVENT n) 7 = true ∧
      t.num (R.XL_n_CMD_REFUSED n) = min satMax (s.num (R.XL_n_CMD_REFUSED n) + 1) ∧ t.xlState n = s.xlState n ∧
      t.get (F.XL_n_STATUS_EYE_BUSY n) = s.get (F.XL_n_STATUS_EYE_BUSY n) ∧ XlCmd n s t := by
  rw [xlCmd_refused hk] at ht
  obtain ⟨k1, -, -, k4⟩ := xlSee_shows s n g _ rfl
  generalize s.xlSee n g = u at *
  obtain ⟨l1, l2, l3⟩ := xlRefuse_shows u n _ rfl
  generalize u.xlRefuse n = w at *
  obtain ⟨m1, m2, -, m4⟩ := cmdResult_shows w n he t ht
  refine ⟨m1, (m2.regs.bit (by apply all_fin n; decide +kernel)).trans l3, ?_, ?_, ?_,
    ((k1.weaken fun o => notSeen_of_notXl).trans (l1.weaken fun o => notRefused_of_notXl)).trans (m2.weaken fun o h => ?_)⟩
  · rw [m2.regs.num (by apply all_fin n; decide +kernel), l2, k1.regs.num (by apply all_fin n; decide +kernel)]
  · rw [State.xlState, m4 _ (by apply all_fin n; decide +kernel), l1.regs.get (by apply all_fin n; decide +kernel)]
    exact k4 _ rfl (by apply all_fin n; decide +kernel)
  · rw [m4 _ (by apply all_fin n; decide +kernel), l1.regs.get (by apply all_fin n; decide +kernel)]
    exact k4 _ rfl (by apply all_fin n; decide +kernel)
  · exact fun hm => h (by rw [List.mem_singleton.1 hm]; exact status_mem_xlRegs)

/-! ### Why a command is refused -/

section
variable {s : State} {n : Nat} {o : XlOp}

theorem xlCheck_off (h : s.get (F.XL_n_CTRL_ENABLE n) = 0) (ho : o ≠ .errClr) : s.xlCheck n o = some 1 := by
  cases o <;> simp_all [State.xlCheck, is_eq, xrDisabled]

theorem xlCheck_safe (h : s.get (F.XL_n_CTRL_ENABLE n) = 1) (hs : s.safe = true) (ho : o ≠ .errClr) : s.xlCheck n o = some 3 := by
  cases o <;> simp_all [State.xlCheck, is_eq, xrSafe]

theorem xlCheck_on (h : s.get (F.XL_n_CTRL_ENABLE n) = 1) (hs : s.safe = false) (ho : o ≠ .errClr) : s.xlCheck n o =
    match o with
    | .start => if s.badLaneDrawer n then some xrBadDrawer else none
    | .retrain => if s.is (F.XL_n_CTRL_TRAIN n) then none else some xrNoTrain
    | .eyeStart =>
      if s.xlState n ≠ xlRunning ∨ !s.is (F.XL_n_STATUS_LOCK n) then some xrEyeNoLock
      else if !s.eyeRangeOk (s.pair (R.XL_n_EYE_BASE_LO n)) then some xrEyeRange
      else if s.is (F.XL_n_STATUS_EYE_BUSY n) then some xrBusy
      else none
    | _ => none := by
  cases o <;> simp_all [State.xlCheck, is_eq]

end

/-! ### Accepted commands -/

/-- The state on which an accepted command acts, and what its result adds. -/
theorem accepted_shows {s : State} {n : Lane} {g : XlSeen} {o : XlOp} (hk : s.xlCheck n o = none) (t : State) (ht : t = xlCmd n [o] g s) :
    ∃ u v, u = s.xlSee n g ∧ v = u.xlEffect n g.sent o ∧ XlStep (· ∉ seenRegs n) n s u ∧
      (∀ f : Fld, f.off = R.XL_n_STATUS n → (F.XL_n_STATUS_SIG_DET n).apart f = true → u.get f = s.get f) ∧
      t.get (F.XL_n_STATUS_CMD_RESULT n) = 0 ∧ XlStep (· ∉ [R.XL_n_STATUS n]) n v t ∧ t.laneOf n = v.laneOf n ∧
      (∀ f : Fld, (F.XL_n_STATUS_CMD_RESULT n).apart f = true → t.get f = v.get f) ∧ (XlCmd n u v → XlCmd n s t) := by
  rw [xlCmd_done hk] at ht
  obtain ⟨k1, -, -, k4⟩ := xlSee_shows s n g _ rfl
  obtain ⟨m1, m2, m3, m4⟩ := cmdResult_shows _ n (by decide) t ht
  exact ⟨_, _, rfl, rfl, k1, k4, m1, m2, m3, m4, fun h => ((k1.weaken fun o => notSeen_of_notXl).trans h).trans
    (m2.weaken fun o h hm => h (by rw [List.mem_singleton.1 hm]; exact status_mem_xlRegs))⟩

section
variable {s : State} {n : Lane} {g : XlSeen} {t : State}

theorem start_runs (he : s.get (F.XL_n_CTRL_ENABLE n) = 1) (hs : s.safe = false) (hb : s.badLaneDrawer n = false) (h2 : s.xlState n ≠ 2)
    (ht : t = xlCmd n [.start] g s) : t.xlState n = 3 ∧ t.get (F.XL_n_STATUS_CMD_RESULT n) = 0 ∧ t.pair (R.XL_n_BITS_LO n) = 0 ∧
      t.pair (R.XL_n_BERR_LO n) = 0 ∧ t.get (F.XL_n_MARK_TAG_COUNT n) = 0 ∧ (t.laneOf n).rate = s.get (F.XL_n_CTRL_RATE n) ∧
      (t.laneOf n).txSrc = s.get (F.XL_n_SRC_TX_SRC n) ∧ (t.laneOf n).rxSrc = s.get (F.XL_n_SRC_RX_SRC n) ∧
      (t.laneOf n).checker = (s.get (F.XL_n_SRC_RX_SRC n) != 0) ∧ XlCmd n s t := by
  obtain ⟨u, v, -, hv, k1, k2, m1, m2, m3, m4, m5⟩ := accepted_shows (xlCheck_start he hs hb) t ht
  have hx : u.xlState n = s.xlState n := k2 _ rfl (by apply all_fin n; decide +kernel)
  have hv' : v = u.xlRun n false := hv.trans (xlBegin_running (by rw [hx]; exact h2) false)
  obtain ⟨r1, r2, r3, r4, -, r6, r7, r8, r9, -, -⟩ := xlRun_shows u n false v hv'
  obtain ⟨r4, r5⟩ := r4 rfl
  refine ⟨(m4 _ (by apply all_fin n; decide +kernel)).trans r2, m1, (pair_of_regs m2.regs (by apply all_fin n; decide +kernel)
    (by apply all_fin n; decide +kernel)).trans r4, (pair_of_regs m2.regs (by apply all_fin n; decide +kernel)
    (by apply all_fin n; decide +kernel)).trans r5, (m4 _ (by apply all_fin n; decide +kernel)).trans r3, ?_, ?_, ?_, ?_,
    m5 (r1.weaken fun o => notRun_of_notXl)⟩
  · rw [m3, r6, k1.regs.get (by apply all_fin n; decide +kernel)]
  · rw [m3, r7, k1.regs.get (by apply all_fin n; decide +kernel)]
  · rw [m3, r8, k1.regs.get (by apply all_fin n; decide +kernel)]
  · rw [m3, r9, k1.regs.get (by apply all_fin n; decide +kernel)]

theorem start_waits (he : s.get (F.XL_n_CTRL_ENABLE n) = 1) (hs : s.safe = false) (hb : s.badLaneDrawer n = false) (h2 : s.xlState n = 2)
    (ht : t = xlCmd n [.start] g s) : t.xlState n = 2 ∧ t.get (F.XL_n_STATUS_CMD_RESULT n) = 0 ∧ (t.laneOf n).pendStart = true ∧
      (t.laneOf n).pendKeep = false ∧ XlCmd n s t := by
  obtain ⟨u, v, -, hv, k1, k2, m1, m2, m3, m4, m5⟩ := accepted_shows (xlCheck_start he hs hb) t ht
  have hx : u.xlState n = 2 := (k2 _ rfl (by apply all_fin n; decide +kernel)).trans h2
  have hv' : v = u.updLane n (fun x => { x with pendStart := true, pendKeep := false }) := by
    rw [hv, State.xlEffect, State.xlBegin, if_pos (show u.xlState n = xlTraining from hx)]
  have hg : v.get (F.XL_n_STATUS_STATE n) = 2 := by
    rw [hv', get_updLane]
    exact hx
  refine ⟨(m4 _ (by apply all_fin n; decide +kernel)).trans hg, m1, ?_, ?_, m5 (hv' ▸ XlStep.refl.updLane)⟩
  · rw [m3, hv', laneOf_updLane]
  · rw [m3, hv', laneOf_updLane]

theorem stop_shows (he : s.get (F.XL_n_CTRL_ENABLE n) = 1) (hs : s.safe = false) (ht : t = xlCmd n [.stop] g s) :
    t.xlState n = 1 ∧ t.get (F.XL_n_STATUS_CMD_RESULT n) = 0 ∧ (t.laneOf n).txOn = false ∧ (t.laneOf n).checker = false ∧
      t.get (F.XL_n_STATUS_LOCK n) = 0 ∧ XlCmd n s t := by
  obtain ⟨u, v, -, hv, -, -, m1, m2, m3, m4, m5⟩ := accepted_shows (xlCheck_none he hs (.inl rfl)) t ht
  replace hv : v = u.xlEnter n xlIdle := hv
  have hl := laneOf_xlEnter u n xlIdle
  have hx := xlState_xlEnter u n (st := xlIdle) (by decide)
  have hk := lock_xlEnter u n xlIdle
  have hs := xlStep_xlEnter u n xlIdle
  rw [← hv] at hl hx hk hs
  exact ⟨(m4 _ (by apply all_fin n; decide +kernel)).trans hx, m1, by rw [m3, hl], by rw [m3, hl],
    (m4 _ (by apply all_fin n; decide +kernel)).trans hk, m5 (hs.weaken fun o => notStatus_of_notXl)⟩

theorem errClr_shows (ht : t = xlCmd n [.errClr] g s) : t.pair (R.XL_n_BITS_LO n) = 0 ∧ t.pair (R.XL_n_BERR_LO n) = 0 ∧
    t.get (F.XL_n_STATUS_CMD_RESULT n) = 0 ∧ t.xlState n = s.xlState n ∧ XlCmd n s t := by
  obtain ⟨u, v, -, hv, k1, k2, m1, m2, m3, m4, m5⟩ := accepted_shows (if_pos rfl) t ht
  obtain ⟨c1, c2⟩ := pair_xlClear u n
  have hc := regStep_xlClear u n
  replace hv : v = u.xlClear n := hv
  rw [← hv] at c1 c2 hc
  refine ⟨(pair_of_regs m2.regs (by apply all_fin n; decide +kernel) (by apply all_fin n; decide +kernel)).trans c1,
    (pair_of_regs m2.regs (by apply all_fin n; decide +kernel) (by apply all_fin n; decide +kernel)).trans c2, m1, ?_,
    m5 (XlStep.of_regStep (hc.weaken fun o h => by simp [xlRegs] at h ⊢; tauto))⟩
  rw [State.xlState, m4 _ (by apply all_fin n; decide +kernel), hc.2.get (by apply all_fin n; decide +kernel)]
  exact k2 _ rfl (by apply all_fin n; decide +kernel)

theorem bitslip_shows (he : s.get (F.XL_n_CTRL_ENABLE n) = 1) (hs : s.safe = false) (ht : t = xlCmd n [.bitslip] g s) :
    t.get (F.XL_n_STATUS_SLIP n) = (s.get (F.XL_n_STATUS_SLIP n) + 1) % 64 ∧ t.get (F.XL_n_STATUS_CMD_RESULT n) = 0 ∧
      t.xlState n = s.xlState n ∧ XlCmd n s t := by
  obtain ⟨u, v, -, hv, k1, k2, m1, m2, m3, m4, m5⟩ := accepted_shows (xlCheck_on he hs (by decide)) t ht
  have hv' : v = u.put (F.XL_n_STATUS_SLIP n) (u.get (F.XL_n_STATUS_SLIP n) + 1) := hv
  have hg : v.get (F.XL_n_STATUS_SLIP n) = (u.get (F.XL_n_STATUS_SLIP n) + 1) % 64 := by
    rw [hv', get_put _ _ _ (by simp [F.XL_n_STATUS_SLIP]) (by simp [F.XL_n_STATUS_SLIP])] <;> rfl
  refine ⟨?_, m1, ?_, m5 (hv' ▸ XlStep.refl.put fun h => h status_mem_xlRegs)⟩
  · rw [m4 _ (by apply all_fin n; decide +kernel), hg, k2 _ rfl (by apply all_fin n; decide +kernel)]
  · rw [State.xlState, m4 _ (by apply all_fin n; decide +kernel), hv', get_put_apart _ _ _ _ (by apply all_fin n; decide +kernel)]
    exact k2 _ rfl (by apply all_fin n; decide +kernel)

theorem mark_shows (he : s.get (F.XL_n_CTRL_ENABLE n) = 1) (hs : s.safe = false) (ht : t = xlCmd n [.mark] g s) :
    t.pair (R.XL_n_MARK_TX_LO n) = g.sent % 2 ^ 48 ∧ t.pair (R.XL_n_MARK_TIME_LO n) = s.now % 2 ^ 64 ∧
      t.get (F.XL_n_MARK_TAG_TAG n) = s.get (F.XL_n_MARK_TAG_TAG n) ∧ t.bit (R.XL_n_EVENT n) 3 = true ∧
      t.get (F.XL_n_STATUS_CMD_RESULT n) = 0 ∧ t.xlState n = s.xlState n ∧ XlCmd n s t := by
  obtain ⟨u, v, -, hv, k1, k2, m1, m2, m3, m4, m5⟩ := accepted_shows (xlCheck_none he hs (.inr rfl)) t ht
  obtain ⟨l1, l2, l3, l4, l5, -⟩ := xlMarked_shows u n g.sent u.now v hv
  have hn : u.now = s.now := by rw [k1.others]
  refine ⟨(pair_of_regs m2.regs (by apply all_fin n; decide +kernel) (by apply all_fin n; decide +kernel)).trans l2, ?_, ?_,
    (m2.regs.bit (by apply all_fin n; decide +kernel)).trans l5, m1, ?_, m5 (l1.weaken fun o => notMark_of_notXl)⟩
  · rw [pair_of_regs m2.regs (by apply all_fin n; decide +kernel) (by apply all_fin n; decide +kernel), l3, hn]
  · rw [m4 _ (by apply all_fin n; decide +kernel), l4, k1.regs.get (by apply all_fin n; decide +kernel)]
  · rw [State.xlState, m4 _ (by apply all_fin n; decide +kernel), l1.regs.get (by apply all_fin n; decide +kernel)]
    exact k2 _ rfl (by apply all_fin n; decide +kernel)

theorem retrain_shows (he : s.get (F.XL_n_CTRL_ENABLE n) = 1) (hs : s.safe = false) (h1 : s.get (F.XL_n_CTRL_TRAIN n) = 1)
    (ht : t = xlCmd n [.retrain] g s) : t.xlState n = 2 ∧ t.get (F.XL_n_STATUS_TRAIN_DONE n) = 0 ∧ t.get (F.XL_n_STATUS_CMD_RESULT n) = 0 ∧
      XlCmd n s t := by
  have hk : s.xlCheck n .retrain = none := by
    rw [xlCheck_on he hs (by decide)]
    simp [is_eq, h1]
  obtain ⟨u, v, -, hv, k1, k2, m1, m2, m3, m4, m5⟩ := accepted_shows hk t ht
  have hv' : v = (u.xlEnter n xlTraining).put (F.XL_n_STATUS_TRAIN_DONE n) 0 := hv
  have he := xlStep_xlEnter u n xlTraining
  have hx := xlState_xlEnter u n (st := xlTraining) (by decide)
  generalize u.xlEnter n xlTraining = w at *
  subst hv'
  refine ⟨?_, ?_, m1, m5 ((he.weaken fun o => notStatus_of_notXl).put fun h => h status_mem_xlRegs)⟩
  · rw [State.xlState, m4 _ (by apply all_fin n; decide +kernel), get_put_apart _ _ _ _ (by apply all_fin n; decide +kernel)]
    exact hx
  · rw [m4 _ (by apply all_fin n; decide +kernel), get_put_same _ _ _ (by apply all_fin n; decide +kernel)]

theorem eyeStart_shows (he : s.get (F.XL_n_CTRL_ENABLE n) = 1) (hs : s.safe = false) (h3 : s.xlState n = 3) (hl : s.get (F.XL_n_STATUS_LOCK n) = 1)
    (hr : s.eyeRangeOk (s.pair (R.XL_n_EYE_BASE_LO n)) = true) (hb : s.get (F.XL_n_STATUS_EYE_BUSY n) = 0) (ht : t = xlCmd n [.eyeStart] g s) :
    t.get (F.XL_n_STATUS_EYE_BUSY n) = 1 ∧ t.num (R.XL_n_EYE_STATUS n) = 0 ∧ (t.laneOf n).eyeBase = s.pair (R.XL_n_EYE_BASE_LO n) ∧
      (t.laneOf n).dwell = s.get (F.XL_n_EYE_CFG_DWELL n) ∧ t.get (F.XL_n_STATUS_CMD_RESULT n) = 0 ∧ XlCmd n s t := by
  have hk : s.xlCheck n .eyeStart = none := by
    rw [xlCheck_on he hs (by decide)]
    simp [is_eq, h3, hl, hr, hb, xlRunning]
  obtain ⟨u, v, -, hv, k1, k2, m1, m2, m3, m4, m5⟩ := accepted_shows hk t ht
  have hv' : v = ((u.updLane n (fun x => { x with eyeBase := u.pair (R.XL_n_EYE_BASE_LO n), dwell := u.get (F.XL_n_EYE_CFG_DWELL n) })).putN
      (R.XL_n_EYE_STATUS n) 0).put (F.XL_n_STATUS_EYE_BUSY n) 1 := hv
  have e1 : u.pair (R.XL_n_EYE_BASE_LO n) = s.pair (R.XL_n_EYE_BASE_LO n) :=
    pair_of_regs k1.regs (by apply all_fin n; decide +kernel) (by apply all_fin n; decide +kernel)
  have e2 : u.get (F.XL_n_EYE_CFG_DWELL n) = s.get (F.XL_n_EYE_CFG_DWELL n) := k1.regs.get (by apply all_fin n; decide +kernel)
  rw [e1, e2] at hv'
  have hlane := laneOf_updLane u n (fun x => { x with eyeBase := s.pair (R.XL_n_EYE_BASE_LO n), dwell := s.get (F.XL_n_EYE_CFG_DWELL n) })
  have hw : XlCmd n u (u.updLane n (fun x => { x with eyeBase := s.pair (R.XL_n_EYE_BASE_LO n), dwell := s.get (F.XL_n_EYE_CFG_DWELL n) })) :=
    XlStep.refl.updLane
  generalize (u.updLane n (fun x => { x with eyeBase := s.pair (R.XL_n_EYE_BASE_LO n), dwell := s.get (F.XL_n_EYE_CFG_DWELL n) })) = w at *
  have hlv : v.laneOf n = w.laneOf n := by rw [hv', laneOf_put] <;> rfl
  have hstep : XlCmd n w v := hv' ▸ (XlStep.refl.putN (by simp [xlRegs])).put fun h => h status_mem_xlRegs
  refine ⟨?_, ?_, ?_, ?_, m1, m5 (hw.trans hstep)⟩
  · rw [m4 _ (by apply all_fin n; decide +kernel), hv', get_put_same _ _ _ (by apply all_fin n; decide +kernel)]
  · rw [m2.regs.num (by apply all_fin n; decide +kernel), hv', num_put_apart _ _ _ _ (by apply all_fin n; decide +kernel), num_putN_same _ _ _ (by decide)]
  · rw [m3, hlv, hlane]
  · rw [m3, hlv, hlane]

theorem eyeAbort_shows (he : s.get (F.XL_n_CTRL_ENABLE n) = 1) (hs : s.safe = false) (hb : s.get (F.XL_n_STATUS_EYE_BUSY n) = 1)
    (ht : t = xlCmd n [.eyeAbort] g s) : t.get (F.XL_n_STATUS_EYE_BUSY n) = 0 ∧ t.get (F.XL_n_EYE_STATUS_ABORTED n) = 1 ∧
      t.get (F.XL_n_STATUS_CMD_RESULT n) = 0 ∧ t.xlState n = s.xlState n ∧ XlCmd n s t := by
  obtain ⟨u, v, -, hv, k1, k2, m1, m2, m3, m4, m5⟩ := accepted_shows (xlCheck_on he hs (by decide)) t ht
  have hu : u.get (F.XL_n_STATUS_EYE_BUSY n) = 1 := (k2 _ rfl (by apply all_fin n; decide +kernel)).trans hb
  have hv0 : v = u.eyeAbort n := hv
  have hv' : v = (u.put (F.XL_n_STATUS_EYE_BUSY n) 0).put (F.XL_n_EYE_STATUS_ABORTED n) 1 := by
    rw [hv0, State.eyeAbort, if_pos (by simp [is_eq, hu])]
  refine ⟨?_, ?_, m1, ?_, m5 (hv0 ▸ (xlStep_eyeAbort u n).weaken fun o => notStatus_of_notXl)⟩
  · rw [m4 _ (by apply all_fin n; decide +kernel), hv0, eyeBusy_eyeAbort]
  · rw [m4 _ (by apply all_fin n; decide +kernel), hv', get_put_same _ _ _ (by apply all_fin n; decide +kernel)]
  · rw [State.xlState, m4 _ (by apply all_fin n; decide +kernel), hv0, get_eyeAbort_apart _ _ _ (by apply all_fin n; decide +kernel)]
    exact k2 _ rfl (by apply all_fin n; decide +kernel)

end

/-! ### Writes of XL_n_CTRL -/

theorem word_put_congr {s t : State} (f : Fld) (y : Nat) (h : t.word f.off = s.word f.off) : (t.put f y).word f.off = (s.put f y).word f.off := by
  rw [State.put, State.put, word_setWord, word_setWord, h]

theorem word_writeField_congr {s t : State} {o : Nat} {ready : Bool} (f : RegField) (v : Word) (h : t.word o = s.word o) (ho : o ≠ R.GLB_ERR_ENUM) :
    (writeField ready o v t f).word o = (writeField ready o v s f).word o := by
  have hp : ∀ y, (t.put ⟨o, f.hi, f.lo⟩ y).word o = (s.put ⟨o, f.hi, f.lo⟩ y).word o := fun y => word_put_congr ⟨o, f.hi, f.lo⟩ y h
  have he : t.enumRefused.word o = s.enumRefused.word o := (word_bump_apart t _ o ho).trans (h.trans (word_bump_apart s _ o ho).symm)
  have hi : ∀ (c : Prop) [Decidable c] (a b a' b' : State), a.word o = a'.word o → b.word o = b'.word o →
      (if c then a else b).word o = (if c then a' else b').word o := fun c _ a b a' b' h1 h2 => by
    split
    · exact h1
    · exact h2
  rw [writeField, writeField, h]
  cases f.acc
  case rw => exact hi _ _ _ _ _ (hp _) he
  case rwl => exact hi _ _ _ _ _ h (hi _ _ _ _ _ (hp _) he)
  case w1c => exact hp _
  case w1s => exact hp _
  case wo => exact hi _ _ _ _ _ h he
  case ro => exact h
  case rc => exact h

/-- A plain write answers the same word from states in which the word stood the same. -/
theorem word_plainWrite_congr {s t : State} {o : Nat} (v : Word) (hr : t.ready = s.ready) (hw : t.word o = s.word o) (ho : o ≠ R.GLB_ERR_ENUM) :
    (t.plainWrite o v).word o = (s.plainWrite o v).word o := by
  rw [State.plainWrite, State.plainWrite]
  split
  · exact hw
  · next r hrow =>
    rw [writeFields, writeFields, hr]
    generalize s.ready = ready
    suffices ∀ (l : List RegField) (s t : State), t.word o = s.word o →
        (l.foldl (writeField ready o v) t).word o = (l.foldl (writeField ready o v) s).word o from this _ _ _ hw
    intro l
    induction l with
    | nil => exact fun s t h => h
    | cons f fs ih => exact fun s t h => ih _ _ (word_writeField_congr f v h ho)

/-- The words that a write of XL_n_CTRL changes. -/
def ctrlRegs (n : Nat) : List Nat := R.GLB_ERR_ENUM :: R.XL_n_CTRL n :: xlRegs n

/-- The register is written. -/
def State.ctrlWritten (s : State) (n : Nat) (v : Word) (g : XlSeen) : State := (s.xlSee n g).plainWrite (R.XL_n_CTRL n) v

theorem ctrlWritten_shows (s : State) (n : Lane) (v : Word) (g : XlSeen) (t : State) (ht : t = s.ctrlWritten n v g) :
    XlStep (· ∉ ctrlRegs n) n s t ∧ t.get (F.XL_n_CTRL_ENABLE n) = (s.plainWrite (R.XL_n_CTRL n) v).get (F.XL_n_CTRL_ENABLE n) ∧
      t.get (F.XL_n_CTRL_TRAIN n) = (s.plainWrite (R.XL_n_CTRL n) v).get (F.XL_n_CTRL_TRAIN n) ∧ t.safe = s.safe := by
  obtain ⟨h1, -, -, -⟩ := xlSee_shows s n g _ rfl
  rw [State.ctrlWritten] at ht
  generalize s.xlSee n g = u at *
  have hr : u.ready = s.ready := by
    rw [State.ready, is_eq, h1.regs.get (by apply all_fin n; decide +kernel), State.ready, is_eq]
  have hw : t.word (R.XL_n_CTRL n) = (s.plainWrite (R.XL_n_CTRL n) v).word (R.XL_n_CTRL n) :=
    ht ▸ word_plainWrite_congr v hr (h1.regs _ (by apply all_fin n; decide +kernel)) (by apply all_fin n; decide +kernel)
  have hk : RegStep (· ∉ [R.GLB_ERR_ENUM, R.XL_n_CTRL n]) u t := ht ▸ regStep_plainWrite u _ v (by simp) (.inr (by simp))
  refine ⟨(h1.weaken fun o ho => notSeen_of_notXl fun h => ho (by simp [ctrlRegs, h])).trans
    (XlStep.of_regStep (hk.weaken fun o ho => by simp [ctrlRegs] at ho ⊢; tauto)), ?_, ?_, ?_⟩
  · rw [State.get, State.get]
    exact congrArg (fun w : Word => bitsOf w 31 31) hw
  · rw [State.get, State.get]
    exact congrArg (fun w : Word => bitsOf w 30 30) hw
  · rw [safe_of_regs hk.2 (by apply all_fin n; decide +kernel), safe_of_regs h1.regs (by apply all_fin n; decide +kernel)]

theorem ctrl_off {s : State} {n : Nat} {v : Word} {g : XlSeen} (h1 : s.get (F.XL_n_CTRL_ENABLE n) = 1)
    (h0 : (s.ctrlWritten n v g).get (F.XL_n_CTRL_ENABLE n) = 0) : xlCtrlWrite n v g s =
      (((s.ctrlWritten n v g).xlEnter n xlDisabled).put (F.XL_n_STATUS_PLL_LOCK n) 0).updLane n (fun x => { x with rate := 0 }) := by
  have hw : (s.is (F.XL_n_CTRL_ENABLE n) && !(s.ctrlWritten n v g).is (F.XL_n_CTRL_ENABLE n)) = true := by simp [is_eq, h0, h1]
  rw [xlCtrlWrite]
  exact if_pos hw

theorem ctrl_on {s : State} {n : Nat} {v : Word} {g : XlSeen} (h0 : s.get (F.XL_n_CTRL_ENABLE n) = 0)
    (h1 : (s.ctrlWritten n v g).get (F.XL_n_CTRL_ENABLE n) = 1) : xlCtrlWrite n v g s =
      if (s.ctrlWritten n v g).safe then (s.ctrlWritten n v g).xlEnter n xlSafe
      else if (s.ctrlWritten n v g).is (F.XL_n_CTRL_TRAIN n) then ((s.ctrlWritten n v g).xlEnter n xlTraining).put (F.XL_n_STATUS_TRAIN_DONE n) 0
      else (s.ctrlWritten n v g).xlEnter n xlIdle := by
  have hw : ¬ (s.is (F.XL_n_CTRL_ENABLE n) && !(s.ctrlWritten n v g).is (F.XL_n_CTRL_ENABLE n)) = true := by simp [is_eq, h0]
  have hw' : ((s.ctrlWritten n v g).is (F.XL_n_CTRL_ENABLE n) && !s.is (F.XL_n_CTRL_ENABLE n)) = true := by simp [is_eq, h0, h1]
  rw [xlCtrlWrite]
  exact (if_neg hw).trans (if_pos hw')

theorem notXl_of_notCtrl {n o : Nat} (h : o ∉ ctrlRegs n) : o ∉ xlRegs n := fun hx => h (by simp [ctrlRegs, hx])

section
variable {s : State} {n : Lane} {v : Word} {g : XlSeen} {t : State}

/-- Entering a state after the write. -/
theorem ctrlEnter_shows {st : Nat} (hst : st < 8) (ht : t = (s.ctrlWritten n v g).xlEnter n st) :
    t.xlState n = st ∧ XlStep (· ∉ ctrlRegs n) n s t ∧ t.get (F.XL_n_STATUS_LOCK n) = 0 ∧ (t.laneOf n).checker = false ∧
      (t.laneOf n).txOn = false := by
  obtain ⟨k1, -, -, -⟩ := ctrlWritten_shows s n v g _ rfl
  generalize s.ctrlWritten n v g = u at *
  have hk := xlStep_xlEnter u n st
  have hl := laneOf_xlEnter u n st
  have hx := xlState_xlEnter u n hst
  have ho := lock_xlEnter u n st
  rw [← ht] at hk hl hx ho
  exact ⟨hx, k1.trans (hk.weaken fun o h => notStatus_of_notXl (notXl_of_notCtrl h)), ho, by rw [hl], by rw [hl]⟩

theorem ctrl_idles (h1 : (s.plainWrite (R.XL_n_CTRL n) v).get (F.XL_n_CTRL_ENABLE n) = 1) (h0 : s.get (F.XL_n_CTRL_ENABLE n) = 0)
    (hs : s.safe = false) (ht0 : (s.plainWrite (R.XL_n_CTRL n) v).get (F.XL_n_CTRL_TRAIN n) = 0) (ht : t = xlCtrlWrite n v g s) :
    t.xlState n = 1 ∧ XlStep (· ∉ ctrlRegs n) n s t := by
  obtain ⟨-, k2, k3, k4⟩ := ctrlWritten_shows s n v g _ rfl
  rw [ctrl_on h0 (k2.trans h1), if_neg (by simp [k4, hs]), if_neg (by simp [is_eq, k3, ht0])] at ht
  obtain ⟨e1, e2, -⟩ := ctrlEnter_shows (by decide) ht
  exact ⟨e1, e2⟩

theorem ctrl_trains (h1 : (s.plainWrite (R.XL_n_CTRL n) v).get (F.XL_n_CTRL_ENABLE n) = 1) (h0 : s.get (F.XL_n_CTRL_ENABLE n) = 0)
    (hs : s.safe = false) (ht1 : (s.plainWrite (R.XL_n_CTRL n) v).get (F.XL_n_CTRL_TRAIN n) = 1) (ht : t = xlCtrlWrite n v g s) :
    t.xlState n = 2 ∧ t.get (F.XL_n_STATUS_TRAIN_DONE n) = 0 ∧ XlStep (· ∉ ctrlRegs n) n s t := by
  obtain ⟨-, k2, k3, k4⟩ := ctrlWritten_shows s n v g _ rfl
  rw [ctrl_on h0 (k2.trans h1), if_neg (by simp [k4, hs]), if_pos (by simp [is_eq, k3, ht1])] at ht
  obtain ⟨e1, e2, -⟩ := ctrlEnter_shows (s := s) (n := n) (v := v) (g := g) (st := xlTraining) (by decide) rfl
  generalize (s.ctrlWritten n v g).xlEnter n xlTraining = u at *
  subst ht
  refine ⟨?_, get_put_same _ _ _ (by apply all_fin n; decide +kernel), e2.put fun h => notXl_of_notCtrl h status_mem_xlRegs⟩
  rw [State.xlState, get_put_apart _ _ _ _ (by apply all_fin n; decide +kernel)]
  exact e1

theorem ctrl_safes (h1 : (s.plainWrite (R.XL_n_CTRL n) v).get (F.XL_n_CTRL_ENABLE n) = 1) (h0 : s.get (F.XL_n_CTRL_ENABLE n) = 0)
    (hs : s.safe = true) (ht : t = xlCtrlWrite n v g s) : t.xlState n = 4 ∧ XlStep (· ∉ ctrlRegs n) n s t := by
  obtain ⟨-, k2, -, k4⟩ := ctrlWritten_shows s n v g _ rfl
  rw [ctrl_on h0 (k2.trans h1), if_pos (k4.trans hs)] at ht
  obtain ⟨e1, e2, -⟩ := ctrlEnter_shows (by decide) ht
  exact ⟨e1, e2⟩

theorem ctrl_disables (h0 : (s.plainWrite (R.XL_n_CTRL n) v).get (F.XL_n_CTRL_ENABLE n) = 0) (h1 : s.get (F.XL_n_CTRL_ENABLE n) = 1)
    (ht : t = xlCtrlWrite n v g s) : t.xlState n = 0 ∧ t.get (F.XL_n_STATUS_PLL_LOCK n) = 0 ∧ t.get (F.XL_n_STATUS_LOCK n) = 0 ∧
      (t.laneOf n).checker = false ∧ (t.laneOf n).txOn = false ∧ XlStep (· ∉ ctrlRegs n) n s t := by
  obtain ⟨-, k2, -, -⟩ := ctrlWritten_shows s n v g _ rfl
  rw [ctrl_off h1 (k2.trans h0)] at ht
  obtain ⟨e1, e2, e3, e4, e5⟩ := ctrlEnter_shows (s := s) (n := n) (v := v) (g := g) (st := xlDisabled) (by decide) rfl
  generalize (s.ctrlWritten n v g).xlEnter n xlDisabled = u at *
  subst ht
  refine ⟨?_, ?_, ?_, ?_, ?_, (e2.put fun h => notXl_of_notCtrl h status_mem_xlRegs).updLane⟩
  · rw [State.xlState, get_updLane, get_put_apart _ _ _ _ (by apply all_fin n; decide +kernel)]
    exact e1
  · rw [get_updLane, get_put_same _ _ _ (by apply all_fin n; decide +kernel)]
  · rw [get_updLane, get_put_apart _ _ _ _ (by apply all_fin n; decide +kernel), e3]
  · rw [laneOf_updLane, laneOf_put]
    exact e4
  · rw [laneOf_updLane, laneOf_put]
    exact e5

/-- A command of a lane that is disabled. -/
theorem disabled_shows {o : XlOp} (h : s.get (F.XL_n_CTRL_ENABLE n) = 0) (ho : o ≠ .errClr) (ht : t = xlCmd n [o] g s) :
    t.get (F.XL_n_STATUS_CMD_RESULT n) = 1 ∧ t.bit (R.XL_n_EVENT n) 7 = true ∧
      t.num (R.XL_n_CMD_REFUSED n) = min satMax (s.num (R.XL_n_CMD_REFUSED n) + 1) ∧ t.xlState n = s.xlState n ∧
      RegsBut (xlRegs n) s t ∧ (∀ m, m ≠ n.val → t.laneOf m = s.laneOf m) ∧ t = { s with regs := t.regs, xl := t.xl } := by
  obtain ⟨h1, h2, h3, h4, -, hk⟩ := refused_shows (xlCheck_off h ho) (by decide) t ht
  exact ⟨h1, h2, h3, h4, hk.regs, hk.lanes, hk.others⟩

/-- A command of a lane in the safe state. -/
theorem inSafe_shows {o : XlOp} (h : s.get (F.XL_n_CTRL_ENABLE n) = 1) (hs : s.safe = true) (ho : o ≠ .errClr) (ht : t = xlCmd n [o] g s) :
    t.get (F.XL_n_STATUS_CMD_RESULT n) = 3 ∧ t.bit (R.XL_n_EVENT n) 7 = true ∧ t.xlState n = s.xlState n ∧ RegsBut (xlRegs n) s t ∧
      (∀ m, m ≠ n.val → t.laneOf m = s.laneOf m) ∧ t = { s with regs := t.regs, xl := t.xl } := by
  obtain ⟨h1, h2, -, h4, -, hk⟩ := refused_shows (xlCheck_safe h hs ho) (by decide) t ht
  exact ⟨h1, h2, h4, hk.regs, hk.lanes, hk.others⟩

end

/-- Settles O34: one lemma per accepted command, and one for every refusal. -/
theorem expressLaneCommands : Obligations.ExpressLaneCommands := by
  unfold Obligations.ExpressLaneCommands
  refine ⟨?_, ?_, ?_, ?_, ?_, ?_, ?_, ?_, ?_, ?_, ?_, ?_, ?_, ?_, ?_, ?_, ?_, ?_, ?_, ?_, ?_, ?_, ?_, ?_, ?_, ?_, ?_, ?_, ?_, ?_, ?_⟩
  · intro s n v g h1 h0 hs ht0
    refine completes_intro rfl fun t ht => ?_
    obtain ⟨e1, hk⟩ := ctrl_idles h1 h0 hs ht0 ht
    exact ⟨e1, hk.regs, hk.lanes, hk.others⟩
  · intro s n v g h1 h0 hs ht1
    refine completes_intro rfl fun t ht => ?_
    obtain ⟨e1, e2, hk⟩ := ctrl_trains h1 h0 hs ht1 ht
    exact ⟨e1, e2, hk.regs, hk.lanes, hk.others⟩
  · intro s n v g h1 h0 hs
    refine completes_intro rfl fun t ht => ?_
    obtain ⟨e1, hk⟩ := ctrl_safes h1 h0 hs ht
    exact ⟨e1, hk.regs, hk.lanes, hk.others⟩
  · intro s n v g h0 h1
    refine completes_intro rfl fun t ht => ?_
    obtain ⟨e1, e2, e3, e4, e5, hk⟩ := ctrl_disables h0 h1 ht
    exact ⟨e1, e2, e3, e4, e5, hk.regs, hk.lanes, hk.others⟩
  · intro s n g he hs hb h2
    refine completes_intro rfl fun t ht => ?_
    obtain ⟨e1, e2, e3, e4, e5, e6, e7, e8, e9, hk⟩ := start_runs he hs hb h2 ht
    exact ⟨e1, e2, e3, e4, e5, e6, e7, e8, e9, hk.regs, hk.lanes, hk.others⟩
  · intro s n g he hs hb h2
    refine completes_intro rfl fun t ht => ?_
    obtain ⟨e1, e2, e3, e4, hk⟩ := start_waits he hs hb h2 ht
    exact ⟨e1, e2, e3, e4, hk.regs, hk.lanes, hk.others⟩
  · intro s n g he hs hb
    refine completes_intro rfl fun t ht => ?_
    have hc : s.xlCheck n .start = some 2 := (xlCheck_on he hs (by decide)).trans (if_pos hb)
    obtain ⟨h1, h2, h3, h4, -, hk⟩ := refused_shows hc (by decide) t ht
    exact ⟨h4, h1, h2, h3, hk.regs, hk.lanes, hk.others⟩
  · intro s n g he hs
    refine completes_intro rfl fun t ht => ?_
    obtain ⟨e1, e2, e3, e4, e5, hk⟩ := stop_shows he hs ht
    exact ⟨e1, e2, e3, e4, e5, hk.regs, hk.lanes, hk.others⟩
  · intro s n g
    refine completes_intro rfl fun t ht => ?_
    obtain ⟨e1, e2, e3, e4, hk⟩ := errClr_shows ht
    exact ⟨e1, e2, e3, e4, hk.regs, hk.lanes, hk.others⟩
  · intro s n g he hs
    refine completes_intro rfl fun t ht => ?_
    obtain ⟨e1, e2, e3, hk⟩ := bitslip_shows he hs ht
    exact ⟨e1, e2, e3, hk.regs, hk.lanes, hk.others⟩
  · intro s n g he hs
    refine completes_intro rfl fun t ht => ?_
    obtain ⟨e1, e2, e3, e4, e5, e6, hk⟩ := mark_shows he hs ht
    exact ⟨e1, e2, e3, e4, e5, e6, hk.regs, hk.lanes, hk.others⟩
  · intro s n g he hs h1
    refine completes_intro rfl fun t ht => ?_
    obtain ⟨e1, e2, e3, hk⟩ := retrain_shows he hs h1 ht
    exact ⟨e1, e2, e3, hk.regs, hk.lanes, hk.others⟩
  · intro s n g he hs h0
    refine completes_intro rfl fun t ht => ?_
    have hc : s.xlCheck n .retrain = some 7 := by
      rw [xlCheck_on he hs (by decide)]
      simp [is_eq, h0, xrNoTrain]
    obtain ⟨h1, h2, -, h4, -, hk⟩ := refused_shows hc (by decide) t ht
    exact ⟨h4, h1, h2, hk.regs, hk.lanes, hk.others⟩
  · intro s n g he hs h3 hl hr hb
    refine completes_intro rfl fun t ht => ?_
    obtain ⟨e1, e2, e3, e4, e5, hk⟩ := eyeStart_shows he hs h3 hl hr hb ht
    exact ⟨e1, e2, e3, e4, e5, hk.regs, hk.lanes, hk.others⟩
  · intro s n g he hs h
    refine completes_intro rfl fun t ht => ?_
    have hc : s.xlCheck n .eyeStart = some 4 := (xlCheck_on he hs (by decide)).trans (if_pos (h.imp id fun h0 => by simp [is_eq, h0]))
    obtain ⟨h1, -, -, -, h5, hk⟩ := refused_shows hc (by decide) t ht
    exact ⟨h1, h5, hk.regs, hk.lanes, hk.others⟩
  · intro s n g he hs h3 hl hr
    refine completes_intro rfl fun t ht => ?_
    have hc : s.xlCheck n .eyeStart = some 5 := by
      rw [xlCheck_on he hs (by decide)]
      simp [is_eq, h3, hl, hr, xlRunning, xrEyeRange]
    obtain ⟨h1, -, -, -, h5, hk⟩ := refused_shows hc (by decide) t ht
    exact ⟨h1, h5, hk.regs, hk.lanes, hk.others⟩
  · intro s n g he hs hb
    refine completes_intro rfl fun t ht => ?_
    obtain ⟨e1, e2, e3, e4, hk⟩ := eyeAbort_shows he hs hb ht
    exact ⟨e1, e2, e3, e4, hk.regs, hk.lanes, hk.others⟩
  · exact fun s n g h => completes_intro rfl fun t ht => disabled_shows (o := .start) h (by decide) ht
  · exact fun s n g h hs => completes_intro rfl fun t ht => inSafe_shows (o := .start) h hs (by decide) ht
  · exact fun s n g h => completes_intro rfl fun t ht => disabled_shows (o := .stop) h (by decide) ht
  · exact fun s n g h hs => completes_intro rfl fun t ht => inSafe_shows (o := .stop) h hs (by decide) ht
  · exact fun s n g h => completes_intro rfl fun t ht => disabled_shows (o := .bitslip) h (by decide) ht
  · exact fun s n g h hs => completes_intro rfl fun t ht => inSafe_shows (o := .bitslip) h hs (by decide) ht
  · exact fun s n g h => completes_intro rfl fun t ht => disabled_shows (o := .mark) h (by decide) ht
  · exact fun s n g h hs => completes_intro rfl fun t ht => inSafe_shows (o := .mark) h hs (by decide) ht
  · exact fun s n g h => completes_intro rfl fun t ht => disabled_shows (o := .retrain) h (by decide) ht
  · exact fun s n g h hs => completes_intro rfl fun t ht => inSafe_shows (o := .retrain) h hs (by decide) ht
  · exact fun s n g h => completes_intro rfl fun t ht => disabled_shows (o := .eyeStart) h (by decide) ht
  · exact fun s n g h hs => completes_intro rfl fun t ht => inSafe_shows (o := .eyeStart) h hs (by decide) ht
  · exact fun s n g h => completes_intro rfl fun t ht => disabled_shows (o := .eyeAbort) h (by decide) ht
  · exact fun s n g h hs => completes_intro rfl fun t ht => inSafe_shows (o := .eyeAbort) h hs (by decide) ht

end Sys2Proof.Machine
end

section
-- One proof at a time: the whole text then stays within the memory the check allows.
set_option Elab.async false
/-!
PROOFS. O49: the update requests of mailbox 0.
-/

namespace Sys2Proof.Machine
open State

/-- The byte at the slot of core 1 in the state of an outcome. -/
def Outcome.slotByte : Host.Outcome State Fault Refusal → Byte
  | .next t => t.rdByte (tcmBase 1)
  | _ => 0

/-- The notice of mailbox 0 points into the scheduler's registers of core 0, whose words read as a STAGE request of 64 bytes of shared
SRAM. Reading TAKE of core 0 releases its item, and the item that waits then enters the slot of core 1. -/
def noticeAtTake : State :=
  ((((((((({ sched := { lists := [(0, [⟨List.replicate 32 1⟩])], slots := [(0, { svc := some ⟨[]⟩ })] } } : State).put F.GLB_STATUS_READY 1).put
    (F.MBX_m_CFG_RX 0) 16).put (F.MBX_m_STATUS_FULL 0) 1).putPair (R.MBX_m_NOTICE_LO 0) (regBase + R.SCHED_CORE_n_RESET_PC_LO 0)).putPair
    (R.SCHED_CORE_n_RESET_PC_LO 0) (2 ^ 32 * 64 + 1)).putPair (R.SCHED_CORE_n_MTIMECMP_LO 0) 0xD00000000).put (F.SCHED_CORE_n_CTRL_RUN 1) 1).putN
    (R.SCHED_CORE_n_CFG 1) (2 ^ 31 + 2 ^ 20)).putN R.SCHED_ALLOW 0

/-- The read of the request block that the notice points to. -/
def noticeRead : MemRd × State := memRead .mgmt (noticeAtTake.pair (R.MBX_m_NOTICE_LO 0)) 64 [] [] (mbxTake .mgmt 0 noticeAtTake)

theorem updTake_noticeAtTake : noticeAtTake.updTake = some (noticeRead.1.data, noticeRead.2) := by
  have h : noticeAtTake.ready ∧ noticeAtTake.boot.upd.isNone ∧ noticeAtTake.is (F.MBX_m_STATUS_FULL 0) ∧
      noticeAtTake.get (F.MBX_m_CFG_RX 0) = reqCode .mgmt := by decide +kernel
  rw [State.updTake, if_pos h]
  rfl

theorem updReq_noticeAtTake : updReqOf noticeRead.1.data = { op := 1, flags := 0, len := 64, addr := 0xD00000000 } := by decide +kernel

/-- Refutes O49: the clause of STAGE lets memory stand, and reading the request block is a read of the memory map like any other. Where
the block lies over the TAKE register of a core, the read completes that core's item, and the dispatcher writes a waiting item into the
slot of another core. -/
theorem not_updateRequests : ¬ Obligations.UpdateRequests := by
  rintro ⟨-, -, -, -, -, -, h, -⟩
  obtain ⟨t, ht, -, -, -, -, -, -, hm⟩ := h noticeAtTake _ _ _ updTake_noticeAtTake (by decide +kernel) (by rw [updReq_noticeAtTake] <;> decide)
    (by rw [updReq_noticeAtTake] <;> decide) (by rw [updReq_noticeAtTake] <;> decide) rfl
  have e : Outcome.slotByte (exec (.updateStage [] [] none) noticeAtTake) = t.rdByte (tcmBase 1) := congrArg Outcome.slotByte ht
  rw [rdByte_congr hm] at e
  exact absurd e (by decide +kernel)

end Sys2Proof.Machine
end
